-- ==== Sys2Proof/Word.lean ====
section
/-! DEFINITION. The word types of the Ivkorad: a register is 64 bits, memories and frames are bytes. -/
namespace Sys2Proof

/-- One byte of a frame, a block or a memory. -/
abbrev Byte := BitVec 8

/-- A 64-bit register, frame word or payload word (R8). -/
abbrev W64 := BitVec 64

/-- String time: a 48-bit nanosecond count that wraps (R16). -/
abbrev Time := BitVec 48

/-- A rule-set version number (R58). -/
abbrev Version := BitVec 32

/-- Sparse data: keys strictly rising, no entry equal to what an unlisted key reads as. -/
abbrev SMap (α : Type) := List (Nat × α)

end Sys2Proof
end

