-- ==== Sys2Proof/Types.lean ====
section
/-! DEFINITION. The formats that pass between units and through the commands: crossing blocks, the Wick tag, packets
with the pipeline state that travels with them, drain markers, string control messages, mailbox requests. -/
namespace Sys2Proof

/-- KIND of a crossing block (Table 1-3). -/
inductive XKind where
  | packet | regAccess | memory | control
  deriving DecidableEq, Repr

/-- A crossing block (R20, Table 1-3); `data` holds the 64 DATA bytes. -/
structure Block where
  data : List Byte
  sop : Bool
  eop : Bool
  validBytes : BitVec 6
  kind : XKind
  poison : Bool
  seq : BitVec 7
  crc : BitVec 16
  deriving DecidableEq, Repr

/-- The fields of a Wick tag (R28, Table 1-5) but for the reserved bits and TAG_CRC, which the packing computes. -/
structure Tag where
  originNode : BitVec 20
  slice : BitVec 12
  vslot : BitVec 3
  vcheck : BitVec 5
  entryTime : Time
  ingress : BitVec 8
  queue : BitVec 18
  colour : BitVec 2
  pass : BitVec 2
  windowOffset : BitVec 9
  flags : BitVec 16
  meterClass : BitVec 6
  flowHash : BitVec 32
  length : BitVec 16
  traceId : BitVec 16
  deriving DecidableEq, Repr

/-- A 128-bit action record, two words (R307, Table 9-3). -/
structure Action where
  a : W64
  b : W64
  deriving DecidableEq, Repr

/-- Where a pipeline, a program or a unit has directed a packet (R43, Table 9-4, Table 10-10). -/
inductive Dest where
  /-- Through the traffic manager to a global port. -/
  | port (p : Nat)
  /-- Through the traffic manager to another member. -/
  | node (n : Nat)
  /-- Flooded through a flood list. -/
  | flood (list : Nat)
  /-- The slice's exception queue. -/
  | exception
  /-- Slice 0's exception queue (R303). -/
  | exception0
  /-- An action-core program: ARG of the PROGRAM action, the program in its low 12 bits. -/
  | program (n : Nat)
  /-- Another pass of its pipeline. -/
  | recirc
  /-- The line cipher, for decryption under a security association. -/
  | decrypt (sa : Nat)
  /-- The storage engine: a connection, or none for LOOKUP. -/
  | storage (conn : Option Nat)
  /-- Not yet decided. -/
  | undecided
  deriving DecidableEq, Repr

/-- The pipeline state that travels with a packet on one member (R277), with the SEGMENT of R304. -/
structure PipeState where
  /-- The 48 field containers; an unlisted one is 0. -/
  containers : SMap (BitVec 32)
  /-- Header records: HDR_TYPE and absolute frame offset, oldest first. -/
  stack : List (Byte × Nat)
  scratch : BitVec 4
  resume : Nat
  entryIdx : Option Nat
  frontDelta : Int
  /-- SEGMENT once the packet has been bound on this member. -/
  segment : Option Nat
  /-- 1 once stage 1 of Table 9-1 has run on this member. -/
  bound : Bool
  /-- The plan that a RECIRC action named for the next classification. -/
  plan : Option Nat
  deriving DecidableEq, Repr

/-- A drain marker's body (R431). -/
structure Marker where
  /-- MARK_KIND: true for a slice marker, false for a version marker. -/
  isSlice : Bool
  /-- SLOT for a version marker, SLICE for a slice marker. -/
  id : Nat
  version : Version
  time : Time
  source : Nat
  deriving DecidableEq, Repr

/-- Which host request of a queue pair an event is about (R99): a descriptor fetch, a fragment table entry, data, a FENCE read, a
completion ring address. -/
inductive ReadWhat where
  | fetch | table | data | fence | ring
  deriving DecidableEq, Repr

/-- The work descriptor that a packet of a host send comes from (R85). -/
structure WorkRef where
  qp : Nat
  seq : BitVec 32
  deriving DecidableEq, Repr

/-- A packet inside the device: its tag, its frame bytes, its pipeline state, and what its last unit decided for it. -/
structure Pkt where
  tag : Tag
  bytes : List Byte
  /-- The pipeline chosen by the distributor (R42). -/
  pipe : Nat
  /-- The distributor that counts it in flight (R48). -/
  dist : Nat
  ps : PipeState
  dest : Dest
  /-- POLICER of the action, 0x1_FFFF for none. -/
  policer : Nat
  /-- MIRROR session, 0 for none. -/
  mirror : Nat
  /-- Traffic class. -/
  cls : Nat
  /-- A block of it arrived poisoned while it was cut through (R263). -/
  poisoned : Bool
  /-- It came over a Lantern bundle and has not been parsed on this member (R279). -/
  afresh : Bool
  /-- Its distributor has refused it for want of hold space, and counted that (R51, Table 1-14). -/
  refused : Bool
  /-- It was discarded while it crossed between islands: its blocks arrive, and bring nothing (R71, R187). -/
  gone : Bool
  /-- The TMG queue it left from, for LCP egress and QDE. -/
  fromQueue : Nat
  marker : Option Marker
  work : Option WorkRef
  deriving DecidableEq, Repr

/-- Status codes of Table 4-6. -/
inductive Status where
  | ok | alreadyComplete | busy | noResource | badArgument | notPermitted
  | stalePartition | timeout | keyLost | versionConflict | authFailed | halted
  deriving DecidableEq, Repr

/-- What the host answers when the Lamplighter uses a buffer in host memory (Table 4-4). -/
structure HostIO where
  /-- The buffer address translates. -/
  translates : Bool
  /-- Reads of the buffer end with good data. -/
  readOk : Bool
  /-- Writes to the buffer succeed. -/
  writeOk : Bool
  /-- The words that the host's buffer holds. -/
  data : List W64
  deriving DecidableEq, Repr

/-- A mailbox request as its frame carries it (R149): word 0's fields but OPCODE, the inline words from byte 8 on, and
what the host's memory answers. -/
structure Req where
  seq : BitVec 16
  indirect : Bool
  retry : Bool
  /-- A reserved FLAGS bit of word 0 is set. -/
  flagsRsv : Bool
  payloadLen : BitVec 16
  /-- The 7 words at frame bytes 8 to 63. -/
  inline : List W64
  host : HostIO
  deriving DecidableEq, Repr

/-- One change of a build: what a build command adds to the PREPARE record (R74; the record's own encoding is Thenum's, R428). -/
inductive Change where
  | tableDefine (table keyBytes onchip extLog2 : Nat)
  | keyProfile (n table : Nat) (pieces : List (BitVec 16))
  | plan (n : Nat) (steps : List Nat) (miss : Action)
  | insert (table : Nat) (key : List Byte) (act : Action)
  | delete (table : Nat) (key : List Byte)
  | segment (n : Nat) (valid : Bool) (w1 w2 : W64)
  | route (v6 : Bool) (vrf : Nat) (addr : BitVec 128) (len : Nat) (valid : Bool) (act : Action)
  | image (words : List W64)
  | policy (slice : Nat) (inc mal : BitVec 2)
  | program (n : Nat) (valid : Bool) (w1 w2 : W64)
  deriving DecidableEq, Repr

/-- One bundle of a TOPO (Table 12-7, words 3 to 10). -/
structure TopoLink where
  peer : Nat
  up : Bool
  slow : Bool
  delayNs : Nat
  deriving DecidableEq, Repr

/-- The body of a TOPO (Table 12-7), with its origin. -/
structure Topo where
  node : Nat
  active : Version
  prepared : Version
  preparedValid : Bool
  holdsToken : Bool
  leadSide : Bool
  starting : Bool
  mode : Nat
  refLead : Bool
  tokenSeq : BitVec 32
  refEpoch : BitVec 32
  refMembers : Nat
  links : List TopoLink
  refLeadNode : Nat
  priorLead : Nat
  transitNs : Nat
  draining : BitVec 8
  deriving DecidableEq, Repr

/-- Free counts of a member or of a part of the string (Table 12-6, words 4 to 20): each table's on-chip and GDDR7 places, LPM
places, journal MiB. -/
structure FreeCounts where
  tables : List (Nat × Nat)
  lpm : Nat
  jnlMib : Nat
  deriving DecidableEq, Repr

/-- The bodies of the string's control messages (R428, Table 12-5). -/
inductive CtlBody where
  | heartbeat (tx echoTx echoRx : Time) (hops : Nat) (free : FreeCounts)
  | lane (proposed : Nat) (locked : Bool)
  | spdm (bytes : List Byte)
  | join (stringId : W64) (node mode : Nat) (fwVersion epoch : BitVec 32) (leadSide : Bool) (signature : List Byte)
  | reform (cause : Nat)
  | topo (t : Topo)
  | linkState (bundle : Nat) (slow : Bool) (peer : Nat)
  | params (heartbeatUs maxRttUs : Nat)
  | tokenReq
  | tokenGrant (tokenSeq : BitVec 32)
  | tokenRelease (tokenSeq : BitVec 32)
  | prepareData (v : Version) (segment : Nat) (bytes : List Byte)
  | prepareEnd (v : Version) (segments : Nat) (digest : BitVec 384)
  | prepareAck (v : Version) (st : Nat)
  | prepareWithdraw (v : Version)
  | activate (v : Version) (tAct : Time)
  | activateAck (v : Version) (t : Time)
  | retire (slot : Nat) (force : Bool) (tDrain : Time)
  | drainDone (slot : Nat)
  | slotFree (slot : Nat)
  | pullReq (v : Version) (first : Nat)
  | pullData (v : Version) (segment : Nat) (bytes : List Byte)
  | pullEnd (v : Version) (segments : Nat) (digest : BitVec 384)
  | candle (period : BitVec 32) (markTime : Time)
  | candleDone (period : BitVec 32)
  deriving DecidableEq, Repr

/-- The common part of a received control message: its origin, EPOCH and MSG_SEQ (R428). -/
structure CtlHdr where
  org : Nat
  epoch : BitVec 32
  msgSeq : BitVec 32
  deriving DecidableEq, Repr

/-- What a control message is sent to. -/
inductive CtlTo where
  | broadcast
  | member (n : Nat)
  | link (bundle : Nat)
  | reform
  deriving DecidableEq, Repr

end Sys2Proof
end

