-- ==== Sys2Proof/Parts/Boot.lean ====
section
/-! DEFINITION. Start-up state, and the package pins that it reads and drives (chapters 16 and 17). -/
namespace Sys2Proof

/-- A firmware image as the boot ROM finds it in SPI flash: its signature and its decryption hold, its version is not below the fused
minimum; its version, and that of the storage-engine microcode in it (R532, R533). -/
structure ImageRead where
  signed : Bool
  decrypts : Bool
  newEnough : Bool
  version : BitVec 32
  steVersion : BitVec 32
  deriving DecidableEq, Repr

/-- Start-up: the stage of Table 16-1 and what it has found. -/
structure Boot where
  /-- BOOT_STAGE. -/
  stage : Nat
  /-- HIF_STATUS.READY (R102). -/
  ready : Bool
  /-- The internal power-on reset is held (R530). -/
  porHeld : Bool
  /-- The start-up follows a reset by command: RRS is over (R162). -/
  warm : Bool
  /-- Device reset has been left (R530): string time at which start-up began. -/
  started : Option Time
  /-- OBS_BOOT.CAUSE and IMAGE, the CAUSE that image A met, and MS_TO_READY (Table 16-7). -/
  cause : Nat
  imageB : Bool
  causeA : Nat
  msToReady : Nat
  /-- Version of the firmware image loaded. -/
  version : BitVec 32
  /-- GDDR7 training has failed: the stage is never left (R485). -/
  trainFailed : Bool
  /-- Stage 6 has entered the string (R439). -/
  entered : Bool
  /-- Stopped by PWR_FAIL_N (R502, R561), or held in reset after THERM_TRIP_N (R565). -/
  powerFail : Bool
  tripped : Bool
  /-- THERM_ALERT_N is low (R565). -/
  alert : Bool
  /-- SPI_BUSY (R557). -/
  spiBusy : Bool
  /-- VDD_CORE target in mV (R559), and the I2C_ADDR strap (R556). -/
  coreMv : Nat
  i2cAddr : Nat
  /-- When the VDD_CORE target was last adjusted (R559). -/
  avsAt : Option Time
  deriving DecidableEq, Repr

/-- The power-on reset held, stage 0, the VDD_CORE target at its start value (R530, R559). -/
def Boot.reset : Boot :=
  { stage := 0, ready := false, porHeld := true, warm := false, started := none, cause := 0, imageB := false, causeA := 0, msToReady := 0,
    version := 0, trainFailed := false, entered := false, powerFail := false, tripped := false, alert := false, spiBusy := false, coreMv := 700, i2cAddr := 0,
    avsAt := none }

end Sys2Proof
end

