-- ==== Sys2Proof/Parts/Host.lean ====
section
/-! DEFINITION. State of the host ports (chapter 3): links, abort records, posted-write buffers, held accesses, MSI-X. -/
namespace Sys2Proof

/-- A register access as it arrives: the master (R132), the half of the port, the BAR0 offset, the length in bytes and the
value of a write. -/
structure RegWrite where
  master : Nat
  half : Bool
  off : Nat
  len : Nat
  value : W64
  deriving DecidableEq, Repr

/-- A host read as it arrives (R104, R108, R110, R539): the master, the half of the port, the BAR (0 BAR0, 1 BAR2, 2 BAR4), the offset and the
length in bytes. -/
structure HostRead where
  master : Nat
  half : Bool
  bar : Nat
  off : Nat
  len : Nat
  deriving DecidableEq, Repr

/-- A register access: several masters' may reach an island in one clock (R125). -/
inductive RegAccess where
  | write (w : RegWrite)
  | read (r : HostRead)
  deriving DecidableEq, Repr

/-- A posted write that found its buffer in use and is held in the port (R119): a register write, a write to a channel
region (master, half, channel, offset, bytes), or a doorbell write to a channel (POST, TAKEN). -/
inductive HeldWrite where
  | reg (w : RegWrite)
  | region (m : Nat) (half : Bool) (ch off : Nat) (bs : List Byte)
  | doorbell (m : Nat) (half : Bool) (ch : Nat) (post taken : Bool)
  deriving DecidableEq, Repr

/-- One host link: a whole port, or one half of a bifurcated one (R93, Table 3-7). -/
structure HostLink where
  up : Bool
  speed : BitVec 3
  flit : Bool
  width : BitVec 5
  /-- Its function is in D3hot (R98). -/
  d3hot : Bool
  /-- Device Control 2 [3:0] (Table 3-2). -/
  timeoutCode : BitVec 4
  /-- MSI-X Enable and Function Mask of its function (R198). -/
  msixEnable : Bool
  msixFuncMask : Bool
  /-- Mask bits of the 64 table entries. -/
  msixMask : W64
  /-- The pending bit array. -/
  msixPending : W64
  /-- ADDRESS and DATA of a written table entry, keyed by entry. -/
  msixAddr : SMap W64
  msixData : SMap (BitVec 32)
  /-- Address bits written to the six BAR registers of the function (R103), by register. -/
  bars : SMap (BitVec 32)
  deriving DecidableEq, Repr

/-- A link after reset: down (Table 3-7), in D0, the default completion timeout, MSI-X disabled with every entry masked. -/
def HostLink.reset : HostLink :=
  { up := false, speed := 0, flit := false, width := 0, d3hot := false, timeoutCode := 0, msixEnable := false,
    msixFuncMask := false, msixMask := BitVec.allOnes 64, msixPending := 0, msixAddr := [], msixData := [], bars := [] }

/-- A host port and its HIF island. -/
structure HostPort where
  /-- PERST# of the port is asserted. -/
  perst : Bool
  /-- Sampled bifurcation strap (R92). -/
  bifurcated : Bool
  /-- The port answers configuration requests with RRS (R100). -/
  rrs : Bool
  linkA : HostLink
  linkB : HostLink
  /-- HIF_ABORT_ADDR and HIF_ABORT_TIME: the last abort record (R129). -/
  abortAddr : W64
  abortTime : Time
  /-- Bit k: the posted-write buffer for island k holds a write (R118). -/
  xbusy : BitVec 18
  /-- The write held in the port, with its target island (R119). -/
  held : Option (Nat × HeldWrite)
  /-- Credits of the doorbell crossing to QDE (R567). -/
  dbCredits : Nat
  /-- A doorbell write held without credit: half, BAR2 offset, length, words (R567). -/
  dbHeld : Option (Bool × Nat × Nat × List W64)
  /-- Reads that wait in the port behind a held write, or for the doorbell crossing, oldest first (R120, R567). -/
  reads : List HostRead
  /-- BAR and offset of the last read that the port sent to each island (R124). -/
  lastRead : SMap (Nat × Nat)
  deriving DecidableEq, Repr

/-- A port after power-on: PERST# asserted, RRS pending, no link (R100, Table 3-7). -/
def HostPort.reset : HostPort :=
  { perst := true, bifurcated := false, rrs := true, linkA := HostLink.reset, linkB := HostLink.reset, abortAddr := 0,
    abortTime := 0, xbusy := 0, held := none, dbCredits := 64, dbHeld := none, reads := [], lastRead := [] }

/-- A pending or applied register word of an island block: the RW and RWB bits that writes set (R6, R116). -/
structure RegWord where
  /-- Applied value of the writable bits. -/
  value : W64
  /-- Pending value and the bits that are pending. -/
  pend : W64
  pendMask : W64
  deriving DecidableEq, Repr

/-- The register side of the islands. -/
structure RegFile where
  /-- Writable words that differ from their reset value, at key 2048 * island + offset. -/
  words : SMap RegWord
  /-- APPLY_COUNT of each island (Table 3-7). -/
  applyCount : SMap (BitVec 16)
  /-- The 128-bit shadow of a master in an island, at key 32 * master + island: offset of the low word, latched high word (R126). -/
  shadows : SMap (Option (Nat × W64))
  deriving DecidableEq, Repr

/-- Every register at its reset value, no shadow. -/
def RegFile.reset : RegFile := { words := [], applyCount := [], shadows := [] }

end Sys2Proof
end

