-- ==== Sys2Proof/Parts/Memory.lean ====
section
/-! DEFINITION. State of the GDDR7 controller (chapter 14). -/
namespace Sys2Proof

/-- A GDDR7 request: requester (a slice, or 4,096 for MGT), direction, 64-byte line address, bank and row. -/
structure MemReq where
  requester : Nat
  write : Bool
  addr : Nat
  bank : Nat
  row : Nat
  /-- ENTRY_TIME of the packet that it serves, if any (Table 15-3). -/
  entry : Option Time
  deriving DecidableEq, Repr

/-- An activation count of a bank (R493). -/
structure RhCount where
  bank : Nat
  requester : Nat
  acts : Nat
  throttled : Bool
  lastAct : Time
  deriving DecidableEq, Repr

/-- A GDDR7 channel (R484, R488 to R495). -/
structure MemChan where
  /-- Waiting reads and the write queue, oldest first. -/
  reads : List MemReq
  wq : List MemReq
  /-- Bursts issued and not yet ended, with their retries. -/
  issued : List (MemReq × Nat)
  draining : Bool
  paused : Bool
  hot : Bool
  retrainFailed : Bool
  /-- When its last retraining began (R494); a hot channel may activate on this clock (R495). -/
  triedAt : Option Time
  rested : Bool
  /-- Open row of each bank, plus 1; 0 for none. -/
  openRow : SMap Nat
  /-- Service given to each requester in the epoch, and its weight as read at the epoch's start (R176, R488). -/
  served : SMap Nat
  weights : SMap Nat
  counts : List RhCount
  retries : BitVec 32
  poisonings : BitVec 32
  deriving DecidableEq, Repr

def MemChan.reset : MemChan :=
  { reads := [], wq := [], issued := [], draining := false, paused := false, hot := false, retrainFailed := false, triedAt := none, rested := true,
    openRow := [], served := [], weights := [], counts := [], retries := 0, poisonings := 0 }

/-- The memory controller. -/
structure Mem where
  trained : Bool
  /-- Code of MEM_STATUS.SPEED. -/
  speed : Nat
  /-- 24 Gb devices. -/
  small : Bool
  chans : SMap MemChan
  /-- Poisoned 64-byte lines (R491). -/
  poisoned : List Nat
  /-- Retraining interval in ms (Table 1-13), and the one from the next interval on. -/
  retrainMs : Nat
  nextRetrainMs : Nat
  /-- When the retraining interval and the row-disturbance window began (R493, R494). -/
  intervalAt : Time
  windowAt : Time
  /-- The time of the last fault 0x0F04 of each requester (R493). -/
  throttleLogged : SMap (Option Time)
  deriving DecidableEq, Repr

def Mem.reset : Mem :=
  { trained := false, speed := 0, small := false, chans := [], poisoned := [], retrainMs := 250, nextRetrainMs := 250,
    intervalAt := 0, windowAt := 0, throttleLogged := [] }

end Sys2Proof
end

