-- ==== Sys2Proof/Parts/Trust.lean ====
section
/-! DEFINITION. State of the root of trust (chapter 15): key slots, alarms, measurements, SPDM sessions. -/
namespace Sys2Proof

/-- A key slot (R512): purpose 0 when it is empty; public key x then y; for ADMISSION the private scalar. -/
structure KeySlot where
  purpose : BitVec 2
  pub : List Byte
  priv : List Byte
  deriving DecidableEq, Repr

def KeySlot.empty : KeySlot := { purpose := 0, pub := [], priv := [] }

/-- What an SPDM message asks (R510; its encoding is DMTF's). Over Lantern `peerDone` is the peer's last answer to TRU's own requests. -/
inductive SpdmKind where
  | version | capabilities | algorithms | digests | certificate (slot : Nat) | challenge
  | measurements (index : Nat) (signed : Bool)
  | keyExchange | finish (transcript : BitVec 384) | endSession | other
  | peerDone (transcript : BitVec 384)
  deriving DecidableEq, Repr

/-- TRU. -/
structure Tru where
  owned : Bool
  locked : Bool
  slots : SMap KeySlot
  enrolCounter : BitVec 32
  /-- Bit s − 1: alarm source s is present (Table 15-6). -/
  active : BitVec 6
  /-- String time of the last erasure of the data keys (R516). -/
  erased : Option Time
  /-- Measurement blocks 1 to 6 at indices 0 to 5 (Table 15-1). -/
  meas : List (BitVec 384)
  /-- Paths that hold a session, and paths on which a KEY_EXCHANGE awaits its FINISH (R510). -/
  sessions : List Nat
  handshakes : List Nat
  deriving DecidableEq, Repr

/-- TRU of a new unit: not owned, locked in production (R545), no key, no alarm. -/
def Tru.reset : Tru :=
  { owned := false, locked := true, slots := [], enrolCounter := 0, active := 0, erased := none,
    meas := List.replicate 6 0, sessions := [], handshakes := [] }

end Sys2Proof
end

