-- ==== Sys2Proof/Syntax.lean ====
section
/-! DEFINITION. The commands that the block takes, one constructor per row of the opcode table, with what arrives from
outside as operands. -/
namespace Sys2Proof

/-- What other masters send in one clock: their writes and their reads (R125). -/
def sameClock (ws : List RegWrite) (rs : List HostRead) : List RegAccess := ws.map .write ++ rs.map .read

/-- A register write, with the writes and reads of other masters in its clock (R125). -/
structure ClockWrite where
  first : RegWrite
  writes : List RegWrite
  reads : List HostRead
  deriving DecidableEq, Repr

/-- A pipeline classifies, and may find an on-chip entry (table and place) with an uncorrectable error (R301, R320). -/
structure ClassEvent where
  pipe : Nat
  bad : Option (Nat × Nat)
  deriving DecidableEq, Repr

/-- An access to a 64-byte line of GDDR7: a write or a read, and the ENTRY_TIME of the packet that it is for (R488). -/
structure LineAccess where
  write : Bool
  line : Nat
  entry : Option Time
  deriving DecidableEq, Repr

/-- A configuration request (R97, R100): a read, or a write of one of the registers that the device's behaviour reads. -/
inductive CfgReq where
  /-- A 4-byte read of the header. -/
  | read (off : Nat)
  /-- A 4-byte read of a capability's word `dw`, found by its ID; where it lies in configuration space the spec does not say. -/
  | readCap (extended : Bool) (id dw : Nat)
  /-- DOE Discovery of the mailbox's protocol `index` (R97). -/
  | doeDiscovery (index : Nat)
  | writeBar (n : Nat) (v : BitVec 32)
  | writeDevCtl2 (code : BitVec 4)
  | writeMsixControl (enable funcMask : Bool)
  | writeOther (off : Nat)
  deriving DecidableEq, Repr

/-- What a translation completion grants of a page (R239): base 2 logarithm of its size, and whether it may be read and written. -/
structure AtsPage where
  log2 : Nat
  read : Bool
  write : Bool
  deriving DecidableEq, Repr

/-- How a host read ended: bytes, Unsupported Request, Completer Abort, poisoned data (R236). -/
inductive ReadResult where
  | data (bytes : List Byte)
  | unsupported
  | completerAbort
  | poisoned
  deriving DecidableEq, Repr

/-- What a frame for a connection carries, as TCP and NVMe/TCP decode it (R471): an acknowledgement, the end of the handshake, data
of a READ, an R2T, a completion (status field and queue entry), RST, FIN, or a bad PDU, a digest error or data out of order. -/
inductive StSegment where
  | ack
  | ready
  | readData (cid : Nat) (bytes : List Byte)
  | r2t (cid n : Nat)
  | completion (cid status : Nat) (cqe : List Byte)
  | rst
  | fin
  | bad
  deriving DecidableEq, Repr

/-- The commands of the block, one constructor per row of the opcode table. -/
inductive Instr where
  /-- CROSSING_BLOCK_RECEIVE (R23): A receiving island takes a crossing block, checks its CRC and SEQ, and acknowledges it or refuses it. -/
  | crossingBlockReceive (src : Nat) (dst : Nat) (b : Block)
  /-- BLOCK_ACKNOWLEDGEMENT (R24): The source receives an acknowledgement and releases the acknowledged block. -/
  | blockAcknowledgement (src : Nat) (dst : Nat) (seq : BitVec 7)
  /-- BLOCK_REFUSAL (R24): The source receives a refusal and re-sends the refused block and every later unacknowledged block. -/
  | blockRefusal (src : Nat) (dst : Nat) (seq : BitVec 7)
  /-- CROSSING_ACK_TIMEOUT (R24): No acknowledgement has come within 64 source clocks, so the source re-sends the block and every later one. -/
  | crossingAckTimeout (src : Nat) (dst : Nat) (seq : BitVec 7)
  /-- CREDIT_RETURN (R17): The receiver takes a block out of its FIFO and returns a credit to the source. -/
  | creditReturn (src : Nat) (dst : Nat)
  /-- DISTRIBUTOR_SEND (R40): A distributor receives a tagged packet and sends it to the pipeline that the bucket map names for its bucket. -/
  | distributorSend (d : Nat)
  /-- BUCKET_IN_FLIGHT_END (R48): A packet of a bucket is accepted by TMG or STE or dropped, so the distributor's in-flight count falls and a pending move may complete. -/
  | bucketInFlightEnd (d : Nat) (b : Nat)
  /-- PIPELINE_MARKED_SLOW (R47): A pipeline's input FIFO stays at or above FILL_HIGH for SLOW_WINDOW, so it is marked slow and its buckets get targets. -/
  | pipelineMarkedSlow (k : Nat)
  /-- SLOW_MARK_CLEARED (R53): A slow pipeline's FIFO stays at or below FILL_LOW for ten windows, so the mark clears and home buckets are set to return. -/
  | slowMarkCleared (k : Nat)
  /-- DIST_CFG_WRITE (R55): A write to a distributor register is checked against its ranges and applied or refused and counted in DIST_CFG_REJECT. -/
  | distCfgWrite (w : RegWrite)
  /-- VERSION_QUERY (R89): The command returns the active and build versions, slot states, partition, lead node and T_ACT. -/
  | versionQuery (ch : Nat) (r : Req)
  /-- VERSION_BUILD_BEGIN (R71): The command begins a build of the next version in a FREE slot, forcing retirement of a DRAINING slot when FORCE is set. -/
  | versionBuildBegin (ch : Nat) (r : Req)
  /-- VERSION_COMMIT (R74): The command checks the build and waits for the commit token to commit it across the string. -/
  | versionCommit (ch : Nat) (r : Req)
  /-- VERSION_BUILD_ABORT (R315): The command frees the build's entries and sets its slot to FREE. -/
  | versionBuildAbort (ch : Nat) (r : Req)
  /-- QUEUE_RECOVERY_READ (R90): The command reports a stopped queue pair's indices and writes one entry for each fetched descriptor without a delivered completion. -/
  | queueRecoveryRead (ch : Nat) (r : Req)
  /-- TOKEN_REQ_RECEIVE (R441): The lead node receives TOKEN_REQ and grants the token in order of arrival when it is idle. -/
  | tokenReqReceive
  /-- TOKEN_GRANT_RECEIVE (R73): A committing member receives the token and sends PREPARE to every member. -/
  | tokenGrantReceive
  /-- TOKEN_RELEASE_RECEIVE (R441): The lead node receives TOKEN_RELEASE and grants the next request or holds the token idle. -/
  | tokenReleaseReceive
  /-- PREPARE_DATA_RECEIVE (R74): A member receives one segment of a PREPARE record. -/
  | prepareDataReceive
  /-- PREPARE_END_RECEIVE (R571): A member with the whole PREPARE record journals it, places its changes and acknowledges, or holds it until the slot is FREE. -/
  | prepareEndReceive
  /-- PREPARE_ACK_RECEIVE (R74): The committing member receives a PREPARE acknowledgement. -/
  | prepareAckReceive
  /-- PREPARE_WITHDRAW_RECEIVE (R322): A member journals the withdrawal, frees the version's entries and sets the slot FREE. -/
  | prepareWithdrawReceive
  /-- ACTIVATE_RECEIVE (R66): A member journals ACTIVATE, and activates at once if T_ACT has passed. -/
  | activateReceive
  /-- ACTIVATION (R66): At T_ACT every tagging point of the member tags new packets with the new version, and the previous version becomes DRAINING. -/
  | activation
  /-- ACTIVATE_ACK_RECEIVE (R69): The committing member receives an activation acknowledgement. -/
  | activateAckReceive
  /-- RETIRE_RECEIVE (R69): A member records RETIRE for a slot, and discards the slot's packets at once when FORCE is set. -/
  | retireReceive
  /-- VERSION_DRAIN_START (R69): At T_DRAIN every tagging point sends a version drain marker for the slot to all 8 pipelines. -/
  | versionDrainStart (slot : Nat)
  /-- DRAIN_MARKER_PASS (R69): A unit holding markers from every feeder, with a slot count of 0, passes the version marker on or reports to MGT. -/
  | drainMarkerPass (unit : Nat) (slot : Nat)
  /-- DRAIN_DONE_RECEIVE (R69): The lead node receives DRAIN_DONE, and broadcasts SLOT_FREE once every member has sent it. -/
  | drainDoneReceive
  /-- SLOT_FREE_RECEIVE (R69): A member sets the slot FREE and journals the change, which releases any PREPARE held for that slot. -/
  | slotFreeReceive
  /-- PULL_REQ_RECEIVE (R84): A neighbour sends the requested PREPARE record in PULL_DATA frames. -/
  | pullReqReceive
  /-- PULL_DATA_RECEIVE (R84): A rejoining member receives a pulled PREPARE record, journals it and places it PREPARED or DRAINING. -/
  | pullDataReceive
  /-- PERST_ASSERT (R96): PERST# of the manager port resets the device, and PERST# of another port resets only that port's link and force-quiesces its slices. -/
  | perstAssert (port : Nat)
  /-- PERST_DEASSERT (R92): The port samples its bifurcation strap and answers configuration requests with RRS until start-up allows. -/
  | perstDeassert (port : Nat) (strap : Bool)
  /-- LINK_DOWN (R189): A host link leaves L0, so the slices that it serves enter FORCING. -/
  | linkDown (port : Nat) (half : Bool)
  /-- LINK_UP (R189): A host link returns to L0, and slice 0 is reset to ACTIVE when it is the manager link. -/
  | linkUp (port : Nat) (half : Bool) (speed : BitVec 3) (flit : Bool) (width : BitVec 5)
  /-- D3HOT_ENTRY (R98): A function enters D3hot, its BARs stop decoding and its slices are force-quiesced. -/
  | d3hotEntry (port : Nat) (half : Bool)
  /-- D0_RETURN (R98): A function returns to D0 without restoring its slices. -/
  | d0Return (port : Nat) (half : Bool)
  /-- CONFIGURATION_REQUEST (R100): A configuration request is answered with RRS during start-up, and normally afterwards. -/
  | configurationRequest (port : Nat) (half : Bool) (q : CfgReq)
  /-- BAR4_WRITE (R106): A write to BAR4 is discarded, counted, logged as cause 4 and reported with AER. -/
  | bar4Write (port : Nat) (off : Nat)
  /-- REGISTER_WRITE (R6): A base-view write to a register that has no row of its own enters the posted-write buffer or is held, and its fields take effect by access code. -/
  | registerWrite (w : ClockWrite)
  /-- SET_ALIAS_WRITE (R113): The target island ORs the written ones into the RW and RWB fields in one read-modify-write. -/
  | setAliasWrite (w : RegWrite)
  /-- CLEAR_ALIAS_WRITE (R113): The target island clears the written bits of the RW and RWB fields in one read-modify-write. -/
  | clearAliasWrite (w : RegWrite)
  /-- TOGGLE_ALIAS_WRITE (R113): The target island inverts the written bits of the RW and RWB fields in one read-modify-write. -/
  | toggleAliasWrite (w : RegWrite)
  /-- WRITE_ACKNOWLEDGE (R118): The acknowledgement of a performed write frees the posted-write buffer, and a held write enters it. -/
  | writeAcknowledge (port : Nat) (island : Nat)
  /-- LOW_WORD_READ (R126): An 8-byte read of a 128-bit low word latches the high word into the reading master's shadow. -/
  | lowWordRead (r : HostRead) (writes : List RegWrite) (reads : List HostRead)
  /-- REGISTER_STALL_TIMEOUT (R123): A host register access stalled for 2 µs ends with a completer abort or the discard of the held write. -/
  | registerStallTimeout (port : Nat) (island : Nat) (off : Nat) (write : Bool)
  /-- DOORBELL_HOLD_TIMEOUT (R567): A doorbell write held 2 µs without credit is discarded, counted and reported. -/
  | doorbellHoldTimeout (port : Nat)
  /-- MBX_REQUEST_WRITE (R143): A write to a request slot is stored, or is rejected while FULL with REJECT_COUNT, a log entry and AER. -/
  | mbxRequestWrite (m : Nat) (half : Bool) (ch : Nat) (off : Nat) (bs : List Byte)
  /-- POST (R137): A POST while FULL is 0 captures the request slot and sets FULL. -/
  | postRequest (m : Nat) (half : Bool) (ch : Nat) (withTaken : Bool)
  /-- TAKEN (R140): TAKEN consumes the response and sets EMPTY. -/
  | taken (m : Nat) (half : Bool) (ch : Nat)
  /-- REQUEST_TAKE (R138): The Lamplighter takes a channel's posted request when FULL, EMPTY and not EXECUTING, and executes it. -/
  | requestTake (ch : Nat) (host : HostIO)
  /-- MAILBOX_RESPONSE_TIMEOUT (R155): The hardware writes a TIMEOUT response, clears EXECUTING and logs fault 0x1002, and the command runs on. -/
  | mailboxResponseTimeout (ch : Nat)
  /-- MGT_BIND_WRITE (R148): A binding write is applied with a channel reset, or is refused and counted. -/
  | mgtBindWrite (w : RegWrite)
  /-- BIND_LOCK (R148): Writing 1 to LOCK locks the binding table until device reset. -/
  | bindLock (w : RegWrite)
  /-- FIRMWARE_WATCHDOG (R159): A watchdog period passes without restart, so MGT resets the cores, frees their semaphores and reloads the firmware. -/
  | firmwareWatchdog (pc : W64)
  /-- FIRMWARE_RESTART_COMPLETE (R160): The restarted firmware ends open history entries OK or HALTED, and FW_UP reads 1. -/
  | firmwareRestartComplete (version : BitVec 32)
  /-- SEMAPHORE_READ (R165): A read of a free semaphore makes the reader its owner, and a read of a held one returns the owner with HELD set. -/
  | semaphoreRead (ms : List (Nat × Bool)) (k : Nat)
  /-- SEMAPHORE_RELEASE (R168): The owner's base-view write of 0 frees the semaphore, and any other write is discarded and counted. -/
  | semaphoreRelease (m : Nat) (k : Nat) (value : W64) (viaAlias : Bool)
  /-- DEVICE_INFO (R161): The command returns the device ID, stepping, firmware version, serial, node ID and caller. -/
  | deviceInfo (ch : Nat) (r : Req)
  /-- READY_STATUS (R161): The command returns READY and BOOT_STAGE. -/
  | readyStatus (ch : Nat) (r : Req)
  /-- CHANNEL_CONFIG (R161): The command sets a channel's response timer. -/
  | channelConfig (ch : Nat) (r : Req)
  /-- CMD_RESULT (R161): The command returns the history entry of a sequence number. -/
  | cmdResult (ch : Nat) (r : Req)
  /-- WATCHDOG_CONFIG (R161): The command sets the firmware watchdog period from the next restart. -/
  | watchdogConfig (ch : Nat) (r : Req)
  /-- FAULT_LOG_READ (R164): The command copies fault records from the given index to a host buffer. -/
  | faultLogRead (ch : Nat) (r : Req)
  /-- SEM_FORCE_RELEASE (R169): The command frees a semaphore and returns its former owner. -/
  | semForceRelease (ch : Nat) (r : Req)
  /-- DEVICE_RESET (R162): The command quiesces every slice and writes OK once every quiesce has ended. -/
  | deviceReset (ch : Nat) (r : Req)
  /-- DEVICE_RESET_EXECUTE (R162): After TAKEN or 1 ms, every island except TRU and the host link layers is reset and start-up resumes at firmware load. -/
  | deviceResetExecute
  /-- SLICE_CREATE (R199): The command binds a FREE slice to a port, half and PASID with a profile and makes it ACTIVE. -/
  | sliceCreate (ch : Nat) (r : Req)
  /-- SLICE_RESIZE (R177): The command checks and journals a new profile and moves quotas as one unit. -/
  | sliceResize (ch : Nat) (r : Req)
  /-- SLICE_QUERY (R199): The command returns a slice's state, binding, profile and last quiesce data. -/
  | sliceQuery (ch : Nat) (r : Req)
  /-- SLICE_QUIESCE (R186): The command begins the quiesce of a slice, stopping fetching and sending slice drain markers. -/
  | sliceQuiesce (ch : Nat) (r : Req)
  /-- SLICE_RESET (R201): The command quiesces a slice and then resets it. -/
  | sliceReset (ch : Nat) (r : Req)
  /-- SLICE_DESTROY (R192): The command quiesces and resets a slice, returns its quotas and sets it FREE. -/
  | sliceDestroy (ch : Nat) (r : Req)
  /-- SLICE_DRAIN_MARKER_PASS (R186): A unit holding slice markers from every feeder, with a slice count of 0, passes the marker on or reports to QDE. -/
  | sliceDrainMarkerPass (unit : Nat) (sl : Nat)
  /-- QUIESCE_DRAINED (R186): Once steps 2 and 3 are done, QDE withdraws vectors, flushes prefetch caches and removes the slice node. -/
  | quiesceDrained (sl : Nat)
  /-- QUIESCE_TIMEOUT (R187): The quiesce timer runs out before step 6, so the slice enters FORCING and logs fault 0x0201. -/
  | quiesceTimeout (sl : Nat)
  /-- VECTOR_SET (R195): The command sets a vector's ADDRESS and DATA. -/
  | vectorSet (ch : Nat) (r : Req)
  /-- VECTOR_COALESCE (R195): The command sets a vector's COUNT_MAX and DELAY_US. -/
  | vectorCoalesce (ch : Nat) (r : Req)
  /-- EVENT_MAP (R197): The command names the vector of each slice event. -/
  | eventMap (ch : Nat) (r : Req)
  /-- VECTOR_MASK (R196): A control-word write of 1 masks a vector. -/
  | vectorMask (port : Nat) (half : Bool) (sl : Nat) (v : Nat) (len : Nat)
  /-- VECTOR_UNMASK (R196): A control-word write of 0 unmasks a vector, which sends any message that is due. -/
  | vectorUnmask (port : Nat) (half : Bool) (sl : Nat) (v : Nat) (len : Nat)
  /-- VECTOR_DELAY_EXPIRY (R193): DELAY_US passes since a vector's first pending event, so the message is sent. -/
  | vectorDelayExpiry (sl : Nat) (v : Nat)
  /-- MSIX_UNMASK (R198): A held MSI-X message is sent once its half's function or entry is unmasked. -/
  | msixUnmask (port : Nat) (half : Bool) (entry : Option Nat)
  /-- PRODUCER_DOORBELL (R213): A producer doorbell word is checked and sets PRODUCER and marks fetching, or is rejected. -/
  | producerDoorbell (port : Nat) (half : Bool) (sl : Nat) (off : Nat) (len : Nat) (ws : List W64)
  /-- COMPLETION_CONSUMER_DOORBELL (R214): A completion consumer doorbell sets CQ_CONSUMER, or is rejected, and held records may move to the ring. -/
  | completionConsumerDoorbell (port : Nat) (half : Bool) (sl : Nat) (off : Nat) (len : Nat) (ws : List W64)
  /-- INVALIDATE_DOORBELL (R215): An invalidate doorbell discards cached copies of unstarted outstanding entries, or is rejected. -/
  | invalidateDoorbell (port : Nat) (half : Bool) (sl : Nat) (off : Nat) (len : Nat) (ws : List W64)
  /-- DESCRIPTOR_FETCH (R237): A channel fetcher issues fetch reads for queue pairs under its hysteresis and PREFETCH limits. -/
  | descriptorFetch (chan : Nat)
  /-- DESCRIPTOR_FETCH_COMPLETE (R223): Fetched descriptors are held whole and checked, and a malformed one ends MALFORMED and halts the slice. -/
  | descriptorFetchComplete (qp : Nat) (ds : List (List W64))
  /-- DESCRIPTOR_FETCH_TIMEOUT (R233): The descriptor fetch timer runs out, so the queue pair enters FETCH_ERROR. -/
  | descriptorFetchTimeout (qp : Nat)
  /-- DESCRIPTOR_START (R217): A channel starts a descriptor by issuing its first data or fragment-table read. -/
  | descriptorStart (chan : Nat)
  /-- DMA_READ_COMPLETE (R236): A host read completes, and its data moves on or the descriptor ends BAD on an error. -/
  | dmaReadComplete (qp : Nat) (index : Nat) (what : ReadWhat) (res : ReadResult)
  /-- PCIE_COMPLETION_TIMEOUT (R99): A non-posted request gets no completion in time, so a fetch read is reissued or a data read ends BAD. -/
  | pcieCompletionTimeout (qp : Nat) (index : Nat) (what : ReadWhat)
  /-- FENCE_READ_COMPLETE (R228): The zero-length FENCE read completes and the record may be written. -/
  | fenceReadComplete (qp : Nat) (index : Nat) (res : ReadResult)
  /-- TRANSLATION_COMPLETE (R239): An ATS translation returns and fills the cache, or is refused. -/
  | translationComplete (qp : Nat) (index : Nat) (what : ReadWhat) (page : Option AtsPage)
  /-- ATS_INVALIDATION (R240): An ATS invalidation request removes matching cache entries. -/
  | atsInvalidation (port : Nat) (pasid : Option (BitVec 20)) (page : Nat) (log2 : Nat) (tag : Nat)
  /-- ATS_INVALIDATION_COMPLETE (R240): Once requests using the removed translations have completed, the invalidation completion is sent. -/
  | atsInvalidationComplete (port : Nat) (tag : Nat)
  /-- RX_FRAME_ARRIVAL (R234): A frame for a receive queue pair is assigned a buffer, staged or dropped. -/
  | rxFrameArrival
  /-- COMPLETION_RECORD_WRITE (R228): The record next in ring order is written once ring space permits, advancing CONSUMER. -/
  | completionRecordWrite (qp : Nat)
  /-- QUEUE_CREATE (R244): The command creates a queue pair with the lowest free number. -/
  | queueCreate (ch : Nat) (r : Req)
  /-- QUEUE_DESTROY (R243): The command destroys an idle queue pair. -/
  | queueDestroy (ch : Nat) (r : Req)
  /-- QUEUE_QUERY (R243): The command returns a queue pair's state, indices and settings. -/
  | queueQuery (ch : Nat) (r : Req)
  /-- QUEUE_MODIFY (R243): The command changes a queue pair's vector, event mode, prefetch depth and fetch timer. -/
  | queueModify (ch : Nat) (r : Req)
  /-- QUEUE_RESTART (R573): The command retries a held record write and resumes fetching after FETCH_ERROR. -/
  | queueRestart (ch : Nat) (r : Req)
  /-- QUEUE_ABORT (R232): The command delivers an abort to the completion writer, and the first of abort or outcome fixes the record. -/
  | queueAbort (ch : Nat) (r : Req)
  /-- DMA_CFG_WRITE (R242): A write of fetch thresholds to the selected channel is recorded pending, or refused when out of range. -/
  | dmaCfgWrite (w : RegWrite)
  /-- PORT_OCTET_MODE (R256): The command takes an octet's ports to NONE, discards their frames and creates the new ports in ADMIN_DOWN. -/
  | portOctetMode (ch : Nat) (r : Req)
  /-- PORT_CONFIG (R269): The command sets a port's medium, FEC, flow control, PTP mode and limits. -/
  | portConfig (ch : Nat) (r : Req)
  /-- PORT_QUERY (R268): The command returns a port's state and last configuration. -/
  | portQuery (ch : Nat) (r : Req)
  /-- PORT_TX_TIMESTAMPS (R270): The command moves timestamp FIFO entries to a host buffer. -/
  | portTxTimestamps (ch : Nat) (r : Req)
  /-- PORT_LANE_POLARITY (R268): The command sets the lane polarity inversions for the next bring-up. -/
  | portLanePolarity (ch : Nat) (r : Req)
  /-- AUTONEGOTIATION_END (R252): Autonegotiation resolves the port's technology or restarts. -/
  | autonegotiationEnd (port : Nat) (ok : Bool)
  /-- TRAINING_END (R251): Link training completes on every lane or fails. -/
  | trainingEnd (port : Nat) (ok : Bool)
  /-- LOCK_ACHIEVED (R251): PCS alignment, deskew and FEC lock hold, so the port is UP. -/
  | lockAchieved (port : Nat)
  /-- LOCK_TIMEOUT (R251): Lock is not reached within the IEEE limits, so the port returns to the state it came from. -/
  | lockTimeout (port : Nat)
  /-- LINK_LOST (R254): An UP port loses lock or sees link failure, leaves UP, logs fault 0x0601 and has its learned entries removed. -/
  | linkLost (port : Nat) (lane : Nat)
  /-- ETH_FRAME_RECEIVED (R258): A frame's last byte arrives and the frame is checked, dropped or kept in the receive buffer. -/
  | ethFrameReceived (port : Nat) (bs : List Byte) (sfd : Time) (code : Bool) (preamble : Bool) (fcs : Bool) (fec : List (Nat × Bool))
  /-- ETH_FRAME_TO_DISTRIBUTOR (R259): The frame at the head of the receive buffer is accepted by the distributor and tagged. -/
  | ethFrameToDistributor (port : Nat)
  /-- PAUSE_FRAME_RECEIVED (R260): An enabled PAUSE or PFC frame pauses priorities from the next frame boundary. -/
  | pauseFrameReceived (port : Nat) (pfc : Bool) (mask : Byte) (quanta : List Nat)
  /-- PAUSE_EXPIRY (R260): A received pause's quanta run out and transmission resumes. -/
  | pauseExpiry (port : Nat) (prio : Nat)
  /-- PAUSE_REFRESH (R261): Before half the quanta pass while the condition lasts, the MAC repeats the pause. -/
  | pauseRefresh (port : Nat)
  /-- FRAME_TRANSMIT (R262): The MAC removes the tag, pads, appends the FCS and transmits or discards the frame. -/
  | frameTransmit (port : Nat) (begun : Bool)
  /-- PARSER_PASS (R273): A parser lane starts a pass over a 64-byte window and executes instructions until it ends. -/
  | parserPass (pipe : Nat) (errs : List (Nat × Bool))
  /-- CS_WORD_REWRITE (R285): A control-store word with an uncorrectable error is rewritten from the journalled image in every store. -/
  | csWordRewrite (pipe : Nat) (word : Nat) (ok : Bool)
  /-- SCRUB_ROUND (R285): A background scrub reads every control-store word and writes back corrected words. -/
  | scrubRound (pipe : Nat) (errs : List (Nat × Bool))
  /-- PARSER_IMAGE_LOAD (R291): The command checks and verifies a parse-graph image and maps the build to it. -/
  | parserImageLoad (ch : Nat) (r : Req)
  /-- PARSER_IMAGE_PATCH (R295): The command replaces whole segments of the build's image and maps the build to the result. -/
  | parserImagePatch (ch : Nat) (r : Req)
  /-- PARSER_POLICY (R297): The command sets a slice's INCOMPLETE and MALFORMED policies in the build. -/
  | parserPolicy (ch : Nat) (r : Req)
  /-- PARSER_QUERY (R297): The command returns the image mapped by a slot and its digest. -/
  | parserQuery (ch : Nat) (r : Req)
  /-- PARSER_POLICY_QUERY (R297): The command returns a slice's parser policies in a slot. -/
  | parserPolicyQuery (ch : Nat) (r : Req)
  /-- CLASSIFICATION (R301): A pass that ends DONE or flagged is classified through binding, learning, plan, resolution, policy and hand-off. -/
  | classification (at' : ClassEvent)
  /-- EXT_TABLE_READ_RESPONSE (R317): A GDDR7 table line returns to a waiting lookup, or arrives poisoned and the packet is dropped. -/
  | extTableReadResponse (pipe : Nat) (poisoned : Bool)
  /-- LINE_REBUILD (R492): A poisoned table or SA line is rewritten from the journal at MGT's weight. -/
  | lineRebuild (granule : Nat) (line : Nat)
  /-- LEARN_EVENT (R326): A learn event from the learn queue refreshes, inserts, moves or freezes a learned entry. -/
  | learnEvent (pipe : Nat)
  /-- FLAP_HOLD_END (R326): At hold_end FLAPPING clears and the move history starts afresh. -/
  | flapHoldEnd (pipe : Nat) (segment : Nat) (mac : BitVec 48)
  /-- AGEING_SCAN (R327): Each second every pipeline removes entries older than their AGE_S. -/
  | ageingScan
  /-- ENTRY_SWEEP (R316): A background sweep frees entries whose ranges hold no live or building version. -/
  | entrySweep (ext : Bool)
  /-- TABLE_DEFINE (R312): The command sets a table's key length and sizes in the build. -/
  | tableDefine (ch : Nat) (r : Req)
  /-- KEY_PROFILE (R313): The command defines a key profile's pieces. -/
  | keyProfile (ch : Nat) (r : Req)
  /-- PLAN_SET (R306): The command defines a plan's steps and MISS action. -/
  | planSet (ch : Nat) (r : Req)
  /-- TABLE_INSERT (R315): The command inserts entries valid from the build version. -/
  | tableInsert (ch : Nat) (r : Req)
  /-- TABLE_DELETE (R315): The command closes or frees an entry in the build. -/
  | tableDelete (ch : Nat) (r : Req)
  /-- TABLE_LOOKUP (R334): The command looks up a key in a slot's version. -/
  | tableLookup (ch : Nat) (r : Req)
  /-- SEGMENT_SET (R305): The command defines or deletes a segment in the build. -/
  | segmentSet (ch : Nat) (r : Req)
  /-- PORT_BIND (R303): The command defines or deletes a port binding in the build. -/
  | portBind (ch : Nat) (r : Req)
  /-- L2_STATIC (R323): The command defines or deletes a static L2 entry in the build. -/
  | l2Static (ch : Nat) (r : Req)
  /-- ROUTE_SET (R331): The command adds or deletes an LPM route in the build. -/
  | routeSet (ch : Nat) (r : Req)
  /-- L2_READ (R328): The command writes the merged view of learned entries to a host buffer. -/
  | l2Read (ch : Nat) (r : Req)
  /-- L2_FLUSH (R327): The command removes learned entries on demand. -/
  | l2Flush (ch : Nat) (r : Req)
  /-- PROGRAM_DISPATCH (R350): A PROGRAM packet is placed in the input queue of the thread that the dispatch map names, or dropped. -/
  | programDispatch (island : Nat)
  /-- ALU (R349): DST receives the FUNC operation of SRC1 and SRC2. -/
  | alu (t : Nat) (dst : BitVec 5) (s1 : BitVec 5) (s2 : BitVec 5) (func : BitVec 11)
  /-- ADDI (R349): DST receives SRC1 plus sign-extended IMM16. -/
  | addi (t : Nat) (dst : BitVec 5) (s1 : BitVec 5) (imm : BitVec 16)
  /-- ANDI (R349): DST receives SRC1 AND zero-extended IMM16. -/
  | andi (t : Nat) (dst : BitVec 5) (s1 : BitVec 5) (imm : BitVec 16)
  /-- ORI (R349): DST receives SRC1 OR zero-extended IMM16. -/
  | ori (t : Nat) (dst : BitVec 5) (s1 : BitVec 5) (imm : BitVec 16)
  /-- XORI (R349): DST receives SRC1 XOR zero-extended IMM16. -/
  | xori (t : Nat) (dst : BitVec 5) (s1 : BitVec 5) (imm : BitVec 16)
  /-- SHI (R349): DST receives SRC1 shifted or rotated by an immediate amount. -/
  | shi (t : Nat) (dst : BitVec 5) (s1 : BitVec 5) (imm : BitVec 16)
  /-- MOVZ (R349): DST receives IMM16 shifted into a 16-bit lane with other bits zero. -/
  | movz (t : Nat) (dst : BitVec 5) (s1 : BitVec 5) (imm : BitVec 16)
  /-- MOVK (R349): One 16-bit lane of DST receives IMM16 and other bits are kept. -/
  | movk (t : Nat) (dst : BitVec 5) (s1 : BitVec 5) (imm : BitVec 16)
  /-- SLTI (R349): DST receives 1 when SRC1 is below the immediate, signed. -/
  | slti (t : Nat) (dst : BitVec 5) (s1 : BitVec 5) (imm : BitVec 16)
  /-- SLTIU (R349): DST receives 1 when SRC1 is below the immediate, unsigned. -/
  | sltiu (t : Nat) (dst : BitVec 5) (s1 : BitVec 5) (imm : BitVec 16)
  /-- EXT (R349): DST receives a bit field extracted from SRC1. -/
  | extField (t : Nat) (dst : BitVec 5) (s1 : BitVec 5) (imm : BitVec 16)
  /-- INS (R349): A bit field of DST receives the low bits of SRC1. -/
  | insField (t : Nat) (dst : BitVec 5) (s1 : BitVec 5) (imm : BitVec 16)
  /-- BEQ (R349): The PC jumps by OFF16 when SRC1 equals SRC2. -/
  | beq (t : Nat) (s1 : BitVec 5) (s2 : BitVec 5) (off : BitVec 16)
  /-- BNE (R349): The PC jumps by OFF16 when SRC1 differs from SRC2. -/
  | bne (t : Nat) (s1 : BitVec 5) (s2 : BitVec 5) (off : BitVec 16)
  /-- BLT (R349): The PC jumps by OFF16 when SRC1 is below SRC2, signed. -/
  | blt (t : Nat) (s1 : BitVec 5) (s2 : BitVec 5) (off : BitVec 16)
  /-- BGE (R349): The PC jumps by OFF16 when SRC1 is at least SRC2, signed. -/
  | bge (t : Nat) (s1 : BitVec 5) (s2 : BitVec 5) (off : BitVec 16)
  /-- BLTU (R349): The PC jumps by OFF16 when SRC1 is below SRC2, unsigned. -/
  | bltu (t : Nat) (s1 : BitVec 5) (s2 : BitVec 5) (off : BitVec 16)
  /-- BGEU (R349): The PC jumps by OFF16 when SRC1 is at least SRC2, unsigned. -/
  | bgeu (t : Nat) (s1 : BitVec 5) (s2 : BitVec 5) (off : BitVec 16)
  /-- JAL (R349): DST receives PC plus 1 and the PC jumps by OFF21. -/
  | jal (t : Nat) (dst : BitVec 5) (off : BitVec 21)
  /-- JALR (R349): DST receives PC plus 1 and the PC becomes SRC1 plus IMM16. -/
  | jalr (t : Nat) (dst : BitVec 5) (s1 : BitVec 5) (imm : BitVec 16)
  /-- WFE (R364): The thread completes at once when a masked event is present, or enters WAITING. -/
  | wfe (t : Nat) (dst : BitVec 5) (s1 : BitVec 5) (imm : BitVec 16)
  /-- EVENT_WAKE (R364): A masked event becomes present, so a WAITING thread wakes with the event word. -/
  | eventWake (t : Nat)
  /-- EVTR (R363): DST receives the event word and the named latched bits are cleared. -/
  | evtr (t : Nat) (dst : BitVec 5) (s1 : BitVec 5) (imm : BitVec 16)
  /-- TIME (R349): DST receives the string time. -/
  | timeRead (t : Nat) (dst : BitVec 5) (s1 : BitVec 5) (imm : BitVec 16)
  /-- TRAP (R367): The instruction raises fault SOFTWARE with IMM16 as its detail. -/
  | trapInstr (t : Nat) (dst : BitVec 5) (s1 : BitVec 5) (imm : BitVec 16)
  /-- LDL (R349): DST receives an aligned load from scratch memory. -/
  | ldl (t : Nat) (dst : BitVec 5) (s1 : BitVec 5) (imm : BitVec 16)
  /-- STL (R349): DST is stored to scratch memory. -/
  | stl (t : Nat) (dst : BitVec 5) (s1 : BitVec 5) (imm : BitVec 16)
  /-- PLD (R352): DST receives packet bytes, stalling for offsets above 255. -/
  | pld (t : Nat) (dst : BitVec 5) (s1 : BitVec 5) (imm : BitVec 16)
  /-- PST (R352): DST is stored into packet bytes. -/
  | pst (t : Nat) (dst : BitVec 5) (s1 : BitVec 5) (imm : BitVec 16)
  /-- CTR (R349): DST receives a field container or a header record. -/
  | ctr (t : Nat) (dst : BitVec 5) (s1 : BitVec 5) (imm : BitVec 16)
  /-- TAGR (R353): DST receives a selected tag or pipeline field. -/
  | tagr (t : Nat) (dst : BitVec 5) (s1 : BitVec 5) (imm : BitVec 16)
  /-- TAGW (R353): SRC1 is written to a permitted tag field, or the instruction raises TAG_WRITE. -/
  | tagw (t : Nat) (dst : BitVec 5) (s1 : BitVec 5) (imm : BitVec 16)
  /-- PHEAD (R352): Front bytes are added or removed, updating LENGTH and FRONT_DELTA. -/
  | phead (t : Nat) (dst : BitVec 5) (s1 : BitVec 5) (imm : BitVec 16)
  /-- PLEN (R352): LENGTH is set from SRC1 plus IMM16. -/
  | plen (t : Nat) (dst : BitVec 5) (s1 : BitVec 5) (imm : BitVec 16)
  /-- PKTGET (R351): The thread takes the head of its input queue as its held packet. -/
  | pktget (t : Nat) (dst : BitVec 5) (s1 : BitVec 5) (imm : BitVec 16)
  /-- PKTOUT (R357): The held packet, or a mirror copy of it, is disposed of by KIND. -/
  | pktout (t : Nat) (dst : BitVec 5) (s1 : BitVec 5) (imm : BitVec 16)
  /-- PKTNEW (R359): A packet is created from scratch bytes, tagged and sent for pass 0, or refused. -/
  | pktnew (t : Nat) (dst : BitVec 5) (s1 : BitVec 5) (s2 : BitVec 5) (func : BitVec 11)
  /-- TLK (R354): A table of the binding's mask is looked up with a key from registers. -/
  | tlk (t : Nat) (dst : BitVec 5) (s1 : BitVec 5) (imm : BitVec 16)
  /-- SLD (R355): DST receives a load from the group's state memory. -/
  | sld (t : Nat) (dst : BitVec 5) (s1 : BitVec 5) (imm : BitVec 16)
  /-- SST (R355): DST is stored to the group's state memory. -/
  | sst (t : Nat) (dst : BitVec 5) (s1 : BitVec 5) (imm : BitVec 16)
  /-- SATOM (R355): An indivisible ADD, SWAP, CAS, MAXU or OR is made on 8 bytes of state memory. -/
  | satom (t : Nat) (dst : BitVec 5) (s1 : BitVec 5) (s2 : BitVec 5) (func : BitVec 11)
  /-- FENCE (R349): The thread waits until its state accesses, atomics and packet stores have completed. -/
  | fence (t : Nat) (dst : BitVec 5) (s1 : BitVec 5) (imm : BitVec 16)
  /-- STATE_ACCESS_RESPONSE (R356): A state memory response returns to a STALLED thread, or arrives poisoned and raises STATE_POISON. -/
  | stateAccessResponse (t : Nat) (poisoned : Bool)
  /-- CHSEND (R360): A word is staged, and on LAST the message is committed to the target or refused. -/
  | chsend (t : Nat) (dst : BitVec 5) (s1 : BitVec 5) (imm : BitVec 16)
  /-- CHRECV (R362): DST receives a word or information of the head message, which may be popped. -/
  | chrecv (t : Nat) (dst : BitVec 5) (s1 : BitVec 5) (imm : BitVec 16)
  /-- GROUP_TICK (R363): Every TICK_US of string time TICK is latched in the group's threads. -/
  | groupTick (group : Nat)
  /-- QUIESCENT_DEADLOCK (R365): After 1,024 cycles of quiescent deadlock, DEADLOCK wakes one thread and fault 0x0B03 is logged. -/
  | quiescentDeadlock (core : Nat)
  /-- PACKET_BUDGET_EXPIRY (R367): The packet budget counter reaches MAX_CYCLES and raises fault BUDGET. -/
  | packetBudgetExpiry (t : Nat)
  /-- ACT_IMAGE_LOAD (R370): The command checks and loads a Chetas image. -/
  | actImageLoad (ch : Nat) (r : Req)
  /-- ACT_IMAGE_UNLOAD (R372): The command unloads an image that no group runs. -/
  | actImageUnload (ch : Nat) (r : Req)
  /-- ACT_GROUP_SET (R371): The command creates, changes or removes a group and places its threads. -/
  | actGroupSet (ch : Nat) (r : Req)
  /-- ACT_GROUP_QUERY (R374): The command returns a group's settings and placement. -/
  | actGroupQuery (ch : Nat) (r : Req)
  /-- ACT_PROGRAM_BIND (R372): The command binds a program number to an owner, image and table mask in the build. -/
  | actProgramBind (ch : Nat) (r : Req)
  /-- ACT_SIGNAL (R363): The command latches EXT bits in the group's threads. -/
  | actSignal (ch : Nat) (r : Req)
  /-- ACT_BIND_QUERY (R374): The command returns a program's binding in a slot. -/
  | actBindQuery (ch : Nat) (r : Req)
  /-- TMG_ENQUEUE (R379): TMG receives a packet and resolves, replicates, polices and admits its copies into queues. -/
  | tmgEnqueue (lost : Bool)
  /-- DEQUEUE (R395): At a port's dequeue opportunity the scheduler chooses a queue through its hierarchy and sends its head. -/
  | dequeue (port : Nat) (ue : Option Nat)
  /-- SCHEDULER_PERIOD (R393): Every 1.28 µs shaper buckets are refilled and node and command changes take effect. -/
  | schedulerPeriod
  /-- QUEUE_DEPTH_SAMPLE (R401): The sampler records one queue's depth, head delay and bins in the trace each nanosecond. -/
  | queueDepthSample
  /-- TMG_PORT_SET (R403): The command sets a port node's rate, burst, overhead and PFC map. -/
  | tmgPortSet (ch : Nat) (r : Req)
  /-- TMG_GROUP_SET (R403): The command sets or removes a slice group node. -/
  | tmgGroupSet (ch : Nat) (r : Req)
  /-- TMG_SLICE_NODE_SET (R403): The command sets or removes a slice node. -/
  | tmgSliceNodeSet (ch : Nat) (r : Req)
  /-- TMG_SLICE_LIMIT (R390): The command sets a slice's MAX_CELLS. -/
  | tmgSliceLimit (ch : Nat) (r : Req)
  /-- TMG_QUEUE_SET (R403): The command configures, allocates or removes a class queue. -/
  | tmgQueueSet (ch : Nat) (r : Req)
  /-- TMG_QUEUE_STATS (R403): The command returns a queue's depth, head delay and histogram. -/
  | tmgQueueStats (ch : Nat) (r : Req)
  /-- TMG_POLICER_SET (R387): The command configures a meter. -/
  | tmgPolicerSet (ch : Nat) (r : Req)
  /-- TMG_POLICER_STATS (R403): The command returns a meter's colour counts and state. -/
  | tmgPolicerStats (ch : Nat) (r : Req)
  /-- TMG_FLOOD_LIST_SET (R381): The command sets a flood list's destinations. -/
  | tmgFloodListSet (ch : Nat) (r : Req)
  /-- TMG_MIRROR_SET (R382): The command sets a mirror session. -/
  | tmgMirrorSet (ch : Nat) (r : Req)
  /-- LINK_BLOCK_RECEIVE (R412): A link block is accepted in SEQ order or answered with NAK, and its acknowledgements and credits are applied. -/
  | linkBlockReceive (bundle : Nat) (bs : List Byte)
  /-- LANTERN_REPLAY_TIMEOUT (R412): No acknowledgement within the replay time, so unacknowledged blocks are replayed, and the 17th replay takes the bundle out of UP. -/
  | lanternReplayTimeout (bundle : Nat)
  /-- LANTERN_FRAME_RECEIVE (R415): A Lantern frame is checked, delivered locally and relayed as its KIND gives. -/
  | lanternFrameReceive (bundle : Nat)
  /-- LANTERN_FRAME_TRANSMIT (R417): A frame leaving on a bundle gets its Lantern header and is age-tested and sent. -/
  | lanternFrameTransmit (bundle : Nat)
  /-- BUNDLE_MARKED_SLOW (R424): The peer withholds all VC 1 credit for SLOW_HOLD_US, so the bundle is marked slow and LINK_STATE is broadcast. -/
  | bundleMarkedSlow (bundle : Nat)
  /-- SLOW_MARK_CLEAR (R424): Credit flows for ten hold periods, so the slow mark clears and LINK_STATE is broadcast. -/
  | slowMarkClear (bundle : Nat)
  /-- LINK_STATE_RECEIVE (R424): A member records a link's slow state and reroutes affected destinations. -/
  | linkStateReceive
  /-- REROUTE_DISCARD (R425): After a slow mark has stood for 1 ms, waiting frames for a destination are discarded and it moves. -/
  | rerouteDiscard (node : Nat)
  /-- SHED_EVALUATION (R426): Each SHED_WINDOW_US an end evaluates its use and proposes a width in a LANE frame. -/
  | shedEvaluation (bundle : Nat) (u : Nat) (u10 : Nat)
  /-- LANE_RECEIVE (R426): A LANE proposal from the peer is compared and a width change agreed. -/
  | laneReceive
  /-- WIDTH_CHANGE (R427): A bundle narrows at the agreed block, or widens once both ends report lock. -/
  | widthChange (bundle : Nat)
  /-- LANE_LOCK_LOSS (R427): A lane loses lock, so the bundle drops to the widest aligned locked group or leaves UP. -/
  | laneLockLoss (bundle : Nat) (lane : Nat)
  /-- CONTROL_RESEND_TIMEOUT (R429): A control message without its reply after one round trip is resent, and 8 resends start a re-formation. -/
  | controlResendTimeout
  /-- BUNDLE_LOCK (R433): A bundle's lanes lock and deskew, and authentication begins. -/
  | bundleLock (bundle : Nat) (lanes : BitVec 16) (peer : Nat)
  /-- JOIN_RECEIVE (R433): A JOIN is checked, and the bundle is refused or a re-formation starts. -/
  | joinReceive
  /-- JOIN_RETRY (R433): A REFUSED bundle tries again from step 1 after 1 s. -/
  | joinRetry (bundle : Nat)
  /-- HEARTBEAT_SEND (R434): Each interval an UP bundle sends a HEARTBEAT with one-step TX_TIME and free counts. -/
  | heartbeatSend (bundle : Nat)
  /-- HEARTBEAT_RECEIVE (R443): A heartbeat updates free counts and, on the parent bundle, the clock servo. -/
  | heartbeatReceive
  /-- HEARTBEAT_TIMEOUT (R434): No heartbeat for 3 intervals, so the bundle leaves UP and a re-formation starts. -/
  | heartbeatTimeout (bundle : Nat)
  /-- REFORM_RECEIVE (R436): A REFORM of a higher epoch puts the member in FORMING, which sends its TOPO and relays. -/
  | reformReceive
  /-- TOPO_RECEIVE (R436): A TOPO is recorded and relayed once per origin and epoch. -/
  | topoReceive
  /-- REFORMATION_END (R436): Two µs after its TOPO set closes, the member computes membership, routes, reference and partition. -/
  | reformationEnd
  /-- STARTUP_WAIT_EXPIRY (R439): STARTUP_WAIT_MS passes, so a STARTING member proceeds to re-formation. -/
  | startupWaitExpiry
  /-- PARAMS_RECEIVE (R446): A member journals the new heartbeat and round-trip values for the re-formation. -/
  | paramsReceive
  /-- STRING_CONFIG (R446): The command sets node identity, mode and string parameters. -/
  | stringConfig (ch : Nat) (r : Req)
  /-- STRING_QUERY (R446): The command returns the member's string state. -/
  | stringQuery (ch : Nat) (r : Req)
  /-- STRING_MEMBERS (R446): The command writes member entries to a host buffer. -/
  | stringMembers (ch : Nat) (r : Req)
  /-- BUNDLE_ADMIN (R446): The command sets a bundle administratively up or down. -/
  | bundleAdmin (ch : Nat) (r : Req)
  /-- BUNDLE_QUERY (R446): The command returns a bundle's state and timing. -/
  | bundleQuery (ch : Nat) (r : Req)
  /-- STRING_TIME_STEER (R444): The command sets the lead node's frequency offset. -/
  | stringTimeSteer (ch : Nat) (r : Req)
  /-- STRING_TIME_SET (R444): The command sets string time while every bundle is DOWN. -/
  | stringTimeSet (ch : Nat) (r : Req)
  /-- LCP_DECRYPT (R455): LCP checks and decrypts a DECRYPT packet and returns it to its pipeline. -/
  | lcpDecrypt
  /-- LCP_ENCRYPT (R459): LCP encrypts a packet from a bound queue with the next sequence number, or drops it. -/
  | lcpEncrypt
  /-- GCM_WORK_REQUEST (R469): GCM work for the storage cipher is done, or refused by state or size. -/
  | gcmWorkRequest (requester : Nat) (len : Nat) (aad : Nat) (iv : Nat)
  /-- STORAGE_SEGMENT_RECEIVE (R471): A frame for a session reaches STE through a STORAGE action and is processed, or dropped when it matches no connection. -/
  | storageSegmentReceive (seg : StSegment)
  /-- NVME_COMPLETION (R476): An NVMe completion ends its storage command with the outcome of Table 13-7. -/
  | nvmeCompletion (conn : Nat) (cid : Nat) (status : Nat) (cqe : List Byte)
  /-- STORAGE_TRANSPORT_FAILURE (R473): A connection fails, logs fault 0x0E02 and ends its outstanding commands. -/
  | storageTransportFailure (conn : Nat) (cause : Nat)
  /-- TCP_RETRANSMIT_TIMEOUT (R472): A segment's retransmission timer runs out, so it is retransmitted, or the connection fails after TCP_RETRIES. -/
  | tcpRetransmitTimeout (conn : Nat)
  /-- KEEP_ALIVE (R471): Every KATO/2 the engine sends a Keep Alive. -/
  | keepAlive (conn : Nat)
  /-- CONNECTION_CLOSE_TIMEOUT (R472): After 100 ms a CLOSING connection becomes CLOSED. -/
  | connectionCloseTimeout (conn : Nat)
  /-- LCP_SA_SET (R451): The command configures a security association. -/
  | lcpSaSet (ch : Nat) (r : Req)
  /-- LCP_SA_DELETE (R462): The command deletes an unbound SA. -/
  | lcpSaDelete (ch : Nat) (r : Req)
  /-- LCP_SA_QUERY (R481): The command returns an SA's state and sequence number. -/
  | lcpSaQuery (ch : Nat) (r : Req)
  /-- LCP_QUEUE_BIND (R459): The command binds or unbinds a queue to an outbound SA. -/
  | lcpQueueBind (ch : Nat) (r : Req)
  /-- STE_KEY_SET (R470): The command loads or empties a storage key slot. -/
  | steKeySet (ch : Nat) (r : Req)
  /-- STE_SESSION_OPEN (R471): The command opens an NVMe/TCP session and its connections. -/
  | steSessionOpen (ch : Nat) (r : Req)
  /-- STE_SESSION_CLOSE (R472): The command closes a session's connections. -/
  | steSessionClose (ch : Nat) (r : Req)
  /-- STE_CONN_QUERY (R481): The command returns a connection's state. -/
  | steConnQuery (ch : Nat) (r : Req)
  /-- CRYPTO_SLICE_REARM (R467): The command gives a KEY_LOST slice a new KEK and clears its SAs and key slots. -/
  | cryptoSliceRearm (ch : Nat) (r : Req)
  /-- STE_PATCH_STAGE (R479): The command verifies and journals a storage-engine patch for the next start. -/
  | stePatchStage (ch : Nat) (r : Req)
  /-- MEM_REQUEST (R488): A GDDR7 request of a requester is scheduled on its channel by weight, row disturbance and write queue. -/
  | memRequest (requester : Nat) (q : LineAccess)
  /-- MEM_BURST_COMPLETE (R491): A burst's CRC is checked and the burst retried, or after 3 retries its line is poisoned. -/
  | memBurstComplete (chan : Nat) (ok : Bool)
  /-- ARBITRATION_EPOCH (R488): Every 4,096 MEM clocks the arbiters read the weights anew. -/
  | arbitrationEpoch
  /-- RH_WINDOW_END (R493): A row-disturbance window ends, so counts reset and throttles lift. -/
  | rhWindowEnd
  /-- RETRAINING_START (R494): A channel's retraining interval runs out and it pauses to retrain. -/
  | retrainingStart (chan : Nat)
  /-- RETRAINING_COMPLETE (R494): Retraining ends with new settings, or fails and logs fault 0x0F03. -/
  | retrainingComplete (chan : Nat) (ok : Bool)
  /-- DEVICE_OVER_TEMPERATURE (R495): A GDDR7 device reports over-temperature, so its channels' activation rate is halved until it clears. -/
  | deviceOverTemperature (dev : Nat)
  /-- JOURNAL_RECORD_WRITE (R500): A record is taken into the log region or refused for space. -/
  | journalRecordWrite (typ : Nat) (subject : Nat) (ws : List W64)
  /-- JOURNAL_LINE_WRITE_COMPLETE (R496): A line write and its read-back end, retiring a bad line, and the record becomes durable at its last line. -/
  | journalLineWriteComplete (ok : Bool) (overLimit : Bool)
  /-- MEM_QUERY (R505): The command returns the memory status and retraining interval. -/
  | memQuery (ch : Nat) (r : Req)
  /-- MEM_RETRAIN_CONFIG (R505): The command sets the retraining interval. -/
  | memRetrainConfig (ch : Nat) (r : Req)
  /-- MEM_CHANNEL_QUERY (R505): The command returns a channel's state and error counts. -/
  | memChannelQuery (ch : Nat) (r : Req)
  /-- JNL_QUERY (R505): The command returns the journal's status, health, rate and SEQ. -/
  | jnlQuery (ch : Nat) (r : Req)
  /-- JNL_COMPACT (R499): The command writes live state into CHECKPOINT records and frees the older lines. -/
  | jnlCompact (ch : Nat) (r : Req)
  /-- POWER_FAIL (R502): PWR_FAIL_N takes effect, so the device stops the data path, finishes journal writes and writes POWER_FAIL. -/
  | powerFail (torn : Bool)
  /-- POWER_FAIL_RECOVERY (R562): PWR_FAIL_N high for 10 ms with rails up, so the part restarts at stage 0. -/
  | powerFailRecovery
  /-- SPDM_REQUEST (R510): TRU answers an SPDM 1.3 request on one of its paths. -/
  | spdmRequest (path : Nat) (kind : SpdmKind) (valid : Bool) (bs : List Byte)
  /-- ALARM_RAISED (R515): TRU raises an alarm, logs fault 0x1201 and counts it. -/
  | alarmRaised (source : Nat)
  /-- ALARM_CLEARED (R516): An alarm's cause goes away and key loading is allowed once no erasing alarm remains. -/
  | alarmCleared (source : Nat)
  /-- CANDLE_MARK (R520): At MARK_TIME the member opens the next period, and the lead announces the following mark. -/
  | candleMark
  /-- PERIOD_CLOSE (R522): One round trip after a mark the period is frozen, journalled and reported with CANDLE_DONE. -/
  | periodClose
  /-- CANDLE_RECEIVE (R520): A member journals the announced next mark. -/
  | candleReceive
  /-- CANDLE_DONE_RECEIVE (R522): The lead node records a member's done period and advances STRING_DONE. -/
  | candleDoneReceive
  /-- METER_CONFIG (R520): The command sets the candle mark period. -/
  | meterConfig (ch : Nat) (r : Req)
  /-- METER_QUERY (R527): The command returns the metering registers. -/
  | meterQuery (ch : Nat) (r : Req)
  /-- METER_READ (R525): The command writes a durable period's meter entries to a host buffer. -/
  | meterRead (ch : Nat) (r : Req)
  /-- METER_RELEASE (R525): The command releases periods up to a given one. -/
  | meterRelease (ch : Nat) (r : Req)
  /-- METER_LIVE (R527): The command returns a slice's counts in the open period. -/
  | meterLive (ch : Nat) (r : Req)
  /-- TRU_QUERY (R527): The command returns TRU status, alarms and slot purposes. -/
  | truQuery (ch : Nat) (r : Req)
  /-- KEY_ENROL (R513): The command enrols a key into a slot, signed by OWNER after the first enrolment. -/
  | keyEnrol (ch : Nat) (r : Req)
  /-- KEY_REVOKE (R514): The command empties a key slot under an OWNER signature. -/
  | keyRevoke (ch : Nat) (r : Req)
  /-- CERT_READ (R527): The command writes the certificate chain to a host buffer. -/
  | certRead (ch : Nat) (r : Req)
  /-- TRU_ZEROISE (R515): The command raises alarm source 6. -/
  | truZeroise (ch : Nat) (r : Req)
  /-- POWER_ON_RESET_RELEASE (R530): The internal power-on reset is released and start-up may begin. -/
  | powerOnResetRelease (mgr : Nat) (i2c : Nat) (mv : Nat)
  /-- ROM (R532): The boot ROM starts, reads the straps and initialises the SPI interface. -/
  | romStage
  /-- FW_LOAD (R533): A firmware image is read, verified and decrypted, or start-up ends FAILED. -/
  | fwLoad (a : ImageRead) (b : ImageRead)
  /-- MEASURE (R509): Measurements are taken and the Alias key and certificate derived. -/
  | measureStage (rom : BitVec 384) (fw : BitVec 384) (ste : BitVec 384)
  /-- SELF_TEST (R534): Known-answer tests run and RRS ends on every port. -/
  | selfTest (tru : Bool) (jnl : Bool) (lcp : Option Byte) (ste : Option Byte)
  /-- TRAINING (R485): GDDR7 channels train to the highest common speed. -/
  | trainingStage (f36 : BitVec 48) (f32 : BitVec 48) (f28 : BitVec 48) (f24 : BitVec 48) (small : Bool)
  /-- REPLAY (R503): The journal is replayed and GDDR7 state rebuilt. -/
  | replayStage (bad : Option Nat)
  /-- REJOIN (R439): The member waits as STARTING, re-forms and adopts versions. -/
  | rejoinStage
  /-- READY (R102): HIF_STATUS.READY reads 1 on every port and readiness is reported. -/
  | readyStage
  /-- TRACE_RECORD_WRITE (R540): OBS writes an arriving trace record into the ring, overwriting or discarding when full. -/
  | traceRecordWrite
  /-- TRACE_STREAM (R543): The Lamplighter streams trace records to the host ring or a port and updates the index. -/
  | traceStream (n : Nat) (bad : Option Nat)
  /-- OBS_STREAM_CONSUMED_WRITE (R543): The host reports bytes taken from the stream ring, freeing room for streaming. -/
  | obsStreamConsumedWrite (w : RegWrite)
  /-- OBS_TAP_TRANSACTION (R544): A tap transaction reads BAR4 or trace bytes when enabled. -/
  | obsTapTransaction (op : Byte) (addr : BitVec 32) (n : Nat)
  /-- IDCODE (R545): The boundary-scan IDCODE register is selected. -/
  | idcode
  /-- SAMPLE (R545): The boundary register captures the pins. -/
  | sampleTap (pins : List Bool)
  /-- BYPASS (R545): The one-bit bypass register is selected. -/
  | bypassTap (code : BitVec 6)
  /-- OBS_TRACE_CONFIG (R547): The command sets the trace mode, sources and sampling. -/
  | obsTraceConfig (ch : Nat) (r : Req)
  /-- OBS_HEADER_CAPTURE (R542): The command enables or disables header capture for a slice. -/
  | obsHeaderCapture (ch : Nat) (r : Req)
  /-- OBS_STREAM (R543): The command sets the trace stream target. -/
  | obsStream (ch : Nat) (r : Req)
  /-- OBS_TRACE_READ (R547): The command copies whole trace records to a host buffer. -/
  | obsTraceRead (ch : Nat) (r : Req)
  /-- OBS_TAP_ENABLE (R544): The command enables or disables the OBS tap. -/
  | obsTapEnable (ch : Nat) (r : Req)
  /-- AVS_TARGET_ADJUST (R559): The device adjusts the VDD_CORE target over AVSBus with temperature. -/
  | avsTargetAdjust (mv : Nat)
  /-- THERM_ALERT (R565): THERM_ALERT_N falls at 100 °C and rises at 95 °C. -/
  | thermAlert (celsius : Nat)
  /-- THERM_TRIP (R565): At 120 °C THERM_TRIP_N falls and every island except TRU is held in reset. -/
  | thermTrip
  /-- POWER_ON_RESET_ASSERT (R530): A rail leaves its operating limits or a reference clock goes absent, so the internal power-on reset is held and the whole device, TRU included, stops until release. -/
  | powerOnResetAssert
  /-- TEMPERATURE_REPORT_CLEAR (R495): A GDDR7 device's over-temperature report clears, so its four channels return to their full activation rate and MEM_CH_STATE.HOT reads 0. -/
  | temperatureReportClear (dev : Nat)
  /-- PPS_PULSE (R554): At each string time that is a whole multiple of 10^9 ns, PPS_OUT goes high for 1 µs. -/
  | ppsPulse
  /-- THREAD_CYCLES_CHARGE (R517): Every 10 µs while a thread holds no packet, its cycles are charged to THREAD_CYCLES of its group's owner slice. -/
  | threadCyclesCharge (t : Nat)
  deriving DecidableEq, Repr

end Sys2Proof
end

