-- ==== Sys2Proof/Decode.lean ====
section
/-! DEFINITION. The commands that words spell. -/
namespace Sys2Proof

/-- The table gives no row any bits, so no word spells a command. -/
def decodeTableWord (_nbits _w : Nat) : Option Instr := none

end Sys2Proof
end

