-- ==== Sys2Proof/Machine/Bits.lean ====
section
/-! DEFINITION. Bit fields, byte order (R8, R9), sorting, CRC-16 (R22), CRC-32C (R32), string-time and version arithmetic,
the Wick tag's packing (Table 1-5). -/
namespace Sys2Proof

/-- Bits [hi:lo] of a word, as a number. -/
def fld (w : W64) (hi lo : Nat) : Nat := (w.toNat / 2 ^ lo) % 2 ^ (hi + 1 - lo)

/-- Bit `i` of a word. -/
def bit (w : W64) (i : Nat) : Bool := (w.toNat / 2 ^ i) % 2 == 1

/-- A number placed at bit `lo`, for building words from fields. -/
def at' (x lo : Nat) : Nat := x * 2 ^ lo

/-- A word from the sum of its placed fields. -/
def mk64 (parts : List Nat) : W64 := BitVec.ofNat 64 (parts.foldl (· + ·) 0)

/-- 1 for true. -/
def b2n (b : Bool) : Nat := if b then 1 else 0

/-- `x` limited to `n` bits. -/
def lo (n x : Nat) : Nat := x % 2 ^ n

/-- The bits of mask `m` in `w` are all 0 (a reserved field, R12). -/
def bitsClear (w m : W64) : Bool := w &&& m == 0

/-- A little-endian number from bytes, byte 0 lowest (R8). -/
def leNat : List Byte → Nat
  | [] => 0
  | b :: t => b.toNat + 256 * leNat t

/-- A most-significant-byte-first number from bytes (R9). -/
def beNat (bs : List Byte) : Nat := bs.foldl (fun a b => a * 256 + b.toNat) 0

/-- `n` bytes of a number, byte 0 lowest. -/
def leBytes (x : Nat) : Nat → List Byte
  | 0 => []
  | n + 1 => BitVec.ofNat 8 x :: leBytes (x / 256) n

/-- `n` bytes of a number, most significant first. -/
def beBytes (x n : Nat) : List Byte := (leBytes x n).reverse

/-- The 8 bytes of a word as it lies in host memory. -/
def wordBytes (w : W64) : List Byte := leBytes w.toNat 8

/-- Bytes of consecutive words. -/
def wordsBytes (ws : List W64) : List Byte := ws.flatMap wordBytes

/-- Words from bytes, the last one padded with zeros; `n` words. -/
def bytesWords (bs : List Byte) : Nat → List W64
  | 0 => []
  | n + 1 => BitVec.ofNat 64 (leNat (bs.take 8)) :: bytesWords (bs.drop 8) n

/-- `x` put in before the first entry that may stand after it. -/
def insertBy {α : Type} (le : α → α → Bool) (x : α) : List α → List α
  | [] => [x]
  | y :: ys => if le x y then x :: y :: ys else y :: insertBy le x ys

/-- A list in the order `le`; entries that `le` does not tell apart keep their order. -/
def sortBy {α : Type} (le : α → α → Bool) (l : List α) : List α := l.foldr (insertBy le) []

/-- Byte `i` of a frame, 0 beyond its end. -/
def byteAt (bs : List Byte) (i : Nat) : Byte := bs.getD i 0

/-- One bit of CRC-16 with polynomial 0x1021 (R22). -/
def crc16Bit (c : BitVec 16) (b : Bool) : BitVec 16 :=
  let top := c.getLsbD 15
  let s := c <<< 1
  if top != b then s ^^^ 0x1021#16 else s

/-- One byte, most significant bit first. -/
def crc16Byte (c : BitVec 16) (x : Byte) : BitVec 16 :=
  [7, 6, 5, 4, 3, 2, 1, 0].foldl (fun c i => crc16Bit c (x.getLsbD i)) c

/-- CRC-16 of R22: initial value 0xFFFF, no reflection, no final inversion. -/
def crc16 (bs : List Byte) : BitVec 16 := bs.foldl crc16Byte 0xFFFF#16

/-- One byte of the reflected CRC-32C (polynomial 0x1EDC_6F41, reflected 0x82F6_3B78). -/
def crc32cByte (c : BitVec 32) (x : Byte) : BitVec 32 :=
  [0, 1, 2, 3, 4, 5, 6, 7].foldl (fun c _ => if c.getLsbD 0 then (c >>> 1) ^^^ 0x82F63B78#32 else c >>> 1)
    (c ^^^ x.zeroExtend 32)

/-- CRC-32C over bytes from a seed (R32). -/
def crc32c (seed : BitVec 32) (bs : List Byte) : BitVec 32 := bs.foldl crc32cByte seed

/-- Bytes over which a block's CRC runs: DATA, then SOP, EOP, VALID_BYTES, KIND, POISON and SEQ in the order of Table 1-3.
DESIGN CHOICE (log 7): the spec gives no order for the parts after DATA. -/
def Block.crcBytes (b : Block) : List Byte :=
  let k : Nat := match b.kind with
    | .packet => 0
    | .regAccess => 1
    | .memory => 2
    | .control => 3
  b.data ++ beBytes (b2n b.sop * 2 ^ 17 + b2n b.eop * 2 ^ 16 + b.validBytes.toNat * 2 ^ 10 + k * 2 ^ 8 + b2n b.poison * 2 ^ 7 +
    b.seq.toNat) 3

/-- The CRC that a whole block carries (R20, R22). -/
def Block.goodCrc (b : Block) : BitVec 16 := crc16 b.crcBytes

/-- Serial-number comparison of versions: a is later than b (R58). -/
def Version.later (a b : Version) : Bool :=
  let d := (a - b).toNat
  decide (1 ≤ d) && decide (d < 2 ^ 31)

/-- a is b or later. -/
def Version.ge (a b : Version) : Bool := a == b || Version.later a b

/-- Serial comparison of string times modulo 2^48: a is later than b. -/
def Time.later (a b : Time) : Bool :=
  let d := (a - b).toNat
  decide (1 ≤ d) && decide (d < 2 ^ 47)

/-- a is b or later. -/
def Time.ge (a b : Time) : Bool := a == b || Time.later a b

/-- Nanoseconds from `b` to `a`, modulo 2^48. -/
def Time.since (a b : Time) : Nat := (a - b).toNat

/-- Time `n` ns after `t`. -/
def Time.plus (t : Time) (n : Nat) : Time := t + BitVec.ofNat 48 n

/-- The tag's bits above TAG_CRC as one number: the fields of Table 1-5, reserved bits 0. -/
def Tag.body (t : Tag) : Nat :=
  t.originNode.toNat * 2 ^ 236 + t.slice.toNat * 2 ^ 224 + t.vslot.toNat * 2 ^ 221 + t.vcheck.toNat * 2 ^ 216 +
  t.entryTime.toNat * 2 ^ 168 + t.ingress.toNat * 2 ^ 160 + t.queue.toNat * 2 ^ 142 + t.colour.toNat * 2 ^ 140 +
  t.pass.toNat * 2 ^ 138 + t.windowOffset.toNat * 2 ^ 129 + t.flags.toNat * 2 ^ 113 + t.meterClass.toNat * 2 ^ 107 +
  t.flowHash.toNat * 2 ^ 75 + t.length.toNat * 2 ^ 59 + t.traceId.toNat * 2 ^ 43

/-- The 32 bytes of a tag, byte 0 holding bits [255:248] (R9), TAG_CRC over the first 30 (R22, Table 1-5). -/
def Tag.bytes (t : Tag) : List Byte :=
  let b30 := beBytes (t.body / 2 ^ 16) 30
  b30 ++ beBytes (crc16 b30).toNat 2

/-- Bits [hi:lo] of a number. -/
def nfld (x hi lo : Nat) : Nat := (x / 2 ^ lo) % 2 ^ (hi + 1 - lo)

/-- The fields of a tag from its 32 bytes. -/
def Tag.ofBytes (bs : List Byte) : Tag :=
  let x := beNat bs
  { originNode := BitVec.ofNat 20 (nfld x 255 236), slice := BitVec.ofNat 12 (nfld x 235 224),
    vslot := BitVec.ofNat 3 (nfld x 223 221), vcheck := BitVec.ofNat 5 (nfld x 220 216),
    entryTime := BitVec.ofNat 48 (nfld x 215 168), ingress := BitVec.ofNat 8 (nfld x 167 160),
    queue := BitVec.ofNat 18 (nfld x 159 142), colour := BitVec.ofNat 2 (nfld x 141 140),
    pass := BitVec.ofNat 2 (nfld x 139 138), windowOffset := BitVec.ofNat 9 (nfld x 137 129),
    flags := BitVec.ofNat 16 (nfld x 128 113), meterClass := BitVec.ofNat 6 (nfld x 112 107),
    flowHash := BitVec.ofNat 32 (nfld x 106 75), length := BitVec.ofNat 16 (nfld x 74 59),
    traceId := BitVec.ofNat 16 (nfld x 58 43) }

/-- INGRESS_PORT values that R38 permits. -/
def ingressOk (p : Nat) : Bool := decide (p ≤ 75) || p == 77 || p == 79

/-- The fields of a tag pass R35, given LENGTH's frame: INGRESS_PORT, FLAGS [15:12], WINDOW_OFFSET and LENGTH. -/
def Tag.fieldsOk (t : Tag) (frameBytes : Nat) : Bool :=
  decide (t.flags.toNat < 2 ^ 12) && ingressOk t.ingress.toNat && decide (t.windowOffset.toNat ≤ 256) &&
    t.length.toNat == frameBytes

/-- A tag as it arrives passes R35: TAG_CRC, reserved bits, and the fields. -/
def tagBytesOk (bs : List Byte) (frameBytes : Nat) : Bool :=
  (crc16 (bs.take 30)).toNat == beNat (bs.drop 30) && nfld (beNat bs) 42 16 == 0 && (Tag.ofBytes bs).fieldsOk frameBytes

/-- FLAGS bits (Table 1-7). -/
def Tag.flag (t : Tag) (i : Nat) : Bool := t.flags.getLsbD i

/-- FLAGS with bit `i` set. -/
def Tag.setFlag (t : Tag) (i : Nat) : Tag := { t with flags := t.flags ||| BitVec.ofNat 16 (2 ^ i) }

/-- FLAGS with bit `i` cleared. -/
def Tag.clearFlag (t : Tag) (i : Nat) : Tag := { t with flags := t.flags &&& ~~~ (BitVec.ofNat 16 (2 ^ i)) }

/-- CONTROL and DRAIN_MARK frames: exempt from version checks, parsing, metering, policing (R34, R65). -/
def Tag.exempt (t : Tag) : Bool := t.flag 1 || t.flag 2

/-- A packet's LENGTH set to the number of its bytes (Table 1-6). -/
def Pkt.fixLength (p : Pkt) : Pkt := { p with tag := { p.tag with length := BitVec.ofNat 16 p.bytes.length } }

/-- The pipeline state of a packet at pass 0 (R277). -/
def PipeState.fresh : PipeState :=
  { containers := [], stack := [], scratch := 0, resume := 0, entryIdx := none, frontDelta := 0, segment := none,
    bound := false, plan := none }

/-- A packet that no unit has decided anything about. -/
def Pkt.fresh (t : Tag) (bs : List Byte) : Pkt :=
  { tag := t, bytes := bs, pipe := 0, dist := 0, ps := PipeState.fresh, dest := .undecided, policer := 0x1FFFF, mirror := 0,
    cls := 0, poisoned := false, afresh := false, refused := false, gone := false, fromQueue := 0, marker := none, work := none }

/-- The numeric code of a status (Table 4-6). -/
def Status.code : Status → Nat
  | .ok => 0
  | .alreadyComplete => 1
  | .busy => 2
  | .noResource => 3
  | .badArgument => 4
  | .notPermitted => 5
  | .stalePartition => 6
  | .timeout => 7
  | .keyLost => 8
  | .versionConflict => 9
  | .authFailed => 10
  | .halted => 11

/-- Accessors of an action record (Table 9-3). -/
def Action.kind (x : Action) : Nat := fld x.a 3 0
def Action.queue (x : Action) : Nat := fld x.a 21 4
def Action.egress (x : Action) : Nat := fld x.a 29 22
def Action.sliceSet (x : Action) : Option Nat := if bit x.a 42 then some (fld x.a 41 30) else none
def Action.meter (x : Action) : Option Nat := if bit x.a 49 then some (fld x.a 48 43) else none
def Action.plan (x : Action) : Nat := fld x.a 57 50
def Action.entry (x : Action) : Option Nat := if bit x.a 62 then some (fld x.a 61 58) else none
def Action.policer (x : Action) : Nat := fld x.b 16 0
def Action.arg (x : Action) : Nat := fld x.b 36 17
def Action.mirror (x : Action) : Nat := fld x.b 40 37
def Action.cls (x : Action) : Nat := fld x.b 43 41
def Action.node (x : Action) : Nat := fld x.b 63 44

/-- The first `n` bytes of words; the bytes of the last word beyond them are 0. -/
def wordsUpTo (n : Nat) (ws : List W64) : List W64 :=
  (ws.take ((n + 7) / 8)).zipIdx.map (fun (w, i) => if 8 * i + 8 ≤ n then w else w &&& BitVec.ofNat 64 (2 ^ (8 * (n - 8 * i)) - 1))

/-- Payload words as the command reads them: PAYLOAD_LEN bytes of the host's buffer with INDIRECT, else the inline words
(R149, R152). -/
def Req.words (r : Req) : List W64 := if r.indirect then wordsUpTo r.payloadLen.toNat r.host.data else r.inline

/-- Payload word `k`, 0 beyond the end. -/
def Req.word (r : Req) (k : Nat) : W64 := r.words.getD k 0

end Sys2Proof
end

