-- ==== Sys2Proof/Machine/Maps.lean ====
section
/-! DEFINITION. Sparse maps in canonical form (keys strictly rising, no default entries), lists as tables, and byte memories. -/
namespace Sys2Proof

/-- The value at key `k`, `d` where none is listed. -/
def SMap.get {α : Type} (d : α) : SMap α → Nat → α
  | [], _ => d
  | (j, x) :: t, k => if j = k then x else SMap.get d t k

/-- Insertion of a listed value, keys rising. -/
def SMap.ins {α : Type} (k : Nat) (x : α) : SMap α → SMap α
  | [] => [(k, x)]
  | (j, y) :: t => if j < k then (j, y) :: SMap.ins k x t else if j = k then (k, x) :: t else (k, x) :: (j, y) :: t

/-- `m` with `x` at key `k`; writing what an unlisted key reads as removes the entry. -/
def SMap.put {α : Type} [DecidableEq α] (d : α) (m : SMap α) (k : Nat) (x : α) : SMap α :=
  if x = d then m.filter (fun e => decide (e.1 ≠ k)) else SMap.ins k x m

/-- The keys rise strictly. -/
def SMap.rising {α : Type} : SMap α → Bool
  | [] => true
  | (j, _) :: t => t.all (fun e => decide (j < e.1)) && SMap.rising t

/-- The canonical form: keys strictly rising, no entry equal to the default. -/
def SMap.wf {α : Type} [DecidableEq α] (d : α) (m : SMap α) : Bool :=
  SMap.rising m && m.all (fun e => decide (e.2 ≠ d))

/-- The listed entries of an optional map, in key order. -/
def SMap.entries {α : Type} (m : SMap (Option α)) : List (Nat × α) :=
  m.filterMap (fun e => e.2.map (fun x => (e.1, x)))

/-- A byte memory: what an unlisted address reads as is 0. -/
abbrev Memory := List Host.Cell

/-- The byte at an address. -/
def Memory.read (m : Memory) (a : Nat) : Byte := SMap.get 0 m a

/-- One byte written. -/
def Memory.write (m : Memory) (a : Nat) (b : Byte) : Memory := SMap.put 0 m a b

/-- The canonical form of a memory. -/
abbrev Memory.wf (m : Memory) : Bool := SMap.wf (0 : Byte) m

/-- `n` bytes from address `a`, lowest address first. -/
def Memory.readN (m : Memory) (a : Nat) : Nat → List Byte
  | 0 => []
  | n + 1 => Memory.read m a :: Memory.readN m (a + 1) n

/-- Bytes written from address `a` upwards. -/
def Memory.writeN (m : Memory) (a : Nat) : List Byte → Memory
  | [] => m
  | b :: bs => Memory.writeN (Memory.write m a b) (a + 1) bs

/-- The first element that satisfies `p`, with its index. -/
def findIdxFrom {α : Type} (p : α → Bool) : Nat → List α → Option (Nat × α)
  | _, [] => none
  | i, x :: t => if p x then some (i, x) else findIdxFrom p (i + 1) t

/-- `l` with element `i` replaced. -/
def setAt {α : Type} : List α → Nat → α → List α
  | [], _, _ => []
  | _ :: t, 0, x => x :: t
  | y :: t, i + 1, x => y :: setAt t i x

/-- Removes the first element that satisfies `p`. -/
def eraseFirst {α : Type} (p : α → Bool) : List α → List α
  | [] => []
  | x :: t => if p x then t else x :: eraseFirst p t

end Sys2Proof
end

