-- ==== Sys2Proof/Parts/Rules.lean ====
section
/-! DEFINITION. State of the parser, the classifier and forwarding (chapters 8 and 9), and the version slots (R58 to R62). -/
namespace Sys2Proof

/-- Version slot states (Table 2-1). -/
inductive SlotState where
  | free | building | prepared | active | draining
  deriving DecidableEq, Repr

/-- One parse-graph image placed in the control stores (R290, R292). -/
structure Image where
  imageId : BitVec 32
  patch : Byte
  keySlot : BitVec 4
  baseSeg : Nat
  /-- Microcode words, word 0 first. -/
  words : List (BitVec 256)
  /-- The 16 entries and ENTRY_VALID. -/
  entries : List Nat
  entryValid : BitVec 16
  digest : BitVec 384
  /-- The image's 64-bit words as loaded, signature included, as PREPARE carries them. -/
  raw : List W64
  deriving DecidableEq, Repr

/-- A table definition (R312); KEY_BYTES 0 for a table that is not defined. -/
structure TableDef where
  keyBytes : Nat
  onchip : Nat
  extLog2 : Nat
  deriving DecidableEq, Repr

def TableDef.none : TableDef := { keyBytes := 0, onchip := 0, extLog2 := 0 }

/-- A key profile (R313); no pieces for one that is absent. -/
structure KeyProfile where
  table : Nat
  pieces : List (BitVec 16)
  deriving DecidableEq, Repr

def KeyProfile.none : KeyProfile := { table := 0, pieces := [] }

/-- A plan (R306). -/
structure Plan where
  valid : Bool
  steps : List Nat
  miss : Action
  deriving DecidableEq, Repr

def Plan.none : Plan := { valid := false, steps := [], miss := ⟨10, 0⟩ }

/-- A segment's fields as SEGMENT_SET's words 1 and 2 lay them out (R305). -/
structure Segment where
  valid : Bool
  w1 : W64
  w2 : W64
  deriving DecidableEq, Repr

def Segment.none : Segment := { valid := false, w1 := 0, w2 := 0 }

/-- A program binding as ACT_PROGRAM_BIND's words 1 and 2 lay it out (R372). -/
structure ProgBind where
  valid : Bool
  w1 : W64
  w2 : W64
  deriving DecidableEq, Repr

def ProgBind.none : ProgBind := { valid := false, w1 := 0, w2 := 0 }

/-- Parser policies of a slice (R289): codes of Table 8-3. -/
structure Policy where
  incomplete : BitVec 2
  malformed : BitVec 2
  deriving DecidableEq, Repr

/-- FORWARD_OUTER and DROP (R289). -/
def Policy.default : Policy := { incomplete := 0, malformed := 2 }

/-- The versioned state of one slot but for table entries and routes, which carry their own ranges (Table 2-2). -/
structure RuleSet where
  /-- The image mapped: none for the default image (R293). -/
  image : Option Image
  policies : SMap Policy
  tables : SMap TableDef
  profiles : SMap KeyProfile
  plans : SMap Plan
  segments : SMap Segment
  programs : SMap ProgBind
  deriving DecidableEq, Repr

/-- The empty rule set of version 0 (R60, R311): the default image, tables 14 and 15 with their fixed key lengths. -/
def RuleSet.empty : RuleSet :=
  { image := none, policies := [], tables := [(14, ⟨7, 0, 0⟩), (15, ⟨8, 0, 0⟩)], profiles := [], plans := [], segments := [],
    programs := [] }

/-- One version slot (R59, R61). -/
structure Slot where
  state : SlotState
  version : Version
  rules : RuleSet
  /-- The change record by which the version was prepared, in its segments. -/
  record : List Change
  /-- RETIRE has been recorded for it: T_DRAIN, and whether DRAIN_DONE has been sent. -/
  tDrain : Option Time
  drainStarted : Bool
  drainDone : Bool
  deriving DecidableEq, Repr

def Slot.free : Slot := { state := .free, version := 0, rules := RuleSet.empty, record := [], tDrain := none, drainStarted := false, drainDone := false }

/-- Version 0, ACTIVE in slot 0, of a member whose journal holds no version (R60). -/
def Slot.version0 : Slot := { Slot.free with state := .active }

/-- An exact-match entry (R314). -/
structure Entry where
  key : List Byte
  act : Action
  vfrom : Version
  vto : Version
  isOpen : Bool
  deriving DecidableEq, Repr

/-- The places of one exact-match table (R317): on-chip places, GDDR7 places, the stash of 64. -/
structure TablePlaces where
  onchip : SMap (Option Entry)
  ext : SMap (Option Entry)
  stash : SMap (Option Entry)
  deriving DecidableEq, Repr

def TablePlaces.empty : TablePlaces := { onchip := [], ext := [], stash := [] }

/-- An LPM route entry (R329); `slots` has bit s set where SLOTMASK bit s is "don't care". -/
structure Route where
  v6 : Bool
  vrf : BitVec 12
  addr : BitVec 128
  len : Nat
  slots : BitVec 8
  act : Action
  deriving DecidableEq, Repr

/-- A learned L2 entry (R324). -/
structure Learned where
  segment : Nat
  mac : BitVec 48
  port : Nat
  node : Nat
  slice : Nat
  rxQpBase : Nat
  rxQpLog2 : Nat
  lastTime : Time
  /-- Times of the moves recorded, newest first. -/
  moves : List Time
  flapping : Bool
  holdEnd : Time
  deriving DecidableEq, Repr

/-- A learn event (R325, R326): segment, address, place, time, and the pipeline's packet version. -/
structure LearnEvent where
  segment : Nat
  mac : BitVec 48
  port : Nat
  node : Nat
  slice : Nat
  rxQpBase : Nat
  rxQpLog2 : Nat
  time : Time
  vslot : BitVec 3
  deriving DecidableEq, Repr

/-- A packet whose lookup waits for GDDR7 lines: the table, and the lookups answered so far (R310, R317). -/
structure WaitRead where
  table : Nat
  reads : Nat
  pkt : Pkt
  deriving DecidableEq, Repr

/-- One pipeline (R47, R286, R287, R324, R325). -/
structure Pipeline where
  /-- Input FIFO, at most 64 packets. -/
  input : List Pkt
  /-- Packets it recirculated, and packets returned by ACT0, ACT1 and LCP. -/
  recirc : List Pkt
  returns : List Pkt
  /-- Packets whose pass ended DONE or flagged, in order, waiting for classification. -/
  parsed : List Pkt
  /-- Packets whose lookup waits for a GDDR7 line (R310, R317). -/
  waiting : List WaitRead
  learned : SMap (Option Learned)
  learnQ : List LearnEvent
  /-- Addresses of control-store words of this pipeline that hold an uncorrectable error (R285). -/
  badWords : List Nat
  deriving DecidableEq, Repr

def Pipeline.reset : Pipeline :=
  { input := [], recirc := [], returns := [], parsed := [], waiting := [], learned := [], learnQ := [], badWords := [] }

/-- The pipelines, the tables and the version slots. -/
structure Rules where
  slots : SMap Slot
  /-- Tables 0 to 15; the PIPA and PIPB copies hold the same placement (R319). -/
  tables : SMap TablePlaces
  /-- LPM places 0 to 98303; the four replicas hold the same entries (R329, R332). -/
  routes : SMap (Option Route)
  pipes : SMap Pipeline
  /-- The changes of the build in progress, in order. -/
  buildRecord : List Change
  /-- T_ACT of the active version, and the time at which it became active here (R66). -/
  tAct : Time
  actAt : Time
  /-- On-chip entries with an uncorrectable error, not yet rewritten from the journal: table, place, and when the error was met (R320). -/
  badEntries : List (Nat × Nat × Time)
  deriving DecidableEq, Repr

/-- Slot 0 holds version 0; every table empty. -/
def Rules.reset : Rules :=
  { slots := [(0, Slot.version0)], tables := [], routes := [], pipes := [], buildRecord := [], tAct := 0, actAt := 0, badEntries := [] }

end Sys2Proof
end

