-- ==== Sys2Proof/Machine/Methods.lean ====
section
/-! DEFINITION. Small readings of the parts of the state. -/
namespace Sys2Proof

/-- The link of a port, or of one half of it (R93). -/
def HostPort.link (p : HostPort) (half : Bool) : HostLink := if half then p.linkB else p.linkA

def HostPort.setLink (p : HostPort) (half : Bool) (l : HostLink) : HostPort :=
  if half then { p with linkB := l } else { p with linkA := l }

/-- The link carries requests: in L0 with its function in D0 (R568). -/
def HostLink.usable (l : HostLink) : Bool := l.up && !l.d3hot

/-- Packets carrying this slot are processed: PREPARED, ACTIVE or DRAINING (Table 2-1). -/
def Slot.processes (x : Slot) : Bool := decide (x.state = .prepared) || decide (x.state = .active) || decide (x.state = .draining)

end Sys2Proof
end

