-- ==== Sys2Proof/Parts/Act.lean ====
section
/-! DEFINITION. State of the action cores (chapter 10). -/
namespace Sys2Proof

/-- Thread states (Table 10-2). -/
inductive ThreadState where
  | free | ready | stalled | waiting | faulted
  deriving DecidableEq, Repr

/-- A loaded Chetas image (R369): its slice, IMAGE_ID, ENTRY, instructions. -/
structure ActImage where
  slice : Nat
  imageId : BitVec 32
  entry : Nat
  code : List (BitVec 32)
  deriving DecidableEq, Repr

/-- A group (R340, R351, R355, R375). -/
structure Group where
  slice : Nat
  handle : Nat
  /-- Global numbers of its threads, in group order; those that R375 removes are listed in `leaving` until they go. -/
  threads : List Nat
  leaving : List Nat
  /-- The dispatch map of 64 entries. -/
  map : List Nat
  tickUs : Nat
  stateMib : Nat
  maxCycles : Nat
  created : Time
  /-- State memory, and its poisoned 8-byte words (R356). -/
  mem : List Host.Cell
  poisoned : List Nat
  /-- Words of poisoned GDDR7 lines that a store has written since (R356, R491). -/
  cured : List Nat
  deriving DecidableEq, Repr

/-- What a STALLED thread waits for: a state load, an atomic, a table lookup with the GDDR7 line of its table. -/
inductive Stall where
  | load (dst addr size : Nat)
  | atomic (dst addr func : Nat) (operand onEntry : W64)
  | table (dst t : Nat) (key : List Byte) (slot : Nat)
  deriving DecidableEq, Repr

/-- A thread (Table 10-1). -/
structure Thread where
  state : ThreadState
  group : Nat
  /-- g1 to g31; an unlisted register holds 0. -/
  g : SMap W64
  pc : Nat
  /-- Latched bits of the event word. -/
  latched : BitVec 16
  waitMask : BitVec 16
  /-- DST of the WFE that waits. -/
  waitDst : Nat
  scratch : List Host.Cell
  /-- The channel staging register: its words and target. -/
  staging : List W64
  stTarget : Option Nat
  /-- Committed messages: sender and words, oldest first. -/
  recvQ : List (Nat × List W64)
  /-- Target of the last refused commit (CHFREE). -/
  refusedBy : Option Nat
  held : Option Pkt
  /-- A forced quiesce took the packet (R358). -/
  heldEmpty : Bool
  input : List Pkt
  /-- When the held packet was taken, and up to when its cycles have been charged (R366). -/
  takenAt : Time
  chargedAt : Time
  copies : Nat
  /-- Bytes added at the front and at the tail in this visit (R352). -/
  frontAdded : Nat
  tailAdded : Nat
  stall : Option Stall
  /-- Times of recent faults, newest first (R368). -/
  faults : List Time
  lastFault : Nat
  faultPc : Nat
  logged : Option Time
  deriving DecidableEq, Repr

/-- A FREE thread. -/
def Thread.free : Thread :=
  { state := .free, group := 0, g := [], pc := 0, latched := 0, waitMask := 0, waitDst := 0, scratch := [], staging := [],
    stTarget := none, recvQ := [], refusedBy := none, held := none, heldEmpty := false, input := [], takenAt := 0, chargedAt := 0,
    copies := 0, frontAdded := 0, tailAdded := 0, stall := none, faults := [], lastFault := 0, faultPc := 0, logged := none }

/-- The action cores. -/
structure Act where
  images : SMap (Option ActImage)
  groups : SMap (Option Group)
  threads : SMap Thread
  /-- Slot table entry e of core c at key 32 * c + e: the thread in the core (R345). -/
  slots : SMap (Option Nat)
  /-- Packets that ACT0 and ACT1 have received and not yet dispatched. -/
  input : SMap (List Pkt)
  deriving DecidableEq, Repr

def Act.reset : Act := { images := [], groups := [], threads := [], slots := [], input := [] }

end Sys2Proof
end

