-- ==== Sys2Proof/Parts/Crossing.lean ====
section
/-! DEFINITION. State of the crossings and the distributors (chapter 1): R17 to R27, R40 to R53. -/
namespace Sys2Proof

/-- One block that the source keeps until it is acknowledged, with the re-sends made of it (R24, R25). -/
structure Unacked where
  block : Block
  resends : Nat
  deriving DecidableEq, Repr

/-- A one-way channel of a crossing: the source's credits, queue and kept blocks, the receiver's expected SEQ, FIFO and
the packet being assembled (R17, R20 to R25). -/
structure Channel where
  credits : Nat
  sendSeq : BitVec 7
  /-- Blocks that wait for a credit. -/
  queue : List Block
  unacked : List Unacked
  expSeq : BitVec 7
  /-- The receiver has refused a block and discards until the expected one arrives whole (R23). -/
  discarding : Bool
  /-- Blocks in the receiver's FIFO, whose credits have not returned. -/
  fifo : Nat
  /-- DATA bytes of the packet being assembled. -/
  asm : List Byte
  /-- A poisoned block was received for the packet being assembled. -/
  asmPoison : Bool
  /-- Packets posted and not yet received whole, oldest first, with the pipeline state that travels beside the frame. -/
  carried : List Pkt
  deriving DecidableEq, Repr

/-- A channel after reset: 64 credits, SEQ 0, nothing in it (R17). -/
def Channel.reset : Channel :=
  { credits := 64, sendSeq := 0, queue := [], unacked := [], expSeq := 0, discarding := false, fifo := 0, asm := [], asmPoison := false, carried := [] }

/-- One bucket of one distributor's copy of the bucket map (R40, R48 to R53). -/
structure Bucket where
  pipeline : Nat
  target : Nat
  inflight : Nat
  lastSeen : Time
  moveStart : Time
  homeward : Bool
  held : List Pkt
  deriving DecidableEq, Repr

/-- Bucket `b` under the home map: served by pipeline b mod 8 (R53). -/
def Bucket.home (b : Nat) : Bucket :=
  { pipeline := b % 8, target := b % 8, inflight := 0, lastSeen := 0, moveStart := 0, homeward := false, held := [] }

/-- The crossings, the distributors and the slow marks. -/
structure Fabric where
  /-- Channel from island i to island j at key 32 * i + j. -/
  chans : SMap Channel
  /-- Packets that a distributor has tagged or received and not yet sent, per distributor 0 to 7
  (NETW, NETE, LNK, QDE, MGT, STE, ACT0, ACT1). -/
  inbox : SMap (List Pkt)
  /-- Bucket b of distributor d at key 4096 * d + b. -/
  buckets : SMap Bucket
  /-- Packets accepted or dropped whose distributor has not yet been told: distributor, bucket (R48). -/
  ended : List (Nat × Nat)
  /-- Bit k: pipeline k is marked slow (R47). -/
  slow : BitVec 8
  /-- Since when the input FIFO of pipeline k has stayed at or above FILL_HIGH, and at or below FILL_LOW (R47). -/
  highSince : SMap (Option Time)
  lowSince : SMap (Option Time)
  /-- Drain markers that a unit holds: the unit, the source unit, the marker (Table 2-3 steps 3 and 4, Table 5-3 step 2b). -/
  markers : List (Nat × Nat × Marker)
  /-- Markers that a unit has passed on or reported. -/
  passed : List (Nat × Marker)
  deriving DecidableEq, Repr

/-- No packet anywhere, the home map, no slow mark. -/
def Fabric.reset : Fabric :=
  { chans := [], inbox := [], buckets := [], ended := [], slow := 0, highSince := [], lowSince := [], markers := [], passed := [] }

end Sys2Proof
end

