-- ==== Sys2Proof/Parts/Mailbox.lean ====
section
/-! DEFINITION. State of the Lamplighter (chapter 4): mailbox channels, the binding table, the fault log, semaphores. -/
namespace Sys2Proof

/-- One entry of a channel's history (R158), with the response payload that a replay copies (R157). -/
structure HistEntry where
  /-- The request's number among those taken (the model's own). -/
  no : Nat
  opcode : Nat
  seq : BitVec 16
  status : Status
  done : Bool
  payload : List W64
  deriving DecidableEq, Repr

/-- A taken request: its number, which is the model's own and tells apart requests of one OPCODE and SEQUENCE, and what its response repeats. -/
structure Taken where
  no : Nat
  opcode : Nat
  seq : BitVec 16
  deriving DecidableEq, Repr

/-- One mailbox channel (R133 to R142). -/
structure MbxChan where
  /-- The request slot's 8 words, an absent word being 0. -/
  request : List W64
  /-- The response slot's 8 words. -/
  response : List W64
  /-- The 8 words captured by an accepted POST (R137). -/
  captured : List W64
  full : Bool
  empty : Bool
  executing : Bool
  /-- The request that EXECUTING stands for. -/
  current : Option Taken
  /-- Numbers of the taken requests whose commands have not ended, that of a timed-out one among them (R155, R569). -/
  running : List Nat
  rejectCount : BitVec 16
  /-- MBX_IRQ: SLOT_FREE_EN and RESPONSE_EN. -/
  slotFreeEn : Bool
  responseEn : Bool
  /-- The last 8 taken requests, newest first. -/
  history : List HistEntry
  timerMs : Nat
  /-- When the response timer of the request taken last runs out (R155). -/
  deadline : Time
  deriving DecidableEq, Repr

/-- A channel after a channel reset (R141). -/
def MbxChan.reset : MbxChan :=
  { request := [], response := [], captured := [], full := false, empty := true, executing := false, current := none, running := [],
    rejectCount := 0, slotFreeEn := false, responseEn := false, history := [], timerMs := 10, deadline := 0 }

/-- A manager channel's binding (R147, Table 4-10). -/
structure Binding where
  sender : Byte
  valid : Bool
  deriving DecidableEq, Repr

/-- A record of the fault log (R163). -/
structure FaultRec where
  time : Time
  source : Nat
  dest : Nat
  code : BitVec 16
  kind : Nat
  index : BitVec 32
  detail2 : W64
  detail3 : W64
  deriving DecidableEq, Repr

/-- A command that goes on after its step, and whose response a later event writes. -/
structure Job where
  ch : Nat
  /-- The request's number. -/
  no : Nat
  opcode : Nat
  seq : BitVec 16
  /-- The host takes the response through a buffer it can write. -/
  writeOk : Bool
  indirect : Bool
  /-- The host buffer's address, with INDIRECT. -/
  addr : W64
  deriving DecidableEq, Repr

/-- The Lamplighter complex. -/
structure Mgt where
  chans : SMap MbxChan
  /-- Bindings of manager channels that differ from "unbound". -/
  bindings : SMap Binding
  bindLock : Bool
  fwUp : Bool
  fwVersion : BitVec 32
  /-- Watchdog period in force and the one that applies from the next restart (R161). -/
  wdogMs : Nat
  wdogNextMs : Nat
  /-- By when the firmware has restarted its watchdog since WATCHDOG_CONFIG (R159, R161). -/
  wdogAt : Time
  faults : List FaultRec
  nextIndex : BitVec 32
  /-- Owners of held semaphores. -/
  sems : SMap Byte
  /-- How many requests have been taken: the number of the last (the model's own). -/
  takes : Nat
  /-- Channels served last, among the manager and among the slice channels (R569). -/
  lastManager : Nat
  lastSlice : Nat
  /-- DEVICE_RESET under way: the job, and the time at which its response was written, if it was (R162). -/
  deviceReset : Option (Job × Option Time)
  deriving DecidableEq, Repr

/-- MGT before its firmware runs (Table 4-10); manager channels 0 and 240 to 243 bound as R147 gives (the manager port's
identity is that of port 0 until the straps are read). -/
def Mgt.reset : Mgt :=
  { chans := [], bindings := [(0, ⟨8, true⟩)], bindLock := false, fwUp := false, fwVersion := 0, wdogMs := 1000,
    wdogNextMs := 1000, wdogAt := 0, faults := [], nextIndex := 0, sems := [], takes := 0, lastManager := 4351, lastSlice := 4095, deviceReset := none }

end Sys2Proof
end

