-- ==== Sys2Proof/Parts/Crypto.lean ====
section
/-! DEFINITION. State of the line cipher and of the storage engine (chapter 13). -/
namespace Sys2Proof

/-- A security association (Table 13-1). `w0` and `w1` hold LCP_SA_SET's words 0 and 1 as given. -/
structure Sa where
  w0 : W64
  w1 : W64
  /-- SCI, or UDP_SRC in [15:0]. -/
  sci : W64
  softLimit : W64
  salt : BitVec 128
  key : List W64
  /-- Outbound: the next number. Inbound: the highest number accepted. -/
  seq : Nat
  /-- Inbound: the lower edge under which nothing is accepted, and the numbers accepted within the window. -/
  edge : Nat
  accepted : List Nat
  /-- Outbound: end of the block that has been reserved, and of the one whose record is not yet durable (R453). -/
  reserved : Nat
  reserving : Bool
  /-- Inbound: packets accepted since the last checkpoint (R453). -/
  sinceMark : Nat
  exhausted : Bool
  softReached : Bool
  deriving DecidableEq, Repr

/-- A storage key slot (R470). -/
structure StKey where
  key1 : List W64
  key2 : List W64
  duBytes : Nat
  tweakBase : W64
  deriving DecidableEq, Repr

/-- Connection states (Table 13-4). -/
inductive ConnState where
  | closed | connecting | ready | closing | failed
  deriving DecidableEq, Repr

/-- An NVMe command whose completion has not come on a connection: its identifier, queue pair, ring index and opcode. It stays
listed, its identifier unused, after its descriptor has ended (R477). -/
structure NvmeCmd where
  cid : Nat
  qp : Nat
  index : Nat
  opcode : Nat
  deriving DecidableEq, Repr

/-- A connection (R471 to R473). -/
structure Conn where
  state : ConnState
  admin : Bool
  slice : Nat
  /-- The session's admin connection. -/
  session : Nat
  lastCause : Nat
  cmds : List NvmeCmd
  /-- Retransmissions of the oldest unacknowledged segment (R472). -/
  retries : Nat
  /-- A segment is unacknowledged. -/
  unacked : Bool
  /-- The FIN has been exchanged. -/
  finDone : Bool
  /-- When its last segment went out, its last Keep Alive went or it became READY, and it began to close (R471, R472). -/
  sentAt : Time
  aliveAt : Time
  closingAt : Time
  deriving DecidableEq, Repr

def Conn.closed : Conn :=
  { state := .closed, admin := false, slice := 0, session := 0, lastCause := 0, cmds := [], retries := 0,
    unacked := false, finDone := false, sentAt := 0, aliveAt := 0, closingAt := 0 }

/-- A session's settings as STE_SESSION_OPEN gave them, keyed by its admin connection. -/
structure Session where
  words : List W64
  ioConns : Nat
  deriving DecidableEq, Repr

/-- Storage engine states (Table 13-3). -/
inductive SteState where
  | start | test | recovery | service | failed
  deriving DecidableEq, Repr

/-- LCP and STE. -/
structure Crypto where
  sas : SMap (Option Sa)
  /-- The SA of a bound queue (R459). -/
  bindings : SMap (Option Nat)
  /-- SAs in the on-chip cache, newest first (R452). -/
  cache : List Nat
  /-- Slices that have a KEK (R464). -/
  keks : List Nat
  lcpReady : Bool
  /-- Packets that LCP holds: for decryption, and from bound queues for encryption. -/
  decIn : List Pkt
  encIn : List Pkt
  /-- Key slot k of slice n at key 4 * n + k. -/
  keys : SMap (Option StKey)
  ste : SteState
  imageVersion : BitVec 32
  patchLevel : Byte
  staged : Option Byte
  conns : SMap Conn
  sessions : SMap (Option Session)
  /-- Packets that STE has accepted and not yet handled. -/
  steIn : List Pkt
  deriving DecidableEq, Repr

def Crypto.reset : Crypto :=
  { sas := [], bindings := [], cache := [], keks := [], lcpReady := false, decIn := [], encIn := [], keys := [], ste := .start,
    imageVersion := 0, patchLevel := 0, staged := none, conns := [], sessions := [], steIn := [] }

end Sys2Proof
end

