-- ==== Sys2Proof/Parts/Journal.lean ====
section
/-! DEFINITION. State of the commit journal (chapter 14) and of the metering unit (chapter 15). -/
namespace Sys2Proof

/-- A meter record (R525): header fields, and the entries: slice, generation, meters 0 to 31. -/
structure MeterRec where
  period : BitVec 32
  lost : Bool
  selfMarked : Bool
  mark : Time
  next : Time
  node : Nat
  entries : List (Nat × Nat × List W64)
  deriving DecidableEq, Repr

/-- What a journal record holds, by TYPE (Table 14-3). A `prepare`, `decision`, `activate`, `withdraw` record names its
version in SUBJECT, a `slotFree` record its slot. -/
inductive JBody where
  /-- `full`: the changes hold the version whole, and not against the one before it (log 71). -/
  | prepare (cs : List Change) (full : Bool)
  | decision (tAct : Time)
  | activate (tAct : Time)
  | slotFree
  | withdraw
  /-- A member-local configuration command: opcode, channel, request payload words. -/
  | config (opcode ch : Nat) (words : List W64)
  /-- A candle mark (R520): announced, or placed by this member itself as it was reached. -/
  | mark (period : BitVec 32) (t : Time) (placed : Bool)
  /-- What a CHECKPOINT says of slot 0 before the versions that it holds: version 0 is gone (R60, R499). -/
  | noVersion
  /-- What a re-formation records: epoch, lead-side flag, members and lead node of the reference membership (R437, R440). -/
  | epoch (epoch : BitVec 32) (members : List Nat) (lead : Nat)
  /-- HEARTBEAT_US and MAX_RTT_US of a PARAMS (R446). -/
  | params (heartbeatUs maxRttUs : Nat)
  | meter (r : MeterRec)
  /-- End of an outbound block, or an inbound checkpoint, of the SA in SUBJECT (R453). -/
  | seqBlock (inbound : Bool) (upTo : Nat)
  | powerFail
  /-- A record whose payload the model does not interpret. -/
  | raw (words : List W64)
  deriving DecidableEq, Repr

/-- What follows once a record is durable (R497): a response, or the string's next message. -/
inductive JThen where
  | nothing
  | answer (j : Job) (st : Status) (ws : List W64)
  /-- R571: PREPARE is placed and acknowledged. -/
  | prepared (v : Version)
  /-- R74: the decision is durable, ACTIVATE goes out. -/
  | decided (v : Version) (tAct : Time)
  /-- R66: ACTIVATE is durable, its acknowledgement goes out. -/
  | activated (v : Version) (tAct : Time)
  | freed (slot : Nat)
  | withdrawn (v : Version)
  | metered (period : BitVec 32)
  | seqBlock (sa : Nat) (inbound : Bool) (upTo : Nat)
  /-- Last CHECKPOINT record of a compaction: older lines become free, then the command is answered (R499). -/
  | compacted (j : Job)
  /-- A destroyed slice becomes FREE and the command is answered (R192). -/
  | sliceDone (slice : Nat)
  deriving DecidableEq, Repr

/-- A record of the journal. -/
structure JRec where
  typ : Nat
  seq : Nat
  time : Time
  subject : Nat
  /-- Size in lines (R497), and how many of them have been written and read back. -/
  lines : Nat
  written : Nat
  body : JBody
  then' : JThen
  deriving DecidableEq, Repr

/-- The commit journal. -/
structure Jnl where
  /-- Durable records in the log region, oldest first. -/
  records : List JRec
  /-- Records taken and not yet durable, in SEQ order. -/
  inflight : List JRec
  nextSeq : Nat
  lastDurable : Nat
  /-- The highest SEQ of a line header that is of no durable record, 0 for none: a torn record's, or one beyond a corrupt record (R498). -/
  highSeq : Nat
  /-- Replay has ended: records are taken. -/
  ready : Bool
  /-- PWR_FAIL_N has stopped it (R502). -/
  stopped : Bool
  /-- EXHAUSTED, with the size of the largest record refused since (R500). -/
  exhausted : Option Nat
  /-- Write credit in units of 10^-9 byte, and the time up to which it has been refilled (R501). -/
  credit : Nat
  creditTime : Time
  pacingLogged : Option Time
  corrupt : Bool
  spare : Nat
  retired : Nat
  /-- Lines of the log region. -/
  logLines : Nat
  /-- Lines written since the unit was new. -/
  wear : Nat
  /-- A compaction is running: how many of the oldest records it frees. -/
  compacting : Option Nat
  /-- The model's own: while a record is replayed, its SUBJECT. -/
  replaying : Option Nat
  /-- The model's own: an unfinished record stood at the end of the ring when power was lost (R503). -/
  torn : Bool
  deriving DecidableEq, Repr

/-- The journal of a new unit: empty, replay to come; 480 MiB of log region, 32 MiB of spare lines, full credit. -/
def Jnl.reset : Jnl :=
  { records := [], inflight := [], nextSeq := 1, lastDurable := 0, highSeq := 0, ready := false, stopped := false, exhausted := none,
    credit := 345600 * 1048576 * 1000000000, creditTime := 0, pacingLogged := none, corrupt := false, spare := 524288,
    retired := 0, logLines := 7864320, wear := 0, compacting := none, replaying := none, torn := false }

/-- A period that is open: its number, MARK_TIME, whether its mark was placed by this member itself, whether a restart has lost counts of
it (R523), and its counts at key ((generation * 4096) + slice) * 32 + meter. -/
structure OpenPeriod where
  period : BitVec 32
  mark : Time
  selfMarked : Bool
  lost : Bool
  counts : SMap W64
  deriving DecidableEq, Repr

/-- The metering unit MTR (R517 to R523). -/
structure Mtr where
  /-- Open periods, newest first. -/
  opens : List OpenPeriod
  /-- Frozen periods that wait for the journal, oldest first, and lost ones still to be recorded (R523). -/
  waiting : List MeterRec
  lostQ : List MeterRec
  /-- Announced marks not yet reached: number and time. -/
  announced : List (BitVec 32 × Time)
  /-- The last marks announced, or placed by this member itself: number and time, newest first (R520). -/
  lastMarks : List (BitVec 32 × Time)
  /-- Period in force in s, and the one that follows the next announcement. -/
  periodS : Nat
  nextPeriodS : Nat
  /-- Last period whose record is durable here, if any, and on the lead node the last one reported by every member. -/
  localDone : Option (BitVec 32)
  stringDone : BitVec 32
  /-- Oldest period not released. -/
  oldest : BitVec 32
  /-- Last generation of each slice number (R524). -/
  gens : SMap Nat
  /-- Lead node: the last period that each member has reported, plus 1. -/
  doneBy : SMap Nat
  deriving DecidableEq, Repr

/-- MTR before any mark: period 0 is open, 60 s in force (Table 15-6). -/
def Mtr.reset : Mtr :=
  { opens := [⟨0, 0, false, false, []⟩], waiting := [], lostQ := [], announced := [], lastMarks := [], periodS := 60, nextPeriodS := 60,
    localDone := none, stringDone := 0, oldest := 0, gens := [], doneBy := [] }

end Sys2Proof
end

