-- ==== Sys2Proof/Parts/Lantern.lean ====
section
/-! DEFINITION. State of the string and its bundles (chapter 12), and of the commit protocol (chapter 2). -/
namespace Sys2Proof

/-- Bundle states (LNK_BUNDLE_STATE.STATE). -/
inductive BundleState where
  | down | training | authenticating | joining | up | refused
  deriving DecidableEq, Repr

/-- A link block's content (Table 12-2) without acknowledgement, credits and CRC. -/
structure LinkBlock where
  seq : BitVec 12
  vc1 : Bool
  sof : Bool
  eof : Bool
  abort : Bool
  payload : List Byte
  deriving DecidableEq, Repr

/-- A Lantern frame (R414): header fields, tag, body; the bundle that it came in on, for transit. -/
structure LFrame where
  dest : Nat
  kind : Nat
  hops : Nat
  tag : Tag
  body : List Byte
  from' : Option (Nat × Time)
  deriving DecidableEq, Repr

/-- A bundle (R407 to R413, R421 to R427, R433 to R435, R443). -/
structure Bundle where
  state : BundleState
  adminUp : Bool
  width : Nat
  lanesOk : BitVec 16
  slow : Bool
  /-- Since when the peer has withheld all VC 1 credit while frames wait, and since when VC 1 credit has flowed, as the credit sample finds it (R424). -/
  starved : Option Time
  flowing : Option Time
  /-- When a join was last refused (R433). -/
  refusedAt : Time
  peerNode : Nat
  peerBundle : Nat
  /-- The peer's JOIN has been accepted: the bundle takes part in re-formations (Table 12-8, steps 4 and 5). -/
  accepted : Bool
  /-- Transcript hash of the SPDM session (R432), and the reason of the last refusal. -/
  transcript : BitVec 384
  reason : Nat
  /-- Sender: next SEQ, blocks kept with their replays, blocks waiting for credit, credits held. -/
  txSeq : BitVec 12
  unacked : List (LinkBlock × Nat)
  /-- Since when an acknowledgement has been awaited (R412). -/
  ackFrom : Time
  txq : List LinkBlock
  /-- The VC 1 frame whose last block still waits: it has started, and has not left (R68, R421). -/
  leaving : Option LFrame
  credit0 : Nat
  credit1 : Nat
  /-- Receiver: the next SEQ expected, bytes of the frame in progress on each VC, whole frames, blocks whose VC 1 credit is owed. -/
  rxNext : BitVec 12
  asm0 : List Byte
  asm1 : List Byte
  frames : List (Bool × List Byte)
  /-- LNK's distributor has refused the first of them for want of hold space (R51). -/
  refused : Bool
  owed1 : Nat
  /-- Frames that wait: VC 0, transit and local; the DWRR deficits in bytes (R421). -/
  ctl : List LFrame
  transit : List LFrame
  localQ : List LFrame
  transitDeficit : Nat
  localDeficit : Nat
  /-- TX_TIME of the last heartbeat received and its receive time (Table 12-6). -/
  lastTx : Time
  lastRx : Time
  /-- When the last heartbeat went out (R434). -/
  beatAt : Time
  /-- Link delay and the peer's offset in ps (Table 12-11). -/
  delayPs : Nat
  offsetPs : Int
  /-- What the peer last reported (R435). -/
  free : Option FreeCounts
  peerHops : Nat
  /-- Widths proposed by each end, and whether each has its standby lanes locked (R426, R427). -/
  proposed : Nat
  peerProposed : Nat
  locked : Bool
  peerLocked : Bool
  deriving DecidableEq, Repr

/-- A bundle after reset: DOWN, administratively up, full receive space at the peer (R413, Table 12-11). -/
def Bundle.reset : Bundle :=
  { state := .down, adminUp := true, width := 0, lanesOk := 0, slow := false, starved := none, flowing := none, refusedAt := 0, peerNode := 0, peerBundle := 0,
    accepted := false, transcript := 0, reason := 0, txSeq := 0, unacked := [], ackFrom := 0, txq := [], leaving := none, credit0 := 64, credit1 := 4096, rxNext := 0,
    asm0 := [], asm1 := [], frames := [], refused := false, owed1 := 0, ctl := [], transit := [], localQ := [], transitDeficit := 0, localDeficit := 0,
    lastTx := 0, lastRx := 0, beatAt := 0, delayPs := 0, offsetPs := 0, free := none, peerHops := 0, proposed := 0, peerProposed := 0,
    locked := false, peerLocked := false }

/-- Member states (Table 12-9). -/
inductive MemberState where
  | disabled | starting | forming | settled | rejoining
  deriving DecidableEq, Repr

/-- A route (R416): bundle, hops, whether its path crosses a slow link; and the bundle it moves to once no frame waits, with
whether that move may discard (R425). -/
structure RouteTo where
  bundle : Nat
  hops : Nat
  slowPath : Bool
  moveTo : Option (Nat × Nat)
  mayDiscard : Bool
  since : Time
  deriving DecidableEq, Repr

/-- A control message received or waiting: the bundle it came in on, its origin, EPOCH, MSG_SEQ and body. -/
structure CtlMsg where
  bundle : Nat
  hdr : CtlHdr
  body : CtlBody
  deriving DecidableEq, Repr

/-- A message that awaits its protocol's reply (R429): what was sent, from which members the reply is missing, resends made. -/
structure Awaited where
  dst : CtlTo
  bodies : List (BitVec 32 × CtlBody)
  missing : List Nat
  resends : Nat
  deriving DecidableEq, Repr

/-- Stages of Table 2-4 at the committing member. -/
inductive CommitStage where
  | token | prepare | decide | activate
  deriving DecidableEq, Repr

/-- A commit under way on this member (R74, R76). -/
structure Commit where
  version : Version
  stage : CommitStage
  /-- Members whose PREPARE_ACK or ACTIVATE_ACK has come; the latest activation time reported. -/
  acked : List Nat
  latest : Time
  failed : Option Status
  tAct : Time
  rollForward : Bool
  job : Option Job
  deriving DecidableEq, Repr

/-- A PREPARE or a pulled record in assembly: its version, its segments so far, and where it comes from. -/
structure Assembly where
  version : Version
  segs : List (Nat × List Byte)
  deriving DecidableEq, Repr

/-- A PREPARE held until its slot is FREE (R571). -/
structure HeldPrepare where
  version : Version
  changes : List Change
  org : Nat
  hdr : CtlHdr
  deriving DecidableEq, Repr

/-- R84 in progress: the target version, the other side's live versions still to be pulled, in order, and the bundle of the neighbour. -/
structure Adoption where
  target : Version
  live : List Version
  toPull : List Version
  roll : Bool
  /-- RETIREs received for slots that are still to be filled: slot, FORCE, T_DRAIN. -/
  retires : List (Nat × Bool × Time)
  deriving DecidableEq, Repr

/-- An ACTIVATE that has been received or decided (R66): T_ACT, whom to acknowledge it to (none for the committing member itself), whether
its record is durable, and when the version became active. -/
structure PendAct where
  version : Version
  tAct : Time
  hdr : Option CtlHdr
  durable : Bool
  done : Option Time
  deriving DecidableEq, Repr

/-- Membership, partition, token, clock, bundles and the commit protocol of the member. -/
structure StringSt where
  node : Nat
  stringId : W64
  keySlot : Nat
  mode : Nat
  heartbeatUs : Nat
  maxRttUs : Nat
  replayUs : Nat
  startupWaitMs : Nat
  /-- PARAMS that apply at the re-formation with CAUSE 4. -/
  pendParams : Option (Nat × Nat)
  state : MemberState
  /-- STARTING has not ended (R439). -/
  starting : Bool
  /-- When the wait of R439 began. -/
  waitFrom : Option Time
  epoch : BitVec 32
  highEpoch : BitVec 32
  msgSeq : BitVec 32
  bundles : SMap Bundle
  topos : List Topo
  /-- When the set last grew. -/
  toposAt : Time
  /-- REFORM and TOPO relayed: TYPE, origin, epoch (R436). -/
  relayed : List (Nat × Nat × Nat)
  members : List Nat
  topology : Nat
  routes : SMap (Option RouteTo)
  lead : Nat
  /-- PARTITION: 0 whole string, 1 lead side, 2 non-lead side (R437). -/
  partition : Nat
  leadSide : Bool
  priorLead : Nat
  /-- The reference membership with its epoch and lead node, once one is journalled (R437). -/
  refMembers : List Nat
  refEpoch : BitVec 32
  refLead : Nat
  rttExceeded : Bool
  measuredNs : Nat
  transitNs : Nat
  /-- The longest cut-through time of the interval that runs, once a frame has been relayed in it, and when it began (R447). -/
  transitMax : Option Nat
  transitAt : Time
  tokenSeq : BitVec 32
  /-- The holder; none while the lead node holds the token idle. -/
  holder : Option Nat
  /-- This member holds the token, or as lead node holds it idle. -/
  holdsToken : Bool
  /-- TOKEN_REQs not yet granted, oldest first. -/
  tokenQueue : List CtlHdr
  tokenAsked : Bool
  commit : Option Commit
  /-- A VERSION_COMMIT taken while an answered commit of this member, or its roll-forward, is under way: it comes next (R73, R77). -/
  nextCommit : Option Commit
  assembly : Option Assembly
  held : Option HeldPrepare
  adopt : Option Adoption
  /-- VERSION_BUILD_BEGIN with FORCE waiting for its slot: job and base version (R71). -/
  buildWait : Option (Job × Version)
  toActivate : Option PendAct
  /-- A VERSION_COMMIT that waits for what becomes of its version elsewhere (R442, R572). -/
  jobWait : Option (Job × Version)
  /-- Lead node: DRAIN_DONE received, per slot. -/
  drained : SMap (List Nat)
  /-- Slots whose retirement this member restarts once an activation is acknowledged everywhere (R70). -/
  toRetire : List Nat
  ctlIn : List CtlMsg
  /-- Messages that wait for the end of FORMING (R430). -/
  held0 : List (CtlTo × CtlBody)
  awaited : List Awaited
  /-- Messages acted on in this epoch: origin, MSG_SEQ, the reply to be given again (R429). -/
  seen : List (Nat × BitVec 32 × Option (CtlTo × CtlBody))
  /-- The bundle to the time parent, the frequency adjustment in ppb, LOCKED (R443). -/
  parent : Option Nat
  freqPpb : Int
  locked : Bool
  deriving DecidableEq, Repr

/-- A member without journalled settings: disabled, alone, its own lead node (Tables 12-9 and 12-11). -/
def StringSt.reset : StringSt :=
  { node := 0, stringId := 0, keySlot := 0, mode := 0, heartbeatUs := 100, maxRttUs := 200, replayUs := 4, startupWaitMs := 10000,
    pendParams := none, state := .disabled, starting := false, waitFrom := none, epoch := 0, highEpoch := 0, msgSeq := 0, bundles := [],
    topos := [], toposAt := 0, relayed := [], members := [0], topology := 0, routes := [], lead := 0, partition := 0, leadSide := true, priorLead := 0,
    refMembers := [], refEpoch := 0, refLead := 0, rttExceeded := false, measuredNs := 0, transitNs := 400, transitMax := none, transitAt := 0, tokenSeq := 0,
    holder := none, holdsToken := true, tokenQueue := [], tokenAsked := false, commit := none, nextCommit := none, assembly := none, held := none,
    adopt := none, buildWait := none, toActivate := none, jobWait := none, drained := [], toRetire := [], ctlIn := [], held0 := [], awaited := [], seen := [], parent := none,
    freqPpb := 0, locked := true }

end Sys2Proof
end

