-- ==== Sys2Proof/Parts/Mac.lean ====
section
/-! DEFINITION. State of the Ethernet ports (chapter 7). -/
namespace Sys2Proof

/-- Port states (Table 7-3). -/
inductive PortState where
  | none | adminDown | negotiating | training | locking | up
  deriving DecidableEq, Repr

/-- An Ethernet port (R247 to R270). -/
structure EthPort where
  state : PortState
  /-- Words 0 and 1 of the PORT_CONFIG in force (R269 before the first). -/
  w0 : W64
  w1 : W64
  /-- Bit p: the partner pauses priority p; when each pause ends. -/
  pausedByPeer : Byte
  pauseEnd : SMap Time
  /-- Bit p: the MAC holds the partner paused for priority p (R261). -/
  pausingPeer : Byte
  /-- Frames in the receive buffer, oldest first, each with the string time of its SFD (R257, R264). -/
  rx : List (Time × List Byte)
  /-- The distributor has refused the first of them for want of hold space (R51). -/
  rxRefused : Bool
  /-- Packets that TMG or LCP has handed over for transmission, oldest first. -/
  tx : List Pkt
  /-- The timestamp FIFO, oldest first: the two words of each entry (R270). -/
  tsFifo : List (W64 × W64)
  deriving DecidableEq, Repr

/-- No port. -/
def EthPort.none : EthPort :=
  { state := .none, w0 := 0, w1 := 0, pausedByPeer := 0, pauseEnd := [], pausingPeer := 0, rx := [], rxRefused := false, tx := [], tsFifo := [] }

/-- The Ethernet side. -/
structure Eth where
  /-- Mode of each octet (Table 7-1); 0 where unlisted. -/
  modes : SMap Nat
  ports : SMap EthPort
  /-- Polarity inversions of each octet as configured, receive lanes in [7:0] and transmit lanes in [15:8], and as in force (R269). -/
  polarity : SMap (BitVec 16)
  inForce : SMap (BitVec 16)
  deriving DecidableEq, Repr

/-- Every octet disabled (Table 7-8). -/
def Eth.reset : Eth := { modes := [], ports := [], polarity := [], inForce := [] }

end Sys2Proof
end

