-- ==== Sys2Proof/Parts/Observe.lean ====
section
/-! DEFINITION. State of observation (chapter 16): trace, streaming, the tap. -/
namespace Sys2Proof

/-- A trace record: its type and its words (R541, Tables 16-3 and 16-4). -/
structure TraceRec where
  kind : Nat
  words : List W64
  deriving DecidableEq, Repr

/-- Observation. -/
structure Observe where
  /-- MODE, SOURCES, SAMPLE_N, SLICE and SLICE_FILTER of OBS_TRACE_CONFIG. -/
  mode : Nat
  sources : BitVec 5
  sampleN : Nat
  slice : Nat
  sliceFilter : Bool
  /-- Slices whose headers are captured. -/
  headerCapture : List Nat
  /-- Data packets counted at each tagging point, and its last TRACE_ID count. -/
  counted : SMap Nat
  lastId : SMap Nat
  /-- Records on their way to OBS, oldest first. -/
  arriving : List TraceRec
  /-- The ring's records, oldest first, with the byte offsets of its head and tail. -/
  ring : List TraceRec
  head : Nat
  tail : Nat
  /-- String time of the last fault 0x1401 (R540). -/
  lostLogged : Option Time
  /-- Records lost since that report. -/
  lostSince : Nat
  /-- How many of the ring's oldest records have been streamed (R543). -/
  streamed : Nat
  /-- Streaming target: 0 none, 1 host, 2 port; its words; bytes written and consumed (R543). -/
  streamTarget : Nat
  streamWords : List W64
  streamBytes : Nat
  consumed : Nat
  tapEnable : Bool
  /-- The boundary-scan data register selected: 0 IDCODE, 1 boundary, 2 bypass (Table 16-5). -/
  scan : Nat
  deriving DecidableEq, Repr

/-- Trace off, nothing in the ring, header capture off for every slice (R542), the tap off (R544). -/
def Observe.reset : Observe :=
  { mode := 0, sources := 0, sampleN := 0, slice := 0, sliceFilter := false, headerCapture := [], counted := [], lastId := [],
    arriving := [], ring := [], head := 0, tail := 0, lostLogged := none, lostSince := 0, streamed := 0, streamTarget := 0, streamWords := [], streamBytes := 0,
    consumed := 0, tapEnable := false, scan := 0 }

end Sys2Proof
end

