-- ==== Sys2Proof/Parts/Out.lean ====
section
/-! DEFINITION. What the block sends to the outside, in the order in which it leaves (the model's own record). -/
namespace Sys2Proof

/-- One thing that leaves the block. -/
inductive Out where
  /-- A crossing block sent or re-sent from an island to another. -/
  | block (src dst : Nat) (b : Block)
  /-- A receiver's acknowledgement or refusal of a SEQ (R23). -/
  | ack (src dst : Nat) (seq : BitVec 7)
  | refuse (src dst : Nat) (seq : BitVec 7)
  /-- A credit returned to the source (R17). -/
  | credit (src dst : Nat)
  /-- A posted memory write to a host: port, half, PASID, address, bytes. -/
  | hostWrite (port : Nat) (half : Bool) (pasid : Option (BitVec 20)) (addr : W64) (data : List Byte)
  /-- A memory read issued to a host: a tag of the model, address, length. -/
  | hostRead (port : Nat) (half : Bool) (pasid : Option (BitVec 20)) (addr : W64) (len : Nat)
  /-- An ATS translation request, or an invalidation completion. -/
  | atsRequest (port : Nat) (pasid : Option (BitVec 20)) (page : Nat)
  | atsInvalidated (port : Nat) (tag : Nat)
  /-- An interrupt message (R193): address and data. -/
  | message (port : Nat) (half : Bool) (addr : W64) (data : BitVec 32)
  /-- An MSI-X message of a function's table entry (R198). -/
  | msix (port : Nat) (half : Bool) (entry : Nat)
  /-- A non-fatal AER message naming the address: completer abort (true) or Unsupported Request. -/
  | aer (port : Nat) (completerAbort : Bool) (bar off : Nat)
  /-- How a host read ended: data, Completer Abort, Unsupported Request. -/
  | readData (master : Nat) (v : W64)
  | readBytes (master : Nat) (bs : List Byte)
  | readAbort (port : Nat)
  | readUnsupported (port : Nat)
  /-- How a configuration request ended. -/
  | cfgRetry (port : Nat) (half : Bool)
  | cfgDone (port : Nat) (half : Bool) (v : BitVec 32)
  /-- A bus-error exception of an internal master (R144). -/
  | busError (master : Nat)
  /-- A response frame written for an internal sender or a slot (its 8 words). -/
  | response (ch : Nat) (words : List W64)
  /-- A string control message sent. -/
  | control (dst : CtlTo) (epoch : BitVec 32) (msgSeq : BitVec 32) (body : CtlBody)
  /-- An Ethernet frame, FCS included in `fcs`; `stomped` for an inverted FCS. -/
  | ethFrame (port : Nat) (bytes : List Byte) (fcs : BitVec 32) (stomped : Bool)
  /-- A PAUSE (no priorities) or PFC frame, with its quanta. -/
  | pauseFrame (port : Nat) (priorities : Byte) (pfc : Bool) (quanta : Nat)
  /-- A link block sent or replayed on a bundle: SEQ, VC, SOF, EOF, ABORT, payload (Table 12-2). -/
  | linkBlock (bundle : Nat) (seq : BitVec 12) (vc1 sof eof abort : Bool) (payload : List Byte)
  /-- What an end answers a block with: ACK_SEQ, NAK, credits returned on VC 0 and VC 1. -/
  | linkAck (bundle : Nat) (seq : BitVec 12) (nak : Bool) (credit0 credit1 : Nat)
  /-- A level or pulse on a package pin. -/
  | pin (name : String) (level : Bool)
  /-- Bytes read out through the OBS tap; a data register of the boundary-scan port, least significant bit first. -/
  | tap (bytes : List Byte)
  | scanOut (bits : List Bool)
  /-- A VDD_CORE target sent over AVSBus, in mV (R559). -/
  | avsTarget (mv : Nat)
  /-- A GDDR7 burst issued on a channel. -/
  | memBurst (channel : Nat) (write : Bool) (addr : Nat)
  /-- A journal line written. -/
  | journalLine (seq : Nat) (line : Nat)
  /-- An SPDM response on a path, ERROR or another, with its content. -/
  | spdm (path : Nat) (error : Bool) (bytes : List Byte)
  /-- An NVMe command, a TCP segment or a storage frame sent. -/
  | nvmeCommand (conn cid opcode : Nat) (lba blocks : Nat)
  | tcpSegment (conn : Nat) (kind : Nat)
  deriving DecidableEq, Repr

end Sys2Proof
end

