-- ==== Sys2Proof/Parts/Queue.lean ====
section
/-! DEFINITION. State of the queue pairs and the DMA engines (chapter 6). -/
namespace Sys2Proof

/-- The outcome recorded for a descriptor (R225 to R227): what its completion record will hold. -/
structure WorkOutcome where
  status : Nat
  progress : Nat
  bytes : Nat
  frag : Nat
  detail : Nat
  time : Time
  rxFlags : Nat
  deriving DecidableEq, Repr

/-- A host read outstanding for a work item: its address and length, what is left of its fragment behind it, whether the
fragment ends a frame, and whether it reads a fragment table entry. -/
structure ReadReq where
  addr : W64
  len : Nat
  left : Nat
  eof : Bool
  table : Bool
  deriving DecidableEq, Repr

/-- One entry of the holding area: reserved when its descriptor is fetched, freed when its record is on the ring (R230). -/
structure WorkItem where
  /-- Its ring index, with the wrap bit. -/
  index : Nat
  /-- The 8 words of the copy fetched; none while the first fetch is under way. -/
  words : List W64
  /-- A copy is held; false while it is being fetched, or fetched again after an invalidate (R215, R217). -/
  cached : Bool
  started : Bool
  /-- Bytes of frames passed to a pipeline, of a storage transfer handed on, or of a frame to be written; and the first fragment of the first frame not
  passed (R227). -/
  passed : Nat
  frag : Nat
  /-- The next fragment table entry to read, and the bytes of the frame or the transfer in progress. -/
  curFrag : Nat
  cur : List Byte
  req : Option ReadReq
  /-- ENTRY_TIME of the frame in progress (R31). -/
  entryTime : Option Time
  /-- The parts of the buffer still to be written or, for a RECEIVE that reads its fragments, read so far. -/
  parts : List (W64 × Nat)
  /-- Writes to the buffer that wait for a translation, and the bytes whose writes have left (R86). -/
  writes : List (W64 × List Byte)
  landed : Nat
  /-- SEND: its frame is read whole and waits for room in the distributor's hold (R51). -/
  stalled : Bool
  /-- RECEIVE: the frame assigned. -/
  frame : Option Pkt
  /-- STORAGE: the connection and identifier of the NVMe command sent for it, and whether it is other than a READ (R85, R476). -/
  sent : Option (Nat × Nat)
  /-- STORAGE: its command is ready to go out, in its turn (R477). -/
  ready : Bool
  isWrite : Bool
  /-- STORAGE: its NVMe completion has arrived (R85). -/
  answered : Bool
  outcome : Option WorkOutcome
  /-- The good outcome that waits until the writes have left, and for the FENCE read behind them (R228, R239). -/
  fencing : Option WorkOutcome
  deriving DecidableEq, Repr

/-- A descriptor fetch read that is outstanding: its first index, its number of descriptors, the entries invalidated since (R218), and when the fetch
was first issued (R233). -/
structure Fetch where
  first : Nat
  n : Nat
  inv : List Nat
  start : Time
  deriving DecidableEq, Repr

/-- A request of QDE for a queue pair that has not completed: a host read, or while `gone` is false the request for its translation (R99, R239, R240).
`no` counts requests, `time` is when it was issued; a descriptor fetch is known by its first index. -/
structure QdeReq where
  no : Nat
  qp : Nat
  index : Nat
  what : ReadWhat
  port : Nat
  half : Bool
  pasid : Option (BitVec 20)
  addr : W64
  len : Nat
  time : Time
  gone : Bool
  deriving DecidableEq, Repr

/-- A queue pair (R205 to R209). -/
structure QueuePair where
  valid : Bool
  slice : Nat
  /-- 0 SEND, 1 RECEIVE, 2 STORAGE. -/
  typ : Nat
  exception : Bool
  k : Nat
  channel : Nat
  vector : Byte
  eventAll : Bool
  prefetch : Nat
  timeoutUs : Nat
  workAddr : W64
  cqAddr : W64
  producer : Nat
  consumer : Nat
  cqConsumer : Nat
  dbRejects : BitVec 16
  lastReject : Nat
  fetchError : Bool
  /-- A record write was refused by translation (R573). -/
  recordRefused : Bool
  /-- Marked for fetching (R213). -/
  marked : Bool
  /-- Outstanding fetch reads, oldest first. -/
  fetching : List Fetch
  /-- The holding area, in ring order. -/
  items : List WorkItem
  /-- Aborts that wait for the entry to be fetched: index, SEQ, the command to answer (R232). -/
  aborts : List (Nat × BitVec 32 × Job)
  /-- Frames in receive staging (R234). -/
  staging : List Pkt
  /-- COMPLETION_PRESSURE has been signalled for the present pressure (R231). -/
  pressed : Bool
  deriving DecidableEq, Repr

/-- An unconfigured queue pair. -/
def QueuePair.none : QueuePair :=
  { valid := false, slice := 0, typ := 0, exception := false, k := 0, channel := 0, vector := 255, eventAll := false, prefetch := 0,
    timeoutUs := 0, workAddr := 0, cqAddr := 0, producer := 0, consumer := 0, cqConsumer := 0, dbRejects := 0, lastReject := 0,
    fetchError := false, recordRefused := false, marked := false, fetching := [], items := [], aborts := [], staging := [], pressed := false }

/-- A DMA channel (R236, R237). -/
structure DmaChannel where
  low : Nat
  high : Nat
  pendLow : Option Nat
  pendHigh : Option Nat
  /-- The fetcher runs. -/
  fetching : Bool
  /-- The queue pairs served last by the fetcher, and among those that start descriptors. -/
  lastQp : Nat
  lastStart : Nat
  deriving DecidableEq, Repr

/-- Reset thresholds (Table 6-8). -/
def DmaChannel.reset : DmaChannel := { low := 32, high := 96, pendLow := Option.none, pendHigh := Option.none, fetching := false, lastQp := 0, lastStart := 0 }

/-- An entry of an address translation cache (R239): PASID, base 2 logarithm of the page size, page number, and its permissions. -/
structure AtcEntry where
  pasid : Option (BitVec 20)
  log2 : Nat
  page : Nat
  read : Bool
  write : Bool
  deriving DecidableEq, Repr

/-- An ATS invalidation whose completion is owed (R240): its tag, the pages that it removed, and the number of the last request issued before it. -/
structure Inval where
  port : Nat
  tag : Nat
  pasid : Option (BitVec 20)
  page : Nat
  log2 : Nat
  upTo : Nat
  deriving DecidableEq, Repr

/-- The queue and DMA engines. -/
structure Qde where
  pairs : SMap QueuePair
  dma : SMap DmaChannel
  /-- The cache of each host port, newest first. -/
  atc : SMap (List AtcEntry)
  /-- ATS invalidations whose completion is owed (R240). -/
  invals : List Inval
  /-- Requests not completed, oldest first, and how many have been issued (the model's own). -/
  reqs : List QdeReq
  reqNo : Nat
  /-- The weighted arbiter of a port's channels (R176, R238): what each slice (at port * 4096 + slice) has been served, and where the port's service
  stands, both in bytes times 1,000,000 for each unit of WEIGHT. -/
  served : SMap Nat
  turn : SMap Nat
  /-- Frames that TMG has delivered to QDE and that it has not yet handled, oldest first. -/
  rxIn : List Pkt
  deriving DecidableEq, Repr

def Qde.reset : Qde := { pairs := [], dma := [], atc := [], invals := [], reqs := [], reqNo := 0, served := [], turn := [], rxIn := [] }

end Sys2Proof
end

