-- ==== Sys2Proof/Parts/Slice.lean ====
section
/-! DEFINITION. State of the slices and the interrupt unit (chapter 5). -/
namespace Sys2Proof

/-- Slice states (Table 5-2). -/
inductive SliceState where
  | free | active | quiescing | forcing | quiesced | halted | resetting
  deriving DecidableEq, Repr

/-- A resource profile (Table 5-1). -/
structure Profile where
  queuePairs : Nat
  vectors : Nat
  schedQueues : Nat
  policers : Nat
  securityAssocs : Nat
  storageConns : Nat
  threads : Nat
  threadSlots : Nat
  weight : Nat
  quiesceMs : Nat
  deriving DecidableEq, Repr

/-- The profile of a FREE slice: no quota. -/
def Profile.none : Profile :=
  { queuePairs := 0, vectors := 0, schedQueues := 0, policers := 0, securityAssocs := 0, storageConns := 0, threads := 0,
    threadSlots := 1, weight := 1, quiesceMs := 10 }

/-- Slice 0's profile at start-up (R574). -/
def Profile.slice0 : Profile :=
  { queuePairs := 256, vectors := 16, schedQueues := 608, policers := 1024, securityAssocs := 0, storageConns := 0,
    threads := 0, threadSlots := 1, weight := 100, quiesceMs := 10 }

/-- What a quiesce is part of: R186, R190, R192, R189, R162. -/
inductive QuiesceWhy where
  | quiesce | reset | destroy | portLoss | deviceReset
  deriving DecidableEq, Repr

/-- A quiesce under way or ended last (R186, R200). -/
structure Quiesce where
  why : QuiesceWhy
  /-- Step of Table 5-3 in progress; 0 when none runs. 8 is the model's own: step 7 is done and a destroy's record is on its way. -/
  step : Nat
  forced : Bool
  haltSeen : Bool
  hostLost : Bool
  /-- QDE has sent its marker (step 2a). -/
  qdeMarked : Bool
  start : Time
  timeoutMs : Nat
  withdrawn : W64
  faultCompletions : Nat
  discarded : Nat
  /-- The command to answer at the end. -/
  job : Option Job
  /-- The slice's state before it, to which a firmware restart takes the slice back (R160). -/
  before : SliceState
  deriving DecidableEq, Repr

/-- No quiesce. -/
def Quiesce.none : Quiesce :=
  { why := .quiesce, step := 0, forced := false, haltSeen := false, hostLost := false, qdeMarked := false, start := 0, timeoutMs := 0,
    withdrawn := 0, faultCompletions := 0, discarded := 0, job := Option.none, before := .active }

/-- One slice (R172 to R192). -/
structure Slice where
  state : SliceState
  port : Nat
  half : Bool
  pasid : BitVec 20
  profile : Profile
  /-- Fields of the last resize that have not taken effect: at the scheduler period, at the GDDR7 epoch. -/
  pendSched : Bool
  pendMem : Bool
  /-- Storage connections, DMA channels (with the WEIGHT that they still apply) and action-core threads on which they have not. -/
  pendSte : List Nat
  pendDma : List (Nat × Nat)
  pendThr : List Nat
  quiesce : Quiesce
  /-- String time of the last state change. -/
  changed : Time
  /-- EVENT_MAP: MAILBOX, SLICE_STATE, COMPLETION_PRESSURE, KEY_LOST (R197). -/
  evMailbox : Byte
  evState : Byte
  evPressure : Byte
  evKeyLost : Byte
  /-- Its keys were erased by an alarm and CRYPTO_SLICE_REARM has not followed (R467). -/
  keyLost : Bool
  deriving DecidableEq, Repr

/-- A slice that does not exist. -/
def Slice.free : Slice :=
  { state := .free, port := 0, half := false, pasid := 0, profile := Profile.none, pendSched := false, pendMem := false,
    pendSte := [], pendDma := [], pendThr := [], quiesce := Quiesce.none, changed := 0, evMailbox := 255, evState := 255,
    evPressure := 255, evKeyLost := 255, keyLost := false }

/-- Slice 0 at start-up: ACTIVE, served through the manager port, profile of R574. -/
def Slice.manager : Slice := { Slice.free with state := .active, profile := Profile.slice0 }

/-- An interrupt vector's store entry (R193). -/
structure Vec where
  address : W64
  data : BitVec 32
  mask : Bool
  countMax : Nat
  delayUs : Nat
  pending : Nat
  first : Time
  deriving DecidableEq, Repr

/-- Reset values of a store entry (R193). -/
def Vec.reset : Vec := { address := 0, data := 0, mask := true, countMax := 1, delayUs := 0, pending := 0, first := 0 }

/-- The slice manager and the interrupt unit. -/
structure Slices where
  /-- Slice n; slice 0 unlisted reads as at start-up, any other as FREE. -/
  slices : SMap Slice
  /-- Vector v of slice n at key 64 * n + v. -/
  vecs : SMap Vec
  deriving DecidableEq, Repr

def Slices.reset : Slices := { slices := [], vecs := [] }

end Sys2Proof
end

