-- ==== Sys2Proof/Parts/Tmg.lean ====
section
/-! DEFINITION. State of the traffic manager (chapter 11). -/
namespace Sys2Proof

/-- A port node's settings (Table 11-1). -/
structure TPort where
  overhead : Int
  rate : Nat
  burst : Nat
  pfcMap : BitVec 24
  deriving DecidableEq, Repr

/-- Start-up settings of port `p`: OVERHEAD 24 for an Ethernet port (R393), no shaping, PFC_MAP[c] = c (R396). -/
def TPort.reset (p : Nat) : TPort :=
  { overhead := if p < 64 then 24 else 0, rate := 0, burst := 0,
    pfcMap := BitVec.ofNat 24 (([0, 1, 2, 3, 4, 5, 6, 7] : List Nat).map (fun c => c * 8 ^ c)).sum }

/-- A slice group's settings. -/
structure TGroup where
  weight : Nat
  cir : Nat
  pir : Nat
  cbs : Nat
  pbs : Nat
  deriving DecidableEq, Repr

/-- What group `g` of a port reads as unlisted: group 0 always exists (R392); its WEIGHT is the model's choice (log 60). -/
def TGroup.atReset (g : Nat) : Option TGroup := if g = 0 then some ⟨1, 0, 0, 0, 0⟩ else none

/-- A slice node's settings. -/
structure TNode where
  group : Nat
  excClass : Nat
  peak : Nat
  peakBurst : Nat
  deriving DecidableEq, Repr

/-- What the node of a slice on a port reads as unlisted: slice 0 has one on every port at start-up (R392). -/
def TNode.atReset (port slice : Nat) : Option TNode := if slice = 0 ∧ port < 76 then some ⟨0, 0, 0, 0⟩ else none

/-- A class queue's settings; ALPHA as its code, 2^(code − 6). -/
structure TQueue where
  slice : Nat
  port : Nat
  cls : Nat
  prio : Nat
  cir : Nat
  pir : Nat
  cbs : Nat
  pbs : Nat
  qweight : Nat
  minCells : Nat
  maxCells : Nat
  alpha : Nat
  yellow : Nat
  red : Nat
  deriving DecidableEq, Repr

/-- Queue `q` at start-up: 8p + c is slice 0's queue of class c on port p (R392); its other settings are the model's choice (log 60). -/
def TQueue.atReset (q : Nat) : Option TQueue :=
  if q < 608 then
    some { slice := 0, port := q / 8, cls := q % 8, prio := 0, cir := 0, pir := 0, cbs := 0, pbs := 0, qweight := 1, minCells := 0,
           maxCells := 786432, alpha := 6, yellow := 100, red := 100 }
  else none

/-- Key of the queue map: port, slice, class. -/
def qmapKey (port slice cls : Nat) : Nat := (port * 4096 + slice) * 8 + cls

/-- The queue map at start-up: slice 0's queues, each for its class (R392). -/
def qmapAtReset (k : Nat) : Option Nat := if k / 8 % 4096 = 0 ∧ k / 32768 < 76 then some (8 * (k / 32768) + k % 8) else none

/-- A meter's configuration (Table 11-4): owner, RFC 4115, colour-aware, MARK, OVERHEAD, rates and bursts. -/
structure TMeter where
  owner : Nat
  mode : Bool
  aware : Bool
  mark : Bool
  overhead : Int
  cir : Nat
  pir : Nat
  cbs : Nat
  pbs : Nat
  deriving DecidableEq, Repr

/-- A flood list: ports 0 to 71, and host destinations (host port, queue pair). -/
structure TFlood where
  ports : BitVec 72
  hosts : List (Nat × Nat)
  deriving DecidableEq, Repr

/-- A mirror session. -/
structure TMirror where
  port : Nat
  truncate : Nat
  queue : Nat
  sampleN : Nat
  deriving DecidableEq, Repr

/-- Everything that the commands of Table 11-4 set. -/
structure TmgCfg where
  ports : SMap TPort
  /-- Group g of port p at key 16 * p + g. -/
  groups : SMap (Option TGroup)
  /-- Node of slice n on port p at key 4096 * p + n. -/
  nodes : SMap (Option TNode)
  /-- MAX_CELLS of a slice, 0 for no limit. -/
  limits : SMap Nat
  queues : SMap (Option TQueue)
  qmap : SMap (Option Nat)
  meters : SMap (Option TMeter)
  floods : SMap (Option TFlood)
  mirrors : SMap (Option TMirror)
  deriving DecidableEq, Repr

def TmgCfg.reset : TmgCfg :=
  { ports := [], groups := [], nodes := [], limits := [], queues := [], qmap := [], meters := [], floods := [], mirrors := [] }

/-- A meter's running state: buckets in 1/1,024 byte, last refill, counts (R385). -/
structure MeterRun where
  tc : Nat
  tp : Nat
  last : Time
  green : W64
  yellow : W64
  red : W64
  deriving DecidableEq, Repr

/-- A copy in the buffer: the stored packet that it shares with its sister copies, and the copy (R381). -/
structure TItem where
  store : Nat
  pkt : Pkt
  deriving DecidableEq, Repr

/-- A queue's running state. Shaper buckets are held as what has been spent of them, in 1/6,250 byte, so that one period gives back RATE
units for RATE kb/s (R393). -/
structure QueueRun where
  items : List TItem
  cSpent : Nat
  pSpent : Nat
  deficit : Int
  /-- The delay histogram's 8 bins (R400). -/
  bins : List Nat
  deriving DecidableEq, Repr

def QueueRun.empty : QueueRun := { items := [], cSpent := 0, pSpent := 0, deficit := 0, bins := [0, 0, 0, 0, 0, 0, 0, 0] }

/-- A group's or slice node's running state; `cursor` is that of its children. -/
structure NodeRun where
  cSpent : Nat
  pSpent : Nat
  deficit : Int
  cursor : Nat
  deriving DecidableEq, Repr

def NodeRun.empty : NodeRun := { cSpent := 0, pSpent := 0, deficit := 0, cursor := 0 }

/-- A port's running state: its bucket, the cursors over its groups for DWRR and for round robin, its control queue. -/
structure PortRun where
  spent : Nat
  cursor : Nat
  rr : Nat
  control : List Pkt
  deriving DecidableEq, Repr

def PortRun.empty : PortRun := { spent := 0, cursor := 0, rr := 0, control := [] }

/-- The traffic manager. -/
structure Tmg where
  /-- As commanded, and as in force since the last scheduler period (R399). -/
  cfg : TmgCfg
  live : TmgCfg
  /-- Commands not yet in force: SEQ of the journal record, opcode, slice node or queue number assigned, payload words. -/
  pend : List (Nat × Nat × Nat × List W64)
  /-- Packets received, oldest first. -/
  input : List Pkt
  queues : SMap QueueRun
  groups : SMap NodeRun
  nodes : SMap NodeRun
  ports : SMap PortRun
  meters : SMap (Option MeterRun)
  /-- Packets of each mirror session since the last copy (R382). -/
  mirrored : SMap Nat
  /-- Slices whose nodes have left arbitration (R398), and weights read at the last period. -/
  out : List Nat
  weights : SMap Nat
  periods : Nat
  /-- Next queue of the sampler (R401). -/
  sampleAt : Nat
  nextStore : Nat
  deriving DecidableEq, Repr

def Tmg.reset : Tmg :=
  { cfg := TmgCfg.reset, live := TmgCfg.reset, pend := [], input := [], queues := [], groups := [], nodes := [], ports := [], meters := [],
    mirrored := [], out := [], weights := [], periods := 0, sampleAt := 0, nextStore := 0 }

end Sys2Proof
end

