-- ==== Sys2Proof/Machine/State.lean ====
section
/-! DEFINITION. The state of one member, and the reasons for which a step can stop. -/
namespace Sys2Proof.Machine

/-- Faults. No meaning raises one: the spec gives every command an effect. The one name stands for the host's interface;
that it is never raised is neither safe nor unsafe. -/
inductive Fault where
  /-- Raised by no meaning. -/
  | unraised
  deriving DecidableEq, Repr

/-- Refusals. -/
inductive Refusal where
  /-- A command whose meaning is not written, by mnemonic. Safe: the block stops. -/
  | notModelled (mnemonic : String)
  /-- A command that names a unit which does not exist or carries data of another shape (`Instr.wf`). Raised by every
  meaning. Safe: such a command cannot be sent. -/
  | illFormed
  deriving DecidableEq, Repr

/-- The member: every register, memory, queue, pin and mode that the spec gives it. -/
structure Dev where
  fabric : Fabric
  /-- Host ports 0 to 2. -/
  ports : SMap HostPort
  /-- The MGR_PORT strap as read (R96). -/
  mgrPort : Nat
  regs : RegFile
  mgt : Mgt
  slices : Slices
  rules : Rules
  qde : Qde
  obs : Observe
  boot : Boot
  str : StringSt
  jnl : Jnl
  mem : Mem
  mtr : Mtr
  tru : Tru
  cry : Crypto
  eth : Eth
  act : Act
  tmg : Tmg
  /-- Observation counters: instance j of the counter with index i at key 65536 * i + j (R57). -/
  ctr : SMap W64
  /-- String time as the PTP hardware clock holds it (R16). -/
  now : Time
  /-- The model's own: how many free values have been drawn. -/
  freeCtr : Nat
  /-- The model's own: what has left the block, newest first. -/
  out : List Out
  deriving DecidableEq, Repr

/-- The member at power-on reset: every island at its reset values, nothing queued. -/
def Dev.reset : Dev :=
  { fabric := Fabric.reset, ports := [], mgrPort := 0, regs := RegFile.reset, mgt := Mgt.reset, slices := Slices.reset,
    rules := Rules.reset, qde := Qde.reset, obs := Observe.reset, boot := Boot.reset, str := StringSt.reset, jnl := Jnl.reset, mem := Mem.reset, mtr := Mtr.reset, tru := Tru.reset, cry := Crypto.reset, eth := Eth.reset, act := Act.reset, tmg := Tmg.reset, ctr := [], now := 0, freeCtr := 0, out := [] }

/-- The machine's state: the member, and the commands that wait for it. -/
structure State where
  dev : Dev
  /-- Commands waiting, first in first out. -/
  pending : List Instr
  deriving DecidableEq, Repr

/-- The machine right after reset: nothing waits. -/
def State.reset : State := { dev := Dev.reset, pending := [] }

/-- What a command does to the member, its queue left as it is. -/
def State.on (s : State) (f : Dev → Dev) : State := { s with dev := f s.dev }

end Sys2Proof.Machine
end

