-- ==== Sys2Proof/Parts/Counters.lean ====
section
/-! DEFINITION. The observation counters of the counter tables, one constructor each (R57 and the counter rule of each chapter). -/
namespace Sys2Proof

/-- The counters by name. -/
inductive Ctr where
  /-- XING_BLOCKS (R57). Instances: One per crossing channel. Counts: Blocks accepted -/
  | xingBlocks
  /-- XING_RESEND (R57). Instances: One per crossing channel. Counts: Blocks re-sent -/
  | xingResend
  /-- XING_POISON (R57). Instances: One per crossing channel. Counts: Blocks sent with POISON after three failed re-sends -/
  | xingPoison
  /-- XING_PKT_DROP (R57). Instances: One per island. Counts: Packets dropped for poisoned blocks or failed lookups -/
  | xingPktDrop
  /-- TAG_BAD (R57). Instances: One per island. Counts: Packets dropped because their tag failed R35 -/
  | tagBad
  /-- FWD_BAD_EGRESS (R57). Instances: One per pipeline. Counts: Packets directed to an unused or reserved port -/
  | fwdBadEgress
  /-- DIST_MIGRATIONS (R57). Instances: One per distributor. Counts: Buckets moved -/
  | distMigrations
  /-- DIST_HOLDS (R57). Instances: One per distributor. Counts: Moves made by holding -/
  | distHolds
  /-- DIST_HOLD_FULL (R57). Instances: One per distributor. Counts: Packets refused because a bucket's hold space was full -/
  | distHoldFull
  /-- DIST_SLOW_MARKS (R57). Instances: One per pipeline. Counts: Times the pipeline was marked slow -/
  | distSlowMarks
  /-- DIST_CFG_REJECT (R57). Instances: One. Counts: Distributor register writes refused under R55 -/
  | distCfgReject
  /-- VSLOT_BAD (R91). Instances: One per island. Counts: Packets dropped under R65 -/
  | vslotBad
  /-- LNK_AGED (R91). Instances: One per Lantern bundle. Counts: Packets dropped under R67 -/
  | lnkAged
  /-- VERSION_FORCED_DISCARD (R91). Instances: One per island. Counts: Packets discarded by forced retirement -/
  | versionForcedDiscard
  /-- VERSION_COMMITS (R91). Instances: One. Counts: Versions activated on this member -/
  | versionCommits
  /-- VERSION_ROLL_FORWARD (R91). Instances: One. Counts: Versions activated under R76 -/
  | versionRollForward
  /-- VERSION_CONFLICTS (R91). Instances: One. Counts: VERSION_CONFLICT responses -/
  | versionConflicts
  /-- STALE_PARTITION_REPLIES (R91). Instances: One. Counts: STALE_PARTITION responses -/
  | stalePartitionReplies
  /-- PARTITION_EVENTS (R91). Instances: One. Counts: Times this member found itself on a non-lead side -/
  | partitionEvents
  /-- HIF_RRS (R130). Instances: as the table says. Counts: Configuration requests answered with RRS -/
  | hifRrs
  /-- HIF_WRITE_STALLS (R130). Instances: as the table says. Counts: Register writes held because the posted-write buffer was in use (R119) -/
  | hifWriteStalls
  /-- HIF_XSTALL_ABORT (R130). Instances: as the table says. Counts: Register accesses ended at the 2 µs bound (R123) -/
  | hifXstallAbort
  /-- HIF_BAD_ACCESS (R130). Instances: as the table says. Counts: Register accesses of a size or alignment that R110 does not permit -/
  | hifBadAccess
  /-- HIF_BAR4_WRITE (R130). Instances: as the table says. Counts: Writes to BAR4 -/
  | hifBar4Write
  /-- HIF_REG_WRITE_DENIED (R130). Instances: as the table says. Counts: Register writes through a port other than the manager port -/
  | hifRegWriteDenied
  /-- HIF_WRONG_PORT (R130). Instances: as the table says. Counts: Slice page writes through a port that does not serve the slice -/
  | hifWrongPort
  /-- MBX_REQUESTS (R171). Instances: as the table says. Counts: Requests taken, on all channels -/
  | mbxRequests
  /-- MBX_REJECT (R171). Instances: as the table says. Counts: Writes rejected while FULL (R143, R144) -/
  | mbxReject
  /-- MBX_BIND_DENIED (R171). Instances: as the table says. Counts: Channel writes by a master other than the bound sender -/
  | mbxBindDenied
  /-- MBX_TIMEOUTS (R171). Instances: as the table says. Counts: Responses written by the response timer -/
  | mbxTimeouts
  /-- MBX_REPLAYS (R171). Instances: as the table says. Counts: Responses with REPLAYED set -/
  | mbxReplays
  /-- MGT_BIND_WRITE_DENIED (R171). Instances: as the table says. Counts: Binding writes not applied (R148) -/
  | mgtBindWriteDenied
  /-- MGT_WDOG_RESTARTS (R171). Instances: as the table says. Counts: Firmware watchdog restarts -/
  | mgtWdogRestarts
  /-- MGT_FAULT_OVERWRITE (R171). Instances: as the table says. Counts: Fault records overwritten -/
  | mgtFaultOverwrite
  /-- MGT_SEM_CONTENDED (R171). Instances: as the table says. Counts: Semaphore reads that lost a same-clock arbitration -/
  | mgtSemContended
  /-- MGT_SEM_BAD_RELEASE (R171). Instances: as the table says. Counts: Semaphore writes discarded under R168 -/
  | mgtSemBadRelease
  /-- MGT_SEM_FORCED (R171). Instances: as the table says. Counts: Semaphores freed by SEM_FORCE_RELEASE -/
  | mgtSemForced
  /-- SLC_QUIESCES (R204). Instances: One. Counts: Quiesces begun -/
  | slcQuiesces
  /-- SLC_FORCED (R204). Instances: One. Counts: Quiesces that entered FORCING -/
  | slcForced
  /-- SLC_FORCED_DISCARD (R204). Instances: One per island. Counts: Packets discarded under R187 -/
  | slcForcedDiscard
  /-- SLC_HALTS (R204). Instances: One. Counts: Slices halted -/
  | slcHalts
  /-- SLC_RESETS (R204). Instances: One. Counts: Slice resets completed -/
  | slcResets
  /-- SLC_RX_DROP (R204). Instances: One. Counts: Packets dropped at QDE under R184 -/
  | slcRxDrop
  /-- SLC_IDLE_DOORBELL (R204). Instances: One. Counts: Doorbells recorded without fetch under R184 -/
  | slcIdleDoorbell
  /-- SLC_RESIZE_REJECT (R204). Instances: One. Counts: SLICE_RESIZE commands that changed nothing -/
  | slcResizeReject
  /-- IEU_MESSAGES (R204). Instances: One per port. Counts: Interrupt messages sent -/
  | ieuMessages
  /-- IEU_WITHDRAWN (R204). Instances: One. Counts: Vectors withdrawn at step 4 -/
  | ieuWithdrawn
  /-- IEU_NO_ADDRESS (R204). Instances: One. Counts: Events for vectors whose ADDRESS is 0 -/
  | ieuNoAddress
  /-- QDE_DB_BAD_ACCESS (R246). Instances: One per port. Counts: Doorbell block writes refused under R211 -/
  | qdeDbBadAccess
  /-- QDE_DB_FOREIGN (R246). Instances: One per port. Counts: Doorbell words discarded under R212 -/
  | qdeDbForeign
  /-- QDE_DB_REJECT (R246). Instances: One. Counts: Doorbells rejected under R213 to R215 -/
  | qdeDbReject
  /-- QDE_INVAL_LATE (R246). Instances: One. Counts: Invalidated entries already started (R218) -/
  | qdeInvalLate
  /-- QDE_CQ_PRESSURE (R246). Instances: One. Counts: COMPLETION_PRESSURE events (R231) -/
  | qdeCqPressure
  /-- QDE_FETCH_ERROR (R246). Instances: One. Counts: Entries into FETCH_ERROR -/
  | qdeFetchError
  /-- QDE_MALFORMED (R246). Instances: One. Counts: Malformed descriptors -/
  | qdeMalformed
  /-- QDE_RX_NO_BUF (R246). Instances: One per port. Counts: Frames dropped with no buffer posted -/
  | qdeRxNoBuf
  /-- QDE_RX_STAGE_DROP (R246). Instances: One per port. Counts: Frames dropped at the staging limits -/
  | qdeRxStageDrop
  /-- QDE_RX_TOO_LONG (R246). Instances: One per port. Counts: Frames longer than their buffer -/
  | qdeRxTooLong
  /-- QDE_RX_BAD_QP (R246). Instances: One per port. Counts: Frames whose QUEUE names no configured RECEIVE queue pair (R234) -/
  | qdeRxBadQp
  /-- QDE_FAULT_COMPLETIONS (R246). Instances: One per port. Counts: Fault completions written -/
  | qdeFaultCompletions
  /-- DMA_BAD (R246). Instances: One per channel. Counts: Descriptors ended BAD -/
  | dmaBad
  /-- DMA_XLATE_FAULT (R246). Instances: One per port. Counts: Descriptors ended TRANSLATION_FAULT -/
  | dmaXlateFault
  /-- DMA_ATC_MISS (R246). Instances: One per port. Counts: Translation requests sent -/
  | dmaAtcMiss
  /-- DMA_ATC_INVAL (R246). Instances: One per port. Counts: ATS invalidation requests served -/
  | dmaAtcInval
  /-- DMA_CFG_REJECT (R246). Instances: One. Counts: DMA_CFG writes refused under R242 -/
  | dmaCfgReject
  /-- MAC_RX_FRAMES (R272). Instances: as the table says. Counts: Frames passed to the distributor and their bytes with FCS -/
  | macRxFrames
  /-- MAC_RX_BYTES (R272). Instances: as the table says. Counts: Frames passed to the distributor and their bytes with FCS -/
  | macRxBytes
  /-- MAC_TX_FRAMES (R272). Instances: as the table says. Counts: Frames transmitted whole and their bytes with FCS -/
  | macTxFrames
  /-- MAC_TX_BYTES (R272). Instances: as the table says. Counts: Frames transmitted whole and their bytes with FCS -/
  | macTxBytes
  /-- MAC_RX_BAD (R272). Instances: as the table says. Counts: Frames dropped under R258, overflow excepted -/
  | macRxBad
  /-- MAC_RX_CODE (R272). Instances: as the table says. Counts: Frames dropped for each cause of Table 7-4 -/
  | macRxCode
  /-- MAC_RX_RUNT (R272). Instances: as the table says. Counts: Frames dropped for each cause of Table 7-4 -/
  | macRxRunt
  /-- MAC_RX_OVERSIZE (R272). Instances: as the table says. Counts: Frames dropped for each cause of Table 7-4 -/
  | macRxOversize
  /-- MAC_RX_FCS (R272). Instances: as the table says. Counts: Frames dropped for each cause of Table 7-4 -/
  | macRxFcs
  /-- MAC_RX_ODD (R272). Instances: as the table says. Counts: Frames dropped for each cause of Table 7-4 -/
  | macRxOdd
  /-- MAC_RX_OVERFLOW (R272). Instances: as the table says. Counts: Frames dropped for a full receive buffer -/
  | macRxOverflow
  /-- MAC_RX_PAUSE (R272). Instances: as the table says. Counts: PAUSE and PFC frames received and sent -/
  | macRxPause
  /-- MAC_TX_PAUSE (R272). Instances: as the table says. Counts: PAUSE and PFC frames received and sent -/
  | macTxPause
  /-- MAC_FEC_CORRECTED (R272). Instances: as the table says. Counts: One per lane: FEC codewords corrected -/
  | macFecCorrected
  /-- MAC_FEC_UNCORRECTED (R272). Instances: as the table says. Counts: One per lane: FEC codewords uncorrectable -/
  | macFecUncorrected
  /-- MAC_LINK_DOWN (R272). Instances: as the table says. Counts: Links lost; autonegotiations and trainings that failed -/
  | macLinkDown
  /-- MAC_AN_FAIL (R272). Instances: as the table says. Counts: Links lost; autonegotiations and trainings that failed -/
  | macAnFail
  /-- MAC_TRAIN_FAIL (R272). Instances: as the table says. Counts: Links lost; autonegotiations and trainings that failed -/
  | macTrainFail
  /-- MAC_TX_DOWN_DROP (R272). Instances: as the table says. Counts: Frames discarded or stomped on transmit -/
  | macTxDownDrop
  /-- MAC_TX_OVERSIZE (R272). Instances: as the table says. Counts: Frames discarded or stomped on transmit -/
  | macTxOversize
  /-- MAC_TX_STOMPED (R272). Instances: as the table says. Counts: Frames discarded or stomped on transmit -/
  | macTxStomped
  /-- MAC_PTP_TS_LOST (R272). Instances: as the table says. Counts: Two-step timestamps not recorded -/
  | macPtpTsLost
  /-- PRS_PASSES (R300). Instances: as the table says. Counts: Passes started -/
  | prsPasses
  /-- PRS_SPILLS (R300). Instances: as the table says. Counts: Passes ended by spill (R275) -/
  | prsSpills
  /-- PRS_RETURNS (R300). Instances: as the table says. Counts: Passes begun for returns from action cores and the line cipher -/
  | prsReturns
  /-- PRS_INCOMPLETE (R300). Instances: as the table says. Counts: Packets flagged -/
  | prsIncomplete
  /-- PRS_MALFORMED (R300). Instances: as the table says. Counts: Packets flagged -/
  | prsMalformed
  /-- PRS_POLICY_DROP (R300). Instances: as the table says. Counts: Drops under Table 8-3 -/
  | prsPolicyDrop
  /-- PRS_OUTER_DROP (R300). Instances: as the table says. Counts: Drops under Table 8-3 -/
  | prsOuterDrop
  /-- PRS_PASS_OVERRUN (R300). Instances: as the table says. Counts: Drops under R276 -/
  | prsPassOverrun
  /-- PRS_CS_CORRECTED (R300). Instances: as the table says. Counts: Corrected words; packets dropped for uncorrectable words -/
  | prsCsCorrected
  /-- PRS_CS_UE (R300). Instances: as the table says. Counts: Corrected words; packets dropped for uncorrectable words -/
  | prsCsUe
  /-- CLS_LOOKUPS (R337). Instances: One per pipeline. Counts: Exact-match lookups; those that read GDDR7 -/
  | clsLookups
  /-- CLS_EXT_READS (R337). Instances: One per pipeline. Counts: Exact-match lookups; those that read GDDR7 -/
  | clsExtReads
  /-- CLS_NO_BINDING (R337). Instances: One per pipeline. Counts: R303, R306, KIND DROP -/
  | clsNoBinding
  /-- CLS_PLAN_MISS (R337). Instances: One per pipeline. Counts: R303, R306, KIND DROP -/
  | clsPlanMiss
  /-- CLS_ACTION_DROP (R337). Instances: One per pipeline. Counts: R303, R306, KIND DROP -/
  | clsActionDrop
  /-- CLS_EXT_POISON (R337). Instances: One per pipeline. Counts: Drops under R320 -/
  | clsExtPoison
  /-- CLS_STASH_INSERTS (R337). Instances: One per table. Counts: R319 -/
  | clsStashInserts
  /-- CLS_INSERT_FAIL (R337). Instances: One per table. Counts: R319 -/
  | clsInsertFail
  /-- FWD_L2_HIT (R337). Instances: One per pipeline. Counts: BRIDGE hits; floods -/
  | fwdL2Hit
  /-- FWD_FLOOD (R337). Instances: One per pipeline. Counts: BRIDGE hits; floods -/
  | fwdFlood
  /-- FWD_LEARNS (R337). Instances: One per pipeline. Counts: New entries; moves; flapping declared -/
  | fwdLearns
  /-- FWD_MOVES (R337). Instances: One per pipeline. Counts: New entries; moves; flapping declared -/
  | fwdMoves
  /-- FWD_FLAP (R337). Instances: One per pipeline. Counts: New entries; moves; flapping declared -/
  | fwdFlap
  /-- FWD_LIMIT_DROP (R337). Instances: One per pipeline. Counts: TENANT excess, by treatment -/
  | fwdLimitDrop
  /-- FWD_LIMIT_FLOOD (R337). Instances: One per pipeline. Counts: TENANT excess, by treatment -/
  | fwdLimitFlood
  /-- FWD_STATIC_MISMATCH (R337). Instances: One per pipeline. Counts: R326 -/
  | fwdStaticMismatch
  /-- FWD_STATIC_DROP (R337). Instances: One per pipeline. Counts: R326 -/
  | fwdStaticDrop
  /-- FWD_LEARN_FULL (R337). Instances: One per pipeline. Counts: R325 to R327 -/
  | fwdLearnFull
  /-- FWD_LEARN_OVERRUN (R337). Instances: One per pipeline. Counts: R325 to R327 -/
  | fwdLearnOverrun
  /-- FWD_AGED (R337). Instances: One per pipeline. Counts: R325 to R327 -/
  | fwdAged
  /-- FWD_ROUTE_MISS (R337). Instances: One per pipeline. Counts: LPM misses -/
  | fwdRouteMiss
  /-- FWD_LPM_MOVES (R337). Instances: One per replica. Counts: Entries moved by insertion -/
  | fwdLpmMoves
  /-- ACT_ISSUED (R377). Instances: One per core. Counts: Instructions issued -/
  | actIssued
  /-- ACT_DISPATCHED (R377). Instances: One per core. Counts: Packets placed in input queues -/
  | actDispatched
  /-- ACT_DISPATCH_DROP (R377). Instances: One per island. Counts: R350 -/
  | actDispatchDrop
  /-- ACT_NO_GROUP (R377). Instances: One per island. Counts: R350 -/
  | actNoGroup
  /-- ACT_SLICE_MISMATCH (R377). Instances: One per island. Counts: R350 -/
  | actSliceMismatch
  /-- ACT_PROGRAM_DROP (R377). Instances: One per core. Counts: KIND DROP; copies emitted -/
  | actProgramDrop
  /-- ACT_COPIES (R377). Instances: One per core. Counts: KIND DROP; copies emitted -/
  | actCopies
  /-- ACT_CREATED (R377). Instances: One per core. Counts: R359 -/
  | actCreated
  /-- ACT_CREATE_REFUSED (R377). Instances: One per core. Counts: R359 -/
  | actCreateRefused
  /-- ACT_CH_REFUSED (R377). Instances: One per core. Counts: Commits refused for a full queue -/
  | actChRefused
  /-- ACT_FAULTS (R377). Instances: One per core. Counts: R367, R368 -/
  | actFaults
  /-- ACT_FAULT_DROP (R377). Instances: One per core. Counts: R367, R368 -/
  | actFaultDrop
  /-- ACT_PARKED (R377). Instances: One per core. Counts: R367, R368 -/
  | actParked
  /-- ACT_DEADLOCK (R377). Instances: One per core. Counts: R365 -/
  | actDeadlock
  /-- TMG_ENQ (R406). Instances: One per port. Counts: Copies admitted; copies dequeued -/
  | tmgEnq
  /-- TMG_DEQ (R406). Instances: One per port. Counts: Copies admitted; copies dequeued -/
  | tmgDeq
  /-- TMG_DROP_GREEN (R406). Instances: One per port. Counts: Copies refused at admission (R388) -/
  | tmgDropGreen
  /-- TMG_DROP_YELLOW (R406). Instances: One per port. Counts: Copies refused at admission (R388) -/
  | tmgDropYellow
  /-- TMG_DROP_RED (R406). Instances: One per port. Counts: Copies refused at admission (R388) -/
  | tmgDropRed
  /-- TMG_POLICE_DROP (R406). Instances: One per port. Counts: Packets dropped red under RED_ACTION 0 -/
  | tmgPoliceDrop
  /-- TMG_BAD_QUEUE (R406). Instances: One. Counts: R380, R381 -/
  | tmgBadQueue
  /-- TMG_NO_QUEUE (R406). Instances: One. Counts: R380, R381 -/
  | tmgNoQueue
  /-- TMG_FLOOD_EMPTY (R406). Instances: One. Counts: R380, R381 -/
  | tmgFloodEmpty
  /-- TMG_POLICER_FOREIGN (R406). Instances: One. Counts: R384 -/
  | tmgPolicerForeign
  /-- TMG_CTRL_DROP (R406). Instances: One per port. Counts: R383 -/
  | tmgCtrlDrop
  /-- TMG_MIRROR_COPIES (R406). Instances: One. Counts: Copies made -/
  | tmgMirrorCopies
  /-- TMG_FLOOD_COPIES (R406). Instances: One. Counts: Copies made -/
  | tmgFloodCopies
  /-- TMG_CELL_UE (R406). Instances: One. Counts: R391 -/
  | tmgCellUe
  /-- LNK_TX_FRAMES (R449). Instances: One per bundle. Counts: Frames and body bytes -/
  | lnkTxFrames
  /-- LNK_TX_BYTES (R449). Instances: One per bundle. Counts: Frames and body bytes -/
  | lnkTxBytes
  /-- LNK_RX_FRAMES (R449). Instances: One per bundle. Counts: Frames and body bytes -/
  | lnkRxFrames
  /-- LNK_RX_BYTES (R449). Instances: One per bundle. Counts: Frames and body bytes -/
  | lnkRxBytes
  /-- LNK_TRANSIT (R449). Instances: One per bundle. Counts: Frames relayed out of the bundle -/
  | lnkTransit
  /-- LNK_REPLAYS (R449). Instances: One per bundle. Counts: Blocks replayed; blocks refused -/
  | lnkReplays
  /-- LNK_BLOCK_CRC (R449). Instances: One per bundle. Counts: Blocks replayed; blocks refused -/
  | lnkBlockCrc
  /-- LNK_HDR_BAD (R449). Instances: One per bundle. Counts: R415, R418, R423 -/
  | lnkHdrBad
  /-- LNK_TTL_DROP (R449). Instances: One per bundle. Counts: R415, R418, R423 -/
  | lnkTtlDrop
  /-- LNK_NO_ROUTE (R449). Instances: One per bundle. Counts: R415, R418, R423 -/
  | lnkNoRoute
  /-- LNK_ABORTED (R449). Instances: One per bundle. Counts: R415, R418, R423 -/
  | lnkAborted
  /-- LNK_REROUTE_DISCARD (R449). Instances: One per bundle. Counts: R425 -/
  | lnkRerouteDiscard
  /-- LNK_SHED (R449). Instances: One per bundle. Counts: Width changes; lanes lost -/
  | lnkShed
  /-- LNK_RESTORE (R449). Instances: One per bundle. Counts: Width changes; lanes lost -/
  | lnkRestore
  /-- LNK_LANE_FAIL (R449). Instances: One per bundle. Counts: Width changes; lanes lost -/
  | lnkLaneFail
  /-- LNK_HB_MISSED (R449). Instances: One per bundle. Counts: R434, R433 -/
  | lnkHbMissed
  /-- LNK_JOIN_REFUSED (R449). Instances: One per bundle. Counts: R434, R433 -/
  | lnkJoinRefused
  /-- LNK_REFORMS (R449). Instances: One. Counts: R436, R429, R430, R445 -/
  | lnkReforms
  /-- LNK_CTRL_RESEND (R449). Instances: One. Counts: R436, R429, R430, R445 -/
  | lnkCtrlResend
  /-- LNK_STALE_EPOCH (R449). Instances: One. Counts: R436, R429, R430, R445 -/
  | lnkStaleEpoch
  /-- LNK_CFG_REJECT (R449). Instances: One. Counts: R436, R429, R430, R445 -/
  | lnkCfgReject
  /-- LCP_DEC_PKTS (R483). Instances: One per pipeline; one per Ethernet octet. Counts: Packets decrypted; packets encrypted -/
  | lcpDecPkts
  /-- LCP_ENC_PKTS (R483). Instances: One per pipeline; one per Ethernet octet. Counts: Packets decrypted; packets encrypted -/
  | lcpEncPkts
  /-- LCP_DEC_FAIL_SA (R483). Instances: One. Counts: Table 13-2 -/
  | lcpDecFailSa
  /-- LCP_DEC_FAIL_HDR (R483). Instances: One. Counts: Table 13-2 -/
  | lcpDecFailHdr
  /-- LCP_REPLAY (R483). Instances: One. Counts: Table 13-2 -/
  | lcpReplay
  /-- LCP_DEC_FAIL_ICV (R483). Instances: One. Counts: Table 13-2 -/
  | lcpDecFailIcv
  /-- LCP_DEC_FAIL_TRAILER (R483). Instances: One. Counts: Table 13-2 -/
  | lcpDecFailTrailer
  /-- LCP_SA_MISS (R483). Instances: One. Counts: R452, R460, R466 -/
  | lcpSaMiss
  /-- LCP_KEY_LOST_DROP (R483). Instances: One. Counts: R452, R460, R466 -/
  | lcpKeyLostDrop
  /-- LCP_TX_TOO_LONG (R483). Instances: One. Counts: R452, R460, R466 -/
  | lcpTxTooLong
  /-- LCP_TX_BAD_HDR (R483). Instances: One. Counts: R452, R460, R466 -/
  | lcpTxBadHdr
  /-- STE_CMDS (R483). Instances: One per host port. Counts: Storage commands issued; data bytes -/
  | steCmds
  /-- STE_READ_BYTES (R483). Instances: One per host port. Counts: Storage commands issued; data bytes -/
  | steReadBytes
  /-- STE_WRITE_BYTES (R483). Instances: One per host port. Counts: Storage commands issued; data bytes -/
  | steWriteBytes
  /-- STE_CONN_FAIL (R483). Instances: One. Counts: R473, R471, R477, R469 -/
  | steConnFail
  /-- STE_RX_NO_CONN (R483). Instances: One. Counts: R473, R471, R477, R469 -/
  | steRxNoConn
  /-- STE_LATE_CQE (R483). Instances: One. Counts: R473, R471, R477, R469 -/
  | steLateCqe
  /-- STE_GCM_REFUSED (R483). Instances: One. Counts: R473, R471, R477, R469 -/
  | steGcmRefused
  /-- MEM_READS (R507). Instances: One per channel. Counts: Bursts issued -/
  | memReads
  /-- MEM_WRITES (R507). Instances: One per channel. Counts: Bursts issued -/
  | memWrites
  /-- MEM_CRC_RETRY (R507). Instances: One per channel. Counts: R491 -/
  | memCrcRetry
  /-- MEM_POISON (R507). Instances: One per channel. Counts: R491 -/
  | memPoison
  /-- MEM_STAGE_POISON (R507). Instances: One. Counts: R491 -/
  | memStagePoison
  /-- MEM_RH_THROTTLE (R507). Instances: One per channel. Counts: R493 -/
  | memRhThrottle
  /-- MEM_RETRAINS (R507). Instances: One. Counts: R494, R504 -/
  | memRetrains
  /-- MEM_CFG_REJECT (R507). Instances: One. Counts: R494, R504 -/
  | memCfgReject
  /-- JNL_RECORDS (R507). Instances: One. Counts: Records made durable; lines written -/
  | jnlRecords
  /-- JNL_LINES (R507). Instances: One. Counts: Records made durable; lines written -/
  | jnlLines
  /-- JNL_RETIRED (R507). Instances: One. Counts: R496; torn records discarded at replay -/
  | jnlRetired
  /-- JNL_TORN (R507). Instances: One. Counts: R496; torn records discarded at replay -/
  | jnlTorn
  /-- TRU_ALARMS (R529). Instances: One per source. Counts: R515 -/
  | truAlarms
  /-- TRU_SPDM_SESSIONS (R529). Instances: One per path. Counts: Sessions established; requests answered with an SPDM error -/
  | truSpdmSessions
  /-- TRU_SPDM_FAIL (R529). Instances: One per path. Counts: Sessions established; requests answered with an SPDM error -/
  | truSpdmFail
  /-- MTR_LATE (R529). Instances: One. Counts: R521 -/
  | mtrLate
  /-- MTR_SELF_MARKS (R529). Instances: One. Counts: R520, R523 -/
  | mtrSelfMarks
  /-- MTR_LOST_PERIODS (R529). Instances: One. Counts: R520, R523 -/
  | mtrLostPeriods
  /-- OBS_TRACE_RECORDS (R549). Instances: as the table says. Counts: Records written to the trace buffer -/
  | obsTraceRecords
  /-- OBS_TRACE_LOST (R549). Instances: as the table says. Counts: Records overwritten or discarded (R540) -/
  | obsTraceLost
  /-- OBS_STREAM_BYTES (R549). Instances: as the table says. Counts: Bytes streamed -/
  | obsStreamBytes
  /-- OBS_TAP_READS (R549). Instances: as the table says. Counts: Tap transactions while enabled -/
  | obsTapReads
  deriving DecidableEq, Repr

end Sys2Proof
end

