-- ==== Sys2Proof/WellFormed.lean ====
section
/-! DEFINITION. Well-formed commands: units that exist, data of the right shape. -/
namespace Sys2Proof

/-- A channel number of R133, and the 7 inline words of a request frame (R149). -/
def cmdWf (ch : Nat) (r : Req) : Bool := decide (ch < 4352) && decide (r.inline.length = 7)

/-- A master that may send register accesses: a Lamplighter core or a host port (R107, R132). -/
def masterWf (m : Nat) : Bool := (decide (1 ≤ m) && decide (m ≤ 4)) || (decide (8 ≤ m) && decide (m ≤ 10))

/-- A read of a BAR's window; masters inside the device read BAR0's register file only. -/
def readWf (r : HostRead) : Bool :=
  (decide (1 ≤ r.master) && decide (r.master ≤ 5) || decide (8 ≤ r.master) && decide (r.master ≤ 10) ||
    decide (16 ≤ r.master) && decide (r.master ≤ 18) || decide (32 ≤ r.master) && decide (r.master ≤ 95)) && decide (r.bar < 3) && decide (0 < r.len) &&
    decide (r.off + r.len ≤ if r.bar = 1 then 2 ^ 28 else 2 ^ 26) && (decide (8 ≤ r.master) && decide (r.master ≤ 10) || decide (r.bar = 0))

/-- A register access of a master that may send it. -/
def accessWf (a : RegAccess) : Bool :=
  match a with
  | .write w => masterWf w.master
  | .read r => readWf r

/-- A master identity of Table 4-1. -/
def mbxMasterWf (m : Nat) : Bool :=
  (decide (1 ≤ m) && decide (m ≤ 5)) || (decide (8 ≤ m) && decide (m ≤ 10)) || (decide (16 ≤ m) && decide (m ≤ 18)) ||
    (decide (32 ≤ m) && decide (m ≤ 95))

/-- A unit that passes drain markers: pipelines 0 to 7, then 8 TMG, 9 STE, 10 LCP (decryption), and the egress units
11 NETW, 12 NETE, 13 LNK, 14 QDE, 15 MGT, 16 LCP on egress (R68). -/
def unitWf (u : Nat) : Bool := decide (u < 17)

/-- A GDDR7 request of a slice or of MGT, to a bank of 0 to 31 and a 64-byte line. -/
def lineWf (line : Nat) : Bool := decide (line < 2 ^ 30)

/-- CROSSING_BLOCK_RECEIVE is well formed. -/
def Wf.crossingBlockReceive (src : Nat) (dst : Nat) (b : Block) : Bool := decide (src < 18) && decide (dst < 18) && decide (b.data.length = 64)

/-- BLOCK_ACKNOWLEDGEMENT is well formed. -/
def Wf.blockAcknowledgement (src : Nat) (dst : Nat) (_ : BitVec 7) : Bool := decide (src < 18) && decide (dst < 18)

/-- BLOCK_REFUSAL is well formed. -/
def Wf.blockRefusal (src : Nat) (dst : Nat) (_ : BitVec 7) : Bool := decide (src < 18) && decide (dst < 18)

/-- CROSSING_ACK_TIMEOUT is well formed. -/
def Wf.crossingAckTimeout (src : Nat) (dst : Nat) (_ : BitVec 7) : Bool := decide (src < 18) && decide (dst < 18)

/-- CREDIT_RETURN is well formed. -/
def Wf.creditReturn (src : Nat) (dst : Nat) : Bool := decide (src < 18) && decide (dst < 18)

/-- DISTRIBUTOR_SEND is well formed. -/
def Wf.distributorSend (d : Nat) : Bool := decide (d < 8)

/-- BUCKET_IN_FLIGHT_END is well formed. -/
def Wf.bucketInFlightEnd (d : Nat) (b : Nat) : Bool := decide (d < 8) && decide (b < 4096)

/-- PIPELINE_MARKED_SLOW is well formed. -/
def Wf.pipelineMarkedSlow (k : Nat) : Bool := decide (k < 8)

/-- SLOW_MARK_CLEARED is well formed. -/
def Wf.slowMarkCleared (k : Nat) : Bool := decide (k < 8)

/-- DIST_CFG_WRITE is well formed. -/
def Wf.distCfgWrite (w : RegWrite) : Bool := masterWf w.master

/-- VERSION_QUERY is well formed. -/
def Wf.versionQuery (ch : Nat) (r : Req) : Bool := cmdWf ch r

/-- VERSION_BUILD_BEGIN is well formed. -/
def Wf.versionBuildBegin (ch : Nat) (r : Req) : Bool := cmdWf ch r

/-- VERSION_COMMIT is well formed. -/
def Wf.versionCommit (ch : Nat) (r : Req) : Bool := cmdWf ch r

/-- VERSION_BUILD_ABORT is well formed. -/
def Wf.versionBuildAbort (ch : Nat) (r : Req) : Bool := cmdWf ch r

/-- QUEUE_RECOVERY_READ is well formed. -/
def Wf.queueRecoveryRead (ch : Nat) (r : Req) : Bool := cmdWf ch r

/-- TOKEN_REQ_RECEIVE is well formed. -/
def Wf.tokenReqReceive : Bool := true

/-- TOKEN_GRANT_RECEIVE is well formed. -/
def Wf.tokenGrantReceive : Bool := true

/-- TOKEN_RELEASE_RECEIVE is well formed. -/
def Wf.tokenReleaseReceive : Bool := true

/-- PREPARE_DATA_RECEIVE is well formed. -/
def Wf.prepareDataReceive : Bool := true

/-- PREPARE_END_RECEIVE is well formed. -/
def Wf.prepareEndReceive : Bool := true

/-- PREPARE_ACK_RECEIVE is well formed. -/
def Wf.prepareAckReceive : Bool := true

/-- PREPARE_WITHDRAW_RECEIVE is well formed. -/
def Wf.prepareWithdrawReceive : Bool := true

/-- ACTIVATE_RECEIVE is well formed. -/
def Wf.activateReceive : Bool := true

/-- ACTIVATION is well formed. -/
def Wf.activation : Bool := true

/-- ACTIVATE_ACK_RECEIVE is well formed. -/
def Wf.activateAckReceive : Bool := true

/-- RETIRE_RECEIVE is well formed. -/
def Wf.retireReceive : Bool := true

/-- VERSION_DRAIN_START is well formed. -/
def Wf.versionDrainStart (slot : Nat) : Bool := decide (slot < 8)

/-- DRAIN_MARKER_PASS is well formed. -/
def Wf.drainMarkerPass (unit : Nat) (slot : Nat) : Bool := decide (slot < 8) && unitWf unit

/-- DRAIN_DONE_RECEIVE is well formed. -/
def Wf.drainDoneReceive : Bool := true

/-- SLOT_FREE_RECEIVE is well formed. -/
def Wf.slotFreeReceive : Bool := true

/-- PULL_REQ_RECEIVE is well formed. -/
def Wf.pullReqReceive : Bool := true

/-- PULL_DATA_RECEIVE is well formed. -/
def Wf.pullDataReceive : Bool := true

/-- PERST_ASSERT is well formed. -/
def Wf.perstAssert (port : Nat) : Bool := decide (port < 3)

/-- PERST_DEASSERT is well formed. -/
def Wf.perstDeassert (port : Nat) (_ : Bool) : Bool := decide (port < 3)

/-- LINK_DOWN is well formed. -/
def Wf.linkDown (port : Nat) (_ : Bool) : Bool := decide (port < 3)

/-- LINK_UP is well formed. -/
def Wf.linkUp (port : Nat) (_ : Bool) (_ : BitVec 3) (_ : Bool) (_ : BitVec 5) : Bool := decide (port < 3)

/-- D3HOT_ENTRY is well formed. -/
def Wf.d3hotEntry (port : Nat) (_ : Bool) : Bool := decide (port < 3)

/-- D0_RETURN is well formed. -/
def Wf.d0Return (port : Nat) (_ : Bool) : Bool := decide (port < 3)

/-- CONFIGURATION_REQUEST is well formed. -/
def Wf.configurationRequest (port : Nat) (_ : Bool) (q : CfgReq) : Bool :=
  decide (port < 3) && (match q with
    | .writeBar n _ => decide (n < 6)
    | .read off => decide (off < 64) && decide (off % 4 = 0)
    | _ => true)

/-- BAR4_WRITE is well formed. -/
def Wf.bar4Write (port : Nat) (off : Nat) : Bool := decide (port < 3) && decide (off < 2 ^ 26)

/-- REGISTER_WRITE is well formed. -/
def Wf.registerWrite (w : RegWrite) (others : List RegAccess) : Bool := masterWf w.master && others.all accessWf

/-- SET_ALIAS_WRITE is well formed. -/
def Wf.setAliasWrite (w : RegWrite) : Bool := masterWf w.master

/-- CLEAR_ALIAS_WRITE is well formed. -/
def Wf.clearAliasWrite (w : RegWrite) : Bool := masterWf w.master

/-- TOGGLE_ALIAS_WRITE is well formed. -/
def Wf.toggleAliasWrite (w : RegWrite) : Bool := masterWf w.master

/-- WRITE_ACKNOWLEDGE is well formed. -/
def Wf.writeAcknowledge (port : Nat) (island : Nat) : Bool := decide (port < 3) && decide (island < 18)

/-- LOW_WORD_READ is well formed. -/
def Wf.lowWordRead (r : HostRead) (others : List RegAccess) : Bool := readWf r && others.all accessWf

/-- REGISTER_STALL_TIMEOUT is well formed. -/
def Wf.registerStallTimeout (port : Nat) (island : Nat) (off : Nat) (_ : Bool) : Bool := decide (port < 3) && decide (island < 18) && decide (off < 2 ^ 26)

/-- DOORBELL_HOLD_TIMEOUT is well formed. -/
def Wf.doorbellHoldTimeout (port : Nat) : Bool := decide (port < 3)

/-- MBX_REQUEST_WRITE is well formed. -/
def Wf.mbxRequestWrite (m : Nat) (_ : Bool) (ch : Nat) (off : Nat) (bs : List Byte) : Bool := mbxMasterWf m && decide (ch < 4352) && decide (off < if ch < 4096 then 4096 else 256) && decide (0 < bs.length)

/-- POST is well formed. -/
def Wf.postRequest (m : Nat) (_ : Bool) (ch : Nat) (_ : Bool) : Bool := mbxMasterWf m && decide (ch < 4352)

/-- TAKEN is well formed. -/
def Wf.taken (m : Nat) (_ : Bool) (ch : Nat) : Bool := mbxMasterWf m && decide (ch < 4352)

/-- REQUEST_TAKE is well formed. -/
def Wf.requestTake (ch : Nat) (_ : HostIO) : Bool := decide (ch < 4352)

/-- MAILBOX_RESPONSE_TIMEOUT is well formed. -/
def Wf.mailboxResponseTimeout (ch : Nat) : Bool := decide (ch < 4352)

/-- MGT_BIND_WRITE is well formed. -/
def Wf.mgtBindWrite (w : RegWrite) : Bool := masterWf w.master

/-- BIND_LOCK is well formed. -/
def Wf.bindLock (w : RegWrite) : Bool := masterWf w.master

/-- FIRMWARE_WATCHDOG is well formed. -/
def Wf.firmwareWatchdog (_ : W64) : Bool := true

/-- FIRMWARE_RESTART_COMPLETE is well formed. -/
def Wf.firmwareRestartComplete (_ : BitVec 32) : Bool := true

/-- SEMAPHORE_READ is well formed. -/
def Wf.semaphoreRead (ms : List (Nat × Bool)) (k : Nat) : Bool := decide (k < 128) && ms.all (fun e => mbxMasterWf e.1) && decide (0 < ms.length)

/-- SEMAPHORE_RELEASE is well formed. -/
def Wf.semaphoreRelease (m : Nat) (k : Nat) (_ : W64) (_ : Bool) : Bool := mbxMasterWf m && decide (k < 128)

/-- DEVICE_INFO is well formed. -/
def Wf.deviceInfo (ch : Nat) (r : Req) : Bool := cmdWf ch r

/-- READY_STATUS is well formed. -/
def Wf.readyStatus (ch : Nat) (r : Req) : Bool := cmdWf ch r

/-- CHANNEL_CONFIG is well formed. -/
def Wf.channelConfig (ch : Nat) (r : Req) : Bool := cmdWf ch r

/-- CMD_RESULT is well formed. -/
def Wf.cmdResult (ch : Nat) (r : Req) : Bool := cmdWf ch r

/-- WATCHDOG_CONFIG is well formed. -/
def Wf.watchdogConfig (ch : Nat) (r : Req) : Bool := cmdWf ch r

/-- FAULT_LOG_READ is well formed. -/
def Wf.faultLogRead (ch : Nat) (r : Req) : Bool := cmdWf ch r

/-- SEM_FORCE_RELEASE is well formed. -/
def Wf.semForceRelease (ch : Nat) (r : Req) : Bool := cmdWf ch r

/-- DEVICE_RESET is well formed. -/
def Wf.deviceReset (ch : Nat) (r : Req) : Bool := cmdWf ch r

/-- DEVICE_RESET_EXECUTE is well formed. -/
def Wf.deviceResetExecute : Bool := true

/-- SLICE_CREATE is well formed. -/
def Wf.sliceCreate (ch : Nat) (r : Req) : Bool := cmdWf ch r

/-- SLICE_RESIZE is well formed. -/
def Wf.sliceResize (ch : Nat) (r : Req) : Bool := cmdWf ch r

/-- SLICE_QUERY is well formed. -/
def Wf.sliceQuery (ch : Nat) (r : Req) : Bool := cmdWf ch r

/-- SLICE_QUIESCE is well formed. -/
def Wf.sliceQuiesce (ch : Nat) (r : Req) : Bool := cmdWf ch r

/-- SLICE_RESET is well formed. -/
def Wf.sliceReset (ch : Nat) (r : Req) : Bool := cmdWf ch r

/-- SLICE_DESTROY is well formed. -/
def Wf.sliceDestroy (ch : Nat) (r : Req) : Bool := cmdWf ch r

/-- SLICE_DRAIN_MARKER_PASS is well formed. -/
def Wf.sliceDrainMarkerPass (unit : Nat) (sl : Nat) : Bool := decide (sl < 4096) && unitWf unit

/-- QUIESCE_DRAINED is well formed. -/
def Wf.quiesceDrained (sl : Nat) : Bool := decide (sl < 4096)

/-- QUIESCE_TIMEOUT is well formed. -/
def Wf.quiesceTimeout (sl : Nat) : Bool := decide (sl < 4096)

/-- VECTOR_SET is well formed. -/
def Wf.vectorSet (ch : Nat) (r : Req) : Bool := cmdWf ch r

/-- VECTOR_COALESCE is well formed. -/
def Wf.vectorCoalesce (ch : Nat) (r : Req) : Bool := cmdWf ch r

/-- EVENT_MAP is well formed. -/
def Wf.eventMap (ch : Nat) (r : Req) : Bool := cmdWf ch r

/-- VECTOR_MASK is well formed. -/
def Wf.vectorMask (port : Nat) (_ : Bool) (sl : Nat) (v : Nat) (_ : Nat) : Bool := decide (port < 3) && decide (sl < 4096) && decide (v < 64)

/-- VECTOR_UNMASK is well formed. -/
def Wf.vectorUnmask (port : Nat) (_ : Bool) (sl : Nat) (v : Nat) (_ : Nat) : Bool := decide (port < 3) && decide (sl < 4096) && decide (v < 64)

/-- VECTOR_DELAY_EXPIRY is well formed. -/
def Wf.vectorDelayExpiry (sl : Nat) (v : Nat) : Bool := decide (sl < 4096) && decide (v < 64)

/-- MSIX_UNMASK is well formed. -/
def Wf.msixUnmask (port : Nat) (_ : Bool) (_ : Option Nat) : Bool := decide (port < 3)

/-- PRODUCER_DOORBELL is well formed. -/
def Wf.producerDoorbell (port : Nat) (_ : Bool) (sl : Nat) (off : Nat) (len : Nat) (ws : List W64) : Bool := decide (port < 3) && decide (sl < 4096) && decide (off < 65536) && decide (0 < len) && decide (ws.length = (len + 7) / 8)

/-- COMPLETION_CONSUMER_DOORBELL is well formed. -/
def Wf.completionConsumerDoorbell (port : Nat) (_ : Bool) (sl : Nat) (off : Nat) (len : Nat) (ws : List W64) : Bool := decide (port < 3) && decide (sl < 4096) && decide (off < 64) && decide (0 < len) && decide (ws.length = (len + 7) / 8)

/-- INVALIDATE_DOORBELL is well formed. -/
def Wf.invalidateDoorbell (port : Nat) (_ : Bool) (sl : Nat) (off : Nat) (len : Nat) (ws : List W64) : Bool := decide (port < 3) && decide (sl < 4096) && decide (off < 64) && decide (0 < len) && decide (ws.length = (len + 7) / 8)

/-- DESCRIPTOR_FETCH is well formed. -/
def Wf.descriptorFetch (chan : Nat) : Bool := decide (chan < 96)

/-- DESCRIPTOR_FETCH_COMPLETE is well formed. -/
def Wf.descriptorFetchComplete (qp : Nat) (ds : List (List W64)) : Bool := decide (qp < 2 ^ 18) && ds.all (fun d => decide (d.length = 8))

/-- DESCRIPTOR_FETCH_TIMEOUT is well formed. -/
def Wf.descriptorFetchTimeout (qp : Nat) : Bool := decide (qp < 2 ^ 18)

/-- DESCRIPTOR_START is well formed. -/
def Wf.descriptorStart (chan : Nat) : Bool := decide (chan < 96)

/-- DMA_READ_COMPLETE is well formed. -/
def Wf.dmaReadComplete (qp : Nat) (_ : Nat) (_ : ReadWhat) (_ : ReadResult) : Bool := decide (qp < 2 ^ 18)

/-- PCIE_COMPLETION_TIMEOUT is well formed. -/
def Wf.pcieCompletionTimeout (qp : Nat) (_ : Nat) (_ : ReadWhat) : Bool := decide (qp < 2 ^ 18)

/-- FENCE_READ_COMPLETE is well formed. -/
def Wf.fenceReadComplete (qp : Nat) (_ : Nat) (_ : ReadResult) : Bool := decide (qp < 2 ^ 18)

/-- TRANSLATION_COMPLETE is well formed. -/
def Wf.translationComplete (qp : Nat) (_ : Nat) (_ : ReadWhat) (page : Option AtsPage) : Bool := decide (qp < 2 ^ 18) && (match page with | some l => decide (12 ≤ l.log2) && decide (l.log2 ≤ 30) | none => true)

/-- ATS_INVALIDATION is well formed. -/
def Wf.atsInvalidation (port : Nat) (_ : Option (BitVec 20)) (_ : Nat) (log2 : Nat) (_ : Nat) : Bool := decide (port < 3) && decide (12 ≤ log2)

/-- ATS_INVALIDATION_COMPLETE is well formed. -/
def Wf.atsInvalidationComplete (port : Nat) (_ : Nat) : Bool := decide (port < 3)

/-- RX_FRAME_ARRIVAL is well formed. -/
def Wf.rxFrameArrival : Bool := true

/-- COMPLETION_RECORD_WRITE is well formed. -/
def Wf.completionRecordWrite (qp : Nat) : Bool := decide (qp < 2 ^ 18)

/-- QUEUE_CREATE is well formed. -/
def Wf.queueCreate (ch : Nat) (r : Req) : Bool := cmdWf ch r

/-- QUEUE_DESTROY is well formed. -/
def Wf.queueDestroy (ch : Nat) (r : Req) : Bool := cmdWf ch r

/-- QUEUE_QUERY is well formed. -/
def Wf.queueQuery (ch : Nat) (r : Req) : Bool := cmdWf ch r

/-- QUEUE_MODIFY is well formed. -/
def Wf.queueModify (ch : Nat) (r : Req) : Bool := cmdWf ch r

/-- QUEUE_RESTART is well formed. -/
def Wf.queueRestart (ch : Nat) (r : Req) : Bool := cmdWf ch r

/-- QUEUE_ABORT is well formed. -/
def Wf.queueAbort (ch : Nat) (r : Req) : Bool := cmdWf ch r

/-- DMA_CFG_WRITE is well formed. -/
def Wf.dmaCfgWrite (w : RegWrite) : Bool := masterWf w.master

/-- PORT_OCTET_MODE is well formed. -/
def Wf.portOctetMode (ch : Nat) (r : Req) : Bool := cmdWf ch r

/-- PORT_CONFIG is well formed. -/
def Wf.portConfig (ch : Nat) (r : Req) : Bool := cmdWf ch r

/-- PORT_QUERY is well formed. -/
def Wf.portQuery (ch : Nat) (r : Req) : Bool := cmdWf ch r

/-- PORT_TX_TIMESTAMPS is well formed. -/
def Wf.portTxTimestamps (ch : Nat) (r : Req) : Bool := cmdWf ch r

/-- PORT_LANE_POLARITY is well formed. -/
def Wf.portLanePolarity (ch : Nat) (r : Req) : Bool := cmdWf ch r

/-- AUTONEGOTIATION_END is well formed. -/
def Wf.autonegotiationEnd (port : Nat) (_ : Bool) : Bool := decide (port < 64)

/-- TRAINING_END is well formed. -/
def Wf.trainingEnd (port : Nat) (_ : Bool) : Bool := decide (port < 64)

/-- LOCK_ACHIEVED is well formed. -/
def Wf.lockAchieved (port : Nat) : Bool := decide (port < 64)

/-- LOCK_TIMEOUT is well formed. -/
def Wf.lockTimeout (port : Nat) : Bool := decide (port < 64)

/-- LINK_LOST is well formed. -/
def Wf.linkLost (port : Nat) (lane : Nat) : Bool := decide (port < 64) && decide (lane < 8)

/-- ETH_FRAME_RECEIVED is well formed. -/
def Wf.ethFrameReceived (port : Nat) (_ : List Byte) (_ : Time) (_ : Bool) (_ : Bool) (_ : Bool) (fec : List (Nat × Bool)) : Bool := decide (port < 64) && fec.all (fun e => decide (e.1 < 64))

/-- ETH_FRAME_TO_DISTRIBUTOR is well formed. -/
def Wf.ethFrameToDistributor (port : Nat) : Bool := decide (port < 64)

/-- PAUSE_FRAME_RECEIVED is well formed. -/
def Wf.pauseFrameReceived (port : Nat) (_ : Bool) (_ : Byte) (quanta : List Nat) : Bool := decide (port < 64) && decide (quanta.length = 8) && quanta.all (fun q => decide (q < 65536))

/-- PAUSE_EXPIRY is well formed. -/
def Wf.pauseExpiry (port : Nat) (prio : Nat) : Bool := decide (port < 64) && decide (prio < 8)

/-- PAUSE_REFRESH is well formed. -/
def Wf.pauseRefresh (port : Nat) : Bool := decide (port < 64)

/-- FRAME_TRANSMIT is well formed. -/
def Wf.frameTransmit (port : Nat) (_ : Bool) : Bool := decide (port < 64)

/-- PARSER_PASS is well formed. -/
def Wf.parserPass (pipe : Nat) (errs : List (Nat × Bool)) : Bool := decide (pipe < 8) && errs.all (fun e => decide (e.1 < 4096))

/-- CS_WORD_REWRITE is well formed. -/
def Wf.csWordRewrite (pipe : Nat) (word : Nat) (_ : Bool) : Bool := decide (pipe < 8) && decide (word < 4096)

/-- SCRUB_ROUND is well formed. -/
def Wf.scrubRound (pipe : Nat) (errs : List (Nat × Bool)) : Bool := decide (pipe < 8) && errs.all (fun e => decide (e.1 < 4096))

/-- PARSER_IMAGE_LOAD is well formed. -/
def Wf.parserImageLoad (ch : Nat) (r : Req) : Bool := cmdWf ch r

/-- PARSER_IMAGE_PATCH is well formed. -/
def Wf.parserImagePatch (ch : Nat) (r : Req) : Bool := cmdWf ch r

/-- PARSER_POLICY is well formed. -/
def Wf.parserPolicy (ch : Nat) (r : Req) : Bool := cmdWf ch r

/-- PARSER_QUERY is well formed. -/
def Wf.parserQuery (ch : Nat) (r : Req) : Bool := cmdWf ch r

/-- PARSER_POLICY_QUERY is well formed. -/
def Wf.parserPolicyQuery (ch : Nat) (r : Req) : Bool := cmdWf ch r

/-- CLASSIFICATION is well formed. -/
def Wf.classification (pipe : Nat) (ue : Option (Nat × Nat)) : Bool :=
  decide (pipe < 8) && (match ue with
    | some e => decide (e.1 < 16)
    | none => true)

/-- EXT_TABLE_READ_RESPONSE is well formed. -/
def Wf.extTableReadResponse (pipe : Nat) (_ : Bool) : Bool := decide (pipe < 8)

/-- LINE_REBUILD is well formed. -/
def Wf.lineRebuild (granule line : Nat) : Bool := decide (line < 4) && lineWf (4 * granule + line)

/-- LEARN_EVENT is well formed. -/
def Wf.learnEvent (pipe : Nat) : Bool := decide (pipe < 8)

/-- FLAP_HOLD_END is well formed. -/
def Wf.flapHoldEnd (pipe : Nat) (_ : Nat) (_ : BitVec 48) : Bool := decide (pipe < 8)

/-- AGEING_SCAN is well formed. -/
def Wf.ageingScan : Bool := true

/-- ENTRY_SWEEP is well formed. -/
def Wf.entrySweep (_ : Bool) : Bool := true

/-- TABLE_DEFINE is well formed. -/
def Wf.tableDefine (ch : Nat) (r : Req) : Bool := cmdWf ch r

/-- KEY_PROFILE is well formed. -/
def Wf.keyProfile (ch : Nat) (r : Req) : Bool := cmdWf ch r

/-- PLAN_SET is well formed. -/
def Wf.planSet (ch : Nat) (r : Req) : Bool := cmdWf ch r

/-- TABLE_INSERT is well formed. -/
def Wf.tableInsert (ch : Nat) (r : Req) : Bool := cmdWf ch r

/-- TABLE_DELETE is well formed. -/
def Wf.tableDelete (ch : Nat) (r : Req) : Bool := cmdWf ch r

/-- TABLE_LOOKUP is well formed. -/
def Wf.tableLookup (ch : Nat) (r : Req) : Bool := cmdWf ch r

/-- SEGMENT_SET is well formed. -/
def Wf.segmentSet (ch : Nat) (r : Req) : Bool := cmdWf ch r

/-- PORT_BIND is well formed. -/
def Wf.portBind (ch : Nat) (r : Req) : Bool := cmdWf ch r

/-- L2_STATIC is well formed. -/
def Wf.l2Static (ch : Nat) (r : Req) : Bool := cmdWf ch r

/-- ROUTE_SET is well formed. -/
def Wf.routeSet (ch : Nat) (r : Req) : Bool := cmdWf ch r

/-- L2_READ is well formed. -/
def Wf.l2Read (ch : Nat) (r : Req) : Bool := cmdWf ch r

/-- L2_FLUSH is well formed. -/
def Wf.l2Flush (ch : Nat) (r : Req) : Bool := cmdWf ch r

/-- PROGRAM_DISPATCH is well formed. -/
def Wf.programDispatch (island : Nat) : Bool := decide (island < 2)

/-- ALU is well formed. -/
def Wf.alu (t : Nat) (_ : BitVec 5) (_ : BitVec 5) (_ : BitVec 5) (_ : BitVec 11) : Bool := decide (t < 512)

/-- ADDI is well formed. -/
def Wf.addi (t : Nat) (_ : BitVec 5) (_ : BitVec 5) (_ : BitVec 16) : Bool := decide (t < 512)

/-- ANDI is well formed. -/
def Wf.andi (t : Nat) (_ : BitVec 5) (_ : BitVec 5) (_ : BitVec 16) : Bool := decide (t < 512)

/-- ORI is well formed. -/
def Wf.ori (t : Nat) (_ : BitVec 5) (_ : BitVec 5) (_ : BitVec 16) : Bool := decide (t < 512)

/-- XORI is well formed. -/
def Wf.xori (t : Nat) (_ : BitVec 5) (_ : BitVec 5) (_ : BitVec 16) : Bool := decide (t < 512)

/-- SHI is well formed. -/
def Wf.shi (t : Nat) (_ : BitVec 5) (_ : BitVec 5) (_ : BitVec 16) : Bool := decide (t < 512)

/-- MOVZ is well formed. -/
def Wf.movz (t : Nat) (_ : BitVec 5) (_ : BitVec 5) (_ : BitVec 16) : Bool := decide (t < 512)

/-- MOVK is well formed. -/
def Wf.movk (t : Nat) (_ : BitVec 5) (_ : BitVec 5) (_ : BitVec 16) : Bool := decide (t < 512)

/-- SLTI is well formed. -/
def Wf.slti (t : Nat) (_ : BitVec 5) (_ : BitVec 5) (_ : BitVec 16) : Bool := decide (t < 512)

/-- SLTIU is well formed. -/
def Wf.sltiu (t : Nat) (_ : BitVec 5) (_ : BitVec 5) (_ : BitVec 16) : Bool := decide (t < 512)

/-- EXT is well formed. -/
def Wf.extField (t : Nat) (_ : BitVec 5) (_ : BitVec 5) (_ : BitVec 16) : Bool := decide (t < 512)

/-- INS is well formed. -/
def Wf.insField (t : Nat) (_ : BitVec 5) (_ : BitVec 5) (_ : BitVec 16) : Bool := decide (t < 512)

/-- BEQ is well formed. -/
def Wf.beq (t : Nat) (_ : BitVec 5) (_ : BitVec 5) (_ : BitVec 16) : Bool := decide (t < 512)

/-- BNE is well formed. -/
def Wf.bne (t : Nat) (_ : BitVec 5) (_ : BitVec 5) (_ : BitVec 16) : Bool := decide (t < 512)

/-- BLT is well formed. -/
def Wf.blt (t : Nat) (_ : BitVec 5) (_ : BitVec 5) (_ : BitVec 16) : Bool := decide (t < 512)

/-- BGE is well formed. -/
def Wf.bge (t : Nat) (_ : BitVec 5) (_ : BitVec 5) (_ : BitVec 16) : Bool := decide (t < 512)

/-- BLTU is well formed. -/
def Wf.bltu (t : Nat) (_ : BitVec 5) (_ : BitVec 5) (_ : BitVec 16) : Bool := decide (t < 512)

/-- BGEU is well formed. -/
def Wf.bgeu (t : Nat) (_ : BitVec 5) (_ : BitVec 5) (_ : BitVec 16) : Bool := decide (t < 512)

/-- JAL is well formed. -/
def Wf.jal (t : Nat) (_ : BitVec 5) (_ : BitVec 21) : Bool := decide (t < 512)

/-- JALR is well formed. -/
def Wf.jalr (t : Nat) (_ : BitVec 5) (_ : BitVec 5) (_ : BitVec 16) : Bool := decide (t < 512)

/-- WFE is well formed. -/
def Wf.wfe (t : Nat) (_ : BitVec 5) (_ : BitVec 5) (_ : BitVec 16) : Bool := decide (t < 512)

/-- EVENT_WAKE is well formed. -/
def Wf.eventWake (t : Nat) : Bool := decide (t < 512)

/-- EVTR is well formed. -/
def Wf.evtr (t : Nat) (_ : BitVec 5) (_ : BitVec 5) (_ : BitVec 16) : Bool := decide (t < 512)

/-- TIME is well formed. -/
def Wf.timeRead (t : Nat) (_ : BitVec 5) (_ : BitVec 5) (_ : BitVec 16) : Bool := decide (t < 512)

/-- TRAP is well formed. -/
def Wf.trapInstr (t : Nat) (_ : BitVec 5) (_ : BitVec 5) (_ : BitVec 16) : Bool := decide (t < 512)

/-- LDL is well formed. -/
def Wf.ldl (t : Nat) (_ : BitVec 5) (_ : BitVec 5) (_ : BitVec 16) : Bool := decide (t < 512)

/-- STL is well formed. -/
def Wf.stl (t : Nat) (_ : BitVec 5) (_ : BitVec 5) (_ : BitVec 16) : Bool := decide (t < 512)

/-- PLD is well formed. -/
def Wf.pld (t : Nat) (_ : BitVec 5) (_ : BitVec 5) (_ : BitVec 16) : Bool := decide (t < 512)

/-- PST is well formed. -/
def Wf.pst (t : Nat) (_ : BitVec 5) (_ : BitVec 5) (_ : BitVec 16) : Bool := decide (t < 512)

/-- CTR is well formed. -/
def Wf.ctr (t : Nat) (_ : BitVec 5) (_ : BitVec 5) (_ : BitVec 16) : Bool := decide (t < 512)

/-- TAGR is well formed. -/
def Wf.tagr (t : Nat) (_ : BitVec 5) (_ : BitVec 5) (_ : BitVec 16) : Bool := decide (t < 512)

/-- TAGW is well formed. -/
def Wf.tagw (t : Nat) (_ : BitVec 5) (_ : BitVec 5) (_ : BitVec 16) : Bool := decide (t < 512)

/-- PHEAD is well formed. -/
def Wf.phead (t : Nat) (_ : BitVec 5) (_ : BitVec 5) (_ : BitVec 16) : Bool := decide (t < 512)

/-- PLEN is well formed. -/
def Wf.plen (t : Nat) (_ : BitVec 5) (_ : BitVec 5) (_ : BitVec 16) : Bool := decide (t < 512)

/-- PKTGET is well formed. -/
def Wf.pktget (t : Nat) (_ : BitVec 5) (_ : BitVec 5) (_ : BitVec 16) : Bool := decide (t < 512)

/-- PKTOUT is well formed. -/
def Wf.pktout (t : Nat) (_ : BitVec 5) (_ : BitVec 5) (_ : BitVec 16) : Bool := decide (t < 512)

/-- PKTNEW is well formed. -/
def Wf.pktnew (t : Nat) (_ : BitVec 5) (_ : BitVec 5) (_ : BitVec 5) (_ : BitVec 11) : Bool := decide (t < 512)

/-- TLK is well formed. -/
def Wf.tlk (t : Nat) (_ : BitVec 5) (_ : BitVec 5) (_ : BitVec 16) : Bool := decide (t < 512)

/-- SLD is well formed. -/
def Wf.sld (t : Nat) (_ : BitVec 5) (_ : BitVec 5) (_ : BitVec 16) : Bool := decide (t < 512)

/-- SST is well formed. -/
def Wf.sst (t : Nat) (_ : BitVec 5) (_ : BitVec 5) (_ : BitVec 16) : Bool := decide (t < 512)

/-- SATOM is well formed. -/
def Wf.satom (t : Nat) (_ : BitVec 5) (_ : BitVec 5) (_ : BitVec 5) (_ : BitVec 11) : Bool := decide (t < 512)

/-- FENCE is well formed. -/
def Wf.fence (t : Nat) (_ : BitVec 5) (_ : BitVec 5) (_ : BitVec 16) : Bool := decide (t < 512)

/-- STATE_ACCESS_RESPONSE is well formed. -/
def Wf.stateAccessResponse (t : Nat) (_ : Bool) : Bool := decide (t < 512)

/-- CHSEND is well formed. -/
def Wf.chsend (t : Nat) (_ : BitVec 5) (_ : BitVec 5) (_ : BitVec 16) : Bool := decide (t < 512)

/-- CHRECV is well formed. -/
def Wf.chrecv (t : Nat) (_ : BitVec 5) (_ : BitVec 5) (_ : BitVec 16) : Bool := decide (t < 512)

/-- GROUP_TICK is well formed. -/
def Wf.groupTick (group : Nat) : Bool := decide (group < 1024)

/-- QUIESCENT_DEADLOCK is well formed. -/
def Wf.quiescentDeadlock (core : Nat) : Bool := decide (core < 64)

/-- PACKET_BUDGET_EXPIRY is well formed. -/
def Wf.packetBudgetExpiry (t : Nat) : Bool := decide (t < 512)

/-- ACT_IMAGE_LOAD is well formed. -/
def Wf.actImageLoad (ch : Nat) (r : Req) : Bool := cmdWf ch r

/-- ACT_IMAGE_UNLOAD is well formed. -/
def Wf.actImageUnload (ch : Nat) (r : Req) : Bool := cmdWf ch r

/-- ACT_GROUP_SET is well formed. -/
def Wf.actGroupSet (ch : Nat) (r : Req) : Bool := cmdWf ch r

/-- ACT_GROUP_QUERY is well formed. -/
def Wf.actGroupQuery (ch : Nat) (r : Req) : Bool := cmdWf ch r

/-- ACT_PROGRAM_BIND is well formed. -/
def Wf.actProgramBind (ch : Nat) (r : Req) : Bool := cmdWf ch r

/-- ACT_SIGNAL is well formed. -/
def Wf.actSignal (ch : Nat) (r : Req) : Bool := cmdWf ch r

/-- ACT_BIND_QUERY is well formed. -/
def Wf.actBindQuery (ch : Nat) (r : Req) : Bool := cmdWf ch r

/-- TMG_ENQUEUE is well formed. -/
def Wf.tmgEnqueue (_ : Bool) : Bool := true

/-- DEQUEUE is well formed. -/
def Wf.dequeue (port : Nat) (ue : Option Nat) : Bool := decide (port < 76) && (match ue with | some c => decide (c < 786432) | none => true)

/-- SCHEDULER_PERIOD is well formed. -/
def Wf.schedulerPeriod : Bool := true

/-- QUEUE_DEPTH_SAMPLE is well formed. -/
def Wf.queueDepthSample : Bool := true

/-- TMG_PORT_SET is well formed. -/
def Wf.tmgPortSet (ch : Nat) (r : Req) : Bool := cmdWf ch r

/-- TMG_GROUP_SET is well formed. -/
def Wf.tmgGroupSet (ch : Nat) (r : Req) : Bool := cmdWf ch r

/-- TMG_SLICE_NODE_SET is well formed. -/
def Wf.tmgSliceNodeSet (ch : Nat) (r : Req) : Bool := cmdWf ch r

/-- TMG_SLICE_LIMIT is well formed. -/
def Wf.tmgSliceLimit (ch : Nat) (r : Req) : Bool := cmdWf ch r

/-- TMG_QUEUE_SET is well formed. -/
def Wf.tmgQueueSet (ch : Nat) (r : Req) : Bool := cmdWf ch r

/-- TMG_QUEUE_STATS is well formed. -/
def Wf.tmgQueueStats (ch : Nat) (r : Req) : Bool := cmdWf ch r

/-- TMG_POLICER_SET is well formed. -/
def Wf.tmgPolicerSet (ch : Nat) (r : Req) : Bool := cmdWf ch r

/-- TMG_POLICER_STATS is well formed. -/
def Wf.tmgPolicerStats (ch : Nat) (r : Req) : Bool := cmdWf ch r

/-- TMG_FLOOD_LIST_SET is well formed. -/
def Wf.tmgFloodListSet (ch : Nat) (r : Req) : Bool := cmdWf ch r

/-- TMG_MIRROR_SET is well formed. -/
def Wf.tmgMirrorSet (ch : Nat) (r : Req) : Bool := cmdWf ch r

/-- LINK_BLOCK_RECEIVE is well formed. -/
def Wf.linkBlockReceive (bundle : Nat) (bs : List Byte) : Bool := decide (bundle < 8) && decide (bs.length = 268)

/-- LANTERN_REPLAY_TIMEOUT is well formed. -/
def Wf.lanternReplayTimeout (bundle : Nat) : Bool := decide (bundle < 8)

/-- LANTERN_FRAME_RECEIVE is well formed. -/
def Wf.lanternFrameReceive (bundle : Nat) : Bool := decide (bundle < 8)

/-- LANTERN_FRAME_TRANSMIT is well formed. -/
def Wf.lanternFrameTransmit (bundle : Nat) : Bool := decide (bundle < 8)

/-- BUNDLE_MARKED_SLOW is well formed. -/
def Wf.bundleMarkedSlow (bundle : Nat) : Bool := decide (bundle < 8)

/-- SLOW_MARK_CLEAR is well formed. -/
def Wf.slowMarkClear (bundle : Nat) : Bool := decide (bundle < 8)

/-- LINK_STATE_RECEIVE is well formed. -/
def Wf.linkStateReceive : Bool := true

/-- REROUTE_DISCARD is well formed. -/
def Wf.rerouteDiscard (node : Nat) : Bool := decide (node < 2 ^ 20)

/-- SHED_EVALUATION is well formed. -/
def Wf.shedEvaluation (bundle : Nat) (u : Nat) (u10 : Nat) : Bool := decide (bundle < 8) && decide (u ≤ 100) && decide (u10 ≤ 100)

/-- LANE_RECEIVE is well formed. -/
def Wf.laneReceive : Bool := true

/-- WIDTH_CHANGE is well formed. -/
def Wf.widthChange (bundle : Nat) : Bool := decide (bundle < 8)

/-- LANE_LOCK_LOSS is well formed. -/
def Wf.laneLockLoss (bundle : Nat) (lane : Nat) : Bool := decide (bundle < 8) && decide (lane < 16)

/-- CONTROL_RESEND_TIMEOUT is well formed. -/
def Wf.controlResendTimeout : Bool := true

/-- BUNDLE_LOCK is well formed. -/
def Wf.bundleLock (bundle : Nat) (_ : BitVec 16) (peer : Nat) : Bool := decide (bundle < 8) && decide (peer < 8)

/-- JOIN_RECEIVE is well formed. -/
def Wf.joinReceive : Bool := true

/-- JOIN_RETRY is well formed. -/
def Wf.joinRetry (bundle : Nat) : Bool := decide (bundle < 8)

/-- HEARTBEAT_SEND is well formed. -/
def Wf.heartbeatSend (bundle : Nat) : Bool := decide (bundle < 8)

/-- HEARTBEAT_RECEIVE is well formed. -/
def Wf.heartbeatReceive : Bool := true

/-- HEARTBEAT_TIMEOUT is well formed. -/
def Wf.heartbeatTimeout (bundle : Nat) : Bool := decide (bundle < 8)

/-- REFORM_RECEIVE is well formed. -/
def Wf.reformReceive : Bool := true

/-- TOPO_RECEIVE is well formed. -/
def Wf.topoReceive : Bool := true

/-- REFORMATION_END is well formed. -/
def Wf.reformationEnd : Bool := true

/-- STARTUP_WAIT_EXPIRY is well formed. -/
def Wf.startupWaitExpiry : Bool := true

/-- PARAMS_RECEIVE is well formed. -/
def Wf.paramsReceive : Bool := true

/-- STRING_CONFIG is well formed. -/
def Wf.stringConfig (ch : Nat) (r : Req) : Bool := cmdWf ch r

/-- STRING_QUERY is well formed. -/
def Wf.stringQuery (ch : Nat) (r : Req) : Bool := cmdWf ch r

/-- STRING_MEMBERS is well formed. -/
def Wf.stringMembers (ch : Nat) (r : Req) : Bool := cmdWf ch r

/-- BUNDLE_ADMIN is well formed. -/
def Wf.bundleAdmin (ch : Nat) (r : Req) : Bool := cmdWf ch r

/-- BUNDLE_QUERY is well formed. -/
def Wf.bundleQuery (ch : Nat) (r : Req) : Bool := cmdWf ch r

/-- STRING_TIME_STEER is well formed. -/
def Wf.stringTimeSteer (ch : Nat) (r : Req) : Bool := cmdWf ch r

/-- STRING_TIME_SET is well formed. -/
def Wf.stringTimeSet (ch : Nat) (r : Req) : Bool := cmdWf ch r

/-- LCP_DECRYPT is well formed. -/
def Wf.lcpDecrypt : Bool := true

/-- LCP_ENCRYPT is well formed. -/
def Wf.lcpEncrypt : Bool := true

/-- GCM_WORK_REQUEST is well formed. -/
def Wf.gcmWorkRequest (requester : Nat) (_ : Nat) (_ : Nat) (_ : Nat) : Bool := decide (requester < 256)

/-- STORAGE_SEGMENT_RECEIVE is well formed. -/
def Wf.storageSegmentReceive (_ : StSegment) : Bool := true

/-- NVME_COMPLETION is well formed. -/
def Wf.nvmeCompletion (conn : Nat) (_ : Nat) (status : Nat) (_ : List Byte) : Bool := decide (conn < 16384) && decide (status < 2 ^ 15)

/-- STORAGE_TRANSPORT_FAILURE is well formed. -/
def Wf.storageTransportFailure (conn : Nat) (cause : Nat) : Bool := decide (conn < 16384) && decide (0x8001 ≤ cause) && decide (cause ≤ 0x8004)

/-- TCP_RETRANSMIT_TIMEOUT is well formed. -/
def Wf.tcpRetransmitTimeout (conn : Nat) : Bool := decide (conn < 16384)

/-- KEEP_ALIVE is well formed. -/
def Wf.keepAlive (conn : Nat) : Bool := decide (conn < 16384)

/-- CONNECTION_CLOSE_TIMEOUT is well formed. -/
def Wf.connectionCloseTimeout (conn : Nat) : Bool := decide (conn < 16384)

/-- LCP_SA_SET is well formed. -/
def Wf.lcpSaSet (ch : Nat) (r : Req) : Bool := cmdWf ch r

/-- LCP_SA_DELETE is well formed. -/
def Wf.lcpSaDelete (ch : Nat) (r : Req) : Bool := cmdWf ch r

/-- LCP_SA_QUERY is well formed. -/
def Wf.lcpSaQuery (ch : Nat) (r : Req) : Bool := cmdWf ch r

/-- LCP_QUEUE_BIND is well formed. -/
def Wf.lcpQueueBind (ch : Nat) (r : Req) : Bool := cmdWf ch r

/-- STE_KEY_SET is well formed. -/
def Wf.steKeySet (ch : Nat) (r : Req) : Bool := cmdWf ch r

/-- STE_SESSION_OPEN is well formed. -/
def Wf.steSessionOpen (ch : Nat) (r : Req) : Bool := cmdWf ch r

/-- STE_SESSION_CLOSE is well formed. -/
def Wf.steSessionClose (ch : Nat) (r : Req) : Bool := cmdWf ch r

/-- STE_CONN_QUERY is well formed. -/
def Wf.steConnQuery (ch : Nat) (r : Req) : Bool := cmdWf ch r

/-- CRYPTO_SLICE_REARM is well formed. -/
def Wf.cryptoSliceRearm (ch : Nat) (r : Req) : Bool := cmdWf ch r

/-- STE_PATCH_STAGE is well formed. -/
def Wf.stePatchStage (ch : Nat) (r : Req) : Bool := cmdWf ch r

/-- MEM_REQUEST is well formed. -/
def Wf.memRequest (requester : Nat) (line : Nat) : Bool := decide (requester ≤ 4096) && lineWf line

/-- MEM_BURST_COMPLETE is well formed. -/
def Wf.memBurstComplete (chan : Nat) (_ : Bool) : Bool := decide (chan < 48)

/-- ARBITRATION_EPOCH is well formed. -/
def Wf.arbitrationEpoch : Bool := true

/-- RH_WINDOW_END is well formed. -/
def Wf.rhWindowEnd : Bool := true

/-- RETRAINING_START is well formed. -/
def Wf.retrainingStart (chan : Nat) : Bool := decide (chan < 48)

/-- RETRAINING_COMPLETE is well formed. -/
def Wf.retrainingComplete (chan : Nat) (_ : Bool) : Bool := decide (chan < 48)

/-- DEVICE_OVER_TEMPERATURE is well formed. -/
def Wf.deviceOverTemperature (dev : Nat) : Bool := decide (dev < 12)

/-- JOURNAL_RECORD_WRITE is well formed. -/
def Wf.journalRecordWrite (typ : Nat) (_ : Nat) (ws : List W64) : Bool := decide (1 ≤ typ) && decide (typ ≤ 10) && decide (ws.length ≤ 131066)

/-- JOURNAL_LINE_WRITE_COMPLETE is well formed. -/
def Wf.journalLineWriteComplete (_ : Bool) (_ : Bool) : Bool := true

/-- MEM_QUERY is well formed. -/
def Wf.memQuery (ch : Nat) (r : Req) : Bool := cmdWf ch r

/-- MEM_RETRAIN_CONFIG is well formed. -/
def Wf.memRetrainConfig (ch : Nat) (r : Req) : Bool := cmdWf ch r

/-- MEM_CHANNEL_QUERY is well formed. -/
def Wf.memChannelQuery (ch : Nat) (r : Req) : Bool := cmdWf ch r

/-- JNL_QUERY is well formed. -/
def Wf.jnlQuery (ch : Nat) (r : Req) : Bool := cmdWf ch r

/-- JNL_COMPACT is well formed. -/
def Wf.jnlCompact (ch : Nat) (r : Req) : Bool := cmdWf ch r

/-- POWER_FAIL is well formed. -/
def Wf.powerFail (_ : Bool) : Bool := true

/-- POWER_FAIL_RECOVERY is well formed. -/
def Wf.powerFailRecovery : Bool := true

/-- SPDM_REQUEST is well formed. -/
def Wf.spdmRequest (path : Nat) (_ : SpdmKind) (_ : Bool) (_ : List Byte) : Bool := decide (path < 12)

/-- ALARM_RAISED is well formed. -/
def Wf.alarmRaised (source : Nat) : Bool := decide (1 ≤ source) && decide (source ≤ 5)

/-- ALARM_CLEARED is well formed. -/
def Wf.alarmCleared (source : Nat) : Bool := decide (1 ≤ source) && decide (source ≤ 5)

/-- CANDLE_MARK is well formed. -/
def Wf.candleMark : Bool := true

/-- PERIOD_CLOSE is well formed. -/
def Wf.periodClose : Bool := true

/-- CANDLE_RECEIVE is well formed. -/
def Wf.candleReceive : Bool := true

/-- CANDLE_DONE_RECEIVE is well formed. -/
def Wf.candleDoneReceive : Bool := true

/-- METER_CONFIG is well formed. -/
def Wf.meterConfig (ch : Nat) (r : Req) : Bool := cmdWf ch r

/-- METER_QUERY is well formed. -/
def Wf.meterQuery (ch : Nat) (r : Req) : Bool := cmdWf ch r

/-- METER_READ is well formed. -/
def Wf.meterRead (ch : Nat) (r : Req) : Bool := cmdWf ch r

/-- METER_RELEASE is well formed. -/
def Wf.meterRelease (ch : Nat) (r : Req) : Bool := cmdWf ch r

/-- METER_LIVE is well formed. -/
def Wf.meterLive (ch : Nat) (r : Req) : Bool := cmdWf ch r

/-- TRU_QUERY is well formed. -/
def Wf.truQuery (ch : Nat) (r : Req) : Bool := cmdWf ch r

/-- KEY_ENROL is well formed. -/
def Wf.keyEnrol (ch : Nat) (r : Req) : Bool := cmdWf ch r

/-- KEY_REVOKE is well formed. -/
def Wf.keyRevoke (ch : Nat) (r : Req) : Bool := cmdWf ch r

/-- CERT_READ is well formed. -/
def Wf.certRead (ch : Nat) (r : Req) : Bool := cmdWf ch r

/-- TRU_ZEROISE is well formed. -/
def Wf.truZeroise (ch : Nat) (r : Req) : Bool := cmdWf ch r

/-- POWER_ON_RESET_RELEASE is well formed. -/
def Wf.powerOnResetRelease (mgr : Nat) (i2c : Nat) (mv : Nat) : Bool := decide (mgr < 4) && decide (i2c < 4) && decide (650 ≤ mv) && decide (mv ≤ 750)

/-- ROM is well formed. -/
def Wf.romStage : Bool := true

/-- FW_LOAD is well formed. -/
def Wf.fwLoad (_ : ImageRead) (_ : ImageRead) : Bool := true

/-- MEASURE is well formed. -/
def Wf.measureStage (_ : BitVec 384) (_ : BitVec 384) (_ : BitVec 384) : Bool := true

/-- SELF_TEST is well formed. -/
def Wf.selfTest (_ : Bool) (_ : Bool) (_ : Option Byte) (_ : Option Byte) : Bool := true

/-- TRAINING is well formed. -/
def Wf.trainingStage (_ : BitVec 48) (_ : BitVec 48) (_ : BitVec 48) (_ : BitVec 48) (_ : Bool) : Bool := true

/-- REPLAY is well formed. -/
def Wf.replayStage (_ : Option Nat) : Bool := true

/-- REJOIN is well formed. -/
def Wf.rejoinStage : Bool := true

/-- READY is well formed. -/
def Wf.readyStage : Bool := true

/-- TRACE_RECORD_WRITE is well formed. -/
def Wf.traceRecordWrite : Bool := true

/-- TRACE_STREAM is well formed. -/
def Wf.traceStream (_ : Nat) (bad : Option Nat) : Bool := (match bad with | some c => decide (c < 8) | none => true)

/-- OBS_STREAM_CONSUMED_WRITE is well formed. -/
def Wf.obsStreamConsumedWrite (w : RegWrite) : Bool := masterWf w.master

/-- OBS_TAP_TRANSACTION is well formed. -/
def Wf.obsTapTransaction (_ : Byte) (_ : BitVec 32) (n : Nat) : Bool := decide (n ≤ 4096)

/-- IDCODE is well formed. -/
def Wf.idcode : Bool := true

/-- SAMPLE is well formed. -/
def Wf.sampleTap (_ : List Bool) : Bool := true

/-- BYPASS is well formed. -/
def Wf.bypassTap (code : BitVec 6) : Bool := decide (code ≠ 1) && decide (code ≠ 2)

/-- OBS_TRACE_CONFIG is well formed. -/
def Wf.obsTraceConfig (ch : Nat) (r : Req) : Bool := cmdWf ch r

/-- OBS_HEADER_CAPTURE is well formed. -/
def Wf.obsHeaderCapture (ch : Nat) (r : Req) : Bool := cmdWf ch r

/-- OBS_STREAM is well formed. -/
def Wf.obsStream (ch : Nat) (r : Req) : Bool := cmdWf ch r

/-- OBS_TRACE_READ is well formed. -/
def Wf.obsTraceRead (ch : Nat) (r : Req) : Bool := cmdWf ch r

/-- OBS_TAP_ENABLE is well formed. -/
def Wf.obsTapEnable (ch : Nat) (r : Req) : Bool := cmdWf ch r

/-- AVS_TARGET_ADJUST is well formed. -/
def Wf.avsTargetAdjust (mv : Nat) : Bool := decide (650 ≤ mv) && decide (mv ≤ 750)

/-- THERM_ALERT is well formed. -/
def Wf.thermAlert (_ : Nat) : Bool := true

/-- THERM_TRIP is well formed. -/
def Wf.thermTrip : Bool := true

/-- POWER_ON_RESET_ASSERT is well formed. -/
def Wf.powerOnResetAssert : Bool := true

/-- TEMPERATURE_REPORT_CLEAR is well formed. -/
def Wf.temperatureReportClear (dev : Nat) : Bool := decide (dev < 12)

/-- PPS_PULSE is well formed. -/
def Wf.ppsPulse : Bool := true

/-- THREAD_CYCLES_CHARGE is well formed. -/
def Wf.threadCyclesCharge (t : Nat) : Bool := decide (t < 512)

/-- The command names units that exist and carries data of the shape its row takes. -/
def Instr.wf : Instr → Bool
  | .crossingBlockReceive src dst b => Wf.crossingBlockReceive src dst b
  | .blockAcknowledgement src dst seq => Wf.blockAcknowledgement src dst seq
  | .blockRefusal src dst seq => Wf.blockRefusal src dst seq
  | .crossingAckTimeout src dst seq => Wf.crossingAckTimeout src dst seq
  | .creditReturn src dst => Wf.creditReturn src dst
  | .distributorSend d => Wf.distributorSend d
  | .bucketInFlightEnd d b => Wf.bucketInFlightEnd d b
  | .pipelineMarkedSlow k => Wf.pipelineMarkedSlow k
  | .slowMarkCleared k => Wf.slowMarkCleared k
  | .distCfgWrite w => Wf.distCfgWrite w
  | .versionQuery ch r => Wf.versionQuery ch r
  | .versionBuildBegin ch r => Wf.versionBuildBegin ch r
  | .versionCommit ch r => Wf.versionCommit ch r
  | .versionBuildAbort ch r => Wf.versionBuildAbort ch r
  | .queueRecoveryRead ch r => Wf.queueRecoveryRead ch r
  | .tokenReqReceive => Wf.tokenReqReceive
  | .tokenGrantReceive => Wf.tokenGrantReceive
  | .tokenReleaseReceive => Wf.tokenReleaseReceive
  | .prepareDataReceive => Wf.prepareDataReceive
  | .prepareEndReceive => Wf.prepareEndReceive
  | .prepareAckReceive => Wf.prepareAckReceive
  | .prepareWithdrawReceive => Wf.prepareWithdrawReceive
  | .activateReceive => Wf.activateReceive
  | .activation => Wf.activation
  | .activateAckReceive => Wf.activateAckReceive
  | .retireReceive => Wf.retireReceive
  | .versionDrainStart slot => Wf.versionDrainStart slot
  | .drainMarkerPass unit slot => Wf.drainMarkerPass unit slot
  | .drainDoneReceive => Wf.drainDoneReceive
  | .slotFreeReceive => Wf.slotFreeReceive
  | .pullReqReceive => Wf.pullReqReceive
  | .pullDataReceive => Wf.pullDataReceive
  | .perstAssert port => Wf.perstAssert port
  | .perstDeassert port strap => Wf.perstDeassert port strap
  | .linkDown port half => Wf.linkDown port half
  | .linkUp port half speed flit width => Wf.linkUp port half speed flit width
  | .d3hotEntry port half => Wf.d3hotEntry port half
  | .d0Return port half => Wf.d0Return port half
  | .configurationRequest port half q => Wf.configurationRequest port half q
  | .bar4Write port off => Wf.bar4Write port off
  | .registerWrite w => Wf.registerWrite w.first (sameClock w.writes w.reads)
  | .setAliasWrite w => Wf.setAliasWrite w
  | .clearAliasWrite w => Wf.clearAliasWrite w
  | .toggleAliasWrite w => Wf.toggleAliasWrite w
  | .writeAcknowledge port island => Wf.writeAcknowledge port island
  | .lowWordRead r ws rs => Wf.lowWordRead r (sameClock ws rs)
  | .registerStallTimeout port island off write => Wf.registerStallTimeout port island off write
  | .doorbellHoldTimeout port => Wf.doorbellHoldTimeout port
  | .mbxRequestWrite m half ch off bs => Wf.mbxRequestWrite m half ch off bs
  | .postRequest m half ch withTaken => Wf.postRequest m half ch withTaken
  | .taken m half ch => Wf.taken m half ch
  | .requestTake ch host => Wf.requestTake ch host
  | .mailboxResponseTimeout ch => Wf.mailboxResponseTimeout ch
  | .mgtBindWrite w => Wf.mgtBindWrite w
  | .bindLock w => Wf.bindLock w
  | .firmwareWatchdog pc => Wf.firmwareWatchdog pc
  | .firmwareRestartComplete version => Wf.firmwareRestartComplete version
  | .semaphoreRead ms k => Wf.semaphoreRead ms k
  | .semaphoreRelease m k value viaAlias => Wf.semaphoreRelease m k value viaAlias
  | .deviceInfo ch r => Wf.deviceInfo ch r
  | .readyStatus ch r => Wf.readyStatus ch r
  | .channelConfig ch r => Wf.channelConfig ch r
  | .cmdResult ch r => Wf.cmdResult ch r
  | .watchdogConfig ch r => Wf.watchdogConfig ch r
  | .faultLogRead ch r => Wf.faultLogRead ch r
  | .semForceRelease ch r => Wf.semForceRelease ch r
  | .deviceReset ch r => Wf.deviceReset ch r
  | .deviceResetExecute => Wf.deviceResetExecute
  | .sliceCreate ch r => Wf.sliceCreate ch r
  | .sliceResize ch r => Wf.sliceResize ch r
  | .sliceQuery ch r => Wf.sliceQuery ch r
  | .sliceQuiesce ch r => Wf.sliceQuiesce ch r
  | .sliceReset ch r => Wf.sliceReset ch r
  | .sliceDestroy ch r => Wf.sliceDestroy ch r
  | .sliceDrainMarkerPass unit sl => Wf.sliceDrainMarkerPass unit sl
  | .quiesceDrained sl => Wf.quiesceDrained sl
  | .quiesceTimeout sl => Wf.quiesceTimeout sl
  | .vectorSet ch r => Wf.vectorSet ch r
  | .vectorCoalesce ch r => Wf.vectorCoalesce ch r
  | .eventMap ch r => Wf.eventMap ch r
  | .vectorMask port half sl v len => Wf.vectorMask port half sl v len
  | .vectorUnmask port half sl v len => Wf.vectorUnmask port half sl v len
  | .vectorDelayExpiry sl v => Wf.vectorDelayExpiry sl v
  | .msixUnmask port half entry => Wf.msixUnmask port half entry
  | .producerDoorbell port half sl off len ws => Wf.producerDoorbell port half sl off len ws
  | .completionConsumerDoorbell port half sl off len ws => Wf.completionConsumerDoorbell port half sl off len ws
  | .invalidateDoorbell port half sl off len ws => Wf.invalidateDoorbell port half sl off len ws
  | .descriptorFetch chan => Wf.descriptorFetch chan
  | .descriptorFetchComplete qp ds => Wf.descriptorFetchComplete qp ds
  | .descriptorFetchTimeout qp => Wf.descriptorFetchTimeout qp
  | .descriptorStart chan => Wf.descriptorStart chan
  | .dmaReadComplete qp index what res => Wf.dmaReadComplete qp index what res
  | .pcieCompletionTimeout qp index what => Wf.pcieCompletionTimeout qp index what
  | .fenceReadComplete qp index ok => Wf.fenceReadComplete qp index ok
  | .translationComplete qp index what page => Wf.translationComplete qp index what page
  | .atsInvalidation port pasid page log2 tag => Wf.atsInvalidation port pasid page log2 tag
  | .atsInvalidationComplete port tag => Wf.atsInvalidationComplete port tag
  | .rxFrameArrival => Wf.rxFrameArrival
  | .completionRecordWrite qp => Wf.completionRecordWrite qp
  | .queueCreate ch r => Wf.queueCreate ch r
  | .queueDestroy ch r => Wf.queueDestroy ch r
  | .queueQuery ch r => Wf.queueQuery ch r
  | .queueModify ch r => Wf.queueModify ch r
  | .queueRestart ch r => Wf.queueRestart ch r
  | .queueAbort ch r => Wf.queueAbort ch r
  | .dmaCfgWrite w => Wf.dmaCfgWrite w
  | .portOctetMode ch r => Wf.portOctetMode ch r
  | .portConfig ch r => Wf.portConfig ch r
  | .portQuery ch r => Wf.portQuery ch r
  | .portTxTimestamps ch r => Wf.portTxTimestamps ch r
  | .portLanePolarity ch r => Wf.portLanePolarity ch r
  | .autonegotiationEnd port ok => Wf.autonegotiationEnd port ok
  | .trainingEnd port ok => Wf.trainingEnd port ok
  | .lockAchieved port => Wf.lockAchieved port
  | .lockTimeout port => Wf.lockTimeout port
  | .linkLost port lane => Wf.linkLost port lane
  | .ethFrameReceived port bs sfd code preamble fcs fec => Wf.ethFrameReceived port bs sfd code preamble fcs fec
  | .ethFrameToDistributor port => Wf.ethFrameToDistributor port
  | .pauseFrameReceived port pfc mask quanta => Wf.pauseFrameReceived port pfc mask quanta
  | .pauseExpiry port prio => Wf.pauseExpiry port prio
  | .pauseRefresh port => Wf.pauseRefresh port
  | .frameTransmit port begun => Wf.frameTransmit port begun
  | .parserPass pipe errs => Wf.parserPass pipe errs
  | .csWordRewrite pipe word ok => Wf.csWordRewrite pipe word ok
  | .scrubRound pipe errs => Wf.scrubRound pipe errs
  | .parserImageLoad ch r => Wf.parserImageLoad ch r
  | .parserImagePatch ch r => Wf.parserImagePatch ch r
  | .parserPolicy ch r => Wf.parserPolicy ch r
  | .parserQuery ch r => Wf.parserQuery ch r
  | .parserPolicyQuery ch r => Wf.parserPolicyQuery ch r
  | .classification e => Wf.classification e.pipe e.bad
  | .extTableReadResponse pipe poisoned => Wf.extTableReadResponse pipe poisoned
  | .lineRebuild g k => Wf.lineRebuild g k
  | .learnEvent pipe => Wf.learnEvent pipe
  | .flapHoldEnd pipe segment mac => Wf.flapHoldEnd pipe segment mac
  | .ageingScan => Wf.ageingScan
  | .entrySweep ext => Wf.entrySweep ext
  | .tableDefine ch r => Wf.tableDefine ch r
  | .keyProfile ch r => Wf.keyProfile ch r
  | .planSet ch r => Wf.planSet ch r
  | .tableInsert ch r => Wf.tableInsert ch r
  | .tableDelete ch r => Wf.tableDelete ch r
  | .tableLookup ch r => Wf.tableLookup ch r
  | .segmentSet ch r => Wf.segmentSet ch r
  | .portBind ch r => Wf.portBind ch r
  | .l2Static ch r => Wf.l2Static ch r
  | .routeSet ch r => Wf.routeSet ch r
  | .l2Read ch r => Wf.l2Read ch r
  | .l2Flush ch r => Wf.l2Flush ch r
  | .programDispatch island => Wf.programDispatch island
  | .alu t dst s1 s2 func => Wf.alu t dst s1 s2 func
  | .addi t dst s1 imm => Wf.addi t dst s1 imm
  | .andi t dst s1 imm => Wf.andi t dst s1 imm
  | .ori t dst s1 imm => Wf.ori t dst s1 imm
  | .xori t dst s1 imm => Wf.xori t dst s1 imm
  | .shi t dst s1 imm => Wf.shi t dst s1 imm
  | .movz t dst s1 imm => Wf.movz t dst s1 imm
  | .movk t dst s1 imm => Wf.movk t dst s1 imm
  | .slti t dst s1 imm => Wf.slti t dst s1 imm
  | .sltiu t dst s1 imm => Wf.sltiu t dst s1 imm
  | .extField t dst s1 imm => Wf.extField t dst s1 imm
  | .insField t dst s1 imm => Wf.insField t dst s1 imm
  | .beq t s1 s2 off => Wf.beq t s1 s2 off
  | .bne t s1 s2 off => Wf.bne t s1 s2 off
  | .blt t s1 s2 off => Wf.blt t s1 s2 off
  | .bge t s1 s2 off => Wf.bge t s1 s2 off
  | .bltu t s1 s2 off => Wf.bltu t s1 s2 off
  | .bgeu t s1 s2 off => Wf.bgeu t s1 s2 off
  | .jal t dst off => Wf.jal t dst off
  | .jalr t dst s1 imm => Wf.jalr t dst s1 imm
  | .wfe t dst s1 imm => Wf.wfe t dst s1 imm
  | .eventWake t => Wf.eventWake t
  | .evtr t dst s1 imm => Wf.evtr t dst s1 imm
  | .timeRead t dst s1 imm => Wf.timeRead t dst s1 imm
  | .trapInstr t dst s1 imm => Wf.trapInstr t dst s1 imm
  | .ldl t dst s1 imm => Wf.ldl t dst s1 imm
  | .stl t dst s1 imm => Wf.stl t dst s1 imm
  | .pld t dst s1 imm => Wf.pld t dst s1 imm
  | .pst t dst s1 imm => Wf.pst t dst s1 imm
  | .ctr t dst s1 imm => Wf.ctr t dst s1 imm
  | .tagr t dst s1 imm => Wf.tagr t dst s1 imm
  | .tagw t dst s1 imm => Wf.tagw t dst s1 imm
  | .phead t dst s1 imm => Wf.phead t dst s1 imm
  | .plen t dst s1 imm => Wf.plen t dst s1 imm
  | .pktget t dst s1 imm => Wf.pktget t dst s1 imm
  | .pktout t dst s1 imm => Wf.pktout t dst s1 imm
  | .pktnew t dst s1 s2 func => Wf.pktnew t dst s1 s2 func
  | .tlk t dst s1 imm => Wf.tlk t dst s1 imm
  | .sld t dst s1 imm => Wf.sld t dst s1 imm
  | .sst t dst s1 imm => Wf.sst t dst s1 imm
  | .satom t dst s1 s2 func => Wf.satom t dst s1 s2 func
  | .fence t dst s1 imm => Wf.fence t dst s1 imm
  | .stateAccessResponse t poisoned => Wf.stateAccessResponse t poisoned
  | .chsend t dst s1 imm => Wf.chsend t dst s1 imm
  | .chrecv t dst s1 imm => Wf.chrecv t dst s1 imm
  | .groupTick group => Wf.groupTick group
  | .quiescentDeadlock core => Wf.quiescentDeadlock core
  | .packetBudgetExpiry t => Wf.packetBudgetExpiry t
  | .actImageLoad ch r => Wf.actImageLoad ch r
  | .actImageUnload ch r => Wf.actImageUnload ch r
  | .actGroupSet ch r => Wf.actGroupSet ch r
  | .actGroupQuery ch r => Wf.actGroupQuery ch r
  | .actProgramBind ch r => Wf.actProgramBind ch r
  | .actSignal ch r => Wf.actSignal ch r
  | .actBindQuery ch r => Wf.actBindQuery ch r
  | .tmgEnqueue lost => Wf.tmgEnqueue lost
  | .dequeue port ue => Wf.dequeue port ue
  | .schedulerPeriod => Wf.schedulerPeriod
  | .queueDepthSample => Wf.queueDepthSample
  | .tmgPortSet ch r => Wf.tmgPortSet ch r
  | .tmgGroupSet ch r => Wf.tmgGroupSet ch r
  | .tmgSliceNodeSet ch r => Wf.tmgSliceNodeSet ch r
  | .tmgSliceLimit ch r => Wf.tmgSliceLimit ch r
  | .tmgQueueSet ch r => Wf.tmgQueueSet ch r
  | .tmgQueueStats ch r => Wf.tmgQueueStats ch r
  | .tmgPolicerSet ch r => Wf.tmgPolicerSet ch r
  | .tmgPolicerStats ch r => Wf.tmgPolicerStats ch r
  | .tmgFloodListSet ch r => Wf.tmgFloodListSet ch r
  | .tmgMirrorSet ch r => Wf.tmgMirrorSet ch r
  | .linkBlockReceive bundle bs => Wf.linkBlockReceive bundle bs
  | .lanternReplayTimeout bundle => Wf.lanternReplayTimeout bundle
  | .lanternFrameReceive bundle => Wf.lanternFrameReceive bundle
  | .lanternFrameTransmit bundle => Wf.lanternFrameTransmit bundle
  | .bundleMarkedSlow bundle => Wf.bundleMarkedSlow bundle
  | .slowMarkClear bundle => Wf.slowMarkClear bundle
  | .linkStateReceive => Wf.linkStateReceive
  | .rerouteDiscard node => Wf.rerouteDiscard node
  | .shedEvaluation bundle u u10 => Wf.shedEvaluation bundle u u10
  | .laneReceive => Wf.laneReceive
  | .widthChange bundle => Wf.widthChange bundle
  | .laneLockLoss bundle lane => Wf.laneLockLoss bundle lane
  | .controlResendTimeout => Wf.controlResendTimeout
  | .bundleLock bundle lanes peer => Wf.bundleLock bundle lanes peer
  | .joinReceive => Wf.joinReceive
  | .joinRetry bundle => Wf.joinRetry bundle
  | .heartbeatSend bundle => Wf.heartbeatSend bundle
  | .heartbeatReceive => Wf.heartbeatReceive
  | .heartbeatTimeout bundle => Wf.heartbeatTimeout bundle
  | .reformReceive => Wf.reformReceive
  | .topoReceive => Wf.topoReceive
  | .reformationEnd => Wf.reformationEnd
  | .startupWaitExpiry => Wf.startupWaitExpiry
  | .paramsReceive => Wf.paramsReceive
  | .stringConfig ch r => Wf.stringConfig ch r
  | .stringQuery ch r => Wf.stringQuery ch r
  | .stringMembers ch r => Wf.stringMembers ch r
  | .bundleAdmin ch r => Wf.bundleAdmin ch r
  | .bundleQuery ch r => Wf.bundleQuery ch r
  | .stringTimeSteer ch r => Wf.stringTimeSteer ch r
  | .stringTimeSet ch r => Wf.stringTimeSet ch r
  | .lcpDecrypt => Wf.lcpDecrypt
  | .lcpEncrypt => Wf.lcpEncrypt
  | .gcmWorkRequest requester len aad iv => Wf.gcmWorkRequest requester len aad iv
  | .storageSegmentReceive seg => Wf.storageSegmentReceive seg
  | .nvmeCompletion conn cid status cqe => Wf.nvmeCompletion conn cid status cqe
  | .storageTransportFailure conn cause => Wf.storageTransportFailure conn cause
  | .tcpRetransmitTimeout conn => Wf.tcpRetransmitTimeout conn
  | .keepAlive conn => Wf.keepAlive conn
  | .connectionCloseTimeout conn => Wf.connectionCloseTimeout conn
  | .lcpSaSet ch r => Wf.lcpSaSet ch r
  | .lcpSaDelete ch r => Wf.lcpSaDelete ch r
  | .lcpSaQuery ch r => Wf.lcpSaQuery ch r
  | .lcpQueueBind ch r => Wf.lcpQueueBind ch r
  | .steKeySet ch r => Wf.steKeySet ch r
  | .steSessionOpen ch r => Wf.steSessionOpen ch r
  | .steSessionClose ch r => Wf.steSessionClose ch r
  | .steConnQuery ch r => Wf.steConnQuery ch r
  | .cryptoSliceRearm ch r => Wf.cryptoSliceRearm ch r
  | .stePatchStage ch r => Wf.stePatchStage ch r
  | .memRequest requester q => Wf.memRequest requester q.line
  | .memBurstComplete chan ok => Wf.memBurstComplete chan ok
  | .arbitrationEpoch => Wf.arbitrationEpoch
  | .rhWindowEnd => Wf.rhWindowEnd
  | .retrainingStart chan => Wf.retrainingStart chan
  | .retrainingComplete chan ok => Wf.retrainingComplete chan ok
  | .deviceOverTemperature dev => Wf.deviceOverTemperature dev
  | .journalRecordWrite typ subject ws => Wf.journalRecordWrite typ subject ws
  | .journalLineWriteComplete ok overLimit => Wf.journalLineWriteComplete ok overLimit
  | .memQuery ch r => Wf.memQuery ch r
  | .memRetrainConfig ch r => Wf.memRetrainConfig ch r
  | .memChannelQuery ch r => Wf.memChannelQuery ch r
  | .jnlQuery ch r => Wf.jnlQuery ch r
  | .jnlCompact ch r => Wf.jnlCompact ch r
  | .powerFail torn => Wf.powerFail torn
  | .powerFailRecovery => Wf.powerFailRecovery
  | .spdmRequest path kind valid bs => Wf.spdmRequest path kind valid bs
  | .alarmRaised source => Wf.alarmRaised source
  | .alarmCleared source => Wf.alarmCleared source
  | .candleMark => Wf.candleMark
  | .periodClose => Wf.periodClose
  | .candleReceive => Wf.candleReceive
  | .candleDoneReceive => Wf.candleDoneReceive
  | .meterConfig ch r => Wf.meterConfig ch r
  | .meterQuery ch r => Wf.meterQuery ch r
  | .meterRead ch r => Wf.meterRead ch r
  | .meterRelease ch r => Wf.meterRelease ch r
  | .meterLive ch r => Wf.meterLive ch r
  | .truQuery ch r => Wf.truQuery ch r
  | .keyEnrol ch r => Wf.keyEnrol ch r
  | .keyRevoke ch r => Wf.keyRevoke ch r
  | .certRead ch r => Wf.certRead ch r
  | .truZeroise ch r => Wf.truZeroise ch r
  | .powerOnResetRelease mgr i2c mv => Wf.powerOnResetRelease mgr i2c mv
  | .romStage => Wf.romStage
  | .fwLoad a b => Wf.fwLoad a b
  | .measureStage rom fw ste => Wf.measureStage rom fw ste
  | .selfTest tru jnl lcp ste => Wf.selfTest tru jnl lcp ste
  | .trainingStage f36 f32 f28 f24 small => Wf.trainingStage f36 f32 f28 f24 small
  | .replayStage bad => Wf.replayStage bad
  | .rejoinStage => Wf.rejoinStage
  | .readyStage => Wf.readyStage
  | .traceRecordWrite => Wf.traceRecordWrite
  | .traceStream n bad => Wf.traceStream n bad
  | .obsStreamConsumedWrite w => Wf.obsStreamConsumedWrite w
  | .obsTapTransaction op addr n => Wf.obsTapTransaction op addr n
  | .idcode => Wf.idcode
  | .sampleTap pins => Wf.sampleTap pins
  | .bypassTap code => Wf.bypassTap code
  | .obsTraceConfig ch r => Wf.obsTraceConfig ch r
  | .obsHeaderCapture ch r => Wf.obsHeaderCapture ch r
  | .obsStream ch r => Wf.obsStream ch r
  | .obsTraceRead ch r => Wf.obsTraceRead ch r
  | .obsTapEnable ch r => Wf.obsTapEnable ch r
  | .avsTargetAdjust mv => Wf.avsTargetAdjust mv
  | .thermAlert celsius => Wf.thermAlert celsius
  | .thermTrip => Wf.thermTrip
  | .powerOnResetAssert => Wf.powerOnResetAssert
  | .temperatureReportClear dev => Wf.temperatureReportClear dev
  | .ppsPulse => Wf.ppsPulse
  | .threadCyclesCharge t => Wf.threadCyclesCharge t

end Sys2Proof
end

