-- ==== Sys2Proof/Machine/Ops.lean ====
section
/-! DEFINITION. The shared operations: counting, the output record, the fault log, abort records, messages to hosts,
interrupt vectors and slice events, version slots. -/
namespace Sys2Proof.Machine

/-- Island numbers (Table 1-1). -/
abbrev isl.NETW : Nat := 3
abbrev isl.NETE : Nat := 4
abbrev isl.LNK : Nat := 5
abbrev isl.PIPA : Nat := 6
abbrev isl.PIPB : Nat := 7
abbrev isl.ACT0 : Nat := 8
abbrev isl.ACT1 : Nat := 9
abbrev isl.TMG : Nat := 10
abbrev isl.LCP : Nat := 11
abbrev isl.STE : Nat := 12
abbrev isl.QDE : Nat := 13
abbrev isl.MEM : Nat := 14
abbrev isl.MGT : Nat := 15
abbrev isl.TRU : Nat := 16
abbrev isl.OBS : Nat := 17

/-- A command's next state: `f` on the member, when the command is well formed (`Instr.wf`, one function `Wf.…` for each command). -/
def ran (wf : Bool) (f : Dev → Dev) (s : State) : Host.Outcome State Fault Refusal := if wf then .next (s.on f) else .refused .illFormed

/-- Something leaves the block. -/
def emit (o : Out) (s : Dev) : Dev := { s with out := o :: s.out }

/-- The boot ROM or the firmware's reload takes the flash bus, or lets it go: SPI_BUSY (R557). -/
def spiBus (b : Bool) (s : Dev) : Dev := if s.boot.spiBusy = b then s else emit (.pin "SPI_BUSY" b) { s with boot := { s.boot with spiBusy := b } }

/-- Key of a counter instance. -/
def Ctr.key (c : Ctr) (inst : Nat) : Nat := c.ctorIdx * 65536 + inst

/-- The value of a counter (R57). -/
def Dev.counter (s : Dev) (c : Ctr) (inst : Nat) : W64 := SMap.get 0 s.ctr (Ctr.key c inst)

/-- `n` more on a counter, modulo 2^64 (R57). -/
def countBy (c : Ctr) (inst n : Nat) (s : Dev) : Dev :=
  { s with ctr := SMap.put 0 s.ctr (Ctr.key c inst) (s.counter c inst + BitVec.ofNat 64 n) }

/-- One more on a counter. -/
def count (c : Ctr) (inst : Nat) (s : Dev) : Dev := countBy c inst 1 s

/-- Applies `f` when `b` holds. -/
def whenB (b : Bool) (f : Dev → Dev) (s : Dev) : Dev := if b then f s else s

/-- A watchdog period that WATCHDOG_CONFIG has set is in force once the firmware has restarted its watchdog, and stays so (R161). -/
def mgtAt (g : Mgt) (t : Time) : Mgt := if Time.ge t g.wdogAt then { g with wdogMs := g.wdogNextMs } else g

/-- String time is `t`. -/
def Dev.atTime (s : Dev) (t : Time) : Dev := { s with now := t, mgt := mgtAt s.mgt t }

/-- String time is set to `t`: the watchdog's time is kept (R159). -/
def Dev.setTime (s : Dev) (t : Time) : Dev :=
  let g := mgtAt s.mgt s.now
  { s with now := t, mgt := { g with wdogAt := g.wdogAt + (t - s.now) } }

/-- A timed event takes place no earlier than its time: string time moves on to `t` when it is behind. -/
def reach (t : Time) (s : Dev) : Dev := if Time.ge s.now t then s else s.atTime t

/-! ### Alarms -/

/-- The alarm sources that erase data keys (Table 15-2): 1 to 4 and 6. -/
def erasingMask : BitVec 6 := 0b101111

/-- An erasing alarm is present (R516). -/
def Dev.eraseHold (s : Dev) : Bool := s.tru.active &&& erasingMask != 0

/-! ### Host ports -/

def Dev.port (s : Dev) (p : Nat) : HostPort := SMap.get HostPort.reset s.ports p

def Dev.setPort (s : Dev) (p : Nat) (x : HostPort) : Dev := { s with ports := SMap.put HostPort.reset s.ports p x }

/-- Requests may be issued through this port and half (R568). -/
def Dev.linkUsable (s : Dev) (p : Nat) (half : Bool) : Bool := ((s.port p).link half).usable

/-- A posted write to the host, discarded on a link that cannot carry it (R568). -/
def hostWrite (p : Nat) (half : Bool) (pasid : Option (BitVec 20)) (addr : W64) (data : List Byte) (s : Dev) : Dev :=
  if s.linkUsable p half then emit (.hostWrite p half pasid addr data) s else s

/-- HIF_ABORT_ADDR's word (Table 3-7). -/
def abortWord (bar off : Nat) (write : Bool) (cause : Nat) : W64 :=
  mk64 [lo 28 off, at' bar 28, at' (b2n write) 30, at' cause 32]

/-- The port's abort record (R129). -/
def abort (p bar off : Nat) (write : Bool) (cause : Nat) (s : Dev) : Dev :=
  s.setPort p { s.port p with abortAddr := abortWord bar off write cause, abortTime := s.now }

/-- Sends an MSI-X message of one half's entry, holds it while masked, drops it with MSI-X disabled (R198). -/
def msixHalf (p : Nat) (half : Bool) (entry : Nat) (s : Dev) : Dev :=
  let l := (s.port p).link half
  if !l.msixEnable then s
  else if l.msixFuncMask || l.msixMask.getLsbD entry then
    s.setPort p ((s.port p).setLink half { l with msixPending := l.msixPending ||| BitVec.ofNat 64 (2 ^ entry) })
  else if l.usable then emit (.msix p half entry) s else s

/-- Signals an MSI-X entry of a port: through half A while its link is in L0, else half B of a bifurcated port (R198). -/
def msixSignal (p entry : Nat) (s : Dev) : Dev :=
  if (s.port p).bifurcated && !(s.port p).linkA.up then msixHalf p true entry s else msixHalf p false entry s

/-! ### The fault log -/

/-- The four words of a fault record (R163). -/
def FaultRec.words (r : FaultRec) : List W64 :=
  [mk64 [r.time.toNat, at' (lo 8 r.source) 48, at' (lo 8 r.dest) 56],
   mk64 [r.code.toNat, at' (lo 2 r.kind) 16, at' r.index.toNat 32], r.detail2, r.detail3]

/-- Adds a record to the ring of 1,024, writes a FAULT trace record (Table 16-4) and signals the fault-log event on the manager port (R163, R164). -/
def logFault (source dest : Nat) (code : BitVec 16) (kind : Nat) (d2 d3 : W64) (s : Dev) : Dev :=
  let r : FaultRec :=
    { time := s.now, source := source, dest := dest, code := code, kind := kind, index := s.mgt.nextIndex, detail2 := d2, detail3 := d3 }
  let full := decide (1024 ≤ s.mgt.faults.length)
  let s := if s.obs.mode ≠ 0 ∧ s.obs.sources.getLsbD 4 then
      { s with obs := { s.obs with arriving := s.obs.arriving ++
        [⟨5, [mk64 [s.now.toNat, at' (lo 8 source) 48, at' 5 56], mk64 [at' 2 62], 0, 0] ++ FaultRec.words r⟩] } }
    else s
  let s1 := { s with mgt := { s.mgt with faults := (if full then s.mgt.faults.drop 1 else s.mgt.faults) ++ [r],
                                          nextIndex := s.mgt.nextIndex + 1 } }
  msixSignal s1.mgrPort 0 (whenB full (count .mgtFaultOverwrite 0) s1)

/-! ### Slices, vectors and events -/

/-- What slice `n` reads as when it is unlisted: slice 0 exists from start-up (R172). -/
def sliceDefault (n : Nat) : Slice := if n = 0 then Slice.manager else Slice.free

def Dev.slice (s : Dev) (n : Nat) : Slice := SMap.get (sliceDefault n) s.slices.slices n

def Dev.setSlice (s : Dev) (n : Nat) (x : Slice) : Dev :=
  { s with slices := { s.slices with slices := SMap.put (sliceDefault n) s.slices.slices n x } }

/-- Passes every listed slice through `f`. -/
def Dev.mapSlices (f : Slice → Slice) (s : Dev) : Dev :=
  (s.slices.slices.map (fun e => e.1)).foldl (fun s n => s.setSlice n (f (s.slice n))) s

def Dev.vec (s : Dev) (n v : Nat) : Vec := SMap.get Vec.reset s.slices.vecs (64 * n + v)

def Dev.setVec (s : Dev) (n v : Nat) (x : Vec) : Dev :=
  { s with slices := { s.slices with vecs := SMap.put Vec.reset s.slices.vecs (64 * n + v) x } }

/-- The port and half through which a slice is served; slice 0 through the manager port (R108, R172). -/
def Dev.slicePort (s : Dev) (n : Nat) : Nat := if n = 0 then s.mgrPort else (s.slice n).port

/-- The PASID of a slice's requests: none for slice 0 (R173). -/
def Dev.slicePasid (s : Dev) (n : Nat) : Option (BitVec 20) := if n = 0 then none else some (s.slice n).pasid

/-- A message of the vector is due: unmasked, events pending, COUNT_MAX reached or DELAY_US passed (R193). -/
def vecDue (v : Vec) (now : Time) : Bool :=
  !v.mask && decide (0 < v.pending) && (decide (v.countMax ≤ v.pending) || decide (v.delayUs * 1000 ≤ Time.since now v.first)) &&
    v.address != 0

/-- Sends the vector's message when one is due, setting its pending count to 0 (R193, R195, R568). -/
def vecTry (n v : Nat) (s : Dev) : Dev :=
  let x := s.vec n v
  if vecDue x s.now then
    let s1 := s.setVec n v { x with pending := 0 }
    if s.linkUsable (s.slicePort n) (s.slice n).half then
      count .ieuMessages (s.slicePort n) (emit (.message (s.slicePort n) (s.slice n).half x.address x.data) s1)
    else s1
  else s

/-- An event for vector `v` of slice `n` (R193, R195). A vector at or above VECTORS does not exist. -/
def vecEvent (n v : Nat) (s : Dev) : Dev :=
  if v < (s.slice n).profile.vectors then
    let x := s.vec n v
    let s1 := s.setVec n v { x with pending := x.pending + 1, first := if x.pending = 0 then s.now else x.first }
    vecTry n v (whenB (x.address == 0) (count .ieuNoAddress 0) s1)
  else s

/-- A slice event on the vector that EVENT_MAP names, or not at all at 0xFF (R197). -/
def sliceEvent (n : Nat) (vector : Byte) (s : Dev) : Dev :=
  if vector = 255 then s else vecEvent n vector.toNat s

/-- The slice enters a state (Table 5-2), at this string time. -/
def enterState (n : Nat) (st : SliceState) (s : Dev) : Dev :=
  s.setSlice n { s.slice n with state := st, changed := s.now }

/-! ### Mailbox channels -/

def Dev.chan (s : Dev) (c : Nat) : MbxChan := SMap.get MbxChan.reset s.mgt.chans c

def Dev.setChan (s : Dev) (c : Nat) (x : MbxChan) : Dev :=
  { s with mgt := { s.mgt with chans := SMap.put MbxChan.reset s.mgt.chans c x } }

/-- The binding of manager channel `m`. -/
def Dev.binding (s : Dev) (m : Nat) : Binding := SMap.get ⟨0, false⟩ s.mgt.bindings m

/-- The bound sender of a channel, if any: the slice's port for a slice channel, the binding table for a manager channel
(R146, R147). -/
def Dev.sender (s : Dev) (c : Nat) : Option Nat :=
  if c < 4096 then
    if (s.slice c).state = .free then none else some (8 + s.slicePort c)
  else
    let b := s.binding (c - 4096)
    if b.valid then some b.sender.toNat else none

/-- A mailbox event of a channel: MAILBOX of the slice, or entry 1 of the sender's port (R135, R198). -/
def mbxEvent (c : Nat) (s : Dev) : Dev :=
  if c < 4096 then sliceEvent c (s.slice c).evMailbox s
  else match s.sender c with
    | some m => if 8 ≤ m ∧ m ≤ 10 then msixSignal (m - 8) 1 s else s
    | none => s

/-- A channel reset (R141); it signals no event. -/
def resetChan (c : Nat) (s : Dev) : Dev := s.setChan c MbxChan.reset

/-! ### Version slots -/

def Dev.slot (s : Dev) (k : Nat) : Slot := SMap.get Slot.free s.rules.slots k

def Dev.setSlot (s : Dev) (k : Nat) (x : Slot) : Dev :=
  { s with rules := { s.rules with slots := SMap.put Slot.free s.rules.slots k x } }

/-- The slot numbers. -/
def slotNumbers : List Nat := [0, 1, 2, 3, 4, 5, 6, 7]

/-- The first slot in a state. -/
def Dev.slotIn (s : Dev) (st : SlotState) : Option Nat := slotNumbers.find? (fun k => decide ((s.slot k).state = st))

/-- The slot of the active version (R62); none only while a merge leaves no version active (R84). -/
def Dev.activeSlot (s : Dev) : Option Nat := s.slotIn .active

/-- The active version, 0 where none is active. -/
def Dev.activeVersion (s : Dev) : Version :=
  match s.activeSlot with
  | some k => (s.slot k).version
  | none => 0

/-- The slot of version `v` (R59). -/
def versionSlot (v : Version) : Nat := v.toNat % 8

/-- The version check of R65. -/
def Dev.versionOk (s : Dev) (t : Tag) : Bool :=
  let x := s.slot t.vslot.toNat
  t.exempt || (x.processes && t.vcheck.toNat % 8 == t.vslot.toNat && t.vcheck.toNat == x.version.toNat % 32)

/-- A pipeline's island (Table 1-1). -/
def pipeIsland (k : Nat) : Nat := if k < 4 then isl.PIPA else isl.PIPB

def Dev.pipe (s : Dev) (k : Nat) : Pipeline := SMap.get Pipeline.reset s.rules.pipes k

def Dev.setPipe (s : Dev) (k : Nat) (x : Pipeline) : Dev :=
  { s with rules := { s.rules with pipes := SMap.put Pipeline.reset s.rules.pipes k x } }

end Sys2Proof.Machine
end

