-- ==== Sys2Proof/Machine/Command.lean ====
section
/-! DEFINITION. How the Lamplighter takes a request, checks it, answers it and records it (R138 to R142, R149 to R158, R570). -/
namespace Sys2Proof.Machine

/-- What a command's definition fixes for the checks of R570. -/
structure CmdSpec where
  opcode : Nat
  /-- Returns NOT_PERMITTED on slice and internal channels. -/
  managerOnly : Bool
  /-- Accepted before HIF_STATUS.READY reads 1. -/
  early : Bool
  /-- The bits of each payload word that are not reserved. -/
  masks : List W64
  /-- Payload words beyond `masks` carry data. -/
  open' : Bool
  /-- The longest response payload in bytes, 0 where the command names a buffer of its own (R151). -/
  respMax : Nat
  deriving DecidableEq, Repr

/-- All bits of a payload word. -/
def anyWord : W64 := BitVec.allOnes 64

/-- The bits [hi:lo] of a payload word. -/
def bits (hi lo : Nat) : W64 := BitVec.ofNat 64 ((2 ^ (hi + 1 - lo) - 1) * 2 ^ lo)

/-- A manager-only command of a ready device with these payload bits. -/
def mgrCmd (opcode : Nat) (masks : List W64) (respMax : Nat) : CmdSpec :=
  { opcode := opcode, managerOnly := true, early := false, masks := masks, open' := false, respMax := respMax }

/-- A command that slice channels may issue too. -/
def anyCmd (opcode : Nat) (masks : List W64) (respMax : Nat) : CmdSpec := { mgrCmd opcode masks respMax with managerOnly := false }

/-- The kind of a channel: slice channel, internal channel (bound to an internal identity), manager channel (R133, R145). -/
def Dev.isInternal (s : Dev) (ch : Nat) : Bool :=
  decide (4096 ≤ ch) && match s.sender ch with
    | some m => !(decide (8 ≤ m) && decide (m ≤ 10))
    | none => false

def isSliceChan (ch : Nat) : Bool := decide (ch < 4096)

/-- The host port, half and PASID through which a channel's buffers are reached (R152). A manager channel's go through half A of a bifurcated port:
DESIGN CHOICE, log 125 (R93, R152). -/
def Dev.bufPort (s : Dev) (ch : Nat) : Nat × Bool × Option (BitVec 20) :=
  if ch < 4096 then (s.slicePort ch, (s.slice ch).half, s.slicePasid ch)
  else match s.sender ch with
    | some m => (m - 8, false, none)
    | none => (0, false, none)

/-- Frame checks of R570, point 2. -/
def frameBad (s : Dev) (sp : CmdSpec) (ch : Nat) (r : Req) : Bool :=
  r.flagsRsv || (!r.indirect && (decide (56 < r.payloadLen.toNat) || decide (56 < sp.respMax))) || (r.indirect && s.isInternal ch)

/-- The statuses that R182 gives on the channel of a slice that is not ACTIVE: none where the request is executed. -/
def sliceBlocked (s : Dev) (sp : CmdSpec) (ch : Nat) (r : Req) : Option Status :=
  if ch < 4096 then
    let st := (s.slice ch).state
    if st = .active ∨ sp.opcode = 0x0102 then none
    else if sp.opcode = 0x0230 ∧ (st = .quiescing ∨ st = .forcing ∨ st = .quiesced ∨ st = .halted) then none
    else if sp.opcode = 0x0104 ∧ fld (r.word 0) 11 0 = ch ∧ (st = .quiesced ∨ st = .halted) then none
    else if st = .halted then some .halted else some .busy
  else none

/-- Table 4-4: an indirect buffer that cannot be used before execution. With PAYLOAD_LEN 0 nothing is read of it. -/
def bufferBad (s : Dev) (sp : CmdSpec) (ch : Nat) (r : Req) : Option Status :=
  if r.indirect then
    let cap := fld (r.inline.getD 1 0) 31 0
    let addr := r.inline.getD 0 0
    let (p, h, _) := s.bufPort ch
    if cap < r.payloadLen.toNat ∨ fld addr 2 0 ≠ 0 ∨ cap < sp.respMax then some .badArgument
    else if !r.host.translates then some .notPermitted
    else if r.payloadLen ≠ 0 && (!r.host.readOk || !(s.linkUsable p h)) then some .timeout
    else none
  else none

/-- A payload word or byte that must be 0 is not: a reserved bit of a word, or a bit beyond PAYLOAD_LEN (R12, R149). -/
def payloadBad (sp : CmdSpec) (r : Req) : Bool :=
  let n := r.payloadLen.toNat
  let wordBad := fun (w, i) =>
    let allowed : W64 := match sp.masks[i]? with
      | some m => m
      | none => if sp.open' then anyWord else 0
    let inLen : W64 := if r.indirect || 8 * i + 8 ≤ n then anyWord else if n ≤ 8 * i then 0 else BitVec.ofNat 64 (2 ^ (8 * (n - 8 * i)) - 1)
    (w &&& ~~~(allowed &&& inLen)) != 0
  r.words.zipIdx.any wordBad || (r.indirect && (r.inline.zipIdx.any (fun (w, i) =>
    (decide (2 ≤ i) && w != 0) || (i == 1 && fld w 63 32 != 0))))

/-- The first of the checks 2 to 7 of R570 that fails. -/
def cmdCheck (s : Dev) (sp : CmdSpec) (ch : Nat) (r : Req) : Option Status :=
  if frameBad s sp ch r then some .badArgument
  else if sp.managerOnly && (isSliceChan ch || s.isInternal ch) then some .notPermitted
  else if !sp.early && !s.boot.ready then some .busy
  else match sliceBlocked s sp ch r with
    | some st => some st
    | none => match bufferBad s sp ch r with
      | some st => some st
      | none => if payloadBad sp r then some .badArgument else none

/-- Word 0 of a response frame (R150). -/
def respWord (opcode : Nat) (seq : BitVec 16) (st : Status) (replayed : Bool) (len : Nat) : W64 :=
  mk64 [lo 16 opcode, at' seq.toNat 16, at' (Status.code st) 32, at' (b2n replayed) 47, at' (lo 16 len) 48]

/-- Writes the whole response slot, then EMPTY and EXECUTING together, and signals the response event (R135, R139). -/
def writeResponse (ch opcode : Nat) (seq : BitVec 16) (st : Status) (replayed : Bool) (len : Nat) (inline : List W64)
    (s : Dev) : Dev :=
  let c := s.chan ch
  let ws := respWord opcode seq st replayed len :: (inline ++ List.replicate (7 - inline.length) 0)
  let s1 := s.setChan ch { c with response := ws, empty := false, executing := false, current := none }
  let s2 := whenB replayed (count .mbxReplays 0) s1
  let s3 := whenB (decide (st = .versionConflict)) (count .versionConflicts 0) s2
  let s4 := whenB (decide (st = .stalePartition)) (count .stalePartitionReplies 0) s3
  whenB c.responseEn (mbxEvent ch) (emit (.response ch ws) s4)

/-- Records the final status of a taken request in the channel's history (R158). -/
def histEnd (no : Nat) (st : Status) (payload : List W64) (hs : List HistEntry) : List HistEntry :=
  hs.map (fun h => if h.no = no ∧ h.done = false then { h with status := st, done := true, payload := payload } else h)

/-- A command ends: its status goes to the history, and its response to the slot unless the response timer has already
answered (R155, R158). With INDIRECT the payload goes to the host's buffer first; a failure there answers TIMEOUT (R152). -/
def answer (j : Job) (st : Status) (ws : List W64) (s : Dev) : Dev :=
  let c := s.chan j.ch
  let s1 := s.setChan j.ch { c with history := histEnd j.no st ws c.history, running := c.running.filter (fun n => n != j.no) }
  if c.executing ∧ c.current = some ⟨j.no, j.opcode, j.seq⟩ then
    if j.indirect ∧ ws ≠ [] then
      let (p, h, pasid) := s.bufPort j.ch
      if j.writeOk ∧ s.linkUsable p h then
        writeResponse j.ch j.opcode j.seq st false (8 * ws.length) [] (hostWrite p h pasid j.addr (wordsBytes ws) s1)
      else writeResponse j.ch j.opcode j.seq .timeout false 0 [] s1
    else writeResponse j.ch j.opcode j.seq st false (8 * ws.length) ws s1
  else s1

/-- The Lamplighter takes a request: it is counted, executes, and enters the history (R138, R158, R171). The STATUS that the entry, and so
CMD_RESULT, shows while DONE is 0 is OK: DESIGN CHOICE, log 123 (R158). -/
def takeRequest (ch opcode : Nat) (seq : BitVec 16) (s : Dev) : Dev :=
  let c := s.chan ch
  let no := s.mgt.takes + 1
  let h : HistEntry := { no := no, opcode := opcode, seq := seq, status := .ok, done := false, payload := [] }
  let c1 := { c with
    executing := true, current := some ⟨no, opcode, seq⟩, running := no :: c.running,
    deadline := Time.plus s.now (c.timerMs * 1000000), history := (h :: c.history).take 8 }
  count .mbxRequests 0 (Dev.setChan { s with mgt := { s.mgt with takes := no } } ch c1)

/-- What a command's own part answers: a status with its payload, or nothing yet (it goes on as a job). -/
abbrev Reply := Option (Status × List W64)

/-- The job that a request makes, the request taken last. -/
def mkJob (sp : CmdSpec) (ch : Nat) (r : Req) (s : Dev) : Job :=
  { ch := ch, no := s.mgt.takes, opcode := sp.opcode, seq := r.seq, writeOk := r.host.writeOk, indirect := r.indirect, addr := r.inline.getD 0 0 }

/-- The answer to a RETRY of the channel's previous request (R157): not executed again. Where the retry names a buffer, the payload goes there
(R152); where it names none, a payload of more than 56 bytes is answered with its first 7 words: DESIGN CHOICE, log 124 (R157). -/
def replayAnswer (ch : Nat) (r : Req) (h : HistEntry) (s : Dev) : Dev :=
  if h.done then
    if r.indirect && !s.isInternal ch && !h.payload.isEmpty then
      let (p, half, pasid) := s.bufPort ch
      if r.host.translates && r.host.writeOk && s.linkUsable p half then
        writeResponse ch h.opcode h.seq h.status true (8 * h.payload.length) [] (hostWrite p half pasid (r.inline.getD 0 0) (wordsBytes h.payload) s)
      else writeResponse ch h.opcode h.seq .timeout true 0 [] s
    else writeResponse ch h.opcode h.seq h.status true (8 * (h.payload.take 7).length) (h.payload.take 7) s
  else writeResponse ch h.opcode h.seq .busy true 0 [] s

/-- The request repeats the channel's previous one (R157). -/
def isReplay (s : Dev) (opcode ch : Nat) (r : Req) : Option HistEntry :=
  match (s.chan ch).history with
  | [] => none
  | h :: _ => if r.retry ∧ h.opcode = opcode ∧ h.seq = r.seq then some h else none

/-- Executes a taken request: R570's checks in order, then the command's own part; no check that fails leaves an effect. -/
def command (sp : CmdSpec) (ch : Nat) (r : Req) (body : Dev → Dev × Reply) (s : Dev) : Dev :=
  match isReplay s sp.opcode ch r with
  | some h => replayAnswer ch r h (count .mbxRequests 0 s)
  | none =>
    let s1 := takeRequest ch sp.opcode r.seq s
    match cmdCheck s1 sp ch r with
    | some st => answer (mkJob sp ch r s1) st [] s1
    | none =>
      match body s1 with
      | (s2, some (st, ws)) => answer (mkJob sp ch r s1) st ws s2
      | (s2, none) => s2

/-- The channel can have a request taken: the firmware runs, the channel is bound, its response slot is empty and it is not
executing (R138, R145, R159). -/
def Dev.idleChan (s : Dev) (ch : Nat) : Bool :=
  s.mgt.fwUp && (s.sender ch).isSome && (s.chan ch).empty && !(s.chan ch).executing

/-! ### Whose turn it is (R569) -/

/-- Requests taken on slice channels whose commands have not ended, timed-out ones among them (R569). -/
def sliceRequests (s : Dev) : Nat := ((s.mgt.chans.filter (fun e => decide (e.1 < 4096))).map (fun e => e.2.running.length)).sum

/-- The channel can have its posted request taken (R138). -/
def takeable (s : Dev) (ch : Nat) : Bool := s.idleChan ch && (s.chan ch).full

/-- The next of these channels in round-robin order (R569). -/
def nextChannel (last : Nat) (cs : List Nat) : Option Nat := (cs.filter (fun c => decide (last < c)) ++ cs).head?

/-- The channel that the Lamplighter serves next: manager channels first, then slice channels while fewer than 64 execute (R569). -/
def servedNext (s : Dev) : Option Nat :=
  let cs := (s.mgt.chans.map Prod.fst).filter (takeable s)
  match nextChannel s.mgt.lastManager (cs.filter (fun c => decide (4096 ≤ c))) with
  | some c => some c
  | none => if sliceRequests s < 64 then nextChannel s.mgt.lastSlice (cs.filter (fun c => decide (c < 4096))) else none

/-- The channel is the one served last of its group. -/
def served (ch : Nat) (s : Dev) : Dev :=
  { s with mgt := if 4096 ≤ ch then { s.mgt with lastManager := ch } else { s.mgt with lastSlice := ch } }

/-- A request posted on the channel now would be the next that the Lamplighter takes: the channel holds no posted request and is idle, and its turn
comes before that of every channel with a posted request (R138, R569). -/
def Dev.turnOf (s : Dev) (ch : Nat) : Bool :=
  s.idleChan ch && !(s.chan ch).full && decide (servedNext (s.setChan ch { s.chan ch with full := true }) = some ch)

/-- A command row: the request is posted, taken and executed where it is the channel's turn; elsewhere it is not taken (R138, R569). -/
def onChannel (ch : Nat) (f : Dev → Dev) (s : Dev) : Dev := if s.turnOf ch then f (served ch s) else s

/-- A body that only reads. -/
def reads (f : Dev → Status × List W64) (s : Dev) : Dev × Reply := (s, some (f s))

/-- A body that fails with a status and changes nothing. -/
def fail (st : Status) (s : Dev) : Dev × Reply := (s, some (st, []))

/-- A body that ends OK with a payload. -/
def done (ws : List W64) (s : Dev) : Dev × Reply := (s, some (.ok, ws))

/-- Checks in order, each with the status it fails with; the first that fails answers. -/
def checks (cs : List (Bool × Status)) (k : Dev → Dev × Reply) (s : Dev) : Dev × Reply :=
  match cs.find? (fun c => !c.1) with
  | some (_, st) => (s, some (st, []))
  | none => k s

/-- A slice channel reaches its own slice only; manager channels reach every slice. -/
def reaches (ch sl : Nat) : Bool := decide (4096 ≤ ch) || ch == sl

/-- The failure, if any, to write a buffer that a command's own payload names, through the channel's port: TIMEOUT, or for a translation fault the
status that the command's definition gives (R90, R152, Table 4-4). -/
def bufferFault (fault : Status) (s : Dev) (ch : Nat) (r : Req) : Option Status :=
  if !r.host.translates then some fault
  else if !r.host.writeOk || !(s.linkUsable (s.bufPort ch).1 (s.bufPort ch).2.1) then some .timeout
  else none

/-- The data leaves for that buffer. -/
def bufferWrite (ch : Nat) (addr : W64) (bs : List Byte) (s : Dev) : Dev :=
  if bs = [] then s else hostWrite (s.bufPort ch).1 (s.bufPort ch).2.1 (s.bufPort ch).2.2 addr bs s

/-- A body that writes `bs` to a named buffer and answers `ws`, or fails as Table 4-4 gives with its effect standing. No data needs no buffer. -/
def toBuffer (fault : Status) (ch : Nat) (r : Req) (addr : W64) (bs : List Byte) (ws : List W64) (s : Dev) : Dev × Reply :=
  match if bs = [] then none else bufferFault fault s ch r with
  | some st => (s, some (st, []))
  | none => (bufferWrite ch addr bs s, some (.ok, ws))

/-- The lowest number that a rising list of keys does not hold. -/
def lowestFree (ks : List Nat) : Nat := ks.foldl (fun n k => if k = n then n + 1 else n) 0

/-- The number that a creating command assigns: the lowest free one, or under replay the one that its record names. -/
def Dev.assign (s : Dev) (ks : List Nat) : Nat := s.jnl.replaying.getD (lowestFree ks)

/-- This member is on a non-lead side (R82), or has not done the steps of R84 since it left one. -/
def Dev.nonLead (s : Dev) : Bool := s.str.partition == 2 || decide (s.str.state = .rejoining)

/-- A read of versioned state answers STALE_PARTITION with its normal payload on a non-lead side (R83). -/
def Dev.readStatus (s : Dev) : Status := if s.nonLead then .stalePartition else .ok

end Sys2Proof.Machine
end

