-- ==== Sys2Proof/Machine/Journal.lean ====
section
/-! DEFINITION. Taking journal records (R497, R500), and the meters (R517, R519, R521). -/
namespace Sys2Proof.Machine

/-- Lines of a record with a payload of `len` bytes: header, payload, tag (Table 14-2). -/
def recLines (len : Nat) : Nat := (32 + len + 16 + 63) / 64

/-- Lines of the log region that records take. -/
def Jnl.used (j : Jnl) : Nat := ((j.records ++ j.inflight).map JRec.lines).sum

/-- Free lines of the log region, reserve included. -/
def Jnl.free (j : Jnl) : Nat := j.logLines - Jnl.used j

/-- The reserve of 16 MiB in lines (R496). -/
abbrev jnlReserve : Nat := 262144

/-- The records that may use the reserve (R500): DECISION, ACTIVATE, SLOT_FREE, WITHDRAW, CHECKPOINT, POWER_FAIL. -/
def jnlPrivileged (typ : Nat) : Bool := [2, 3, 4, 5, 9, 10].contains typ

/-- A record of `lines` lines is taken (R500). -/
def Jnl.takes (j : Jnl) (typ lines : Nat) : Bool :=
  j.ready && !j.stopped && decide (lines ≤ 16384) &&
    (if jnlPrivileged typ then decide (lines ≤ Jnl.free j) else decide (lines + jnlReserve ≤ Jnl.free j))

/-- STATE leaves EXHAUSTED once the free space less the reserve reaches the largest record refused (R500). -/
def Jnl.recover (j : Jnl) : Jnl :=
  match j.exhausted with
  | some n => if n + jnlReserve ≤ Jnl.free j then { j with exhausted := none } else j
  | none => j

/-- What a record is the latest state of (R499): a configured object, a mark, the sequence numbers of an SA. -/
def JRec.object (r : JRec) : Option (Nat × Nat × Nat) :=
  match r.body with
  | .config op _ _ => some (0, op, r.subject)
  | .mark n .. => some (1, n.toNat, 0)
  | .epoch .. => some (2, 0, 0)
  | .params .. => some (3, 0, 0)
  | .seqBlock inbound _ => some (4, r.subject, b2n inbound)
  | _ => none

/-- A record holds live state (R499), by what it says: a version held in a slot, an object, an unread METER record, one of the last marks.
A version's DECISION adds nothing once its slot is held. -/
def holdsLiveState (s : Dev) (r : JRec) : Bool :=
  let held := fun (v : Nat) => slotNumbers.any (fun k => decide ((s.slot k).state ≠ .free) && (s.slot k).version.toNat == v)
  match r.body with
  | .prepare .. => held r.subject
  | .activate _ => held r.subject
  | .config .. => true
  | .mark n .. => decide ((s.mtr.opens.map (fun p => p.period.toNat)).headD 0 < n.toNat + 3)
  | .epoch .. => true
  | .params .. => true
  | .meter x => decide (s.mtr.oldest.toNat ≤ x.period.toNat)
  | .seqBlock .. => (SMap.get none s.cry.sas r.subject).isSome
  | _ => false

/-- The records among these that hold live state: of one object the latest (R499). -/
def liveAmong (s : Dev) : List JRec → List JRec
  | [] => []
  | r :: rest =>
    let newer := (JRec.object r).isSome && rest.any (fun x => JRec.object x == JRec.object r)
    if holdsLiveState s r && !newer then r :: liveAmong s rest else liveAmong s rest

/-- LIVE_MIB: the size of the live state, as the log's durable records hold it (R499). -/
def Dev.liveMib (s : Dev) : Nat := (((liveAmong s s.jnl.records).map JRec.lines).sum * 64) / 1048576

/-- A refused ordinary record: EXHAUSTED and its fault, or a larger refusal noted (R500). -/
def jnlRefused (lines : Nat) (s : Dev) : Dev :=
  match s.jnl.exhausted with
  | some n => { s with jnl := { s.jnl with exhausted := some (Nat.max n lines) } }
  | none =>
    if s.jnl.ready && !s.jnl.stopped then
      logFault isl.MGT 0xFF 0x1101 0 (BitVec.ofNat 64 (lo 9 s.liveMib)) 0
        { s with jnl := { s.jnl with exhausted := some lines } }
    else s

/-- The journal takes no record of `lines` lines for a command: it answers NO_RESOURCE, and has changed nothing else (R79, R500). -/
def refuseRecord (lines : Nat) (s : Dev) : Dev × Option (Status × List W64) := (jnlRefused lines s, some (.noResource, []))

/-- Presents a record to the journal: none when it is refused. While a record is replayed nothing is written (R503). -/
def jTake (typ subject len : Nat) (body : JBody) (next : JThen) (s : Dev) : Option Dev :=
  let n := recLines len
  if Jnl.takes s.jnl typ n then
    let r : JRec := { typ := typ, seq := s.jnl.nextSeq, time := s.now, subject := subject, lines := n, written := 0, body := body, then' := next }
    some { s with jnl := { s.jnl with inflight := s.jnl.inflight ++ [r], nextSeq := s.jnl.nextSeq + 1 } }
  else none

/-- The response timer has answered a job's request, and its command goes on (R155). -/
def timedOut (s : Dev) (j : Job) : Bool := (s.chan j.ch).running.contains j.no && (s.chan j.ch).current.all (fun t => t.no != j.no)

/-- The object that a configuration command acts on: commands on a vector, a queue pair, an octet, an image, string time, an SA or a session share
theirs; every other command's is its own (DEDUCED, log 126). -/
def commandObject (opcode subject : Nat) : Nat × Nat :=
  if opcode = 0x0111 then (0x0110, subject)
  else if 0x0200 ≤ opcode ∧ opcode ≤ 0x0205 then (0x0200, subject)
  else if opcode = 0x0304 then (0x0300, subject)
  else if opcode = 0x0541 then (0x0540, subject)
  else if opcode = 0x0706 then (0x0705, subject)
  else if opcode = 0x0801 then (0x0800, subject)
  else if opcode = 0x0811 ∨ opcode = 0x0812 then (0x0811, subject % 65536)
  else (opcode, subject)

/-- A timed-out command still holds the object: its record of it is on its way (R156). -/
def heldObject (s : Dev) (opcode subject : Nat) : Bool :=
  s.jnl.inflight.any (fun r => match r.body, r.then' with
    | .config op _ _, .answer j _ _ => decide (commandObject op r.subject = commandObject opcode subject) && timedOut s j
    | _, _ => false)

/-- A journalled configuration command (Table 2-7, R79): the change `f` and its record, the response written once the record
is durable (R497), or NO_RESOURCE with nothing changed; BUSY where a timed-out command holds the object (R156). Under replay the change is made alone. -/
def configured (sp : CmdSpec) (ch : Nat) (r : Req) (subject : Nat) (f : Dev → Dev) (ws : List W64) (s : Dev) :
    Dev × Reply :=
  if s.jnl.replaying.isSome then (f s, some (.ok, ws))
  else if heldObject s sp.opcode subject then (s, some (.busy, []))
  else
    match jTake 6 subject r.payloadLen.toNat (.config sp.opcode ch r.words) (.answer (mkJob sp ch r s) .ok ws) s with
    | some s1 => (f s1, none)
    | none => refuseRecord (recLines r.payloadLen.toNat) s

/-- A record that draws on the reserve is taken unless the journal has stopped; a refusal leaves the state. -/
def jPut (typ subject len : Nat) (body : JBody) (next : JThen) (s : Dev) : Dev :=
  (jTake typ subject len body next s).getD s

/-! ### Meters -/

/-- Key of a meter of a slice's present holder (R524). -/
def meterKey (s : Dev) (sl m : Nat) : Nat := (SMap.get 0 s.mtr.gens sl * 4096 + sl) * 32 + m

/-- The open period of an event attributed to time `t`: the newest whose mark it has reached (R519), and whether there was
one (R521). -/
def periodAt (ps : List OpenPeriod) (t : Time) : Nat × Bool :=
  match ps.findIdx? (fun p => Time.ge t p.mark || p.period == 0) with
  | some i => (i, true)
  | none => (0, false)

/-- `n` more on meter `m` of slice `sl`, attributed to time `t`; a late event goes to the newest open period (R521). -/
def meterAdd (sl m n : Nat) (t : Time) (s : Dev) : Dev :=
  let (i, ok) := periodAt s.mtr.opens t
  let key := meterKey s sl m
  let add := fun (p : OpenPeriod) => { p with counts := SMap.put 0 p.counts key (SMap.get 0 p.counts key + BitVec.ofNat 64 n) }
  let s1 := { s with mtr := { s.mtr with opens := s.mtr.opens.modify i add } }
  whenB (!ok) (count .mtrLate 0) s1

/-- A metered packet: METER_CLASS is not 63, and it is no frame of R34 (R517). -/
def metered (t : Tag) : Bool := t.meterClass.toNat != 63 && !t.exempt

/-- Class group of a packet: METER_CLASS [5:4] (R517). -/
def meterGroup (t : Tag) : Nat := t.meterClass.toNat / 16

/-- Bytes and packets of a packet on two groups of meters (IN at 0 and 4, OUT at 8 and 12), at its ENTRY_TIME. -/
def meterPacket (sl base : Nat) (t : Tag) (s : Dev) : Dev :=
  if metered t then
    meterAdd sl (base + 4 + meterGroup t) 1 t.entryTime (meterAdd sl (base + meterGroup t) t.length.toNat t.entryTime s)
  else s

end Sys2Proof.Machine
end

