-- ==== Sys2Proof/Config.lean ====
section
/-! DEFINITION. What an implementation fixes and the spec does not state: opaque constants, so that no proof can see a value. -/
namespace Sys2Proof

/-- The hash h_w of an exact-match table's way (R317): table, way, key. The spec gives no function. -/
opaque Config.tableHash : Nat → Nat → List Byte → Nat

/-- The channel of a 256-byte granule of GDDR7: the fixed hash of address bits [35:8] (R486), which the spec does not give; and a line's bank and
row. -/
opaque Config.memChannel : BitVec 28 → Fin 48
opaque Config.memBank : Nat → Fin 32
opaque Config.memRow : Nat → Nat

/-- The line of the table region that holds a bucket of a table's GDDR7 part, and the line of the program region that holds a word of a group's
state memory: the spec gives no layout within a region. -/
opaque Config.tableLine : Nat → Nat → Nat
opaque Config.stateLine : Nat → Nat → Nat

/-- The hash of the learned tables (R324): way, key. -/
opaque Config.learnHash : Nat → List Byte → Nat

/-- SHA-384 of a byte string: FIPS 180-4, which the spec names and does not restate. -/
opaque Config.sha384 : List Byte → BitVec 384

/-- ECDSA P-384 verification under the public key held in an enrolled key slot: key bytes, digest, signature. -/
opaque Config.ecdsaVerify : List Byte → BitVec 384 → List Byte → Bool

/-- Containers 8 to 47 that the default image fills (R293), of a frame. The spec gives containers 0 to 7 only. -/
opaque Config.defaultContainer : List Byte → Nat → BitVec 32

/-- The header records that the default image pushes: codes and offsets. -/
opaque Config.defaultStack : List Byte → List (Byte × Nat)

/-- Bytes 0 to 47 of the default image's digest. -/
opaque Config.defaultDigest : BitVec 384

/-- The cursor at which the default image ends its pass. -/
opaque Config.defaultCursor : List Byte → Nat

/-- AES-GCM as the ciphers use it (NIST SP 800-38D, which the spec does not restate): key, nonce, additional data, text. `gcmSeal`
answers ciphertext and tag, `gcmOpen` the plaintext where the tag verifies. -/
opaque Config.gcmSeal : List W64 → List Byte → List Byte → List Byte → List Byte × List Byte
opaque Config.gcmOpen : List W64 → List Byte → List Byte → List Byte → List Byte → Option (List Byte)

/-- The 8-byte IV of an outbound ESP packet, of its SA and sequence number: the spec gives no value. -/
opaque Config.espIv : Nat → Nat → BitVec 64

/-- XTS-AES-256 of one data unit (IEEE 1619): encrypt or decrypt, the two keys, the tweak, the bytes. -/
opaque Config.xts : Bool → List W64 → List W64 → BitVec 128 → List Byte → List Byte

/-- The frame that the storage engine sends for a segment of a connection: connection, kind, payload (RFC 9293, NVMe/TCP). -/
opaque Config.tcpFrame : Nat → Nat → List Byte → List Byte

/-- The connection that STE finds by slice, addresses and ports (R471): slice, frame, the open connections. -/
opaque Config.connLookup : Nat → List Byte → List Nat → Option Nat

/-- The PREPARE record's encoding, which is Thenum's own (R428): bytes of a change list, and the changes of bytes. -/
opaque Config.recordBytes : List Change → List Byte
opaque Config.recordChanges : List Byte → List Change

/-- An ECDSA P-384 signature: private scalar, digest. -/
opaque Config.ecdsaSign : List Byte → BitVec 384 → List Byte

/-- Whether a public key is a point of the curve, and whether a scalar matches it. -/
opaque Config.pointOk : List Byte → Bool
opaque Config.scalarOk : List Byte → List Byte → Bool

/-- The content of TRU's SPDM responses and of its certificate chain. -/
opaque Config.spdmAnswer : Nat → List Byte → List Byte
opaque Config.certChain : List Byte

/-- This unit's 64-bit serial, and the serials of other members, by node: the spec fixes neither. -/
opaque Config.unitSerial : BitVec 64
opaque Config.peerSerial : Nat → BitVec 64

/-- The clock servo's law (R443): the frequency adjustment in ppb that it takes from the parent's offset. -/
opaque Config.servoPpb : Int → Int → Int

/-- Learned entries that other members of the string answer an L2_READ with (R328): the spec gives no message for them. The argument
counts the reads. -/
opaque Config.remoteLearned : Nat → List Learned

/-- What TLK takes for the key bytes of registers beyond g31, which do not exist: the spec gives no value. -/
opaque Config.absentReg : Nat → BitVec 64

/-- Free values drawn in turn: the argument counts them. -/
opaque Config.freeNat : Nat → Nat

/-- The level of a storage-engine patch whose signature verifies; its format is Thenum's own (R479). -/
opaque Config.patchLevel : List Byte → Option Byte

/-- The counter that an index of BAR4 names, as the key of its instance, and the bytes of the counter directory (R537, R538): fixed for the
stepping, and not given. -/
opaque Config.counterAt : Nat → Option Nat
opaque Config.directoryByte : Nat → BitVec 8

end Sys2Proof
end

