-- ==== Sys2Proof/Machine/Registers.lean ====
section
/-! DEFINITION. The writable registers: their fields, ranges and boundaries (R6, R7, R112 to R117), and the reading and
writing of them. RO fields are computed from the state where they are read. -/
namespace Sys2Proof.Machine

/-- The boundaries at which RWB fields apply, as the fields' descriptions name them (R116). -/
inductive Boundary where
  | atOnce | distPacket | fifoSample | dmaEval | scrubRound | insertion | threadFault | schedPeriod | bundleEval
  | frameStart | creditSample | lcpPacket | retransmission | memEpoch | rhWindow
  deriving DecidableEq, Repr

/-- A writable field: bits, boundary (`atOnce` for RW), the range of values that are applied. -/
structure WField where
  hi : Nat
  lo : Nat
  bound : Boundary
  min : Nat
  max : Nat
  deriving DecidableEq, Repr

/-- A register with writable fields, its reset word, and the counter of refused values, if any. -/
structure WReg where
  off : Nat
  reset : Nat
  fields : List WField
  deriving DecidableEq, Repr

/-- An RW field that takes any value. -/
def rw (hi lo : Nat) : WField := { hi := hi, lo := lo, bound := .atOnce, min := 0, max := 2 ^ (hi + 1 - lo) - 1 }

/-- An RWB field with its boundary and range. -/
def rwb (hi lo : Nat) (b : Boundary) (min max : Nat) : WField := { hi := hi, lo := lo, bound := b, min := min, max := max }

/-- PRS, CLS and FWD registers of PIPA and PIPB (Tables 8-7 and 9-6). -/
def pipeRegs : List WReg :=
  [⟨0x008, 1 + at' 100 16, [rw 0 0, rwb 29 16 .scrubRound 10 10000]⟩,
   ⟨0x010, 0, [rw 1 0, rw 4 2]⟩,
   ⟨0x108, 0, [rw 3 0]⟩,
   ⟨0x120, 256, [rwb 10 0 .insertion 16 1024]⟩,
   ⟨0x200, 3, [rw 0 0, rw 1 1]⟩,
   ⟨0x208, 0, [rw 1 0]⟩]

/-- The distributor registers, in PIPA only (Table 1-12). -/
def distRegs : List WReg :=
  [⟨0x700, 1 + at' 50 16, [rw 0 0, rwb 25 16 .distPacket 1 1000]⟩,
   ⟨0x710, 48 + at' 16 8 + at' 100 16, [rwb 5 0 .fifoSample 0 63, rwb 13 8 .fifoSample 0 63, rwb 31 16 .fifoSample 1 10000]⟩,
   ⟨0x718, 0, [rw 11 0]⟩]

/-- The writable registers of an island's block, but for those that act when they are written (binding, lock, semaphores,
DMA_CFG, OBS_STREAM_CONSUMED). -/
def islandRegs (i : Nat) : List WReg :=
  match i with
  | 3 => [⟨0x010, 0, [rw 4 0]⟩]
  | 4 => [⟨0x010, 0, [rw 4 0]⟩]
  | 5 => [⟨0x020, 0, [rw 2 0]⟩,
          ⟨0x038, 1 + at' 20 8 + at' 70 16 + at' 100 32,
            [rwb 0 0 .bundleEval 0 1, rwb 14 8 .bundleEval 1 50, rwb 22 16 .bundleEval 51 100, rwb 45 32 .bundleEval 10 10000]⟩,
          ⟨0x040, 3 + at' 1 8, [rwb 3 0 .frameStart 1 15, rwb 11 8 .frameStart 1 15]⟩,
          ⟨0x048, 20, [rwb 9 0 .creditSample 1 1000]⟩]
  | 6 => pipeRegs ++ distRegs
  | 7 => pipeRegs
  | 8 => [⟨0x008, 16, [rwb 7 0 .threadFault 1 255]⟩, ⟨0x010, 0, [rw 4 0, rw 7 5]⟩]
  | 9 => [⟨0x008, 16, [rwb 7 0 .threadFault 1 255]⟩, ⟨0x010, 0, [rw 4 0, rw 7 5]⟩]
  | 10 => [⟨0x040, 7, [rwb 0 0 .schedPeriod 0 1, rwb 1 1 .schedPeriod 0 1, rwb 2 2 .schedPeriod 0 1, rwb 3 3 .schedPeriod 0 1]⟩,
           ⟨0x048, 256 + at' 1 16, [rwb 15 0 .schedPeriod 1 65535, rwb 16 16 .schedPeriod 0 1]⟩,
           ⟨0x050, 0, [rw 15 0]⟩, ⟨0x068, 0, [rw 16 0]⟩]
  | 11 => [⟨0x008, 4500, [rwb 15 0 .lcpPacket 1 65535]⟩, ⟨0x010, 0, [rw 19 0]⟩]
  | 12 => [⟨0x010, 8 + at' 200 8, [rwb 3 0 .retransmission 3 15, rwb 17 8 .retransmission 50 1000]⟩, ⟨0x018, 0, [rw 13 0]⟩]
  | 13 => [⟨0x008, 0, [rw 11 0]⟩, ⟨0x100, 0, [rw 11 0]⟩, ⟨0x188, 0, [rw 17 0]⟩,
           ⟨0x200, 0, [{ rw 6 0 with max := 95 }]⟩]
  | 14 => [⟨0x008, 16 + at' 48 8, [rwb 5 0 .memEpoch 0 62, rwb 14 8 .memEpoch 1 64]⟩,
           ⟨0x010, 512 + at' 64 16 + at' 1000 32,
             [rwb 15 0 .rhWindow 64 65535, rwb 25 16 .rhWindow 16 1000, rwb 43 32 .rhWindow 100 4000]⟩,
           ⟨0x018, 0, [{ rw 5 0 with max := 47 }]⟩]
  | 15 => [⟨0x010, 0, [rw 7 0]⟩]
  | 16 => [⟨0x010, 1, [{ rw 2 0 with min := 1, max := 6 }]⟩]
  | _ => []

/-- The writable register at an offset of an island's block. -/
def wreg (i off : Nat) : Option WReg := (islandRegs i).find? (fun r => r.off == off)

/-- The reset word of a register's writable fields, 0 where it has none. -/
def regReset (i off : Nat) : W64 := BitVec.ofNat 64 ((wreg i off).map WReg.reset |>.getD 0)

def Dev.regWord (s : Dev) (i off : Nat) : RegWord :=
  SMap.get ⟨regReset i off, 0, 0⟩ s.regs.words (2048 * i + off)

def Dev.setRegWord (s : Dev) (i off : Nat) (x : RegWord) : Dev :=
  { s with regs := { s.regs with words := SMap.put ⟨regReset i off, 0, 0⟩ s.regs.words (2048 * i + off) x } }

/-- The applied value of a writable field: what the block's behaviour uses. -/
def Dev.regField (s : Dev) (i off hi lo : Nat) : Nat := fld (s.regWord i off).value hi lo

/-- What a read of the writable bits returns: pending values where there are any, else applied ones (R6). -/
def Dev.regShown (s : Dev) (i off : Nat) : W64 :=
  let x := s.regWord i off
  (x.value &&& ~~~x.pendMask) ||| (x.pend &&& x.pendMask)

/-- The bits of a field. -/
def WField.mask (f : WField) : W64 := BitVec.ofNat 64 ((2 ^ (f.hi + 1 - f.lo) - 1) * 2 ^ f.lo)

/-- A value in a field's range (R56). -/
def WField.inRange (f : WField) (w : W64) : Bool := decide (f.min ≤ fld w f.hi f.lo) && decide (fld w f.hi f.lo ≤ f.max)

/-- A field of a register takes the written word's bits: at once for RW, as a pending value for RWB (R6, R116). -/
def writeField (f : WField) (w : W64) (x : RegWord) : RegWord :=
  match f.bound with
  | .atOnce => { x with value := (x.value &&& ~~~f.mask) ||| (w &&& f.mask) }
  | _ => { x with pend := (x.pend &&& ~~~f.mask) ||| (w &&& f.mask), pendMask := x.pendMask ||| f.mask }

/-- WQ_HIGH must exceed WQ_LOW (Table 14-6): the two fields of MEM_WRQ_CTRL break their range together. -/
def crossOk (i off : Nat) (w : W64) : Bool := !(i == 14 && off == 0x008) || decide (fld w 5 0 + 1 ≤ fld w 14 8)

/-- The counter of refused values: LNK_CFG_REJECT (R445), MEM_CFG_REJECT (R504). -/
def rejectCounter (i : Nat) : Option Ctr := if i = 5 then some .lnkCfgReject else if i = 14 then some .memCfgReject else none

/-- The fields of a register that a written word does not put in range. -/
def badFields (i : Nat) (r : WReg) (w : W64) : List WField := r.fields.filter (fun f => !(f.inRange w && crossOk i r.off w))

/-- A write of the writable fields of a register: fields out of range are left as they are, and counted where the block
counts them (R6, R56, R445, R480, R504). -/
def writeFields (i : Nat) (r : WReg) (w : W64) (s : Dev) : Dev :=
  let good := r.fields.filter (fun f => f.inRange w && crossOk i r.off w)
  let s1 := s.setRegWord i r.off (good.foldl (fun x f => writeField f w x) (s.regWord i r.off))
  if (badFields i r w).any (fun f => decide (f.bound ≠ .atOnce)) then
    match rejectCounter i with
    | some c => count c 0 s1
    | none => s1
  else s1

/-- R55: a write that breaks a range of a distributor register changes no field of it. -/
def distWriteOk (off : Nat) (w : W64) : Bool :=
  if off = 0x700 then decide (1 ≤ fld w 25 16) && decide (fld w 25 16 ≤ 1000)
  else if off = 0x710 then decide (1 ≤ fld w 31 16) && decide (fld w 31 16 ≤ 10000) && decide (fld w 13 8 < fld w 5 0)
  else true

/-- The bits of a register that have a field with this boundary. -/
def boundMask (b : Boundary) (r : WReg) : W64 := r.fields.foldl (fun m f => if f.bound = b then m ||| f.mask else m) 0

/-- Applies the pending bits under `m` of a register. -/
def applyWord (m : W64) (x : RegWord) : RegWord :=
  let p := x.pendMask &&& m
  { value := (x.value &&& ~~~p) ||| (x.pend &&& p), pend := x.pend &&& ~~~p, pendMask := x.pendMask &&& ~~~p }

/-- A pending value of the block applies at this boundary. -/
def boundDue (b : Boundary) (i : Nat) (s : Dev) : Bool :=
  (islandRegs i).any (fun r => (s.regWord i r.off).pendMask &&& boundMask b r != 0)

/-- The boundary `b` comes in island `i`: every pending value of the fields whose boundary it is applies, and APPLY_COUNT
rises when there was one (R116, R117). -/
def applyBoundary (b : Boundary) (i : Nat) (s : Dev) : Dev :=
  if boundDue b i s then
    let s1 := (islandRegs i).foldl (fun s r => s.setRegWord i r.off (applyWord (boundMask b r) (s.regWord i r.off))) s
    { s1 with regs := { s1.regs with applyCount := SMap.put 0 s1.regs.applyCount i (SMap.get 0 s1.regs.applyCount i + 1) } }
  else s

/-- ISL_APPLY.APPLIED: no field of the block has a pending value, for QDE also no DMA_CFG field of any channel (R117, R241). -/
def Dev.applied (s : Dev) (i : Nat) : Bool :=
  (islandRegs i).all (fun r => (s.regWord i r.off).pendMask == 0) &&
    (decide (i ≠ isl.QDE) || s.qde.dma.all (fun e => e.2.pendLow.isNone && e.2.pendHigh.isNone))

/-- The registers of an island return to their reset values; pending values are discarded (R117). -/
def resetRegs (i : Nat) (s : Dev) : Dev :=
  { s with regs := { words := s.regs.words.filter (fun e => decide (e.1 / 2048 ≠ i)),
                     applyCount := SMap.put 0 s.regs.applyCount i 0,
                     shadows := s.regs.shadows.filter (fun e => decide (e.1 % 32 ≠ i)) } }

end Sys2Proof.Machine
end

