-- ==== Sys2Proof/Machine/Tables.lean ====
section
/-! DEFINITION. Exact-match tables and their placement (R312 to R320), learned tables (R324), the LPM memory (R329 to R332). -/
namespace Sys2Proof.Machine

/-! ### Places and insertion -/

/-- The 8 places of a key in a 4-way table of `nb` buckets of 2 per way (R317). -/
def placesOf (nb : Nat) (hash : Nat → Nat) : List Nat :=
  if nb = 0 then [] else [0, 1, 2, 3].flatMap (fun w => let b := (w * nb + hash w % nb) * 2; [b, b + 1])

/-- A place is free. -/
def placeFree {α : Type} (m : SMap (Option α)) (p : Nat) : Bool := (SMap.get none m p).isNone

/-- The breadth-first search of R319: paths of places, newest place first, each but the first reached by moving the entry that holds
it. Answers the path that ends at a free place; examines at most `n` entries. -/
def searchPath {α : Type} (m : SMap (Option α)) (cands : α → List Nat) : Nat → List (List Nat) → List Nat → Option (List Nat)
  | 0, _, _ => none
  | _ + 1, [], _ => none
  | n + 1, path :: rest, seen =>
    match path with
    | [] => searchPath m cands n rest seen
    | p :: _ =>
      match SMap.get none m p with
      | none => some path
      | some x =>
        let qs := (cands x).filter (fun q => decide (q ≠ p))
        match qs.find? (fun q => placeFree m q) with
        | some q => some (q :: path)
        | none =>
          let new := qs.filter (fun q => !seen.contains q)
          searchPath m cands n (rest ++ new.map (fun q => q :: path)) (seen ++ new)

/-- Moves along a path from its free end: each entry is copied, then its old place invalidated (R318). -/
def shiftPath {α : Type} [DecidableEq α] : List Nat → SMap (Option α) → SMap (Option α)
  | q :: p :: rest, m =>
    shiftPath (p :: rest) (SMap.put none (SMap.put none m q (SMap.get none m p)) p none)
  | _, m => m

/-- One part of R319's insertion: a free candidate place, else the first path. -/
def insertPart {α : Type} [DecidableEq α] (maxMoves : Nat) (cands : α → List Nat) (e : α) (m : SMap (Option α)) : Option (SMap (Option α)) :=
  match (cands e).find? (fun p => placeFree m p) with
  | some p => some (SMap.put none m p (some e))
  | none =>
    match searchPath m cands maxMoves ((cands e).map (fun p => [p])) (cands e) with
    | some path => (path.getLast?).map (fun p => SMap.put none (shiftPath path m) p (some e))
    | none => none

/-! ### Exact-match tables -/

def Dev.rules' (s : Dev) (k : Nat) : RuleSet := (s.slot k).rules

def RuleSet.tableDef (r : RuleSet) (t : Nat) : TableDef := SMap.get TableDef.none r.tables t

def Dev.places (s : Dev) (t : Nat) : TablePlaces := SMap.get TablePlaces.empty s.rules.tables t

def Dev.setPlaces (s : Dev) (t : Nat) (x : TablePlaces) : Dev :=
  { s with rules := { s.rules with tables := SMap.put TablePlaces.empty s.rules.tables t x } }

/-- CLS_CUCKOO.MAX_MOVES of an island. -/
def Dev.movesOf (s : Dev) (i : Nat) : Nat := s.regField i 0x120 10 0

/-- CLS_CUCKOO.MAX_MOVES, as PIPA's copy applies it. -/
def Dev.maxMoves (s : Dev) : Nat := s.movesOf isl.PIPA

/-- Candidate places of a key in the on-chip part and in the GDDR7 part. -/
def onchipPlaces (t : Nat) (d : TableDef) (key : List Byte) : List Nat := placesOf (d.onchip / 8) (fun w => Config.tableHash t w key)
def extPlaces (t : Nat) (d : TableDef) (key : List Byte) : List Nat :=
  if d.extLog2 = 0 then [] else placesOf (2 ^ d.extLog2 / 8) (fun w => Config.tableHash t (4 + w) key)

/-- The bucket of a place, and the GDDR7 lines that a lookup of a key reads: one for each way (R317). -/
def extBuckets (t : Nat) (d : TableDef) (key : List Byte) : List Nat := ((extPlaces t d key).map (fun p => p / 2)).eraseDups
def bucketLine (t b : Nat) : Nat := (256 + 128 + 4096) * 16384 + Config.tableLine t b % (8192 * 16384)

/-- An on-chip place of the key that holds an entry with an uncorrectable error (R320). -/
def badPlace (s : Dev) (t : Nat) (d : TableDef) (key : List Byte) : Option Nat :=
  (onchipPlaces t d key).find? (fun p => s.rules.badEntries.any (fun e => e.1 == t && e.2.1 == p))

/-- A bucket of the key whose GDDR7 line is poisoned (R320, R491). -/
def badBucket (s : Dev) (t : Nat) (d : TableDef) (key : List Byte) : Option Nat :=
  (extBuckets t d key).find? (fun b => s.mem.poisoned.contains (bucketLine t b))

/-- The entry is valid for a version (R314). -/
def Entry.validFor (e : Entry) (v : Version) : Bool := Version.ge v e.vfrom && (e.isOpen || Version.later e.vto v)

/-- The entry is the one sought. -/
def Entry.is (key : List Byte) (v : Version) (e : Entry) : Bool := e.key == key && Entry.validFor e v

/-- The entry at a list of places that is valid for a key and version, lowest way first (R317, R318). -/
def hitAt (m : SMap (Option Entry)) (ps : List Nat) (key : List Byte) (v : Version) : Option Entry :=
  (ps.filterMap (fun p => SMap.get none m p)).find? (Entry.is key v)

/-- What a lookup finds: the entry, where (0 on chip, 1 stash, 2 GDDR7), and whether it reads GDDR7. -/
structure Look where
  hit : Option (Entry × Nat)
  ext : Bool
  deriving DecidableEq, Repr

/-- A lookup under the version of slot `k` (R314, R317). -/
def lookup (s : Dev) (k t : Nat) (key : List Byte) : Look :=
  let d := RuleSet.tableDef (s.rules' k) t
  let p := s.places t
  let v := (s.slot k).version
  match hitAt p.onchip (onchipPlaces t d key) key v with
  | some e => ⟨some (e, 0), false⟩
  | none =>
    match (SMap.entries p.stash).map Prod.snd |>.find? (Entry.is key v) with
    | some e => ⟨some (e, 1), false⟩
    | none =>
      if d.extLog2 = 0 ∨ SMap.entries p.ext = [] then ⟨none, false⟩
      else ⟨(hitAt p.ext (extPlaces t d key) key v).map (fun e => (e, 2)), true⟩

/-- The entry that a key and version have, wherever it lies. -/
def findEntry (s : Dev) (k t : Nat) (key : List Byte) : Option Entry := (lookup s k t key).hit.map Prod.fst

/-- R319's insertion into table `t` under slot `k`'s definition; none when neither part nor the stash has room. -/
def insertEntry (k t : Nat) (e : Entry) (s : Dev) : Option Dev :=
  let d := RuleSet.tableDef (s.rules' k) t
  let p := s.places t
  match insertPart s.maxMoves (fun x : Entry => onchipPlaces t d x.key) e p.onchip with
  | some m => some (s.setPlaces t { p with onchip := m })
  | none =>
    match insertPart s.maxMoves (fun x : Entry => extPlaces t d x.key) e p.ext with
    | some m => some (s.setPlaces t { p with ext := m })
    | none =>
      match (List.range 64).find? (fun i => placeFree p.stash i) with
      | some i => some (count .clsStashInserts t (s.setPlaces t { p with stash := SMap.put none p.stash i (some e) }))
      | none => none

/-- Passes every entry of a part through `f`; none frees its place. -/
def mapPart (f : Entry → Option Entry) (m : SMap (Option Entry)) : SMap (Option Entry) :=
  (m.map (fun e => (e.1, e.2.bind f))).filter (fun e => e.2.isSome)

/-- Passes every entry of a table through `f`. -/
def mapEntries (t : Nat) (f : Entry → Option Entry) (s : Dev) : Dev :=
  let p := s.places t
  s.setPlaces t ⟨mapPart f p.onchip, mapPart f p.ext, mapPart f p.stash⟩

/-- The table numbers. -/
def tableNumbers : List Nat := List.range 16

/-- Closes the entry of a key that is valid in version `v`, or frees it when the build made it (R315). -/
def closeEntry (t : Nat) (key : List Byte) (v : Version) (s : Dev) : Dev :=
  mapEntries t (fun e => if Entry.is key v e then (if e.vfrom = v then none else some { e with vto := v, isOpen := false }) else some e) s

/-- An insertion begins, which is the boundary of CLS_CUCKOO.MAX_MOVES in both copies (Table 9-6). -/
def insertionBegins (s : Dev) : Dev := applyBoundary .insertion isl.PIPB (applyBoundary .insertion isl.PIPA s)

/-- Inserts an entry of version `v` in slot `k`, in place of one valid there (R315). -/
def putEntry (k t : Nat) (key : List Byte) (act : Action) (s0 : Dev) : Option Dev :=
  let s := insertionBegins s0
  let v := (s.slot k).version
  insertEntry k t { key := key, act := act, vfrom := v, vto := 0, isOpen := true } (closeEntry t key v s)

/-- The build of version `v` is given up: its entries are freed, and those it closed are open again (R315). -/
def unbuildEntries (v : Version) (s : Dev) : Dev :=
  tableNumbers.foldl (fun s t => mapEntries t (fun e =>
    if e.vfrom = v ∧ e.isOpen then none
    else if e.vfrom = v then none
    else if e.isOpen = false ∧ e.vto = v then some { e with isOpen := true } else some e) s) s

/-- Versions in PREPARED, ACTIVE, DRAINING or BUILDING slots (R316). -/
def Dev.keptVersions (s : Dev) : List Version :=
  (slotNumbers.filter (fun k => decide ((s.slot k).state ≠ .free))).map (fun k => (s.slot k).version)

/-- The sweep of one part frees entries whose range holds no kept version (R316). -/
def sweepPart (s : Dev) (m : SMap (Option Entry)) : SMap (Option Entry) :=
  mapPart (fun e => if s.keptVersions.any (fun v => Entry.validFor e v) then some e else none) m

/-- ENTRY_SWEEP: the on-chip parts with their stashes, or the GDDR7 parts (R316). -/
def entrySweep (ext : Bool) (s : Dev) : Dev :=
  tableNumbers.foldl (fun s t =>
    let p := s.places t
    s.setPlaces t (if ext then { p with ext := sweepPart s p.ext } else { p with onchip := sweepPart s p.onchip, stash := sweepPart s p.stash })) s

/-- A sweep frees dead entries (R316). -/
def execEntrySweep (ext : Bool) (s : State) : Host.Outcome State Fault Refusal := ran (Wf.entrySweep ext) (entrySweep ext) s

/-- An on-chip entry is found to have an uncorrectable error. -/
def meetBadEntry (t p : Nat) (s : Dev) : Dev :=
  if placeFree (s.places t).onchip p || s.rules.badEntries.any (fun e => e.1 == t && e.2.1 == p) then s
  else { s with rules := { s.rules with badEntries := s.rules.badEntries ++ [(t, p, s.now)] } }

/-- On-chip entries that met an uncorrectable error 50 µs ago have been rewritten from the journal (R320). -/
def rewriteEntries (s : Dev) : Dev :=
  { s with rules := { s.rules with badEntries := s.rules.badEntries.filter (fun e => decide (Time.since s.now e.2.2 < 50000)) } }

/-- Entries in use. -/
def onchipUsed (s : Dev) (t : Nat) : Nat := (SMap.entries (s.places t).onchip).length
def stashUsed (s : Dev) (t : Nat) : Nat := (SMap.entries (s.places t).stash).length
def extUsed (s : Dev) (t : Nat) : Nat := (SMap.entries (s.places t).ext).length

/-- The definition that counts for free places: the build's where there is one, else the active version's. -/
def Dev.currentDef (s : Dev) (t : Nat) : TableDef :=
  RuleSet.tableDef (s.rules' ((s.slotIn .building).getD (s.activeSlot.getD 0))) t

/-! ### The LPM memory -/

/-- Places of the memory. -/
abbrev lpmSize : Nat := 98304

/-- Pairs that the IPv6 part spans, and the first place of the IPv4 part. -/
def v6Span (s : Dev) : Nat :=
  ((SMap.entries s.rules.routes).filter (fun e => e.2.v6)).foldl (fun m e => Nat.max m (e.1 / 2 + 1)) 0
def v4First (s : Dev) : Nat :=
  ((SMap.entries s.rules.routes).filter (fun e => !e.2.v6)).foldl (fun m e => Nat.min m e.1) lpmSize

/-- The units of a family's part: places for IPv4, pairs for IPv6; the first and the limit. -/
def unitRange (s : Dev) (v6 : Bool) : Nat × Nat := if v6 then (0, v4First s / 2) else (2 * v6Span s, lpmSize)

/-- The place of a unit. -/
def unitPlace (v6 : Bool) (u : Nat) : Nat := if v6 then 2 * u else u

/-- The routes of a family with their units, ascending. -/
def unitsOf (s : Dev) (v6 : Bool) : List (Nat × Route) :=
  ((SMap.entries s.rules.routes).filter (fun e => e.2.v6 == v6)).map (fun e => (if v6 then e.1 / 2 else e.1, e.2))

/-- The first free unit outward from `u` within [lo, hi), nearer first, the lower on a tie. -/
def nearestFree (used : List Nat) (lo hi u : Nat) : Nat → Nat → Option Nat
  | 0, _ => none
  | n + 1, d =>
    if lo + d ≤ u ∧ u < hi + d ∧ !used.contains (u - d) then some (u - d)
    else if lo ≤ u + d ∧ u + d < hi ∧ !used.contains (u + d) then some (u + d)
    else nearestFree used lo hi u n (d + 1)

def setRoute (v6 : Bool) (u : Nat) (r : Option Route) (s : Dev) : Dev :=
  { s with rules := { s.rules with routes := SMap.put none s.rules.routes (unitPlace v6 u) r } }

/-- A route moves from unit `j` to the free unit `f`, copy first (R318); counted in every replica. -/
def moveRoute (v6 : Bool) (j f : Nat) (s : Dev) : Dev :=
  let r := SMap.get none s.rules.routes (unitPlace v6 j)
  [0, 1, 2, 3].foldl (fun s k => count .fwdLpmMoves k s) (setRoute v6 j none (setRoute v6 f r s))

/-- The moves that bring a free unit behind group L up to it: the first place of each group between, from the last such group (R332). -/
def pullDown (v6 : Bool) : List Nat → Nat → Dev → Dev × Nat
  | [], f, s => (s, f)
  | j :: js, f, s => pullDown v6 js j (moveRoute v6 j f s)

/-- First units of the groups whose routes lie in (from, to), each group once, the last group first. -/
def groupFirsts (us : List (Nat × Route)) : List Nat :=
  (us.foldl (fun (acc : List (Nat × Nat)) e => match acc.find? (fun a => a.1 == e.2.len) with
    | some _ => acc
    | none => (e.2.len, e.1) :: acc) []).map Prod.snd

/-- Last units of groups, the first group first, for a free unit among longer prefixes. -/
def groupLasts (us : List (Nat × Route)) : List Nat := (groupFirsts us.reverse)

/-- R332: places a route in its family's part; none when the part has no free place. -/
def placeRoute (r : Route) (s : Dev) : Option Dev :=
  let us := unitsOf s r.v6
  let (lo, hi) := unitRange s r.v6
  let used := us.map Prod.fst
  let longer := (us.filter (fun e => decide (r.len < e.2.len))).map Prod.fst
  let shorter := (us.filter (fun e => decide (e.2.len < r.len))).map Prod.fst
  -- the interval in which the group may lie
  let a := longer.foldl (fun m u => Nat.max m (u + 1)) lo
  let b := shorter.foldl Nat.min hi
  let inside := if r.v6 then nearestFree used a b a (b - a) 0 else if a < b then nearestFree used a b (b - 1) (b - a) 0 else none
  match inside with
  | some f => some (setRoute r.v6 f (some r) s)
  | none =>
    match nearestFree used lo hi (if r.v6 then a else b - 1) (hi - lo + 1) 0 with
    | none => none
    | some f =>
      let (s1, g) :=
        if b ≤ f then
          pullDown r.v6 (groupFirsts (us.filter (fun e => decide (b ≤ e.1) && decide (e.1 < f)))) f s
        else pullDown r.v6 (groupLasts (us.filter (fun e => decide (f < e.1) && decide (e.1 < a)))) f s
      some (setRoute r.v6 g (some r) s1)

/-- The address matches a route's prefix. -/
def prefixMatch (r : Route) (addr : BitVec 128) : Bool :=
  let w := if r.v6 then 128 else 32
  addr.toNat / 2 ^ (w - r.len) == r.addr.toNat / 2 ^ (w - r.len)

/-- The lowest-numbered matching route of a slot (R329, R330). -/
def lpmLookup (s : Dev) (k : Nat) (v6 : Bool) (vrf : Nat) (addr : BitVec 128) : Option Route :=
  ((SMap.entries s.rules.routes).map Prod.snd).find?
    (fun r => r.v6 == v6 && r.vrf.toNat == vrf && r.slots.getLsbD k && prefixMatch r addr)

/-- A route passed through `f`, none when it is valid in no slot. -/
def keepRoute (f : Route → Route) (e : Nat × Option Route) : Nat × Option Route :=
  (e.1, e.2.bind (fun r => if (f r).slots = 0 then none else some (f r)))

/-- Passes every route through `f`; a route valid in no slot is freed (R331). -/
def mapRoutes (f : Route → Route) (s : Dev) : Dev :=
  { s with rules := { s.rules with routes := (s.rules.routes.map (keepRoute f)).filter (fun e => e.2.isSome) } }

/-- Bit `k` of a slot mask set to `b`. -/
def withSlot (m : BitVec 8) (k : Nat) (b : Bool) : BitVec 8 :=
  if b then m ||| BitVec.ofNat 8 (2 ^ k) else m &&& ~~~(BitVec.ofNat 8 (2 ^ k))

/-- A freed slot's column is cleared (R331). -/
def clearColumn (k : Nat) (s : Dev) : Dev := mapRoutes (fun r => { r with slots := withSlot r.slots k false }) s

/-- The base version's column is copied into the build's (R331). -/
def copyColumn (base k : Nat) (s : Dev) : Dev := mapRoutes (fun r => { r with slots := withSlot r.slots k (r.slots.getLsbD base) }) s

/-- A route's prefix in a slot. -/
def Route.same (v6 : Bool) (vrf : Nat) (addr : BitVec 128) (len k : Nat) (r : Route) : Bool :=
  r.v6 == v6 && r.vrf.toNat == vrf && r.addr == addr && r.len == len && r.slots.getLsbD k

/-- The route stands in slot `k`. -/
def hasRoute (s : Dev) (v6 : Bool) (vrf : Nat) (addr : BitVec 128) (len k : Nat) : Bool :=
  (SMap.entries s.rules.routes).any (fun e => Route.same v6 vrf addr len k e.2)

/-- Deletes a route from slot `k` (R331). -/
def dropRoute (v6 : Bool) (vrf : Nat) (addr : BitVec 128) (len k : Nat) (s : Dev) : Dev :=
  mapRoutes (fun r => if Route.same v6 vrf addr len k r then { r with slots := withSlot r.slots k false } else r) s

/-- Adds a route to slot `k`, in place of one of the same prefix there (R331). -/
def addRoute (v6 : Bool) (vrf : Nat) (addr : BitVec 128) (len : Nat) (act : Action) (k : Nat) (s : Dev) : Option Dev :=
  placeRoute { v6 := v6, vrf := BitVec.ofNat 12 vrf, addr := addr, len := len, slots := BitVec.ofNat 8 (2 ^ k), act := act }
    (dropRoute v6 vrf addr len k s)

/-- Entries used: IPv4 entries, IPv6 pairs, free entries. -/
def lpmUse (s : Dev) : Nat × Nat × Nat :=
  let a := (unitsOf s false).length
  let b := (unitsOf s true).length
  (a, b, lpmSize - a - 2 * b)

/-- This member's free counts (Table 12-6). -/
def ownFree (s : Dev) : FreeCounts :=
  ⟨tableNumbers.map (fun t =>
      let d := s.currentDef t
      (d.onchip - onchipUsed s t, (if d.extLog2 = 0 then 0 else 2 ^ d.extLog2) - extUsed s t)),
    (lpmUse s).2.2, (Jnl.free s.jnl - jnlReserve) * 64 / 1048576⟩

end Sys2Proof.Machine
end

