-- ==== Sys2Proof/Machine/Builds.lean ====
section
/-! DEFINITION. What a build holds: its checks, parse-graph images, and the changes that build commands and PREPARE make (R72, R290 to
R295, R312 to R315, R331). -/
namespace Sys2Proof.Machine

/-! ### A build and its commit -/

/-- The slot that is BUILDING version `v` on this member. -/
def Dev.buildSlot (s : Dev) (v : Version) : Option Nat :=
  slotNumbers.find? (fun k => decide ((s.slot k).state = .building) && (s.slot k).version == v)

/-- The commit of version `v` is under way on this member. -/
def Dev.committing (s : Dev) (v : Version) : Bool :=
  (s.str.commit.toList ++ s.str.nextCommit.toList).any (fun c => c.version == v && !c.rollForward)

/-- The checks of every build command: the build exists, its commit is not under way, the side may build (R83, R297, R334, R378). -/
def buildChecks (s : Dev) (v : Version) : List (Bool × Status) :=
  [((s.buildSlot v).isSome || s.committing v, .versionConflict), (!s.committing v, .busy), (!s.nonLead, .stalePartition)]

/-- BUILD_VERSION of a build command's word 0. -/
def reqVersion (r : Req) : Version := BitVec.ofNat 32 (fld (r.word 0) 31 0)

/-- The build's slot, once the checks have passed. -/
def Dev.buildK (s : Dev) (v : Version) : Nat := (s.buildSlot v).getD (versionSlot v)

/-- Changes the rule set of a slot. -/
def onRules (k : Nat) (f : RuleSet → RuleSet) (s : Dev) : Dev := s.setSlot k { s.slot k with rules := f (s.slot k).rules }

/-- The largest number of changes that a build holds (R322). -/
abbrev buildMax : Nat := 1048576

/-- An image takes the place of the build's image before it (R298). -/
def Change.supersedes (new old : Change) : Bool :=
  match new, old with
  | .image _, .image _ => true
  | _, _ => false

/-- The build's changes with one more. -/
def Dev.withChange (s : Dev) (c : Change) : List Change := s.rules.buildRecord.filter (fun x => !Change.supersedes c x) ++ [c]

/-- The build takes one more change. -/
def recordChange (c : Change) (s : Dev) : Dev := { s with rules := { s.rules with buildRecord := s.withChange c } }

/-! ### Parse-graph images -/

/-- The 256-bit words of an image, `n` of them, from its 64-bit words. -/
def imageWords : List W64 → Nat → List (BitVec 256)
  | _, 0 => []
  | ws, n + 1 =>
    BitVec.ofNat 256 ((ws.getD 0 0).toNat + (ws.getD 1 0).toNat * 2 ^ 64 + (ws.getD 2 0).toNat * 2 ^ 128 + (ws.getD 3 0).toNat * 2 ^ 192) ::
      imageWords (ws.drop 4) n

/-- WORDS of an image (Table 8-4). -/
def rawCount (raw : List W64) : Nat := fld (raw.getD 0 0) 60 48

/-- Entry `e` of the entry table, and ENTRY_VALID. -/
def rawEntry (raw : List W64) (e : Nat) : Nat :=
  nfld ((raw.getD 2 0).toNat + (raw.getD 3 0).toNat * 2 ^ 64 + (raw.getD 4 0).toNat * 2 ^ 128) (12 * e + 11) (12 * e)
def rawValid (raw : List W64) : Nat := fld (raw.getD 5 0) 15 0

/-- A word breaks check `n` of Table 8-5 (checks 3 to 6 and 8). -/
def wordBad (count : Nat) (n : Nat) (w : BitVec 256) : Bool :=
  let br := mw' w 243 240
  match n with
  | 3 => mw' w 255 244 % 2 ^ br != 0
  | 4 => decide (count ≤ mw' w 255 244 + (2 ^ br - 1))
  | 5 => decide (8 < br)
  | 6 => mw' w 32 0 != 0
  | 8 => decide (64 < mw' w 129 123) || decide (64 < reach' w) ||
      (mw' w 102 102 == 1 && decide (48 < mw' w 91 86 + (mw' w 95 92 + 4) / 4)) || (mw' w 85 85 == 1 && decide (48 < mw' w 74 69 + (mw' w 78 75 + 4) / 4))
  | _ => false
where
  mw' (w : BitVec 256) (hi lo : Nat) : Nat := nfld w.toNat hi lo
  reach' (w : BitVec 256) : Nat :=
    [if mw' w 193 178 ≠ 0 then mw' w 199 194 + 2 else 0, if mw' w 102 102 = 1 then mw' w 101 96 + mw' w 95 92 + 1 else 0,
     if mw' w 85 85 = 1 then mw' w 84 79 + mw' w 78 75 + 1 else 0, if mw' w 59 59 = 1 then mw' w 58 53 + 2 else 0,
     if mw' w 122 122 = 1 then mw' w 121 116 + 1 else 0].foldl Nat.max 0

/-- The first word that breaks a check. -/
def badWord (count n : Nat) (ws : List (BitVec 256)) : Option Nat := ws.findIdx? (wordBad count n)

/-- The first check of Table 8-5 that an image of `len` bytes fails: REASON and the word at fault. -/
def imageReason (raw : List W64) (len : Nat) : Option (Nat × Nat) :=
  let n := rawCount raw
  let ws := imageWords (raw.drop 8) n
  let byWord := fun c => (badWord n c ws).map (fun i => (c, i))
  if fld (raw.getD 0 0) 31 0 ≠ 0x50524731 ∨ fld (raw.getD 0 0) 47 32 ≠ 1 then some (1, 0)
  else if n = 0 ∨ 4096 < n ∨ len ≠ 64 + 32 * n + 96 then some (2, 0)
  else match byWord 3 with
    | some x => some x
    | none => match byWord 4 with
      | some x => some x
      | none => match byWord 5 with
        | some x => some x
        | none =>
          if fld (raw.getD 0 0) 63 61 ≠ 0 ∨ fld (raw.getD 1 0) 63 44 ≠ 0 ∨ fld (raw.getD 5 0) 63 16 ≠ 0 ∨ raw.getD 6 0 ≠ 0 ∨ raw.getD 7 0 ≠ 0 then
            some (6, 0)
          else match byWord 6 with
            | some x => some x
            | none =>
              if rawValid raw % 2 = 0 ∨ (List.range 16).any (fun e => rawValid raw / 2 ^ e % 2 == 1 && decide (n ≤ rawEntry raw e)) then some (7, 0)
              else byWord 8

/-- The bytes of an image before its signature, and the signature. -/
def imageSigned (raw : List W64) : List Byte := (wordsBytes raw).take (64 + 32 * rawCount raw)
def imageSignature (raw : List W64) : List Byte := ((wordsBytes raw).drop (64 + 32 * rawCount raw)).take 96

def Dev.keySlot (s : Dev) (n : Nat) : KeySlot := SMap.get KeySlot.empty s.tru.slots n

/-- The signature verifies under the IMAGE key in the image's KEY_SLOT (R291, R512). -/
def imageAuth (s : Dev) (raw : List W64) : Bool :=
  let k := s.keySlot (fld (raw.getD 1 0) 43 40)
  k.purpose == 2 && Config.ecdsaVerify k.pub (Config.sha384 (imageSigned raw)) (imageSignature raw)

/-- An image placed at a segment. -/
def imageAt (raw : List W64) (base : Nat) : Image :=
  { imageId := BitVec.ofNat 32 (fld (raw.getD 1 0) 31 0), patch := BitVec.ofNat 8 (fld (raw.getD 1 0) 39 32),
    keySlot := BitVec.ofNat 4 (fld (raw.getD 1 0) 43 40), baseSeg := base, words := imageWords (raw.drop 8) (rawCount raw),
    entries := (List.range 16).map (rawEntry raw), entryValid := BitVec.ofNat 16 (rawValid raw), digest := Config.sha384 (imageSigned raw),
    raw := raw }

/-- Segments of an image (R292). -/
def Image.segs (im : Image) : Nat := (im.words.length + 255) / 256

/-- A segment holds an image that some slot maps (R292). -/
def Dev.segUsed (s : Dev) (g : Nat) : Bool :=
  slotNumbers.any (fun k => decide ((s.slot k).state ≠ .free) && match (s.slot k).rules.image with
    | some im => decide (im.baseSeg ≤ g) && decide (g < im.baseSeg + Image.segs im)
    | none => false)

/-- The lowest run of `n` free segments. -/
def Dev.freeRun (s : Dev) (n : Nat) : Option Nat :=
  (List.range (17 - n)).find? (fun b => (List.range n).all (fun i => !s.segUsed (b + i)))

/-- The image covers a word of the control store. -/
def Image.covers (im : Image) (a : Nat) : Bool := decide (256 * im.baseSeg ≤ a) && decide (a < 256 * im.baseSeg + im.words.length)

/-- An image is written to every control store: its words hold no error any longer (R285, R292). -/
def writeImage (im : Image) (s : Dev) : Dev :=
  (List.range 8).foldl (fun s j => s.setPipe j { s.pipe j with badWords := (s.pipe j).badWords.filter (fun a => !Image.covers im a) }) s

/-- Places a checked image in free segments of the control stores and maps slot `k` to it (R292, R294). -/
def placeImage (k : Nat) (raw : List W64) (s : Dev) : Option Dev :=
  (s.freeRun ((rawCount raw + 255) / 256)).map (fun b =>
    let im := imageAt raw b
    onRules k (fun x => { x with image := some im }) (writeImage im s))

/-! ### Changes -/

/-- On-chip entries that a definition takes: a key of 21 bytes or more takes two (R312). -/
def TableDef.cost (d : TableDef) : Nat := if 21 ≤ d.keyBytes then 2 * d.onchip else d.onchip

/-- Makes one change in slot `k`, whose version the slot holds; the status with which it cannot (R315, R322, R331). -/
def applyChange (k : Nat) (c : Change) (s : Dev) : Except Status Dev :=
  match c with
  | .tableDefine t kb oc ext => .ok (onRules k (fun x => { x with tables := SMap.put TableDef.none x.tables t ⟨kb, oc, ext⟩ }) s)
  | .keyProfile n t ps => .ok (onRules k (fun x => { x with profiles := SMap.put KeyProfile.none x.profiles n ⟨t, ps⟩ }) s)
  | .plan n steps miss => .ok (onRules k (fun x => { x with plans := SMap.put Plan.none x.plans n ⟨true, steps, miss⟩ }) s)
  | .insert t key act =>
    match putEntry k t key act s with
    | some s1 => .ok s1
    | none => .error .noResource
  | .delete t key => .ok (closeEntry t key (s.slot k).version s)
  | .segment n valid w1 w2 =>
    .ok (onRules k (fun x => { x with segments := SMap.put Segment.none x.segments n (if valid then ⟨true, w1, w2⟩ else Segment.none) }) s)
  | .route v6 vrf addr len valid act =>
    if valid then
      match addRoute v6 vrf addr len act k s with
      | some s1 => .ok s1
      | none => .error .noResource
    else .ok (dropRoute v6 vrf addr len k s)
  | .image raw =>
    if !imageAuth s raw then .error .authFailed
    else match placeImage k raw s with
      | some s1 => .ok s1
      | none => .error .noResource
  | .policy sl inc mal => .ok (onRules k (fun x => { x with policies := SMap.put Policy.default x.policies sl ⟨inc, mal⟩ }) s)
  | .program n valid w1 w2 =>
    .ok (onRules k (fun x => { x with programs := SMap.put ProgBind.none x.programs n (if valid then ⟨true, w1, w2⟩ else ProgBind.none) }) s)

/-- Makes a list of changes in order; the first that cannot be made, if any. -/
def applyChanges (k : Nat) : List Change → Dev → Except (Status × Change) Dev
  | [], s => .ok s
  | c :: cs, s =>
    match applyChange k c s with
    | .ok s1 => applyChanges k cs s1
    | .error st => .error (st, c)

/-- An insertion that fails is counted (R319); it has begun all the same (Table 9-6). -/
def countRefused (c : Change) (st : Status) (s : Dev) : Dev :=
  match c with
  | .insert t _ _ => if st = .noResource then count .clsInsertFail t (insertionBegins s) else s
  | _ => s

/-- A build command's change: made in the build's slot and recorded, or refused with its status (R322). -/
def buildChange (v : Version) (c : Change) (s : Dev) : Dev × Reply :=
  if buildMax ≤ s.rules.buildRecord.length then (s, some (.noResource, []))
  else match applyChange (s.buildK v) c s with
    | .ok s1 => done [] (recordChange c s1)
    | .error st => (countRefused c st s, some (st, []))

/-- The slot begins to hold a version with the contents of another slot (R293, R298, R331). -/
def copySlot (base k : Nat) (st : SlotState) (v : Version) (s : Dev) : Dev :=
  copyColumn base k (s.setSlot k { Slot.free with state := st, version := v, rules := (s.slot base).rules })

/-- A slot is set FREE: its route column is cleared, its rule set dropped (R331, Table 2-1). -/
def freeSlot (k : Nat) (s : Dev) : Dev := (clearColumn k s).setSlot k Slot.free

/-- A build or a PREPARED version is given up (R72, R76, R84, R315, R331). -/
def discardVersion (k : Nat) (s : Dev) : Dev := freeSlot k (unbuildEntries (s.slot k).version s)

/-- VERSION_BUILD_ABORT's effect: the build is freed. -/
def dropBuild (k : Nat) (s : Dev) : Dev :=
  let s1 := discardVersion k s
  { s1 with rules := { s1.rules with buildRecord := [] } }

end Sys2Proof.Machine
end

