-- ==== Sys2Proof/Machine/Crossing.lean ====
section
/-! DEFINITION. Crossings: posting packets as blocks, credits, acknowledgement and re-send (R17 to R25); the distributors
and the bucket map (R40, R47 to R53). -/
namespace Sys2Proof.Machine

def Dev.xchan (s : Dev) (src dst : Nat) : Channel := SMap.get Channel.reset s.fabric.chans (32 * src + dst)

def Dev.setXchan (s : Dev) (src dst : Nat) (c : Channel) : Dev :=
  { s with fabric := { s.fabric with chans := SMap.put Channel.reset s.fabric.chans (32 * src + dst) c } }

/-- Counter instance of a channel. -/
def xinst (src dst : Nat) : Nat := 32 * src + dst

/-- `bs` cut into pieces of 64 bytes, at most `n` of them. -/
def chunks64 : Nat → List Byte → List (List Byte)
  | 0, _ => []
  | n + 1, bs => if bs.length ≤ 64 then [bs] else bs.take 64 :: chunks64 n (bs.drop 64)

/-- A piece padded with zeros to 64 bytes. -/
def pad64 (bs : List Byte) : List Byte := bs ++ List.replicate (64 - bs.length) 0

/-- The blocks of a packet before they are numbered: the tag and the first 32 frame bytes, then 64 bytes each; VALID_BYTES in
the last (R20, R21). -/
def packetBlocks (t : Tag) (bs : List Byte) : List Block :=
  let all := t.bytes ++ bs
  let cs := chunks64 (all.length / 64 + 1) all
  let n := cs.length
  cs.zipIdx.map (fun (c, i) =>
    { data := pad64 c, sop := i == 0, eop := i + 1 == n, validBytes := if i + 1 == n then BitVec.ofNat 6 c.length else 0,
      kind := .packet, poison := false, seq := 0, crc := 0 })

/-- A block as it is sent under SEQ `q`, with its CRC. -/
def Block.numbered (b : Block) (q : BitVec 7) : Block :=
  let b1 := { b with seq := q }
  { b1 with crc := b1.goodCrc }

/-- Sends one block when a credit is held, and keeps it until it is acknowledged; else it waits (R17, R24). -/
def sendBlock (src dst : Nat) (b : Block) (s : Dev) : Dev :=
  let c := s.xchan src dst
  if c.credits = 0 ∨ c.queue ≠ [] then s.setXchan src dst { c with queue := c.queue ++ [b] }
  else
    let nb := Block.numbered b c.sendSeq
    emit (.block src dst nb)
      (s.setXchan src dst { c with credits := c.credits - 1, sendSeq := c.sendSeq + 1, unacked := c.unacked ++ [⟨nb, 0⟩] })

/-- A unit passes a packet to another island: its blocks join the channel, and its pipeline state travels beside them. -/
def post (src dst : Nat) (p : Pkt) (s : Dev) : Dev :=
  let c := s.xchan src dst
  let s1 := s.setXchan src dst { c with carried := c.carried ++ [p] }
  (packetBlocks p.tag p.bytes).foldl (fun s b => sendBlock src dst b s) s1

/-- The first waiting block goes, when a credit is held. -/
def sendWaiting (src dst : Nat) (s : Dev) : Dev :=
  let c := s.xchan src dst
  match c.queue with
  | [] => s
  | b :: rest =>
    if c.credits = 0 then s
    else sendBlock src dst b (s.setXchan src dst { c with queue := [] }) |>
      fun s1 => s1.setXchan src dst { s1.xchan src dst with queue := rest }

/-- The receiver takes a block out of its FIFO and returns the credit (R17). -/
def creditReturn (src dst : Nat) (s : Dev) : Dev :=
  let c := s.xchan src dst
  if c.fifo = 0 then s
  else sendWaiting src dst (emit (.credit src dst) (s.setXchan src dst { c with fifo := c.fifo - 1, credits := c.credits + 1 }))

/-- A block is acknowledged: the source releases it (R24). -/
def blockAcknowledgement (src dst : Nat) (seq : BitVec 7) (s : Dev) : Dev :=
  let c := s.xchan src dst
  s.setXchan src dst { c with unacked := c.unacked.filter (fun u => u.block.seq != seq) }

/-- The command. -/
def execBlockAcknowledgement (src dst : Nat) (seq : BitVec 7) (s : State) : Host.Outcome State Fault Refusal := ran (Wf.blockAcknowledgement src dst seq) (blockAcknowledgement src dst seq) s

/-- The numeric KIND of Table 1-3. -/
def XKind.code : XKind → Nat
  | .packet => 0
  | .regAccess => 1
  | .memory => 2
  | .control => 3

/-- The block goes once more with POISON set and a good CRC (R25). -/
def Block.poisoned (b : Block) : Block := Block.numbered { b with poison := true } b.seq

/-- Re-sends the block of SEQ `seq` and every later block not acknowledged. A fourth failure of that block poisons it, which
is logged and counted (R24, R25). -/
def resend (src dst : Nat) (seq : BitVec 7) (s : Dev) : Dev :=
  let c := s.xchan src dst
  match c.unacked.findIdx? (fun u => u.block.seq == seq) with
  | none => s
  | some i =>
    match c.unacked.drop i with
    | [] => s
    | u :: later =>
      let poison := decide (3 ≤ u.resends)
      let u1 : Unacked := ⟨if poison then Block.poisoned u.block else u.block, u.resends + 1⟩
      let s1 := s.setXchan src dst { c with unacked := c.unacked.take i ++ u1 :: later }
      let s2 := (u1 :: later).foldl (fun s x => count .xingResend (xinst src dst) (emit (.block src dst x.block) s)) s1
      if poison ∧ ¬ u.block.poison then
        count .xingPoison (xinst src dst)
          (logFault src dst 0x0001 (XKind.code u.block.kind) (BitVec.ofNat 64 seq.toNat) 0 s2)
      else s2

/-- The receiver refused a block (R24). -/
def execBlockRefusal (src dst : Nat) (seq : BitVec 7) (s : State) : Host.Outcome State Fault Refusal := ran (Wf.blockRefusal src dst seq) (resend src dst seq) s

/-- No acknowledgement of a block came within 64 source clock periods (R24). -/
def execCrossingAckTimeout (src dst : Nat) (seq : BitVec 7) (s : State) : Host.Outcome State Fault Refusal := ran (Wf.crossingAckTimeout src dst seq) (resend src dst seq) s

/-! ### Distributors -/

/-- The island of distributor `d`: NETW, NETE, LNK, QDE, MGT, STE, ACT0, ACT1 (R40). -/
def distIsland (d : Nat) : Nat := ([3, 4, 5, 13, 15, 12, 8, 9] : List Nat).getD d 3

def Dev.bucket (s : Dev) (d b : Nat) : Bucket := SMap.get (Bucket.home b) s.fabric.buckets (4096 * d + b)

def Dev.setBucket (s : Dev) (d b : Nat) (x : Bucket) : Dev :=
  { s with fabric := { s.fabric with buckets := SMap.put (Bucket.home b) s.fabric.buckets (4096 * d + b) x } }

def Dev.distInbox (s : Dev) (d : Nat) : List Pkt := SMap.get [] s.fabric.inbox d

def Dev.setDistInbox (s : Dev) (d : Nat) (l : List Pkt) : Dev :=
  { s with fabric := { s.fabric with inbox := SMap.put [] s.fabric.inbox d l } }

/-- A tagged packet joins a distributor. -/
def toDistributor (d : Nat) (p : Pkt) (s : Dev) : Dev := s.setDistInbox d (s.distInbox d ++ [{ p with dist := d }])

/-- A packet's bucket: FLOW_HASH [11:0] (R40). -/
def Tag.bucket (t : Tag) : Nat := t.flowHash.toNat % 4096

/-- Cells of 256 bytes that a packet and its tag take (R50, R388). -/
def cellsOf (p : Pkt) : Nat := (p.bytes.length + 32 + 255) / 256

/-- PRS_DIST_CTRL.FLOWLET_GAP in ns. -/
def Dev.flowletGap (s : Dev) : Nat := s.regField isl.PIPA 0x700 25 16 * 1000

/-- A distributor sends a packet to a pipeline. -/
def sendToPipe (d k : Nat) (p : Pkt) (s : Dev) : Dev := post (distIsland d) (pipeIsland k) { p with pipe := k } s

/-- The bucket switches to its target, and its held packets go there in order (R49, R50); a move with packets held is a move
made by holding. -/
def moveBucket (d b : Nat) (s : Dev) : Dev :=
  let x := s.bucket d b
  let s1 := s.setBucket d b { x with pipeline := x.target, inflight := x.inflight + x.held.length, held := [] }
  let s2 := x.held.foldl (fun s p => sendToPipe d x.target p s) s1
  count .distMigrations d (whenB (!x.held.isEmpty) (count .distHolds d) s2)

/-- 900 µs have passed since the mark, and the move is not homeward (R50, R53). -/
def Bucket.overdue (x : Bucket) (now : Time) : Bool := decide (900000 ≤ Time.since now x.moveStart) && !x.homeward

/-- The distributor counts the packet in flight and sends it (R48). -/
def sendInBucket (d b : Nat) (p : Pkt) (s : Dev) : Dev :=
  let x := s.bucket d b
  sendToPipe d x.pipeline p (s.setBucket d b { x with lastSeen := s.now, inflight := x.inflight + 1 })

/-- The pipelines. -/
def pipeNumbers : List Nat := [0, 1, 2, 3, 4, 5, 6, 7]

/-- The healthy pipelines. -/
def Dev.healthy (s : Dev) : List Nat := pipeNumbers.filter (fun k => !s.fabric.slow.getLsbD k)

/-- Buckets may move while two pipelines are healthy (R53). A move that has begun to hold packets is finished all the same (log 45). -/
def Dev.mayMove (s : Dev) (x : Bucket) : Bool := decide (2 ≤ s.healthy.length) || x.held != []

/-- One packet at a distributor, by the pseudocode of R53: a pending move is made when the bucket is empty and idle or
overdue; an overdue bucket with packets in flight is held, up to 64 cells (R50, R51). -/
def distribute (d : Nat) (p : Pkt) (rest : List Pkt) (s : Dev) : Dev :=
  let b := Tag.bucket p.tag
  let x := s.bucket d b
  if x.target = x.pipeline ∨ s.mayMove x = false then sendInBucket d b p (s.setDistInbox d rest)
  else if x.inflight = 0 ∧ (s.flowletGap ≤ Time.since s.now x.lastSeen ∨ Bucket.overdue x s.now) then
    sendInBucket d b p (moveBucket d b (s.setDistInbox d rest))
  else if Bucket.overdue x s.now then
    if (x.held.map cellsOf).sum + cellsOf p ≤ 64 then
      (s.setDistInbox d rest).setBucket d b { x with held := x.held ++ [p] }
    else if p.refused then s
    else count .distHoldFull d (s.setDistInbox d ({ p with refused := true } :: rest))
  else sendInBucket d b p (s.setDistInbox d rest)

/-- The distributor holds the bucket and its hold space has no room for these cells (R51). -/
def bucketFull (s : Dev) (d : Nat) (hash : BitVec 32) (cells : Nat) : Bool :=
  let x := s.bucket d (hash.toNat % 4096)
  decide (x.target ≠ x.pipeline) && s.mayMove x && decide (0 < x.inflight) && Bucket.overdue x s.now && decide (64 < (x.held.map cellsOf).sum + cells)

/-- A drain marker goes to all 8 pipelines, behind what the distributor has sent (R41). -/
def distributeMarker (d : Nat) (p : Pkt) (s : Dev) : Dev := pipeNumbers.foldl (fun s k => sendToPipe d k p s) s

/-- DISTRIBUTOR_SEND (R40): the head of the distributor's queue. FLOWLET_GAP applies at a distributor's next packet. -/
def distributorSend (d : Nat) (s : Dev) : Dev :=
  match s.distInbox d with
  | [] => s
  | p :: rest =>
    let s1 := applyBoundary .distPacket isl.PIPA s
    if p.tag.flag 1 then distributeMarker d p (s1.setDistInbox d rest) else distribute d p rest s1

/-- A distributor sends the packet at the head of its queue (R40, R41, R49 to R51). -/
def execDistributorSend (d : Nat) (s : State) : Host.Outcome State Fault Refusal := ran (Wf.distributorSend d) (distributorSend d) s

/-- The packet has been accepted by TMG or STE, or dropped: its distributor is to be told (R48). A copy that an action core sends counts
with no distributor. -/
def endFlight (p : Pkt) (s : Dev) : Dev :=
  if 8 ≤ p.dist then s
  else { s with fabric := { s.fabric with ended := s.fabric.ended ++ [(p.dist, Tag.bucket p.tag)] } }

/-- A pending move may be made now: no packet of the bucket is in flight, and it has been idle for FLOWLET_GAP, is overdue, or is held (R49,
R50, R53). -/
def moveDue (s : Dev) (x : Bucket) : Bool :=
  decide (x.target ≠ x.pipeline) && s.mayMove x && decide (x.inflight = 0) &&
    (decide (s.flowletGap ≤ Time.since s.now x.lastSeen) || Bucket.overdue x s.now || x.held != [])

/-- The bucket moves at the first moment at which it may (R50). -/
def moveIfDue (d b : Nat) (s : Dev) : Dev := if moveDue s (s.bucket d b) then moveBucket d b s else s

/-- The in-flight count of a bucket falls, and a pending move completes at 0 where it is due (R48, R49). -/
def bucketInFlightEnd (d b : Nat) (s : Dev) : Dev :=
  if s.fabric.ended.contains (d, b) ∧ 0 < (s.bucket d b).inflight then
    let x := s.bucket d b
    let s1 := { s with fabric := { s.fabric with ended := s.fabric.ended.erase (d, b) } }
    moveIfDue d b (s1.setBucket d b { x with inflight := x.inflight - 1 })
  else s

/-- Every bucket whose pending move has fallen due moves (R50). -/
def moveIdle (s : Dev) : Dev := (s.fabric.buckets.map Prod.fst).foldl (fun s k => moveIfDue (k / 4096) (k % 4096) s) s

/-- A packet of a bucket was accepted or dropped (R48). -/
def execBucketInFlightEnd (d b : Nat) (s : State) : Host.Outcome State Fault Refusal := ran (Wf.bucketInFlightEnd d b) (bucketInFlightEnd d b) s

/-- Buckets that a pipeline serves in a distributor's map. -/
def Dev.served (s : Dev) (d k : Nat) : Nat :=
  ((List.range 4096).filter (fun b => (s.bucket d b).pipeline == k)).length

/-- Of the healthy pipelines, the one that serves the fewest buckets, the lowest number on a tie (R50). -/
def Dev.fewest (s : Dev) (d : Nat) : Option Nat :=
  s.healthy.foldl (fun best k => match best with
    | none => some k
    | some j => if s.served d k < s.served d j then some k else some j) none

/-- Rebuilds the bucket map with every bucket of every distributor passed through `f`. -/
def mapBuckets (f : Nat → Nat → Bucket → Bucket) (s : Dev) : Dev :=
  let keep := fun (key : Nat) =>
    let y := f (key / 4096) (key % 4096) (s.bucket (key / 4096) (key % 4096))
    if y = Bucket.home (key % 4096) then none else some (key, y)
  { s with fabric := { s.fabric with buckets := (List.range 32768).filterMap keep } }

/-- Packets in a pipeline's input FIFO (R47). -/
def Dev.fill (s : Dev) (k : Nat) : Nat := Nat.min 64 (s.pipe k).input.length

/-- Since when a condition has held, as a sample finds it. -/
def heldSince (holds : Bool) (k : Nat) (now : Time) (m : SMap (Option Time)) : SMap (Option Time) :=
  if holds then (if (SMap.get none m k).isSome then m else SMap.put none m k (some now)) else SMap.put none m k none

/-- One sample of a pipeline's input FIFO against FILL_HIGH and FILL_LOW (R47). -/
def sampleFill (s : Dev) (k : Nat) : Dev :=
  { s with fabric := { s.fabric with
      highSince := heldSince (decide (s.regField isl.PIPA 0x710 5 0 ≤ s.fill k)) k s.now s.fabric.highSince,
      lowSince := heldSince (decide (s.fill k ≤ s.regField isl.PIPA 0x710 13 8)) k s.now s.fabric.lowSince } }

/-- The FIFO sample, every 100 ns: the pending thresholds apply, and every FIFO is sampled (Table 1-12, R47). -/
def fifoSample (s : Dev) : Dev := pipeNumbers.foldl sampleFill (applyBoundary .fifoSample isl.PIPA s)

/-- SLOW_WINDOW in ns. -/
def Dev.slowWindow (s : Dev) : Nat := s.regField isl.PIPA 0x710 31 16 * 100

/-- A pipeline whose FIFO has stayed at or above FILL_HIGH is marked slow at the end of SLOW_WINDOW: its buckets get targets, when two pipelines
are healthy (R47, R50, R53). -/
def pipelineMarkedSlow (k : Nat) (s0 : Dev) : Dev :=
  let s := fifoSample s0
  match SMap.get none s.fabric.highSince k with
  | none => s
  | some t =>
    if s.regField isl.PIPA 0x700 0 0 = 1 ∧ s.fabric.slow.getLsbD k = false then
      let s2 := reach (t.plus s.slowWindow) s
      let s1 := count .distSlowMarks k { s2 with fabric := { s2.fabric with slow := s2.fabric.slow ||| BitVec.ofNat 8 (2 ^ k) } }
      if s1.healthy.length < 2 then s1
      else mapBuckets (fun d _ x =>
        if x.pipeline = k then { x with target := (s1.fewest d).getD k, moveStart := s1.now, homeward := false } else x) s1
    else s

/-- The FIFO stayed at or above FILL_HIGH for SLOW_WINDOW (R47). -/
def execPipelineMarkedSlow (k : Nat) (s : State) : Host.Outcome State Fault Refusal := ran (Wf.pipelineMarkedSlow k) (pipelineMarkedSlow k) s

/-- The mark clears once the FIFO has stayed at or below FILL_LOW for 10 windows, and the pipeline's home buckets are set to return, unless
MIGRATE_EN is 0, under which no move starts (R47, R53, Table 1-12). -/
def slowMarkCleared (k : Nat) (s0 : Dev) : Dev :=
  let s := fifoSample s0
  match SMap.get none s.fabric.lowSince k with
  | none => s
  | some t =>
    if s.fabric.slow.getLsbD k then
      let s2 := reach (t.plus (10 * s.slowWindow)) s
      let s1 := { s2 with fabric := { s2.fabric with slow := s2.fabric.slow &&& ~~~(BitVec.ofNat 8 (2 ^ k)) } }
      if s1.regField isl.PIPA 0x700 0 0 = 1 then
        mapBuckets (fun _ b x =>
          if b % 8 = k ∧ x.pipeline ≠ k then { x with target := k, moveStart := s1.now, homeward := true } else x) s1
      else s1
    else s

/-- The FIFO stayed at or below FILL_LOW for 10 windows (R47, R53). -/
def execSlowMarkCleared (k : Nat) (s : State) : Host.Outcome State Fault Refusal := ran (Wf.slowMarkCleared k) (slowMarkCleared k) s

end Sys2Proof.Machine
end

