-- ==== Sys2Proof/Machine/Tagging.lean ====
section
/-! DEFINITION. Creating Wick tags (R29, R31, R32, R39), trace sampling and trace records (R541, R542). -/
namespace Sys2Proof.Machine

/-- A 16-bit field of a frame, most significant byte first. -/
def be16 (bs : List Byte) (i : Nat) : Nat := (byteAt bs i).toNat * 256 + (byteAt bs (i + 1)).toNat

/-- A VLAN tag stands at this offset: TPID 0x8100 or 0x88A8. -/
def isVlan (bs : List Byte) (i : Nat) : Bool := be16 bs i == 0x8100 || be16 bs i == 0x88A8

/-- Offset of the EtherType behind up to two VLAN tags. -/
def etherTypeOff (bs : List Byte) : Nat := if isVlan bs 12 then (if isVlan bs 16 then 20 else 16) else 12

/-- The ranges of frame bytes that FLOW_HASH takes, in order (R32): offset and length. Of an IPv6 packet with extension headers it takes the first
next-header value, and no ports from behind those headers: DESIGN CHOICE, log 128 (R32). -/
def hashRanges (bs : List Byte) : List (Nat × Nat) :=
  let e := etherTypeOff bs
  let ip := e + 2
  let ports (proto off : Nat) : List (Nat × Nat) := if proto = 6 ∨ proto = 17 ∨ proto = 132 then [(off, 4)] else []
  (0, 12) :: (12, e - 12) :: (e, 2) ::
    (if be16 bs e = 0x0800 then
      [(ip + 12, 8), (ip + 9, 1)] ++
        (if be16 bs (ip + 6) % 2 ^ 14 = 0 then ports (byteAt bs (ip + 9)).toNat (ip + 4 * ((byteAt bs ip).toNat % 16)) else [])
    else if be16 bs e = 0x86DD then [(ip + 8, 32), (ip + 6, 1)] ++ ports (byteAt bs (ip + 6)).toNat (ip + 40)
    else [])

/-- The bytes over which FLOW_HASH runs: the fields of R32 as far as they lie within the first 128 frame bytes. -/
def hashBytes (bs : List Byte) : List Byte :=
  let f := bs.take 128
  (hashRanges bs).flatMap (fun (o, n) => (f.drop o).take n)

/-- FLOW_HASH of a frame for a slice (R32). -/
def flowHash (slice : BitVec 12) (bs : List Byte) : BitVec 32 := crc32c (slice.zeroExtend 32) (hashBytes bs)

/-- The tag that a tagging point creates (R29, R31): version of the active slot, colour uncoloured, QUEUE and PASS 0. -/
def newTag (s : Dev) (slice : BitVec 12) (ingress : Nat) (t : Time) (bs : List Byte) : Tag :=
  let v := s.activeVersion
  { originNode := BitVec.ofNat 20 s.str.node, slice := slice, vslot := v.truncate 3, vcheck := v.truncate 5, entryTime := t,
    ingress := BitVec.ofNat 8 ingress, queue := 0, colour := 3, pass := 0, windowOffset := 0, flags := 0, meterClass := 0,
    flowHash := flowHash slice bs, length := BitVec.ofNat 16 bs.length, traceId := 0 }

/-- The tagging-point number of a TRACE_ID (R542) for a distributor. -/
def tracePoint (d : Nat) : Nat := ([1, 2, 0, 3, 4, 5, 6, 7] : List Nat).getD d 0

/-- The next count of a tagging point, which skips 0 (R542). -/
def nextTraceCount (n : Nat) : Nat := if (n + 1) % 4096 = 0 then 1 else (n + 1) % 4096

/-- A record sets out for OBS while its source bit is 1 (R541). -/
def traceRecord (kind source : Nat) (words : List W64) (s : Dev) : Dev :=
  if s.obs.mode ≠ 0 ∧ s.obs.sources.getLsbD source then
    { s with obs := { s.obs with arriving := s.obs.arriving ++ [⟨kind, words⟩] } }
  else s

/-- Word 0 of a trace record (Table 16-3). -/
def traceW0 (s : Dev) (island kind : Nat) : W64 := mk64 [s.now.toNat, at' island 48, at' kind 56]

/-- A PKT_STEP record for a traced packet (Table 16-4): island, EVENT, port. -/
def traceStep (island ev port : Nat) (p : Pkt) (s : Dev) : Dev :=
  if p.tag.flag 0 then
    traceRecord 1 0
      [traceW0 s island 1,
       mk64 [p.tag.traceId.toNat, at' ev 16, at' 1 62],
       mk64 [p.tag.slice.toNat, at' p.tag.vslot.toNat 12, at' p.tag.colour.toNat 15, at' p.tag.pass.toNat 17,
             at' p.tag.flags.toNat 19, at' p.tag.length.toNat 35],
       mk64 [p.tag.queue.toNat, at' (lo 8 port) 18, at' p.tag.originNode.toNat 26]] s
  else s

/-- A pipeline-side drop of a packet: its distributor is told and a traced packet leaves a record (R48, Table 16-4). -/
def dropPkt (island : Nat) (p : Pkt) (s : Dev) : Dev := endFlight p (traceStep island 9 p.tag.ingress.toNat p s)

/-- The tagging point counts a data packet and samples it (R542): FLAGS.TRACE and a TRACE_ID on every SAMPLE_N-th, with
PKT_HEADER while header capture is on for the slice. -/
def traceSample (d : Nat) (p : Pkt) (s : Dev) : Pkt × Dev :=
  let n := s.obs.sampleN
  if n = 0 ∨ s.obs.mode = 0 ∨ p.tag.exempt ∨ (s.obs.sliceFilter ∧ p.tag.slice.toNat ≠ s.obs.slice) then (p, s)
  else
    let c := SMap.get 0 s.obs.counted d + 1
    if c < n then (p, { s with obs := { s.obs with counted := SMap.put 0 s.obs.counted d c } })
    else
      let k := nextTraceCount (SMap.get 0 s.obs.lastId d)
      let p1 := { p with tag := { (p.tag.setFlag 0) with traceId := BitVec.ofNat 16 (tracePoint d * 4096 + k) } }
      let s1 := { s with obs := { s.obs with counted := SMap.put 0 s.obs.counted d 0, lastId := SMap.put 0 s.obs.lastId d k } }
      let s2 := traceStep (distIsland d) 1 p.tag.ingress.toNat p1 s1
      let hdr : List W64 := traceW0 s (distIsland d) 2 :: mk64 [p1.tag.traceId.toNat, at' 3 62] :: 0 :: 0 :: bytesWords (p.bytes.take 64) 8
      (p1, if s.obs.headerCapture.contains p.tag.slice.toNat then traceRecord 2 1 hdr s2 else s2)

/-- A tagging point creates a packet and hands it to its distributor; while no version is active it drops it (R39, R84). -/
def tagAndQueue (d : Nat) (slice : BitVec 12) (ingress : Nat) (t : Time) (bs : List Byte) (f : Pkt → Pkt) (s : Dev) : Dev :=
  match s.activeSlot with
  | none => count .versionForcedDiscard (distIsland d) s
  | some _ =>
    let (p, s1) := traceSample d (f (Pkt.fresh (newTag s slice ingress t bs) bs)) s
    toDistributor d p s1

end Sys2Proof.Machine
end

