-- ==== Sys2Proof/Machine/Threads.lean ====
section
/-! DEFINITION. Threads, groups, events, faults and dispatch (R338 to R347, R350, R351, R363 to R368). -/
namespace Sys2Proof.Machine

def Dev.thread (s : Dev) (t : Nat) : Thread := SMap.get Thread.free s.act.threads t

def Dev.setThread (s : Dev) (t : Nat) (x : Thread) : Dev :=
  { s with act := { s.act with threads := SMap.put Thread.free s.act.threads t x } }

def Dev.group (s : Dev) (g : Nat) : Option Group := SMap.get none s.act.groups g

def Dev.setGroup (s : Dev) (g : Nat) (x : Option Group) : Dev :=
  { s with act := { s.act with groups := SMap.put none s.act.groups g x } }

def Dev.actImage (s : Dev) (h : Nat) : Option ActImage := SMap.get none s.act.images h

/-- The groups with their numbers. -/
def Dev.groupList (s : Dev) : List (Nat × Group) := SMap.entries s.act.groups

/-- Core of a thread, its cluster, and the island that holds it (R338). -/
def coreOf (t : Nat) : Nat := t / 8
def clusterOf (t : Nat) : Nat := t / 64
def actIsland (t : Nat) : Nat := if t < 256 then isl.ACT0 else isl.ACT1

/-- The thread's group, and its slice. -/
def Dev.threadGroup (s : Dev) (t : Nat) : Option Group := if (s.thread t).state = .free then none else s.group (s.thread t).group
def Dev.threadSlice (s : Dev) (t : Nat) : Nat := ((s.threadGroup t).map Group.slice).getD 0

/-- The image that a thread runs. -/
def Dev.threadImage (s : Dev) (t : Nat) : Option ActImage := (s.threadGroup t).bind (fun g => s.actImage g.handle)

/-- A thread's initial state in group `n` (R342). -/
def initialThread (s : Dev) (n : Nat) : Thread :=
  { Thread.free with state := .ready, group := n, chargedAt := s.now,
                     pc := (((s.group n).bind (fun g => s.actImage g.handle)).map ActImage.entry).getD 0 }

/-! ### Events -/

/-- The event word (Table 10-7): latched bits, and the level bits as they now stand. -/
def eventWord (s : Dev) (t : Nat) : BitVec 16 :=
  let x := s.thread t
  let free := match x.refusedBy with
    | some r => decide ((s.thread r).recvQ.length < 4)
    | none => false
  x.latched ||| BitVec.ofNat 16 (b2n (!x.input.isEmpty) + 2 * b2n (!x.recvQ.isEmpty) + 4 * b2n free)

/-- A register of a thread: g0 reads 0 (Table 10-1). -/
def Thread.reg (x : Thread) (r : Nat) : W64 := if r = 0 then 0 else SMap.get 0 x.g r

/-- A write of a register: g0 discards it (Table 10-1). -/
def Thread.setReg (x : Thread) (r : Nat) (v : W64) : Thread := if r = 0 then x else { x with g := SMap.put 0 x.g r v }

/-- A WAITING thread for which a masked event is present wakes, and DST receives the event word (R364). -/
def wakeIf (t : Nat) (s : Dev) : Dev :=
  let x := s.thread t
  let e := eventWord s t
  if x.state = .waiting ∧ e &&& x.waitMask ≠ 0 then
    s.setThread t { Thread.setReg x x.waitDst (e.zeroExtend 64) with state := .ready }
  else s

/-- Latches events of a thread (R363). -/
def latch (t : Nat) (bits : BitVec 16) (s : Dev) : Dev :=
  s.setThread t { s.thread t with latched := (s.thread t).latched ||| bits }

/-! ### Slot tables -/

/-- Entry `e` of core `c`'s slot table: the thread in the core that it names (R345). -/
def Dev.slotEntry (s : Dev) (c e : Nat) : Option Nat := SMap.get none s.act.slots (32 * c + e)

def Dev.setSlotEntry (s : Dev) (c e : Nat) (x : Option Nat) : Dev :=
  { s with act := { s.act with slots := SMap.put none s.act.slots (32 * c + e) x } }

/-- The weight of a thread: the entries that name it (R345). -/
def threadWeight (s : Dev) (t : Nat) : Nat := ((List.range 32).filter (fun e => s.slotEntry (t / 8) e == some (t % 8))).length

/-- Empty entries of a core. -/
def slotsEmpty (s : Dev) (c : Nat) : Nat := ((List.range 32).filter (fun e => (s.slotEntry c e).isNone)).length

/-- A thread's entries are emptied. -/
def clearEntries (t : Nat) (s : Dev) : Dev :=
  (List.range 32).foldl (fun s e => if s.slotEntry (t / 8) e = some (t % 8) then s.setSlotEntry (t / 8) e none else s) s

/-- The entry that a thread's next entry takes: from the ideal place on, the first empty one that is not next to one of its own; else the
first empty one (R347). -/
def pickEntry (s : Dev) (t ideal : Nat) : Option Nat :=
  let c := t / 8
  let order := (List.range 32).map (fun i => (ideal + i) % 32)
  let own := fun e => s.slotEntry c (e % 32) == some (t % 8)
  match order.find? (fun e => (s.slotEntry c e).isNone && !own (e + 1) && !own (e + 31)) with
  | some e => some e
  | none => order.find? (fun e => (s.slotEntry c e).isNone)

/-- A thread gets `k` entries, spread over the 32 (R347). -/
def giveEntries (t k : Nat) (s : Dev) : Dev :=
  (List.range k).foldl (fun s i => match pickEntry s t (32 * i / k) with
    | some e => s.setSlotEntry (t / 8) e (some (t % 8))
    | none => s) (clearEntries t s)

/-- A thread takes its slice's THREAD_SLOTS (R347, R177). -/
def reslot (t : Nat) (s : Dev) : Dev :=
  let k := (s.slice (s.threadSlice t)).profile.threadSlots
  let s1 := if threadWeight s t = k then s else giveEntries t k s
  let sl := s.threadSlice t
  s1.setSlice sl { s1.slice sl with pendThr := (s1.slice sl).pendThr.filter (fun u => decide (u ≠ t)) }

/-! ### Charging -/

/-- The slice that a thread's cycles and state accesses are charged to (R366). -/
def chargedSlice (s : Dev) (t : Nat) : Nat :=
  match (s.thread t).held with
  | some p => p.tag.slice.toNat
  | none => s.threadSlice t

/-- The thread's cycles since they were charged last go to THREAD_CYCLES; a core runs at 2 cycles per ns (Table 15-3, R366). -/
def chargeCycles (t : Nat) (s : Dev) : Dev :=
  let x := s.thread t
  let n := 2 * Time.since s.now x.chargedAt
  let at₀ := match x.held with
    | some p => p.tag.entryTime
    | none => s.now
  (meterAdd (chargedSlice s t) 25 n at₀ s).setThread t { x with chargedAt := s.now }

/-! ### Group membership -/

/-- The thread neither holds nor queues a packet of dispatch entry `i` (R351). -/
def entryClear (x : Thread) (i : Nat) : Bool :=
  let of := fun (p : Pkt) => p.tag.flowHash.toNat / 2 ^ 26 == i
  !(x.input.any of) && !(match x.held with
    | some p => of p
    | none => false)

/-- Dispatch entries move to their new threads once their old ones are clear of them; threads that leave become FREE once they hold and
queue no packet (R351, R375). -/
def settleGroup (n : Nat) (s : Dev) : Dev :=
  match s.group n with
  | none => s
  | some g =>
    let target := fun i => g.threads.getD (i % Nat.max 1 g.threads.length) 0
    let map := g.map.zipIdx.map (fun (t, i) => if t = target i ∨ entryClear (s.thread t) i then target i else t)
    let gone := g.leaving.filter (fun t => !map.contains t && (s.thread t).held.isNone && (s.thread t).input.isEmpty)
    let s1 := gone.foldl (fun s t => (clearEntries t (chargeCycles t s)).setThread t Thread.free) s
    let y := { g with map := map, leaving := g.leaving.filter (fun t => !gone.contains t) }
    if y = g then s1 else s1.setGroup n (some y)

/-! ### Visits -/

/-- The thread's packet is gone: its cycles are charged, its visit ends. -/
def releaseHeld (t : Nat) (s : Dev) : Dev :=
  let s1 := chargeCycles t s
  s1.setThread t { s1.thread t with held := none, heldEmpty := false, copies := 0, frontAdded := 0, tailAdded := 0 }

/-! ### Faults -/

/-- Detail words of a thread fault (Table 10-16). -/
def threadFaultWord (s : Dev) (t cause pc : Nat) : W64 := mk64 [t, at' cause 16, at' (lo 13 pc) 24, at' (s.threadSlice t) 38]

/-- The held packet of a faulting thread is dropped (R367). -/
def dropHeld (t : Nat) (s : Dev) : Dev :=
  match (s.thread t).held with
  | some p => count .actFaultDrop (coreOf t) (dropPkt (actIsland t) p (releaseHeld t s))
  | none => if (s.thread t).heldEmpty then releaseHeld t s else s

/-- A thread fault (R367, R368). FAULT_LIMIT applies at each thread's next fault. -/
def threadFault (t cause detail : Nat) (s00 : Dev) : Dev :=
  let s0 := applyBoundary .threadFault (actIsland t) s00
  let pc := (s0.thread t).pc
  let s := count .actFaults (coreOf t) (dropHeld t s0)
  let x := s.thread t
  let recent := s.now :: x.faults.filter (fun f => decide (Time.since s.now f < 1000000))
  let g1 := mk64 [cause, at' (lo 13 pc) 8, at' detail 21]
  let logs := match x.logged with
    | some l => decide (1000000 ≤ Time.since s.now l)
    | none => true
  let park := decide (s.regField (actIsland t) 0x008 7 0 ≤ recent.length)
  let entry := ((s.threadImage t).map ActImage.entry).getD 0
  let y := { x with g := SMap.put 0 [] 1 g1, pc := entry, latched := x.latched ||| 0x400#16, staging := [], stTarget := none, stall := none,
                    faults := recent, lastFault := cause, faultPc := pc, logged := if logs then some s.now else x.logged,
                    state := if park then .faulted else .ready }
  let s1 := s.setThread t y
  let s2 := whenB logs (logFault (actIsland t) 0xFF 0x0B01 0 (threadFaultWord s t cause pc) 0) s1
  if park then count .actParked (coreOf t) (logFault (actIsland t) 0xFF 0x0B02 0 (threadFaultWord s t cause pc) 0 s2) else s2

/-! ### Dispatch -/

/-- The binding of a program in a slot (R372): owner, IMAGE_ID, TABLE_MASK. -/
def progBinding (s : Dev) (k n : Nat) : ProgBind := SMap.get ProgBind.none (s.slot k).rules.programs n
def progOwner (b : ProgBind) : Nat := fld b.w1 23 12
def progImage (b : ProgBind) : BitVec 32 := BitVec.ofNat 32 (fld b.w1 63 32)
def progMask (b : ProgBind) : Nat := fld b.w2 13 0

/-- The group of an owner slice and IMAGE_ID on this member. -/
def Dev.groupOf (s : Dev) (owner : Nat) (image : BitVec 32) : Option (Nat × Group) :=
  s.groupList.find? (fun e => e.2.slice == owner && match s.actImage e.2.handle with
    | some i => i.imageId == image
    | none => false)

/-- The thread that a packet of a program goes to, or the counter of its drop (R350, R351). -/
def dispatchTo (s : Dev) (p : Pkt) (prog : Nat) : Ctr ⊕ Nat :=
  let b := progBinding s p.tag.vslot.toNat (prog % 4096)
  if !b.valid then .inl .actNoGroup
  else match s.groupOf (progOwner b) (progImage b) with
    | none => .inl .actNoGroup
    | some (_, g) =>
      if progOwner b ≠ 0 ∧ progOwner b ≠ p.tag.slice.toNat then .inl .actSliceMismatch
      else
        let t := g.map.getD (p.tag.flowHash.toNat / 2 ^ 26) 0
        let x := s.thread t
        if x.state = .faulted ∨ x.state = .free ∨ 16 ≤ x.input.length ∨ 65536 < (x.input.map (fun q => q.bytes.length)).sum + p.bytes.length then
          .inl .actDispatchDrop
        else .inr t

/-- The island to which a pipeline sends a packet for a program: that of its thread, ACT0 where there is none. -/
def dispatchIsland (s : Dev) (p : Pkt) (prog : Nat) : Nat :=
  match dispatchTo s p prog with
  | .inr t => actIsland t
  | .inl _ => isl.ACT0

end Sys2Proof.Machine
end

