-- ==== Sys2Proof/Machine/Chetas.lean ====
section
/-! DEFINITION. Chetas instructions: encodings (R348, R349, Tables 10-3 to 10-6), the load checks (R370), ALU functions, how a thread
issues an instruction. -/
namespace Sys2Proof.Machine

/-! ### Encodings -/

/-- Format A. -/
def encA (op : Nat) (dst s1 s2 : BitVec 5) (func : BitVec 11) : BitVec 32 :=
  BitVec.ofNat 32 (op * 2 ^ 26 + dst.toNat * 2 ^ 21 + s1.toNat * 2 ^ 16 + s2.toNat * 2 ^ 11 + func.toNat)

/-- Format I; format B has SRC1 and SRC2 in the places of DST and SRC1. -/
def encI (op : Nat) (dst s1 : BitVec 5) (imm : BitVec 16) : BitVec 32 :=
  BitVec.ofNat 32 (op * 2 ^ 26 + dst.toNat * 2 ^ 21 + s1.toNat * 2 ^ 16 + imm.toNat)

/-- Format J. -/
def encJ (op : Nat) (dst : BitVec 5) (off : BitVec 21) : BitVec 32 :=
  BitVec.ofNat 32 (op * 2 ^ 26 + dst.toNat * 2 ^ 21 + off.toNat)

/-- Bits [hi:lo] of an instruction. -/
def iw (w : BitVec 32) (hi lo : Nat) : Nat := nfld w.toNat hi lo

/-- A signed field. -/
def signed (bits x : Nat) : Int := if x < 2 ^ (bits - 1) then (x : Int) else (x : Int) - (2 ^ bits : Nat)

/-- The opcodes of Tables 10-4 and 10-5. -/
def opcodeDefined (op : Nat) : Bool :=
  decide (op ≤ 0x0B) || (decide (0x10 ≤ op) && decide (op ≤ 0x23)) || (decide (0x28 ≤ op) && decide (op ≤ 0x2C)) || op == 0x30 || op == 0x31 ||
    (decide (0x34 ≤ op) && decide (op ≤ 0x37))

/-- An undefined opcode or FUNC (Table 10-9, reason 3). -/
def undefinedInstr (w : BitVec 32) : Bool :=
  let op := iw w 31 26
  !opcodeDefined op || (op == 0 && decide (0x11 < iw w 10 0)) || (op == 0x2B && decide (4 < iw w 10 0))

/-- A reserved bit of an instruction is set (Table 10-9, reason 4). A CTR selector that Table 10-5 does not name is taken as reserved
(DEDUCED, log 50), as are the bits [4:2] of MOVK's SRC1. -/
def reservedInstr (w : BitVec 32) : Bool :=
  let op := iw w 31 26
  let imm := iw w 15 0
  let s1 := iw w 20 16
  match op with
  | 0x00 => (iw w 10 0 == 0x0E || iw w 10 0 == 0x0F) && iw w 15 11 != 0
  | 0x05 => imm / 256 != 0
  | 0x06 => s1 / 4 != 0
  | 0x07 => s1 / 4 != 0
  | 0x0A => imm / 4096 != 0
  | 0x0B => imm / 4096 != 0
  | 0x18 => imm / 4096 % 4 != 0
  | 0x19 => imm / 4096 % 4 != 0
  | 0x1A => imm / 4096 % 4 != 0
  | 0x1B => imm / 4096 % 4 != 0
  | 0x1C => imm / 128 != 0 || (decide (48 ≤ imm % 128) && decide (imm % 128 ≤ 63)) || decide (76 ≤ imm % 128)
  | 0x1D => imm / 16 != 0
  | 0x1E => imm / 16 != 0
  | 0x21 => imm != 0
  | 0x22 => imm / 32 != 0
  | 0x23 => iw w 10 0 != 0
  | 0x28 => imm / 16 != 0
  | 0x29 => imm / 4096 % 4 != 0
  | 0x2A => imm / 4096 % 4 != 0
  | 0x2C => imm != 0
  | 0x30 => imm / 512 != 0
  | 0x31 => imm / 16 != 0
  | 0x36 => imm != 0 || s1 != 0
  | _ => false

/-- A branch or JAL target outside an image of `n` instructions (Table 10-9, reason 5). -/
def targetOutside (n i : Nat) (w : BitVec 32) : Bool :=
  let op := iw w 31 26
  let outside := fun (off : Int) => let x := (i : Int) + off; decide (x < 0) || decide ((n : Int) ≤ x)
  if 0x10 ≤ op ∧ op ≤ 0x15 then outside (signed 16 (iw w 15 0)) else if op = 0x16 then outside (signed 21 (iw w 20 0)) else false

/-- EXT or INS with POS + LEN above 64 (Table 10-9, reason 8). -/
def fieldTooLong (w : BitVec 32) : Bool :=
  (iw w 31 26 == 0x0A || iw w 31 26 == 0x0B) && decide (64 < iw w 5 0 + iw w 11 6 + 1)

/-- An instruction that raises ILLEGAL wherever it is executed (R349). -/
def illegalInstr (w : BitVec 32) : Bool := undefinedInstr w || reservedInstr w

/-- The instructions of an image, from its 64-bit words. -/
def imageCode (ws : List W64) : List (BitVec 32) := ws.flatMap (fun (w : W64) => [BitVec.ofNat 32 (fld w 31 0), BitVec.ofNat 32 (fld w 63 32)])

/-- The first check of Table 10-9 that an image of `len` bytes fails: the reason and the instruction at fault. -/
def actImageReason (raw : List W64) (len : Nat) : Option (Nat × Nat) :=
  let n := fld (raw.getD 0 0) 60 48
  let code := (imageCode (raw.drop 4)).take n
  let first := fun (k : Nat) (p : Nat → BitVec 32 → Bool) => (code.zipIdx.find? (fun (w, i) => p i w)).map (fun (_, i) => (k, i))
  if fld (raw.getD 0 0) 31 0 ≠ 0x43485431 ∨ fld (raw.getD 0 0) 47 32 ≠ 1 then some (1, 0)
  else if n = 0 ∨ 8192 < n ∨ len ≠ 32 + 4 * n then some (2, 0)
  else (first 3 (fun _ w => undefinedInstr w)).orElse fun _ =>
    (if fld (raw.getD 0 0) 63 61 ≠ 0 ∨ fld (raw.getD 1 0) 63 45 ≠ 0 ∨ raw.getD 2 0 ≠ 0 ∨ raw.getD 3 0 ≠ 0 then some (4, 0)
      else first 4 (fun _ w => reservedInstr w)).orElse fun _ =>
    (first 5 (targetOutside n)).orElse fun _ =>
    (if n ≤ fld (raw.getD 1 0) 44 32 then some (6, 0) else none).orElse fun _ =>
    (first 7 (fun _ w => iw w 31 26 == 0x28 && iw w 25 21 == 31)).orElse fun _ =>
    first 8 (fun _ w => fieldTooLong w)

/-! ### Arithmetic (Tables 10-4 and 10-6) -/

/-- 1 or 0 as a register value. -/
def flag64 (b : Bool) : W64 := if b then 1 else 0

/-- IMM16, sign-extended and zero-extended. -/
def sext (imm : BitVec 16) : W64 := imm.signExtend 64
def zext (imm : BitVec 16) : W64 := imm.zeroExtend 64

/-- Leading zeros, and set bits. -/
def leadingZeros (a : W64) : Nat := ((List.range 64).find? (fun i => a.getLsbD (63 - i))).getD 64
def setBits (a : W64) : Nat := ((List.range 64).filter (fun i => a.getLsbD i)).length

/-- DST of an ALU FUNC (Table 10-6). -/
def aluFn (func : Nat) (a b : W64) : W64 :=
  match func with
  | 0x00 => a + b
  | 0x01 => a - b
  | 0x02 => a &&& b
  | 0x03 => a ||| b
  | 0x04 => a ^^^ b
  | 0x05 => a <<< (b.toNat % 64)
  | 0x06 => a >>> (b.toNat % 64)
  | 0x07 => a.sshiftRight (b.toNat % 64)
  | 0x08 => flag64 (a.slt b)
  | 0x09 => flag64 (a.ult b)
  | 0x0A => if a.ult b then a else b
  | 0x0B => if a.ult b then b else a
  | 0x0C => a * b
  | 0x0D => BitVec.ofNat 64 (a.toNat * b.toNat / 2 ^ 64)
  | 0x0E => BitVec.ofNat 64 (leadingZeros a)
  | 0x0F => BitVec.ofNat 64 (setBits a)
  | 0x10 => BitVec.ofNat 64 (beNat (wordBytes a))
  | _ => (crc32c (a.truncate 32) (beBytes b.toNat 8)).zeroExtend 64

/-- SHI: the amount and the kind of shift in IMM16. -/
def shiftFn (imm : BitVec 16) (a : W64) : W64 :=
  let n := imm.toNat % 64
  match imm.toNat / 64 % 4 with
  | 0 => a <<< n
  | 1 => a >>> n
  | 2 => a.sshiftRight n
  | _ => a.rotateRight n

/-- MOVK: 16 bits of DST replaced. -/
def movkFn (h : Nat) (imm : BitVec 16) (old : W64) : W64 := (old &&& ~~~(bits (16 * h + 15) (16 * h))) ||| (zext imm <<< (16 * h))

/-- EXT: POS and LEN in IMM16. -/
def extFn (imm : BitVec 16) (a : W64) : W64 :=
  (a >>> (imm.toNat % 64)) &&& BitVec.ofNat 64 (2 ^ (imm.toNat / 64 % 64 + 1) - 1)

/-- INS: a field of DST replaced. -/
def insFn (imm : BitVec 16) (a old : W64) : W64 :=
  let pos := imm.toNat % 64
  let mask := BitVec.ofNat 64 (2 ^ (imm.toNat / 64 % 64 + 1) - 1)
  (old &&& ~~~(mask <<< pos)) ||| ((a &&& mask) <<< pos)

/-- The comparisons of the branches, in the order of their opcodes. -/
def branchFn (op : Nat) (a b : W64) : Bool :=
  match op with
  | 0x10 => a == b
  | 0x11 => a != b
  | 0x12 => a.slt b
  | 0x13 => !a.slt b
  | 0x14 => a.ult b
  | _ => !a.ult b

/-! ### Issue -/

/-- A register of thread `t`. -/
def Dev.reg (s : Dev) (t : Nat) (r : BitVec 5) : W64 := Thread.reg (s.thread t) r.toNat

/-- The next instruction. -/
def toNext (t : Nat) (s : Dev) : Dev := s.setThread t { s.thread t with pc := (s.thread t).pc + 1 }

/-- DST takes a value, and the next instruction follows. -/
def retire (t : Nat) (dst : BitVec 5) (v : W64) (s : Dev) : Dev := toNext t (s.setThread t (Thread.setReg (s.thread t) dst.toNat v))

/-- Control goes to instruction `n`. -/
def jumpTo (t n : Nat) (s : Dev) : Dev := s.setThread t { s.thread t with pc := n }

/-- The target of a branch or jump at the PC. -/
def relTarget (s : Dev) (t : Nat) (off : Int) : Nat := (((s.thread t).pc : Int) + off).toNat

/-- A thread issues instruction `w`, where it is READY and its PC names that instruction: an undefined or reserved encoding raises
ILLEGAL; a PC outside the image raises PC_RANGE whatever is named (R341, R344, R349). -/
def issue (t : Nat) (w : BitVec 32) (f : Dev → Dev) (s : Dev) : Dev :=
  let x := s.thread t
  match s.threadImage t with
  | none => s
  | some im =>
    if x.state ≠ .ready then s
    else if im.code.length ≤ x.pc then settleGroup x.group (threadFault t 2 0 s)
    else if im.code[x.pc]? ≠ some w then s
    else
      let s1 := count .actIssued (coreOf t) s
      settleGroup x.group (if illegalInstr w then threadFault t 1 0 s1 else f s1)

end Sys2Proof.Machine
end

