-- ==== Sys2Proof/Machine/ControlFrames.lean ====
section
/-! DEFINITION. Control frames on the wire: TYPE codes and bodies, written and read (R428, Tables 12-5 to 12-7). -/
namespace Sys2Proof

/-- A 64-bit body word, most significant byte first (R428). -/
def w64be (parts : List Nat) : List Byte := beBytes (mk64 parts).toNat 8

/-- Body word `k`. -/
def bodyWord (bs : List Byte) (k : Nat) : W64 := BitVec.ofNat 64 (beNat ((bs.drop (8 * k)).take 8))

/-- TYPE (Table 12-5). -/
def CtlBody.typ : CtlBody → Nat
  | .heartbeat .. => 0x01
  | .lane .. => 0x02
  | .spdm _ => 0x03
  | .join .. => 0x04
  | .reform _ => 0x05
  | .topo _ => 0x06
  | .linkState .. => 0x07
  | .params .. => 0x08
  | .tokenReq => 0x10
  | .tokenGrant _ => 0x11
  | .tokenRelease _ => 0x12
  | .prepareData .. => 0x20
  | .prepareEnd .. => 0x21
  | .prepareAck .. => 0x22
  | .prepareWithdraw _ => 0x23
  | .activate .. => 0x24
  | .activateAck .. => 0x25
  | .retire .. => 0x26
  | .drainDone _ => 0x27
  | .slotFree _ => 0x28
  | .pullReq .. => 0x29
  | .pullData .. => 0x2A
  | .pullEnd .. => 0x2A
  | .candle .. => 0x30
  | .candleDone _ => 0x31

/-- KIND of a TYPE (Tables 12-4 and 12-5). -/
def ctlKind (typ : Nat) : Nat :=
  if typ ≤ 0x04 then 4 else if typ ≤ 0x06 then 5
  else if [0x07, 0x08, 0x20, 0x21, 0x23, 0x24, 0x26, 0x28, 0x30].contains typ then 3 else 2

/-- A TOPO's words (Table 12-7). -/
def topoBytes (t : Topo) : List Byte :=
  w64be [t.active.toNat, at' t.prepared.toNat 32] ++
  w64be [b2n t.preparedValid, at' (b2n t.holdsToken) 1, at' (b2n t.leadSide) 2, at' (b2n t.starting) 3, at' (lo 2 t.mode) 4, at' (b2n t.refLead) 6,
    at' t.tokenSeq.toNat 32] ++
  w64be [t.refEpoch.toNat, at' (lo 14 t.refMembers) 32] ++
  (List.range 8).flatMap (fun b => match t.links[b]? with
    | some l => w64be [lo 20 l.peer, at' (b2n l.up) 20, at' (b2n l.slow) 21, at' (lo 12 l.delayNs) 22]
    | none => w64be []) ++
  w64be [lo 20 t.refLeadNode, at' (lo 20 t.priorLead) 20, at' (lo 9 t.transitNs) 40, at' t.draining.toNat 49]

/-- A TOPO from its words and its origin. -/
def topoOf (node : Nat) (bs : List Byte) : Topo :=
  let w := bodyWord bs
  { node := node, active := BitVec.ofNat 32 (fld (w 0) 31 0), prepared := BitVec.ofNat 32 (fld (w 0) 63 32), preparedValid := bit (w 1) 0,
    holdsToken := bit (w 1) 1, leadSide := bit (w 1) 2, starting := bit (w 1) 3, mode := fld (w 1) 5 4, refLead := bit (w 1) 6,
    tokenSeq := BitVec.ofNat 32 (fld (w 1) 63 32), refEpoch := BitVec.ofNat 32 (fld (w 2) 31 0), refMembers := fld (w 2) 45 32,
    links := (List.range 8).map (fun b => ⟨fld (w (3 + b)) 19 0, bit (w (3 + b)) 20, bit (w (3 + b)) 21, fld (w (3 + b)) 33 22⟩),
    refLeadNode := fld (w 11) 19 0, priorLead := fld (w 11) 39 20, transitNs := fld (w 11) 48 40,
    draining := BitVec.ofNat 8 (fld (w 11) 56 49) }

/-- A body's bytes (Tables 12-5 and 12-6). -/
def CtlBody.bytes : CtlBody → List Byte
  | .heartbeat tx etx erx hops free =>
    w64be [tx.toNat] ++ w64be [etx.toNat] ++ w64be [erx.toNat] ++ w64be [lo 13 hops] ++
      (List.range 16).flatMap (fun t => let (a, b) := free.tables.getD t (0, 0); w64be [lo 23 a, at' (lo 27 b) 32]) ++
      w64be [lo 17 free.lpm, at' (lo 32 free.jnlMib) 32]
  | .lane w l => w64be [lo 5 w, at' (b2n l) 5]
  | .spdm bs => bs
  | .join sid node mode fw ep side sig =>
    w64be [sid.toNat] ++ w64be [lo 20 node, at' (lo 2 mode) 20, at' fw.toNat 32] ++ w64be [ep.toNat, at' (b2n side) 32] ++ sig
  | .reform c => w64be [lo 4 c]
  | .topo t => topoBytes t
  | .linkState b slow peer => w64be [lo 3 b, at' (b2n slow) 3, at' (lo 20 peer) 4]
  | .params h r => w64be [lo 14 h, at' (lo 11 r) 32]
  | .tokenReq => []
  | .tokenGrant q => w64be [q.toNat]
  | .tokenRelease q => w64be [q.toNat]
  | .prepareData v seg bs => w64be [v.toNat, at' (lo 16 seg) 32] ++ bs
  | .prepareEnd v n d => w64be [v.toNat, at' (lo 16 n) 32] ++ beBytes d.toNat 48
  | .prepareAck v st => w64be [v.toNat, at' (lo 16 st) 32]
  | .prepareWithdraw v => w64be [v.toNat]
  | .activate v t => w64be [v.toNat] ++ w64be [t.toNat]
  | .activateAck v t => w64be [v.toNat] ++ w64be [t.toNat]
  | .retire k f t => w64be [lo 3 k, at' (b2n f) 3] ++ w64be [t.toNat]
  | .drainDone k => w64be [lo 3 k]
  | .slotFree k => w64be [lo 3 k]
  | .pullReq v n => w64be [v.toNat, at' (lo 16 n) 32]
  | .pullData v seg bs => w64be [v.toNat, at' (lo 16 seg) 32] ++ bs
  | .pullEnd v n d => w64be [v.toNat, at' (lo 16 n) 32] ++ beBytes d.toNat 48
  | .candle p t => w64be [p.toNat] ++ w64be [t.toNat]
  | .candleDone p => w64be [p.toNat]

/-- A time in bits [47:0] of a word. -/
def wTime (w : W64) : Time := BitVec.ofNat 48 (fld w 47 0)

/-- A number in bits [31:0] of a word. -/
def w32 (w : W64) : BitVec 32 := BitVec.ofNat 32 (fld w 31 0)

/-- The body of a TYPE from its bytes; none for a TYPE that Table 12-5 does not give. A PULL_DATA whose body has the 56 bytes of a
PREPARE_END is the last frame (DESIGN CHOICE, log 31). -/
def ctlOf (typ org : Nat) (bs : List Byte) : Option CtlBody :=
  let w := bodyWord bs
  match typ with
  | 0x01 => some (.heartbeat (wTime (w 0)) (wTime (w 1)) (wTime (w 2)) (fld (w 3) 12 0)
      ⟨(List.range 16).map (fun t => (fld (w (4 + t)) 22 0, fld (w (4 + t)) 58 32)), fld (w 20) 16 0, fld (w 20) 63 32⟩)
  | 0x02 => some (.lane (fld (w 0) 4 0) (bit (w 0) 5))
  | 0x03 => some (.spdm bs)
  | 0x04 => some (.join (w 0) (fld (w 1) 19 0) (fld (w 1) 21 20) (BitVec.ofNat 32 (fld (w 1) 63 32)) (w32 (w 2)) (bit (w 2) 32)
      ((bs.drop 24).take 96))
  | 0x05 => some (.reform (fld (w 0) 3 0))
  | 0x06 => some (.topo (topoOf org bs))
  | 0x07 => some (.linkState (fld (w 0) 2 0) (bit (w 0) 3) (fld (w 0) 23 4))
  | 0x08 => some (.params (fld (w 0) 13 0) (fld (w 0) 42 32))
  | 0x10 => some .tokenReq
  | 0x11 => some (.tokenGrant (w32 (w 0)))
  | 0x12 => some (.tokenRelease (w32 (w 0)))
  | 0x20 => some (.prepareData (w32 (w 0)) (fld (w 0) 47 32) (bs.drop 8))
  | 0x21 => some (.prepareEnd (w32 (w 0)) (fld (w 0) 47 32) (BitVec.ofNat 384 (beNat ((bs.drop 8).take 48))))
  | 0x22 => some (.prepareAck (w32 (w 0)) (fld (w 0) 47 32))
  | 0x23 => some (.prepareWithdraw (w32 (w 0)))
  | 0x24 => some (.activate (w32 (w 0)) (wTime (w 1)))
  | 0x25 => some (.activateAck (w32 (w 0)) (wTime (w 1)))
  | 0x26 => some (.retire (fld (w 0) 2 0) (bit (w 0) 3) (wTime (w 1)))
  | 0x27 => some (.drainDone (fld (w 0) 2 0))
  | 0x28 => some (.slotFree (fld (w 0) 2 0))
  | 0x29 => some (.pullReq (w32 (w 0)) (fld (w 0) 47 32))
  | 0x2A =>
    if bs.length = 56 then some (.pullEnd (w32 (w 0)) (fld (w 0) 47 32) (BitVec.ofNat 384 (beNat (bs.drop 8))))
    else some (.pullData (w32 (w 0)) (fld (w 0) 47 32) (bs.drop 8))
  | 0x30 => some (.candle (w32 (w 0)) (wTime (w 1)))
  | 0x31 => some (.candleDone (w32 (w 0)))
  | _ => none

/-- A control frame's body with its two common words (R428). -/
def ctlBody (epoch msgSeq : BitVec 32) (b : CtlBody) : List Byte :=
  w64be [CtlBody.typ b, at' (lo 16 (CtlBody.bytes b).length) 16, at' epoch.toNat 32] ++ w64be [msgSeq.toNat] ++ CtlBody.bytes b

/-- The message of a control frame from its origin and body; none where TYPE or BODY_LEN does not fit; reserved bits are ignored (R13). -/
def ctlMsg (org : Nat) (body : List Byte) : Option (CtlHdr × CtlBody) :=
  let w0 := bodyWord body 0
  let w1 := bodyWord body 1
  let n := fld w0 31 16
  if body.length < 16 + n then none
  else (ctlOf (fld w0 7 0) org ((body.drop 16).take n)).map
    (fun b => (⟨org, BitVec.ofNat 32 (fld w0 63 32), w32 w1⟩, b))

/-- The drain marker's body (R431). -/
def markerBody (m : Marker) : List Byte :=
  if m.isSlice then w64be [2, at' (lo 12 m.id) 16] ++ w64be [m.time.toNat, at' (lo 8 m.source) 48]
  else w64be [1, at' (lo 3 m.id) 8, at' m.version.toNat 32] ++ w64be [m.time.toNat, at' (lo 8 m.source) 48]

/-- Bytes 0 to 7 of a Lantern frame (Table 12-3), HDR_CRC over its first 6. -/
def lanternHdr (f : LFrame) : List Byte :=
  let h := beBytes ((lo 20 f.dest * 2 ^ 44 + lo 4 f.kind * 2 ^ 40 + lo 13 f.hops * 2 ^ 27) / 2 ^ 16) 6
  h ++ beBytes (crc16 h).toNat 2

/-- A Lantern frame's bytes (R414). -/
def LFrame.bytes (f : LFrame) : List Byte := lanternHdr f ++ f.tag.bytes ++ f.body

/-- The frame that arrived bytes spell, when HDR_CRC, KIND and the VC pass (R415). -/
def lanternParse (vc1 : Bool) (bs : List Byte) : Option LFrame :=
  let h := beNat (bs.take 8)
  let kind := nfld h 43 40
  if bs.length < 40 ∨ (crc16 (bs.take 6)).toNat ≠ nfld h 15 0 ∨ 5 < kind ∨ vc1 ≠ decide (kind < 2) then none
  else some ⟨nfld h 63 44, kind, nfld h 39 27, Tag.ofBytes ((bs.drop 8).take 32), bs.drop 40, none⟩

end Sys2Proof
end

