-- ==== Sys2Proof/Machine/Lantern.lean ====
section
/-! DEFINITION. Bundles, control messages, topology and routes: what the string's events share (R407 to R418, R428 to R437). -/
namespace Sys2Proof.Machine

def Dev.bundle (s : Dev) (b : Nat) : Bundle := SMap.get Bundle.reset s.str.bundles b

def Dev.setBundle (s : Dev) (b : Nat) (x : Bundle) : Dev :=
  { s with str := { s.str with bundles := SMap.put Bundle.reset s.str.bundles b x } }

/-- Bundles of the mode, and lanes of each (Table 12-1). -/
def Dev.bundleCount (s : Dev) : Nat := if s.str.mode = 1 then 2 else if s.str.mode = 2 then 8 else 0
def Dev.maxWidth (s : Dev) : Nat := if s.str.mode = 1 then 16 else 4

/-- The bundles of the mode. -/
def Dev.bundleList (s : Dev) : List Nat := List.range s.bundleCount

/-- The bundle carries control frames of a re-formation: it is UP, or its join has been accepted (Table 12-8, step 4). -/
def Bundle.live (x : Bundle) : Bool := decide (x.state = .up) || x.accepted

/-- The maximum string round trip in ns. -/
def Dev.rttNs (s : Dev) : Nat := s.str.maxRttUs * 1000

/-- `a` is an older epoch than `b`. -/
def epochOlder (a b : BitVec 32) : Bool := Version.later b a

/-! ### Sending control messages -/

/-- The tag of a control frame (R428). -/
def ctlTag (s : Dev) (len : Nat) : Tag :=
  let v := s.activeVersion
  { originNode := BitVec.ofNat 20 s.str.node, slice := 0, vslot := v.truncate 3, vcheck := v.truncate 5, entryTime := s.now, ingress := 75,
    queue := 0, colour := 3, pass := 0, windowOffset := 0, flags := 4, meterClass := 63, flowHash := 0,
    length := BitVec.ofNat 16 len, traceId := 0 }

/-- A control frame of this member. -/
def ctlFrame (s : Dev) (kind dest hops : Nat) (seq : BitVec 32) (b : CtlBody) : LFrame :=
  let body := ctlBody s.str.epoch seq b
  { dest := dest, kind := kind, hops := hops, tag := ctlTag s body.length, body := body, from' := none }

/-- A control frame waits on a bundle's VC 0. -/
def queueCtl (b : Nat) (f : LFrame) (s : Dev) : Dev :=
  s.setBundle b { s.bundle b with ctl := (s.bundle b).ctl ++ [f] }

def Dev.route (s : Dev) (n : Nat) : Option RouteTo := SMap.get none s.str.routes n

/-- Members reached through a bundle by a flood (R417): in a ring the halves, else those whose route takes it. -/
def Dev.floodReach (s : Dev) (b : Nat) : Nat :=
  let n := s.str.members.length
  if s.str.topology = 2 then
    let lowest := (s.bundleList.filter (fun k => Bundle.live (s.bundle k))).head?
    if lowest = some b then n / 2 else (n - 1) / 2
  else (s.str.members.filter (fun m => match s.route m with
    | some r => r.bundle == b
    | none => false)).length

/-- HOPS_LEFT of a flood or broadcast on a bundle; none where it reaches no member (R417). -/
def Dev.floodHops (s : Dev) (b : Nat) : Option Nat :=
  if s.floodReach b = 0 then none else if s.str.mode = 2 then some 8191 else some (s.floodReach b - 1)

/-- A control frame of the Lamplighter's as a packet for the traffic manager: it counts in flight for no distributor. -/
def ctlPkt (s : Dev) (dest : Dest) (seq : BitVec 32) (b : CtlBody) : Pkt :=
  let body := ctlBody s.str.epoch seq b
  { Pkt.fresh (ctlTag s body.length) body with dist := 8, dest := dest }

/-- Sends one message under a MSG_SEQ. The Lamplighter's broadcasts and unicasts go to the traffic manager, for the control queue of their bundle
(R44, R383, Table 1-2); LINK, REFORM and TOPO frames are LNK's own, and a PARAMS goes with
the REFORM that follows it (DESIGN CHOICE, log 113). A unicast to this member itself is delivered at
once. -/
def sendAs (seq : BitVec 32) (dst : CtlTo) (b : CtlBody) (s : Dev) : Dev :=
  let s2 := emit (.control dst s.str.epoch seq b) s
  match dst with
  | .link k => queueCtl k (ctlFrame s 4 (s.bundle k).peerNode 0 seq b) s2
  | .reform => (s.bundleList.filter (fun k => Bundle.live (s.bundle k))).foldl
      (fun s k => queueCtl k (ctlFrame s 5 0xFFFFF 8191 seq b) s) s2
  | .broadcast => (s.bundleList.filter (fun k => Bundle.live (s.bundle k))).foldl
      (fun s k => match s.floodHops k with
        | some h => if CtlBody.typ b = 8 then queueCtl k (ctlFrame s 3 0xFFFFF h seq b) s else post isl.MGT isl.TMG (ctlPkt s (.port (64 + k)) seq b) s
        | none => s) s2
  | .member n =>
    if n = s.str.node then
      { s2 with str := { s2.str with ctlIn := s2.str.ctlIn ++ [⟨8, ⟨n, s.str.epoch, seq⟩, b⟩] } }
    else if (s.route n).isSome then post isl.MGT isl.TMG (ctlPkt s (.node n) seq b) s2
    else s2

/-- Sends one message under the next MSG_SEQ. -/
def sendSeq (dst : CtlTo) (b : CtlBody) (s : Dev) : Dev :=
  sendAs (s.str.msgSeq + 1) dst b { s with str := { s.str with msgSeq := s.str.msgSeq + 1 } }

/-- The message may go now (R430). -/
def ctlMayGo (dst : CtlTo) (s : Dev) : Bool :=
  match dst with
  | .link _ => true
  | .reform => true
  | _ => decide (s.str.state ≠ .forming)

/-- Sends a control message, or keeps it until the re-formation ends. -/
def sendCtl (dst : CtlTo) (b : CtlBody) (s : Dev) : Dev :=
  if ctlMayGo dst s then sendSeq dst b s else { s with str := { s.str with held0 := s.str.held0 ++ [(dst, b)] } }

/-- Sends messages whose protocol gives a reply, and awaits it from `missing` (R429). While a re-formation runs they only wait, and its end
sends them (R430). -/
def sendAwaited (dst : CtlTo) (bs : List CtlBody) (missing : List Nat) (s : Dev) : Dev :=
  let kept := bs.zipIdx.map (fun (b, i) => (s.str.msgSeq + BitVec.ofNat 32 (i + 1), b))
  let s0 := { s with str := { s.str with msgSeq := s.str.msgSeq + BitVec.ofNat 32 bs.length } }
  let s1 := if ctlMayGo dst s then kept.foldl (fun s e => sendAs e.1 dst e.2 s) s0 else s0
  if missing = [] then s1
  else { s1 with str := { s1.str with awaited := s1.str.awaited ++ [⟨dst, kept, missing, 0⟩] } }

/-- Other members of this side. -/
def Dev.others (s : Dev) : List Nat := s.str.members.filter (fun n => decide (n ≠ s.str.node))

/-- The awaited reply of member `n` to messages that satisfy `p` has come. -/
def gotReply (p : CtlBody → Bool) (n : Nat) (s : Dev) : Dev :=
  let upd := fun (a : Awaited) => if a.bodies.any (fun e => p e.2) then { a with missing := a.missing.erase n } else a
  { s with str := { s.str with awaited := (s.str.awaited.map upd).filter (fun a => !a.missing.isEmpty) } }

/-- No reply to messages that satisfy `p` is awaited any more. -/
def dropAwaited (p : CtlBody → Bool) (s : Dev) : Dev :=
  { s with str := { s.str with awaited := s.str.awaited.filter (fun a => !(a.bodies.any (fun e => p e.2))) } }

/-! ### Receiving control messages -/

/-- A message of KIND LINK. -/
def CtlBody.isLink (b : CtlBody) : Bool := ctlKind (CtlBody.typ b) == 4

/-- Takes the first waiting message that `p` selects. A stale one is discarded and counted (R430); a repeat is answered again and
not acted on (R429). LINK messages are of the peer only and come under neither. -/
def takeMsg {α : Type} (p : CtlBody → Option α) (f : CtlMsg → α → Dev → Dev) (s : Dev) : Dev :=
  match findIdxFrom (fun m => (p m.body).isSome) 0 s.str.ctlIn with
  | none => s
  | some (i, m) =>
    let s1 := { s with str := { s.str with ctlIn := s.str.ctlIn.eraseIdx i } }
    match p m.body with
    | none => s1
    | some x =>
      if CtlBody.isLink m.body then f m x s1
      else if epochOlder m.hdr.epoch s.str.epoch then count .lnkStaleEpoch 0 s1
      else match s.str.seen.find? (fun e => e.1 == m.hdr.org && e.2.1 == m.hdr.msgSeq) with
        | some (_, _, some (dst, b)) => sendCtl dst b s1
        | some (_, _, none) => s1
        | none => f m x { s1 with str := { s1.str with seen := (m.hdr.org, m.hdr.msgSeq, none) :: s1.str.seen } }

/-- Answers a message, and keeps the reply for its repeats (R429). -/
def reply (h : CtlHdr) (b : CtlBody) (s : Dev) : Dev :=
  let seen := s.str.seen.map (fun e => if e.1 = h.org ∧ e.2.1 = h.msgSeq then (e.1, e.2.1, some (CtlTo.member h.org, b)) else e)
  sendCtl (.member h.org) b { s with str := { s.str with seen := seen } }

/-! ### Topology -/

/-- The TOPO of a node in a set. -/
def topoAt (ts : List Topo) (n : Nat) : Option Topo := ts.find? (fun t => t.node == n)

/-- Neighbours of a node over its UP bundles, with the slow mark and cable delay of the link and its end's bundle. -/
def neighbours (ts : List Topo) (n : Nat) : List (Nat × Nat × Bool × Nat) :=
  match topoAt ts n with
  | none => []
  | some t => t.links.zipIdx.filterMap (fun (l, b) => if l.up then some (l.peer, b, l.slow, l.delayNs) else none)

/-- The set is closed: it holds a TOPO from every node named as the peer of an UP bundle (R436). -/
def topoClosed (ts : List Topo) : Bool := ts.all (fun t => t.links.all (fun l => !l.up || (topoAt ts l.peer).isSome))

/-- A node found by a search: number, hops, a slow link on its path. -/
structure Found where
  node : Nat
  hops : Nat
  slow : Bool
  deriving DecidableEq, Repr

/-- The link between two nodes is marked slow at either end. -/
def linkSlow (ts : List Topo) (a b : Nat) : Bool :=
  (neighbours ts a).any (fun l => l.1 == b && l.2.2.1) || (neighbours ts b).any (fun l => l.1 == a && l.2.2.1)

/-- One layer of a search that does not pass `self`. -/
def searchLayer (ts : List Topo) (self : Nat) (front seen : List Found) : List Found :=
  front.foldl (fun acc f => (neighbours ts f.node).foldl (fun acc l =>
    if l.1 = self ∨ (seen ++ acc).any (fun g => g.node == l.1) then acc
    else acc ++ [⟨l.1, f.hops + 1, f.slow || linkSlow ts f.node l.1⟩]) acc) []

/-- Every node reached from `front`, nearest first. -/
def searchFrom (ts : List Topo) (self : Nat) : Nat → List Found → List Found → List Found
  | 0, _, seen => seen
  | n + 1, front, seen =>
    let next := searchLayer ts self front seen
    if next = [] then seen else searchFrom ts self n next (seen ++ next)

/-- Nodes reached through one of this member's links, which leads to `peer`. -/
def reachedBy (ts : List Topo) (self peer : Nat) (slow : Bool) : List Found :=
  let f : Found := ⟨peer, 1, slow⟩
  searchFrom ts self ts.length [f] [f]

/-- What each of this member's UP bundles reaches. -/
def reachByBundle (ts : List Topo) (self : Nat) : List (Nat × List Found) :=
  (neighbours ts self).map (fun l => (l.2.1, reachedBy ts self l.1 (linkSlow ts self l.1)))

/-- The choice of R416 and R424 between two ways: a way with a slow link gives way to one with none, else the shorter, else the
lower bundle. -/
def betterWay (a b : Nat × Found) : Bool :=
  if a.2.slow ≠ b.2.slow then b.2.slow
  else decide (a.2.hops < b.2.hops) || (a.2.hops == b.2.hops && decide (a.1 < b.1))

/-- The way to a node, of the bundles that reach it: bundle and what the search found. -/
def bestWay (rs : List (Nat × List Found)) (n : Nat) : Option (Nat × Found) :=
  (rs.filterMap (fun (b, fs) => (fs.find? (fun f => f.node == n)).map (fun f => (b, f)))).foldl
    (fun best w => match best with
      | none => some w
      | some v => if betterWay w v then some w else some v) none

/-- The members of the side: this node and every node reached, ascending. -/
def sideMembers (rs : List (Nat × List Found)) (self : Nat) : List Nat :=
  sortBy (fun a b => decide (a ≤ b)) (self :: rs.flatMap (fun e => e.2.map Found.node)).eraseDups

/-- TOPOLOGY: 0 alone, 1 chain, 2 ring, 3 tree. -/
def topologyOf (mode : Nat) (ts : List Topo) (members : List Nat) : Nat :=
  if members.length ≤ 1 then 0 else if mode = 2 then 3
  else if members.all (fun n => (neighbours ts n).length == 2) then 2 else 1

/-- The delay of a hop: link delay plus the larger TRANSIT_NS of its ends (R447). -/
def hopDelay (ts : List Topo) (a b delay : Nat) : Nat :=
  delay + Nat.max ((topoAt ts a).map Topo.transitNs |>.getD 400) ((topoAt ts b).map Topo.transitNs |>.getD 400)

/-- Hop delays of the side's links, each once. -/
def hopDelays (ts : List Topo) (members : List Nat) : List Nat :=
  members.flatMap (fun a => (neighbours ts a).filterMap (fun l =>
    if a < l.1 then some (hopDelay ts a l.1 l.2.2.2) else none))

/-- The greatest delay of a path down from a node, coming from `parent`. -/
def deepest (ts : List Topo) : Nat → Nat → Nat → Nat
  | 0, _, _ => 0
  | n + 1, parent, a =>
    ((neighbours ts a).filter (fun l => decide (l.1 ≠ parent))).foldl
      (fun m l => Nat.max m (hopDelay ts a l.1 l.2.2.2 + deepest ts n a l.1)) 0

/-- MEASURED_NS (R447): in linear mode twice the sum of the hops, for a ring without its least; in tree mode twice the greatest
path. -/
def measuredRtt (topology : Nat) (ts : List Topo) (members : List Nat) : Nat :=
  let hs := hopDelays ts members
  if topology = 2 then 2 * (hs.sum - hs.foldl Nat.min (hs.headD 0))
  else if topology = 3 then 2 * members.foldl (fun m a => Nat.max m (deepest ts members.length a a)) 0
  else 2 * hs.sum

/-! ### The cut-through time (R447) -/

/-- A heartbeat interval is over: TRANSIT_NS is the longest time of it, or stays where nothing was relayed. -/
def rollTransit (s : Dev) : Dev :=
  if 1000 * s.str.heartbeatUs ≤ Time.since s.now s.str.transitAt then
    { s with str := { s.str with transitNs := s.str.transitMax.getD s.str.transitNs, transitMax := none, transitAt := s.now } }
  else s

/-- A relayed frame starts, `t` having been the time LNK took it; what TRANSIT_NS cannot hold reads 511 (log 140). -/
def noteTransit (t : Time) (s : Dev) : Dev :=
  let s1 := rollTransit s
  { s1 with str := { s1.str with transitMax := some (Nat.max (s1.str.transitMax.getD 0) (Nat.min 511 (Time.since s1.now t))) } }

/-! ### Starting a re-formation -/

/-- The slot in PREPARED, if any (R62). -/
def Dev.preparedSlot (s : Dev) : Option Nat := s.slotIn .prepared

/-- This member's own TOPO (Table 12-7). -/
def ownTopo (s : Dev) : Topo :=
  let prep := s.preparedSlot
  { node := s.str.node, active := s.activeVersion, prepared := (prep.map (fun k => (s.slot k).version)).getD 0, preparedValid := prep.isSome,
    holdsToken := s.str.holdsToken, leadSide := s.str.leadSide, starting := s.str.starting, mode := s.str.mode,
    refLead := s.str.refMembers ≠ [] && s.str.refLead == s.str.node, tokenSeq := s.str.tokenSeq, refEpoch := s.str.refEpoch,
    refMembers := s.str.refMembers.length,
    links := s.bundleList.map (fun b => let x := s.bundle b; ⟨x.peerNode, Bundle.live x, x.slow, x.delayPs / 1000⟩),
    refLeadNode := s.str.refLead, priorLead := s.str.priorLead, transitNs := s.str.transitNs,
    draining := BitVec.ofNat 8 ((slotNumbers.filter (fun k => decide ((s.slot k).state = .draining))).map (fun k => 2 ^ k)).sum }

/-- What has been relayed at an epoch or a later one. -/
def freshRelays (e : BitVec 32) (s : Dev) : List (Nat × Nat × Nat) :=
  s.str.relayed.filter (fun r => !epochOlder (BitVec.ofNat 32 r.2.2) e)

/-- The member enters FORMING at an epoch with its own TOPO alone, and sends it (R436, step 2). -/
def enterForming (e : BitVec 32) (s : Dev) : Dev :=
  let s1 := { s with str := { s.str with epoch := e, highEpoch := if epochOlder s.str.highEpoch e then e else s.str.highEpoch,
                                         state := .forming, toposAt := s.now, topos := [ownTopo s], seen := [], relayed := freshRelays e s } }
  sendCtl .reform (.topo (ownTopo s)) s1

/-- This member starts a re-formation: REFORM under an epoch one above the highest it has seen, with its TOPO (R436, step 1). -/
def startReform (cause : Nat) (s : Dev) : Dev :=
  if s.str.mode = 0 then s
  else
    let e := s.str.highEpoch + 1
    let s1 := { s with str := { s.str with epoch := e, highEpoch := e, state := .forming, toposAt := s.now, topos := [ownTopo s], seen := [], relayed := freshRelays e s } }
    sendCtl .reform (.topo (ownTopo s)) (sendCtl .reform (.reform cause) s1)

/-- Bundles whose join has been accepted come UP (Table 12-8, step 6). The wait of R439 begins with the first bundle. -/
def upAccepted (s : Dev) : Dev :=
  let ks := s.bundleList.filter (fun b => (s.bundle b).accepted)
  let s1 := ks.foldl (fun s b => s.setBundle b { s.bundle b with state := .up, accepted := false }) s
  if ks ≠ [] ∧ s.str.starting ∧ s.bundleList.all (fun b => decide ((s.bundle b).state ≠ .up)) then
    { s1 with str := { s1.str with waitFrom := some s.now } }
  else s1

/-! ### Blocks out -/

/-- Pieces of 256 bytes. -/
def chunks256 : Nat → List Byte → List (List Byte)
  | 0, _ => []
  | n + 1, bs => if bs.length ≤ 256 then [bs] else bs.take 256 :: chunks256 n (bs.drop 256)

/-- The link blocks of a frame, not yet numbered (Table 12-2). -/
def frameBlocks (vc1 abort : Bool) (bs : List Byte) : List LinkBlock :=
  let cs := chunks256 (bs.length / 256 + 1) bs
  cs.zipIdx.map (fun (c, i) =>
    { seq := 0, vc1 := vc1, sof := i == 0, eof := !abort && i + 1 == cs.length, abort := abort && i + 1 == cs.length, payload := c })

/-- Sends the blocks that wait, while the VC's credit and the 2,048 kept blocks allow (R412, R413). -/
def drainTx (b : Nat) : Nat → Dev → Dev
  | 0, s => s
  | n + 1, s =>
    let x := s.bundle b
    match x.txq with
    | [] => s
    | k :: rest =>
      if (if k.vc1 then x.credit1 else x.credit0) = 0 ∨ 2048 ≤ x.unacked.length then s
      else
        let blk := { k with seq := x.txSeq }
        let x1 := { x with txq := rest, leaving := if k.vc1 && (k.eof || k.abort) then none else x.leaving, txSeq := x.txSeq + 1, unacked := x.unacked ++ [(blk, 0)],
                           ackFrom := if x.unacked = [] then s.now else x.ackFrom,
                           credit0 := if k.vc1 then x.credit0 else x.credit0 - 1, credit1 := if k.vc1 then x.credit1 - 1 else x.credit1 }
        drainTx b n (emit (.linkBlock b blk.seq blk.vc1 blk.sof blk.eof blk.abort blk.payload) (s.setBundle b x1))

/-- Blocks join those that wait to be sent. -/
def pushBlocks (b : Nat) (ks : List LinkBlock) (s : Dev) : Dev :=
  let x := s.bundle b
  drainTx b (x.txq.length + ks.length) (s.setBundle b { x with txq := x.txq ++ ks })

/-- The bundle that relays a unicast for `n` which came in on `from'` (R418): in linear mode the other bundle, in tree mode the
route's. -/
def relayBundle (s : Dev) (from' n : Nat) : Option Nat :=
  if s.str.mode = 1 then some (1 - from') else (s.route n).map RouteTo.bundle

/-- The bundles that relay a flood which came in on `from'` (R418): in linear mode the other one, in tree mode every other one. -/
def floodBundles (s : Dev) (from' : Nat) : List Nat :=
  if s.str.mode = 1 then [1 - from'] else s.bundleList.filter (fun o => decide (o ≠ from') && Bundle.live (s.bundle o))

/-- The frame in progress on VC 1 of a bundle that leaves UP is a transit frame: its outgoing copy ends in ABORT (R423). -/
def abortTransit (b : Nat) (s : Dev) : Dev :=
  let bs := (s.bundle b).asm1
  match lanternParse true bs with
  | some f =>
    if f.dest ≠ s.str.node ∧ f.hops ≠ 0 then
      let outs := if f.kind = 1 then floodBundles s b else (relayBundle s b f.dest).toList
      (outs.filter (fun o => decide ((s.bundle o).state = .up))).foldl
        (fun s o => pushBlocks o (frameBlocks true true (LFrame.bytes { f with hops := f.hops - 1 })) s) s
    else s
  | none => s

/-- A bundle leaves UP with a cause (R412, R427, R434, R440): its frames in flight are lost, and a re-formation with CAUSE 1 starts. -/
def leaveUp (b cause : Nat) (s : Dev) : Dev :=
  let x := s.bundle b
  if Bundle.live x then
    let s1 := abortTransit b s
    let s2 := s1.setBundle b { Bundle.reset with adminUp := x.adminUp, lanesOk := x.lanesOk, peerNode := x.peerNode, peerBundle := x.peerBundle }
    startReform 1 (logFault isl.LNK 0xFF 0x0701 0 (mk64 [b, at' cause 4, at' x.peerNode 8]) 0 s2)
  else s

/-! ### Free counts -/

/-- The smaller of two sets of free counts, entry by entry (R435). -/
def FreeCounts.min (a b : FreeCounts) : FreeCounts :=
  ⟨a.tables.zipWith (fun x y => (Nat.min x.1 y.1, Nat.min x.2 y.2)) b.tables, Nat.min a.lpm b.lpm, Nat.min a.jnlMib b.jnlMib⟩

/-- The minimum of `own` and of what every UP bundle but `except` last reported. -/
def freeMin (own : FreeCounts) (except : Nat) (s : Dev) : FreeCounts :=
  (s.bundleList.filter (fun b => decide (b ≠ except) && decide ((s.bundle b).state = .up))).foldl
    (fun m b => match (s.bundle b).free with
      | some f => FreeCounts.min m f
      | none => m) own

end Sys2Proof.Machine
end

