-- ==== Sys2Proof/Machine/Cipher.lean ====
section
/-! DEFINITION. The line cipher: security associations, decryption on ingress, encryption on egress (R450 to R463). -/
namespace Sys2Proof.Machine

def Dev.sa (s : Dev) (n : Nat) : Option Sa := SMap.get none s.cry.sas n

def Dev.setSa (s : Dev) (n : Nat) (x : Option Sa) : Dev := { s with cry := { s.cry with sas := SMap.put none s.cry.sas n x } }

/-- Fields of an SA (Table 13-1), as LCP_SA_SET's words 0, 1 and 3 give them (Table 13-11). -/
def saOwner (x : Sa) : Nat := fld x.w0 31 20
def saMacsec (x : Sa) : Bool := bit x.w0 32
def saOutbound (x : Sa) : Bool := bit x.w0 33
def saEsn (x : Sa) : Bool := bit x.w0 35
def saUdp (x : Sa) : Bool := bit x.w0 36
def saDecap (x : Sa) : Bool := bit x.w0 37
def saSciEn (x : Sa) : Bool := bit x.w0 38
def saEntry (x : Sa) : Option Nat := if bit x.w0 39 then some (fld x.w0 43 40) else none
def saAn (x : Sa) : Nat := fld x.w0 45 44
def saSpi (x : Sa) : Nat := fld x.w1 31 0
def saWindow (x : Sa) : Nat := fld x.w1 44 32
def saIpOffset (x : Sa) : Nat := fld x.w1 55 48
def saOuterStart (x : Sa) : Nat := fld x.w1 63 56

/-- The last number an SA may use (R461). -/
def saLast (x : Sa) : Nat := if saMacsec x || saEsn x then 2 ^ 64 - 1 else 2 ^ 32 - 1

/-- The owner slice is in KEY_LOST (R467). -/
def Dev.saKeyLost (s : Dev) (x : Sa) : Bool := (s.slice (saOwner x)).keyLost

/-- LCP_CTRL.NATT_PORT. -/
def Dev.nattPort (s : Dev) : Nat := s.regField isl.LCP 0x008 15 0

/-- The two 64-byte lines of an SA's GDDR7 record (Table 14-1: behind the 256 MiB controller region, 128 bytes each). -/
def saLine (n : Nat) : Nat := (256 * 1048576 + 128 * n) / 64

/-- The record can be read: it is cached on chip, or its lines are not poisoned (R452). -/
def Dev.saReadable (s : Dev) (n : Nat) : Bool :=
  s.cry.cache.contains n || !(s.mem.poisoned.any (fun e => e == saLine n || e == saLine n + 1))

/-- The SA is looked up: it moves to the front of the cache of 32,768 (R452). -/
def saTouch (n : Nat) (s : Dev) : Dev := { s with cry := { s.cry with cache := (n :: s.cry.cache.erase n).take 32768 } }

/-- The nonce: for ESP the salt and the IV, for MACsec the salt exclusive-or SSCI and packet number (R450). -/
def nonce (x : Sa) (iv : List Byte) (n : Nat) : List Byte :=
  if saMacsec x then
    (leBytes x.salt.toNat 12).zipWith (fun a b => a ^^^ b) (beBytes (saSpi x) 4 ++ beBytes n 8)
  else leBytes x.salt.toNat 4 ++ iv

/-- `n` bytes of a cipher's answer. -/
def exactly (n : Nat) (bs : List Byte) : List Byte := (bs ++ List.replicate n 0).take n

/-- AES-GCM encryption: a ciphertext as long as the text, and a 16-byte ICV (R458). -/
def gcmSealed (key : List W64) (nonce aad text : List Byte) : List Byte × List Byte :=
  let (ct, icv) := Config.gcmSeal key nonce aad text
  (exactly text.length ct, exactly 16 icv)

/-- AES-GCM decryption: a text as long as the ciphertext, where the ICV verifies. -/
def gcmOpened (key : List W64) (nonce aad text icv : List Byte) : Option (List Byte) :=
  (Config.gcmOpen key nonce aad text icv).map (exactly text.length)

/-! ### Decryption -/

/-- Offset of the ESP header: behind the UDP header with UDP_ENCAP (R454). -/
def espOff (x : Sa) (p : Pkt) : Nat := p.tag.windowOffset.toNat + (if saUdp x then 8 else 0)

/-- SecTAG length: 16 bytes with its SC bit, 8 without. -/
def secTagLen (bs : List Byte) (w : Nat) : Nat := if (byteAt bs (w + 2)).getLsbD 5 then 16 else 8

/-- Offset of the first protected byte. -/
def protectedOff (x : Sa) (p : Pkt) : Nat :=
  if saMacsec x then p.tag.windowOffset.toNat + secTagLen p.bytes p.tag.windowOffset.toNat else espOff x p + 16

/-- Check 2 of Table 13-2: the header matches the SA, and at least 16 protected bytes stand before the ICV. -/
def headerMatches (s : Dev) (x : Sa) (p : Pkt) : Bool :=
  let w := p.tag.windowOffset.toNat
  let bs := p.bytes
  decide (protectedOff x p + 32 ≤ bs.length) &&
    (if saMacsec x then
      let t := byteAt bs (w + 2)
      be16 bs w == 0x88E5 && t.toNat % 4 == saAn x && t.getLsbD 3 && t.getLsbD 2 &&
        (!t.getLsbD 5 || !saSciEn x || beNat ((bs.drop (w + 8)).take 8) == x.sci.toNat)
    else
      (!saUdp x || be16 bs (w + 2) == s.nattPort) && beNat ((bs.drop (espOff x p)).take 4) == saSpi x)

/-- The number whose low 32 bits are `low` that lies nearest to the highest accepted one, or to the window's lower edge where nothing above it has been
accepted. -/
def recoverSeq (top low : Nat) : Nat :=
  let n := top / 2 ^ 32 * 2 ^ 32 + low
  if n + 2 ^ 31 < top then n + 2 ^ 32 else if top + 2 ^ 31 < n ∧ 2 ^ 32 ≤ n then n - 2 ^ 32 else n

/-- The packet's sequence or packet number. -/
def packetSeq (x : Sa) (p : Pkt) : Nat :=
  let off := if saMacsec x then p.tag.windowOffset.toNat + 4 else espOff x p + 4
  let low := beNat ((p.bytes.drop off).take 4)
  if saMacsec x || saEsn x then recoverSeq (Nat.max x.seq x.edge) low else low

/-- Check 3: the number is not below the window and was not accepted; REPLAY_WINDOW 0 disables it. -/
def replayOk (x : Sa) (n : Nat) : Bool :=
  saWindow x == 0 || (decide (Nat.max x.edge (x.seq + 1 - saWindow x) ≤ n) && !x.accepted.contains n)

/-- Check 4: the plaintext, where the ICV verifies. -/
def opened (x : Sa) (p : Pkt) (n : Nat) : Option (List Byte) :=
  let w := p.tag.windowOffset.toNat
  let o := protectedOff x p
  let e := p.bytes.length - 16
  let iv := (p.bytes.drop (espOff x p + 8)).take 8
  let aad := if saMacsec x then p.bytes.take o
    else beBytes (saSpi x) 4 ++ (if saEsn x then beBytes n 8 else beBytes n 4)
  gcmOpened x.key (nonce x (if saMacsec x then (p.bytes.drop w).take 8 else iv) n) aad ((p.bytes.take e).drop o) (p.bytes.drop e)

/-- Check 5: the pad length fits, and with DECAP the next header is 4 or 41. -/
def trailerOk (x : Sa) (t : List Byte) : Bool :=
  saMacsec x || (decide (2 + (byteAt t (t.length - 2)).toNat ≤ t.length) &&
    (!saDecap x || byteAt t (t.length - 1) == 4 || byteAt t (t.length - 1) == 41))

/-- The frame after decryption and the bytes removed from its front (R455). -/
def decrypted (x : Sa) (p : Pkt) (t : List Byte) : List Byte × Nat :=
  let w := p.tag.windowOffset.toNat
  if saMacsec x then (p.bytes.take w ++ t, 0)
  else
    let body := t.take (t.length - 2 - (byteAt t (t.length - 2)).toNat)
    if saDecap x then
      let o := Nat.min (saOuterStart x) w
      let ty := if byteAt t (t.length - 1) = 4 then [0x08#8, 0x00#8] else [0x86#8, 0xDD#8]
      ((p.bytes.take o).take (o - 2) ++ ty ++ body, w - o)
    else (p.bytes.take w ++ body, 0)

/-- LCP sends a packet back to its pipeline for another pass, unless its PASS is 3 (R42, R276, R457). -/
def lcpReturn (p : Pkt) (s : Dev) : Dev :=
  if p.tag.pass = 3 then count .prsPassOverrun p.pipe (dropPkt isl.LCP p s)
  else post isl.LCP (pipeIsland p.pipe) p s

/-- The packet fails a check: it returns as it came, with DECRYPT_FAIL and the entry index (R456). -/
def lcpFail (c : Ctr) (x : Option Sa) (p : Pkt) (s : Dev) : Dev :=
  let ps := match x.bind saEntry with
    | some e => { p.ps with entryIdx := some e }
    | none => p.ps
  count c 0 (lcpReturn { p with tag := p.tag.setFlag 9, ps := ps } s)

/-- SOFT_LIMIT is reached for the first time (R463). -/
def softCheck (n : Nat) (x : Sa) (num : Nat) (s : Dev) : Sa × Dev :=
  if x.softLimit ≠ 0 ∧ x.softReached = false ∧ x.softLimit.toNat ≤ num then
    ({ x with softReached := true }, logFault isl.LCP 0xFF 0x0D02 0 (BitVec.ofNat 64 n) 0 s)
  else (x, s)

/-- The inbound SA after a packet has passed every check: the window moves, and every 2^20 packets a checkpoint of the highest
number is journalled (R453, R455). -/
def acceptSeq (n : Nat) (x : Sa) (num : Nat) (s : Dev) : Dev :=
  let top := Nat.max x.seq num
  let low := Nat.max x.edge (top + 1 - saWindow x)
  let acc := if saWindow x = 0 then [] else (num :: x.accepted).filter (fun k => decide (low ≤ k))
  let x1 := { x with seq := top, accepted := acc, sinceMark := (x.sinceMark + 1) % 2 ^ 20 }
  let (x2, s1) := softCheck n x1 top s
  let s2 := s1.setSa n (some x2)
  if x2.sinceMark = 0 then jPut 8 n 16 (.seqBlock true top) .nothing s2 else s2

/-- The packet passes: decrypted frame, ENCRYPTED_IN, LENGTH, entry index, and back to its pipeline (R455). -/
def lcpPass (n : Nat) (x : Sa) (p : Pkt) (t : List Byte) (num : Nat) (s : Dev) : Dev :=
  let (bs, cut) := decrypted x p t
  let ps := { p.ps with frontDelta := p.ps.frontDelta - cut, entryIdx := (saEntry x).orElse (fun _ => p.ps.entryIdx) }
  let p1 := Pkt.fixLength { p with bytes := bs, tag := p.tag.setFlag 8, ps := ps }
  let s1 := acceptSeq n x num (count .lcpDecPkts p.pipe s)
  let s2 := if metered p.tag then meterAdd p.tag.slice.toNat 16 p.tag.length.toNat p.tag.entryTime s1 else s1
  lcpReturn p1 s2

/-- The checks of Table 13-2 in order, on a packet directed to SA `n`. -/
def decryptUnder (n : Nat) (p : Pkt) (s : Dev) : Dev :=
  match s.sa n with
  | none => lcpFail .lcpDecFailSa none p s
  | some x =>
    if !s.saReadable n then count .lcpSaMiss 0 (dropPkt isl.LCP p s)
    else
      let s1 := saTouch n s
      if !s.cry.lcpReady || saOutbound x || (saOwner x != 0 && saOwner x != p.tag.slice.toNat) || s.saKeyLost x then
        lcpFail .lcpDecFailSa (some x) p s1
      else if !headerMatches s1 x p then lcpFail .lcpDecFailHdr (some x) p s1
      else
        let num := packetSeq x p
        if !replayOk x num then lcpFail .lcpReplay (some x) p s1
        else match opened x p num with
          | none => lcpFail .lcpDecFailIcv (some x) p s1
          | some t => if trailerOk x t then lcpPass n x p t num s1 else lcpFail .lcpDecFailTrailer (some x) p s1

/-- LCP_DECRYPT: the first packet that LCP holds for decryption. NATT_PORT applies at a packet that LCP starts. -/
def lcpDecrypt (s : Dev) : Dev :=
  match s.cry.decIn with
  | [] => s
  | p :: rest =>
    let s1 := applyBoundary .lcpPacket isl.LCP { s with cry := { s.cry with decIn := rest } }
    match p.dest with
    | .decrypt n => decryptUnder n p s1
    | _ => s1

/-- LCP decrypts a packet (R454 to R457). -/
def execLcpDecrypt (s : State) : Host.Outcome State Fault Refusal := ran Wf.lcpDecrypt lcpDecrypt s

/-! ### Encryption -/

/-- The sum of 16-bit words for an IPv4 header checksum. -/
def sum16 : List Byte → Nat
  | a :: b :: t => a.toNat * 256 + b.toNat + sum16 t
  | [a] => a.toNat * 256
  | [] => 0

/-- The IPv4 header checksum of a header whose checksum field is 0. -/
def ipChecksum (h : List Byte) : Nat :=
  let n := sum16 h
  let n1 := n % 65536 + n / 65536
  65535 - (n1 % 65536 + n1 / 65536)

/-- Next header values that announce an IPv6 extension header. -/
def isExtension (nh : Nat) : Bool := [0, 43, 44, 51, 60, 135, 139, 140].contains nh

/-- The IP header at IP_OFFSET: its length and protocol, when it is IPv4 without options or IPv6 without extension headers. -/
def ipHeader (bs : List Byte) (o : Nat) : Option (Nat × Nat) :=
  let v := (byteAt bs o).toNat
  if v = 0x45 ∧ o + 20 ≤ bs.length then some (20, (byteAt bs (o + 9)).toNat)
  else if v / 16 = 6 ∧ o + 40 ≤ bs.length ∧ !isExtension (byteAt bs (o + 6)).toNat then some (40, (byteAt bs (o + 6)).toNat)
  else none

/-- The IP header rewritten for a frame of `len` bytes behind IP_OFFSET and a new protocol (R458). -/
def rewriteIp (h : List Byte) (len proto : Nat) : List Byte :=
  if h.length = 20 then
    let h0 := h.take 2 ++ beBytes len 2 ++ (h.drop 4).take 5 ++ [BitVec.ofNat 8 proto, 0, 0] ++ h.drop 12
    h0.take 10 ++ beBytes (ipChecksum h0) 2 ++ h0.drop 12
  else h.take 4 ++ beBytes (len - 40) 2 ++ [BitVec.ofNat 8 proto] ++ h.drop 7

/-- The trailer before the ICV: padding 1, 2, 3 … to a 4-byte boundary, the pad length, the next header. -/
def espTrailer (n proto : Nat) : List Byte :=
  let pad := (4 - (n + 2) % 4) % 4
  (List.range pad).map (fun i => BitVec.ofNat 8 (i + 1)) ++ [BitVec.ofNat 8 pad, BitVec.ofNat 8 proto]

/-- The frame under ESP with number `num` (R458); none when its IP header does not fit R460. -/
def espFrame (s : Dev) (n : Nat) (x : Sa) (num : Nat) (bs : List Byte) : Option (List Byte) :=
  let o := saIpOffset x
  (ipHeader bs o).map (fun (hl, proto) =>
    let body := bs.drop (o + hl)
    let plain := body ++ espTrailer body.length proto
    let iv := beBytes (Config.espIv n num).toNat 8
    let spi := beBytes (saSpi x) 4
    let (ct, icv) := gcmSealed x.key (nonce x iv num) (spi ++ (if saEsn x then beBytes num 8 else beBytes num 4)) plain
    let esp := spi ++ beBytes num 4 ++ iv ++ ct ++ icv
    let inner := if saUdp x then
        beBytes (fld x.sci 15 0) 2 ++ beBytes s.nattPort 2 ++ beBytes (8 + esp.length) 2 ++ [0, 0] ++ esp
      else esp
    bs.take o ++ rewriteIp ((bs.drop o).take hl) (hl + inner.length) (if saUdp x then 17 else 50) ++ inner)

/-- The frame under MACsec with packet number `num` (R458). -/
def macsecFrame (x : Sa) (num : Nat) (bs : List Byte) : List Byte :=
  let body := bs.drop 12
  let sl := if body.length < 48 then body.length else 0
  let tci := (if saSciEn x then 0x2C else 0x0C) + saAn x
  let tag := [0x88#8, 0xE5#8, BitVec.ofNat 8 tci, BitVec.ofNat 8 sl] ++ beBytes num 4 ++
    (if saSciEn x then beBytes x.sci.toNat 8 else [])
  let (ct, icv) := gcmSealed x.key (nonce x [] num) (bs.take 12 ++ tag) body
  bs.take 12 ++ tag ++ ct ++ icv

/-- The encrypted frame. -/
def sealedFrame (s : Dev) (n : Nat) (x : Sa) (num : Nat) (bs : List Byte) : Option (List Byte) :=
  if saMacsec x then some (macsecFrame x num bs) else espFrame s n x num bs

/-- Length of the encrypted frame (R460), as the header, trailer and ICV bytes of R458 make it. -/
def sealedLen (x : Sa) (bs : List Byte) : Nat :=
  if saMacsec x then bs.length + (if saSciEn x then 16 else 8) + 16
  else
    let body := bs.length - (saIpOffset x + (if (byteAt bs (saIpOffset x)).toNat / 16 = 4 then 20 else 40))
    bs.length + (if saUdp x then 8 else 0) + 16 + (espTrailer body 0).length + 16

/-- The island of an Ethernet port (Table 1-1). -/
def ethIsland (port : Nat) : Nat := if port < 32 then isl.NETW else isl.NETE

/-- The Ethernet port of a packet that a queue sends. -/
def Dest.ethPort : Dest → Nat
  | .port p => p
  | _ => 0

/-- The outbound SA has used a number (R461, R463). -/
def usedSeq (n : Nat) (x : Sa) (s : Dev) : Dev :=
  let x1 := { x with seq := x.seq + 1, exhausted := decide (saLast x ≤ x.seq) }
  let (x2, s1) := softCheck n x1 x.seq s
  let s2 := s1.setSa n (some x2)
  if x2.exhausted then logFault isl.LCP 0xFF 0x0D01 0 (BitVec.ofNat 64 n) 0 s2 else s2

/-- The packet goes out under the SA's next number. -/
def encryptUnder (n : Nat) (x : Sa) (p : Pkt) (s : Dev) : Dev :=
  match sealedFrame s n x x.seq p.bytes with
  | none => count .lcpTxBadHdr 0 (traceStep isl.LCP 9 (Dest.ethPort p.dest) p s)
  | some bs =>
    let port := Dest.ethPort p.dest
    let s1 := usedSeq n x (count .lcpEncPkts (8 + port / 8) s)
    let s2 := if metered p.tag then meterAdd p.tag.slice.toNat 17 p.tag.length.toNat p.tag.entryTime s1 else s1
    post isl.LCP (ethIsland port) (Pkt.fixLength { p with bytes := bs }) s2

/-- The next block of 2^20 numbers is reserved; its first number is used once its record is durable (R453). -/
def reserveBlock (n : Nat) (x : Sa) (s : Dev) : Dev :=
  let upTo := x.reserved + 2 ^ 20
  match jTake 8 n 16 (.seqBlock false upTo) (.seqBlock n false upTo) s with
  | some s1 => s1.setSa n (some { x with reserving := true })
  | none => jnlRefused (recLines 16) s

/-- LCP_ENCRYPT: the first packet that LCP holds for encryption, dropped on a ground of R460, encrypted, or waiting for a block. While
the line cipher is held off every SA is as an invalid one (R469). -/
def lcpEncrypt (s0 : Dev) : Dev :=
  match s0.cry.encIn with
  | [] => s0
  | p :: rest =>
    let s := applyBoundary .lcpPacket isl.LCP s0
    let gone := { s with cry := { s.cry with encIn := rest } }
    let lost := traceStep isl.LCP 9 (Dest.ethPort p.dest) p gone
    match (SMap.get none s.cry.bindings p.fromQueue).bind (fun n => (s.sa n).map (fun x => (n, x))) with
    | none => count .lcpSaMiss 0 lost
    | some (n, x) =>
      if !s.cry.lcpReady || x.exhausted || !saOutbound x || decide (saLast x < x.seq) || !s.saReadable n then count .lcpSaMiss 0 lost
      else if s.saKeyLost x then count .lcpKeyLostDrop 0 lost
      else if 16384 < sealedLen x p.bytes then count .lcpTxTooLong 0 lost
      else if !saMacsec x && (ipHeader p.bytes (saIpOffset x)).isNone then count .lcpTxBadHdr 0 lost
      else if x.seq < x.reserved then encryptUnder n x p (saTouch n gone)
      else if x.reserving then s
      else reserveBlock n x s

/-- LCP encrypts a packet from a bound queue (R458 to R460). -/
def execLcpEncrypt (s : State) : Host.Outcome State Fault Refusal := ran Wf.lcpEncrypt lcpEncrypt s

end Sys2Proof.Machine
end

