-- ==== Sys2Proof/Machine/Mac.lean ====
section
/-! DEFINITION. Ethernet ports: states, receiving, pauses, transmitting, timestamps (R247 to R266). -/
namespace Sys2Proof.Machine

def Dev.eport (s : Dev) (p : Nat) : EthPort := SMap.get EthPort.none s.eth.ports p

def Dev.setEport (s : Dev) (p : Nat) (x : EthPort) : Dev := { s with eth := { s.eth with ports := SMap.put EthPort.none s.eth.ports p x } }

/-- Mode of an octet (Table 7-1). -/
def Dev.octetMode (s : Dev) (o : Nat) : Nat := SMap.get 0 s.eth.modes o

/-- Ports of a mode, lanes of each port, and its rate in Gb/s (Table 7-1). -/
def modePorts (m : Nat) : Nat := ([0, 1, 2, 4, 8, 8, 8, 8, 8] : List Nat).getD m 0
def modeLanes (m : Nat) : Nat := ([0, 8, 4, 2, 1, 1, 1, 1, 1] : List Nat).getD m 0
def modeRate (m : Nat) : Nat := ([0, 1600, 800, 400, 200, 100, 50, 25, 10] : List Nat).getD m 0

/-- FEC codes that a mode permits, and its default (Table 7-2). -/
def fecOk (m f : Nat) : Bool := if m = 7 then decide (f < 3) else if m = 8 then decide (f < 2) else f == 3
def fecDefault (m : Nat) : Nat := if m = 7 then 2 else if m = 8 then 0 else 3

/-- The port numbers of an octet under a mode (R247). -/
def octetPorts (o m : Nat) : List Nat := (List.range (modePorts m)).map (fun j => 8 * o + j * (8 / modePorts m))

/-- Lanes of a port, its rate, its receive buffer in cells of 256 bytes (R257). -/
def Dev.portLanes (s : Dev) (p : Nat) : Nat := modeLanes (s.octetMode (p / 8))
def Dev.portRate (s : Dev) (p : Nat) : Nat := modeRate (s.octetMode (p / 8))
def Dev.rxCells (s : Dev) (p : Nat) : Nat := 512 * s.portLanes p

/-- The Ethernet port number is the first lane of a configured port (R37). -/
def Dev.portExists (s : Dev) (p : Nat) : Bool := decide (p < 64) && decide ((s.eport p).state ≠ .none)

/-- The global port number is a port that packets may be directed to: an existing Ethernet port, a bundle, a host port, or the Lamplighter (R37). -/
def Dev.egressOk (s : Dev) (e : Nat) : Bool := if e < 64 then s.portExists e else decide (e ≤ 75)

/-- What QUEUE holds for an egress port: a queue pair for a host port, else a traffic manager queue with bits [17:16] 0 (R30). -/
def queueFor (e q : Nat) : BitVec 18 := BitVec.ofNat 18 (if 72 ≤ e ∧ e ≤ 74 then q else q % 65536)

/-- A packet with QUEUE for its egress port; 75 stands for any that is no host port. -/
def withQueue (e q : Nat) (p : Pkt) : Pkt := { p with tag := { p.tag with queue := queueFor e q } }

/-- Fields of PORT_CONFIG (Table 7-9). -/
def cfgAdmin (x : EthPort) : Bool := bit x.w0 8
def cfgMedium (x : EthPort) : Nat := fld x.w0 10 9
def cfgFec (x : EthPort) : Nat := fld x.w0 12 11
def cfgAn (x : EthPort) : Bool := bit x.w0 13
def cfgFlow (x : EthPort) : Nat := fld x.w0 15 14
def cfgPtp (x : EthPort) : Nat := fld x.w0 17 16
def cfgPfcMask (x : EthPort) : Byte := BitVec.ofNat 8 (fld x.w0 31 24)
def cfgMaxFrame (x : EthPort) : Nat := fld x.w1 14 0
def cfgXoff (x : EthPort) : Nat := fld x.w1 47 32

/-- A new port with the defaults of R269. -/
def newPort (p m : Nat) : EthPort :=
  { EthPort.none with state := .adminDown, w0 := mk64 [p, at' (fecDefault m) 11, at' 1 13], w1 := mk64 [9216, at' (128 * modeLanes m - 64) 32] }

/-- Code of a port state (Table 7-3). -/
def PortState.code : PortState → Nat
  | .none => 0
  | .adminDown => 1
  | .negotiating => 2
  | .training => 3
  | .locking => 4
  | .up => 5

/-- The state in which bring-up begins (Table 7-3). -/
def firstState (x : EthPort) : PortState := if cfgMedium x = 2 then .locking else if cfgAn x then .negotiating else .training

/-- Bits of an octet's polarity word that belong to a port. -/
def polMask (s : Dev) (p : Nat) : BitVec 16 :=
  let m := (2 ^ s.portLanes p - 1) * 2 ^ (p % 8)
  BitVec.ofNat 16 (m + m * 256)

/-- Bring-up begins: the lanes take their configured polarity (R269). -/
def bringUp (p : Nat) (s : Dev) : Dev :=
  let o := p / 8
  let m := polMask s p
  let inf := (SMap.get 0 s.eth.inForce o &&& ~~~m) ||| (SMap.get 0 s.eth.polarity o &&& m)
  let s1 := { s with eth := { s.eth with inForce := SMap.put 0 s.eth.inForce o inf } }
  s1.setEport p { s1.eport p with state := firstState (s1.eport p), pausedByPeer := 0, pauseEnd := [], pausingPeer := 0 }

/-- Every learned entry that satisfies `f` is removed from a pipeline. -/
def forgetIn (k : Nat) (f : Learned → Bool) (s : Dev) : Dev :=
  let x := s.pipe k
  s.setPipe k { x with learned := x.learned.filter (fun e => match e.2 with
    | some l => !f l
    | none => false) }

/-- A port leaves UP for a state: fault 0x0601, and its learned entries go (R254, R327). -/
def portDown (p : Nat) (st : PortState) (lane : Nat) (s : Dev) : Dev :=
  let s1 := logFault (ethIsland p) 0xFF 0x0601 0 (mk64 [p, at' (PortState.code st) 8, at' lane 16]) 0 s
  pipeNumbers.foldl (fun s k => forgetIn k (fun l => l.port == p && l.node == s.str.node) s) s1

/-- A port enters a state that is not UP. -/
def enterPort (p : Nat) (st : PortState) (lane : Nat) (s : Dev) : Dev :=
  let s1 := s.setEport p { s.eport p with state := st, pausedByPeer := 0, pauseEnd := [], pausingPeer := 0 }
  if (s.eport p).state = .up then portDown p st lane s1 else s1

/-- Bring-up as from ADMIN_DOWN. -/
def restartPort (p lane : Nat) (s : Dev) : Dev := bringUp p (enterPort p (firstState (s.eport p)) lane s)

/-- Autonegotiation resolves the port's technology, or none (Table 7-3). -/
def autonegotiationEnd (port : Nat) (ok : Bool) (s : Dev) : Dev :=
 if (s.eport port).state = .negotiating then
      if ok then s.setEport port { s.eport port with state := .training } else count .macAnFail port s
    else s

/-- The command. -/
def execAutonegotiationEnd (port : Nat) (ok : Bool) (s : State) : Host.Outcome State Fault Refusal := ran (Wf.autonegotiationEnd port ok) (autonegotiationEnd port ok) s

/-- Training completes on every lane, or fails (Table 7-3). -/
def trainingEnd (port : Nat) (ok : Bool) (s : Dev) : Dev :=
  let x := s.eport port
  if x.state = .training then
      if ok then s.setEport port { x with state := .locking }
      else count .macTrainFail port (s.setEport port { x with state := if cfgAn x then .negotiating else .training })
    else s

/-- The command. -/
def execTrainingEnd (port : Nat) (ok : Bool) (s : State) : Host.Outcome State Fault Refusal := ran (Wf.trainingEnd port ok) (trainingEnd port ok) s

/-! ### Pauses -/

/-- Cells that a frame takes in the receive buffer, FCS included. -/
def rxCellsOf (bs : List Byte) : Nat := (bs.length + 4 + 255) / 256

/-- Cells of a port's receive buffer in use. -/
def rxFill (x : EthPort) : Nat := (x.rx.map (fun f => rxCellsOf f.2)).sum

/-- A frame's priority: the PCP of its outer VLAN tag (R261). -/
def framePrio (bs : List Byte) : Nat := if isVlan bs 12 then (byteAt bs 14).toNat / 32 else 0

/-- Bytes in the buffer that count for priority `p`, or for the port. -/
def rxUse (x : EthPort) (pfc : Bool) (p : Nat) : Nat :=
  if pfc then ((x.rx.filter (fun f => framePrio f.2 == p)).map (fun f => f.2.length + 4)).sum else 256 * rxFill x

/-- The priorities that the MAC may pause: the enabled ones under PFC, all under PAUSE. -/
def pausable (x : EthPort) : List Nat :=
  if cfgFlow x = 1 then [0, 1, 2, 3, 4, 5, 6, 7] else if cfgFlow x = 2 then (List.range 8).filter (fun p => (cfgPfcMask x).getLsbD p) else []

/-- A mask of priorities. -/
def prioMask (ps : List Nat) : Byte := BitVec.ofNat 8 ((ps.map (fun p => 2 ^ p)).sum)

/-- The MAC sends PAUSE or PFC (R261). -/
def sendPause (p : Nat) (prios : Byte) (quanta : Nat) (s : Dev) : Dev :=
  count .macTxPause p (emit (.pauseFrame p prios (cfgFlow (s.eport p) == 2) quanta) s)

/-- The pauses that the use of the receive buffer of an UP port calls for: XOFF at XOFF_KIB, XON at half of it (R261). -/
def pauseCheck (p : Nat) (s : Dev) : Dev :=
  let x := s.eport p
  if x.state ≠ .up then s else
  let pfc := cfgFlow x == 2
  let off := (pausable x).filter (fun k => !x.pausingPeer.getLsbD k && decide (cfgXoff x * 1024 ≤ rxUse x pfc k))
  let on := (pausable x).filter (fun k => x.pausingPeer.getLsbD k && decide (rxUse x pfc k ≤ cfgXoff x * 512))
  let s1 := s.setEport p { x with pausingPeer := (x.pausingPeer ||| prioMask off) &&& ~~~(prioMask on) }
  whenB (!on.isEmpty) (sendPause p (prioMask on) 0) (whenB (!off.isEmpty) (sendPause p (prioMask off) 0xFFFF) s1)

/-! ### Link and partner's pauses -/

/-- Lock holds: the port is UP (Table 7-3). The frames that its receive buffer holds still may call for a pause (R261). -/
def lockAchieved (port : Nat) (s : Dev) : Dev :=
  if (s.eport port).state = .locking then pauseCheck port (s.setEport port { s.eport port with state := .up }) else s

/-- The command. -/
def execLockAchieved (port : Nat) (s : State) : Host.Outcome State Fault Refusal := ran (Wf.lockAchieved port) (lockAchieved port) s

/-- Lock is not reached: back to TRAINING, from which CR and KR came; a C2M port begins its bring-up again (Table 7-3). -/
def lockTimeout (port : Nat) (s : Dev) : Dev :=
  let x := s.eport port
  if x.state = .locking then s.setEport port { x with state := if cfgMedium x = 2 then .locking else .training } else s

/-- The command. -/
def execLockTimeout (port : Nat) (s : State) : Host.Outcome State Fault Refusal := ran (Wf.lockTimeout port) (lockTimeout port) s

/-- The link of an UP port is lost (R251, R254, R255). -/
def linkLost (port lane : Nat) (s : Dev) : Dev := if (s.eport port).state = .up then count .macLinkDown port (restartPort port lane s) else s

/-- The command. -/
def execLinkLost (port lane : Nat) (s : State) : Host.Outcome State Fault Refusal := ran (Wf.linkLost port lane) (linkLost port lane) s

/-- A received pause: each paused priority ends its quanta of 512 bit times later; quanta 0 ends it at once (R260). -/
def pauseReceived (p : Nat) (pfc : Bool) (mask : Byte) (quanta : List Nat) (s : Dev) : Dev :=
  let x := s.eport p
  if x.state = .up ∧ cfgFlow x = (if pfc then 2 else 1) then
    let prios := (List.range 8).filter (fun k => if pfc then mask.getLsbD k && (cfgPfcMask x).getLsbD k else true)
    let q := fun k => quanta.getD (if pfc then k else 0) 0
    let stop := prios.filter (fun k => decide (q k ≠ 0))
    let go := prios.filter (fun k => decide (q k = 0))
    let ends := prios.foldl (fun m k => SMap.put 0 m k (if q k = 0 then 0 else s.now.plus (q k * 512 / s.portRate p))) x.pauseEnd
    count .macRxPause p
      (s.setEport p { x with pausedByPeer := (x.pausedByPeer ||| prioMask stop) &&& ~~~(prioMask go), pauseEnd := ends })
  else s

/-- An enabled PAUSE or PFC frame arrives (R260). -/
def execPauseFrameReceived (port : Nat) (pfc : Bool) (mask : Byte) (quanta : List Nat) (s : State) : Host.Outcome State Fault Refusal := ran (Wf.pauseFrameReceived port pfc mask quanta) (pauseReceived port pfc mask quanta) s

/-- A received pause runs out (R260). -/
def pauseExpiry (p k : Nat) (s : Dev) : Dev :=
  let x := s.eport p
  if x.pausedByPeer.getLsbD k then
    let e := SMap.get 0 x.pauseEnd k
    let ended := (List.range 8).filter (fun j => x.pausedByPeer.getLsbD j && SMap.get 0 x.pauseEnd j == e)
    reach e (s.setEport p { x with pausedByPeer := x.pausedByPeer &&& ~~~(prioMask ended),
                                   pauseEnd := ended.foldl (fun m j => SMap.put 0 m j 0) x.pauseEnd })
  else s

/-- A pause of the partner ends (R260). -/
def execPauseExpiry (port prio : Nat) (s : State) : Host.Outcome State Fault Refusal := ran (Wf.pauseExpiry port prio) (pauseExpiry port prio) s

/-- The MAC repeats its pauses (R261). -/
def pauseRefresh (port : Nat) (s : Dev) : Dev := whenB (decide ((s.eport port).pausingPeer ≠ 0)) (sendPause port (s.eport port).pausingPeer 0xFFFF) s

/-- The command. -/
def execPauseRefresh (port : Nat) (s : State) : Host.Outcome State Fault Refusal := ran (Wf.pauseRefresh port) (pauseRefresh port) s

/-! ### Receiving -/

/-- What the PHY reports of a frame: a code or FEC error within it, a bad preamble or SFD, a wrong FCS; and codewords that lanes
corrected (false) or could not (true) since the last report. -/
def fecCount (l : List (Nat × Bool)) (s : Dev) : Dev :=
  l.foldl (fun s e => count (if e.2 then .macFecUncorrected else .macFecCorrected) e.1 s) s

/-- A MAC Control frame: PAUSE or PFC, if FLOW_CONTROL enables it. -/
def controlKind (x : EthPort) (bs : List Byte) : Option Bool :=
  if be16 bs 14 = 1 ∧ cfgFlow x = 1 then some false else if be16 bs 14 = 0x0101 ∧ cfgFlow x = 2 then some true else none

/-- The counter of the first condition of Table 7-4 that a frame meets. -/
def rxDrop (s : Dev) (p : Nat) (bs : List Byte) (code preamble fcs : Bool) : Option Ctr :=
  let x := s.eport p
  let n := bs.length + 4
  if code || preamble then some .macRxCode
  else if n < 64 then some .macRxRunt
  else if cfgMaxFrame x < n then some .macRxOversize
  else if fcs then some .macRxFcs
  else if be16 bs 12 = 0x8808 then (if (controlKind x bs).isSome then none else some .macRxOdd)
  else if s.rxCells p < rxFill x + rxCellsOf bs then some .macRxOverflow
  else none

/-- A frame's last byte has arrived (R257, R258). -/
def frameReceived (p : Nat) (bs : List Byte) (sfd : Time) (code preamble fcs : Bool) (s0 : Dev) : Dev :=
  let s := reach sfd s0
  let x := s.eport p
  if x.state ≠ .up then s0
  else match rxDrop s p bs code preamble fcs with
    | some .macRxOverflow => count .macRxOverflow p s
    | some c => count .macRxBad p (count c p s)
    | none =>
      if be16 bs 12 = 0x8808 then
        match controlKind x bs with
        | some true => pauseReceived p true (byteAt bs 17) ((List.range 8).map (fun k => be16 bs (18 + 2 * k))) s
        | _ => pauseReceived p false 0 [be16 bs 16] s
      else pauseCheck p (s.setEport p { x with rx := x.rx ++ [(sfd, bs)] })

/-- A frame arrives and is checked (R258). -/
def ethFrameReceived (port : Nat) (bs : List Byte) (sfd : Time) (code preamble fcs : Bool) (fec : List (Nat × Bool)) (s : Dev) : Dev := frameReceived port bs sfd code preamble fcs (fecCount fec s)

/-- The command. -/
def execEthFrameReceived (port : Nat) (bs : List Byte) (sfd : Time) (code preamble fcs : Bool) (fec : List (Nat × Bool)) (s : State) : Host.Outcome State Fault Refusal := ran (Wf.ethFrameReceived port bs sfd code preamble fcs fec) (ethFrameReceived port bs sfd code preamble fcs fec) s

/-- The key of a port binding (R303). -/
def bindKey (node port slice : Nat) (tagged : Bool) (vid : Nat) : List Byte :=
  beBytes (vid + b2n tagged * 2 ^ 12 + slice * 2 ^ 13 + port * 2 ^ 25 + node * 2 ^ 33) 7

/-- The ingress port's default slice, as a tagging island reads it (Table 1-6, R250): PKT_SLICE of the binding of R303 in the active
version, 0 where there is none. -/
def defaultSlice (s : Dev) (p : Nat) (bs : List Byte) : Nat :=
  let k := s.activeSlot.getD 0
  let tagged := isVlan bs 12
  let find := fun vid => findEntry s k 14 (bindKey s.str.node p 0 tagged vid)
  let e := match find (if tagged then be16 bs 14 % 4096 else 0) with
    | some e => some e
    | none => if tagged then find 0xFFF else none
  (e.map (fun e => fld e.act.a 27 16)).getD 0

/-- The distributor takes a packet of this bucket: it need not be held with the hold space full, and the crossing that it goes to has no
block waiting (R51, R259). -/
def distAccepts (s : Dev) (d : Nat) (hash : BitVec 32) (cells : Nat) : Bool :=
  let x := s.bucket d (hash.toNat % 4096)
  !bucketFull s d hash cells && (s.xchan (distIsland d) (pipeIsland x.pipeline)).queue.isEmpty

/-- The frame at the head of a port's receive buffer is tagged and passed to its distributor (R259). -/
def frameToDistributor (p : Nat) (s : Dev) : Dev :=
  let x := s.eport p
  match x.rx with
  | [] => s
  | (sfd, bs) :: rest =>
    let d := if p < 32 then 0 else 1
    let sl := BitVec.ofNat 12 (defaultSlice s p bs)
    if distAccepts s d (flowHash sl bs) ((bs.length + 32 + 255) / 256) then
      let s1 := countBy .macRxBytes p (bs.length + 4) (count .macRxFrames p (s.setEport p { x with rx := rest, rxRefused := false }))
      pauseCheck p (tagAndQueue d sl p sfd bs id s1)
    else if x.rxRefused || !bucketFull s d (flowHash sl bs) ((bs.length + 32 + 255) / 256) then s
    else count .distHoldFull d (s.setEport p { x with rxRefused := true })

/-- The distributor accepts a frame (R259). -/
def execEthFrameToDistributor (port : Nat) (s : State) : Host.Outcome State Fault Refusal := ran (Wf.ethFrameToDistributor port) (frameToDistributor port) s

/-! ### Transmitting -/

/-- One byte of the CRC-32 of IEEE 802.3, reflected. -/
def crc32Byte (c : BitVec 32) (x : Byte) : BitVec 32 :=
  [0, 1, 2, 3, 4, 5, 6, 7].foldl (fun c _ => if c.getLsbD 0 then (c >>> 1) ^^^ 0xEDB88320#32 else c >>> 1) (c ^^^ x.zeroExtend 32)

/-- The FCS of a frame: the CRC-32 of IEEE 802.3 (PRESUMED, log 40). -/
def fcsOf (bs : List Byte) : BitVec 32 := ~~~(bs.foldl crc32Byte (BitVec.allOnes 32))

/-- Offset of the PTP message of an event frame, and the offset of its UDP header and whether that is over IPv4 (R265). -/
def ptpOff (bs : List Byte) : Option (Nat × Option (Nat × Bool)) :=
  let e := etherTypeOff bs
  let ip := e + 2
  let event := fun o => decide ((byteAt bs o).toNat % 16 ≤ 3)
  let udp (off : Nat) (v4 : Bool) : Option (Nat × Option (Nat × Bool)) :=
    if be16 bs (off + 2) = 319 ∧ event (off + 8) then some (off + 8, some (off, v4)) else none
  if be16 bs e = 0x88F7 then (if event ip then some (ip, none) else none)
  else if be16 bs e = 0x0800 ∧ byteAt bs (ip + 9) = 17 then udp (ip + 4 * ((byteAt bs ip).toNat % 16)) true
  else if be16 bs e = 0x86DD ∧ byteAt bs (ip + 6) = 17 then udp (ip + 40) false
  else none

/-- `bs` with bytes from `o` replaced. -/
def patchBytes (bs : List Byte) (o : Nat) (new : List Byte) : List Byte := bs.take o ++ new ++ bs.drop (o + new.length)

/-- A one's complement sum folded to 16 bits. -/
def fold16 (n : Nat) : Nat := let m := n % 65536 + n / 65536; m % 65536 + m / 65536

/-- One-step correction: the residence time times 65,536 is added to correctionField; the UDP checksum follows (Table 7-5). -/
def corrected (bs : List Byte) (o : Nat) (udp : Option (Nat × Bool)) (residence : Nat) : List Byte :=
  let old := (bs.drop (o + 8)).take 8
  let new := beBytes ((beNat old + residence * 65536) % 2 ^ 64) 8
  let b1 := patchBytes bs (o + 8) new
  match udp with
  | none => b1
  | some (u, true) => patchBytes b1 (u + 6) [0, 0]
  | some (u, false) =>
    let sum := fold16 ((65535 - be16 bs (u + 6)) + (4 * 65535 - sum16 old) + sum16 new)
    patchBytes b1 (u + 6) (beBytes (if 65535 - fold16 sum = 0 then 65535 else 65535 - fold16 sum) 2)

/-- A two-step record: transmit timestamp, messageType, domainNumber, sequenceId (R270). -/
def tsEntry (t : Time) (bs : List Byte) (o : Nat) : W64 × W64 :=
  (mk64 [t.toNat, at' ((byteAt bs o).toNat % 16) 48, at' (byteAt bs (o + 4)).toNat 56], mk64 [be16 bs (o + 30)])

/-- What PTP_MODE makes of a frame on transmit (R265). -/
def ptpAct (p : Nat) (k : Pkt) (s : Dev) : List Byte × Dev :=
  let x := s.eport p
  match ptpOff k.bytes with
  | none => (k.bytes, s)
  | some (o, udp) =>
    if cfgPtp x = 0 then (k.bytes, s)
    else if cfgPtp x = 2 ∧ k.tag.ingress.toNat < 64 then (corrected k.bytes o udp (Time.since s.now k.tag.entryTime), s)
    else if 64 ≤ x.tsFifo.length then (k.bytes, count .macPtpTsLost p s)
    else (k.bytes, s.setEport p { x with tsFifo := x.tsFifo ++ [tsEntry s.now k.bytes o] })

/-- A frame padded to 60 bytes (R262). -/
def padded (bs : List Byte) : List Byte := bs ++ List.replicate (60 - bs.length) 0

/-- FRAME_TRANSMIT: the first packet handed to the port. `begun` says whether its transmission had begun when a poisoned block of it
came (R255, R262, R263). -/
def frameTransmit (p : Nat) (begun : Bool) (s : Dev) : Dev :=
  let x := s.eport p
  match x.tx with
  | [] => s
  | k :: rest =>
    let s1 := s.setEport p { x with tx := rest }
    let i := ethIsland p
    if x.state ≠ .up then count .macTxDownDrop p (traceStep i 9 p k s1)
    else if k.poisoned then
      let s2 := logFault i 0xFF 0x0602 0 (BitVec.ofNat 64 p) 0 (count .macTxStomped p s1)
      if begun then emit (.ethFrame p (padded k.bytes) (~~~(fcsOf (padded k.bytes))) true) (traceStep i 8 p k s2) else traceStep i 9 p k s2
    else if cfgMaxFrame x < (padded k.bytes).length + 4 then count .macTxOversize p (traceStep i 9 p k s1)
    else
      let (bs0, s2) := ptpAct p k s1
      let bs := padded bs0
      let s3 := emit (.ethFrame p bs (fcsOf bs) false) (traceStep i 8 p k s2)
      meterPacket k.tag.slice.toNat 8 k.tag (countBy .macTxBytes p (bs.length + 4) (count .macTxFrames p s3))

/-- A MAC transmits a frame (R262). -/
def execFrameTransmit (port : Nat) (begun : Bool) (s : State) : Host.Outcome State Fault Refusal := ran (Wf.frameTransmit port begun) (frameTransmit port begun) s

end Sys2Proof.Machine
end

