-- ==== Sys2Proof/Machine/MemCtl.lean ====
section
/-! DEFINITION. The GDDR7 controller: queues, arbitration, retries and poison, row disturbance, retraining (R487 to R495), and its
commands (R505). -/
namespace Sys2Proof.Machine

def Dev.memChan (s : Dev) (c : Nat) : MemChan := SMap.get MemChan.reset s.mem.chans c

def Dev.setMemChan (s : Dev) (c : Nat) (x : MemChan) : Dev :=
  { s with mem := { s.mem with chans := SMap.put MemChan.reset s.mem.chans c x } }

/-- The region of a 64-byte line in the order of Table 14-1, the table region ending at its 8,192 MiB. -/
def memRegion (line : Nat) : Nat :=
  let mib := line / 16384
  if mib < 256 then 0 else if mib < 384 then 1 else if mib < 4480 then 2 else if mib < 12672 then 3 else 4

/-- The channel of a line: the fixed hash of its address bits [35:8] (R486). -/
def lineChan (line : Nat) : Nat := (Config.memChannel (BitVec.ofNat 28 (line / 4))).val

/-- A request for a line, with the bank and row that the line lies in. -/
def memReq (requester : Nat) (write : Bool) (line : Nat) (entry : Option Time) : MemReq :=
  { requester := requester, write := write, addr := line, bank := (Config.memBank line).val, row := Config.memRow line, entry := entry }

/-- WEIGHT of a requester: MGT at 1,000 (R488). -/
def requesterWeight (s : Dev) (q : Nat) : Nat := if q = 4096 then 1000 else (s.slice q).profile.weight

/-- The weight a channel has read for a requester, at least 1. -/
def chanWeight (s : Dev) (x : MemChan) (q : Nat) : Nat :=
  match x.weights.find? (fun e => e.1 == q) with
  | some e => Nat.max 1 e.2
  | none => Nat.max 1 (requesterWeight s q)

/-- The request needs an activation: its bank's open row is another. -/
def needsAct (x : MemChan) (q : MemReq) : Bool := SMap.get 0 x.openRow q.bank != q.row + 1

/-- RH_THRESHOLD and RH_SPACING_NS. -/
def Dev.rhThreshold (s : Dev) : Nat := s.regField isl.MEM 0x010 15 0
def Dev.rhSpacing (s : Dev) : Nat := s.regField isl.MEM 0x010 43 32

/-- The request is passed over this clock: its requester is throttled in the bank, or the channel is hot and activated a row on the last clock, which
halves its rate (R493; R495, DESIGN CHOICE, log 142). -/
def passedOver (s : Dev) (x : MemChan) (q : MemReq) : Bool :=
  needsAct x q && ((x.hot && !x.rested) || x.counts.any (fun k => k.bank == q.bank && k.requester == q.requester && k.throttled &&
    decide (Time.since s.now k.lastAct < s.rhSpacing)))

/-- The read of one requester that goes first: one that hits an open row, else the oldest (R488). -/
def bestRead (x : MemChan) (qs : List MemReq) : Option MemReq :=
  (qs.find? (fun q => !needsAct x q)).orElse (fun _ => qs.head?)

/-- The read chosen under R488: of the requesters with a read that is not passed over, the one whose service is least in
proportion to its weight; the oldest on a tie. -/
def chosenRead (s : Dev) (x : MemChan) : Option MemReq :=
  let ok := x.reads.filter (fun q => !passedOver s x q)
  let share (q : MemReq) : Nat × Nat := (SMap.get 0 x.served q.requester, chanWeight s x q.requester)
  let first := ok.foldl (fun (best : Option MemReq) q => match best with
    | none => some q
    | some b => if (share q).1 * (share b).2 < (share b).1 * (share q).2 then some q else some b) none
  first.bind (fun b => bestRead x (ok.filter (fun q => q.requester == b.requester)))

/-- The oldest write that is not passed over. -/
def chosenWrite (s : Dev) (x : MemChan) : Option MemReq := x.wq.find? (fun q => !passedOver s x q)

/-- The entry with the lowest count among a bank's entries. -/
def lowestCount (cs : List RhCount) (bank : Nat) : Option RhCount :=
  (cs.filter (fun k => k.bank == bank)).foldl (fun m k => match m with
    | none => some k
    | some y => if k.acts < y.acts then some k else some y) none

/-- The activation counts after an activation by `q`, and the count it reaches (R493). -/
def rhActivate (cs : List RhCount) (q : MemReq) (now : Time) (limit : Nat) : List RhCount × Nat :=
  match cs.find? (fun k => k.bank == q.bank && k.requester == q.requester) with
  | some k =>
    let k1 := { k with acts := k.acts + 1, throttled := k.throttled || k.acts + 1 == limit, lastAct := now }
    (k1 :: eraseFirst (fun y => decide (y = k)) cs, k.acts + 1)
  | none =>
    let inBank := cs.filter (fun k => k.bank == q.bank)
    if inBank.length < 8 then (⟨q.bank, q.requester, 1, 1 == limit, now⟩ :: cs, 1)
    else
      let k := (lowestCount cs q.bank).getD ⟨q.bank, 0, 0, false, now⟩
      (⟨q.bank, q.requester, k.acts + 1, k.acts + 1 == limit, now⟩ :: eraseFirst (fun y => decide (y = k)) cs, k.acts + 1)

/-- A requester reaches RH_THRESHOLD: counted, and logged at most once per requester per second (R493). -/
def throttle (c : Nat) (q : MemReq) (s : Dev) : Dev :=
  let s1 := count .memRhThrottle c s
  let recent := match SMap.get none s.mem.throttleLogged q.requester with
    | some t => decide (Time.since s.now t < 1000000000)
    | none => false
  if recent then s1
  else logFault isl.MEM 0xFF 0x0F04 0 (mk64 [c, at' q.bank 6, at' q.requester 11]) 0
    { s1 with mem := { s1.mem with throttleLogged := SMap.put none s1.mem.throttleLogged q.requester (some s.now) } }

/-- A request goes to the device: its burst, the activation it needs, the service it counts as. -/
def issueBurst (c : Nat) (q : MemReq) (s : Dev) : Dev :=
  let x := s.memChan c
  let acts := needsAct x q
  let (cs, n) := if acts then rhActivate x.counts q s.now s.rhThreshold else (x.counts, 0)
  let x1 := { x with issued := x.issued ++ [(q, 0)], rested := !acts, openRow := SMap.put 0 x.openRow q.bank (q.row + 1), counts := cs,
                     served := SMap.put 0 x.served q.requester (SMap.get 0 x.served q.requester + 1) }
  let s1 := emit (.memBurst c q.write q.addr) (s.setMemChan c x1)
  let s2 := count (if q.write then .memWrites else .memReads) c s1
  if acts ∧ n = s.rhThreshold then throttle c q s2 else s2

/-- Takes a request out of the queue it waits in, and issues it. -/
def issueFrom (c : Nat) (q : MemReq) (s : Dev) : Dev :=
  let x := s.memChan c
  let x1 := if q.write then { x with wq := eraseFirst (fun y => decide (y = q)) x.wq }
    else { x with reads := eraseFirst (fun y => decide (y = q)) x.reads }
  issueBurst c q (s.setMemChan c x1)

/-- WQ_LOW and WQ_HIGH. -/
def Dev.wqLow (s : Dev) : Nat := s.regField isl.MEM 0x008 5 0
def Dev.wqHigh (s : Dev) : Nat := s.regField isl.MEM 0x008 14 8

/-- One MEM clock of a channel: the pseudocode of R489. After PWR_FAIL_N nothing is issued (R502). -/
def memClock (c : Nat) (s0 : Dev) : Dev :=
  let x := s0.memChan c
  let s := s0.setMemChan c { x with rested := true }
  if x.paused || s.jnl.stopped then s
  else if x.draining then
    let s1 := match chosenWrite s x with
      | some q => issueFrom c q s
      | none => s
    let x1 := s1.memChan c
    if x1.wq.length ≤ s.wqLow then s1.setMemChan c { x1 with draining := false } else s1
  else if s.wqHigh ≤ x.wq.length then s.setMemChan c { x with rested := true, draining := true }
  else if x.reads ≠ [] then
    match chosenRead s x with
    | some q => issueFrom c q s
    | none => s
  else match chosenWrite s x with
    | some q => issueFrom c q s
    | none => s

/-- The channel numbers. -/
def memChans : List Nat := List.range 48

/-- One MEM clock of every channel that has requests. -/
def memClocks (s : Dev) : Dev :=
  (s.mem.chans.map (fun e => e.1)).foldl (fun s c => memClock c s) s

/-- The meters of a served request: 64 bytes on MEM_READ_BYTES or MEM_WRITE_BYTES (Table 15-3). -/
def memMeter (q : MemReq) (s : Dev) : Dev :=
  if q.requester < 4096 then meterAdd q.requester (if q.write then 24 else 23) 64 (q.entry.getD s.now) s else s

/-- A channel takes a request: a read of a line with a queued write is answered from the queue (R490); any other request waits, and the
channel takes a clock. A write finds no place while the queue of 64 is full. -/
def chanRequest (c : Nat) (q : MemReq) (s : Dev) : Dev :=
  let x := s.memChan c
  if q.write then
    if x.wq.length < 64 then memClock c (s.setMemChan c { x with wq := x.wq ++ [q] }) else s
  else if x.wq.any (fun w => w.addr == q.addr) then memMeter q s
  else memClock c (s.setMemChan c { x with reads := x.reads ++ [q] })

/-- MEM_REQUEST: a requester's request for a line goes to the line's channel (R486, R488). -/
def memRequest (requester : Nat) (write : Bool) (line : Nat) (entry : Option Time) (s : Dev) : Dev :=
  chanRequest (lineChan line) (memReq requester write line entry) s

/-- A GDDR7 request is scheduled (R488, R489). -/
def execMemRequest (requester : Nat) (q : LineAccess) (s : State) : Host.Outcome State Fault Refusal :=
  ran (Wf.memRequest requester q.line) (memRequest requester q.write q.line q.entry) s

/-- The third retry of a burst failed too: its line is poisoned (R491). -/
def poisonLine (c : Nat) (q : MemReq) (s : Dev) : Dev :=
  let x := s.memChan c
  let s1 := count .memPoison c (s.setMemChan c { x with poisonings := x.poisonings + 1 })
  let s2 := { s1 with mem := { s1.mem with poisoned := if s1.mem.poisoned.contains q.addr then s1.mem.poisoned else q.addr :: s1.mem.poisoned } }
  logFault isl.MEM 0xFF 0x0F02 2 (mk64 [c, at' (memRegion q.addr) 8]) (BitVec.ofNat 64 (64 * q.addr)) s2

/-- A burst ends well: a write of the whole line clears its mark, which a store of a word in the program region is not; a read of a poisoned line of storage staging loses its
segment (R491). -/
def burstGood (q : MemReq) (s : Dev) : Dev :=
  let s1 := memMeter q s
  if q.write ∧ memRegion q.addr ≠ 4 then { s1 with mem := { s1.mem with poisoned := s1.mem.poisoned.filter (fun e => decide (e ≠ q.addr)) } }
  else whenB (s1.mem.poisoned.contains q.addr && memRegion q.addr == 2) (count .memStagePoison 0) s1

/-- MEM_BURST_COMPLETE: the CRC of the oldest burst issued; a failed one goes again up to 3 times (R491). -/
def memBurstComplete (c : Nat) (ok : Bool) (s : Dev) : Dev :=
  let x := s.memChan c
  match x.issued with
  | [] => s
  | (q, n) :: rest =>
    if ok then memClock c (burstGood q (s.setMemChan c { x with issued := rest }))
    else if n < 3 then
      emit (.memBurst c q.write q.addr)
        (count .memCrcRetry c (s.setMemChan c { x with issued := (q, n + 1) :: rest, retries := x.retries + 1 }))
    else memClock c (memMeter q (poisonLine c q (s.setMemChan c { x with issued := rest })))

/-- A burst's CRC is checked (R491). -/
def execMemBurstComplete (chan : Nat) (ok : Bool) (s : State) : Host.Outcome State Fault Refusal := ran (Wf.memBurstComplete chan ok) (memBurstComplete chan ok) s

/-- The channel reads the weights of its waiting requesters anew. -/
def epochChan (s : Dev) (x : MemChan) : MemChan :=
  let qs := (x.reads.map MemReq.requester).eraseDups
  { x with served := [], weights := qs.foldl (fun m q => SMap.put 0 m q (requesterWeight s q)) [] }

/-- ARBITRATION_EPOCH: weights are read, WQ_HIGH and WQ_LOW apply, resizes have reached this arbiter (R176, R177, R488). -/
def arbitrationEpoch (s0 : Dev) : Dev :=
  let s := applyBoundary .memEpoch isl.MEM s0
  let s1 := s.mapSlices (fun x => { x with pendMem := false })
  (s1.mem.chans.map (fun e => e.1)).foldl (fun s c => s.setMemChan c (epochChan s (s.memChan c))) s1

/-- The arbiters read the weights anew (R488). -/
def execArbitrationEpoch (s : State) : Host.Outcome State Fault Refusal := ran Wf.arbitrationEpoch arbitrationEpoch s

/-- RH_WINDOW_END: RH_WINDOW_US has passed, every count and throttle ends; RH_WINDOW_US, threshold and spacing apply (R493, Table 14-6). -/
def rhWindowEnd (s0 : Dev) : Dev :=
  let s1 := reach (s0.mem.windowAt + BitVec.ofNat 48 (1000 * s0.regField isl.MEM 0x010 25 16)) s0
  let s := applyBoundary .rhWindow isl.MEM { s1 with mem := { s1.mem with windowAt := s1.now } }
  (s.mem.chans.map (fun e => e.1)).foldl (fun s c => s.setMemChan c { s.memChan c with counts := [] }) s

/-- A row-disturbance window ends (R493). -/
def execRhWindowEnd (s : State) : Host.Outcome State Fault Refusal := ran Wf.rhWindowEnd rhWindowEnd s

/-- A channel is paused. -/
def Dev.memPaused (s : Dev) : Bool := s.mem.chans.any (fun e => e.2.paused)

/-- The retraining interval in ns. -/
def Dev.retrainNs (s : Dev) : Nat := s.mem.retrainMs * 1000000

/-- The channel's last retraining has been begun in the interval that runs. -/
def triedNow (s : Dev) (c : Nat) : Bool := (s.memChan c).triedAt.any (fun t => Time.ge t s.mem.intervalAt)

/-- When a channel's next pause begins: channel k at k / 48 of the interval after channel 0, and after a failure one tenth of the interval after it
(R494). -/
def retrainDue (s : Dev) (c : Nat) : Time :=
  let x := s.memChan c
  match x.triedAt with
  | some t => if x.retrainFailed then t + BitVec.ofNat 48 (s.retrainNs / 10)
    else s.mem.intervalAt + BitVec.ofNat 48 (s.retrainNs * c / 48 + if triedNow s c then s.retrainNs else 0)
  | none => s.mem.intervalAt + BitVec.ofNat 48 (s.retrainNs * c / 48)

/-- RETRAINING_START: the channel pauses, not while it drains writes and not while another channel is paused (R494). A new
interval, with the RETRAIN_MS set for it, begins with channel 0. -/
def retrainingStart (c : Nat) (s : Dev) : Dev :=
  if s.memPaused || (s.memChan c).draining || s.jnl.stopped then s
  else
    let s0 := reach (retrainDue s c) s
    let s1 := if c = 0 ∧ (s.memChan c).retrainFailed = false then
        { s0 with mem := { s0.mem with retrainMs := s0.mem.nextRetrainMs, intervalAt := s0.now } }
      else s0
    s1.setMemChan c { s1.memChan c with paused := true, triedAt := some s1.now }

/-- A channel pauses to retrain (R494). -/
def execRetrainingStart (chan : Nat) (s : State) : Host.Outcome State Fault Refusal := ran (Wf.retrainingStart chan) (retrainingStart chan) s

/-- RETRAINING_COMPLETE: the pause ends; a failure keeps the previous settings and is logged (R494). -/
def retrainingComplete (c : Nat) (ok : Bool) (s : Dev) : Dev :=
  let x := s.memChan c
  if x.paused then
    let s1 := count .memRetrains 0 (s.setMemChan c { x with paused := false, retrainFailed := !ok })
    memClock c (if ok then s1 else logFault isl.MEM 0xFF 0x0F03 0 (BitVec.ofNat 64 c) 0 s1)
  else s

/-- Retraining ends (R494). -/
def execRetrainingComplete (chan : Nat) (ok : Bool) (s : State) : Host.Outcome State Fault Refusal := ran (Wf.retrainingComplete chan ok) (retrainingComplete chan ok) s

/-- HOT of a device's four channels, numbered 4d + n (R484, R495). -/
def setHot (dev : Nat) (hot : Bool) (s : Dev) : Dev :=
  [0, 1, 2, 3].foldl (fun s n => s.setMemChan (4 * dev + n) { s.memChan (4 * dev + n) with hot := hot }) s

/-- A device reports a temperature above its limit: its four channels run at half the activation rate (R495). -/
def execDeviceOverTemperature (dev : Nat) (s : State) : Host.Outcome State Fault Refusal := ran (Wf.deviceOverTemperature dev) (setHot dev true) s

/-- The report clears (R495). -/
def execTemperatureReportClear (dev : Nat) (s : State) : Host.Outcome State Fault Refusal := ran (Wf.temperatureReportClear dev) (setHot dev false) s

/-- LINE_REBUILD: MGT requests that a poisoned table or SA line be written anew from the journal, at its own weight; the end of the write clears
the mark. An SA record so rebuilt is logged (R452, R491, R492). -/
def lineRebuild (line : Nat) (s : Dev) : Dev :=
  if s.mem.poisoned.contains line ∧ (memRegion line = 1 ∨ memRegion line = 3) ∧ (s.memChan (lineChan line)).wq.length < 64 then
    let s1 := memRequest 4096 true line none s
    if memRegion line = 1 then
      logFault isl.LCP 0xFF 0x0D03 0 (BitVec.ofNat 64 ((64 * line - 256 * 1048576) / 128)) 0 s1
    else s1
  else s

/-- A poisoned line, of the four of a 256-byte granule, is rebuilt (R492). -/
def execLineRebuild (granule line : Nat) (s : State) : Host.Outcome State Fault Refusal := ran (Wf.lineRebuild granule line) (lineRebuild (4 * granule + line)) s

/-! ### Registers and commands -/

/-- MEM_CH_STATE of a channel (Table 14-6). -/
def memChState (x : MemChan) : W64 :=
  mk64 [x.wq.length, at' (b2n x.draining) 7, at' (b2n x.paused) 8, at' (b2n x.hot) 9, at' (b2n x.retrainFailed) 10,
        at' (lo 16 (x.counts.filter RhCount.throttled).length) 16]

/-- GDDR7 bytes that the defined tables of every slot take: 64 for each entry place. -/
def tableMib (s : Dev) : Nat :=
  let entries := slotNumbers.foldl (fun n k =>
    Nat.max n (((s.slot k).rules.tables.map (fun e => if e.2.extLog2 = 0 then 0 else 2 ^ e.2.extLog2)).sum)) 0
  (entries * 64 + 1048575) / 1048576

/-- Size of the program region in MiB: what the other regions leave (Table 14-1). -/
def programMib (s : Dev) : Nat := (if s.mem.small then 34332 else 45776) - (256 + 128 + 4096) - tableMib s

/-- MEM_RETRAIN_CONFIG (R505). -/
def spec0C01 : CmdSpec := mgrCmd 0x0C01 [bits 9 0] 0

def memRetrainConfig (ch : Nat) (r : Req) (s : Dev) : Dev × Reply :=
  let n := fld (r.word 0) 9 0
  checks [(decide (100 ≤ n) && decide (n ≤ 1000), .badArgument)]
    (configured spec0C01 ch r 0 (fun s => { s with mem := { s.mem with nextRetrainMs := n } }) []) s

def cmdMemRetrainConfig (ch : Nat) (r : Req) (s : Dev) : Dev := command spec0C01 ch r (memRetrainConfig ch r) s

/-- Sets the retraining interval (R505). -/
def execMemRetrainConfig (ch : Nat) (r : Req) (s : State) : Host.Outcome State Fault Refusal := ran (Wf.memRetrainConfig ch r) (onChannel ch (cmdMemRetrainConfig ch r)) s

/-- MEM_CHANNEL_QUERY (R505). -/
def spec0C02 : CmdSpec := mgrCmd 0x0C02 [bits 5 0] 16

def memChannelQuery (_ : Nat) (r : Req) (s : Dev) : Dev × Reply :=
  let c := fld (r.word 0) 5 0
  let x := s.memChan c
  checks [(decide (c < 48), .badArgument)] (done [memChState x, mk64 [x.retries.toNat, at' x.poisonings.toNat 32]]) s

def cmdMemChannelQuery (ch : Nat) (r : Req) (s : Dev) : Dev := command spec0C02 ch r (memChannelQuery ch r) s

/-- Returns a channel's state and error counts (R505). -/
def execMemChannelQuery (ch : Nat) (r : Req) (s : State) : Host.Outcome State Fault Refusal := ran (Wf.memChannelQuery ch r) (onChannel ch (cmdMemChannelQuery ch r)) s

end Sys2Proof.Machine
end

