-- ==== Sys2Proof/Machine/StorageRules.lean ====
section
/-! DEFINITION. Storage descriptors: their fields and the check at fetch (R474, R475; reason 9 of Table 6-4). -/
namespace Sys2Proof.Machine

def Dev.conn (s : Dev) (c : Nat) : Conn := SMap.get Conn.closed s.cry.conns c

def Dev.setConn (s : Dev) (c : Nat) (x : Conn) : Dev :=
  { s with cry := { s.cry with conns := SMap.put Conn.closed s.cry.conns c x } }

/-- Storage key slot `k` of a slice. -/
def Dev.stKey (s : Dev) (sl k : Nat) : Option StKey := SMap.get none s.cry.keys (4 * sl + k)

/-- Fields of a STORAGE descriptor (Table 13-6). -/
def stOp (ws : List W64) : Nat := fld (ws.getD 0 0) 7 0
def stSlba (ws : List W64) : Nat := (ws.getD 3 0).toNat
def stBlocks (ws : List W64) : Nat := fld (ws.getD 4 0) 15 0 + 1
def stConn (ws : List W64) : Nat := fld (ws.getD 4 0) 29 16
def stSlot (ws : List W64) : Nat := fld (ws.getD 4 0) 31 30
def stEncrypt (ws : List W64) : Bool := bit (ws.getD 4 0) 32
def stLba (ws : List W64) : Nat := 2 ^ fld (ws.getD 4 0) 38 34

/-- The buffer's length fits the operation (R475). -/
def stLenOk (ws : List W64) (n : Nat) : Bool :=
  match stOp ws with
  | 0x10 => n == stBlocks ws * stLba ws
  | 0x11 => n == stBlocks ws * stLba ws
  | 0x12 => n == 16
  | _ => n % 16 == 0 && decide (16 ≤ n) && decide (n ≤ 4096)

/-- Reason 9 holds for a STORAGE descriptor of a slice; with INDIRECT the length is checked once the fragments have been read. -/
def storageMalformed (s : Dev) (slice : Nat) (ws : List W64) : Bool :=
  let c := s.conn (stConn ws)
  decide (stOp ws < 0x10) || decide (0x13 < stOp ws) || decide (c.state = .closed) || c.admin || c.slice != slice ||
    decide (fld (ws.getD 4 0) 38 34 < 9) || decide (16 < fld (ws.getD 4 0) 38 34) ||
    (!bit (ws.getD 0 0) 8 && !stLenOk ws (fld (ws.getD 2 0) 31 0)) ||
    (stEncrypt ws && match s.stKey slice (stSlot ws) with
      | some k => stLba ws % k.duBytes != 0
      | none => false)

end Sys2Proof.Machine
end

