-- ==== Sys2Proof/Machine/Queues.lean ====
section
/-! DEFINITION. Queue pairs: indices, the holding area, outcomes, completion records, halts (R205 to R209, R223 to R235). -/
namespace Sys2Proof.Machine

def Dev.qp (s : Dev) (q : Nat) : QueuePair := SMap.get QueuePair.none s.qde.pairs q

def Dev.setQp (s : Dev) (q : Nat) (x : QueuePair) : Dev :=
  { s with qde := { s.qde with pairs := SMap.put QueuePair.none s.qde.pairs q x } }

/-- Indices are k + 1 bits wide (R206). -/
def qpMod (x : QueuePair) : Nat := 2 ^ (x.k + 1)

/-- (a − b) mod 2^(k+1). -/
def qpDiff (x : QueuePair) (a b : Nat) : Nat := (a + qpMod x - b % qpMod x) % qpMod x

/-- Outstanding descriptors (R207). -/
def outstanding (x : QueuePair) : Nat := qpDiff x x.producer x.consumer

/-- Unread completion records (R208). -/
def unread (x : QueuePair) : Nat := qpDiff x x.consumer x.cqConsumer

/-- Entries of the holding area in use (R230). -/
def heldCount (x : QueuePair) : Nat := x.items.length

/-- Cached descriptors not started. -/
def cachedCount (x : QueuePair) : Nat := (x.items.filter (fun i => i.cached && !i.started && i.outcome.isNone)).length

/-- Descriptors not started, those being fetched included: what PREFETCH bounds (R217). -/
def unstarted (x : QueuePair) : Nat := (x.items.filter (fun i => !i.started && i.outcome.isNone)).length

/-- Queue pairs configured for a slice, and on a channel. -/
def Dev.qpsOf (s : Dev) (sl : Nat) : List Nat := (s.qde.pairs.filter (fun e => e.2.valid && e.2.slice == sl)).map (fun e => e.1)
def Dev.qpsOn (s : Dev) (ch : Nat) : List Nat := (s.qde.pairs.filter (fun e => e.2.valid && e.2.channel == ch)).map (fun e => e.1)

/-- The exception queue of a slice (R235). -/
def Dev.exceptionQueue (s : Dev) (sl : Nat) : Option Nat :=
  (s.qde.pairs.find? (fun e => e.2.valid && e.2.slice == sl && e.2.typ == 1 && e.2.exception)).map (fun e => e.1)

/-- Fields of a work descriptor (Table 6-3). -/
def dWord (i : WorkItem) (k : Nat) : W64 := i.words.getD k 0
def dOpcode (ws : List W64) : Nat := fld (ws.getD 0 0) 7 0
def dIndirect (ws : List W64) : Bool := bit (ws.getD 0 0) 8
def dFence (ws : List W64) : Bool := bit (ws.getD 0 0) 9
def dEvent (ws : List W64) : Bool := bit (ws.getD 0 0) 10
def dFrags (ws : List W64) : Nat := fld (ws.getD 0 0) 24 16
def dSeq (ws : List W64) : BitVec 32 := BitVec.ofNat 32 (fld (ws.getD 0 0) 63 32)
def dLength (ws : List W64) : Nat := fld (ws.getD 2 0) 31 0

/-- The opcode is permitted for the queue pair's type (Table 6-3, reason 1). -/
def opcodeOk (typ op : Nat) : Bool :=
  (op == 0 && (typ == 0 || typ == 2)) || (op == 1 && typ == 0) || (op == 2 && typ == 1) ||
    (decide (16 ≤ op) && decide (op ≤ 31) && typ == 2)

/-- A reserved bit of the descriptor is set: those of word 0, and those of words 2 to 6 by its type (Tables 6-3 and 13-6). -/
def dReserved (typ : Nat) (ws : List W64) : Bool :=
  !(bitsClear (ws.getD 0 0) (bits 15 11 ||| bits 31 25)) ||
    (dOpcode ws != 0 &&
      (fld (ws.getD 2 0) 63 32 != 0 || ws.getD 6 0 != 0 ||
        (if typ = 2 then fld (ws.getD 4 0) 63 39 != 0 || fld (ws.getD 5 0) 63 32 != 0
         else ws.getD 3 0 != 0 || ws.getD 4 0 != 0 || ws.getD 5 0 != 0)))

/-- The reason for which a fetched descriptor is malformed, by Table 6-4, or none. A NOP has no LENGTH: its words 2 to 6 are not defined (R219, log
112). Where several conditions hold at once, the reason is the first of 1, 2, 3, 4, 5, and then 9 or 7: DESIGN CHOICE, log 131 (R223). -/
def malformedReason (s : Dev) (x : QueuePair) (ws : List W64) : Option Nat :=
  let op := dOpcode ws
  if !opcodeOk x.typ op then some 1
  else if dReserved x.typ ws then some 2
  else if op ≠ 0 ∧ dIndirect ws = false ∧ dLength ws = 0 then some 3
  else if op ≠ 0 ∧ dIndirect ws = true ∧ dLength ws ≠ 0 then some 3
  else if dIndirect ws = true ∧ (dFrags ws = 0 ∨ 256 < dFrags ws) then some 4
  else if dIndirect ws = false ∧ dFrags ws ≠ 0 then some 4
  else if dIndirect ws = true ∧ fld (ws.getD 1 0) 3 0 ≠ 0 then some 5
  else if op = 0 then none
  else if x.typ = 2 then (if storageMalformed s x.slice ws then some 9 else none)
  else if op = 1 ∧ dIndirect ws = false ∧ (dLength ws < 14 ∨ 16384 < dLength ws) then some 7
  else none

/-- The entry reserved for a descriptor that is about to be fetched. -/
def newItem (index : Nat) : WorkItem :=
  { index := index, words := [], cached := false, started := false, passed := 0, frag := 0, curFrag := 0, cur := [], req := none,
    entryTime := none, parts := [], writes := [], landed := 0, stalled := false, frame := none, sent := none, ready := false, isWrite := false, answered := false,
    outcome := none, fencing := none }

/-- The descriptor has been fetched: a copy is held, or work has begun on one. -/
def WorkItem.fetched (i : WorkItem) : Bool := i.cached || i.started || i.outcome.isSome

/-- The descriptor is fetched and not finished. -/
def WorkItem.live (i : WorkItem) : Bool := (i.cached || i.started) && i.outcome.isNone

/-- Applies `f` to the item of an index. -/
def onItem (x : QueuePair) (index : Nat) (f : WorkItem → WorkItem) : QueuePair :=
  { x with items := x.items.map (fun i => if i.index = index then f i else i) }

/-- The item of an index. -/
def findItem (x : QueuePair) (index : Nat) : Option WorkItem := x.items.find? (fun i => i.index == index)

/-- The descriptor writes to the host: RECEIVE, and a storage READ or FLUSH (R222, R474). -/
def writesHost (i : WorkItem) : Bool := [0x02, 0x10, 0x12].contains (dOpcode i.words)

/-- The progress of a fault completion of work not finished (Table 2-8, R86): NOT_STARTED 1, PARTIAL 2, UNKNOWN_DURABILITY 3. A storage write that was
sent has the last of these whatever ends it, also HALTED, which Table 6-6 does not list for it: DESIGN CHOICE, log 130 (R86, R226). -/
def progressOf (x : QueuePair) (i : WorkItem) : Nat :=
  if x.typ = 2 then (if i.sent.isSome then (if i.isWrite && !i.answered then 3 else 2) else 1)
  else if i.started && (decide (0 < i.passed) || !i.cur.isEmpty) then 2 else 1

/-- BYTES_DONE of work not finished: what was passed on, or for work that writes to the host what has left for its buffer (R86, R227). -/
def bytesDone (i : WorkItem) : Nat := if writesHost i then i.landed else i.passed

/-- The parts at the front of a buffer that `n` bytes fill. -/
def wholeParts : List (W64 × Nat) → Nat → Nat
  | [], _ => 0
  | (_, m) :: t, n => if m ≤ n then 1 + wholeParts t (n - m) else 0

/-- FRAGMENT_INDEX of work not finished: the first fragment table entry not wholly done, 0 without a table (Table 2-8, R227). -/
def fragDone (i : WorkItem) : Nat := if dIndirect i.words then (if writesHost i then wholeParts i.parts i.landed else i.frag) else 0

/-- TIMESTAMP of a record: a RECEIVE's frame's ENTRY_TIME, else the time at which the outcome is recorded (Table 6-5). -/
def recordTime (s : Dev) (i : WorkItem) : Time := i.frame.elim s.now (fun p => p.tag.entryTime)

/-- A fault outcome of a STATUS with the item's own progress; RX_FLAGS are those of a RECEIVE's frame, where it has one. -/
def faultOutcome (s : Dev) (x : QueuePair) (i : WorkItem) (status : Nat) : WorkOutcome :=
  let p := progressOf x i
  { status := status, progress := p, bytes := if 2 ≤ p then bytesDone i else 0, frag := if p = 2 then fragDone i else 0, detail := 0,
    time := recordTime s i, rxFlags := i.frame.elim 0 (fun p => p.tag.flags.toNat % 4096) }

/-- The outcome reaches the completion writer: the first to arrive is recorded (R85, R232). -/
def setOutcome (o : WorkOutcome) (i : WorkItem) : WorkItem :=
  match i.outcome with
  | some _ => i
  | none =>
    if o.status = 0 then { i with outcome := some o, cached := false, cur := [], req := none, stalled := false, fencing := none }
    else { i with outcome := some o, cached := false, cur := [], req := none, writes := [], stalled := false, fencing := none }

/-- The descriptor at an index of a queue pair ends with a fault STATUS. -/
def endItem (q index status : Nat) (s : Dev) : Dev :=
  let x := s.qp q
  s.setQp q (onItem x index (fun i => setOutcome (faultOutcome s x i status) i))

/-- The part of a buffer that holds byte `off`: its address and the bytes left of it. -/
def partAt : List (W64 × Nat) → Nat → Option (W64 × Nat)
  | [], _ => none
  | (a, n) :: t, off => if off < n then some (a + BitVec.ofNat 64 off, n - off) else partAt t (off - n)

/-- The address of the last byte that a descriptor's work wrote to the host: where its FENCE read goes (R228). -/
def fenceAddr (i : WorkItem) : W64 := (partAt i.parts (i.passed - 1)).elim (dWord i 1) (fun e => e.1)

/-- The port, half and PASID of a queue pair's slice (R173). -/
def qpPort (s : Dev) (q : Nat) : Nat × Bool × Option (BitVec 20) :=
  let sl := (s.qp q).slice
  (s.slicePort sl, (s.slice sl).half, s.slicePasid sl)

/-- The port and half of the queue pair's slice can carry requests (R568). -/
def qpUsable (s : Dev) (q : Nat) : Bool := s.linkUsable (qpPort s q).1 (qpPort s q).2.1

/-- A host read error of a descriptor (R236): it ends BAD, logged with its cause. -/
def readError (q index cause : Nat) (s : Dev) : Dev :=
  let x := s.qp q
  let seq := match findItem x index with
    | some i => (dSeq i.words).toNat
    | none => 0
  logFault isl.QDE 0xFF 0x0401 0 (mk64 [q, at' cause 48]) (BitVec.ofNat 64 seq) (count .dmaBad x.channel (endItem q index 1 s))

/-- Every work item of a slice fetched and not finished ends with a fault STATUS (R183, R187). -/
def endWork (sl status : Nat) (only : WorkItem → Bool) (s : Dev) : Dev :=
  (s.qpsOf sl).foldl (fun s q =>
    let x := s.qp q
    s.setQp q { x with items := x.items.map (fun i => if WorkItem.live i && only i then setOutcome (faultOutcome s x i status) i else i) }) s

/-- Work items of a slice that are fetched and not finished, and satisfy `only`. -/
def unfinished (s : Dev) (sl : Nat) (only : WorkItem → Bool) : Nat :=
  ((s.qpsOf sl).map (fun q => ((s.qp q).items.filter (fun i => WorkItem.live i && only i)).length)).sum

/-- Frames in receive staging of a slice that leaves ACTIVE are dropped and counted, as those that reach QDE for it then (R184; DEDUCED, log 132). -/
def dropStaged (sl : Nat) (s : Dev) : Dev :=
  (s.qpsOf sl).foldl (fun s q => (s.qp q).staging.foldl (fun s _ => count .slcRxDrop 0 s) (s.setQp q { s.qp q with staging := [] })) s

/-- SLICE_HALT (R183): fetched work ends HALTED; the slice enters HALTED, or records the halt while it quiesces. -/
def sliceHalt (sl q : Nat) (s : Dev) : Dev :=
  let s1 := endWork sl 5 (fun _ => true) s
  let x := s1.slice sl
  if x.state = .active then
    let s2 := enterState sl .halted s1
    let s3 := logFault isl.QDE 0xFF 0x0202 0 (mk64 [sl, at' q 32]) 0 (count .slcHalts 0 s2)
    msixSignal s3.mgrPort 2 (sliceEvent sl x.evState (dropStaged sl s3))
  else
    s1.setSlice sl { x with quiesce := { x.quiesce with haltSeen := true } }

/-- A malformed descriptor (R224): it ends MALFORMED, is logged and counted, and its slice halts. -/
def malformed (q index reason frag : Nat) (s : Dev) : Dev :=
  let s1 := endItem q index 6 s
  let s2 := logFault isl.QDE 0xFF 0x0302 0 (mk64 [q, at' index 24, at' reason 44, at' (lo 8 frag) 48]) 0 (count .qdeMalformed 0 s1)
  sliceHalt (s.qp q).slice q s2

/-- The holding area without the entries at its end whose descriptors are not held: those are fetched anew. One between entries that are held keeps its
place, and is fetched again there (R230, R233). -/
def dropUnheld (is : List WorkItem) : List WorkItem := (is.reverse.dropWhile (fun i => i.words.isEmpty)).reverse

/-- FETCH_ERROR (R233): the queue pair fetches nothing more. -/
def fetchError (q index cause : Nat) (s : Dev) : Dev :=
  let x := s.qp q
  if x.fetchError then s
  else logFault isl.QDE 0xFF 0x0301 0 (mk64 [q, at' index 24, at' cause 41]) 0
    (count .qdeFetchError 0
      (s.setQp q { x with fetchError := true, fetching := [], items := dropUnheld x.items }))

/-- The index after the last one fetched or being fetched. -/
def nextFetch (x : QueuePair) : Nat := (x.consumer + heldCount x) % qpMod x

/-- The queue pair of a slice that is ACTIVE may be fetched for: it is RUNNING. -/
def running (s : Dev) (x : QueuePair) : Bool := x.valid && decide ((s.slice x.slice).state = .active) && !x.fetchError

/-- The completion ring is full and a finished record waits (R231). -/
def pressure (x : QueuePair) : Bool := decide (unread x = 2 ^ x.k) && x.items.any (fun i => i.outcome.isSome)

/-- COMPLETION_PRESSURE: signalled once when all 64 entries are in use under pressure (R231). -/
def checkPressure (q : Nat) (s : Dev) : Dev :=
  let x := s.qp q
  if pressure x ∧ 64 ≤ x.items.length ∧ x.pressed = false then
    let s1 := count .qdeCqPressure 0 (s.setQp q { x with pressed := true })
    sliceEvent x.slice (s.slice x.slice).evPressure s1
  else s

/-! ### Requests and address translation (R99, R236, R238 to R240) -/

def Dev.dma (s : Dev) (c : Nat) : DmaChannel := SMap.get DmaChannel.reset s.qde.dma c

def Dev.setDma (s : Dev) (c : Nat) (x : DmaChannel) : Dev :=
  { s with qde := { s.qde with dma := SMap.put DmaChannel.reset s.qde.dma c x } }

/-- The entry of a port's translation cache for an address. -/
def Dev.atcFind (s : Dev) (port : Nat) (pasid : Option (BitVec 20)) (addr : W64) : Option AtcEntry :=
  (SMap.get [] s.qde.atc port).find? (fun e => decide (e.pasid = pasid) && e.page == addr.toNat / 2 ^ e.log2)

/-- Adds a translation, keeping 8,192 (R239). -/
def atcAdd (port : Nat) (e : AtcEntry) (s : Dev) : Dev :=
  { s with qde := { s.qde with atc := SMap.put [] s.qde.atc port ((e :: SMap.get [] s.qde.atc port).take 8192) } }

/-- The PCIe completion timeout that a Device Control 2 code sets, in ns (Table 3-2). -/
def timeoutNs (code : BitVec 4) : Nat := if code = 1 then 50000 else if code = 5 then 50000000 else 10000000

/-- The completion timeout of a port, or of the half that carries the request (R99). -/
def Dev.completionNs (s : Dev) (port : Nat) (half : Bool) : Nat := timeoutNs ((s.port port).link half).timeoutCode

/-- The WEIGHT of a slice in force on a DMA channel: that of the last resize once the channel has started a descriptor since (R176, R238). -/
def weightOn (s : Dev) (sl c : Nat) : Nat :=
  (((s.slice sl).pendDma.find? (fun e => e.1 == c)).map (fun e => e.2)).getD (s.slice sl).profile.weight

/-- The arbiter's key of a slice on its port. -/
def arbKey (s : Dev) (sl : Nat) : Nat := s.slicePort sl * 4096 + sl

/-- The port's arbiter has served a queue pair's slice `n` bytes more. -/
def charge (q n : Nat) (s : Dev) : Dev :=
  let x := s.qp q
  let k := arbKey s x.slice
  { s with qde := { s.qde with served := SMap.put 0 s.qde.served k (SMap.get 0 s.qde.served k + n * 1000000 / weightOn s x.slice x.channel) } }

/-- A request goes out for a queue pair and is not completed yet. -/
def addReq (q index : Nat) (what : ReadWhat) (addr : W64) (len : Nat) (gone : Bool) (s : Dev) : Dev :=
  let (p, h, pasid) := qpPort s q
  let r : QdeReq := { no := s.qde.reqNo + 1, qp := q, index := index, what := what, port := p, half := h, pasid := pasid, addr := addr, len := len,
                      time := s.now, gone := gone }
  { s with qde := { s.qde with reqs := s.qde.reqs ++ [r], reqNo := s.qde.reqNo + 1 } }

/-- The oldest request of a kind for an entry that `p` selects. -/
def Dev.reqOf (s : Dev) (q index : Nat) (what : ReadWhat) (p : QdeReq → Bool) : Option QdeReq :=
  s.qde.reqs.find? (fun r => r.qp == q && r.index == index && r.what == what && p r)

/-- A request has completed. -/
def endReq (r : QdeReq) (s : Dev) : Dev := { s with qde := { s.qde with reqs := s.qde.reqs.filter (fun x => x.no != r.no) } }

/-- The translation of an address is asked for (R239). -/
def askPage (q index : Nat) (what : ReadWhat) (addr : W64) (len : Nat) (s : Dev) : Dev :=
  let (p, _, pasid) := qpPort s q
  count .dmaAtcMiss p (emit (.atsRequest p pasid (addr.toNat / 4096)) (addReq q index what addr len false s))

/-- A translated host read for a queue pair goes out. -/
def qdeRead (q index : Nat) (what : ReadWhat) (addr : W64) (len : Nat) (s : Dev) : Dev :=
  let (p, h, pasid) := qpPort s q
  charge q len (emit (.hostRead p h pasid addr len) (addReq q index what addr len true s))

/-- A host read for a queue pair: with its translation cached it goes out, else a translation request does; none where the page may not be read
(R239). -/
def issueRead (q index : Nat) (what : ReadWhat) (addr : W64) (len : Nat) (s : Dev) : Option Dev :=
  let (p, _, pasid) := qpPort s q
  match s.atcFind p pasid addr with
  | some e => if e.read then some (qdeRead q index what addr len s) else none
  | none => some (askPage q index what addr len s)

/-- A translation for a descriptor is refused, or does not allow the access: it ends TRANSLATION_FAULT with its progress (R239). -/
def translationFault (q index : Nat) (s : Dev) : Dev :=
  match findItem (s.qp q) index with
  | none => s
  | some i =>
    if i.outcome.isSome then s
    else
      let (p, _, pasid) := qpPort s q
      logFault isl.QDE 0xFF 0x0402 0 (mk64 [q, at' (pasid.elim 0 BitVec.toNat) 20]) (BitVec.ofNat 64 (dSeq i.words).toNat)
        (count .dmaXlateFault p (endItem q index 2 s))

/-! ### Good outcomes and the FENCE read (R228) -/

/-- The FENCE read of a descriptor failed: BAD with PARTIAL (R228). -/
def fenceFailed (q index cause : Nat) (s : Dev) : Dev :=
  let x := s.qp q
  match (findItem x index).bind WorkItem.fencing with
  | none => s
  | some o =>
    let s1 := s.setQp q (onItem x index (fun i =>
      setOutcome { o with status := 1, progress := 2, bytes := bytesDone i, frag := fragDone i, time := recordTime s i } { i with fencing := none }))
    logFault isl.QDE 0xFF 0x0401 0 (mk64 [q, at' cause 48]) (BitVec.ofNat 64 ((findItem x index).elim 0 (fun i => (dSeq i.words).toNat)))
      (count .dmaBad x.channel s1)

/-- Issues the FENCE read of a descriptor (R228, R239, R568). -/
def fenceRead (q index : Nat) (s : Dev) : Dev :=
  match findItem (s.qp q) index with
  | some i => if qpUsable s q then (issueRead q index .fence (fenceAddr i) 0 s).getD (translationFault q index s) else fenceFailed q index 7 s
  | none => s

/-- The good outcome of a descriptor is recorded. -/
def recordGood (q index : Nat) (o : WorkOutcome) (s : Dev) : Dev :=
  s.setQp q (onItem (s.qp q) index (fun i => setOutcome { o with time := recordTime s i } i))

/-- The writes of a descriptor whose work is done have left: its FENCE read goes out, or its outcome is recorded (R228). -/
def writesGone (q index : Nat) (s : Dev) : Dev :=
  match findItem (s.qp q) index with
  | some i =>
    match i.fencing with
    | some o => if dFence i.words && writesHost i then fenceRead q index s else recordGood q index o s
    | none => s
  | none => s

/-- The work of a descriptor is done: it ends with an outcome once its writes have left and, with FENCE on work that writes to the host, a zero-length
read to the last byte written has completed (R228, R239). -/
def endsWith (q index : Nat) (o : WorkOutcome) (s : Dev) : Dev :=
  let x := s.qp q
  match findItem x index with
  | none => s
  | some i =>
    if i.outcome.isSome || i.fencing.isSome then s
    else
      let s1 := s.setQp q (onItem x index (fun i => { i with fencing := some o }))
      if i.writes.isEmpty then writesGone q index s1 else s1

/-- It ends GOOD, COMPLETED. -/
def goodItem (q index bytes rxFlags detail : Nat) (s : Dev) : Dev :=
  endsWith q index { status := 0, progress := 0, bytes := bytes, frag := 0, detail := detail, time := s.now, rxFlags := rxFlags } s

/-! ### DMA channels (R236, R237) -/

/-- FILL: cached descriptors of the channel not yet started (R237). -/
def Dev.dmaFill (s : Dev) (c : Nat) : Nat := ((s.qpsOn c).map (fun q => cachedCount (s.qp q))).sum

/-- Descriptors in progress on a channel. -/
def Dev.dmaBusy (s : Dev) (c : Nat) : Nat :=
  ((s.qpsOn c).map (fun q => ((s.qp q).items.filter (fun i => i.started && i.outcome.isNone)).length)).sum

/-- Host reads outstanding on a channel (R236). -/
def Dev.readsOn (s : Dev) (c : Nat) : Nat := (s.qde.reqs.filter (fun r => r.gone && (s.qp r.qp).channel == c)).length

/-- A channel evaluates FILL: pending thresholds apply, and the fetcher starts at LOW_WATER or below and stops at HIGH_WATER
(R116, R237). -/
def evalFill (c : Nat) (s : Dev) : Dev :=
  let d := s.dma c
  let d1 := { d with low := d.pendLow.getD d.low, high := d.pendHigh.getD d.high, pendLow := none, pendHigh := none }
  let f := s.dmaFill c
  let d2 := { d1 with fetching := if f ≤ d1.low then true else if d1.high ≤ f then false else d1.fetching }
  let s1 := s.setDma c d2
  if d.pendLow.isSome ∨ d.pendHigh.isSome then
    { s1 with regs := { s1.regs with applyCount := SMap.put 0 s1.regs.applyCount isl.QDE (SMap.get 0 s1.regs.applyCount isl.QDE + 1) } }
  else s1

/-- A new WEIGHT of a slice applies at the next descriptor that the channel starts (R176, R177). -/
def resizeAtStart (sl chan : Nat) (s : Dev) : Dev :=
  let z := s.slice sl
  s.setSlice sl { z with pendDma := z.pendDma.filter (fun e => e.1 != chan) }

/-- A channel starts a descriptor of a queue pair: a new WEIGHT applies, and FILL is evaluated (R116, R176, R237). -/
def channelStarts (q : Nat) (s : Dev) : Dev :=
  let x := s.qp q
  evalFill x.channel (resizeAtStart x.slice x.channel (s.setDma x.channel { s.dma x.channel with lastStart := q }))

/-- A write of DMA_CFG for the selected channel: refused whole when it breaks a range, else pending (R116, R242). -/
def dmaCfgWrite (w : W64) (s : Dev) : Dev :=
  let c := s.regField isl.QDE 0x200 6 0
  let low := fld w 7 0
  let high := fld w 15 8
  if low ≤ 127 ∧ low + 1 ≤ high ∧ high ≤ 128 then s.setDma c { s.dma c with pendLow := some low, pendHigh := some high }
  else count .dmaCfgReject 0 s

/-- What DMA_CFG reads as: pending values where there are any. -/
def Dev.dmaCfgShown (s : Dev) : W64 :=
  let d := s.dma (s.regField isl.QDE 0x200 6 0)
  mk64 [d.pendLow.getD d.low, at' (d.pendHigh.getD d.high) 8]

end Sys2Proof.Machine
end

