-- ==== Sys2Proof/Machine/ChetasMem.lean ====
section
/-! DEFINITION. Scratch memory, packets, tags, tables, state memory and channels (R352 to R362, Table 10-5). -/
namespace Sys2Proof.Machine

/-! ### Scratch memory -/

/-- SIZE and OFFSET of a load or store, and its address (Table 10-5). -/
def accSize (imm : BitVec 16) : Nat := 2 ^ (imm.toNat / 2 ^ 14)
def accAddr (s : Dev) (t : Nat) (s1 : BitVec 5) (imm : BitVec 16) : Nat := (s.reg t s1 + BitVec.ofNat 64 (imm.toNat % 4096)).toNat

/-- The fault of a scratch access: SCRATCH_RANGE, then ALIGN (DESIGN CHOICE, log 51). -/
def scratchFault (a n : Nat) : Option Nat := if 4096 < a + n then some 3 else if a % n ≠ 0 then some 4 else none

/-- LDL. -/
def ldl (t : Nat) (dst s1 : BitVec 5) (imm : BitVec 16) (s : Dev) : Dev :=
  let a := accAddr s t s1 imm
  match scratchFault a (accSize imm) with
  | some c => threadFault t c 0 s
  | none => retire t dst (BitVec.ofNat 64 (leNat (Memory.readN (s.thread t).scratch a (accSize imm)))) s

/-- LDL: a scratch load (Table 10-5). -/
def execLdl (t : Nat) (dst s1 : BitVec 5) (imm : BitVec 16) (s : State) : Host.Outcome State Fault Refusal := ran (Wf.ldl t dst s1 imm) (issue t (encI 0x18 dst s1 imm) (ldl t dst s1 imm)) s

/-- STL. -/
def stl (t : Nat) (dst s1 : BitVec 5) (imm : BitVec 16) (s : Dev) : Dev :=
  let a := accAddr s t s1 imm
  match scratchFault a (accSize imm) with
  | some c => threadFault t c 0 s
  | none =>
    let x := s.thread t
    toNext t (s.setThread t { x with scratch := Memory.writeN x.scratch a (leBytes (s.reg t dst).toNat (accSize imm)) })

/-- STL: a scratch store of DST (Table 10-5). -/
def execStl (t : Nat) (dst s1 : BitVec 5) (imm : BitVec 16) (s : State) : Host.Outcome State Fault Refusal := ran (Wf.stl t dst s1 imm) (issue t (encI 0x19 dst s1 imm) (stl t dst s1 imm)) s

/-! ### The held packet -/

/-- An instruction on the held packet: NO_PACKET with none held (R352); `empty` after a forced quiesce took the packet (R358). -/
def onHeld (t : Nat) (empty : Dev → Dev) (f : Pkt → Dev → Dev) (s : Dev) : Dev :=
  match (s.thread t).held with
  | some p => f p s
  | none => if (s.thread t).heldEmpty then empty s else threadFault t 6 0 s

/-- The held packet changes. -/
def setHeld (t : Nat) (p : Pkt) (s : Dev) : Dev := s.setThread t { s.thread t with held := some (Pkt.fixLength p) }

/-- PLD. -/
def pld (t : Nat) (dst s1 : BitVec 5) (imm : BitVec 16) (s : Dev) : Dev :=
  let a := accAddr s t s1 imm
  onHeld t (retire t dst 0) (fun p s =>
    if p.bytes.length < a + accSize imm then threadFault t 5 0 s
    else retire t dst (BitVec.ofNat 64 (beNat ((p.bytes.drop a).take (accSize imm)))) s) s

/-- PLD: a packet load, most significant byte first (R352). -/
def execPld (t : Nat) (dst s1 : BitVec 5) (imm : BitVec 16) (s : State) : Host.Outcome State Fault Refusal := ran (Wf.pld t dst s1 imm) (issue t (encI 0x1A dst s1 imm) (pld t dst s1 imm)) s

/-- PST. -/
def pst (t : Nat) (dst s1 : BitVec 5) (imm : BitVec 16) (s : Dev) : Dev :=
  let a := accAddr s t s1 imm
  let n := accSize imm
  onHeld t (toNext t) (fun p s =>
    if p.bytes.length < a + n then threadFault t 5 0 s
    else toNext t (setHeld t { p with bytes := p.bytes.take a ++ beBytes ((s.reg t dst).toNat % 2 ^ (8 * n)) n ++ p.bytes.drop (a + n) } s)) s

/-- PST: a packet store of DST (R352). -/
def execPst (t : Nat) (dst s1 : BitVec 5) (imm : BitVec 16) (s : State) : Host.Outcome State Fault Refusal := ran (Wf.pst t dst s1 imm) (issue t (encI 0x1B dst s1 imm) (pst t dst s1 imm)) s

/-- The value of a CTR selector: a container, or a header record (Table 10-5). -/
def ctrValue (p : Pkt) (n : Nat) : W64 :=
  if n < 48 then (SMap.get 0 p.ps.containers n).zeroExtend 64
  else match p.ps.stack[n - 64]? with
    | some (h, o) => mk64 [h.toNat, at' (lo 16 o) 8, at' 1 63]
    | none => 0

/-- CTR: a container or a header record of the held packet (Table 10-5). -/
def execCtr (t : Nat) (dst s1 : BitVec 5) (imm : BitVec 16) (s : State) : Host.Outcome State Fault Refusal := ran (Wf.ctr t dst s1 imm) (issue t (encI 0x1C dst s1 imm) (onHeld t (retire t dst 0) (fun p => retire t dst (ctrValue p (imm.toNat % 128))))) s

/-- The fields of Table 10-8. -/
def tagField (s : Dev) (p : Pkt) (sel : Nat) : Nat :=
  match sel with
  | 0 => p.tag.slice.toNat
  | 1 => p.tag.vslot.toNat + 8 * p.tag.vcheck.toNat + 2 ^ 32 * (s.slot p.tag.vslot.toNat).version.toNat
  | 2 => p.tag.entryTime.toNat
  | 3 => p.tag.ingress.toNat
  | 4 => p.tag.queue.toNat
  | 5 => p.tag.colour.toNat
  | 6 => p.tag.pass.toNat
  | 7 => p.tag.flags.toNat
  | 8 => p.tag.meterClass.toNat
  | 9 => p.tag.flowHash.toNat
  | 10 => p.tag.length.toNat
  | 11 => p.tag.originNode.toNat
  | 12 => p.ps.segment.getD 0
  | 13 => p.tag.traceId.toNat
  | _ => match p.dest with
    | .program n => n
    | _ => 0

/-- TAGR: selector 15 raises ILLEGAL (Table 10-8). -/
def tagr (t : Nat) (dst : BitVec 5) (sel : Nat) (s : Dev) : Dev :=
  if sel = 15 then threadFault t 1 0 s
  else onHeld t (retire t dst 0) (fun p s => retire t dst (BitVec.ofNat 64 (tagField s p sel)) s) s

/-- TAGR (R353). -/
def execTagr (t : Nat) (dst s1 : BitVec 5) (imm : BitVec 16) (s : State) : Host.Outcome State Fault Refusal := ran (Wf.tagr t dst s1 imm) (issue t (encI 0x1D dst s1 imm) (tagr t dst (imm.toNat % 16))) s

/-- The tag after a TAGW that Table 10-8 permits: QUEUE; COLOUR from green to yellow or red, or from yellow to red; METER_CLASS 0 to 63. -/
def tagWritten (g : Tag) (sel : Nat) (v : W64) : Option Tag :=
  match sel with
  | 4 => some { g with queue := v.truncate 18 }
  | 5 =>
    if (g.colour = 0 ∧ (v = 1 ∨ v = 2)) ∨ (g.colour = 1 ∧ v = 2) then some { g with colour := v.truncate 2 } else none
  | 8 => if v.toNat ≤ 63 then some { g with meterClass := v.truncate 6 } else none
  | _ => none

/-- TAGW: a field that may not be written so raises TAG_WRITE (R353). -/
def tagw (t : Nat) (s1 : BitVec 5) (sel : Nat) (s : Dev) : Dev :=
  if sel = 15 then threadFault t 1 0 s
  else onHeld t (toNext t) (fun p s =>
    match tagWritten p.tag sel (s.reg t s1) with
    | some g => toNext t (setHeld t { p with tag := g } s)
    | none => threadFault t 8 0 s) s

/-- TAGW (R353). -/
def execTagw (t : Nat) (dst s1 : BitVec 5) (imm : BitVec 16) (s : State) : Host.Outcome State Fault Refusal := ran (Wf.tagw t dst s1 imm) (issue t (encI 0x1E dst s1 imm) (tagw t s1 (imm.toNat % 16))) s

/-- LENGTH stays between 14 and 16,384 (R352). -/
def lengthOk (n : Int) : Bool := decide (14 ≤ n) && decide (n ≤ 16384)

/-- PHEAD: n > 0 removes front bytes, n < 0 adds zero bytes, at most 256 in one visit (R352). -/
def phead (t : Nat) (n : Int) (s : Dev) : Dev :=
  onHeld t (toNext t) (fun p s =>
    let x := s.thread t
    let add := (-n).toNat
    if !lengthOk ((p.bytes.length : Int) - n) || decide (256 < x.frontAdded + add) then threadFault t 5 0 s
    else
      let bs := if 0 < n then p.bytes.drop n.toNat else List.replicate add 0 ++ p.bytes
      let s1 := setHeld t { p with bytes := bs, ps := { p.ps with frontDelta := p.ps.frontDelta - n } } s
      toNext t (s1.setThread t { s1.thread t with frontAdded := x.frontAdded + add })) s

/-- PHEAD (R352). -/
def execPhead (t : Nat) (dst s1 : BitVec 5) (imm : BitVec 16) (s : State) : Host.Outcome State Fault Refusal := ran (Wf.phead t dst s1 imm) (issue t (encI 0x1F dst s1 imm) (phead t imm.toInt)) s

/-- PLEN: LENGTH becomes `n`; bytes added at the tail read 0, at most 256 in one visit (R352). -/
def plen (t n : Nat) (s : Dev) : Dev :=
  onHeld t (toNext t) (fun p s =>
    let x := s.thread t
    let add := n - p.bytes.length
    if !lengthOk n || decide (256 < x.tailAdded + add) then threadFault t 5 0 s
    else
      let s1 := setHeld t { p with bytes := p.bytes.take n ++ List.replicate add 0 } s
      toNext t (s1.setThread t { s1.thread t with tailAdded := x.tailAdded + add })) s

/-- PLEN (R352). -/
def plenCmd (t : Nat) (dst s1 : BitVec 5) (imm : BitVec 16) (s : Dev) : Dev := issue t (encI 0x20 dst s1 imm) (fun s => plen t (s.reg t s1 + sext imm).toNat s) s

/-- The command. -/
def execPlen (t : Nat) (dst s1 : BitVec 5) (imm : BitVec 16) (s : State) : Host.Outcome State Fault Refusal := ran (Wf.plen t dst s1 imm) (plenCmd t dst s1 imm) s

/-- PKTGET: the head of the input queue becomes the held packet, and its budget begins (Table 10-5). -/
def pktget (t : Nat) (dst : BitVec 5) (s : Dev) : Dev :=
  let x := s.thread t
  if x.held.isSome then threadFault t 7 0 s
  else match x.input with
    | [] => retire t dst 0 (s.setThread t { x with heldEmpty := false })
    | p :: rest =>
      let s1 := chargeCycles t s
      retire t dst 1 (s1.setThread t { s1.thread t with input := rest, held := some p, heldEmpty := false, takenAt := s.now, copies := 0,
                                                        frontAdded := 0, tailAdded := 0 })

/-- PKTGET (R351). -/
def execPktget (t : Nat) (dst s1 : BitVec 5) (imm : BitVec 16) (s : State) : Host.Outcome State Fault Refusal := ran (Wf.pktget t dst s1 imm) (issue t (encI 0x21 dst s1 imm) (pktget t dst)) s

/-! ### Dispositions -/

/-- A group of slice `owner` may dispose of a packet so (Table 10-10): FORWARD of a tenant's group reaches only a queue pair of the packet's
slice on that slice's port. -/
def dispositionOk (s : Dev) (owner : Nat) (p : Pkt) (kind : Nat) (copy : Bool) (arg : W64) : Bool :=
  let sl := p.tag.slice.toNat
  let q := s.qp (fld arg 25 8)
  [1, 2, 6, 9, 10].contains kind && (!copy || kind == 1 || kind == 2) &&
    (kind != 1 || owner == 0 || (fld arg 7 0 == 72 + s.slicePort sl && q.valid && q.slice == sl))

/-- A packet leaves an action core by FORWARD, FORWARD_NODE, RECIRC, EXCEPTION or DROP (Table 10-10). -/
def sendOut (t : Nat) (p : Pkt) (kind : Nat) (arg : W64) (s : Dev) : Dev :=
  let i := actIsland t
  let s1 := traceStep i 5 p.tag.ingress.toNat p s
  match kind with
  | 1 =>
    let e := fld arg 7 0
    if s.egressOk e then post i isl.TMG { withQueue e (fld arg 25 8) p with dest := .port e } s1
    else count .fwdBadEgress p.pipe (dropPkt i p s1)
  | 2 =>
    if (s.route (fld arg 19 0)).isNone then count .fwdBadEgress p.pipe (dropPkt i p s1)
    else post i isl.TMG { withQueue 75 p.tag.queue.toNat p with dest := .node (fld arg 19 0) } s1
  | 6 =>
    let entry := if bit arg 12 then some (fld arg 11 8) else p.ps.entryIdx
    post i (pipeIsland p.pipe) { p with dest := .undecided, ps := { p.ps with plan := some (fld arg 7 0), entryIdx := entry } } s1
  | 9 =>
    match s.exceptionQueue p.tag.slice.toNat with
    | some qp => post i isl.TMG { withQueue (72 + s.slicePort p.tag.slice.toNat) qp p with dest := .exception } s1
    | none => count .clsActionDrop p.pipe (dropPkt i p s1)
  | _ => count .actProgramDrop (coreOf t) (dropPkt i p s1)

/-- PKTOUT of KIND `kind`: the held packet leaves, or with COPY a copy with FLAGS.MIRROR does, at most 4 in a visit (R357). The copy counts in
flight for no distributor and is no work of a host send. -/
def pktout (t kind : Nat) (copy : Bool) (arg : W64) (s : Dev) : Dev :=
  onHeld t (toNext t) (fun p s =>
    let x := s.thread t
    if !dispositionOk s (s.threadSlice t) p kind copy arg then threadFault t 9 0 s
    else if copy then
      if 4 ≤ x.copies then threadFault t 10 0 s
      else
        let c := { p with tag := p.tag.setFlag 11, dist := 8, work := none }
        toNext t (count .actCopies (coreOf t) (sendOut t c kind arg (s.setThread t { x with copies := x.copies + 1 })))
    else toNext t (sendOut t p kind arg (releaseHeld t s))) s

/-- PKTOUT (R357). -/
def pktoutCmd (t : Nat) (dst s1 : BitVec 5) (imm : BitVec 16) (s : Dev) : Dev := issue t (encI 0x22 dst s1 imm) (fun s => pktout t (imm.toNat % 16) (imm.getLsbD 4) (s.reg t s1) s) s

/-- The command. -/
def execPktout (t : Nat) (dst s1 : BitVec 5) (imm : BitVec 16) (s : State) : Host.Outcome State Fault Refusal := ran (Wf.pktout t dst s1 imm) (pktoutCmd t dst s1 imm) s

/-- The owner slice is in a quiesce, from its step 1 to the slice reset (R359). -/
def creationStopped (s : Dev) (sl : Nat) : Bool :=
  let z := (s.slice sl).state
  decide (z = .quiescing) || decide (z = .forcing) || decide (z = .quiesced) || decide (z = .resetting)

/-- PKTNEW: a packet of `n` scratch bytes from `a` (R359). Fewer than 14 bytes make no packet: refused (log 52). -/
def pktnew (t : Nat) (dst : BitVec 5) (a n : Nat) (s : Dev) : Dev :=
  if 4096 < a + n then threadFault t 3 0 s
  else
    let sl := s.threadSlice t
    let d := if t < 256 then 6 else 7
    let bs := Memory.readN (s.thread t).scratch a n
    let full := bucketFull s d (flowHash (BitVec.ofNat 12 sl) bs) ((n + 32 + 255) / 256)
    if n < 14 ∨ full ∨ creationStopped s sl then
      retire t dst 0 (count .actCreateRefused (coreOf t) (whenB (full && decide (14 ≤ n) && !creationStopped s sl) (count .distHoldFull d) s))
    else
      retire t dst 1 (count .actCreated (coreOf t) (meterAdd sl 28 1 s.now (tagAndQueue d (BitVec.ofNat 12 sl) 79 s.now bs id s)))

/-- PKTNEW (R359). -/
def pktnewCmd (t : Nat) (dst s1 s2 : BitVec 5) (func : BitVec 11) (s : Dev) : Dev := issue t (encA 0x23 dst s1 s2 func) (fun s => pktnew t dst (s.reg t s1).toNat (s.reg t s2).toNat s) s

/-- The command. -/
def execPktnew (t : Nat) (dst s1 s2 : BitVec 5) (func : BitVec 11) (s : State) : Host.Outcome State Fault Refusal := ran (Wf.pktnew t dst s1 s2 func) (pktnewCmd t dst s1 s2 func) s

/-! ### Tables -/

/-- Key bytes from SRC1 [63:56] onwards, through the following registers (R354). -/
def tlkKey (s : Dev) (t r n : Nat) : List Byte :=
  ((List.range ((n + 7) / 8)).flatMap (fun i =>
    beBytes (if r + i < 32 then Thread.reg (s.thread t) (r + i) else Config.absentReg (r + i)).toNat 8)).take n

/-- The slot of a TLK: the held packet's, or the one that is ACTIVE as it issues (R354). -/
def tlkSlot (s : Dev) (t : Nat) : Nat :=
  match (s.thread t).held with
  | some p => p.tag.vslot.toNat
  | none => s.activeSlot.getD 0

/-- TABLE_MASK in force: of the binding that the held packet was dispatched by, or with none held of the bindings of the ACTIVE slot to the
thread's owner and image (R354, log 53). -/
def tlkMask (s : Dev) (t : Nat) : Nat :=
  match (s.thread t).held with
  | some p => match p.dest with
    | .program n => progMask (progBinding s p.tag.vslot.toNat (n % 4096))
    | _ => 0
  | none =>
    let image := ((s.threadImage t).map ActImage.imageId).getD 0
    ((s.slot (s.activeSlot.getD 0)).rules.programs.filter (fun e => e.2.valid && progOwner e.2 == s.threadSlice t && progImage e.2 == image)).foldl
      (fun m e => m ||| progMask e.2) 0

/-- A lookup's answer goes to DST and DST + 1: word A with bit 63 set, and word B; on a miss 0, and in DST + 1 a free value, since the spec
states word B of no record (R354, log 54). -/
def tlkAnswer (t dst : Nat) (e : Option Entry) (s : Dev) : Dev :=
  match e with
  | some e => s.setThread t (Thread.setReg (Thread.setReg (s.thread t) dst (e.act.a ||| (BitVec.ofNat 64 (2 ^ 63)))) (dst + 1) e.act.b)
  | none =>
    { (s.setThread t (Thread.setReg (Thread.setReg (s.thread t) dst 0) (dst + 1) (BitVec.ofNat 64 (Config.freeNat s.freeCtr)))) with
      freeCtr := s.freeCtr + 1 }

/-- The GDDR7 line of a word of a thread's state memory, in the program region. -/
def stateLineOf (s : Dev) (t a : Nat) : Nat := 12672 * 16384 + Config.stateLine (s.thread t).group (a / 64) % (programMib s * 16384)

/-- An access of a thread is charged to GDDR7 as its slice's request (R356, R366). -/
def chargeAccess (t line : Nat) (write : Bool) (s : Dev) : Dev :=
  memRequest (chargedSlice s t) write line ((s.thread t).held.map (fun p => p.tag.entryTime)) s

/-- A thread stalls at the next instruction until its access is answered (R341). -/
def stallOn (t : Nat) (w : Stall) (s : Dev) : Dev :=
  let s1 := toNext t s
  s1.setThread t { s1.thread t with state := .stalled, stall := some w }

/-- A lookup of a thread meets a lost entry or line: counted and logged as for a classification (R320), and STATE_POISON is raised, as for a read of
state that arrives poisoned (DEDUCED, log 114). -/
def tlkLost (t table index : Nat) (s : Dev) : Dev :=
  let pipe := ((s.thread t).held.map Pkt.pipe).getD 0
  threadFault t 13 0 (logFault (pipeIsland pipe) 0xFF 0x0902 0 (mk64 [lo 4 table, at' (lo 32 index) 8]) 0 (count .clsExtPoison pipe s))

/-- TLK: a table outside the mask raises TABLE_DENIED; a lookup that reads GDDR7 stalls the thread (R354). -/
def tlk (t : Nat) (dst s1 : BitVec 5) (table : Nat) (s : Dev) : Dev :=
  if !(decide (table < 14) && tlkMask s t / 2 ^ table % 2 == 1) then threadFault t 11 0 s
  else
    let k := tlkSlot s t
    let d := RuleSet.tableDef (s.rules' k) table
    let key := tlkKey s t s1.toNat d.keyBytes
    match badPlace s table d key with
    | some p => tlkLost t table p s
    | none =>
      let l := lookup s k table key
      if l.ext then
        stallOn t (.table dst.toNat table key k)
          (((extBuckets table d key).map (bucketLine table)).foldl (fun s n => chargeAccess t n false s) s)
      else toNext t (tlkAnswer t dst.toNat (l.hit.map Prod.fst) s)

/-- TLK (R354). -/
def execTlk (t : Nat) (dst s1 : BitVec 5) (imm : BitVec 16) (s : State) : Host.Outcome State Fault Refusal := ran (Wf.tlk t dst s1 imm) (issue t (encI 0x28 dst s1 imm) (tlk t dst s1 (imm.toNat % 16))) s

/-! ### Dev memory -/

/-- The fault of a state access of `n` bytes at `a`: ALIGN, then STATE_RANGE (R355, log 51). -/
def stateFault (s : Dev) (t a n : Nat) : Option Nat :=
  if a % n ≠ 0 then some 4 else if (((s.threadGroup t).map Group.stateMib).getD 0) * 2 ^ 20 < a + n then some 12 else none

/-- The group's state memory after a store of bytes, which ends the poison of the words that it writes (R356). -/
def storeState (t a : Nat) (bs : List Byte) (s : Dev) : Dev :=
  match s.threadGroup t with
  | some g =>
    s.setGroup (s.thread t).group
      (some { g with mem := Memory.writeN g.mem a bs, poisoned := g.poisoned.filter (fun w => decide (w ≠ a / 8)),
                     cured := if s.mem.poisoned.contains (stateLineOf s t a) && !g.cured.contains (a / 8) then a / 8 :: g.cured else g.cured })
  | none => s

/-- The 8 bytes, or fewer, at an address of the group's state memory. -/
def loadState (s : Dev) (t a n : Nat) : W64 := BitVec.ofNat 64 (leNat (Memory.readN (((s.threadGroup t).map Group.mem).getD []) a n))

/-- The word at an address of state memory is poisoned: a read of it arrived so, or its GDDR7 line is and no store has written the word (R356,
R491). -/
def statePoisoned (s : Dev) (t a : Nat) : Bool :=
  match s.threadGroup t with
  | some g => g.poisoned.contains (a / 8) || (s.mem.poisoned.contains (stateLineOf s t a) && !g.cured.contains (a / 8))
  | none => false

/-- SLD. -/
def sld (t : Nat) (dst s1 : BitVec 5) (imm : BitVec 16) (s : Dev) : Dev :=
  let a := accAddr s t s1 imm
  match stateFault s t a (accSize imm) with
  | some c => threadFault t c 0 s
  | none => stallOn t (.load dst.toNat a (accSize imm)) (chargeAccess t (stateLineOf s t a) false s)

/-- SLD: a state memory load (R355). -/
def execSld (t : Nat) (dst s1 : BitVec 5) (imm : BitVec 16) (s : State) : Host.Outcome State Fault Refusal := ran (Wf.sld t dst s1 imm) (issue t (encI 0x29 dst s1 imm) (sld t dst s1 imm)) s

/-- SST. -/
def sst (t : Nat) (dst s1 : BitVec 5) (imm : BitVec 16) (s : Dev) : Dev :=
  let a := accAddr s t s1 imm
  match stateFault s t a (accSize imm) with
  | some c => threadFault t c 0 s
  | none => toNext t (storeState t a (leBytes (s.reg t dst).toNat (accSize imm)) (chargeAccess t (stateLineOf s t a) true s))

/-- SST: a state memory store of DST (R355). -/
def execSst (t : Nat) (dst s1 : BitVec 5) (imm : BitVec 16) (s : State) : Host.Outcome State Fault Refusal := ran (Wf.sst t dst s1 imm) (issue t (encI 0x2A dst s1 imm) (sst t dst s1 imm)) s

/-- What an atomic stores, of the old value, SRC2, and DST's value on entry; none where it stores nothing (R355). -/
def atomFn (func : Nat) (old b d : W64) : Option W64 :=
  match func with
  | 0 => some (old + b)
  | 1 => some b
  | 2 => if old = b then some d else none
  | 3 => some (if old.ult b then b else old)
  | _ => some (old ||| b)

/-- An atomic takes effect in MEM, in one indivisible read and write (R355). -/
def atomic (t a func : Nat) (b d : W64) (s : Dev) : Dev :=
  match atomFn func (loadState s t a 8) b d with
  | some v => storeState t a (wordBytes v) s
  | none => s

/-- SATOM: ADD, MAXU and OR with DST g0 are posted, any other stalls the thread (R355). A posted one on a poisoned word has no effect, its
read having failed (log 55). -/
def satom (t : Nat) (dst s1 s2 : BitVec 5) (func : Nat) (s : Dev) : Dev :=
  let a := (s.reg t s1).toNat
  match stateFault s t a 8 with
  | some c => threadFault t c 0 s
  | none =>
    let r := chargeAccess t (stateLineOf s t a) true (chargeAccess t (stateLineOf s t a) false s)
    if dst = 0 ∧ func ≠ 1 ∧ func ≠ 2 then
      toNext t (if statePoisoned s t a then r else atomic t a func (s.reg t s2) 0 r)
    else stallOn t (.atomic dst.toNat a func (s.reg t s2) (s.reg t dst)) r

/-- SATOM (R355). -/
def execSatom (t : Nat) (dst s1 s2 : BitVec 5) (func : BitVec 11) (s : State) : Host.Outcome State Fault Refusal := ran (Wf.satom t dst s1 s2 func) (issue t (encA 0x2B dst s1 s2 func) (satom t dst s1 s2 func.toNat)) s

/-- FENCE: the thread's stores have completed as they were issued, so nothing is left to wait for (Table 10-5). -/
def execFence (t : Nat) (dst s1 : BitVec 5) (imm : BitVec 16) (s : State) : Host.Outcome State Fault Refusal := ran (Wf.fence t dst s1 imm) (issue t (encI 0x2C dst s1 imm) (toNext t)) s

/-- A thread leaves STALLED with its answer. -/
def unstall (t : Nat) (s : Dev) : Dev := s.setThread t { s.thread t with state := .ready, stall := none }

/-- A word becomes poisoned (R356). -/
def poisonState (t a : Nat) (s : Dev) : Dev :=
  match s.threadGroup t with
  | some g => s.setGroup (s.thread t).group (some { g with poisoned := if g.poisoned.contains (a / 8) then g.poisoned else a / 8 :: g.poisoned })
  | none => s

/-- DST receives a value as the thread leaves STALLED. -/
def unstallWith (t dst : Nat) (v : W64) (s : Dev) : Dev :=
  let s1 := unstall t s
  s1.setThread t (Thread.setReg (s1.thread t) dst v)

/-- STATE_ACCESS_RESPONSE: the access takes effect and its value returns; a poisoned read raises STATE_POISON (R356). A response poisoned on the
crossing alone fails its lookup too, and a later one reads the line afresh (Table 1-4). -/
def stateResponse (t : Nat) (poisoned : Bool) (s : Dev) : Dev :=
  let x := s.thread t
  if x.state ≠ .stalled then s
  else settleGroup x.group (match x.stall with
    | none => s
    | some (.load dst a n) =>
      if poisoned || statePoisoned s t a then threadFault t 13 0 (poisonState t a s)
      else unstallWith t dst (loadState s t a n) s
    | some (.atomic dst a func b d) =>
      if poisoned || statePoisoned s t a then threadFault t 13 0 (poisonState t a s)
      else unstallWith t dst (loadState s t a 8) (atomic t a func b d s)
    | some (.table dst table key k) =>
      match badBucket s table (RuleSet.tableDef (s.rules' k) table) key with
      | some b => tlkLost t table b s
      | none => if poisoned then threadFault t 13 0 s else unstall t (tlkAnswer t dst (findEntry s k table key) s))

/-- A state memory or table response returns to a STALLED thread (R341, R356). -/
def execStateAccessResponse (t : Nat) (poisoned : Bool) (s : State) : Host.Outcome State Fault Refusal := ran (Wf.stateAccessResponse t poisoned) (stateResponse t poisoned) s

/-! ### Channels -/

/-- The thread that TARGET names, of the sender's cluster (R360). -/
def chTarget (t : Nat) (imm : BitVec 16) : Nat := 64 * (t / 64) + imm.toNat % 64

/-- The target is FREE or of another slice (R360). -/
def chTargetBad (s : Dev) (t u : Nat) : Bool := decide ((s.thread u).state = .free) || s.threadSlice u != s.threadSlice t

/-- A commit: the target accepts the message whole, or refuses it while its queue of 4 is full (R360). -/
def chCommit (t u : Nat) (dst : BitVec 5) (words : List W64) (s : Dev) : Dev :=
  if 4 ≤ (s.thread u).recvQ.length then
    let s1 := count .actChRefused (coreOf t) s
    retire t dst 0 (s1.setThread t { s1.thread t with refusedBy := some u })
  else
    let s1 := s.setThread u { s.thread u with recvQ := (s.thread u).recvQ ++ [(t, words)] }
    retire t dst 1 (s1.setThread t { s1.thread t with staging := [], stTarget := none })

/-- CHSEND (R360). A LAST word with nothing staged goes to the target that it names itself (log 56). -/
def chsend (t : Nat) (dst s1 : BitVec 5) (imm : BitVec 16) (s : Dev) : Dev :=
  let x := s.thread t
  let word := imm.toNat / 64 % 4
  let u := if word = 0 then chTarget t imm else x.stTarget.getD (chTarget t imm)
  let words := setAt ((if word = 0 then [] else x.staging) ++ List.replicate (4 - (if word = 0 then 0 else x.staging.length)) 0) word (s.reg t s1)
  let last := imm.getLsbD 8
  if (word = 0 ∨ last) ∧ chTargetBad s t u then threadFault t 14 0 s
  else
    let s2 := s.setThread t { x with staging := words, stTarget := if word = 0 then some u else x.stTarget }
    if last then chCommit t u dst (words.take (word + 1)) s2 else toNext t s2

/-- CHSEND (R360). -/
def execChsend (t : Nat) (dst s1 : BitVec 5) (imm : BitVec 16) (s : State) : Host.Outcome State Fault Refusal := ran (Wf.chsend t dst s1 imm) (issue t (encI 0x30 dst s1 imm) (chsend t dst s1 imm)) s

/-- CHRECV: a word of the head message, or with INFO its word count and sender; with POP it is then removed (R362). -/
def chrecv (t : Nat) (dst : BitVec 5) (imm : BitVec 16) (s : Dev) : Dev :=
  let x := s.thread t
  let v : W64 := match x.recvQ with
    | [] => 0
    | (u, ws) :: _ => if imm.getLsbD 3 then mk64 [ws.length, at' (u % 64) 3] else ws.getD (imm.toNat % 4) 0
  retire t dst v (if imm.getLsbD 2 then s.setThread t { x with recvQ := x.recvQ.drop 1 } else s)

/-- CHRECV (R362). -/
def execChrecv (t : Nat) (dst s1 : BitVec 5) (imm : BitVec 16) (s : State) : Host.Outcome State Fault Refusal := ran (Wf.chrecv t dst s1 imm) (issue t (encI 0x31 dst s1 imm) (chrecv t dst imm)) s

end Sys2Proof.Machine
end

