-- ==== Sys2Proof/Machine/Parser.lean ====
section
/-! DEFINITION. The parser: passes over a window, the microcode word, the control stores (R273 to R289). -/
namespace Sys2Proof.Machine

/-! ### Drops -/

/-- The descriptor of a host send that a dropped packet belonged to ends `BAD` and counts in DMA_BAD, unless its outcome is recorded (Table 1-4,
R85, R246). -/
def workBad (p : Pkt) (s : Dev) : Dev :=
  match p.work with
  | none => s
  | some w =>
    match (s.qp w.qp).items.find? (fun i => i.words ≠ [] && dSeq i.words == w.seq) with
    | some i => count .dmaBad (s.qp w.qp).channel (endItem w.qp i.index 1 s)
    | none => s

/-! ### The window -/

/-- Start of a pass's window (R273). -/
def windowStart (p : Pkt) : Nat :=
  if p.tag.pass = 0 then 0
  else Nat.min 256 (Int.toNat ((p.tag.windowOffset.toNat : Int) + p.ps.frontDelta))

/-- End of a window (R273). -/
def windowEnd (ws : Nat) : Nat := Nat.min (ws + 64) 256

/-- A frame byte as the parser reads it: 0 at or beyond LENGTH (R273). -/
def frameByte (p : Pkt) (o : Nat) : Nat := if o < p.tag.length.toNat then (byteAt p.bytes o).toNat else 0

/-- A 16-bit field, most significant byte first. -/
def frame16 (p : Pkt) (o : Nat) : Nat := frameByte p o * 256 + frameByte p (o + 1)

/-! ### The microcode word (Table 8-1) -/

/-- Bits [hi:lo] of a control-store word. -/
def mw (w : BitVec 256) (hi lo : Nat) : Nat := nfld w.toNat hi lo

/-- Extractor fields: enable, offset, bytes, first container. -/
def mwEx (w : BitVec 256) (x : Nat) : Bool × Nat × Nat × Nat :=
  if x = 0 then (mw w 102 102 == 1, mw w 101 96, mw w 95 92 + 1, mw w 91 86) else (mw w 85 85 == 1, mw w 84 79, mw w 78 75 + 1, mw w 74 69)

/-- Bytes past the cursor that the word's static reads reach (R281 step 1), the byte of the dynamic term included. -/
def mwFurthest (w : BitVec 256) : Nat :=
  let ex := fun x =>
    let (en, off, n, _) := mwEx w x
    if en then off + n else 0
  [if mw w 193 178 ≠ 0 then mw w 199 194 + 2 else 0, ex 0, ex 1, if mw w 59 59 = 1 then mw w 58 53 + 2 else 0,
   if mw w 122 122 = 1 then mw w 121 116 + 1 else 0].foldl Nat.max 0

/-- The advance of a word at absolute offset `at` (R281 step 1); a dynamic byte beyond the window's end is not read. -/
def mwAdvance (w : BitVec 256) (p : Pkt) (at₀ wend : Nat) : Nat :=
  let o := at₀ + mw w 121 116
  let dyn := if o < wend then (((frameByte p o >>> mw w 115 113) &&& mw w 112 105) <<< mw w 104 103) else 0
  mw w 129 123 + (if mw w 122 122 = 1 then dyn else 0)

/-- The length check passes (R281 step 3). -/
def mwLenOk (w : BitVec 256) (p : Pkt) (at₀ adv : Nat) : Bool :=
  let n := mw w 52 45 + frame16 p (at₀ + mw w 58 53)
  decide (at₀ + n ≤ p.tag.length.toNat) && decide (adv ≤ n)

/-- The branch source word (Table 8-2). -/
def branchSource (w : BitVec 256) (p : Pkt) (scratch : BitVec 4) (stack at₀ : Nat) (lenBad : Bool) : Nat :=
  let key := frame16 p (at₀ + mw w 199 194) &&& mw w 193 178
  let far := mwFurthest w
  let ing := p.tag.ingress.toNat
  [key, at' (b2n (key == mw w 177 162)) 16, at' (b2n (key == mw w 161 146)) 17, at' (b2n (key == mw w 145 130)) 18,
   at' (b2n (decide (key < mw w 177 162))) 19, at' (b2n (far ≠ 0 && decide (p.tag.length.toNat < at₀ + far))) 20, at' (b2n lenBad) 21,
   at' (b2n (p.tag.pass.toNat == 3)) 22, at' (b2n (stack == 12)) 23, at' (b2n (decide (72 ≤ ing) && decide (ing ≤ 74))) 24,
   at' (b2n (p.tag.flag 7)) 25, at' (b2n (p.tag.flag 8)) 26, at' (b2n (p.tag.flag 9)) 27, at' scratch.toNat 28].sum

/-- The next-instruction address (R281 step 5). -/
def nextAddress (w : BitVec 256) (src : Nat) : Nat :=
  let bitOf := fun i => if i < mw w 243 240 then at' (nfld src (mw w (204 + 5 * i) (200 + 5 * i)) (mw w (204 + 5 * i) (200 + 5 * i))) i else 0
  mw w 255 244 ||| ((List.range 8).map bitOf).sum

/-- Containers from `d` on take bytes in frame order, four each (R282). -/
def fillContainers (m : SMap (BitVec 32)) (d : Nat) (bs : List Byte) : SMap (BitVec 32) :=
  (List.range ((bs.length + 3) / 4)).foldl (fun m i =>
    let four := (bs.drop (4 * i)).take 4
    SMap.put 0 m (d + i) (BitVec.ofNat 32 (beNat (four ++ List.replicate (4 - four.length) 0)))) m

/-- The bytes of a frame from an offset, as the parser reads them. -/
def frameRun (p : Pkt) (o n : Nat) : List Byte := (List.range n).map (fun i => BitVec.ofNat 8 (frameByte p (o + i)))

/-- An enabled extractor writes its containers. -/
def extract (w : BitVec 256) (p : Pkt) (at₀ x : Nat) (m : SMap (BitVec 32)) : SMap (BitVec 32) :=
  let (en, off, n, d) := mwEx w x
  if en then fillContainers m d (frameRun p (at₀ + off) n) else m

/-! ### A pass -/

/-- How a pass ends: DONE, for another pass from an address (by spill or not), flagged (FLAGS bit 4 or 5) with the address of the
flagging instruction, or dropped at an uncorrectable word (R275, R283, R285, R288). -/
inductive PassEnd where
  | done (next : Nat)
  | again (next : Nat) (spill : Bool)
  | flagged (flag pc : Nat)
  | lost (pc : Nat)
  deriving DecidableEq, Repr

/-- Where a pass is: pipeline state, cursor, corrected words read. -/
structure PassState where
  ps : PipeState
  cursor : Nat
  corrected : Nat
  deriving DecidableEq, Repr

/-- A pass that needs another one sets PARSE_INCOMPLETE at PASS 3 (R276). -/
def againOr (p : Pkt) (pc next : Nat) (spill : Bool) : PassEnd :=
  if p.tag.pass = 3 then .flagged 4 pc else .again next spill

/-- One instruction: what it commits, with the next address, or how the pass ends before it commits (R275, R281, R282, R288). -/
def runWord (w : BitVec 256) (p : Pkt) (ws pc : Nat) (x : PassState) : PassEnd ⊕ (PassState × Nat) :=
  let here := ws + x.cursor
  let wend := windowEnd ws
  let adv := mwAdvance w p here wend
  let lenBad := mw w 59 59 == 1 && !mwLenOk w p here adv
  if wend < here + Nat.max adv (mwFurthest w) then
    .inl (if 64 < adv ∨ wend = 256 ∨ x.cursor = 0 then .flagged 4 pc else againOr p pc pc true)
  else if mw w 68 68 = 1 ∧ 12 ≤ x.ps.stack.length then .inl (.flagged 4 pc)
  else if lenBad && mw w 44 44 == 1 then .inl (.flagged 5 pc)
  else
    let next := nextAddress w (branchSource w p x.ps.scratch x.ps.stack.length here lenBad)
    let ps := { x.ps with
      containers := extract w p here 1 (extract w p here 0 x.ps.containers),
      stack := if mw w 68 68 = 1 then x.ps.stack ++ [(BitVec.ofNat 8 (mw w 67 60), here)] else x.ps.stack,
      scratch := (x.ps.scratch &&& ~~~(BitVec.ofNat 4 (mw w 39 36))) ||| BitVec.ofNat 4 (mw w 43 40) }
    .inr ({ x with ps := ps, cursor := x.cursor + adv }, next)

/-- What END and the limit of 24 instructions make of an instruction that has committed (R276, R283); none: the pass goes on. -/
def endOf (w : BitVec 256) (p : Pkt) (last : Bool) (pc next : Nat) : Option PassEnd :=
  if mw w 35 35 = 1 then
    match mw w 34 33 with
    | 0 => some (.done next)
    | 1 => some (againOr p pc next false)
    | 2 => some (.flagged 4 pc)
    | _ => some (.flagged 5 pc)
  else if last then some (againOr p pc next false)
  else none

/-- A pass's instructions, at most `n` more (R283): a word with an uncorrectable error ends it (R285), a flagging instruction leaves
the state as it was before it (R288). `errs` gives the ECC errors that reads meet: absolute word address, uncorrectable. -/
def runPass (im : Image) (bad : List Nat) (errs : List (Nat × Bool)) (p : Pkt) (ws : Nat) : Nat → Nat → PassState → PassEnd × PassState
  | 0, pc, x => (againOr p pc pc false, x)
  | n + 1, pc, x =>
    let a := 256 * im.baseSeg + pc
    if bad.contains a || errs.contains (a, true) then (.lost pc, x)
    else
      let x := if errs.contains (a, false) then { x with corrected := x.corrected + 1 } else x
      let w := im.words.getD pc 0
      match runWord w p ws pc x with
      | .inl e => (e, x)
      | .inr (y, next) =>
        match endOf w p (n == 0) pc next with
        | some (.flagged f k) => (.flagged f k, x)
        | some e => (e, y)
        | none => runPass im bad errs p ws n next y

/-- The default image's pass (R293, R302, R329): containers 0 to 3 from bytes 0 to 15, 4 to 7 the destination address, scratch bit 0
for IPv6; ends DONE. -/
def defaultPass (p : Pkt) (ws : Nat) : PassState :=
  let bs := (p.bytes.drop ws).take 256
  let ip := etherTypeOff bs + 2
  let v6 := be16 bs (ip - 2) == 0x86DD
  let v4 := be16 bs (ip - 2) == 0x0800
  let dst := if v6 then (bs.drop (ip + 24)).take 16 else if v4 then (bs.drop (ip + 16)).take 4 else []
  let rest := (List.range 40).foldl (fun m i => SMap.put 0 m (8 + i) (Config.defaultContainer bs (8 + i))) ([] : SMap (BitVec 32))
  { ps := { p.ps with containers := fillContainers (fillContainers rest 0 (frameRun p ws 16)) 4 dst,
                      stack := p.ps.stack ++ (Config.defaultStack bs).take (12 - p.ps.stack.length),
                      scratch := if v6 then 1 else 0 },
    cursor := Nat.min (windowEnd ws - ws) (Config.defaultCursor bs), corrected := 0 }

/-- A later pass under the default image begins at a resume address that the spec does not give (R278, R293): what it leaves in the containers,
the stack, the scratch bits and the cursor is free, drawn from number `n` on (log 11). It ends DONE. -/
def defaultLater (p : Pkt) (ws n : Nat) : PassState :=
  let free := fun (i : Nat) => Config.freeNat (n + i)
  { ps := { p.ps with containers := (List.range 48).foldl (fun m i => SMap.put 0 m i (BitVec.ofNat 32 (free i))) ([] : SMap (BitVec 32)),
                      stack := p.ps.stack ++ ((List.range (free 50 % 13)).map (fun i => (BitVec.ofNat 8 (free (52 + 2 * i)), free (53 + 2 * i) % 256))).take
                        (12 - p.ps.stack.length),
                      scratch := BitVec.ofNat 4 (free 48) },
    cursor := Nat.min (windowEnd ws - ws) (free 49), corrected := 0 }

/-- How many free values a later pass under the default image draws. -/
def defaultDraws : Nat := 80

/-- A packet as its pass begins: a return has one more PASS and RECIRC (R43, R276); FRONT_DELTA and the entry index are taken. -/
def beginPass (returned : Bool) (p : Pkt) : Pkt :=
  if returned then { p with tag := { (p.tag.setFlag 3) with pass := p.tag.pass + 1 } } else p

/-- What the parser does before pass 0 of a packet that came over a Lantern bundle (R279). -/
def parseAfresh (p : Pkt) : Pkt :=
  if p.afresh then
    { p with afresh := false, tag := { (((p.tag.clearFlag 3).clearFlag 4).clearFlag 5) with pass := 0, windowOffset := 0 } }
  else p

/-- The packet after a pass: WINDOW_OFFSET is the window start plus the cursor (R274), and its pipeline state. -/
def afterPass (p : Pkt) (ws : Nat) (x : PassState) (resume : Nat) : Pkt :=
  { p with tag := { p.tag with windowOffset := BitVec.ofNat 9 (ws + x.cursor) },
           ps := { x.ps with resume := resume, entryIdx := none, frontDelta := 0 } }

/-- The first instruction of a pass (R277, R278). -/
def firstWord (im : Image) (p : Pkt) : Nat :=
  match p.ps.entryIdx with
  | some e => im.entries.getD e 0
  | none => if p.tag.pass = 0 then im.entries.getD 0 0 else p.ps.resume

/-- Classification takes a packet whose pass has ended DONE or flagged. -/
def toClassify (k : Nat) (p : Pkt) (s : Dev) : Dev :=
  s.setPipe k { s.pipe k with parsed := (s.pipe k).parsed ++ [p] }

/-- The effect of a pass's end. -/
def finishPass (k : Nat) (im : Option Image) (p : Pkt) (ws : Nat) (e : PassEnd) (x : PassState) (s0 : Dev) : Dev :=
  let s := whenB (decide (0 < x.corrected)) (countBy .prsCsCorrected k x.corrected) s0
  let isl := pipeIsland k
  match e with
  | .done next =>
    let q := afterPass p ws x next
    toClassify k q (traceStep isl 2 q.tag.ingress.toNat q s)
  | .again next spill =>
    let q := afterPass p ws x next
    let q1 := { q with tag := { (q.tag.setFlag 3) with pass := q.tag.pass + 1 } }
    let s1 := traceStep isl 2 q.tag.ingress.toNat q (whenB spill (count .prsSpills k) s)
    s1.setPipe k { s1.pipe k with recirc := (s1.pipe k).recirc ++ [q1] }
  | .flagged f pc =>
    let q := afterPass p ws x pc
    let q1 := { q with tag := q.tag.setFlag f }
    toClassify k q1 (traceStep isl 2 q1.tag.ingress.toNat q1 (count (if f = 4 then .prsIncomplete else .prsMalformed) k s))
  | .lost pc =>
    let a := 256 * (im.map Image.baseSeg |>.getD 0) + pc
    let s1 := logFault isl 0xFF 0x0802 0 (mk64 [k, at' a 3, at' p.tag.vslot.toNat 15]) 0 (count .prsCsUe k (dropPkt isl p s))
    s1.setPipe k { s1.pipe k with badWords := if (s1.pipe k).badWords.contains a then (s1.pipe k).badWords else a :: (s1.pipe k).badWords }

/-- One pass of a packet in pipeline `k`, by the image of its slot (R64, R273 to R285). -/
def passOf (k : Nat) (errs : List (Nat × Bool)) (p : Pkt) (s : Dev) : Dev :=
  let ws := windowStart p
  match (s.slot p.tag.vslot.toNat).rules.image with
  | none =>
    if p.tag.pass = 0 then finishPass k none p ws (.done 0) (defaultPass p ws) s
    else finishPass k none p ws (.done 0) (defaultLater p ws s.freeCtr) { s with freeCtr := s.freeCtr + defaultDraws }
  | some im =>
    let (e, x) := runPass im (s.pipe k).badWords errs p ws 24 (firstWord im p) ⟨p.ps, 0, 0⟩
    finishPass k (some im) p ws e x s

/-- The packet that the input arbiter takes: recirculated, then returned, then new (R286); whether it is a return. -/
def arbiter (k : Nat) (s : Dev) : Option (Pkt × Bool × Dev) :=
  let x := s.pipe k
  match x.recirc with
  | p :: t => some (p, false, s.setPipe k { x with recirc := t })
  | [] =>
    match x.returns with
    | p :: t => some (p, true, s.setPipe k { x with returns := t })
    | [] =>
      match x.input with
      | p :: t => some (p, false, s.setPipe k { x with input := t })
      | [] => none

/-- A lane start of pipeline `k`. A drain marker is held by the pipeline (Table 2-3), and a control frame passes on to the traffic manager unparsed
(R34); a packet that an action core returns at PASS 3 is dropped (R276, Table 10-10). -/
def parserPass (k : Nat) (errs : List (Nat × Bool)) (s : Dev) : Dev :=
  match arbiter k s with
  | none => s
  | some (p, returned, s1) =>
    match p.marker with
    | some m => { s1 with fabric := { s1.fabric with markers := s1.fabric.markers ++ [(k, p.dist, m)] } }
    | none =>
      if p.tag.flag 2 then post (pipeIsland k) isl.TMG p s1
      else if returned ∧ p.tag.pass = 3 then count .prsPassOverrun k (dropPkt (pipeIsland k) p s1)
      else
        let q := beginPass returned (parseAfresh p)
        passOf k errs q (whenB returned (count .prsReturns k) (count .prsPasses k s1))

/-- A parser lane starts a pass (R273, R286). -/
def execParserPass (pipe : Nat) (errs : List (Nat × Bool)) (s : State) : Host.Outcome State Fault Refusal := ran (Wf.parserPass pipe errs) (parserPass pipe errs) s

/-! ### Control stores -/

/-- The word is rewritten in every store, or the rewrite fails and is retried (R285, Table 8-9). The slot shown is the lowest that
maps the word's segment. -/
def csWordRewrite (k a : Nat) (ok : Bool) (s : Dev) : Dev :=
  if (s.pipe k).badWords.contains a then
    if ok then pipeNumbers.foldl (fun s j => s.setPipe j { s.pipe j with badWords := (s.pipe j).badWords.filter (fun w => decide (w ≠ a)) }) s
    else
      let maps := fun j => match (s.slot j).rules.image with
        | some im => decide ((s.slot j).state ≠ .free) && decide (im.baseSeg ≤ a / 256) && decide (a / 256 < im.baseSeg + (im.words.length + 255) / 256)
        | none => false
      logFault (pipeIsland k) 0xFF 0x0803 0 (mk64 [k, at' a 3, at' ((slotNumbers.find? maps).getD 0) 15]) 0 s
  else s

/-- A word with an uncorrectable error is rewritten in every control store (R285). -/
def execCsWordRewrite (pipe word : Nat) (ok : Bool) (s : State) : Host.Outcome State Fault Refusal := ran (Wf.csWordRewrite pipe word ok) (csWordRewrite pipe word ok) s

/-- A background scrub of every word: corrected words are counted and written back; a word found with an uncorrectable error stays so
until it is rewritten (R285). SCRUB_PERIOD_MS applies at the start of the next round. -/
def scrubRound (k : Nat) (errs : List (Nat × Bool)) (s0 : Dev) : Dev :=
  let s := applyBoundary .scrubRound (pipeIsland k) s0
  if s.regField (pipeIsland k) 0x008 0 0 = 1 then
    let s1 := countBy .prsCsCorrected k (errs.filter (fun e => !e.2)).length s
    let bad := (errs.filter (fun e => e.2)).map (fun e => e.1)
    s1.setPipe k { s1.pipe k with badWords := (s1.pipe k).badWords ++ bad.filter (fun a => !(s1.pipe k).badWords.contains a) }
  else s

/-- The scrub (R285). -/
def execScrubRound (pipe : Nat) (errs : List (Nat × Bool)) (s : State) : Host.Outcome State Fault Refusal := ran (Wf.scrubRound pipe errs) (scrubRound pipe errs) s

end Sys2Proof.Machine
end

