-- ==== Sys2Proof/Machine/ActCmds.lean ====
section
/-! DEFINITION. Dispatch to action cores, their timed events, images, groups and bindings (R350, R351, R363 to R366, R369 to R375). -/
namespace Sys2Proof.Machine

/-! ### Dispatch and timed events -/

/-- Packets received by ACT0 or ACT1 and not yet dispatched. -/
def Dev.actInput (s : Dev) (i : Nat) : List Pkt := SMap.get [] s.act.input i

def Dev.setActInput (s : Dev) (i : Nat) (l : List Pkt) : Dev := { s with act := { s.act with input := SMap.put [] s.act.input i l } }

/-- The program of a packet directed to an action core. -/
def packetProgram (p : Pkt) : Nat :=
  match p.dest with
  | .program n => n
  | _ => 0

/-- PROGRAM_DISPATCH: the packet joins the input queue of the thread that its group's map names, or is dropped (R350, R351). A changed
THREAD_SLOTS takes effect on the thread (R347). -/
def programDispatch (i : Nat) (s : Dev) : Dev :=
  let island := isl.ACT0 + i
  match s.actInput i with
  | [] => s
  | p :: rest =>
    let s1 := s.setActInput i rest
    match dispatchTo s p (packetProgram p) with
      | .inl c => count c i (dropPkt island p s1)
      | .inr t =>
        let s2 := reslot t s1
        count .actDispatched (coreOf t) (s2.setThread t { s2.thread t with input := (s2.thread t).input ++ [p] })

/-- A packet is dispatched to a program's thread (R350). -/
def execProgramDispatch (island : Nat) (s : State) : Host.Outcome State Fault Refusal := ran (Wf.programDispatch island) (programDispatch island) s

/-- The group's next tick, a whole number of periods after its creation (Table 10-7). -/
def nextTick (s : Dev) (g : Group) : Time :=
  let period := g.tickUs * 1000
  g.created.plus ((Time.since s.now g.created / period + 1) * period)

/-- GROUP_TICK: TICK is latched in the group's threads (Table 10-7). -/
def groupTick (n : Nat) (s : Dev) : Dev :=
  match s.group n with
  | some g => if g.tickUs = 0 then s else (g.threads ++ g.leaving).foldl (fun s t => latch t 8 s) (reach (nextTick s g) s)
  | none => s

/-- A group's tick (R363). -/
def execGroupTick (group : Nat) (s : State) : Host.Outcome State Fault Refusal := ran (Wf.groupTick group) (groupTick group) s

/-- The threads of a core. -/
def coreThreads (c : Nat) : List Nat := (List.range 8).map (fun i => 8 * c + i)

/-- A thread of another core of the cluster is not WAITING (R365). -/
def clusterBusy (s : Dev) (c : Nat) : Bool :=
  (List.range 64).any (fun i =>
    let u := 64 * (c / 8) + i
    decide (u / 8 ≠ c) && decide ((s.thread u).state ≠ .waiting))

/-- A waiting thread has an armed source (R365). -/
def hasArmed (s : Dev) (t : Nat) : Bool :=
  let x := s.thread t
  let tick := decide ((((s.threadGroup t).map Group.tickUs).getD 0) ≠ 0)
  x.waitMask &&& 0xF1#16 != 0 || (x.waitMask.getLsbD 3 && tick) || (x.waitMask &&& 6 != 0 && clusterBusy s (t / 8)) ||
    eventWord s t &&& x.waitMask != 0

/-- The core is in quiescent deadlock (R365). -/
def deadlocked (s : Dev) (c : Nat) : Bool :=
  let ts := (coreThreads c).filter (fun t => decide ((s.thread t).state ≠ .free))
  !ts.isEmpty && ts.all (fun t => decide ((s.thread t).state = .waiting) && !hasArmed s t)

/-- The 4 wait masks of half `h` of a core's threads, in one word. -/
def maskWord (s : Dev) (c h : Nat) : W64 :=
  mk64 ((List.range 4).map (fun i => at' (s.thread (8 * c + 4 * h + i)).waitMask.toNat (16 * i)))

/-- QUIESCENT_DEADLOCK: DEADLOCK wakes thread 0, or the lowest waiting thread where thread 0 is FREE; trace, log, count (R365). -/
def quiescentDeadlock (c : Nat) (s : Dev) : Dev :=
  if deadlocked s c then
    let t := ((coreThreads c).find? (fun t => decide ((s.thread t).state = .waiting))).getD (8 * c)
    let s1 := latch t 0x100 s
    let x := s1.thread t
    let s2 := s1.setThread t { Thread.setReg x x.waitDst ((eventWord s1 t).zeroExtend 64) with state := .ready }
    let s3 := traceRecord 4 3 [traceW0 s (actIsland t) 4, mk64 [c, at' 1 62], maskWord s c 0, maskWord s c 1] s2
    count .actDeadlock c (logFault (actIsland t) 0xFF 0x0B03 0 (mk64 [c, at' (t % 8) 8]) (maskWord s c 0) s3)
  else s

/-- A core has been in quiescent deadlock for 1,024 cycles (R365). -/
def execQuiescentDeadlock (core : Nat) (s : State) : Host.Outcome State Fault Refusal := ran (Wf.quiescentDeadlock core) (quiescentDeadlock core) s

/-- PACKET_BUDGET_EXPIRY: MAX_CYCLES cycles since the packet was taken (Table 10-11, cause 15). -/
def packetBudgetExpiry (t : Nat) (s : Dev) : Dev :=
  let x := s.thread t
  match s.threadGroup t with
  | some g =>
    if x.held.isSome ∧ x.state ≠ .faulted then
      settleGroup x.group (threadFault t 15 0 (reach (x.takenAt.plus ((g.maxCycles + 1) / 2)) s))
    else s
  | none => s

/-- A held packet's budget runs out (R367). -/
def execPacketBudgetExpiry (t : Nat) (s : State) : Host.Outcome State Fault Refusal := ran (Wf.packetBudgetExpiry t) (packetBudgetExpiry t) s

/-- THREAD_CYCLES_CHARGE: every 10 µs while a thread holds no packet (Table 15-3). -/
def threadCyclesCharge (t : Nat) (s : Dev) : Dev :=
  let x := s.thread t
  if x.state ≠ .free ∧ x.held.isNone then chargeCycles t (reach (x.chargedAt.plus 10000) s) else s

/-- A thread's cycles go to its owner slice (R366). -/
def execThreadCyclesCharge (t : Nat) (s : State) : Host.Outcome State Fault Refusal := ran (Wf.threadCyclesCharge t) (threadCyclesCharge t) s

/-! ### Placement -/

/-- Groups with a thread on a core, with their images. -/
def imagesOn (s : Dev) (c : Nat) : List Nat :=
  ((s.groupList.filter (fun e => (e.2.threads ++ e.2.leaving).any (fun t => t / 8 == c))).map (fun e => e.2.handle)).eraseDups

/-- Instructions of a core's store in use (Table 10-14). -/
def codeUse (s : Dev) (c : Nat) : Nat := ((imagesOn s c).map (fun h => ((s.actImage h).map (fun i => i.code.length)).getD 0)).sum

/-- The threads that a core can take for an image of handle `h`, of weight `k` (R371). -/
def coreOffers (s : Dev) (h k c : Nat) : List Nat :=
  let len := ((s.actImage h).map (fun i => i.code.length)).getD 0
  if !(imagesOn s c).contains h && decide (16384 < codeUse s c + len) then []
  else ((coreThreads c).filter (fun t => decide ((s.thread t).state = .free))).take (slotsEmpty s c / Nat.max 1 k)

/-- `n` threads for a group, core by core in ascending order; none where there is no placement (R371). -/
def placement (s : Dev) (h k n : Nat) : Option (List Nat) :=
  let ts := ((List.range 64).flatMap (coreOffers s h k)).take n
  if ts.length = n then some ts else none

/-- Threads of a slice that are not FREE. -/
def threadsOf (s : Dev) (sl : Nat) : Nat := ((s.groupList.filter (fun e => e.2.slice == sl)).map (fun e => e.2.threads.length + e.2.leaving.length)).sum

/-- Threads enter group `n` in initial state, with their slice's weight (R342, R347). -/
def enterThreads (n : Nat) (ts : List Nat) (s : Dev) : Dev := ts.foldl (fun s t => reslot t (s.setThread t (initialThread s n))) s

/-- The group of a slice and handle. -/
def groupFor (s : Dev) (sl h : Nat) : Option (Nat × Group) := s.groupList.find? (fun e => e.2.slice == sl && e.2.handle == h)

/-- A thread is freed; packets that it still has are dropped. -/
def freeThread (t : Nat) (s : Dev) : Dev :=
  let x := s.thread t
  let s1 := (x.held.toList ++ x.input).foldl (fun s p => dropPkt (actIsland t) p s) (chargeCycles t s)
  (clearEntries t s1).setThread t Thread.free

/-- A group is removed: its threads become FREE and its state memory is zeroed (R343). -/
def removeGroup (n : Nat) (s : Dev) : Dev :=
  match s.group n with
  | some g => ((g.threads ++ g.leaving).foldl (fun s t => freeThread t s) s).setGroup n none
  | none => s

/-- A slice destroy removes the slice's groups (R343). -/
def removeSliceGroups (sl : Nat) (s : Dev) : Dev :=
  ((s.groupList.filter (fun e => e.2.slice == sl)).map Prod.fst).foldl (fun s n => removeGroup n s) s

/-- A thread is put into initial state. What its registers say of its last fault since it entered its group stays (Table 10-14). -/
def resetThread (n t : Nat) (s0 : Dev) : Dev :=
  let s := chargeCycles t s0
  let x := s.thread t
  s.setThread t { initialThread s n with lastFault := x.lastFault, faultPc := x.faultPc, logged := x.logged }

/-- A slice reset puts its threads into initial state (R343). -/
def resetSliceThreads (sl : Nat) (s : Dev) : Dev :=
  (s.groupList.filter (fun e => e.2.slice == sl)).foldl (fun s e =>
    settleGroup e.1 ((e.2.threads ++ e.2.leaving).foldl (fun s t => resetThread e.1 t s) s)) s

/-- A version binds a program to an owner and IMAGE_ID (R372). -/
def boundSomewhere (s : Dev) (sl : Nat) (image : BitVec 32) : Bool :=
  slotNumbers.any (fun k => decide ((s.slot k).state ≠ .free) &&
    (s.slot k).rules.programs.any (fun e => e.2.valid && progOwner e.2 == sl && progImage e.2 == image))

/-! ### Commands (Table 10-15) -/

/-- SLICE and HANDLE of a command's word 0. -/
def actSlice (r : Req) : Nat := fld (r.word 0) 11 0
def actHandle (r : Req) : Nat := fld (r.word 0) 41 32

/-- The image of a handle belongs to the slice. -/
def imageOf (s : Dev) (sl h : Nat) : Option ActImage := (s.actImage h).bind (fun i => if i.slice = sl then some i else none)

def spec0540 : CmdSpec := { anyCmd 0x0540 [bits 11 0] 8 with open' := true }

def actImageLoad (ch : Nat) (r : Req) (s : Dev) : Dev × Reply :=
  let raw := r.words.drop 1
  let n := fld (raw.getD 0 0) 60 48
  let image : ActImage :=
    { slice := actSlice r, imageId := BitVec.ofNat 32 (fld (raw.getD 1 0) 31 0), entry := fld (raw.getD 1 0) 44 32,
      code := (imageCode (raw.drop 4)).take n }
  let handles := (SMap.entries s.act.images).map Prod.fst
  checks [(reaches ch (actSlice r), .notPermitted), (r.indirect && decide ((s.slice (actSlice r)).state ≠ .free), Status.badArgument)]
    (fun s => match actImageReason raw (r.payloadLen.toNat - 8) with
      | some (k, i) => (s, some (.badArgument, [mk64 [k, at' (lo 13 i) 8]]))
      | none =>
        checks [(decide (handles.length < 1024), Status.noResource)] (fun s =>
          let h := s.assign handles
          configured spec0540 ch r h (fun s => { s with act := { s.act with images := SMap.put none s.act.images h (some image) } })
            [mk64 [at' h 32]] s) s) s

def cmdActImageLoad (ch : Nat) (r : Req) (s : Dev) : Dev := command spec0540 ch r (actImageLoad ch r) s

/-- ACT_IMAGE_LOAD (R369 to R371). -/
def execActImageLoad (ch : Nat) (r : Req) (s : State) : Host.Outcome State Fault Refusal := ran (Wf.actImageLoad ch r) (onChannel ch (cmdActImageLoad ch r)) s

def spec0541 : CmdSpec := anyCmd 0x0541 [bits 11 0 ||| bits 41 32] 0

def actImageUnload (ch : Nat) (r : Req) (s : Dev) : Dev × Reply :=
  let sl := actSlice r
  let h := actHandle r
  checks [(reaches ch sl, .notPermitted), ((imageOf s sl h).isSome, Status.badArgument), (!s.groupList.any (fun e => e.2.handle == h), .busy)]
    (configured spec0541 ch r h (fun s => { s with act := { s.act with images := SMap.put none s.act.images h none } }) []) s

def cmdActImageUnload (ch : Nat) (r : Req) (s : Dev) : Dev := command spec0541 ch r (actImageUnload ch r) s

/-- ACT_IMAGE_UNLOAD (R372). -/
def execActImageUnload (ch : Nat) (r : Req) (s : State) : Host.Outcome State Fault Refusal := ran (Wf.actImageUnload ch r) (onChannel ch (cmdActImageUnload ch r)) s

/-- A new group, or the changed settings of one that exists (R375). -/
def groupSettings (w1 w2 : W64) (g : Group) : Group := { g with tickUs := fld w1 31 16, stateMib := fld w1 42 32, maxCycles := fld w2 16 0 }

/-- A group is created with threads `ts`. -/
def newGroup (n sl h : Nat) (w1 w2 : W64) (ts : List Nat) (s : Dev) : Dev :=
  let g : Group :=
    { slice := sl, handle := h, threads := ts, leaving := [], map := (List.range 64).map (fun i => ts.getD (i % Nat.max 1 ts.length) 0),
      tickUs := 0, stateMib := 0, maxCycles := 0, created := s.now, mem := [], poisoned := [], cured := [] }
  enterThreads n ts (s.setGroup n (some (groupSettings w1 w2 g)))

/-- A group keeps its first `k` threads, or takes the new threads `ts` too (R375). -/
def changeGroup (n k : Nat) (w1 w2 : W64) (ts : List Nat) (s : Dev) : Dev :=
  match s.group n with
  | some g =>
    let y := { groupSettings w1 w2 g with threads := g.threads.take k ++ ts, leaving := g.leaving ++ g.threads.drop k }
    settleGroup n (enterThreads n ts (s.setGroup n (some y)))
  | none => s

/-- MiB of state memory that all groups hold. -/
def groupMib (s : Dev) : Nat := (s.groupList.map (fun e => e.2.stateMib)).sum

def spec0542 : CmdSpec := anyCmd 0x0542 [bits 11 0 ||| bits 41 32 ||| bits 48 48, bits 6 0 ||| bits 42 16, bits 16 0] 8

def actGroupSet (ch : Nat) (r : Req) (s : Dev) : Dev × Reply :=
  let sl := actSlice r
  let h := actHandle r
  let w1 := r.word 1
  let w2 := r.word 2
  let valid := bit (r.word 0) 48
  let old := groupFor s sl h
  let have' := (old.map (fun e => e.2.threads.length)).getD 0
  let n := fld w1 6 0
  let mib := fld w1 42 32
  let k := (s.slice sl).profile.threadSlots
  let more := n - have'
  let num := match old with
    | some e => e.1
    | none => s.assign (s.groupList.map Prod.fst)
  let sameMib := match old with
    | some e => e.2.stateMib == mib
    | none => true
  let ranges := decide (1 ≤ n) && decide (n ≤ 64) && decide (mib ≤ 1024) && decide (1000 ≤ fld w2 16 0) && decide (fld w2 16 0 ≤ 100000) && sameMib
  let image := ((imageOf s sl h).map ActImage.imageId).getD 0
  checks
    [(reaches ch sl, .notPermitted), ((imageOf s sl h).isSome && (if valid then ranges else old.isSome), Status.badArgument),
     (decide ((s.slice sl).state = .active), .busy), (valid || !boundSomewhere s sl image, .busy),
     (!valid || decide (threadsOf s sl + more ≤ (s.slice sl).profile.threads), .noResource),
     (!valid || old.isSome || decide (groupMib s + mib ≤ programMib s), .noResource),
     (!valid || (placement s h k more).isSome, .noResource)]
    (fun s =>
      let ts := (placement s h k more).getD []
      let f : Dev → Dev :=
        if valid then (if old.isSome then changeGroup num n w1 w2 ts else newGroup num sl h w1 w2 ts) else removeGroup num
      configured spec0542 ch r num f [BitVec.ofNat 64 num] s) s

def cmdActGroupSet (ch : Nat) (r : Req) (s : Dev) : Dev := command spec0542 ch r (actGroupSet ch r) s

/-- ACT_GROUP_SET (R371, R375). -/
def execActGroupSet (ch : Nat) (r : Req) (s : State) : Host.Outcome State Fault Refusal := ran (Wf.actGroupSet ch r) (onChannel ch (cmdActGroupSet ch r)) s

def spec0543 : CmdSpec := anyCmd 0x0543 [bits 11 0 ||| bits 41 32] 32

def actGroupQuery (ch : Nat) (r : Req) (s : Dev) : Dev × Reply :=
  let sl := actSlice r
  match if reaches ch sl then groupFor s sl (actHandle r) else none with
  | none => fail (if reaches ch sl then .badArgument else .notPermitted) s
  | some (n, g) =>
    let ts := g.threads ++ g.leaving
    let faulted := (ts.filter (fun t => decide ((s.thread t).state = .faulted))).length
    let image := ((s.actImage g.handle).map ActImage.imageId).getD 0
    let cores := (List.range 64).filter (fun c => ts.any (fun t => t / 8 == c))
    done [mk64 [n, at' g.threads.length 16, at' faulted 32], mk64 [image.toNat, at' g.tickUs 32], mk64 [g.maxCycles, at' g.stateMib 32],
          mk64 (cores.map (fun c => 2 ^ c))] s

def cmdActGroupQuery (ch : Nat) (r : Req) (s : Dev) : Dev := command spec0543 ch r (actGroupQuery ch r) s

/-- ACT_GROUP_QUERY (Table 10-15). -/
def execActGroupQuery (ch : Nat) (r : Req) (s : State) : Host.Outcome State Fault Refusal := ran (Wf.actGroupQuery ch r) (onChannel ch (cmdActGroupQuery ch r)) s

def spec0544 : CmdSpec := mgrCmd 0x0544 [bits 31 0, bits 24 0 ||| bits 63 32, bits 13 0] 0

def actProgramBind (_ : Nat) (r : Req) (s : Dev) : Dev × Reply :=
  let v := reqVersion r
  checks (buildChecks s v) (buildChange v (.program (fld (r.word 1) 11 0) (bit (r.word 1) 24) (r.word 1) (r.word 2))) s

def cmdActProgramBind (ch : Nat) (r : Req) (s : Dev) : Dev := command spec0544 ch r (actProgramBind ch r) s

/-- ACT_PROGRAM_BIND (R372). -/
def execActProgramBind (ch : Nat) (r : Req) (s : State) : Host.Outcome State Fault Refusal := ran (Wf.actProgramBind ch r) (onChannel ch (cmdActProgramBind ch r)) s

def spec0545 : CmdSpec := anyCmd 0x0545 [bits 11 0 ||| bits 41 32 ||| bits 51 48] 0

def actSignal (ch : Nat) (r : Req) (s : Dev) : Dev × Reply :=
  let sl := actSlice r
  let bits' := BitVec.ofNat 16 (16 * fld (r.word 0) 51 48)
  let ts := match groupFor s sl (actHandle r) with
    | some (_, g) => g.threads ++ g.leaving
    | none => []
  checks [(reaches ch sl, .notPermitted), ((groupFor s sl (actHandle r)).isSome, Status.badArgument), (decide ((s.slice sl).state = .active), .busy)]
    (fun s => done [] (ts.foldl (fun s t => latch t bits' s) s)) s

def cmdActSignal (ch : Nat) (r : Req) (s : Dev) : Dev := command spec0545 ch r (actSignal ch r) s

/-- ACT_SIGNAL: EXT bits are latched in the group's threads (Table 10-7). -/
def execActSignal (ch : Nat) (r : Req) (s : State) : Host.Outcome State Fault Refusal := ran (Wf.actSignal ch r) (onChannel ch (cmdActSignal ch r)) s

def spec0546 : CmdSpec := mgrCmd 0x0546 [bits 2 0 ||| bits 27 16] 16

def actBindQuery (_ : Nat) (r : Req) (s : Dev) : Dev × Reply :=
  let k := fld (r.word 0) 2 0
  let b := progBinding s k (fld (r.word 0) 27 16)
  if (s.slot k).state = .free then fail .badArgument s
  else (s, some (s.readStatus, if b.valid then [mk64 [progOwner b, at' 1 12, at' (progImage b).toNat 32], BitVec.ofNat 64 (progMask b)] else [0, 0]))

def cmdActBindQuery (ch : Nat) (r : Req) (s : Dev) : Dev := command spec0546 ch r (actBindQuery ch r) s

/-- ACT_BIND_QUERY (R374). -/
def execActBindQuery (ch : Nat) (r : Req) (s : State) : Host.Outcome State Fault Refusal := ran (Wf.actBindQuery ch r) (onChannel ch (cmdActBindQuery ch r)) s

end Sys2Proof.Machine
end

