-- ==== Sys2Proof/Machine/ChetasBase.lean ====
section
/-! DEFINITION. Arithmetic and control instructions of the action cores (Tables 10-4 and 10-6). -/
namespace Sys2Proof.Machine

/-! ### Register instructions: DST takes a value of the registers before the instruction -/

/-- ALU: DST = FUNC(SRC1, SRC2) (Table 10-6). -/
def alu (t : Nat) (dst s1 s2 : BitVec 5) (func : BitVec 11) (s : Dev) : Dev := issue t (encA 0x00 dst s1 s2 func) (fun s => retire t dst (aluFn func.toNat (s.reg t s1) (s.reg t s2)) s) s

/-- The command. -/
def execAlu (t : Nat) (dst s1 s2 : BitVec 5) (func : BitVec 11) (s : State) : Host.Outcome State Fault Refusal := ran (Wf.alu t dst s1 s2 func) (alu t dst s1 s2 func) s

/-- ADDI: DST = SRC1 + sign-extended IMM16. -/
def addi (t : Nat) (dst s1 : BitVec 5) (imm : BitVec 16) (s : Dev) : Dev := issue t (encI 0x01 dst s1 imm) (fun s => retire t dst (s.reg t s1 + sext imm) s) s

/-- The command. -/
def execAddi (t : Nat) (dst s1 : BitVec 5) (imm : BitVec 16) (s : State) : Host.Outcome State Fault Refusal := ran (Wf.addi t dst s1 imm) (addi t dst s1 imm) s

/-- ANDI: DST = SRC1 AND zero-extended IMM16. -/
def andi (t : Nat) (dst s1 : BitVec 5) (imm : BitVec 16) (s : Dev) : Dev := issue t (encI 0x02 dst s1 imm) (fun s => retire t dst (s.reg t s1 &&& zext imm) s) s

/-- The command. -/
def execAndi (t : Nat) (dst s1 : BitVec 5) (imm : BitVec 16) (s : State) : Host.Outcome State Fault Refusal := ran (Wf.andi t dst s1 imm) (andi t dst s1 imm) s

/-- ORI: DST = SRC1 OR zero-extended IMM16. -/
def ori (t : Nat) (dst s1 : BitVec 5) (imm : BitVec 16) (s : Dev) : Dev := issue t (encI 0x03 dst s1 imm) (fun s => retire t dst (s.reg t s1 ||| zext imm) s) s

/-- The command. -/
def execOri (t : Nat) (dst s1 : BitVec 5) (imm : BitVec 16) (s : State) : Host.Outcome State Fault Refusal := ran (Wf.ori t dst s1 imm) (ori t dst s1 imm) s

/-- XORI: DST = SRC1 XOR zero-extended IMM16. -/
def xori (t : Nat) (dst s1 : BitVec 5) (imm : BitVec 16) (s : Dev) : Dev := issue t (encI 0x04 dst s1 imm) (fun s => retire t dst (s.reg t s1 ^^^ zext imm) s) s

/-- The command. -/
def execXori (t : Nat) (dst s1 : BitVec 5) (imm : BitVec 16) (s : State) : Host.Outcome State Fault Refusal := ran (Wf.xori t dst s1 imm) (xori t dst s1 imm) s

/-- SHI: shift or rotate by an immediate. -/
def shi (t : Nat) (dst s1 : BitVec 5) (imm : BitVec 16) (s : Dev) : Dev := issue t (encI 0x05 dst s1 imm) (fun s => retire t dst (shiftFn imm (s.reg t s1)) s) s

/-- The command. -/
def execShi (t : Nat) (dst s1 : BitVec 5) (imm : BitVec 16) (s : State) : Host.Outcome State Fault Refusal := ran (Wf.shi t dst s1 imm) (shi t dst s1 imm) s

/-- MOVZ: DST = IMM16 << 16h, h in SRC1 [1:0]. -/
def movz (t : Nat) (dst s1 : BitVec 5) (imm : BitVec 16) (s : Dev) : Dev := issue t (encI 0x06 dst s1 imm) (fun s => retire t dst (zext imm <<< (16 * (s1.toNat % 4))) s) s

/-- The command. -/
def execMovz (t : Nat) (dst s1 : BitVec 5) (imm : BitVec 16) (s : State) : Host.Outcome State Fault Refusal := ran (Wf.movz t dst s1 imm) (movz t dst s1 imm) s

/-- MOVK: 16 bits of DST replaced. -/
def movk (t : Nat) (dst s1 : BitVec 5) (imm : BitVec 16) (s : Dev) : Dev := issue t (encI 0x07 dst s1 imm) (fun s => retire t dst (movkFn (s1.toNat % 4) imm (s.reg t dst)) s) s

/-- The command. -/
def execMovk (t : Nat) (dst s1 : BitVec 5) (imm : BitVec 16) (s : State) : Host.Outcome State Fault Refusal := ran (Wf.movk t dst s1 imm) (movk t dst s1 imm) s

/-- SLTI: 1 when SRC1 is less, signed. -/
def slti (t : Nat) (dst s1 : BitVec 5) (imm : BitVec 16) (s : Dev) : Dev := issue t (encI 0x08 dst s1 imm) (fun s => retire t dst (flag64 ((s.reg t s1).slt (sext imm))) s) s

/-- The command. -/
def execSlti (t : Nat) (dst s1 : BitVec 5) (imm : BitVec 16) (s : State) : Host.Outcome State Fault Refusal := ran (Wf.slti t dst s1 imm) (slti t dst s1 imm) s

/-- SLTIU: 1 when SRC1 is less, unsigned. -/
def sltiu (t : Nat) (dst s1 : BitVec 5) (imm : BitVec 16) (s : Dev) : Dev := issue t (encI 0x09 dst s1 imm) (fun s => retire t dst (flag64 ((s.reg t s1).ult (sext imm))) s) s

/-- The command. -/
def execSltiu (t : Nat) (dst s1 : BitVec 5) (imm : BitVec 16) (s : State) : Host.Outcome State Fault Refusal := ran (Wf.sltiu t dst s1 imm) (sltiu t dst s1 imm) s

/-- EXT: a field of SRC1. -/
def extField (t : Nat) (dst s1 : BitVec 5) (imm : BitVec 16) (s : Dev) : Dev := issue t (encI 0x0A dst s1 imm) (fun s => retire t dst (extFn imm (s.reg t s1)) s) s

/-- The command. -/
def execExtField (t : Nat) (dst s1 : BitVec 5) (imm : BitVec 16) (s : State) : Host.Outcome State Fault Refusal := ran (Wf.extField t dst s1 imm) (extField t dst s1 imm) s

/-- INS: a field of DST replaced by SRC1. -/
def insField (t : Nat) (dst s1 : BitVec 5) (imm : BitVec 16) (s : Dev) : Dev := issue t (encI 0x0B dst s1 imm) (fun s => retire t dst (insFn imm (s.reg t s1) (s.reg t dst)) s) s

/-- The command. -/
def execInsField (t : Nat) (dst s1 : BitVec 5) (imm : BitVec 16) (s : State) : Host.Outcome State Fault Refusal := ran (Wf.insField t dst s1 imm) (insField t dst s1 imm) s

/-- TIME: DST = string time. -/
def timeRead (t : Nat) (dst s1 : BitVec 5) (imm : BitVec 16) (s : Dev) : Dev := issue t (encI 0x36 dst s1 imm) (fun s => retire t dst (s.now.zeroExtend 64) s) s

/-- The command. -/
def execTimeRead (t : Nat) (dst s1 : BitVec 5) (imm : BitVec 16) (s : State) : Host.Outcome State Fault Refusal := ran (Wf.timeRead t dst s1 imm) (timeRead t dst s1 imm) s

/-! ### Branches and jumps -/

/-- The effect of a branch (Table 10-4): PC += OFF16 when the comparison of opcode `op` holds. -/
def branch (op t : Nat) (s1 s2 : BitVec 5) (off : BitVec 16) (s : Dev) : Dev :=
  if branchFn op (s.reg t s1) (s.reg t s2) then jumpTo t (relTarget s t off.toInt) s else toNext t s

/-- BEQ (Table 10-4). -/
def execBeq (t : Nat) (s1 s2 : BitVec 5) (off : BitVec 16) (s : State) : Host.Outcome State Fault Refusal := ran (Wf.beq t s1 s2 off) (issue t (encI 0x10 s1 s2 off) (branch 0x10 t s1 s2 off)) s

/-- BNE (Table 10-4). -/
def execBne (t : Nat) (s1 s2 : BitVec 5) (off : BitVec 16) (s : State) : Host.Outcome State Fault Refusal := ran (Wf.bne t s1 s2 off) (issue t (encI 0x11 s1 s2 off) (branch 0x11 t s1 s2 off)) s

/-- BLT (Table 10-4). -/
def execBlt (t : Nat) (s1 s2 : BitVec 5) (off : BitVec 16) (s : State) : Host.Outcome State Fault Refusal := ran (Wf.blt t s1 s2 off) (issue t (encI 0x12 s1 s2 off) (branch 0x12 t s1 s2 off)) s

/-- BGE (Table 10-4). -/
def execBge (t : Nat) (s1 s2 : BitVec 5) (off : BitVec 16) (s : State) : Host.Outcome State Fault Refusal := ran (Wf.bge t s1 s2 off) (issue t (encI 0x13 s1 s2 off) (branch 0x13 t s1 s2 off)) s

/-- BLTU (Table 10-4). -/
def execBltu (t : Nat) (s1 s2 : BitVec 5) (off : BitVec 16) (s : State) : Host.Outcome State Fault Refusal := ran (Wf.bltu t s1 s2 off) (issue t (encI 0x14 s1 s2 off) (branch 0x14 t s1 s2 off)) s

/-- BGEU (Table 10-4). -/
def execBgeu (t : Nat) (s1 s2 : BitVec 5) (off : BitVec 16) (s : State) : Host.Outcome State Fault Refusal := ran (Wf.bgeu t s1 s2 off) (issue t (encI 0x15 s1 s2 off) (branch 0x15 t s1 s2 off)) s

/-- JAL: DST = PC + 1; PC += OFF21. -/
def jal (t : Nat) (dst : BitVec 5) (off : BitVec 21) (s : Dev) : Dev := issue t (encJ 0x16 dst off) (fun s => jumpTo t (relTarget s t off.toInt) (retire t dst (BitVec.ofNat 64 ((s.thread t).pc + 1)) s)) s

/-- The command. -/
def execJal (t : Nat) (dst : BitVec 5) (off : BitVec 21) (s : State) : Host.Outcome State Fault Refusal := ran (Wf.jal t dst off) (jal t dst off) s

/-- JALR: DST = PC + 1; PC = SRC1 + sign-extended IMM16; a target outside the image raises PC_RANGE (Table 10-4). -/
def jalr (t : Nat) (dst s1 : BitVec 5) (imm : BitVec 16) (s : Dev) : Dev :=
  let target := (s.reg t s1 + sext imm).toNat
  if target < ((s.threadImage t).map (fun i => i.code.length)).getD 0 then
    jumpTo t target (retire t dst (BitVec.ofNat 64 ((s.thread t).pc + 1)) s)
  else threadFault t 2 0 s

/-- JALR (Table 10-4). -/
def execJalr (t : Nat) (dst s1 : BitVec 5) (imm : BitVec 16) (s : State) : Host.Outcome State Fault Refusal := ran (Wf.jalr t dst s1 imm) (issue t (encI 0x17 dst s1 imm) (jalr t dst s1 imm)) s

/-! ### Events and traps -/

/-- WFE: a mask of 0 raises ILLEGAL; with a masked event present DST receives the event word at once; else the thread waits (R364). -/
def wfe (t : Nat) (dst : BitVec 5) (mask : BitVec 16) (s : Dev) : Dev :=
  if mask = 0 then threadFault t 1 0 s
  else
    let e := eventWord s t
    let s1 := s.setThread t { s.thread t with waitMask := mask, waitDst := dst.toNat }
    if e &&& mask ≠ 0 then retire t dst (e.zeroExtend 64) s1
    else
      let s2 := toNext t s1
      s2.setThread t { s2.thread t with state := .waiting }

/-- WFE (R364). -/
def execWfe (t : Nat) (dst s1 : BitVec 5) (imm : BitVec 16) (s : State) : Host.Outcome State Fault Refusal := ran (Wf.wfe t dst s1 imm) (issue t (encI 0x34 dst s1 imm) (wfe t dst imm)) s

/-- EVTR: DST receives the event word; the latched bits set in IMM16 are then cleared (Table 10-4). -/
def evtr (t : Nat) (dst : BitVec 5) (imm : BitVec 16) (s : Dev) : Dev :=
  let e := eventWord s t
  let x := s.thread t
  retire t dst (e.zeroExtend 64) (s.setThread t { x with latched := x.latched &&& ~~~imm })

/-- EVTR (R363). -/
def execEvtr (t : Nat) (dst s1 : BitVec 5) (imm : BitVec 16) (s : State) : Host.Outcome State Fault Refusal := ran (Wf.evtr t dst s1 imm) (issue t (encI 0x35 dst s1 imm) (evtr t dst imm)) s

/-- TRAP raises SOFTWARE with IMM16 as its detail (Table 10-4). -/
def execTrapInstr (t : Nat) (dst s1 : BitVec 5) (imm : BitVec 16) (s : State) : Host.Outcome State Fault Refusal := ran (Wf.trapInstr t dst s1 imm) (issue t (encI 0x37 dst s1 imm) (threadFault t 16 imm.toNat)) s

/-- EVENT_WAKE: a masked event is present and the thread wakes (R364). -/
def execEventWake (t : Nat) (s : State) : Host.Outcome State Fault Refusal := ran (Wf.eventWake t) (wakeIf t) s

end Sys2Proof.Machine
end

