-- ==== Sys2Proof/Machine/Classify.lean ====
section
/-! DEFINITION. Classification: binding, learning, plan, resolution, policy, hand-off (R301 to R311, R323 to R326). -/
namespace Sys2Proof.Machine

/-! ### What a packet shows -/

/-- Container `n` of a packet's pipeline state. -/
def cont (p : Pkt) (n : Nat) : Nat := (SMap.get 0 p.ps.containers n).toNat

/-- The header is tagged, and its VLAN ID, 0 for an untagged one (R302). -/
def isTagged (p : Pkt) : Bool := cont p 3 / 65536 == 0x8100 || cont p 3 / 65536 == 0x88A8
def vlanId (p : Pkt) : Nat := if isTagged p then cont p 3 % 4096 else 0

/-- Destination and source MAC addresses (R302). -/
def dstMac (p : Pkt) : Nat := cont p 0 * 65536 + cont p 1 / 65536
def srcMac (p : Pkt) : Nat := cont p 1 % 65536 * 2 ^ 32 + cont p 2

/-- A group address. -/
def isGroup (mac : Nat) : Bool := mac / 2 ^ 40 % 2 == 1

/-- Fields of a segment (Table 9-2). -/
def segTenant (x : Segment) : Bool := bit x.w1 17
def segLearn (x : Segment) : Bool := bit x.w1 18
def segFlood (x : Segment) : Bool := bit x.w1 19
def segEnforce (x : Segment) : Bool := bit x.w1 20
def segVrf (x : Segment) : Nat := fld x.w1 55 44
def segPlan (x : Segment) : Nat := fld x.w1 63 56
def segLimit (x : Segment) : Nat := fld x.w2 15 0
def segAge (x : Segment) : Nat := fld x.w2 27 16
def segMoves (x : Segment) : Nat := fld x.w2 31 28
def segWindow (x : Segment) : Nat := fld x.w2 45 32
def segList (x : Segment) : Nat := fld x.w2 57 46

/-- A segment of a slot. -/
def slotSegment (s : Dev) (k n : Nat) : Segment := SMap.get Segment.none (s.slot k).rules.segments n

/-- The key of a static or learned entry: SEGMENT and MAC. -/
def macKey (seg mac : Nat) : List Byte := beBytes (seg * 2 ^ 48 + mac) 8

/-- Where an address was learned or set: PORT, NODE and the binding's fields (R324). -/
structure Place where
  port : Nat
  node : Nat
  slice : Nat
  rxQpBase : Nat
  rxQpLog2 : Nat
  deriving DecidableEq, Repr

/-- The place of a static entry (L2_STATIC words 2 and 3, kept as the action's words). -/
def staticPlace (e : Entry) : Place := ⟨fld e.act.a 7 0, fld e.act.a 27 8, fld e.act.a 40 29, fld e.act.b 17 0, fld e.act.b 20 18⟩

/-- The place of a learned entry. -/
def learnedPlace (l : Learned) : Place := ⟨l.port, l.node, l.slice, l.rxQpBase, l.rxQpLog2⟩

/-- The place that a packet shows, by the binding that it has hit (R324). -/
def packetPlace (p : Pkt) (b : Option Entry) : Place :=
  let i := p.tag.ingress.toNat
  match b with
  | some e =>
    if 72 ≤ i ∧ i ≤ 74 then ⟨i, p.tag.originNode.toNat, p.tag.slice.toNat, fld e.act.a 45 28, fld e.act.a 48 46⟩
    else ⟨i, p.tag.originNode.toNat, 0, 0, 0⟩
  | none => ⟨i, p.tag.originNode.toNat, 0, 0, 0⟩

/-- The learned entry of a segment and address in pipeline `k`. -/
def learnedAt (s : Dev) (k seg mac : Nat) : Option Learned :=
  ((SMap.entries (s.pipe k).learned).map Prod.snd).find? (fun l => l.segment == seg && l.mac.toNat == mac)

/-- Entries of a segment and port in a pipeline's table (R326). -/
def learnedUse (s : Dev) (k seg port : Nat) : Nat :=
  ((SMap.entries (s.pipe k).learned).filter (fun e => e.2.segment == seg && e.2.port == port)).length

/-! ### Look-ups within a classification -/

/-- Where a classification is: GDDR7 reads answered and not yet used, look-ups made, those that read GDDR7, other counts. -/
structure Cx where
  left : Nat
  looks : Nat
  exts : Nat
  counts : List Ctr
  deriving DecidableEq, Repr

def Cx.add (c : Cx) (x : Ctr) : Cx := { c with counts := c.counts ++ [x] }

/-- Why a classification cannot go on: a lookup waits for GDDR7 lines of a table, read for a slice; or an entry or line of a table is lost to an
uncorrectable error (R310, R317, R320). -/
inductive Halt where
  | waits (table slice : Nat) (lines : List Nat)
  | lost (table index : Nat) (cx : Cx)
  deriving DecidableEq, Repr

/-- One look-up in a packet's version for a slice; it waits where it needs GDDR7 lines that have not returned, and fails at a lost entry or line
(R310, R317, R320). -/
def look (s : Dev) (k t sl : Nat) (key : List Byte) (c : Cx) : Except Halt (Option Entry × Cx) :=
  let d := RuleSet.tableDef (s.rules' k) t
  match badPlace s t d key with
  | some p => .error (.lost t p { c with looks := c.looks + 1 })
  | none =>
    let l := lookup s k t key
    let c1 := { c with looks := c.looks + 1, exts := c.exts + b2n l.ext }
    if !l.ext then .ok (l.hit.map Prod.fst, c1)
    else if c.left = 0 then .error (.waits t sl ((extBuckets t d key).map (bucketLine t)))
    else match badBucket s t d key with
      | some b => .error (.lost t b c1)
      | none => .ok (l.hit.map Prod.fst, { c1 with left := c.left - 1 })

/-- What a classification has decided: the packet, its destination or none for a drop, the learn event. -/
structure Verdict where
  pkt : Pkt
  dest : Option Dest
  learn : Option LearnEvent
  cx : Cx
  deriving DecidableEq, Repr

/-! ### Stage 1: binding -/

/-- The binding of a packet (R303): the exact key, then VID 0xFFF for a tagged packet. -/
def findBinding (s : Dev) (p : Pkt) (c : Cx) : Except Halt (Option Entry × Cx) :=
  let i := p.tag.ingress.toNat
  let key := bindKey p.tag.originNode.toNat i (if i ≤ 71 then 0 else p.tag.slice.toNat) (isTagged p)
  match look s p.tag.vslot.toNat 14 p.tag.slice.toNat (key (vlanId p)) c with
  | .error t => .error t
  | .ok (some e, c1) => .ok (some e, c1)
  | .ok (none, c1) => if isTagged p then look s p.tag.vslot.toNat 14 p.tag.slice.toNat (key 0xFFF) c1 else .ok (none, c1)

/-- A packet bound to the segment of its binding; ports 0 to 71 also set SLICE (R304). -/
def boundPkt (p : Pkt) (e : Entry) : Pkt :=
  let p1 := { p with ps := { p.ps with segment := some (fld e.act.a 15 0), bound := true } }
  if p.tag.ingress.toNat ≤ 71 then { p1 with tag := { p1.tag with slice := BitVec.ofNat 12 (fld e.act.a 27 16) } } else p1

/-! ### Stage 2: learning -/

/-- The learn event of a packet. -/
def learnEventOf (seg mac : Nat) (x : Place) (p : Pkt) : LearnEvent :=
  { segment := seg, mac := BitVec.ofNat 48 mac, port := x.port, node := x.node, slice := x.slice, rxQpBase := x.rxQpBase,
    rxQpLog2 := x.rxQpLog2, time := p.tag.entryTime, vslot := p.tag.vslot }

/-- What learning decides for a packet: drop it or not, the counts, and the event (R325, R326). -/
def learnStage (s : Dev) (k : Nat) (p : Pkt) (seg : Nat) (x : Segment) (b : Entry) (c : Cx) :
    Except Halt (Bool × Option LearnEvent × Cx) :=
  let mac := srcMac p
  let island := pipeIsland k
  if !segLearn x || p.tag.flag 5 || mac == 0 || isGroup mac || s.regField island 0x200 0 0 != 1 then .ok (false, none, c)
  else
    let place := packetPlace p (some b)
    match look s p.tag.vslot.toNat 15 p.tag.slice.toNat (macKey seg mac) c with
    | .error t => .error t
    | .ok (some e, c1) =>
      if staticPlace e = place then .ok (false, none, c1)
      else if segEnforce x then .ok (true, none, (c1.add .fwdStaticMismatch).add .fwdStaticDrop)
      else .ok (false, none, c1.add .fwdStaticMismatch)
    | .ok (none, c1) =>
      let same := match learnedAt s k seg mac with
        | some l => decide (learnedPlace l = place)
        | none => false
      if !same && segTenant x && decide (segLimit x ≤ learnedUse s k seg place.port) then
        if segFlood x then .ok (false, none, c1.add .fwdLimitFlood) else .ok (true, none, c1.add .fwdLimitDrop)
      else
        .ok (false, some (learnEventOf seg mac place p), c1)

/-! ### Stage 3: plan -/

/-- Bytes of the containers from byte `o` of the 192. -/
def contBytes (p : Pkt) (o n : Nat) : List Byte :=
  (List.range n).map (fun i => BitVec.ofNat 8 (cont p ((o + i) / 4) / 2 ^ (8 * (3 - (o + i) % 4))))

/-- One piece of a key (R313). -/
def pieceBytes (p : Pkt) (vrf : Nat) (w : BitVec 16) : List Byte :=
  let src := w.toNat % 128
  let n := w.toNat / 512 % 16 + 1
  if src < 48 then contBytes p (4 * src + w.toNat / 128 % 4) n
  else if src = 64 then beBytes (p.ps.segment.getD 0) 2
  else if src = 65 then beBytes p.tag.slice.toNat 2
  else if src = 66 then [BitVec.ofNat 8 p.tag.ingress.toNat]
  else beBytes vrf 2

/-- The key of a profile for a packet. -/
def profileKey (p : Pkt) (vrf : Nat) (x : KeyProfile) : List Byte := x.pieces.flatMap (pieceBytes p vrf)

/-- An action's METER_CLASS, POLICER and MIRROR apply to a packet where they are set (R306). -/
def applyFields (a : Action) (p : Pkt) : Pkt :=
  let p1 := match a.meter with
    | some m => { p with tag := { p.tag with meterClass := BitVec.ofNat 6 m } }
    | none => p
  { p1 with policer := if a.policer = 0x1FFFF then p1.policer else a.policer, mirror := if a.mirror = 0 then p1.mirror else a.mirror }

/-- The steps of a plan: the final action, none when MISS is final (R306). -/
def planSteps (s : Dev) (vrf : Nat) : List Nat → Pkt → Cx → Except Halt (Option Action × Pkt × Cx)
  | [], p, c => .ok (none, p, c)
  | n :: ns, p, c =>
    let k := p.tag.vslot.toNat
    let x := SMap.get KeyProfile.none (s.slot k).rules.profiles n
    match look s k x.table p.tag.slice.toNat (profileKey p vrf x) c with
    | .error t => .error t
    | .ok (some e, c1) => if e.act.kind = 0 then planSteps s vrf ns (applyFields e.act p) c1 else .ok (some e.act, p, c1)
    | .ok (none, c1) => planSteps s vrf ns p c1

/-- A final action's fields, its CLASS, and on the first classification its SLICE_SET for ports 0 to 71 (R307, Table 1-6). -/
def finalFields (first : Bool) (a : Action) (p : Pkt) : Pkt :=
  let p1 := { applyFields a p with cls := a.cls }
  match a.sliceSet with
  | some n => if first && decide (p.tag.ingress.toNat ≤ 71) then { p1 with tag := { p1.tag with slice := BitVec.ofNat 12 n } } else p1
  | none => p1

/-! ### Stage 4: resolution -/

/-- FORWARD or FORWARD_NODE to the place of an L2 entry (R323); none, with its count, where the port is unused or reserved (R37). -/
def placeDest (s : Dev) (x : Place) (queue : Nat) (p : Pkt) (c : Cx) : Pkt × Option Dest × Cx :=
  if x.node ≠ s.str.node then (withQueue 75 queue p, some (.node x.node), c)
  else if !s.egressOk x.port then (p, none, c.add .fwdBadEgress)
  else if 72 ≤ x.port ∧ x.port ≤ 74 then
    (withQueue x.port (x.rxQpBase + p.tag.flowHash.toNat / 2 ^ 12 % 2 ^ x.rxQpLog2) p, some (.port x.port), c)
  else (withQueue x.port queue p, some (.port x.port), c)

/-- A flood through the segment's list. -/
def flooded (x : Segment) (c : Cx) (p : Pkt) : Pkt × Option Dest × Cx :=
  let q := withQueue 75 p.tag.queue.toNat p
  ({ q with tag := q.tag.setFlag 6 }, some (.flood (segList x)), c.add .fwdFlood)

/-- BRIDGE (R323). -/
def bridge (s : Dev) (k : Nat) (x : Segment) (a : Action) (p : Pkt) (c : Cx) : Except Halt (Pkt × Option Dest × Cx) :=
  let mac := dstMac p
  let seg := p.ps.segment.getD 0
  if isGroup mac then .ok (flooded x c p)
  else match look s p.tag.vslot.toNat 15 p.tag.slice.toNat (macKey seg mac) c with
    | .error t => .error t
    | .ok (some e, c1) => .ok (placeDest s (staticPlace e) a.queue p (c1.add .fwdL2Hit))
    | .ok (none, c1) =>
      match learnedAt s k seg mac with
      | some l => .ok (placeDest s (learnedPlace l) a.queue p (c1.add .fwdL2Hit))
      | none => .ok (flooded x c1 p)

/-- The action that ROUTE resolves to: the LPM entry's, or none (R329, R330). -/
def routeAction (s : Dev) (x : Segment) (a : Action) (p : Pkt) : Option Action :=
  let v6 := p.ps.scratch.getLsbD 0
  let vrf := if a.arg % 4096 = 0xFFF then segVrf x else a.arg % 4096
  let addr := if v6 then cont p 4 * 2 ^ 96 + cont p 5 * 2 ^ 64 + cont p 6 * 2 ^ 32 + cont p 7 else cont p 4
  (lpmLookup s p.tag.vslot.toNat v6 vrf (BitVec.ofNat 128 addr)).map Route.act

/-- The destination of an action that needs no resolution (Table 9-4); none drops the packet with its count. -/
def actionDest (s : Dev) (a : Action) (p : Pkt) (c : Cx) : Pkt × Option Dest × Cx :=
  let bad : Pkt × Option Dest × Cx := (p, none, c.add .fwdBadEgress)
  match a.kind with
  | 1 => if s.egressOk a.egress then (withQueue a.egress a.queue p, some (.port a.egress), c) else bad
  | 2 => if a.node = s.str.node then bad else (withQueue 75 a.queue p, some (.node a.node), c)
  | 5 => (p, some (.program a.arg), c)
  | 6 => ({ p with ps := { p.ps with plan := some a.plan, entryIdx := a.entry } }, some .recirc, c)
  | 7 => (p, some (.decrypt (a.arg % 2 ^ 20)), c)
  | 8 => (p, some (.storage (if a.arg / 2 ^ 14 % 2 = 1 then none else some (a.arg % 2 ^ 14))), c)
  | 9 => (p, some .exception, c)
  | _ => (p, none, c.add .clsActionDrop)

/-- The final action and its resolution (stage 4). -/
def resolve (s : Dev) (k : Nat) (first : Bool) (x : Segment) (a : Action) (p0 : Pkt) (c : Cx) : Except Halt (Pkt × Option Dest × Cx) :=
  let p := finalFields first a p0
  if a.kind = 3 then
    match bridge s k x a p c with
    | .error t => .error t
    | .ok v => .ok v
  else if a.kind = 4 then
    match routeAction s x a p with
    | none => .ok (p, none, c.add .fwdRouteMiss)
    | some b => .ok (actionDest s b (finalFields first b p) c)
  else .ok (actionDest s a p c)

/-! ### Stage 5: policy -/

/-- The exception queue of a slice as a destination; none, with a count, where the slice has none. -/
def exceptionOr (s : Dev) (sl : Nat) (d : Dest) (x : Ctr) (c : Cx) : Option Dest × Cx :=
  if (s.exceptionQueue sl).isSome then (some d, c) else (none, c.add x)

/-- The parser policy of a flagged packet (R289, Table 8-3). -/
def policyStage (s : Dev) (p : Pkt) (d : Option Dest) (c : Cx) : Option Dest × Cx :=
  if p.tag.flag 4 || p.tag.flag 5 then
    let x := SMap.get Policy.default (s.slot p.tag.vslot.toNat).rules.policies p.tag.slice.toNat
    let code := if p.tag.flag 5 then x.malformed.toNat else x.incomplete.toNat
    match code with
    | 1 => exceptionOr s p.tag.slice.toNat .exception .prsPolicyDrop c
    | 2 => (none, c.add .prsPolicyDrop)
    | _ =>
      match d with
      | some (.program _) => (none, c.add .prsOuterDrop)
      | some .recirc => (none, c.add .prsOuterDrop)
      | some (.decrypt _) => (none, c.add .prsOuterDrop)
      | some (.storage _) => (none, c.add .prsOuterDrop)
      | _ => (d, c)
  else (d, c)

/-! ### The whole sequence -/

/-- Stages 3 to 5 of a packet in its segment. -/
def planOn (s : Dev) (k : Nat) (first : Bool) (p : Pkt) (learn : Option LearnEvent) (c : Cx) : Except Halt Verdict :=
  let v := p.tag.vslot.toNat
  let x := slotSegment s v (p.ps.segment.getD 0)
  let n := p.ps.plan.getD (segPlan x)
  let plan := SMap.get Plan.none (s.slot v).rules.plans n
  let p0 := { p with ps := { p.ps with plan := none }, cls := 0, policer := 0x1FFFF, mirror := 0 }
  if !plan.valid then
    let (d, c1) := policyStage s p0 none (c.add .clsPlanMiss)
    .ok ⟨p0, d, learn, c1⟩
  else match planSteps s (segVrf x) plan.steps p0 c with
    | .error t => .error t
    | .ok (a, p1, c1) =>
      match resolve s k first x (a.getD plan.miss) p1 c1 with
      | .error t => .error t
      | .ok (p2, d, c2) =>
        let (d1, c3) := policyStage s p2 d c2
        .ok ⟨p2, d1, learn, c3⟩

/-- A packet without a binding (R303). -/
def noBinding (s : Dev) (p : Pkt) (c : Cx) : Verdict :=
  let d : Option Dest := if (s.exceptionQueue 0).isSome then some .exception0 else none
  let (d1, c1) := policyStage s p d (c.add .clsNoBinding)
  ⟨p, d1, none, c1⟩

/-- One classification of a packet with `reads` GDDR7 lines returned: its verdict, or why it stops (Table 9-1). -/
def classifyRun (s : Dev) (k : Nat) (p : Pkt) (reads : Nat) : Except Halt Verdict :=
  let c : Cx := ⟨reads, 0, 0, []⟩
  if p.ps.bound then planOn s k false p none c
  else match findBinding s p c with
    | .error t => .error t
    | .ok (none, c1) => .ok (noBinding s p c1)
    | .ok (some e, c1) =>
      let seg := fld e.act.a 15 0
      let x := slotSegment s p.tag.vslot.toNat seg
      if !x.valid then .ok (noBinding s p c1)
      else
        let q := boundPkt p e
        match learnStage s k q seg x e c1 with
        | .error t => .error t
        | .ok (true, _, c2) =>
          let (_, c3) := policyStage s q none c2
          .ok ⟨q, none, none, c3⟩
        | .ok (false, ev, c2) => planOn s k true q ev c2

/-! ### Hand-off -/

/-- A packet sets out for a slice's exception queue, with the queue pair in QUEUE (R30, R235); without one it is dropped. -/
def toException (i k sl : Nat) (p : Pkt) (s : Dev) : Dev :=
  match s.exceptionQueue sl with
  | some qp => post i isl.TMG (withQueue (72 + s.slicePort sl) qp p) s
  | none => count .clsActionDrop k (dropPkt i p s)

/-- The pipeline sends a packet to its destination (R43). -/
def handOff (k : Nat) (p : Pkt) (d : Dest) (s : Dev) : Dev :=
  let i := pipeIsland k
  let q := { p with dest := d, pipe := k }
  match d with
  | .recirc =>
    if p.tag.pass = 3 then count .prsPassOverrun k (dropPkt i p s)
    else
      let r := { q with dest := .undecided, tag := { (q.tag.setFlag 3) with pass := q.tag.pass + 1 } }
      s.setPipe k { s.pipe k with recirc := (s.pipe k).recirc ++ [r] }
  | .program n => post i (dispatchIsland s p n) q (traceStep i 4 79 p s)
  | .decrypt _ => post i isl.LCP q s
  | .storage _ => post i isl.STE q s
  | .exception => toException i k p.tag.slice.toNat q s
  | .exception0 => toException i k 0 q s
  | .node n => if (s.route n).isSome then post i isl.TMG q s else count .fwdBadEgress k (dropPkt i p s)
  | _ => post i isl.TMG q s

/-- A learn event joins the pipeline's learn queue (R325). -/
def queueLearn (k : Nat) (e : LearnEvent) (s : Dev) : Dev :=
  let x := s.pipe k
  if 256 ≤ x.learnQ.length then count .fwdLearnOverrun k s else s.setPipe k { x with learnQ := x.learnQ ++ [e] }

/-- The counts of a classification. -/
def countCx (k : Nat) (c : Cx) (s : Dev) : Dev :=
  c.counts.foldl (fun s x => count x k s) (countBy .clsExtReads k c.exts (countBy .clsLookups k c.looks s))

/-- A verdict takes effect: counts, learning, the IN meters of the first classification on the origin member, hand-off (R517). -/
def settle (k : Nat) (first : Bool) (v : Verdict) (s : Dev) : Dev :=
  let s1 := countCx k v.cx s
  let s2 := match v.learn with
    | some e => queueLearn k e s1
    | none => s1
  let p := v.pkt
  let s3 := traceStep (pipeIsland k) 3 p.tag.ingress.toNat p s2
  let s4 := if first && p.tag.originNode.toNat == s.str.node then meterPacket p.tag.slice.toNat 0 p.tag s3 else s3
  match v.dest with
  | some d => handOff k p d s4
  | none => dropPkt (pipeIsland k) p s4

/-- A lookup fails at a lost entry or line: its packet is dropped, and a host send's work ends with a fault (R26, R320). -/
def lookupLost (k t index : Nat) (c : Cx) (p : Pkt) (s : Dev) : Dev :=
  let i := pipeIsland k
  logFault i 0xFF 0x0902 0 (mk64 [lo 4 t, at' (lo 32 index) 8]) 0
    (workBad p (count .xingPktDrop i (count .clsExtPoison k (dropPkt i p (countCx k c s)))))

/-- Classifies a packet, which waits for GDDR7 lines where it needs them; their reads are requested for its slice (R310, R317, R488). -/
def classify (k : Nat) (p : Pkt) (reads : Nat) (s : Dev) : Dev :=
  match classifyRun s k p reads with
  | .error (.waits t sl lines) =>
    lines.foldl (fun s l => memRequest sl false l (some p.tag.entryTime) s)
      (s.setPipe k { s.pipe k with waiting := (s.pipe k).waiting ++ [⟨t, reads, p⟩] })
  | .error (.lost t index c) => lookupLost k t index c p s
  | .ok v => settle k (!p.ps.bound) v s

/-- The packet's bucket has a packet that waits for a line (R310). -/
def bucketWaits (x : Pipeline) (p : Pkt) : Bool := x.waiting.any (fun w => Tag.bucket w.pkt.tag == Tag.bucket p.tag)

/-- CLASSIFICATION: the first packet whose pass has ended and whose bucket does not wait. `ue` names an on-chip entry that is found to have an
uncorrectable error (R320). -/
def classification (k : Nat) (ue : Option (Nat × Nat)) (s0 : Dev) : Dev :=
  let s := match ue with
    | some e => meetBadEntry e.1 e.2 s0
    | none => s0
  let x := s.pipe k
  match findIdxFrom (fun p => !bucketWaits x p) 0 x.parsed with
  | none => s
  | some (i, p) => classify k p 0 (s.setPipe k { x with parsed := x.parsed.eraseIdx i })

/-- A packet is classified (R301, Table 9-1). -/
def execClassification (e : ClassEvent) (s : State) : Host.Outcome State Fault Refusal := ran (Wf.classification e.pipe e.bad) (classification e.pipe e.bad) s

/-- The GDDR7 lines of the oldest waiting look-up return. A line that memory holds as poisoned fails it as R320 gives, and LINE_REBUILD writes it
anew; a response poisoned on the crossing alone drops the packet, and a later request reads the lines afresh (R26, Table 1-4). -/
def extTableResponse (k : Nat) (poisoned : Bool) (s : Dev) : Dev :=
  let x := s.pipe k
  match x.waiting with
  | [] => s
  | w :: rest =>
    let s1 := s.setPipe k { x with waiting := rest }
    if poisoned then workBad w.pkt (count .xingPktDrop (pipeIsland k) (dropPkt (pipeIsland k) w.pkt s1))
    else classify k w.pkt (w.reads + 1) s1

/-- A GDDR7 table line returns (R317, R320). -/
def execExtTableReadResponse (pipe : Nat) (poisoned : Bool) (s : State) : Host.Outcome State Fault Refusal := ran (Wf.extTableReadResponse pipe poisoned) (extTableResponse pipe poisoned) s

/-! ### Learning -/

/-- Replaces a learned entry of pipeline `k`. -/
def updateLearned (k seg : Nat) (mac : BitVec 48) (f : Learned → Learned) (s : Dev) : Dev :=
  let x := s.pipe k
  s.setPipe k { x with learned := x.learned.map (fun e => (e.1, e.2.map (fun l => if l.segment = seg ∧ l.mac = mac then f l else l))) }

/-- The 8 places of a learned entry (R324). -/
def learnPlaces (l : Learned) : List Nat := placesOf 32768 (fun w => Config.learnHash w (macKey l.segment l.mac.toNat))

/-- The entry is flapping: FLAPPING clears at hold_end (R326). -/
def isFlapping (s : Dev) (l : Learned) : Bool := l.flapping && !Time.ge s.now l.holdEnd

/-- Hold over: FLAPPING clears and the move history starts afresh (R326). -/
def endHold (l : Learned) : Learned := { l with flapping := false, moves := [] }

/-- A learn event is resolved (R326). The search for a place is bound by CLS_CUCKOO of the pipeline's island (DESIGN CHOICE, log 139). -/
def learn (k : Nat) (e : LearnEvent) (s : Dev) : Dev :=
  let x := slotSegment s e.vslot.toNat e.segment
  let place : Place := ⟨e.port, e.node, e.slice, e.rxQpBase, e.rxQpLog2⟩
  let atLimit := segTenant x && decide (segLimit x ≤ learnedUse s k e.segment e.port)
  let fresh : Learned :=
    { segment := e.segment, mac := e.mac, port := e.port, node := e.node, slice := e.slice, rxQpBase := e.rxQpBase, rxQpLog2 := e.rxQpLog2,
      lastTime := e.time, moves := [], flapping := false, holdEnd := 0 }
  if !x.valid then s
  else match learnedAt s k e.segment e.mac.toNat with
    | none =>
      if atLimit then count .fwdLimitFlood k s
      else match insertPart (s.movesOf (pipeIsland k)) learnPlaces fresh (s.pipe k).learned with
        | some m => count .fwdLearns k (s.setPipe k { s.pipe k with learned := m })
        | none => count .fwdLearnFull k s
    | some l0 =>
      let l := if l0.flapping && Time.ge s.now l0.holdEnd then endHold l0 else l0
      if learnedPlace l = place then updateLearned k e.segment e.mac (fun _ => { l with lastTime := e.time }) s
      else if atLimit then count .fwdLimitFlood k s
      else if l.flapping then s
      else
        let recent := l.moves.filter (fun t => decide (Time.since s.now t ≤ segWindow x * 1000000))
        if segMoves x ≤ recent.length then
          logFault (pipeIsland k) 0xFF 0x0A01 0 (mk64 [e.segment, at' k 16, at' e.port 24]) (BitVec.ofNat 64 e.mac.toNat)
            (count .fwdFlap k (updateLearned k e.segment e.mac
              (fun _ => { l with flapping := true, holdEnd := s.now.plus (10 * segWindow x * 1000000), moves := recent }) s))
        else
          count .fwdMoves k (updateLearned k e.segment e.mac (fun _ => { fresh with moves := s.now :: recent }) s)

/-- The learn queue serves its oldest event (R325, R326). -/
def learnEvent (pipe : Nat) (s : Dev) : Dev :=
 match (s.pipe pipe).learnQ with
    | [] => s
    | e :: rest => learn pipe e (s.setPipe pipe { s.pipe pipe with learnQ := rest })

/-- The command. -/
def execLearnEvent (pipe : Nat) (s : State) : Host.Outcome State Fault Refusal := ran (Wf.learnEvent pipe) (learnEvent pipe) s

/-- FLAP_HOLD_END: a frozen entry's hold ends (R326). -/
def flapHoldEnd (k seg : Nat) (mac : BitVec 48) (s : Dev) : Dev :=
  match learnedAt s k seg mac.toNat with
  | some l => if l.flapping then reach l.holdEnd (updateLearned k seg mac endHold s) else s
  | none => s

/-- A hold ends (R326). -/
def execFlapHoldEnd (pipe segment : Nat) (mac : BitVec 48) (s : State) : Host.Outcome State Fault Refusal := ran (Wf.flapHoldEnd pipe segment mac) (flapHoldEnd pipe segment mac) s

/-- The entry's segment in the active version. -/
def segmentNow (s : Dev) (l : Learned) : Segment := slotSegment s (s.activeSlot.getD 0) l.segment

/-- The entry is older than its segment's AGE_S (R327). -/
def aged (s : Dev) (l : Learned) : Bool :=
  (segmentNow s l).valid && Time.later s.now l.lastTime && decide (segAge (segmentNow s l) * 1000000000 < Time.since s.now l.lastTime)

/-- A pipeline's scan, while AGE_EN is 1: an aged entry goes and is counted; one whose segment is gone from the active version goes uncounted
(R327; DESIGN CHOICE, log 138). -/
def ageScan (k : Nat) (s : Dev) : Dev :=
  if s.regField (pipeIsland k) 0x200 1 1 = 1 then
    let n := ((SMap.entries (s.pipe k).learned).filter (fun e => aged s e.2)).length
    countBy .fwdAged k n (forgetIn k (fun l => aged s l || !(segmentNow s l).valid) s)
  else s

/-- Every pipeline scans its learned table (R327). -/
def ageingScan (s : Dev) : Dev := pipeNumbers.foldl (fun s k => ageScan k s) s

/-- The command. -/
def execAgeingScan (s : State) : Host.Outcome State Fault Refusal := ran Wf.ageingScan ageingScan s

end Sys2Proof.Machine
end

