-- ==== Sys2Proof/Machine/QueueRun.lean ====
section
/-! DEFINITION. Doorbells (R210 to R216, R567), descriptor fetching (R217, R233, R237), completion records (R225 to R231, R573). -/
namespace Sys2Proof.Machine

/-! ### Doorbells -/

/-- A rejected doorbell (R213 to R215): DB_REJECTS stops at 65,535. -/
def dbReject (q cause : Nat) (s : Dev) : Dev :=
  let x := s.qp q
  count .qdeDbReject 0
    (s.setQp q { x with lastReject := cause, dbRejects := if x.dbRejects = 0xFFFF#16 then x.dbRejects else x.dbRejects + 1 })

/-- The doorbell blocks of a page (Table 6-1). -/
inductive DbBlock where
  | producer | consumer | invalidate
  deriving DecidableEq, Repr

/-- Reserved bits of a doorbell word (Table 6-2). -/
def dbReserved (b : DbBlock) (w : W64) : Bool :=
  match b with
  | .invalidate => fld w 31 18 != 0 || fld w 51 49 != 0 || fld w 62 56 != 0
  | _ => fld w 31 18 != 0 || fld w 62 49 != 0

/-- A producer doorbell word for queue pair `q` (R213). One recorded while the slice is not ACTIVE starts no fetch and is counted (R184). -/
def dbProducer (q index : Nat) (s : Dev) : Dev :=
  let x := s.qp q
  if qpMod x ≤ index then dbReject q 4 s
  else if 2 ^ x.k < qpDiff x index x.consumer then dbReject q 1 s
  else
    whenB (decide ((s.slice x.slice).state ≠ .active)) (count .slcIdleDoorbell 0) (s.setQp q { x with producer := index, marked := true })

/-- A completion consumer doorbell word (R214). -/
def dbConsumer (q index : Nat) (s : Dev) : Dev :=
  let x := s.qp q
  if qpMod x ≤ index then dbReject q 4 s
  else if unread x < qpDiff x index x.cqConsumer then dbReject q 2 s
  else
    let y := { x with cqConsumer := index }
    checkPressure q (s.setQp q { y with pressed := y.pressed && pressure y })

/-- The entries from FIRST, COUNT of them, as ring indices. -/
def ringRun (x : QueuePair) (first n : Nat) : List Nat := (List.range n).map (fun i => (first + i) % qpMod x)

/-- Discards the unstarted copy of one entry; a started one is counted (R215, R218). -/
def invalidateEntry (q e : Nat) (s : Dev) : Dev :=
  let x := s.qp q
  match findItem x e with
  | none => s
  | some i =>
    if i.started ∨ i.outcome.isSome then count .qdeInvalLate 0 s
    else
      let y := onItem x e (fun i => { i with cached := false })
      s.setQp q { y with marked := true, fetching := y.fetching.map (fun r => if (ringRun y r.first r.n).contains e then { r with inv := e :: r.inv } else r) }

/-- An invalidate doorbell word (R215). -/
def dbInvalidate (q first n : Nat) (s : Dev) : Dev :=
  let x := s.qp q
  if qpMod x ≤ first then dbReject q 4 s
  else if (ringRun x first n).any (fun e => decide (outstanding x ≤ qpDiff x e x.consumer)) then dbReject q 3 s
  else (ringRun x first n).foldl (fun s e => invalidateEntry q e s) s

/-- One doorbell word of slice `sl`'s page, through port `p` (R211 to R216). -/
def dbWord (b : DbBlock) (p sl : Nat) (s : Dev) (w : W64) : Dev :=
  if !bit w 63 then s
  else
    let q := fld w 17 0
    let x := s.qp q
    if dbReserved b w || !x.valid || x.slice != sl then count .qdeDbForeign p s
    else
      match b with
      | .producer => dbProducer q (fld w 48 32) s
      | .consumer => dbConsumer q (fld w 48 32) s
      | .invalidate => dbInvalidate q (fld w 48 32) (fld w 55 52 + 1) s

/-- The slice's pages are served through this port and half (R108). -/
def pageServed (s : Dev) (p : Nat) (half : Bool) (sl : Nat) : Bool :=
  decide ((s.slice sl).state ≠ .free) && s.slicePort sl == p && (!(s.port p).bifurcated || (s.slice sl).half == half)

/-- An access to a slice page through another port or half, or of no slice (R108): cause 6, the BAR and offset recorded. -/
def wrongPort (p bar off : Nat) (write : Bool) (s : Dev) : Dev := count .hifWrongPort p (abort p bar off write 6 s)

/-- The block of an offset of the doorbell page. -/
def dbBlock (off : Nat) : Option DbBlock :=
  if off < 0x40 then some .producer else if off < 0x80 then some .consumer else if off < 0xC0 then some .invalidate else none

/-- The bit that VECTOR control words give: mask or unmask vector (off − 0xFC00) / 8 (R196). A write of a vector at or above VECTORS
is discarded. -/
def vectorWord (sl v : Nat) (mask : Bool) (s : Dev) : Dev :=
  if v < (s.slice sl).profile.vectors then vecTry sl v (s.setVec sl v { s.vec sl v with mask := mask }) else s

/-- A doorbell page write takes effect in QDE: `off` within the page, `len` bytes, its words (R196, R210, R211). -/
def doorbellEffect (p sl off len : Nat) (ws : List W64) (s : Dev) : Dev :=
  match dbBlock off with
  | some b =>
    if off % 8 = 0 ∧ len % 8 = 0 ∧ 8 ≤ len ∧ off % 64 + len ≤ 64 then (ws.take (len / 8)).foldl (dbWord b p sl) s
    else count .qdeDbBadAccess p s
  | none =>
    if 0xFC00 ≤ off ∧ off < 0xFE00 then
      if off % 8 = 0 ∧ len = 8 then vectorWord sl ((off - 0xFC00) / 8) (bit (ws.getD 0 0) 0) s else count .qdeDbBadAccess p s
    else s

/-- A write to a slice's doorbell page reaches the port: through the right port it takes the doorbell crossing, and waits in the
port when there is no credit (R108, R567). -/
def doorbellWrite (p : Nat) (half : Bool) (sl off len : Nat) (ws : List W64) (s : Dev) : Dev :=
  let x := s.port p
  if !s.linkUsable p half || x.dbHeld.isSome || x.held.isSome then s
  else if !pageServed s p half sl then wrongPort p 1 (sl * 65536 + off) true s
  else
    if x.dbCredits = 0 then s.setPort p { x with dbHeld := some (half, sl * 65536 + off, len, ws) }
    else doorbellEffect p sl off len ws (s.setPort p { x with dbCredits := x.dbCredits - 1 })

/-- QDE takes a block of the doorbell crossing out of its FIFO: the credit returns, and a held write goes (R17, R567). -/
def doorbellCredit (p : Nat) (s : Dev) : Dev :=
  let x := s.port p
  if x.dbCredits < 64 then
    match x.dbHeld with
    | some (_, off, len, ws) => doorbellEffect p (off / 65536) (off % 65536) len ws (s.setPort p { x with dbHeld := none })
    | none => s.setPort p { x with dbCredits := x.dbCredits + 1 }
  else s

/-- A write of producer doorbell words (R213). -/
def execProducerDoorbell (port : Nat) (half : Bool) (sl off len : Nat) (ws : List W64) (s : State) : Host.Outcome State Fault Refusal := ran (Wf.producerDoorbell port half sl off len ws) (doorbellWrite port half sl off len ws) s

/-- A write of completion consumer doorbell words (R214). -/
def execCompletionConsumerDoorbell (port : Nat) (half : Bool) (sl off len : Nat) (ws : List W64) (s : State) : Host.Outcome State Fault Refusal := ran (Wf.completionConsumerDoorbell port half sl off len ws) (doorbellWrite port half sl (0x40 + off) len ws) s

/-- A write of invalidate doorbell words (R215). -/
def execInvalidateDoorbell (port : Nat) (half : Bool) (sl off len : Nat) (ws : List W64) (s : State) : Host.Outcome State Fault Refusal := ran (Wf.invalidateDoorbell port half sl off len ws) (doorbellWrite port half sl (0x80 + off) len ws) s

/-- A control word write: 1 masks the vector, 0 unmasks it (R196). -/
def vectorControl (port : Nat) (half : Bool) (sl v len : Nat) (mask : Bool) (s : Dev) : Dev :=
  doorbellWrite port half sl (0xFC00 + 8 * v) len [BitVec.ofNat 64 (b2n mask)] s

/-- A control-word write of 1 (R196). -/
def execVectorMask (port : Nat) (half : Bool) (sl v len : Nat) (s : State) : Host.Outcome State Fault Refusal := ran (Wf.vectorMask port half sl v len) (vectorControl port half sl v len true) s

/-- A control-word write of 0: a message that is due goes (R193, R196). -/
def execVectorUnmask (port : Nat) (half : Bool) (sl v len : Nat) (s : State) : Host.Outcome State Fault Refusal := ran (Wf.vectorUnmask port half sl v len) (vectorControl port half sl v len false) s

/-! ### Fetching -/

/-- The entry needs a fetch of its own: its copy was discarded and no outstanding fetch brings a new one. -/
def refetch (x : QueuePair) (i : WorkItem) : Bool :=
  !(WorkItem.fetched i) && !(x.fetching.any (fun r => (ringRun x r.first r.n).contains i.index && !r.inv.contains i.index))

/-- Posted descriptors for which no entry is reserved. -/
def unfetched (x : QueuePair) : Nat := outstanding x - x.items.length

/-- Slots from an index to the end of its 4 KiB block of 64 slots or of the ring (R217). -/
def runRoom (x : QueuePair) (index : Nat) : Nat :=
  let slot := index % 2 ^ x.k
  Nat.min (64 - slot % 64) (2 ^ x.k - slot)

/-- The run of entries at the head of `l` whose indices follow one another, at most `n`. -/
def runLen (x : QueuePair) : Nat → List WorkItem → Nat
  | 0, _ => 0
  | _, [] => 0
  | n + 1, i :: t => if refetch x i then 1 + runLen x n t else 0

/-- Posted descriptors not yet fetched, up to the last that an abort waits for: those are fetched first, whatever PREFETCH is (R232). -/
def abortNeed (x : QueuePair) : Nat :=
  x.aborts.foldl (fun n a => Nat.max n (qpDiff x a.1 x.consumer + 1 - x.items.length)) 0

/-- The next fetch of a queue pair: first index and count, of entries to fetch again first, then of new ones; `room` is what the
channel's cache has free (R217, R230, R237). -/
def nextRun (x : QueuePair) (room : Nat) : Option (Nat × Nat × Bool) :=
  match x.items.dropWhile (fun i => !refetch x i) with
  | i :: t =>
    let n := runLen x (Nat.min (runRoom x i.index) room) (i :: t)
    if n = 0 then none else some (i.index, n, false)
  | [] =>
    let i := nextFetch x
    let lead := Nat.max (x.prefetch - unstarted x) (abortNeed x)
    let n := Nat.min (Nat.min (unfetched x) lead) (Nat.min (Nat.min (64 - x.items.length) room) (runRoom x i))
    if n = 0 then none else some (i, n, true)

/-- Entries of the channel's cache in use: descriptors cached or being fetched (R237). -/
def Dev.cacheUsed (s : Dev) (c : Nat) : Nat := ((s.qpsOn c).map (fun q => unstarted (s.qp q))).sum

/-- The queue pair is fetched for whatever FILL is: it has nothing cached to work on, or an abort waits for an entry (R232, R237). -/
def starved (x : QueuePair) : Bool := cachedCount x == 0 || !x.aborts.isEmpty

/-- A frame of the SEND queue pair waits for room in a distributor's hold, so QDE fetches nothing for it (R51). -/
def fetchStopped (s : Dev) (q : Nat) : Bool :=
  (s.qp q).items.any (fun i => i.stalled) || (s.distInbox 3).any (fun p => p.refused && p.work.any (fun w => w.qp == q))

/-- The queue pairs of a channel in round-robin order after the one served last. -/
def roundRobin (last : Nat) (qs : List Nat) : List Nat := qs.filter (fun q => decide (last < q)) ++ qs.filter (fun q => decide (q ≤ last))

/-- The fetch that a channel's fetcher issues next: queue pair, first index, count, new entries (R237). Fetch reads leave 8 of the channel's 128
outstanding reads to the descriptors in progress (R236). -/
def fetchChoice (c : Nat) (s : Dev) : Option (Nat × Nat × Nat × Bool) :=
  let qs := (roundRobin (s.dma c).lastQp (s.qpsOn c)).filter (fun q => running s (s.qp q) && (s.qp q).marked && !fetchStopped s q)
  let room := 128 - s.cacheUsed c
  let pick := fun (limit : Nat) (qs : List Nat) =>
    qs.findSome? (fun q => (nextRun (s.qp q) (Nat.min room limit)).map (fun (i, n, f) => (q, i, n, f)))
  if 120 ≤ s.readsOn c then none
  else match pick 128 (qs.filter (fun q => starved (s.qp q))) with
  | some r => some r
  | none => if (s.dma c).fetching then pick ((s.dma c).high - s.dmaFill c) qs else none

/-- Nothing of the queue pair is left to fetch. -/
def fetchedAll (x : QueuePair) : Bool := unfetched x == 0 && x.items.all (fun i => !refetch x i)

/-- The ring address of an entry. -/
def slotAddr (x : QueuePair) (i : Nat) : W64 := x.workAddr + BitVec.ofNat 64 (64 * (i % 2 ^ x.k))

/-- The read of a fetch is issued; on a link that cannot carry it, or where the ring may not be read, the queue pair enters FETCH_ERROR (R233, R568). -/
def fetchRead (q i n : Nat) (s : Dev) : Dev :=
  if qpUsable s q then (issueRead q i .fetch (slotAddr (s.qp q) i) (64 * n) s).getD (fetchError q i 4 s) else fetchError q i 1 s

/-- A channel's fetcher issues one fetch read, when one is due, and FILL is evaluated; with nothing more to fetch the fetcher stops (R217, R237,
R568). -/
def descriptorFetch (c : Nat) (s : Dev) : Dev :=
  match fetchChoice c s with
  | none => s.setDma c { s.dma c with fetching := false }
  | some (q, i, n, fresh) =>
    let x := s.qp q
    let y := { x with fetching := x.fetching ++ [Fetch.mk i n [] s.now],
                      items := if fresh then x.items ++ (ringRun x i n).map newItem else x.items }
    let s1 := (s.setQp q { y with marked := !fetchedAll y }).setDma c { s.dma c with lastQp := q }
    evalFill c (fetchRead q i n s1)

/-- The channel's fetcher runs (R237). -/
def execDescriptorFetch (chan : Nat) (s : State) : Host.Outcome State Fault Refusal := ran (Wf.descriptorFetch chan) (descriptorFetch chan) s

/-- The descriptor fetch timer of the queue pair runs out (R233): it runs from the first issue of the fetch. -/
def descriptorFetchTimeout (qp : Nat) (s : Dev) : Dev :=
  match (s.qp qp).fetching with
  | [] => s
  | r :: _ => fetchError qp r.first 0 (reach (Time.plus r.start ((s.qp qp).timeoutUs * 1000)) s)

/-- The command. -/
def execDescriptorFetchTimeout (qp : Nat) (s : State) : Host.Outcome State Fault Refusal := ran (Wf.descriptorFetchTimeout qp) (descriptorFetchTimeout qp) s

/-! ### Completion records -/

/-- The four words of a completion record (Table 6-5). -/
def recordWords (x : QueuePair) (i : WorkItem) (o : WorkOutcome) : List W64 :=
  [mk64 [(dSeq i.words).toNat, at' (dOpcode i.words) 32, at' o.progress 40, at' o.status 42],
   mk64 [lo 40 o.bytes, at' (lo 8 o.frag) 40, at' (lo 16 o.detail) 48],
   dWord i 7,
   mk64 [o.time.toNat, at' (lo 12 o.rxFlags) 48, at' (b2n (decide (i.index / 2 ^ x.k % 2 = 0))) 63]]

/-- The address of the completion slot of an index (R206). -/
def cqSlotAddr (x : QueuePair) (index : Nat) : W64 := x.cqAddr + BitVec.ofNat 64 (32 * (index % 2 ^ x.k))

/-- The record next in ring order is finished and the completion ring has room (R208, R228). -/
def recordReady (x : QueuePair) : Option (WorkItem × WorkOutcome) :=
  match x.items with
  | i :: _ =>
    match i.outcome with
    | some o => if unread x < 2 ^ x.k ∧ i.index = x.consumer ∧ i.writes = [] then some (i, o) else none
    | none => none
  | [] => none

/-- The record is on the ring: CONSUMER advances, the holding entry is freed, meters and the vector follow (R206, R229, R230,
Table 15-3). -/
def recordWritten (q : Nat) (i : WorkItem) (o : WorkOutcome) (s : Dev) : Dev :=
  let x := s.qp q
  let fault := o.status != 0
  let s1 := s.setQp q { x with items := x.items.drop 1, consumer := (x.consumer + 1) % qpMod x }
  let s2 := whenB fault (count .qdeFaultCompletions (qpPort s q).1) s1
  let s3 := match i.frame with
    | some p => if fault then s2 else meterPacket x.slice 8 p.tag s2
    | none => s2
  let s4 := s3.setSlice x.slice { s3.slice x.slice with quiesce :=
    let z := (s3.slice x.slice).quiesce
    { z with faultCompletions := if fault && z.step != 0 then z.faultCompletions + 1 else z.faultCompletions } }
  if (dEvent i.words || x.eventAll || fault) ∧ x.vector ≠ 255 then vecEvent x.slice x.vector.toNat s4 else s4

/-- COMPLETION_RECORD_WRITE (R228): the write goes once ring space permits, the port carries it (R568) and the ring's page is
translated; records of a slice ended by port loss are not written (R189). -/
def completionRecordWrite (q : Nat) (s : Dev) : Dev :=
  let x := s.qp q
  if !x.valid || x.recordRefused || ((s.slice x.slice).quiesce.hostLost && decide ((s.slice x.slice).state ≠ .active)) then s
  else
    match recordReady x with
    | none => checkPressure q s
    | some (i, o) =>
      let (p, h, pasid) := qpPort s q
      if !s.linkUsable p h then s
      else match s.atcFind p pasid (cqSlotAddr x i.index) with
        | some e =>
          if e.write then
            checkPressure q (recordWritten q i o (charge q 32
              (emit (.hostWrite p h pasid (cqSlotAddr x i.index) (wordsBytes (recordWords x i o))) s)))
          else fetchError q i.index 5 (s.setQp q { x with recordRefused := true })
        | none => if (s.reqOf q i.index .ring (fun _ => true)).isSome then s else askPage q i.index .ring (cqSlotAddr x i.index) 32 s

/-- The record next in ring order is written (R228). -/
def execCompletionRecordWrite (qp : Nat) (s : State) : Host.Outcome State Fault Refusal := ran (Wf.completionRecordWrite qp) (completionRecordWrite qp) s

end Sys2Proof.Machine
end

