-- ==== Sys2Proof/Machine/QueueDma.lean ====
section
/-! DEFINITION. The work of a descriptor: host reads and writes, sends, receives (R217, R220 to R224, R227, R234, R236, R239). -/
namespace Sys2Proof.Machine

/-! ### Requests -/

/-- Bytes for consecutive addresses, cut where a 4 KiB page ends, at most `n` pieces. -/
def cutPages : Nat → W64 → List Byte → List (W64 × List Byte)
  | 0, _, _ => []
  | n + 1, a, bs =>
    let room := 4096 - a.toNat % 4096
    if bs = [] then []
    else if bs.length ≤ room then [(a, bs)] else (a, bs.take room) :: cutPages n (a + BitVec.ofNat 64 room) (bs.drop room)

/-- Sends waiting writes in order as far as their translations are cached and allow it: the state, the bytes sent, the writes left. -/
def flushList (q : Nat) : List (W64 × List Byte) → Nat → Dev → Dev × Nat × List (W64 × List Byte)
  | [], n, s => (s, n, [])
  | (a, bs) :: t, n, s =>
    let (p, h, pasid) := qpPort s q
    if (s.atcFind p pasid a).any (fun e => e.write) then flushList q t (n + bs.length) (charge q bs.length (hostWrite p h pasid a bs s))
    else (s, n, (a, bs) :: t)

/-- Sends what a work item has to write, as far as it can: the first write whose page is not known asks for it, and one that is not allowed ends the
descriptor (R239). Where the port carries no write, what there is to write is discarded (R568). With nothing left, finished work goes on (R228). -/
def flushWrites (q index : Nat) (s : Dev) : Dev :=
  match findItem (s.qp q) index with
  | none => s
  | some i =>
    if !qpUsable s q then writesGone q index (s.setQp q (onItem (s.qp q) index (fun i => { i with writes := [] })))
    else
      let (p, _, pasid) := qpPort s q
      let (s1, n, rest) := flushList q i.writes 0 s
      let s2 := s1.setQp q (onItem (s1.qp q) index (fun i => { i with writes := rest, landed := i.landed + n }))
      match rest with
      | [] => writesGone q index s2
      | (a, bs) :: _ =>
        if (s2.atcFind p pasid a).isSome then translationFault q index s2
        else if (s2.reqOf q index .data (fun r => !r.gone)).isSome then s2
        else askPage q index .data a bs.length s2

/-- The buffer's parts that bytes from `off` on go to, with the bytes. -/
def spread : List (W64 × Nat) → Nat → List Byte → List (W64 × List Byte)
  | [], _, _ => []
  | (a, n) :: t, off, bs =>
    if bs = [] then []
    else if n ≤ off then spread t (off - n) bs
    else (a + BitVec.ofNat 64 off, bs.take (n - off)) :: spread t 0 (bs.drop (n - off))

/-- Writes bytes to a work item's buffer from byte `off` on. -/
def writeBuffer (q index off : Nat) (bs : List Byte) (s : Dev) : Dev :=
  match findItem (s.qp q) index with
  | none => s
  | some i =>
    let pieces := (spread i.parts off bs).flatMap (fun (a, b) => cutPages (b.length / 4096 + 2) a b)
    flushWrites q index (s.setQp q (onItem (s.qp q) index (fun i => { i with writes := i.writes ++ pieces })))

/-- What a read of a work item is about. -/
def ReadReq.what (r : ReadReq) : ReadWhat := if r.table then .table else .data

/-- Issues a host read for a work item; on a link that cannot carry it the descriptor ends BAD, and where the page may not be read TRANSLATION_FAULT
(R236, R239, R568). -/
def itemRead (q index : Nat) (r : ReadReq) (s : Dev) : Dev :=
  let s1 := s.setQp q (onItem (s.qp q) index (fun i => { i with req := some r }))
  if qpUsable s1 q then (issueRead q index (ReadReq.what r) r.addr r.len s1).getD (translationFault q index s1) else readError q index 7 s1

/-- A read of `n` bytes at an address, as requests that stay within 4 KiB pages: the first one. -/
def dataRead (a : W64) (n : Nat) (eof : Bool) : ReadReq :=
  let m := Nat.min n (4096 - a.toNat % 4096)
  { addr := a, len := m, left := n - m, eof := eof, table := false }

/-- Reads the next fragment table entry of a work item (R220). -/
def readEntry (q index : Nat) (s : Dev) : Dev :=
  match findItem (s.qp q) index with
  | some i => itemRead q index { addr := dWord i 1 + BitVec.ofNat 64 (16 * i.curFrag), len := 16, left := 0, eof := false, table := true } s
  | none => s

/-! ### Receiving -/

/-- The frame is written to its buffer from the start, and the descriptor ends GOOD with the frame's data (R222, R225, R227). -/
def rxWrite (q index : Nat) (p : Pkt) (s : Dev) : Dev :=
  let s1 := s.setQp q (onItem (s.qp q) index (fun i => { i with passed := p.bytes.length }))
  goodItem q index p.bytes.length (p.tag.flags.toNat % 4096) 0 (writeBuffer q index 0 p.bytes s1)

/-- The host port towards which a frame was sent (R234). -/
def rxPort (p : Pkt) : Nat :=
  match p.dest with
  | .port n => n - 72
  | _ => 0

/-- Assigns a frame to an unused RECEIVE descriptor, which starts it; one longer than a direct buffer is dropped, and the descriptor stays unused
(R217, R222, R234). -/
def rxAssign (q : Nat) (i : WorkItem) (p : Pkt) (s : Dev) : Dev :=
  let begin' := fun (parts : List (W64 × Nat)) =>
    channelStarts q (s.setQp q (onItem (s.qp q) i.index (fun i => { i with started := true, frame := some p, parts := parts, curFrag := 0 })))
  if dIndirect i.words then readEntry q i.index (begin' [])
  else if dLength i.words < p.bytes.length then count .qdeRxTooLong (rxPort p) s
  else rxWrite q i.index p (begin' [(dWord i 1, p.bytes.length)])

/-- The next unused descriptor that has an entry. -/
def nextUnused (x : QueuePair) : Option WorkItem := x.items.find? (fun i => !i.started && i.outcome.isNone)

/-- The next unused RECEIVE descriptor, where it is cached and its channel may have one more in progress (R234, R236). -/
def rxBuffer (s : Dev) (q : Nat) : Option WorkItem :=
  (nextUnused (s.qp q)).filter (fun i => i.cached && decide (s.dmaBusy (s.qp q).channel < 8) && decide ((s.slice (s.qp q).slice).state = .active))

/-- Staged frames take descriptors that are cached now, oldest first, at most `n` of them (R184, R234, R236). -/
def rxDrain (q : Nat) : Nat → Dev → Dev
  | 0, s => s
  | n + 1, s =>
    let x := s.qp q
    match x.staging, rxBuffer s q with
    | p :: rest, some i => rxDrain q n (rxAssign q i p (s.setQp q { x with staging := rest }))
    | _, _ => s

/-- Bytes in receive staging on a port. -/
def Dev.stagedBytes (s : Dev) (port : Nat) : Nat :=
  (s.qde.pairs.map (fun (q, x) => if (qpPort s q).1 = port then (x.staging.map (fun p => p.bytes.length)).sum else 0)).sum

/-- A frame for a receive queue pair (R184, R234, R235). -/
def rxFrame (p : Pkt) (s : Dev) : Dev :=
  let q := p.tag.queue.toNat
  let x := s.qp q
  let port := rxPort p
  if !x.valid || x.typ != 1 then count .qdeRxBadQp port s
  else if (s.slice x.slice).state ≠ .active then count .slcRxDrop 0 s
  else
    let stage := fun (s : Dev) =>
      if 4 ≤ x.staging.length ∨ 2097152 < s.stagedBytes port + p.bytes.length then count .qdeRxStageDrop port s
      else s.setQp q { x with staging := x.staging ++ [p] }
    match nextUnused x with
    | some _ =>
      match (rxBuffer s q).filter (fun _ => x.staging.isEmpty) with
      | some i => rxAssign q i p s
      | none => stage s
    | none => if 0 < unfetched x then stage s else count .qdeRxNoBuf port s

/-- The frame at the head of QDE's input (R45, R234). -/
def rxFrameArrival (s : Dev) : Dev :=
  match s.qde.rxIn with
  | [] => s
  | p :: rest => rxFrame p (traceStep isl.QDE 8 (72 + rxPort p) p { s with qde := { s.qde with rxIn := rest } })

/-- A frame reaches QDE for a receive queue pair (R234). -/
def execRxFrameArrival (s : State) : Host.Outcome State Fault Refusal := ran Wf.rxFrameArrival rxFrameArrival s

/-- The fragments of an indirect RECEIVE hold the frame, or there are no more: it is written, or dropped as too long (R234). -/
def rxEntry (q index : Nat) (s : Dev) : Dev :=
  match findItem (s.qp q) index with
  | none => s
  | some i =>
    match i.frame with
    | none => s
    | some p =>
      if p.bytes.length ≤ (i.parts.map (fun e => e.2)).sum then rxWrite q index p s
      else if i.curFrag < dFrags i.words then readEntry q index s
      else
        rxDrain q 4 (count .qdeRxTooLong (rxPort p)
          (s.setQp q (onItem (s.qp q) index (fun i => { i with started := false, frame := none, parts := [], curFrag := 0 }))))

/-! ### Sending -/

/-- Goes on with a SEND after a frame or at its start: the next fragment, or the end of the descriptor (R221, R227). -/
def sendNext (q index : Nat) (s : Dev) : Dev :=
  match findItem (s.qp q) index with
  | none => s
  | some i =>
    if dIndirect i.words && decide (i.curFrag < dFrags i.words) then readEntry q index s
    else goodItem q index i.passed 0 0 s

/-- A whole frame of a SEND is tagged and passed to its pipeline, and the descriptor goes on (R39, R221). While the distributor's hold has no room for
it, the frame waits (R51). -/
def sendFrame (q index : Nat) (s : Dev) : Dev :=
  match findItem (s.qp q) index with
  | none => s
  | some i =>
    let x := s.qp q
    if bucketFull s 3 (flowHash (BitVec.ofNat 12 x.slice) i.cur) ((i.cur.length + 32 + 255) / 256) then
      whenB (!i.stalled) (count .distHoldFull 3) (s.setQp q (onItem x index (fun i => { i with stalled := true })))
    else
    let s1 := s.setQp q (onItem x index (fun i =>
      { i with passed := i.passed + i.cur.length, frag := if dIndirect i.words then i.curFrag else 0, cur := [], entryTime := none, stalled := false }))
    sendNext q index (tagAndQueue 3 (BitVec.ofNat 12 x.slice) (72 + (qpPort s q).1) (i.entryTime.getD s.now) i.cur
      (fun p => { p with work := some { qp := q, seq := dSeq i.words } }) s1)

/-- Frames of a channel's SENDs that wait for a distributor's hold try again (R51). -/
def resumeSends (c : Nat) (s : Dev) : Dev :=
  (s.qpsOn c).foldl (fun s q => ((s.qp q).items.filter (fun i => i.stalled)).foldl (fun s i => sendFrame q i.index s) s) s

/-- Data of a SEND arrives: the frame goes on, ends, or its fragment has more to read (R31, R221). -/
def sendData (q index : Nat) (r : ReadReq) (bs : List Byte) (s : Dev) : Dev :=
  let s1 := s.setQp q (onItem (s.qp q) index (fun i =>
    { i with cur := i.cur ++ bs, req := none, entryTime := if i.entryTime.isNone then some s.now else i.entryTime }))
  if 0 < r.left then itemRead q index (dataRead (r.addr + BitVec.ofNat 64 r.len) r.left r.eof) s1
  else if r.eof then sendFrame q index s1
  else sendNext q index s1

/-- The reason for which a fragment entry is malformed, or none (Table 6-4): reserved bits, LENGTH, a frame's length, END_OF_FRAME. -/
def entryReason (x : QueuePair) (i : WorkItem) (w1 : W64) : Option Nat :=
  let n := fld w1 24 0
  let eof := bit w1 25
  if fld w1 63 26 ≠ 0 then some 2
  else if n = 0 then some 6
  else if x.typ = 0 then
    if 16384 < i.cur.length + n ∨ (eof ∧ i.cur.length + n < 14) ∨ (eof = false ∧ i.curFrag + 1 = dFrags i.words) then some 7 else none
  else if x.typ = 1 ∧ eof then some 8
  else none

/-! ### Fetched descriptors -/

/-- The word of an abort's response (Table 6-9). -/
def abortWords (o : WorkOutcome) : List W64 := [mk64 [at' o.progress 40, at' o.status 42]]

/-- Aborts that waited for an entry to be fetched (R232). -/
def abortsFor (q index : Nat) (s : Dev) : Dev :=
  let x := s.qp q
  let mine := x.aborts.filter (fun a => a.1 == index)
  let s1 := s.setQp q { x with aborts := x.aborts.filter (fun a => a.1 != index) }
  mine.foldl (fun s (_, seq, j) =>
    match findItem (s.qp q) index with
    | some i =>
      if dSeq i.words ≠ seq then answer j .badArgument [] s
      else if i.outcome.isSome then answer j .alreadyComplete [] s
      else
        let o := faultOutcome s (s.qp q) i 3
        answer j .ok (abortWords o) (s.setQp q (onItem (s.qp q) index (setOutcome o)))
    | none => answer j .badArgument [] s) s1

/-- One fetched descriptor is held whole and checked; on a slice that is no longer ACTIVE its work ends as the halt or the quiesce
ends fetched work (R183, R186, R217, R223, R232). -/
def fetchedOne (q index : Nat) (ws : List W64) (s : Dev) : Dev :=
  let x := s.qp q
  match findItem x index with
  | none => s
  | some i =>
    if WorkItem.fetched i then s
    else
      let s1 := abortsFor q index (s.setQp q (onItem x index (fun i => { i with words := ws, cached := true })))
      let z := s1.slice x.slice
      if z.state = .halted then endItem q index 5 s1
      else if z.state = .forcing ∨ z.state = .quiesced ∨ (z.state = .quiescing ∧ 5 ≤ z.quiesce.step) then endItem q index 4 s1
      else
        match (findItem (s1.qp q) index).bind (fun i => if i.outcome.isSome then none else malformedReason s1 (s1.qp q) ws) with
        | some reason => malformed q index reason 0 s1
        | none => s1

/-- A fetch read returns: its descriptors are held whole, but for entries invalidated since (R217, R218, R223); staged frames and the
COMPLETION_PRESSURE event follow (R231, R234). -/
def fetchDone (q : Nat) (r : Fetch) (ds : List (List W64)) (s : Dev) : Dev :=
  let x := s.qp q
  let es := (ringRun x r.first r.n).zip ds
  let s1 := (es.filter (fun e => !r.inv.contains e.1)).foldl (fun s (e, ws) => fetchedOne q e ws s) (s.setQp q { x with fetching := x.fetching.erase r })
  evalFill x.channel (checkPressure q (rxDrain q 4 s1))

/-- The oldest fetch of a queue pair whose read has left, and that read. -/
def fetchOut (s : Dev) (q : Nat) (p : Fetch → Bool) : Option (Fetch × QdeReq) :=
  (s.qp q).fetching.findSome? (fun r => if p r then (s.reqOf q r.first .fetch (fun x => x.gone && x.len == 64 * r.n)).map (fun x => (r, x)) else none)

/-- DESCRIPTOR_FETCH_COMPLETE: the oldest fetch read's data (R223). -/
def fetchComplete (q : Nat) (ds : List (List W64)) (s : Dev) : Dev :=
  match fetchOut s q (fun r => decide (ds.length = r.n)) with
  | some (r, x) => fetchDone q r ds (endReq x s)
  | none => s

/-- Fetched descriptors arrive (R223). -/
def execDescriptorFetchComplete (qp : Nat) (ds : List (List W64)) (s : State) : Host.Outcome State Fault Refusal := ran (Wf.descriptorFetchComplete qp ds) (fetchComplete qp ds) s

/-! ### Translations and invalidations -/

/-- Two pages, of 2^l and 2^m bytes, overlap. -/
def pagesMeet (page l other m : Nat) : Bool := if l ≤ m then page / 2 ^ (m - l) == other else other / 2 ^ (l - m) == page

/-- ATS_INVALIDATION (R240): matching entries leave the cache at once; the completion is owed. -/
def atsInvalidation (port : Nat) (pasid : Option (BitVec 20)) (page log2 tag : Nat) (s : Dev) : Dev :=
  let hits := fun (e : AtcEntry) => decide (e.pasid = pasid) && pagesMeet e.page e.log2 page log2
  let v : Inval := { port := port, tag := tag, pasid := pasid, page := page, log2 := log2, upTo := s.qde.reqNo }
  count .dmaAtcInval port
    { s with qde := { s.qde with atc := SMap.put [] s.qde.atc port ((SMap.get [] s.qde.atc port).filter (fun e => !hits e)),
                                 invals := s.qde.invals ++ [v] } }

/-- An ATS invalidation request of a page of 2^log2 bytes (R240). -/
def execAtsInvalidation (port : Nat) (pasid : Option (BitVec 20)) (page log2 tag : Nat) (s : State) : Host.Outcome State Fault Refusal := ran (Wf.atsInvalidation port pasid page log2 tag) (atsInvalidation port pasid page log2 tag) s

/-- A request issued with a translation that an invalidation removed has not completed. -/
def inFlightUnder (s : Dev) (v : Inval) : Bool :=
  s.qde.reqs.any (fun r => r.gone && decide (r.no ≤ v.upTo) && r.port == v.port && decide (r.pasid = v.pasid) && r.addr.toNat / 2 ^ v.log2 == v.page)

/-- A link of the port, or of either half, can carry requests. -/
def Dev.portUsable (s : Dev) (port : Nat) : Bool := s.linkUsable port false || ((s.port port).bifurcated && s.linkUsable port true)

/-- The invalidation completion is sent once every request issued with a removed translation has completed (R240), on a link that carries it
(R568). -/
def atsInvalidationComplete (port tag : Nat) (s : Dev) : Dev :=
  match s.qde.invals.find? (fun v => v.port == port && v.tag == tag) with
  | some v =>
    if inFlightUnder s v || !s.portUsable port then s
    else emit (.atsInvalidated port tag) { s with qde := { s.qde with invals := s.qde.invals.erase v } }
  | none => s

/-- The command. -/
def execAtsInvalidationComplete (port tag : Nat) (s : State) : Host.Outcome State Fault Refusal := ran (Wf.atsInvalidationComplete port tag) (atsInvalidationComplete port tag) s

/-- A translation has come, or none: what waited for it goes on. The read goes out where its link carries it and the page may be read; a write where
the page may be written (R233, R239, R568, R573). -/
def afterTranslation (r : QdeReq) (page : Option AtsPage) (s : Dev) : Dev :=
  let q := r.qp
  let x := s.qp q
  let readable := page.any AtsPage.read
  match r.what with
  | .fetch =>
    if (x.fetching.any (fun f => f.first == r.index)) = false then s
    else if !qpUsable s q then fetchError q r.index 1 s
    else if readable then qdeRead q r.index .fetch r.addr r.len s
    else fetchError q r.index 4 s
  | .ring =>
    match recordReady x with
    | some (i, _) => if i.index = r.index ∧ page.any AtsPage.write = false then fetchError q i.index 5 (s.setQp q { x with recordRefused := true }) else s
    | none => s
  | .fence =>
    if ((findItem x r.index).bind WorkItem.fencing).isNone then s
    else if !qpUsable s q then fenceFailed q r.index 7 s
    else if readable then qdeRead q r.index .fence r.addr r.len s
    else translationFault q r.index s
  | _ =>
    match findItem x r.index with
    | none => s
    | some i =>
      match i.req with
      | some z =>
        if !qpUsable s q then readError q r.index 7 s
        else if readable then qdeRead q r.index (ReadReq.what z) r.addr r.len s
        else translationFault q r.index s
      | none => if i.writes.isEmpty then s else if page.isSome then flushWrites q r.index s else translationFault q r.index s

/-- TRANSLATION_COMPLETE for a request of a queue pair that waits for its translation (R239). -/
def translationComplete (q index : Nat) (what : ReadWhat) (page : Option AtsPage) (s : Dev) : Dev :=
  match s.reqOf q index what (fun r => !r.gone) with
  | none => s
  | some r =>
    let s1 := endReq r s
    afterTranslation r page (match page with
      | some g => atcAdd r.port { pasid := r.pasid, log2 := g.log2, page := r.addr.toNat / 2 ^ g.log2, read := g.read, write := g.write } s1
      | none => s1)

/-- An ATS translation returns, with its page and permissions, or is refused (R239). -/
def execTranslationComplete (qp index : Nat) (what : ReadWhat) (page : Option AtsPage) (s : State) : Host.Outcome State Fault Refusal := ran (Wf.translationComplete qp index what page) (translationComplete qp index what page) s

/-! ### How host reads end (R233, R236) -/

/-- The cause of a failed read in fault 0x0401: its PCIe completion status, or 6 for poisoned data (Table 6-10). -/
def ReadResult.cause : ReadResult → Nat
  | .data _ => 0
  | .unsupported => 1
  | .completerAbort => 4
  | .poisoned => 6

/-- The cause of a failed fetch in fault 0x0301 (Table 6-10). -/
def ReadResult.fetchCause : ReadResult → Nat
  | .data _ => 0
  | .unsupported => 1
  | .completerAbort => 2
  | .poisoned => 3

/-- The FENCE read ends, and with it the descriptor (R228). -/
def fenceEnds (q index : Nat) (res : ReadResult) (s : Dev) : Dev :=
  match res, (findItem (s.qp q) index).bind WorkItem.fencing with
  | .data _, some o => recordGood q index o s
  | r, some _ => fenceFailed q index (ReadResult.cause r) s
  | _, none => s

/-- FENCE_READ_COMPLETE (R228). -/
def fenceComplete (q index : Nat) (res : ReadResult) (s : Dev) : Dev :=
  match s.reqOf q index .fence (fun r => r.gone) with
  | some r => fenceEnds q index res (endReq r s)
  | none => s

/-- The zero-length FENCE read ends (R228). -/
def execFenceReadComplete (qp index : Nat) (res : ReadResult) (s : State) : Host.Outcome State Fault Refusal := ran (Wf.fenceReadComplete qp index res) (fenceComplete qp index res) s

/-- PCIE_COMPLETION_TIMEOUT (R99, R233, R236): at the time that Device Control 2 of its port gives a request ends with no completion. A fetch read, and
the translation that a record write waits for, go out again; any other ends its descriptor BAD: DESIGN CHOICE for a translation request, log 133. -/
def completionTimeout (q index : Nat) (what : ReadWhat) (s0 : Dev) : Dev :=
  match s0.reqOf q index what (fun _ => true) with
  | none => s0
  | some r =>
    let s := endReq r (reach (Time.plus r.time (s0.completionNs r.port r.half)) s0)
    let x := s.qp q
    match what with
    | .fetch =>
      match x.fetching.find? (fun f => f.first == index) with
      | some f => fetchRead q index f.n s
      | none => s
    | .ring => if (recordReady x).any (fun e => e.1.index == index) && qpUsable s q then askPage q index .ring r.addr r.len s else s
    | .fence => fenceFailed q index 7 s
    | _ =>
      match findItem x index with
      | some i => if i.req.isSome || !i.writes.isEmpty then readError q index 7 s else s
      | none => s

/-- No completion came in time (R99). -/
def execPcieCompletionTimeout (qp index : Nat) (what : ReadWhat) (s : State) : Host.Outcome State Fault Refusal := ran (Wf.pcieCompletionTimeout qp index what) (completionTimeout qp index what) s

end Sys2Proof.Machine
end

