-- ==== Sys2Proof/Machine/Storage.lean ====
section
/-! DEFINITION. The storage engine: descriptors, connections, outcomes (R468 to R477); starting descriptors and host reads of
every type (R217, R236). -/
namespace Sys2Proof.Machine

/-! ### Connections -/

/-- STE sends a segment of a connection: a frame tagged for the connection's slice from port 77 (R39, R471). Kinds: 0 handshake,
1 command capsule, 2 H2CData, 3 Keep Alive, 4 FIN, 5 retransmission, 6 acknowledgement. -/
def sendSegment (c kind : Nat) (payload : List Byte) (s : Dev) : Dev :=
  let x := s.conn c
  let s1 := s.setConn c { x with unacked := x.unacked || kind != 6, sentAt := s.now }
  tagAndQueue 5 (BitVec.ofNat 12 x.slice) 77 s.now (Config.tcpFrame c kind payload) id s1

/-- The command's descriptor is still unfinished. -/
def cmdLive (s : Dev) (c : Nat) (m : NvmeCmd) : Bool :=
  match findItem (s.qp m.qp) m.index with
  | some i => decide (i.sent = some (c, m.cid)) && i.outcome.isNone
  | none => false

/-- OUTSTANDING of a connection (Table 13-10). -/
def Dev.connOutstanding (s : Dev) (c : Nat) : Nat := ((s.conn c).cmds.filter (cmdLive s c)).length

/-- A storage descriptor ends STORAGE_ERROR with a DETAIL, its progress as Table 13-7 gives. -/
def storageError (q index detail : Nat) (s : Dev) : Dev :=
  let x := s.qp q
  s.setQp q (onItem x index (fun i => setOutcome { faultOutcome s x i 8 with detail := detail } i))

/-- The descriptors that name a connection and are started and not finished: queue pair and index. -/
def Dev.onConn (s : Dev) (c : Nat) : List (Nat × Nat) :=
  s.qde.pairs.flatMap (fun (q, x) =>
    if x.valid && x.typ == 2 then
      (x.items.filter (fun i => i.started && i.outcome.isNone && !i.answered && stConn i.words == c && dOpcode i.words != 0)).map (fun i => (q, i.index))
    else [])

/-- Every command of a connection ends with a transport cause (R473, Table 13-7). -/
def endConn (c cause : Nat) (s : Dev) : Dev := (s.onConn c).foldl (fun s (q, i) => storageError q i cause s) s

/-- A connection enters FAILED (R473). -/
def failOne (c cause : Nat) (s : Dev) : Dev :=
  let x := s.conn c
  let s1 := endConn c cause (s.setConn c { x with state := .failed, lastCause := cause })
  let s2 := s1.setConn c { s1.conn c with cmds := [], unacked := false, retries := 0 }
  logFault isl.STE 0xFF 0x0E02 0 (mk64 [c, at' x.slice 16, at' cause 32]) 0 (count .steConnFail 0 s2)

/-- The I/O connections of an admin connection's session. -/
def Dev.ioConns (s : Dev) (admin : Nat) : List Nat :=
  (s.cry.conns.filter (fun (_, x) => decide (x.state ≠ .closed) && !x.admin && x.session == admin)).map (fun e => e.1)

/-- A connection fails; with the admin connection every I/O connection of its session fails with cause 0x8004 (R473). -/
def failConn (c cause : Nat) (s : Dev) : Dev :=
  let x := s.conn c
  if x.state = .connecting ∨ x.state = .ready then
    let s1 := failOne c cause s
    if x.admin then
      ((s.ioConns c).filter (fun k => decide ((s.conn k).state = .connecting) || decide ((s.conn k).state = .ready))).foldl
        (fun s k => failOne k 0x8004 s) s1
    else s1
  else s

/-- A CLOSING connection with no outstanding command whose FIN has been exchanged becomes CLOSED (Table 13-4). -/
def tryClose (c : Nat) (s : Dev) : Dev :=
  let x := s.conn c
  if x.state = .closing ∧ x.finDone ∧ s.connOutstanding c = 0 then
    s.setConn c { Conn.closed with lastCause := x.lastCause }
  else s

/-! ### Command issue -/

/-- The lowest command identifier that no command of the connection holds (R477). -/
def freeCid (x : Conn) : Nat := ((List.range (x.cmds.length + 1)).find? (fun k => !(x.cmds.any (fun m => m.cid == k)))).getD 0

/-- Depth of a connection's queue: DEPTH_M1 + 1 of its session (Table 13-11). -/
def Dev.connDepth (s : Dev) (c : Nat) : Nat :=
  match SMap.get none s.cry.sessions (s.conn c).session with
  | some z => fld (z.words.getD 0 0) 48 39 + 1
  | none => 1

/-- Storage data in data units of the key slot, transformed by XTS with the tweaks of R470; without ENCRYPT unchanged. `u` is the
first unit. -/
def xtsUnits (enc : Bool) (k : StKey) (slba lba : Nat) : Nat → Nat → List Byte → List Byte
  | 0, _, _ => []
  | n + 1, u, bs =>
    if bs = [] then []
    else
      Config.xts enc k.key1 k.key2 (BitVec.ofNat 128 (k.tweakBase.toNat + slba * (lba / k.duBytes) + u)) (bs.take k.duBytes) ++
        xtsUnits enc k slba lba n (u + 1) (bs.drop k.duBytes)

/-- The data unit in which a READ is written: DU_BYTES with ENCRYPT, else one logical block (R476). -/
def unitBytes (s : Dev) (sl : Nat) (ws : List W64) : Nat :=
  if stEncrypt ws then
    match s.stKey sl (stSlot ws) with
    | some k => k.duBytes
    | none => stLba ws
  else stLba ws

/-- Transforms whole data units of a descriptor, the first of them unit `u`. -/
def cryptUnits (s : Dev) (sl : Nat) (ws : List W64) (enc : Bool) (u : Nat) (bs : List Byte) : List Byte :=
  if stEncrypt ws then
    match s.stKey sl (stSlot ws) with
    | some k => xtsUnits enc k (stSlba ws) (stLba ws) (bs.length / 16 + 1) u bs
    | none => bs
  else bs

/-- The meter of a storage command: reads, writes, others (Table 15-3). -/
def ioMeter (op : Nat) : Nat := if op = 0x10 then 18 else if op = 0x11 then 19 else 20

/-- A new WEIGHT of a slice applies at the next storage command of a connection (R176, R177). -/
def resizeAtIssue (sl c : Nat) (s : Dev) : Dev :=
  let z := s.slice sl
  s.setSlice sl { z with pendSte := z.pendSte.filter (fun n => n != c) }

/-- The command capsule of a started descriptor is sent on its connection (R471, R476). No new command goes out for a slice that quiesces: the descriptor
ends QUIESCED, NOT_STARTED (R186, Table 5-3, step 1; DEDUCED, log 129). A new WEIGHT applies here; commands of different queue pairs never wait for one
another (R176, log 134). -/
def sendCapsule (q : Nat) (i : WorkItem) (s : Dev) : Dev :=
  let x := s.qp q
  let c := stConn i.words
  let k := s.conn c
  if (s.slice x.slice).state ≠ .active then endItem q i.index 4 s
  else if k.state ≠ .ready then storageError q i.index 0x8006 s
  else
    let cid := freeCid k
    let op := stOp i.words
    let s1 := s.setConn c { k with cmds := k.cmds ++ [{ cid := cid, qp := q, index := i.index, opcode := op }] }
    let s2 := s1.setQp q (onItem x i.index (fun i => { i with sent := some (c, cid), isWrite := op != 0x10 }))
    let s3 := resizeAtIssue x.slice c (count .steCmds (qpPort s q).1 (meterAdd x.slice (ioMeter op) 1 s.now s2))
    sendSegment c 1 [] (emit (.nvmeCommand c cid op (stSlba i.words) (stBlocks i.words)) s3)

/-- The next command of a queue pair in ring order, when it is ready to go out: that of the first started, unfinished descriptor whose command has not
gone (R477). -/
def nextCapsule (x : QueuePair) : Option WorkItem :=
  (x.items.find? (fun i => i.started && i.outcome.isNone && i.fencing.isNone && i.sent.isNone)).filter WorkItem.ready

/-- The commands of a queue pair that are ready go out, in ring order (R477). -/
def sendReady (q : Nat) : Nat → Dev → Dev
  | 0, s => s
  | n + 1, s =>
    match nextCapsule (s.qp q) with
    | some i => sendReady q n (sendCapsule q i s)
    | none => s

/-- What of a queue pair's commands may go out, goes out. -/
def issueReady (s : Dev) (q : Nat) : Dev := if (s.qp q).typ = 2 then sendReady q (s.qp q).items.length s else s

/-- A descriptor's command is ready: it goes out behind those of the descriptors before it. -/
def issueCapsule (q index : Nat) (s : Dev) : Dev :=
  issueReady (s.setQp q (onItem (s.qp q) index (fun i => { i with ready := i.sent.isNone }))) q

/-- A storage descriptor whose buffer is known: a WRITE or DEALLOCATE reads its next data, anything else sends its command. -/
def storageGo (q index : Nat) (s : Dev) : Dev :=
  match findItem (s.qp q) index with
  | none => s
  | some i =>
    let total := (i.parts.map (fun e => e.2)).sum
    if stOp i.words = 0x10 ∨ stOp i.words = 0x12 then issueCapsule q index s
    else if i.cur.length < total then
      match partAt i.parts i.cur.length with
      | some (a, n) => itemRead q index (dataRead a n false) s
      | none => s
    else
      let cipher := if stOp i.words = 0x11 then cryptUnits s (s.qp q).slice i.words true 0 i.cur else i.cur
      issueCapsule q index (s.setQp q (onItem (s.qp q) index (fun i => { i with cur := cipher })))

/-- A storage descriptor starts (R467, R469, R475, Table 13-7). -/
def storageStart (q index : Nat) (s : Dev) : Dev :=
  let x := s.qp q
  match findItem x index with
  | none => s
  | some i =>
    if s.cry.ste = .failed then storageError q index 0x8007 s
    else if stEncrypt i.words && (s.slice x.slice).keyLost then endItem q index 7 s
    else if stEncrypt i.words && (s.stKey x.slice (stSlot i.words)).isNone then storageError q index 0 s
    else if (s.conn (stConn i.words)).state ≠ .ready then storageError q index 0x8006 s
    else if dIndirect i.words then readEntry q index s
    else storageGo q index (s.setQp q (onItem x index (fun i => { i with parts := [(dWord i 1, dLength i.words)] })))

/-! ### Starting descriptors (R217, R236) -/

/-- The next descriptor of a queue pair that may start: cached, every earlier one started or ended; for a SEND queue no other in
progress; for RECEIVE a frame that waits for it; for STORAGE an engine that takes it and room on its connection. -/
def startable (s : Dev) (q : Nat) : Option WorkItem :=
  let x := s.qp q
  match nextUnused x with
  | none => none
  | some i =>
    if !i.cached || !decide ((s.slice x.slice).state = .active) || decide (8 ≤ s.dmaBusy x.channel) then none
    else if x.typ = 1 ∧ x.staging = [] then none
    else if x.typ = 0 ∧ x.items.any (fun j => j.started && j.outcome.isNone) then none
    else if x.typ = 2 ∧ dOpcode i.words ≠ 0 ∧ s.cry.ste ≠ .failed ∧
        (s.cry.ste ≠ .service ∨ s.connDepth (stConn i.words) ≤ (s.onConn (stConn i.words)).length) then none
    else some i

/-- The first read of a SEND (R217). -/
def sendStart (q index : Nat) (s : Dev) : Dev :=
  match findItem (s.qp q) index with
  | none => s
  | some i => if dIndirect i.words then readEntry q index s else itemRead q index (dataRead (dWord i 1) (dLength i.words) true) s

/-- What a slice has been served by its port's arbiter, counted from no earlier than where the port's service stands: a slice that had no work
waiting has left its share to the others (R176). -/
def Dev.servedTo (s : Dev) (sl : Nat) : Nat := Nat.max (SMap.get 0 s.qde.turn (s.slicePort sl)) (SMap.get 0 s.qde.served (arbKey s sl))

/-- The slice whose turn it is on a port: of those with a descriptor that may start on one of its channels, the one served least for its WEIGHT, the
lowest on a tie (R176, R238; DESIGN CHOICE, log 135). -/
def dmaTurn (s : Dev) (port : Nat) : Option Nat :=
  let waiting := s.qde.pairs.filter (fun e => e.2.valid && e.2.channel / 32 == port && (startable s e.1).isSome)
  (waiting.map (fun e => e.2.slice)).foldl (fun best sl => match best with
    | none => some sl
    | some b => if s.servedTo sl < s.servedTo b ∨ (s.servedTo sl = s.servedTo b ∧ sl < b) then some sl else best) none

/-- It is the turn of a slice: the port's service stands where it has been served to. -/
def takeTurn (sl : Nat) (s : Dev) : Dev :=
  let n := s.servedTo sl
  { s with qde := { s.qde with turn := SMap.put 0 s.qde.turn (s.slicePort sl) n, served := SMap.put 0 s.qde.served (arbKey s sl) n } }

/-- The descriptor that a channel starts next: of the slice whose turn it is on the port, round-robin over the channel's queue pairs (R236, R238). -/
def startChoice (s : Dev) (c : Nat) : Option (Nat × WorkItem) :=
  match dmaTurn s (c / 32) with
  | some sl =>
    (roundRobin (s.dma c).lastStart ((s.qpsOn c).filter (fun q => (s.qp q).slice == sl))).findSome? (fun q => (startable s q).map (fun i => (q, i)))
  | none => none

/-- A descriptor of a SEND or STORAGE queue pair starts; a NOP ends at once (R217). -/
def startItem (q : Nat) (i : WorkItem) (s : Dev) : Dev :=
  let x := s.qp q
  if x.typ = 1 then rxDrain q 1 s
  else
    let s1 := channelStarts q (s.setQp q (onItem x i.index (fun i => { i with started := true })))
    if dOpcode i.words = 0 then goodItem q i.index 0 0 0 s1
    else if x.typ = 0 then sendStart q i.index s1
    else storageStart q i.index s1

/-- A channel starts one descriptor, when it is its turn, at most 8 being in progress (R236, R238); frames that waited for a distributor, and storage
commands that waited for those before them, go first (R51, R477). -/
def descriptorStart (c : Nat) (s0 : Dev) : Dev :=
  let s := (s0.qpsOn c).foldl issueReady (resumeSends c s0)
  match startChoice s c with
  | some (q, i) => startItem q i (takeTurn (s.qp q).slice s)
  | none => s

/-- A channel starts a descriptor (R217). -/
def execDescriptorStart (chan : Nat) (s : State) : Host.Outcome State Fault Refusal := ran (Wf.descriptorStart chan) (descriptorStart chan) s

/-! ### Host reads (R236) -/

/-- A fragment entry has been read (R220, R223). -/
def entryRead (q index : Nat) (bs : List Byte) (s : Dev) : Dev :=
  let x := s.qp q
  match findItem x index with
  | none => s
  | some i =>
    let a : W64 := BitVec.ofNat 64 (leNat (bs.take 8))
    let w1 : W64 := BitVec.ofNat 64 (leNat (bs.drop 8))
    match entryReason x i w1 with
    | some reason => malformed q index reason i.curFrag s
    | none =>
      let n := fld w1 24 0
      let s1 := s.setQp q (onItem x index (fun i => { i with curFrag := i.curFrag + 1, req := none, parts := i.parts ++ [(a, n)] }))
      if x.typ = 0 then itemRead q index (dataRead a n (bit w1 25)) s1
      else if x.typ = 1 then rxEntry q index s1
      else if i.curFrag + 1 < dFrags i.words then readEntry q index s1
      else if stLenOk i.words ((i.parts.map (fun e => e.2)).sum + n) then storageGo q index s1
      else malformed q index 9 i.curFrag s1

/-- Data of a read arrives for a work item. -/
def dataArrived (q index : Nat) (r : ReadReq) (bs : List Byte) (s : Dev) : Dev :=
  if (s.qp q).typ = 0 then sendData q index r bs s
  else storageGo q index (s.setQp q (onItem (s.qp q) index (fun i => { i with cur := i.cur ++ bs, req := none })))

/-- What a completed read of a work item brings (R236); one of a descriptor that has ended is discarded (R187). -/
def itemReadEnds (q index : Nat) (table : Bool) (res : ReadResult) (s : Dev) : Dev :=
  match (findItem (s.qp q) index).bind WorkItem.req with
  | none => s
  | some r =>
    if r.table ≠ table then s
    else
      match res with
      | .data bs => if r.table then entryRead q index bs s else dataArrived q index r bs s
      | res => readError q index (ReadResult.cause res) s

/-- A completion with data has the size that the request asked for; any other is none of its own. -/
def sizeFits (r : QdeReq) (res : ReadResult) : Bool :=
  match res with
  | .data bs => bs.length == r.len
  | _ => true

/-- DMA_READ_COMPLETE (R236). -/
def dmaReadComplete (q index : Nat) (what : ReadWhat) (res : ReadResult) (s : Dev) : Dev :=
  match s.reqOf q index what (fun r => r.gone && sizeFits r res) with
  | none => s
  | some r =>
    let s1 := endReq r s
    match what with
    | .fetch =>
      match res, (s.qp q).fetching.find? (fun f => f.first == index && 64 * f.n == r.len) with
      | .data bs, some f => fetchDone q f ((List.range f.n).map (fun k => bytesWords (bs.drop (64 * k)) 8)) s1
      | res, some _ => fetchError q index (ReadResult.fetchCause res) s1
      | _, none => s1
    | .fence => fenceEnds q index res s1
    | .ring => s1
    | .table => issueReady (itemReadEnds q index true res s1) q
    | .data => issueReady (itemReadEnds q index false res s1) q

/-- A host read completes (R236). -/
def execDmaReadComplete (qp index : Nat) (what : ReadWhat) (res : ReadResult) (s : State) : Host.Outcome State Fault Refusal := ran (Wf.dmaReadComplete qp index what res) (dmaReadComplete qp index what res) s

/-! ### What comes back from the target -/

/-- Data of a READ has arrived: whole data units go to the buffer in plain text (R476). -/
def readData (c cid : Nat) (bs : List Byte) (s : Dev) : Dev :=
  match (s.conn c).cmds.find? (fun m => m.cid == cid) with
  | none => failConn c 0x8003 s
  | some m =>
    if !cmdLive s c m then s
    else
      match findItem (s.qp m.qp) m.index with
      | none => s
      | some i =>
        let sl := (s.qp m.qp).slice
        let all := i.cur ++ bs
        let u := unitBytes s sl i.words
        let n := all.length / u * u
        let plain := cryptUnits s sl i.words false (i.passed / u) (all.take n)
        let s1 := s.setQp m.qp (onItem (s.qp m.qp) m.index (fun i => { i with cur := all.drop n, passed := i.passed + n }))
        let s2 := countBy .steReadBytes (qpPort s m.qp).1 n (meterAdd sl 21 n s.now s1)
        writeBuffer m.qp m.index i.passed plain s2

/-- The target asks for data of a WRITE with an R2T: the next `n` bytes are handed to TCP (R471, R476). -/
def sendWriteData (c cid n : Nat) (s : Dev) : Dev :=
  match (s.conn c).cmds.find? (fun m => m.cid == cid) with
  | none => failConn c 0x8003 s
  | some m =>
    if !cmdLive s c m then s
    else
      match findItem (s.qp m.qp) m.index with
      | none => s
      | some i =>
        let bs := (i.cur.drop i.passed).take n
        let s1 := s.setQp m.qp (onItem (s.qp m.qp) m.index (fun i => { i with passed := i.passed + bs.length }))
        let s2 := countBy .steWriteBytes (qpPort s m.qp).1 bs.length (meterAdd (s.qp m.qp).slice 22 bs.length s.now s1)
        sendSegment c 2 bs s2

/-- An NVMe completion: its status field of 15 bits and the completion queue entry, which a FLUSH's buffer receives (R474, R476, R477, Table 13-7). -/
def nvmeCompletion (c cid status : Nat) (cqe : List Byte) (s : Dev) : Dev :=
  let x := s.conn c
  match x.cmds.find? (fun m => m.cid == cid) with
  | none => if x.state = .ready ∨ x.state = .closing then failConn c 0x8003 s else s
  | some m =>
    let late := !cmdLive s c m
    let s0 := if late then s else s.setQp m.qp (onItem (s.qp m.qp) m.index (fun i => { i with answered := true }))
    let s1 := s0.setConn c { x with cmds := x.cmds.filter (fun m => m.cid != cid) }
    if late then tryClose c (count .steLateCqe 0 s1)
    else
      let s2 := if m.opcode = 0x12 then
          writeBuffer m.qp m.index 0 (cqe.take 16) (s1.setQp m.qp (onItem (s1.qp m.qp) m.index (fun i => { i with passed := 16 })))
        else s1
      if status % 2 ^ 15 = 0 then tryClose c (goodItem m.qp m.index ((findItem (s2.qp m.qp) m.index).elim 0 WorkItem.passed) 0 0 s2)
      else if m.opcode = 0x12 then
        tryClose c (endsWith m.qp m.index { status := 8, progress := 0, bytes := 16, frag := 0, detail := status % 2 ^ 15, time := s.now, rxFlags := 0 } s2)
      else
        let prog := if m.opcode = 0x10 then 2 else 3
        tryClose c (s1.setQp m.qp (onItem (s1.qp m.qp) m.index (fun i =>
          setOutcome { status := 8, progress := prog, bytes := bytesDone i, frag := if prog = 2 then fragDone i else 0, detail := status % 2 ^ 15, time := s.now, rxFlags := 0 } i)))

end Sys2Proof.Machine
end

