-- ==== Sys2Proof/Machine/Tmg.lean ====
section
/-! DEFINITION. The traffic manager: resolution, policing, admission, scheduling, periods, samples (R378 to R401). -/
namespace Sys2Proof.Machine

/-! ### Settings -/

def tport (c : TmgCfg) (p : Nat) : TPort := SMap.get (TPort.reset p) c.ports p
def tgroup (c : TmgCfg) (p g : Nat) : Option TGroup := SMap.get (TGroup.atReset g) c.groups (16 * p + g)
def tnode (c : TmgCfg) (p n : Nat) : Option TNode := SMap.get (TNode.atReset p n) c.nodes (4096 * p + n)
def tqueue (c : TmgCfg) (q : Nat) : Option TQueue := SMap.get (TQueue.atReset q) c.queues q
def tqmap (c : TmgCfg) (k : Nat) : Option Nat := SMap.get (qmapAtReset k) c.qmap k
def tmeter (c : TmgCfg) (m : Nat) : Option TMeter := SMap.get none c.meters m

/-- Keys of a map as a rising list that holds `base` too. -/
def keysWith {α : Type} (base : List Nat) (m : SMap α) : List Nat :=
  sortBy (fun a b => decide (a ≤ b)) (base ++ (m.map Prod.fst).filter (fun k => !base.contains k))

/-- The slice nodes of a port. -/
def nodesOn (c : TmgCfg) (p : Nat) : List Nat :=
  ((keysWith [4096 * p] (c.nodes.filter (fun e => e.1 / 4096 == p))).map (fun k => k % 4096)).filter (fun n => (tnode c p n).isSome)

/-- The class queues of a slice's node on a port. -/
def queuesOf (c : TmgCfg) (p n : Nat) : List Nat :=
  (keysWith (if n = 0 then (List.range 8).map (fun k => 8 * p + k) else [])
    (c.queues.filter (fun e => match e.2 with
      | some x => x.port == p && x.slice == n
      | none => false))).filter (fun q => match tqueue c q with
    | some x => x.port == p && x.slice == n
    | none => false)

/-- The slice groups of a port. -/
def groupsOf (c : TmgCfg) (p : Nat) : List Nat := (List.range 16).filter (fun g => (tgroup c p g).isSome)

/-- All configured queues of a slice. -/
def queuesOfSlice (c : TmgCfg) (n : Nat) : List Nat :=
  (keysWith (if n = 0 then List.range 608 else []) c.queues).filter (fun q => match tqueue c q with
    | some x => x.slice == n
    | none => false)

/-! ### Running state -/

def Dev.tq (s : Dev) (q : Nat) : QueueRun := SMap.get QueueRun.empty s.tmg.queues q
def Dev.setTq (s : Dev) (q : Nat) (x : QueueRun) : Dev := { s with tmg := { s.tmg with queues := SMap.put QueueRun.empty s.tmg.queues q x } }
def Dev.tg (s : Dev) (k : Nat) : NodeRun := SMap.get NodeRun.empty s.tmg.groups k
def Dev.setTg (s : Dev) (k : Nat) (x : NodeRun) : Dev := { s with tmg := { s.tmg with groups := SMap.put NodeRun.empty s.tmg.groups k x } }
def Dev.tn (s : Dev) (k : Nat) : NodeRun := SMap.get NodeRun.empty s.tmg.nodes k
def Dev.setTn (s : Dev) (k : Nat) (x : NodeRun) : Dev := { s with tmg := { s.tmg with nodes := SMap.put NodeRun.empty s.tmg.nodes k x } }
def Dev.tp (s : Dev) (p : Nat) : PortRun := SMap.get PortRun.empty s.tmg.ports p
def Dev.setTp (s : Dev) (p : Nat) (x : PortRun) : Dev := { s with tmg := { s.tmg with ports := SMap.put PortRun.empty s.tmg.ports p x } }

/-- Cells charged to a queue. -/
def qCells (x : QueueRun) : Nat := (x.items.map (fun i => cellsOf i.pkt)).sum

/-- Cells of a queue's copies that lie above its MIN_CELLS, counted from the head: the stored packet and its cells. -/
def aboveMin (min : Nat) : Nat → List TItem → List (Nat × Nat)
  | _, [] => []
  | c, i :: t => (i.store, (c + cellsOf i.pkt - min) - (c - min)) :: aboveMin min (c + cellsOf i.pkt) t

/-- The largest share of each stored packet, summed. -/
def onceEach (l : List (Nat × Nat)) : Nat :=
  ((l.foldl (fun (m : SMap Nat) e => SMap.put 0 m e.1 (Nat.max (SMap.get 0 m e.1) e.2)) []).map Prod.snd).sum

/-- The shared pool: everything but the queues' MIN_CELLS and the control queues' 64 cells (R388). -/
def sharedPool (c : TmgCfg) : Nat := 786432 - 76 * 64 - (c.queues.map (fun e => (e.2.map TQueue.minCells).getD 0)).sum

/-- SHARED_FREE (R388); a stored packet draws once (R381). -/
def sharedFree (s : Dev) : Nat :=
  sharedPool s.tmg.live -
    onceEach (s.tmg.queues.flatMap (fun e => aboveMin (((tqueue s.tmg.live e.1).map TQueue.minCells).getD 0) 0 e.2.items))

/-- Cells that hold packets (TMG_BUF.USED). -/
def bufUsed (s : Dev) : Nat :=
  onceEach (s.tmg.queues.flatMap (fun e => e.2.items.map (fun i => (i.store, cellsOf i.pkt)))) +
    (s.tmg.ports.map (fun e => (e.2.control.map cellsOf).sum)).sum

/-- Cells that a slice's queues hold. -/
def sliceCells (s : Dev) (n : Nat) : Nat :=
  (s.tmg.queues.map (fun e => match tqueue s.tmg.live e.1 with
    | some x => if x.slice = n then qCells e.2 else 0
    | none => 0)).sum

/-! ### Policing (R384 to R387) -/

/-- Tokens of `ns` at `rate` kb/s, in 1/1,024 byte. -/
def refill (rate ns : Nat) : Nat := rate * ns * 2 / 15625

/-- A meter as it begins, or begins again: full buckets (R387). -/
def meterFull (m : TMeter) (now : Time) : MeterRun := { tc := 1024 * m.cbs, tp := 1024 * m.pbs, last := now, green := 0, yellow := 0, red := 0 }

def Dev.meterRun (s : Dev) (n : Nat) (m : TMeter) : MeterRun := (SMap.get none s.tmg.meters n).getD (meterFull m s.now)

def Dev.setMeterRun (s : Dev) (n : Nat) (x : Option MeterRun) : Dev := { s with tmg := { s.tmg with meters := SMap.put none s.tmg.meters n x } }

/-- The pseudocode of R385: the meter's result (0 green, 1 yellow, 2 red) and its state. -/
def colour (m : TMeter) (x : MeterRun) (len : Nat) (c0 : Nat) (now : Time) : Nat × MeterRun :=
  let b := 1024 * ((len : Int) + m.overhead).toNat
  let dt := Time.since now x.last
  let y := { x with tc := Nat.min (1024 * m.cbs) (x.tc + refill m.cir dt), tp := Nat.min (1024 * m.pbs) (x.tp + refill m.pir dt), last := now }
  let c := if m.aware ∧ c0 ≠ 3 then c0 else 0
  let (r, z) : Nat × MeterRun :=
    if !m.mode then
      if c = 2 ∨ y.tp < b then (2, y)
      else if c = 1 ∨ y.tc < b then (1, { y with tp := y.tp - b })
      else (0, { y with tp := y.tp - b, tc := y.tc - b })
    else if c = 0 ∧ b ≤ y.tc then (0, { y with tc := y.tc - b })
    else if c ≠ 2 ∧ b ≤ y.tp then (1, { y with tp := y.tp - b })
    else (2, y)
  (r, match r with
    | 0 => { z with green := z.green + 1 }
    | 1 => { z with yellow := z.yellow + 1 }
    | _ => { z with red := z.red + 1 })

/-- The meter that a packet names: port 75 has its own (R384). -/
def policerOf (p : Pkt) (port : Nat) : Nat := if port = 75 then 131071 else p.policer

/-- A copy is policed: what becomes of it, none for a drop under RED_ACTION 0 (R384 to R386). -/
def police (p : Pkt) (port : Nat) (s : Dev) : Option Pkt × Dev :=
  let n := policerOf p port
  match tmeter s.tmg.live n with
  | none => (some p, s)
  | some m =>
    if n = 131071 ∧ port ≠ 75 then (some p, s)
    else if m.owner ≠ 0 ∧ m.owner ≠ p.tag.slice.toNat then (some p, count .tmgPolicerForeign 0 s)
    else
      let (r, y) := colour m (s.meterRun n m) p.tag.length.toNat p.tag.colour.toNat s.now
      let s1 := s.setMeterRun n (some y)
      let old := if p.tag.colour = 3 then 0 else p.tag.colour.toNat
      let p1 := { p with tag := { p.tag with colour := BitVec.ofNat 2 (Nat.max r old) } }
      let p2 := if r = 2 then { p1 with tag := p1.tag.setFlag 10 } else p1
      if r = 2 ∧ !m.mark then
        let s2 := count .tmgPoliceDrop port s1
        (none, whenB (metered p.tag) (fun s => meterAdd p.tag.slice.toNat 27 p.tag.length.toNat p.tag.entryTime
          (meterAdd p.tag.slice.toNat 26 1 p.tag.entryTime s)) s2)
      else (some p2, s1)

/-! ### Admission (R388, R389) -/

/-- The share of L for a colour. -/
def colourPct (x : TQueue) (c : Nat) : Nat := if c = 0 then 100 else if c = 1 then x.yellow else x.red

/-- A copy of `n` cells and a colour is admitted to queue `q`. -/
def admits (s : Dev) (q n c : Nat) (x : TQueue) : Bool :=
  let used := qCells (s.tq q)
  let limit := SMap.get 0 s.tmg.live.limits x.slice
  let l := Nat.min x.maxCells (sharedFree s * 2 ^ x.alpha / 64)
  let above := (used + n - x.minCells) - (used - x.minCells)
  (decide (used + n ≤ x.minCells) || (decide (used + n ≤ l * colourPct x c / 100) && decide (above ≤ sharedFree s))) &&
    (limit == 0 || decide (sliceCells s x.slice + n ≤ limit))

/-- The drop counter of a colour. -/
def dropCounter (c : Nat) : Ctr := if c = 0 then .tmgDropGreen else if c = 1 then .tmgDropYellow else .tmgDropRed

/-- A copy joins its queue, or is refused (R388, R386). -/
def admitCopy (p : Pkt) (port q store asColour : Nat) (s : Dev) : Dev :=
  match tqueue s.tmg.live q with
  | none => count .tmgNoQueue 0 s
  | some x =>
    if admits s q (cellsOf p) asColour x then
      let p1 := if p.tag.colour = 3 then { p with tag := { p.tag with colour := 0 } } else p
      let y := s.tq q
      traceStep isl.TMG 6 port p1 (count .tmgEnq port (s.setTq q { y with items := y.items ++ [⟨store, p1⟩] }))
    else traceStep isl.TMG 9 port p (count (dropCounter asColour) port s)

/-! ### Resolution (R379 to R383) -/

/-- A copy with its egress port, its queue or the counter of its drop, and whether it is a mirror copy. -/
structure Copy where
  pkt : Pkt
  port : Nat
  queue : Ctr ⊕ Nat
  mirror : Bool
  deriving DecidableEq, Repr

/-- The queue of the map (R380). -/
def mapQueue (c : TmgCfg) (port slice cls : Nat) : Option Nat :=
  let own := if (tnode c port slice).isSome then tqmap c (qmapKey port slice cls) else none
  own.orElse (fun _ => if (tnode c port 0).isSome then tqmap c (qmapKey port 0 cls) else none)

/-- The queue of a packet for an egress port (R380); `named` is 0 for the map. -/
def chooseQueue (s : Dev) (port slice cls named : Nat) : Ctr ⊕ Nat :=
  if port ≤ 71 ∧ named % 65536 ≠ 0 then
    match tqueue s.tmg.live (named % 65536) with
    | some x => if x.port = port ∧ (x.slice = slice ∨ x.slice = 0) then .inr (named % 65536) else .inl .tmgBadQueue
    | none => .inl .tmgBadQueue
  else match mapQueue s.tmg.live port slice cls with
    | some q => .inr q
    | none => .inl .tmgNoQueue

/-- A copy for a port; one directed to an unused or reserved port is dropped (R37). -/
def copyTo (s : Dev) (p : Pkt) (port named : Nat) : Copy :=
  ⟨p, port, if s.egressOk port then chooseQueue s port p.tag.slice.toNat p.cls named else .inl .fwdBadEgress, false⟩

/-- The copy for the exception queue of slice `sl`, which QUEUE names (R235, R380). -/
def exceptionCopy (s : Dev) (p : Pkt) (sl : Nat) : List Copy :=
  if (s.exceptionQueue sl).isSome then
    let port := 72 + s.slicePort sl
    let cls := ((tnode s.tmg.live port sl).map TNode.excClass).getD 0
    [⟨{ p with dest := .port port, cls := cls }, port, chooseQueue s port sl cls 0, false⟩]
  else []

/-- The copies of a flood (R381): ports ascending, then host destinations. -/
def floodCopies (s : Dev) (p : Pkt) (list : Nat) : List Copy :=
  match SMap.get none s.tmg.live.floods list with
  | none => []
  | some f =>
    let ports := (List.range 72).filter (fun k => f.ports.getLsbD k && !(p.tag.originNode.toNat == s.str.node && k == p.tag.ingress.toNat) &&
      !(decide (64 ≤ k) && p.tag.flag 7))
    let hosts := f.hosts.filter (fun h => match p.work with
      | some w => decide (w.qp ≠ h.2)
      | none => true)
    ports.map (fun k => copyTo s { p with dest := .port k } k 0) ++
      hosts.map (fun h => copyTo s (withQueue (72 + h.1) h.2 { p with dest := .port (72 + h.1) }) (72 + h.1) 0)

/-- The copies of a packet but for its mirror copy; the counter of a packet that has none. -/
def resolveCopies (s : Dev) (p : Pkt) : Ctr ⊕ List Copy :=
  match p.dest with
  | .port e => .inr [copyTo s p e p.tag.queue.toNat]
  | .node n =>
    match s.route n with
    | some r => .inr [copyTo s p (64 + r.bundle) p.tag.queue.toNat]
    | none => .inl .fwdBadEgress
  | .flood l =>
    match floodCopies s p l with
    | [] => .inl .tmgFloodEmpty
    | cs => .inr cs
  | .exception =>
    match exceptionCopy s p p.tag.slice.toNat with
    | [] => .inl .clsActionDrop
    | cs => .inr cs
  | .exception0 =>
    match exceptionCopy s p 0 with
    | [] => .inl .clsActionDrop
    | cs => .inr cs
  | _ => .inl .fwdBadEgress

/-- The mirror copy of a packet that is the session's SAMPLE_N-th (R382). -/
def mirrorCopy (s : Dev) (p : Pkt) (m : TMirror) : Copy :=
  let bs := if m.truncate ≠ 0 ∧ m.truncate < p.bytes.length then p.bytes.take m.truncate else p.bytes
  let q := Pkt.fixLength { p with bytes := bs, dist := 8, work := none, dest := .port m.port, tag := p.tag.setFlag 11 }
  { copyTo s (withQueue m.port m.queue q) m.port m.queue with mirror := true }

/-- Counts a packet in its mirror session, and makes the copy when it is due. -/
def mirrorOf (p : Pkt) (s : Dev) : Option Copy × Dev :=
  if p.mirror = 0 then (none, s)
  else match SMap.get none s.tmg.live.mirrors p.mirror with
    | none => (none, s)
    | some m =>
      let n := SMap.get 0 s.tmg.mirrored p.mirror + 1
      if n < m.sampleN then (none, { s with tmg := { s.tmg with mirrored := SMap.put 0 s.tmg.mirrored p.mirror n } })
      else (some (mirrorCopy s p m),
        count .tmgMirrorCopies 0 { s with tmg := { s.tmg with mirrored := SMap.put 0 s.tmg.mirrored p.mirror 0 } })

/-- The instance of a counter that drops a packet or a copy: the pipeline of one that pipelines keep. -/
def dropInst (c : Ctr) (p : Pkt) : Nat :=
  match c with
  | .fwdBadEgress => p.pipe
  | .clsActionDrop => p.pipe
  | _ => 0

/-- One copy is policed and admitted, a mirror copy as red and unpoliced (R379, R382). -/
def placeCopy (store : Nat) (c : Copy) (s : Dev) : Dev :=
  match c.queue with
  | .inl x => traceStep isl.TMG 9 c.port c.pkt (count x (dropInst x c.pkt) s)
  | .inr q =>
    if c.mirror then admitCopy c.pkt c.port q (store + 1) 2 s
    else match police c.pkt c.port s with
      | (none, s1) => traceStep isl.TMG 9 c.port c.pkt s1
      | (some p, s1) => admitCopy p c.port q store (if p.tag.colour = 3 then 0 else p.tag.colour.toNat) s1

/-- A control frame joins its port's control queue of 64 cells (R383). -/
def controlEnqueue (p : Pkt) (port : Nat) (s : Dev) : Dev :=
  let x := s.tp port
  if (x.control.map cellsOf).sum + cellsOf p ≤ 64 then s.setTp port { x with control := x.control ++ [p] }
  else count .tmgCtrlDrop port s

/-- The egress port of a control frame. -/
def controlPort (s : Dev) (p : Pkt) : Nat :=
  match p.dest with
  | .port e => e
  | .node n => 64 + ((s.route n).map RouteTo.bundle).getD 0
  | _ => 75

/-- A packet resolved, replicated, policed and admitted (R379). The meter's state is lost first where `lost` says so (R387). -/
def tmgPlace (lost : Bool) (p : Pkt) (s : Dev) : Dev :=
  let n := policerOf p (match p.dest with
    | .port e => e
    | _ => 0)
  let s0 := match tmeter s.tmg.live n with
    | some m => if lost then logFault isl.TMG 0xFF 0x0C02 0 (BitVec.ofNat 64 n) 0 (s.setMeterRun n (some (meterFull m s.now))) else s
    | none => s
  let (mc, s1) := mirrorOf p s0
  let store := s1.tmg.nextStore
  let s2 := { s1 with tmg := { s1.tmg with nextStore := store + 2 } }
  let s3 := match resolveCopies s2 p with
    | .inl c => traceStep isl.TMG 9 p.tag.ingress.toNat p (count c (dropInst c p) s2)
    | .inr cs =>
      cs.foldl (fun s c => placeCopy store c s) (match p.dest with
        | .flood _ => countBy .tmgFloodCopies 0 cs.length s2
        | _ => s2)
  let s4 := match mc with
    | some c => placeCopy store c s3
    | none => s3
  endFlight p s4

/-- TMG_ENQUEUE: the packet at the head of TMG's input. A drain marker is held (R69). -/
def tmgEnqueue (lost : Bool) (s : Dev) : Dev :=
  match s.tmg.input with
  | [] => s
  | p :: rest =>
    let s1 := { s with tmg := { s.tmg with input := rest } }
    match p.marker with
    | some m => { s1 with fabric := { s1.fabric with markers := s1.fabric.markers ++ [(8, p.pipe, m)] } }
    | none =>
      if p.tag.flag 2 then endFlight p (controlEnqueue p (controlPort s p) s1)
      else tmgPlace lost p s1

/-- TMG takes a packet (R379). -/
def execTmgEnqueue (lost : Bool) (s : State) : Host.Outcome State Fault Refusal := ran (Wf.tmgEnqueue lost) (tmgEnqueue lost) s

/-! ### Eligibility (R393 to R398) -/

/-- A shaper's bucket is above 0: less has been spent than its cap, max(BURST, one period of RATE), in 1/6,250 byte. -/
def above (rate burst spent : Nat) : Bool := decide (spent < Nat.max (6250 * burst) rate)

/-- A committed bucket is above 0; a rate of 0 gives no guarantee. A disabled shaper counts as above 0. -/
def committed (en : Bool) (rate burst spent : Nat) : Bool := rate != 0 && (!en || above rate burst spent)

/-- A peak bucket is above 0; a rate of 0 is no limit. -/
def peakOpen (en : Bool) (rate burst spent : Nat) : Bool := rate == 0 || !en || above rate burst spent

/-- QUEUE_SHAPE_EN, GROUP_SHAPE_EN, SLICE_PEAK_EN, DOWN_HOLD. -/
def schedBit (s : Dev) (i : Nat) : Bool := s.regField isl.TMG 0x040 i i == 1

/-- The pause state holds class `c` of a port back (R396). -/
def classPaused (s : Dev) (p c : Nat) : Bool :=
  decide (p < 64) && (s.eport p).pausedByPeer.getLsbD (((tport s.tmg.live p).pfcMap.toNat / 8 ^ c) % 8)

/-- A queue holds a packet and its class is not paused. -/
def queueReady (s : Dev) (q : Nat) : Bool :=
  match tqueue s.tmg.live q with
  | some x => !(s.tq q).items.isEmpty && !classPaused s x.port x.cls
  | none => false

def queueCommitted (s : Dev) (q : Nat) : Bool :=
  match tqueue s.tmg.live q with
  | some x => queueReady s q && committed (schedBit s 0) x.cir x.cbs (s.tq q).cSpent
  | none => false

def queueExcess (s : Dev) (q : Nat) : Bool :=
  match tqueue s.tmg.live q with
  | some x => queueReady s q && peakOpen (schedBit s 0) x.pir x.pbs (s.tq q).pSpent
  | none => false

/-- A slice node is in arbitration, has an eligible queue, and its peak bucket is above 0 (R394, R398). -/
def nodeEligible (s : Dev) (p n : Nat) : Bool :=
  match tnode s.tmg.live p n with
  | some x =>
    !s.tmg.out.contains n && peakOpen (schedBit s 2) x.peak x.peakBurst (s.tn (4096 * p + n)).pSpent &&
      (queuesOf s.tmg.live p n).any (fun q => queueCommitted s q || queueExcess s q)
  | none => false

/-- Eligible slice nodes of a group. -/
def groupNodes (s : Dev) (p g : Nat) : List Nat :=
  (nodesOn s.tmg.live p).filter (fun n => ((tnode s.tmg.live p n).map TNode.group) == some g && nodeEligible s p n)

def groupCommitted (s : Dev) (p g : Nat) : Bool :=
  match tgroup s.tmg.live p g with
  | some x => !(groupNodes s p g).isEmpty && committed (schedBit s 1) x.cir x.cbs (s.tg (16 * p + g)).cSpent
  | none => false

def groupExcess (s : Dev) (p g : Nat) : Bool :=
  match tgroup s.tmg.live p g with
  | some x => !(groupNodes s p g).isEmpty && peakOpen (schedBit s 1) x.pir x.pbs (s.tg (16 * p + g)).pSpent
  | none => false

/-- A port or bundle is UP; host ports and the Lamplighter always are. -/
def portUp (s : Dev) (p : Nat) : Bool :=
  if p < 64 then decide ((s.eport p).state = .up) else if p < 72 then decide ((s.bundle (p - 64)).state = .up) else true

/-- A port's rate in kb/s: 0 means line rate on an Ethernet port, no limit elsewhere (Table 11-1). A port that is not UP has no RATE while DOWN_HOLD is
0 (R397). -/
def portKbps (s : Dev) (p : Nat) : Nat :=
  let r := if portUp s p || schedBit s 3 then (tport s.tmg.live p).rate else 0
  if r ≠ 0 then r else if p < 64 then s.portRate p * 1000000 else 0

/-- The unit that a port's packets go to. -/
def egressIsland (p : Nat) : Nat :=
  if p < 32 then isl.NETW else if p < 64 then isl.NETE else if p < 72 then isl.LNK else if p < 75 then isl.QDE else isl.MGT

/-- The egress unit has crossing credit. -/
def hasCredit (s : Dev) (i : Nat) : Bool := decide (0 < (s.xchan isl.TMG i).credits) && (s.xchan isl.TMG i).queue.isEmpty

/-- A port node is eligible (R394, R397). -/
def portEligible (s : Dev) (p : Nat) : Bool :=
  peakOpen true (portKbps s p) (tport s.tmg.live p).burst (s.tp p).spent && hasCredit s (egressIsland p) && (!schedBit s 3 || portUp s p)

/-! ### DWRR (R395) -/

/-- The loop of dwrr: children in order from the cursor, with their deficits; the child chosen comes first. -/
def dwrrLoop (w : Nat → Nat) : Nat → List (Nat × Int) → List (Nat × Int)
  | 0, l => l
  | _ + 1, [] => []
  | n + 1, (c, d) :: t => if d ≤ 0 then dwrrLoop w n (t ++ [(c, d + 64 * (w c : Int))]) else (c, d) :: t

/-- A rising list turned to begin at the cursor. -/
def fromCursor (cur : Nat) (l : List Nat) : List Nat := l.filter (fun c => decide (cur ≤ c)) ++ l.filter (fun c => decide (c < cur))

/-- dwrr over a set: the child chosen, and every child's deficit. -/
def dwrr (cur : Nat) (set : List Nat) (w : Nat → Nat) (deficit : Nat → Int) : Option Nat × List (Nat × Int) :=
  let l := dwrrLoop w (400 * (set.length + 1)) ((fromCursor cur set).map (fun c => (c, deficit c)))
  ((l.head?).map Prod.fst, l)

/-- The group that a port serves, with the state after the choice: round robin among committed ones, else DWRR (R395). -/
def pickGroup (s : Dev) (p : Nat) : Option (Nat × Bool) × Dev :=
  let gs := groupsOf s.tmg.live p
  match fromCursor (s.tp p).rr (gs.filter (groupCommitted s p)) with
  | g :: _ => (some (g, false), s.setTp p { s.tp p with rr := g + 1 })
  | [] =>
    let (g, ds) := dwrr (s.tp p).cursor (gs.filter (groupExcess s p)) (fun g => ((tgroup s.tmg.live p g).map TGroup.weight).getD 1)
      (fun g => (s.tg (16 * p + g)).deficit)
    let s1 := ds.foldl (fun s (e : Nat × Int) => s.setTg (16 * p + e.1) { s.tg (16 * p + e.1) with deficit := e.2 }) s
    match g with
    | some g => (some (g, true), s1.setTp p { s1.tp p with cursor := g })
    | none => (none, s1)

/-- WEIGHT of a slice, as the last scheduler period read it (R176, R398). -/
def nodeWeight (s : Dev) (n : Nat) : Nat :=
  let w := SMap.get 0 s.tmg.weights n
  Nat.max 1 (if w = 0 then (s.slice n).profile.weight else w)

/-- The slice node of a group (R395). -/
def pickNode (s : Dev) (p g : Nat) : Option Nat × Dev :=
  let (n, ds) := dwrr (s.tg (16 * p + g)).cursor (groupNodes s p g) (nodeWeight s) (fun n => (s.tn (4096 * p + n)).deficit)
  let s1 := ds.foldl (fun s (e : Nat × Int) => s.setTn (4096 * p + e.1) { s.tn (4096 * p + e.1) with deficit := e.2 }) s
  match n with
  | some n => (some n, s1.setTg (16 * p + g) { s1.tg (16 * p + g) with cursor := n })
  | none => (none, s1)

/-- Priority of a queue. -/
def queuePrio (s : Dev) (q : Nat) : Nat := ((tqueue s.tmg.live q).map TQueue.prio).getD 0

/-- The queue of a slice node (R395). -/
def pickQueue (s : Dev) (p n : Nat) : Option Nat × Dev :=
  let qs := queuesOf s.tmg.live p n
  let set := if qs.any (queueCommitted s) then qs.filter (queueCommitted s) else qs.filter (queueExcess s)
  let low := set.foldl (fun m q => Nat.min m (queuePrio s q)) 7
  let (q, ds) := dwrr (s.tn (4096 * p + n)).cursor (set.filter (fun q => queuePrio s q == low))
    (fun q => ((tqueue s.tmg.live q).map TQueue.qweight).getD 1) (fun q => (s.tq q).deficit)
  let s1 := ds.foldl (fun s (e : Nat × Int) => s.setTq e.1 { s.tq e.1 with deficit := e.2 }) s
  match q with
  | some q => (some q, s1.setTn (4096 * p + n) { s1.tn (4096 * p + n) with cursor := q })
  | none => (none, s1)

/-! ### Dequeue -/

/-- The bin of a delay (R400). -/
def delayBin (base d : Nat) : Nat := ((List.range 7).find? (fun k => decide (d < base * 2 ^ k))).getD 7

/-- A bin gains 1, up to 2^32 − 1. -/
def addBin (bins : List Nat) (k : Nat) : List Nat := bins.modify k (fun n => Nat.min (2 ^ 32 - 1) (n + 1))

/-- A packet leaves TMG for its egress unit, or for LCP from a bound queue (R44, R459); a cell that could not be corrected poisons it (R391). -/
def sendEgress (p q : Nat) (ue : Option Nat) (k : Pkt) (s : Dev) : Dev :=
  let k1 := { k with fromQueue := q, poisoned := k.poisoned || ue.isSome }
  let s1 := match ue with
    | some c => count .tmgCellUe 0 (logFault isl.TMG 0xFF 0x0C01 0 (mk64 [lo 20 c, at' q 20]) 0 s)
    | none => s
  let island := if p < 64 ∧ (SMap.get none s.cry.bindings q).isSome then isl.LCP else egressIsland p
  post isl.TMG island k1 (traceStep isl.TMG 7 p k1 s1)

/-- Every bucket on the path is debited by the shaping length, and the deficits by LENGTH (R393, R395). -/
def debit (p g n q len : Nat) (viaDwrr : Bool) (s : Dev) : Dev :=
  let units := 6250 * ((len : Int) + (tport s.tmg.live p).overhead).toNat
  let s1 := s.setTp p { s.tp p with spent := (s.tp p).spent + units }
  let gr := s1.tg (16 * p + g)
  let s2 := s1.setTg (16 * p + g)
    { gr with cSpent := gr.cSpent + units, pSpent := gr.pSpent + units, deficit := if viaDwrr then gr.deficit - len else gr.deficit }
  let nr := s2.tn (4096 * p + n)
  let s3 := s2.setTn (4096 * p + n) { nr with pSpent := nr.pSpent + units, deficit := nr.deficit - len }
  let qr := s3.tq q
  s3.setTq q { qr with cSpent := qr.cSpent + units, pSpent := qr.pSpent + units, deficit := qr.deficit - len }

/-- The head of a queue is sent. -/
def sendHead (p g n q : Nat) (viaDwrr : Bool) (ue : Option Nat) (s : Dev) : Dev :=
  let x := s.tq q
  match x.items with
  | [] => s
  | i :: rest =>
    let bin := delayBin (s.regField isl.TMG 0x048 15 0) (Time.since s.now i.pkt.tag.entryTime)
    let s1 := s.setTq q { x with items := rest, bins := addBin x.bins bin }
    sendEgress p q ue i.pkt (count .tmgDeq p (debit p g n q i.pkt.bytes.length viaDwrr s1))

/-- A dequeue opportunity of a port (R395). -/
def dequeue (p : Nat) (ue : Option Nat) (s : Dev) : Dev :=
  match (s.tp p).control with
  | k :: rest => sendEgress p 0 ue k (s.setTp p { s.tp p with control := rest })
  | [] =>
    if !portEligible s p then s
    else match pickGroup s p with
      | (none, s1) => s1
      | (some (g, via), s1) =>
        match pickNode s1 p g with
        | (none, s2) => s2
        | (some n, s2) =>
          match pickQueue s2 p n with
          | (none, s3) => s3
          | (some q, s3) => sendHead p g n q via ue s3

/-- DEQUEUE (R395). -/
def execDequeue (port : Nat) (ue : Option Nat) (s : State) : Host.Outcome State Fault Refusal := ran (Wf.dequeue port ue) (dequeue port ue) s

/-! ### Commands in force -/

/-- A signed 7-bit field. -/
def signed7 (n : Nat) : Int := if n < 64 then (n : Int) else (n : Int) - 128

/-- A class queue from TMG_QUEUE_SET's words. -/
def queueOfWords (ws : List W64) : TQueue :=
  let w := fun k => ws.getD k 0
  { slice := fld (w 0) 11 0, port := fld (w 0) 19 12, cls := fld (w 0) 22 20, prio := fld (w 0) 25 23, cir := fld (w 1) 31 0, pir := fld (w 1) 63 32,
    cbs := fld (w 2) 23 0, pbs := fld (w 2) 55 32, qweight := fld (w 3) 9 0, minCells := fld (w 3) 25 16, maxCells := fld (w 3) 51 32,
    alpha := fld (w 3) 55 52, yellow := fld (w 4) 6 0, red := fld (w 4) 14 8 }

/-- The map entries that name a queue are removed. -/
def unmapQueue (c : TmgCfg) (q : Nat) : TmgCfg :=
  match tqueue c q with
  | some x =>
    let k := qmapKey x.port x.slice x.cls
    if tqmap c k = some q then { c with qmap := SMap.put (qmapAtReset k) c.qmap k none } else c
  | none => c

/-- TMG_QUEUE_SET's effect on queue `q`: set, mapped or unmapped, or removed; a queue without a slice node creates one in group 0. -/
def setQueueCfg (q : Nat) (ws : List W64) (c : TmgCfg) : TmgCfg :=
  let x := queueOfWords ws
  if !bit (ws.getD 0 0) 26 then
    let c1 := unmapQueue c q
    { c1 with queues := SMap.put (TQueue.atReset q) c1.queues q none }
  else
    let c1 := unmapQueue c q
    let c2 := { c1 with queues := SMap.put (TQueue.atReset q) c1.queues q (some x) }
    let k := qmapKey x.port x.slice x.cls
    let c3 := if bit (ws.getD 0 0) 27 then { c2 with qmap := SMap.put (qmapAtReset k) c2.qmap k (some q) } else c2
    let nk := 4096 * x.port + x.slice
    if (tnode c3 x.port x.slice).isSome then c3
    else { c3 with nodes := SMap.put (TNode.atReset x.port x.slice) c3.nodes nk (some ⟨0, 0, 0, 0⟩) }

/-- The host destinations of TMG_FLOOD_LIST_SET's words 3 and 4: host port, queue pair. -/
def floodHosts (ws : List W64) : List (Nat × Nat) :=
  (List.range 4).filterMap (fun e =>
    let x := fld (ws.getD (3 + e / 2) 0) (32 * (e % 2) + 20) (32 * (e % 2))
    if x / 2 ^ 20 % 2 = 1 then some (x / 2 ^ 18 % 4, x % 2 ^ 18) else none)

/-- A command's effect on the settings (Table 11-4); `n` is the queue number for TMG_QUEUE_SET. -/
def applyTmg (op n : Nat) (ws : List W64) (c : TmgCfg) : TmgCfg :=
  let w := fun k => ws.getD k 0
  match op with
  | 0x0600 =>
    let p := fld (w 0) 7 0
    { c with ports := SMap.put (TPort.reset p) c.ports p ⟨signed7 (fld (w 0) 14 8), fld (w 1) 31 0, fld (w 1) 55 32, BitVec.ofNat 24 (fld (w 2) 23 0)⟩ }
  | 0x0601 =>
    let g := fld (w 0) 11 8
    let x : TGroup := ⟨fld (w 0) 25 16, fld (w 1) 31 0, fld (w 1) 63 32, fld (w 2) 23 0, fld (w 2) 55 32⟩
    { c with groups := SMap.put (TGroup.atReset g) c.groups (16 * fld (w 0) 7 0 + g) (if bit (w 0) 12 then some x else none) }
  | 0x0602 =>
    let sl := fld (w 0) 11 0
    let p := fld (w 0) 19 12
    let x : TNode := ⟨fld (w 0) 23 20, fld (w 0) 27 25, fld (w 1) 31 0, fld (w 1) 55 32⟩
    { c with nodes := SMap.put (TNode.atReset p sl) c.nodes (4096 * p + sl) (if bit (w 0) 24 then some x else none) }
  | 0x0603 => { c with limits := SMap.put 0 c.limits (fld (w 0) 11 0) (fld (w 0) 51 32) }
  | 0x0604 => setQueueCfg n ws c
  | 0x0606 =>
    let x : TMeter :=
      { owner := fld (w 0) 31 20, mode := bit (w 0) 32, aware := bit (w 0) 33, mark := bit (w 0) 34, overhead := signed7 (fld (w 0) 46 40),
        cir := fld (w 1) 31 0, pir := fld (w 1) 63 32, cbs := fld (w 2) 23 0, pbs := fld (w 2) 55 32 }
    { c with meters := SMap.put none c.meters (fld (w 0) 16 0) (if bit (w 0) 35 then some x else none) }
  | 0x0608 =>
    let x : TFlood := ⟨BitVec.ofNat 72 ((w 1).toNat + 2 ^ 64 * fld (w 2) 7 0), floodHosts ws⟩
    { c with floods := SMap.put none c.floods (fld (w 0) 11 0) (if bit (w 0) 12 then some x else none) }
  | 0x0609 =>
    let x : TMirror := ⟨fld (w 0) 15 8, fld (w 0) 31 16, fld (w 0) 49 32, fld (w 1) 15 0⟩
    { c with mirrors := SMap.put none c.mirrors (fld (w 0) 3 0) (if bit (w 0) 4 then some x else none) }
  | _ => c

/-- A meter's running state under new settings: clipped to the new bursts, full where it is new, gone where it is removed (R387). -/
def remeter (old : Option MeterRun) (m : Option TMeter) (now : Time) : Option MeterRun :=
  match m with
  | none => none
  | some m => match old with
    | some x => some { x with tc := Nat.min x.tc (1024 * m.cbs), tp := Nat.min x.tp (1024 * m.pbs) }
    | none => some (meterFull m now)

/-- A removed queue's copies, which came in after the command found it empty, are dropped (log 61). -/
def emptyQueue (q : Nat) (s : Dev) : Dev := (s.tq q).items.foldl (fun s i => traceStep isl.TMG 9 0 i.pkt s) (s.setTq q QueueRun.empty)

/-- A command comes into force: settings and what they do to running state. A queue that is created begins empty of history (R400). -/
def enforce (e : Nat × Nat × Nat × List W64) (s : Dev) : Dev :=
  let (_, op, n, ws) := e
  let fresh := decide (op = 0x0604) && (tqueue s.tmg.live n).isNone
  let s1 := { s with tmg := { s.tmg with live := applyTmg op n ws s.tmg.live } }
  let gone := decide (op = 0x0604) && (tqueue s1.tmg.live n).isNone
  let s2 := if fresh then s1.setTq n QueueRun.empty else whenB gone (emptyQueue n) s1
  if op = 0x0606 then
    let m := fld (ws.getD 0 0) 16 0
    s2.setMeterRun m (remeter (SMap.get none s2.tmg.meters m) (tmeter s2.tmg.live m) s.now)
  else s2

/-- The journal record with this SEQ is not yet durable. -/
def recordInFlight (s : Dev) (seq : Nat) : Bool := s.jnl.inflight.any (fun r => r.seq == seq)

/-- Commands whose records are durable, in order. -/
def dueCommands (s : Dev) : List (Nat × Nat × Nat × List W64) := s.tmg.pend.takeWhile (fun e => !recordInFlight s e.1)

/-- Slices whose nodes are out of arbitration: from step 6 of their quiesce to the end of their reset (R398). -/
def outSlices (s : Dev) : List Nat :=
  (s.slices.slices.filter (fun e => decide (e.2.state = .quiesced) || decide (e.2.state = .resetting) || e.2.quiesce.step == 6)).map Prod.fst

/-- The deficits of a slice's nodes and queues become 0 (R398). -/
def zeroDeficits (sl : Nat) (s : Dev) : Dev :=
  let s1 := (s.tmg.nodes.filter (fun e => e.1 % 4096 == sl)).foldl (fun s e => s.setTn e.1 { s.tn e.1 with deficit := 0 }) s
  (queuesOfSlice s.tmg.live sl).foldl (fun s q => s.setTq q { s.tq q with deficit := 0 }) s1

/-- Buckets gain one period of their rate (R393). -/
def refillBuckets (s : Dev) : Dev :=
  let c := s.tmg.live
  let s1 := s.tmg.ports.foldl (fun s e => s.setTp e.1 { s.tp e.1 with spent := (s.tp e.1).spent - portKbps s e.1 }) s
  let s2 := s.tmg.groups.foldl (fun s e =>
    let x := s.tg e.1
    match tgroup c (e.1 / 16) (e.1 % 16) with
    | some g => s.setTg e.1 { x with cSpent := x.cSpent - g.cir, pSpent := x.pSpent - g.pir }
    | none => s.setTg e.1 NodeRun.empty) s1
  let s3 := s.tmg.nodes.foldl (fun s e =>
    let x := s.tn e.1
    match tnode c (e.1 / 4096) (e.1 % 4096) with
    | some n => s.setTn e.1 { x with pSpent := x.pSpent - n.peak }
    | none => s.setTn e.1 NodeRun.empty) s2
  s.tmg.queues.foldl (fun s e =>
    let x := s.tq e.1
    match tqueue c e.1 with
    | some q => s.setTq e.1 { x with cSpent := x.cSpent - q.cir, pSpent := x.pSpent - q.pir }
    | none => s) s3

/-- A spent amount without a limit to reach means nothing: a bucket whose rate is 0 is kept full. -/
def dropIdle (s : Dev) : Dev :=
  let c := s.tmg.live
  let s1 := s.tmg.ports.foldl (fun s e => if portKbps s e.1 = 0 then s.setTp e.1 { s.tp e.1 with spent := 0 } else s) s
  let s2 := s.tmg.groups.foldl (fun s e =>
    let x := s.tg e.1
    match tgroup c (e.1 / 16) (e.1 % 16) with
    | some g => s.setTg e.1 { x with cSpent := if g.cir = 0 then 0 else x.cSpent, pSpent := if g.pir = 0 then 0 else x.pSpent }
    | none => s) s1
  let s3 := s.tmg.nodes.foldl (fun s e =>
    let x := s.tn e.1
    match tnode c (e.1 / 4096) (e.1 % 4096) with
    | some n => if n.peak = 0 then s.setTn e.1 { x with pSpent := 0 } else s
    | none => s) s2
  s.tmg.queues.foldl (fun s e =>
    let x := s.tq e.1
    match tqueue c e.1 with
    | some q => s.setTq e.1 { x with cSpent := if q.cir = 0 then 0 else x.cSpent, pSpent := if q.pir = 0 then 0 else x.pSpent }
    | none => s) s3

/-- SCHEDULER_PERIOD: pending fields, commands, weights, nodes that leave or return, then the buckets (R393, R398, R399). -/
def schedulerPeriod (s0 : Dev) : Dev :=
  let s := applyBoundary .schedPeriod isl.TMG s0
  let due := dueCommands s
  let s1 := due.foldl (fun s e => enforce e s) { s with tmg := { s.tmg with pend := s.tmg.pend.drop due.length, periods := (s.tmg.periods + 1) % 2 ^ 48 } }
  let out := outSlices s1
  let s2 := (out.filter (fun n => !s1.tmg.out.contains n)).foldl (fun s n => zeroDeficits n s) s1
  let weights := s2.slices.slices.foldl (fun m e => SMap.put 0 m e.1 e.2.profile.weight) ([] : SMap Nat)
  let s3 := { s2 with tmg := { s2.tmg with out := out, weights := weights } }
  dropIdle (refillBuckets (s3.mapSlices (fun x => { x with pendSched := false })))

/-- A scheduler period begins (R393). -/
def execSchedulerPeriod (s : State) : Host.Outcome State Fault Refusal := ran Wf.schedulerPeriod schedulerPeriod s

/-! ### Samples -/

/-- Delay of a queue's head packet, stopping at 2^32 − 1; 0 when empty. -/
def headDelay (s : Dev) (x : QueueRun) : Nat :=
  match x.items with
  | [] => 0
  | i :: _ => Nat.min (2 ^ 32 - 1) (Time.since s.now i.pkt.tag.entryTime)

/-- The 8 bins in 4 words. -/
def binWords (bins : List Nat) : List W64 := (List.range 4).map (fun i => mk64 [bins.getD (2 * i) 0, at' (bins.getD (2 * i + 1) 0) 32])

/-- QUEUE_DEPTH_SAMPLE: the sampler visits the next queue and records it where it is configured (R401, Table 16-4). -/
def queueDepthSample (s : Dev) : Dev :=
  if s.regField isl.TMG 0x048 16 16 = 0 then s
  else
    let q := s.tmg.sampleAt
    let x := s.tq q
    let s1 := { s with tmg := { s.tmg with sampleAt := (q + 1) % 65536 } }
    if (tqueue s.tmg.live q).isNone then s1
    else traceRecord 3 2
      ([traceW0 s isl.TMG 3, mk64 [q, at' (qCells x) 16, at' x.items.length 36, at' 2 62], BitVec.ofNat 64 (headDelay s x), 0] ++ binWords x.bins) s1

/-- A depth sample (R401). -/
def execQueueDepthSample (s : State) : Host.Outcome State Fault Refusal := ran Wf.queueDepthSample queueDepthSample s

end Sys2Proof.Machine
end

