-- ==== Sys2Proof/Machine/TmgCmds.lean ====
section
/-! DEFINITION. The traffic manager commands (R403, Table 11-4). -/
namespace Sys2Proof.Machine

/-- A command's settings: as commanded at once, in force at the first period after its record is durable (R399). -/
def commandTmg (op n : Nat) (ws : List W64) (s : Dev) : Dev :=
  { s with tmg := { s.tmg with cfg := applyTmg op n ws s.tmg.cfg, pend := s.tmg.pend ++ [(s.jnl.nextSeq - 1, op, n, ws)] } }

/-- A journalled traffic manager command. -/
def tmgConfigured (sp : CmdSpec) (ch : Nat) (r : Req) (subject : Nat) (ws : List W64) (s : Dev) : Dev × Reply :=
  configured sp ch r subject (commandTmg sp.opcode subject r.words) ws s

/-- The slice exists. -/
def sliceExists (s : Dev) (n : Nat) : Bool := decide ((s.slice n).state ≠ .free)

/-- OVERHEAD lies between −32 and +63. -/
def overheadOk (n : Nat) : Bool := decide (-32 ≤ signed7 n)

def spec0600 : CmdSpec := mgrCmd 0x0600 [bits 14 0, bits 55 0, bits 23 0] 0

def tmgPortSet (ch : Nat) (r : Req) (s : Dev) : Dev × Reply :=
  checks [(decide (fld (r.word 0) 7 0 ≤ 75) && overheadOk (fld (r.word 0) 14 8), Status.badArgument)]
    (tmgConfigured spec0600 ch r (fld (r.word 0) 7 0) []) s

def cmdTmgPortSet (ch : Nat) (r : Req) (s : Dev) : Dev := command spec0600 ch r (tmgPortSet ch r) s

/-- TMG_PORT_SET. -/
def execTmgPortSet (ch : Nat) (r : Req) (s : State) : Host.Outcome State Fault Refusal := ran (Wf.tmgPortSet ch r) (onChannel ch (cmdTmgPortSet ch r)) s

def spec0601 : CmdSpec := mgrCmd 0x0601 [bits 12 0 ||| bits 25 16, anyWord, bits 23 0 ||| bits 55 32] 0

/-- A slice node of the port uses the group. -/
def groupInUse (c : TmgCfg) (p g : Nat) : Bool := (nodesOn c p).any (fun n => ((tnode c p n).map TNode.group) == some g)

def tmgGroupSet (ch : Nat) (r : Req) (s : Dev) : Dev × Reply :=
  let p := fld (r.word 0) 7 0
  let g := fld (r.word 0) 11 8
  let valid := bit (r.word 0) 12
  let w := fld (r.word 0) 25 16
  let cir := fld (r.word 1) 31 0
  let pir := fld (r.word 1) 63 32
  checks
    [(decide (p ≤ 75) && (if valid then decide (1 ≤ w) && decide (w ≤ 1000) && (pir == 0 || decide (cir ≤ pir)) else g != 0), Status.badArgument),
     (valid || !groupInUse s.tmg.cfg p g, .busy)]
    (tmgConfigured spec0601 ch r (16 * p + g) []) s

def cmdTmgGroupSet (ch : Nat) (r : Req) (s : Dev) : Dev := command spec0601 ch r (tmgGroupSet ch r) s

/-- TMG_GROUP_SET. -/
def execTmgGroupSet (ch : Nat) (r : Req) (s : State) : Host.Outcome State Fault Refusal := ran (Wf.tmgGroupSet ch r) (onChannel ch (cmdTmgGroupSet ch r)) s

def spec0602 : CmdSpec := mgrCmd 0x0602 [bits 27 0, bits 55 0] 0

/-- Slice nodes of the device (R392): slice 0's 76, less those removed, and the listed ones. -/
def nodeCount (c : TmgCfg) : Nat :=
  76 + (c.nodes.filter (fun e => e.2.isSome && e.1 % 4096 != 0)).length - (c.nodes.filter (fun e => e.2.isNone && e.1 % 4096 == 0)).length

def tmgSliceNodeSet (ch : Nat) (r : Req) (s : Dev) : Dev × Reply :=
  let sl := fld (r.word 0) 11 0
  let p := fld (r.word 0) 19 12
  let valid := bit (r.word 0) 24
  let c := s.tmg.cfg
  checks
    [(decide (p ≤ 75) && sliceExists s sl && (!valid || (tgroup c p (fld (r.word 0) 23 20)).isSome), Status.badArgument),
     (valid || (queuesOf c p sl).isEmpty, .busy), (!valid || (tnode c p sl).isSome || decide (nodeCount c < 16384), .noResource)]
    (tmgConfigured spec0602 ch r (4096 * p + sl) []) s

def cmdTmgSliceNodeSet (ch : Nat) (r : Req) (s : Dev) : Dev := command spec0602 ch r (tmgSliceNodeSet ch r) s

/-- TMG_SLICE_NODE_SET. -/
def execTmgSliceNodeSet (ch : Nat) (r : Req) (s : State) : Host.Outcome State Fault Refusal := ran (Wf.tmgSliceNodeSet ch r) (onChannel ch (cmdTmgSliceNodeSet ch r)) s

def spec0603 : CmdSpec := mgrCmd 0x0603 [bits 11 0 ||| bits 51 32] 0

def tmgSliceLimit (ch : Nat) (r : Req) (s : Dev) : Dev × Reply :=
  checks [(sliceExists s (fld (r.word 0) 11 0), Status.badArgument)] (tmgConfigured spec0603 ch r (fld (r.word 0) 11 0) []) s

def cmdTmgSliceLimit (ch : Nat) (r : Req) (s : Dev) : Dev := command spec0603 ch r (tmgSliceLimit ch r) s

/-- TMG_SLICE_LIMIT. -/
def execTmgSliceLimit (ch : Nat) (r : Req) (s : State) : Host.Outcome State Fault Refusal := ran (Wf.tmgSliceLimit ch r) (onChannel ch (cmdTmgSliceLimit ch r)) s

def spec0604 : CmdSpec := mgrCmd 0x0604 [bits 27 0 ||| bits 48 32, anyWord, bits 23 0 ||| bits 55 32, bits 9 0 ||| bits 25 16 ||| bits 55 32, bits 6 0 ||| bits 14 8] 8

/-- The lowest queue that is not configured. -/
def freeQueue (c : TmgCfg) : Nat := ((List.range 65536).find? (fun q => (tqueue c q).isNone)).getD 65536

def tmgQueueSet (ch : Nat) (r : Req) (s : Dev) : Dev × Reply :=
  let c := s.tmg.cfg
  let x := queueOfWords r.words
  let valid := bit (r.word 0) 26
  let q := if valid && bit (r.word 0) 48 then s.jnl.replaying.getD (freeQueue c) else fld (r.word 0) 47 32
  let old := if bit (r.word 0) 48 then none else tqueue c q
  let same := match old with
    | some y => y.slice == x.slice && y.port == x.port && y.cls == x.cls
    | none => true
  let ranges := decide (1 ≤ x.qweight) && decide (x.qweight ≤ 1000) && decide (x.alpha ≤ 9) && decide (x.yellow ≤ 100) && decide (x.red ≤ 100)
  let oldMin := (old.map TQueue.minCells).getD 0
  checks
    [(decide (x.port ≤ 75) && (if valid then sliceExists s x.slice && ranges && same else old.isSome), Status.badArgument),
     (valid || qCells (s.tq q) == 0, .busy),
     (!valid || decide (q < 65536), .noResource),
     (!valid || old.isSome || decide ((queuesOfSlice c x.slice).length < (s.slice x.slice).profile.schedQueues), .noResource),
     (!valid || decide (x.minCells ≤ oldMin + sharedPool c), .noResource),
     (!valid || (tnode c x.port x.slice).isSome || decide (nodeCount c < 16384), .noResource)]
    (tmgConfigured spec0604 ch r q [BitVec.ofNat 64 q]) s

def cmdTmgQueueSet (ch : Nat) (r : Req) (s : Dev) : Dev := command spec0604 ch r (tmgQueueSet ch r) s

/-- TMG_QUEUE_SET. -/
def execTmgQueueSet (ch : Nat) (r : Req) (s : State) : Host.Outcome State Fault Refusal := ran (Wf.tmgQueueSet ch r) (onChannel ch (cmdTmgQueueSet ch r)) s

def spec0605 : CmdSpec := anyCmd 0x0605 [bits 15 0] 48

def tmgQueueStats (ch : Nat) (r : Req) (s : Dev) : Dev × Reply :=
  let q := fld (r.word 0) 15 0
  match tqueue s.tmg.live q with
  | none => fail .badArgument s
  | some x =>
    checks [(reaches ch x.slice, Status.notPermitted)]
      (done (mk64 [qCells (s.tq q), at' (s.tq q).items.length 32] :: BitVec.ofNat 64 (headDelay s (s.tq q)) :: binWords (s.tq q).bins)) s

def cmdTmgQueueStats (ch : Nat) (r : Req) (s : Dev) : Dev := command spec0605 ch r (tmgQueueStats ch r) s

/-- TMG_QUEUE_STATS. -/
def execTmgQueueStats (ch : Nat) (r : Req) (s : State) : Host.Outcome State Fault Refusal := ran (Wf.tmgQueueStats ch r) (onChannel ch (cmdTmgQueueStats ch r)) s

def spec0606 : CmdSpec := mgrCmd 0x0606 [bits 16 0 ||| bits 35 20 ||| bits 46 40, anyWord, bits 23 0 ||| bits 55 32] 0

/-- Configured meters of a slice; meter 131,071 counts for none (R574). -/
def metersOf (c : TmgCfg) (n : Nat) : Nat := (c.meters.filter (fun e => e.1 != 131071 && e.2.any (fun m => m.owner == n))).length

def tmgPolicerSet (ch : Nat) (r : Req) (s : Dev) : Dev × Reply :=
  let w := r.word 0
  let m := fld w 16 0
  let owner := fld w 31 20
  let valid := bit w 35
  let mine := match tmeter s.tmg.cfg m with
    | some x => x.owner == owner
    | none => false
  checks
    [(overheadOk (fld w 46 40) && (m != 131071 || owner == 0) &&
        (!valid || (sliceExists s owner && (bit w 32 || decide (fld (r.word 1) 31 0 ≤ fld (r.word 1) 63 32)))), Status.badArgument),
     (!valid || mine || m == 131071 || decide (metersOf s.tmg.cfg owner < (s.slice owner).profile.policers), .noResource)]
    (tmgConfigured spec0606 ch r m []) s

def cmdTmgPolicerSet (ch : Nat) (r : Req) (s : Dev) : Dev := command spec0606 ch r (tmgPolicerSet ch r) s

/-- TMG_POLICER_SET. -/
def execTmgPolicerSet (ch : Nat) (r : Req) (s : State) : Host.Outcome State Fault Refusal := ran (Wf.tmgPolicerSet ch r) (onChannel ch (cmdTmgPolicerSet ch r)) s

/-- TMG_POL_STATE of a meter (Table 11-3). -/
def polState (s : Dev) (n : Nat) : W64 :=
  match tmeter s.tmg.live n with
  | none => 0
  | some m =>
    let x := s.meterRun n m
    mk64 [lo 24 (x.tc / 1024), at' (lo 24 (x.tp / 1024)) 24, at' (b2n m.mode) 48, at' (b2n m.aware) 49, at' 1 50, at' m.owner 52]

def spec0607 : CmdSpec := anyCmd 0x0607 [bits 16 0] 32

def tmgPolicerStats (ch : Nat) (r : Req) (s : Dev) : Dev × Reply :=
  let n := fld (r.word 0) 16 0
  match tmeter s.tmg.live n with
  | none => fail .badArgument s
  | some m =>
    let x := s.meterRun n m
    checks [(reaches ch m.owner, Status.notPermitted)] (done [x.green, x.yellow, x.red, polState s n]) s

def cmdTmgPolicerStats (ch : Nat) (r : Req) (s : Dev) : Dev := command spec0607 ch r (tmgPolicerStats ch r) s

/-- TMG_POLICER_STATS. -/
def execTmgPolicerStats (ch : Nat) (r : Req) (s : State) : Host.Outcome State Fault Refusal := ran (Wf.tmgPolicerStats ch r) (onChannel ch (cmdTmgPolicerStats ch r)) s

def spec0608 : CmdSpec := mgrCmd 0x0608 [bits 12 0, anyWord, bits 7 0, bits 20 0 ||| bits 52 32, bits 20 0 ||| bits 52 32] 0

def tmgFloodListSet (ch : Nat) (r : Req) (s : Dev) : Dev × Reply :=
  checks [((floodHosts r.words).all (fun h => decide (h.1 < 3)), Status.badArgument)]
    (tmgConfigured spec0608 ch r (fld (r.word 0) 11 0) []) s

def cmdTmgFloodListSet (ch : Nat) (r : Req) (s : Dev) : Dev := command spec0608 ch r (tmgFloodListSet ch r) s

/-- TMG_FLOOD_LIST_SET. -/
def execTmgFloodListSet (ch : Nat) (r : Req) (s : State) : Host.Outcome State Fault Refusal := ran (Wf.tmgFloodListSet ch r) (onChannel ch (cmdTmgFloodListSet ch r)) s

def spec0609 : CmdSpec := mgrCmd 0x0609 [bits 4 0 ||| bits 49 8, bits 15 0] 0

def tmgMirrorSet (ch : Nat) (r : Req) (s : Dev) : Dev × Reply :=
  let w := r.word 0
  let trunc := fld w 31 16
  checks
    [(fld w 3 0 != 0 && (!bit w 4 || (decide (fld w 15 8 ≤ 75) && (trunc == 0 || (decide (64 ≤ trunc) && decide (trunc ≤ 16384))) &&
        fld (r.word 1) 15 0 != 0)), Status.badArgument)]
    (tmgConfigured spec0609 ch r (fld w 3 0) []) s

def cmdTmgMirrorSet (ch : Nat) (r : Req) (s : Dev) : Dev := command spec0609 ch r (tmgMirrorSet ch r) s

/-- TMG_MIRROR_SET. -/
def execTmgMirrorSet (ch : Nat) (r : Req) (s : State) : Host.Outcome State Fault Refusal := ran (Wf.tmgMirrorSet ch r) (onChannel ch (cmdTmgMirrorSet ch r)) s

/-- The settings without a slice's nodes, queues and meters (R404). -/
def withoutSlice (sl : Nat) (c : TmgCfg) : TmgCfg :=
  { c with
    nodes := c.nodes.filter (fun e => decide (e.1 % 4096 ≠ sl)),
    qmap := c.qmap.filter (fun e => decide (e.1 / 8 % 4096 ≠ sl)),
    queues := (queuesOfSlice c sl).foldl (fun m q => SMap.put (TQueue.atReset q) m q none) c.queues,
    meters := c.meters.filter (fun e => match e.2 with
      | some m => m.owner != sl
      | none => false) }

/-- A pending command that would set something of the slice. -/
def pendOf (sl : Nat) (e : Nat × Nat × Nat × List W64) : Bool :=
  let w := e.2.2.2.getD 0 0
  (decide (0x0602 ≤ e.2.1) && decide (e.2.1 ≤ 0x0604) && fld w 11 0 == sl) || (e.2.1 == 0x0606 && fld w 31 20 == sl)

/-- SLICE_DESTROY removes every slice node, queue and meter of a slice (R404). -/
def dropTmgSlice (sl : Nat) (s : Dev) : Dev :=
  let qs := queuesOfSlice s.tmg.live sl
  let ms := (s.tmg.live.meters.filter (fun e => match e.2 with
    | some m => m.owner == sl
    | none => false)).map Prod.fst
  let s1 := qs.foldl (fun s q => emptyQueue q s) s
  let s2 := ms.foldl (fun s m => s.setMeterRun m none) s1
  let keep := s2.tmg.pend.filter (fun e => !pendOf sl e)
  { s2 with tmg := { s2.tmg with cfg := withoutSlice sl s2.tmg.cfg, live := withoutSlice sl s2.tmg.live, pend := keep } }

end Sys2Proof.Machine
end

