-- ==== Sys2Proof/Machine/Holders.lean ====
section
/-! DEFINITION. The packets that each unit holds (R68, R185), their discarding (R71, R84, R187, R425), and drain markers (Tables 2-3
and 5-3). -/
namespace Sys2Proof.Machine

/-- The tag is that of a data packet which satisfies `f`. -/
def dataTag (f : Tag → Bool) (t : Tag) : Bool := !t.exempt && f t

/-- A packet counted by a unit. -/
def dataPkt (f : Tag → Bool) (p : Pkt) : Bool := p.marker.isNone && dataTag f p.tag

/-- Packets posted from an island to others, not yet accepted there and not discarded on their way (R68). -/
def onChannels (s : Dev) (src : Nat) (dsts : List Nat) : List Pkt := (dsts.flatMap (fun d => (s.xchan src d).carried)).filter (fun p => !p.gone)

/-- The packet's distributor counts it in flight where it stands: it has not been accepted by TMG (R48). -/
def inFlight (src dst : Nat) (p : Pkt) : Bool :=
  p.marker.isNone && src != isl.TMG && !(src == isl.LCP && (dst == isl.NETW || dst == isl.NETE)) && decide (p.dist < 8)

/-- Packets that the action cores hold: received, queued and held by threads (R68). -/
def actPkts (s : Dev) : List Pkt :=
  s.actInput 0 ++ s.actInput 1 ++ s.act.threads.flatMap (fun e => e.2.input ++ e.2.held.toList)

/-- The islands that pipelines send packets to. -/
def pipeOutlets : List Nat := [isl.ACT0, isl.ACT1, isl.TMG, isl.LCP, isl.STE]

/-- What pipeline `k` holds, with its packets at the action cores, in recirculation and at the line cipher (R68). -/
def pipeHolds (s : Dev) (k : Nat) : List Pkt :=
  let x := s.pipe k
  x.input ++ x.recirc ++ x.returns ++ x.parsed ++ x.waiting.map WaitRead.pkt ++
    (actPkts s ++ s.cry.decIn ++ onChannels s (pipeIsland k) pipeOutlets ++ onChannels s isl.ACT0 [isl.PIPA, isl.PIPB, isl.TMG] ++
      onChannels s isl.ACT1 [isl.PIPA, isl.PIPB, isl.TMG] ++ onChannels s isl.LCP [isl.PIPA, isl.PIPB]).filter (fun p => p.pipe == k)

/-- What TMG holds. -/
def tmgHolds (s : Dev) : List Pkt :=
  s.tmg.input ++ s.tmg.queues.flatMap (fun e => e.2.items.map TItem.pkt) ++ s.tmg.ports.flatMap (fun e => e.2.control) ++
    onChannels s isl.TMG [isl.NETW, isl.NETE, isl.LNK, isl.LCP, isl.QDE, isl.MGT]

/-- Tags of the frames that have not left on their bundles, a started one among them. -/
def bundleTags (s : Dev) : List Tag :=
  s.str.bundles.flatMap (fun e => (e.2.transit ++ e.2.localQ ++ e.2.leaving.toList).map LFrame.tag)

/-- Packets that wait for transmission on the Ethernet ports of an island. -/
def ethHolds (s : Dev) (i : Nat) : List Pkt := (s.eth.ports.filter (fun e => ethIsland e.1 == i)).flatMap (fun e => e.2.tx)

/-- Tags of what a unit holds (R68): pipelines 0 to 7, 8 TMG, 9 STE, 10 LCP for decryption, whose packets count in their pipelines, 11 NETW,
12 NETE, 13 LNK, 14 QDE, 15 MGT, 16 LCP on egress. -/
def unitTags (s : Dev) (u : Nat) : List Tag :=
  if u < 8 then (pipeHolds s u).filter (fun p => p.marker.isNone) |>.map Pkt.tag
  else match u with
    | 8 => (tmgHolds s).filter (fun p => p.marker.isNone) |>.map Pkt.tag
    | 9 => s.cry.steIn.map Pkt.tag
    | 11 => (ethHolds s isl.NETW).map Pkt.tag
    | 12 => (ethHolds s isl.NETE).map Pkt.tag
    | 13 => bundleTags s
    | 14 => (s.qde.rxIn ++ s.qde.pairs.flatMap (fun e => e.2.staging)).filter (fun p => p.marker.isNone) |>.map Pkt.tag
    | 16 => (s.cry.encIn ++ onChannels s isl.LCP [isl.NETW, isl.NETE]).filter (fun p => p.marker.isNone) |>.map Pkt.tag
    | _ => []

/-- The unit's count of the data packets that satisfy `f` is 0. -/
def unitClear (s : Dev) (u : Nat) (f : Tag → Bool) : Bool := !((unitTags s u).any (dataTag f))

/-! ### Discarding -/

/-- Counts a discarded packet for its island. -/
def discarded (c : Ctr) (i : Nat) (flight : Bool) (p : Pkt) (s : Dev) : Dev :=
  count c i (if flight then dropPkt i p s else traceStep i 9 p.tag.ingress.toNat p s)

/-- The packets of a list that stay, and the state after the others have been discarded. -/
def purge (c : Ctr) (i : Nat) (flight : Bool) (f : Tag → Bool) (l : List Pkt) (s : Dev) : List Pkt × Dev :=
  (l.filter (fun p => !dataPkt f p), (l.filter (dataPkt f)).foldl (fun s p => discarded c i flight p s) s)

/-- A pipeline discards. -/
def purgePipe (c : Ctr) (f : Tag → Bool) (s : Dev) (k : Nat) : Dev :=
  let x := s.pipe k
  let i := pipeIsland k
  let (a, s1) := purge c i true f x.input s
  let (b, s2) := purge c i true f x.recirc s1
  let (r, s3) := purge c i true f x.returns s2
  let (q, s4) := purge c i true f x.parsed s3
  let (_, s5) := purge c i true f (x.waiting.map WaitRead.pkt) s4
  s5.setPipe k { x with input := a, recirc := b, returns := r, parsed := q, waiting := x.waiting.filter (fun w => !dataPkt f w.pkt) }

/-- ACT0 or ACT1 discards what it has received and not dispatched. -/
def purgeActInput (c : Ctr) (f : Tag → Bool) (s : Dev) (i : Nat) : Dev :=
  let (l, s1) := purge c (isl.ACT0 + i) true f (s.actInput i) s
  { s1 with act := { s1.act with input := SMap.put [] s1.act.input i l } }

/-- A thread loses its packets; one taken out of its hands leaves an empty hold (R358). -/
def purgeThread (c : Ctr) (f : Tag → Bool) (s : Dev) (t : Nat) : Dev :=
  let x := s.thread t
  let i := isl.ACT0 + t / 256
  let (l, s1) := purge c i true f x.input s
  let (h, s2) := purge c i true f x.held.toList s1
  s2.setThread t { x with input := l, held := h.head?, heldEmpty := x.heldEmpty || (x.held.isSome && h.isEmpty) }

/-- A class queue discards. -/
def purgeQueue (c : Ctr) (f : Tag → Bool) (s : Dev) (q : Nat) : Dev :=
  let x := s.tq q
  let (_, s1) := purge c isl.TMG false f (x.items.map TItem.pkt) s
  s1.setTq q { x with items := x.items.filter (fun i => !dataPkt f i.pkt) }

/-- An Ethernet port's waiting frames are discarded. -/
def purgePort (c : Ctr) (f : Tag → Bool) (s : Dev) (p : Nat) : Dev :=
  let x := s.eport p
  let (l, s1) := purge c (ethIsland p) false f x.tx s
  s1.setEport p { x with tx := l }

/-- The block that ends a started frame early (R423). -/
def abortBlock : LinkBlock := { seq := 0, vc1 := true, sof := false, eof := false, abort := true, payload := [0] }

/-- The blocks that wait, without those of a discarded frame: none of it goes where none has gone, else a block with ABORT set ends it (log 115). -/
def cutFrame (q : List LinkBlock) : List LinkBlock :=
  let begun := !q.any (fun k => k.vc1 && k.sof)
  q.filter (fun k => !k.vc1) ++ if begun then [abortBlock] else []

/-- A bundle's data frames that have not left are discarded, a started one among them. -/
def purgeBundle (c : Ctr) (f : Tag → Bool) (s : Dev) (b : Nat) : Dev :=
  let x := s.bundle b
  let hit := fun (g : LFrame) => dataTag f g.tag
  let cut := x.leaving.any hit
  countBy c isl.LNK ((x.transit ++ x.localQ ++ x.leaving.toList).filter hit).length
    (s.setBundle b { x with transit := x.transit.filter (fun g => !hit g), localQ := x.localQ.filter (fun g => !hit g),
                            leaving := if cut then none else x.leaving, txq := if cut then cutFrame x.txq else x.txq })

/-- Channels whose packets count for the unit that posted them (R68). -/
def holdsPosted (src : Nat) : Bool := [isl.PIPA, isl.PIPB, isl.ACT0, isl.ACT1, isl.TMG, isl.LCP].contains src

/-- The packets of a crossing that satisfy `f` are discarded, each counted for the island that posted it; their blocks go on without them. -/
def purgeChannel (c : Ctr) (f : Tag → Bool) (s : Dev) (key : Nat) : Dev :=
  let src := key / 32
  let dst := key % 32
  if holdsPosted src then
    let x := s.xchan src dst
    let hit := fun (p : Pkt) => dataPkt f p && !p.gone
    (x.carried.filter hit).foldl (fun s p => discarded c src (inFlight src dst p) p s)
      (s.setXchan src dst { x with carried := x.carried.map (fun p => if hit p then { p with gone := true } else p) })
  else s

/-- A queue pair's staged frames are discarded. -/
def purgeStaging (c : Ctr) (f : Tag → Bool) (s : Dev) (q : Nat) : Dev :=
  let x := s.qp q
  let (l, s1) := purge c isl.QDE false f x.staging s
  s1.setQp q { x with staging := l }

/-- LCP, STE, QDE and TMG discard what they have received. -/
def purgeInputs (c : Ctr) (f : Tag → Bool) (s : Dev) : Dev :=
  let (d, s1) := purge c isl.LCP true f s.cry.decIn s
  let (e, s2) := purge c isl.LCP false f s1.cry.encIn s1
  let (g, s3) := purge c isl.STE false f s2.cry.steIn s2
  let s4 := { s3 with cry := { s3.cry with decIn := d, encIn := e, steIn := g } }
  let (r, s5) := purge c isl.QDE false f s4.qde.rxIn s4
  let s6 := { s5 with qde := { s5.qde with rxIn := r } }
  let (m, s7) := purge c isl.TMG true f s6.tmg.input s6
  { s7 with tmg := { s7.tmg with input := m } }

/-- Every unit discards the data packets that satisfy `f`, those on their way from it among them, each counted for its island. -/
def discardAll (c : Ctr) (f : Tag → Bool) (s : Dev) : Dev :=
  let s1 := pipeNumbers.foldl (purgePipe c f) s
  let s2 := [0, 1].foldl (purgeActInput c f) s1
  let s3 := (s2.act.threads.map Prod.fst).foldl (purgeThread c f) s2
  let s4 := (s3.tmg.queues.map Prod.fst).foldl (purgeQueue c f) s3
  let s5 := (s4.eth.ports.map Prod.fst).foldl (purgePort c f) s4
  let s6 := (s5.str.bundles.map Prod.fst).foldl (purgeBundle c f) s5
  let s7 := (s6.qde.pairs.map Prod.fst).foldl (purgeStaging c f) s6
  let s8 := (s7.fabric.chans.map Prod.fst).foldl (purgeChannel c f) s7
  purgeInputs c f s8

/-- How many packets a discard would take. -/
def discardCount (s : Dev) (f : Tag → Bool) : Nat :=
  let n := fun (l : List Pkt) => (l.filter (dataPkt f)).length
  ((pipeNumbers.map (fun k => let x := s.pipe k; n (x.input ++ x.recirc ++ x.returns ++ x.parsed ++ x.waiting.map WaitRead.pkt))).sum) +
    n (actPkts s) + n (s.tmg.queues.flatMap (fun e => e.2.items.map TItem.pkt)) + n (s.eth.ports.flatMap (fun e => e.2.tx)) +
    ((bundleTags s).filter (dataTag f)).length + n (s.qde.pairs.flatMap (fun e => e.2.staging)) +
    n (s.cry.decIn ++ s.cry.encIn ++ s.cry.steIn ++ s.qde.rxIn ++ s.tmg.input) +
    n ((s.fabric.chans.filter (fun e => holdsPosted (e.1 / 32))).flatMap (fun e => e.2.carried.filter (fun p => !p.gone)))

/-! ### Drain markers -/

/-- Two markers are copies of one. -/
def sameMarker (a b : Marker) : Bool := a.isSlice == b.isSlice && a.id == b.id && a.version == b.version && a.time == b.time

/-- The units that feed a unit with markers. -/
def feeders (u : Nat) : List Nat := if u ≤ 10 then [0, 1, 2, 3, 4, 5, 6, 7] else if u = 11 ∨ u = 12 then [8, 16] else [8]

/-- A unit's island. -/
def unitIsland (u : Nat) : Nat := if u < 8 then pipeIsland u else ([10, 12, 11, 3, 4, 5, 13, 15, 11] : List Nat).getD (u - 8) 10

/-- The units to which a unit passes a marker on; none for one that reports. -/
def markerNext (u : Nat) : List Nat := if u < 8 then [8, 9, 10] else if u = 8 then [11, 12, 13, 14, 15, 16] else if u = 16 then [11, 12] else []

/-- A marker as a packet of its tagging point or unit (R431). -/
def markerPkt (s : Dev) (m : Marker) : Pkt :=
  let t := ctlTag s 16
  { Pkt.fresh { t with slice := if m.isSlice then BitVec.ofNat 12 m.id else 0, vslot := if m.isSlice then 0 else BitVec.ofNat 3 m.id,
                       flags := 2 } (markerBody m) with marker := some m }

/-- The unit holds the marker from every unit that feeds it. -/
def holdsMarkers (s : Dev) (u : Nat) (m : Marker) : Bool :=
  (feeders u).all (fun v => s.fabric.markers.any (fun e => e.1 == u && e.2.1 == v && sameMarker e.2.2 m))

/-- The unit has passed the marker on, or reported it. -/
def markerPassed (s : Dev) (u : Nat) (m : Marker) : Bool := s.fabric.passed.any (fun e => e.1 == u && sameMarker e.2 m)

/-- The unit passes the marker on over the crossings, or reports it (Table 2-3, steps 3 and 4; Table 5-3, step 2b). -/
def passMarker (u : Nat) (m : Marker) (s : Dev) : Dev :=
  let i := unitIsland u
  let rest := s.fabric.markers.filter (fun e => !(e.1 == u && sameMarker e.2.2 m))
  let s1 := { s with fabric := { s.fabric with markers := rest, passed := s.fabric.passed ++ [(u, m)] } }
  (markerNext u).foldl (fun s v => post i (unitIsland v) { markerPkt s { m with source := i } with pipe := u } s) s1

/-- The marker of a slice's quiesce. -/
def sliceMarker (s : Dev) (sl : Nat) : Marker := ⟨true, sl, 0, (s.slice sl).quiesce.start, 0⟩

/-- The marker of a slot's retirement. -/
def slotMarker (s : Dev) (k : Nat) : Marker := ⟨false, k, (s.slot k).version, (s.slot k).tDrain.getD 0, 0⟩

/-- The marker that a unit holds, of the present retirement of a slot or quiesce of a slice: one left from a sequence that was begun again is not
it (R70). -/
def heldMarker (s : Dev) (u : Nat) (isSlice : Bool) (id : Nat) : Option Marker :=
  let m := if isSlice then sliceMarker s id else slotMarker s id
  (s.fabric.markers.find? (fun e => e.1 == u && sameMarker e.2.2 m)).map (fun e => e.2.2)

/-- The egress units, which report (Table 2-3, step 4). -/
def egressUnits : List Nat := [11, 12, 13, 14, 15, 16]

/-- Every egress unit has reported the marker. -/
def allReported (s : Dev) (m : Marker) : Bool := egressUnits.all (fun u => markerPassed s u m)

/-- The marker is dropped wherever it is held or has been passed. -/
def forgetMarkers (p : Marker → Bool) (s : Dev) : Dev :=
  { s with fabric := { s.fabric with markers := s.fabric.markers.filter (fun e => !p e.2.2), passed := s.fabric.passed.filter (fun e => !p e.2) } }

/-- Every distributor of a tagging point sends a marker (Table 2-3, step 2; Table 5-3, step 2a). -/
def startMarkers (m : Marker) (ds : List Nat) (s : Dev) : Dev :=
  ds.foldl (fun s d => toDistributor d (markerPkt s { m with source := distIsland d }) s) s

end Sys2Proof.Machine
end

