-- ==== Sys2Proof/Machine/QueueCmds.lean ====
section
/-! DEFINITION. The queue commands (R90, R232, R243, R244, R573; Table 6-9). -/
namespace Sys2Proof.Machine

/-- QDE_QSTATE of a queue pair (Table 6-8). -/
def qStateWord (s : Dev) (q : Nat) : W64 :=
  let x := s.qp q
  if !x.valid then 0
  else
    let st := if x.fetchError then 4
      else match (s.slice x.slice).state with
        | .active => 1
        | .halted => 3
        | _ => 2
    mk64 [st, at' (b2n (pressure x)) 3, at' x.typ 4, at' x.k 6, at' (b2n x.exception) 11, at' x.slice 16, at' x.channel 28,
          at' (cachedCount x) 35, at' (heldCount x) 40]

/-- QDE_QINDEX of a queue pair. -/
def qIndexWord (s : Dev) (q : Nat) : W64 := mk64 [(s.qp q).producer, at' (s.qp q).consumer 32]

/-- QDE_QAUX of a queue pair. -/
def qAuxWord (s : Dev) (q : Nat) : W64 := mk64 [(s.qp q).cqConsumer, at' (s.qp q).dbRejects.toNat 32, at' (s.qp q).lastReject 48]

/-- FETCH_TIMEOUT_US: 0 sets 1,000 (R243). -/
def fetchTimeout (n : Nat) : Nat := if n = 0 then 1000 else n

/-- A FETCH_TIMEOUT_US field in range. -/
def fetchTimeoutOk (n : Nat) : Bool := n == 0 || (decide (100 ≤ n) && decide (n ≤ 100000))

/-- A vector of a slice, or 0xFF. -/
def vectorOk (s : Dev) (sl v : Nat) : Bool := v == 255 || decide (v < (s.slice sl).profile.vectors)

/-- The channel of a port with the fewest queue pairs, the lowest on a tie. -/
def fewestChannel (s : Dev) (port : Nat) : Nat :=
  (List.range 32).foldl (fun best k => if (s.qpsOn (32 * port + k)).length < (s.qpsOn (32 * port + best)).length then k else best) 0

def spec0200 : CmdSpec :=
  anyCmd 0x0200 [bits 14 0 ||| bits 20 16 ||| bits 40 24 ||| bits 48 44, anyWord, anyWord, bits 16 0] 8

/-- QUEUE_CREATE (R205, R235, R243, R244). -/
def queueCreate (ch : Nat) (r : Req) (s : Dev) : Dev × Reply :=
  let w := r.word 0
  let sl := fld w 11 0
  let chan := fld w 31 24
  let port := s.slicePort sl
  checks
    [(reaches ch sl, .notPermitted),
     (decide (fld w 13 12 < 3) && decide (4 ≤ fld w 20 16) && decide (fld w 20 16 ≤ 16) && (decide (chan < 32) || chan == 255) &&
        vectorOk s sl (fld w 39 32) && decide (1 ≤ fld w 48 44) && decide (fld w 48 44 ≤ 16) && fld (r.word 1) 11 0 == 0 &&
        fld (r.word 2) 11 0 == 0 && fetchTimeoutOk (fld (r.word 3) 16 0) &&
        (!bit w 14 || (fld w 13 12 == 1 && (s.exceptionQueue sl).isNone)), .badArgument),
     (decide ((s.slice sl).state = .active), .busy),
     (decide ((s.qpsOf sl).length < (s.slice sl).profile.queuePairs), .noResource)]
    (fun s =>
      let q := s.assign ((s.qde.pairs.filter (fun e => e.2.valid)).map (fun e => e.1))
      let x : QueuePair := { QueuePair.none with
        valid := true, slice := sl, typ := fld w 13 12, exception := bit w 14, k := fld w 20 16,
        channel := 32 * port + (if chan = 255 then fewestChannel s port else chan), vector := BitVec.ofNat 8 (fld w 39 32),
        eventAll := bit w 40, prefetch := fld w 48 44, timeoutUs := fetchTimeout (fld (r.word 3) 16 0), workAddr := r.word 1,
        cqAddr := r.word 2 }
      configured spec0200 ch r q (fun s => s.setQp q x) [BitVec.ofNat 64 q] s) s

def cmdQueueCreate (ch : Nat) (r : Req) (s : Dev) : Dev := command spec0200 ch r (queueCreate ch r) s

/-- QUEUE_CREATE (0x0200). -/
def execQueueCreate (ch : Nat) (r : Req) (s : State) : Host.Outcome State Fault Refusal := ran (Wf.queueCreate ch r) (onChannel ch (cmdQueueCreate ch r)) s

/-- Aborts that wait for an entry which will not be fetched any more are answered BUSY (log 72). -/
def dropAborts (q : Nat) (s : Dev) : Dev :=
  let x := s.qp q
  x.aborts.foldl (fun s (_, _, j) => answer j .busy [] s) (s.setQp q { x with aborts := [] })

def spec0201 : CmdSpec := anyCmd 0x0201 [bits 17 0] 0

/-- QUEUE_DESTROY (R243). -/
def queueDestroy (ch : Nat) (r : Req) (s : Dev) : Dev × Reply :=
  let q := fld (r.word 0) 17 0
  let x := s.qp q
  checks
    [(x.valid, .badArgument), (reaches ch x.slice, .notPermitted),
     (decide ((s.slice x.slice).state ≠ .active) || (x.producer == x.consumer && heldCount x == 0), .busy)]
    (configured spec0201 ch r q (fun s => (dropAborts q s).setQp q QueuePair.none) []) s

def cmdQueueDestroy (ch : Nat) (r : Req) (s : Dev) : Dev := command spec0201 ch r (queueDestroy ch r) s

/-- QUEUE_DESTROY (0x0201). -/
def execQueueDestroy (ch : Nat) (r : Req) (s : State) : Host.Outcome State Fault Refusal := ran (Wf.queueDestroy ch r) (onChannel ch (cmdQueueDestroy ch r)) s

def spec0202 : CmdSpec := anyCmd 0x0202 [bits 17 0] 32

/-- QUEUE_QUERY. -/
def queueQuery (ch : Nat) (r : Req) (s : Dev) : Dev × Reply :=
  let q := fld (r.word 0) 17 0
  let x := s.qp q
  checks [(x.valid, .badArgument), (reaches ch x.slice, .notPermitted)]
    (done [qStateWord s q, qIndexWord s q, qAuxWord s q,
           mk64 [x.vector.toNat, at' (b2n x.eventAll) 8, at' x.prefetch 9, at' x.timeoutUs 32]]) s

def cmdQueueQuery (ch : Nat) (r : Req) (s : Dev) : Dev := command spec0202 ch r (queueQuery ch r) s

/-- QUEUE_QUERY (0x0202). -/
def execQueueQuery (ch : Nat) (r : Req) (s : State) : Host.Outcome State Fault Refusal := ran (Wf.queueQuery ch r) (onChannel ch (cmdQueueQuery ch r)) s

def spec0203 : CmdSpec := anyCmd 0x0203 [bits 17 0 ||| bits 40 32 ||| bits 48 44, bits 16 0] 0

/-- QUEUE_MODIFY (R243). -/
def queueModify (ch : Nat) (r : Req) (s : Dev) : Dev × Reply :=
  let w := r.word 0
  let q := fld w 17 0
  let x := s.qp q
  checks
    [(x.valid && vectorOk s x.slice (fld w 39 32) && decide (1 ≤ fld w 48 44) && decide (fld w 48 44 ≤ 16) &&
        fetchTimeoutOk (fld (r.word 1) 16 0), .badArgument),
     (reaches ch x.slice, .notPermitted), (decide ((s.slice x.slice).state = .active), .busy)]
    (configured spec0203 ch r q (fun s => s.setQp q { s.qp q with
      vector := BitVec.ofNat 8 (fld w 39 32), eventAll := bit w 40, prefetch := fld w 48 44,
      timeoutUs := fetchTimeout (fld (r.word 1) 16 0) }) []) s

def cmdQueueModify (ch : Nat) (r : Req) (s : Dev) : Dev := command spec0203 ch r (queueModify ch r) s

/-- QUEUE_MODIFY (0x0203). -/
def execQueueModify (ch : Nat) (r : Req) (s : State) : Host.Outcome State Fault Refusal := ran (Wf.queueModify ch r) (onChannel ch (cmdQueueModify ch r)) s

def spec0204 : CmdSpec := anyCmd 0x0204 [bits 17 0] 0

/-- QUEUE_RESTART: the held record is tried first, then fetching goes on (R233, R573). -/
def queueRestart (ch : Nat) (r : Req) (s : Dev) : Dev × Reply :=
  let q := fld (r.word 0) 17 0
  let x := s.qp q
  checks
    [(x.valid, .badArgument), (reaches ch x.slice, .notPermitted), (decide ((s.slice x.slice).state = .active), .busy),
     (x.fetchError, .alreadyComplete)]
    (fun s => done [] (completionRecordWrite q (s.setQp q { s.qp q with fetchError := false, recordRefused := false, marked := true }))) s

def cmdQueueRestart (ch : Nat) (r : Req) (s : Dev) : Dev := command spec0204 ch r (queueRestart ch r) s

/-- QUEUE_RESTART (0x0204). -/
def execQueueRestart (ch : Nat) (r : Req) (s : State) : Host.Outcome State Fault Refusal := ran (Wf.queueRestart ch r) (onChannel ch (cmdQueueRestart ch r)) s

def spec0205 : CmdSpec := anyCmd 0x0205 [bits 17 0 ||| bits 48 32, bits 31 0] 8

/-- QUEUE_ABORT: the first of the abort and the work's outcome to reach the completion writer is recorded (R85, R232). -/
def queueAbort (ch : Nat) (r : Req) (s : Dev) : Dev × Reply :=
  let q := fld (r.word 0) 17 0
  let e := fld (r.word 0) 48 32
  let seq : BitVec 32 := BitVec.ofNat 32 (fld (r.word 1) 31 0)
  let x := s.qp q
  let item := findItem x e
  checks
    [(x.valid && decide (e < qpMod x) && decide (qpDiff x e x.consumer < outstanding x), .badArgument),
     (item.all (fun i => !WorkItem.fetched i || dSeq i.words == seq), .badArgument),
     (reaches ch x.slice, .notPermitted), (decide ((s.slice x.slice).state = .active), .busy)]
    (fun s =>
      match item.filter WorkItem.fetched with
      | some i =>
        if i.outcome.isSome then fail .alreadyComplete s
        else
          let o := faultOutcome s x i 3
          (issueReady (s.setQp q (onItem x e (setOutcome o))) q, some (.ok, abortWords o))
      | none => (s.setQp q { x with aborts := x.aborts ++ [(e, seq, mkJob spec0205 ch r s)], marked := true }, none)) s

def cmdQueueAbort (ch : Nat) (r : Req) (s : Dev) : Dev := command spec0205 ch r (queueAbort ch r) s

/-- QUEUE_ABORT (0x0205). -/
def execQueueAbort (ch : Nat) (r : Req) (s : State) : Host.Outcome State Fault Refusal := ran (Wf.queueAbort ch r) (onChannel ch (cmdQueueAbort ch r)) s

def spec0230 : CmdSpec := anyCmd 0x0230 [bits 17 0, anyWord, bits 31 0] 16

/-- One entry of QUEUE_RECOVERY_READ's buffer (R90). -/
def recoveryEntry (s : Dev) (x : QueuePair) (i : WorkItem) : List Byte :=
  let o := i.outcome.getD (faultOutcome s x i 0)
  wordsBytes [mk64 [(dSeq i.words).toNat, at' o.progress 32, at' (lo 8 o.frag) 40], mk64 [lo 40 o.bytes]]

/-- QUEUE_RECOVERY_READ (R90): reach, then fields, then the queue pair's state; it changes nothing. -/
def queueRecoveryRead (ch : Nat) (r : Req) (s : Dev) : Dev × Reply :=
  let q := fld (r.word 0) 17 0
  let x := s.qp q
  let es := (x.items.filter WorkItem.fetched).map (recoveryEntry s x)
  checks
    [(!s.isInternal ch && (decide (4096 ≤ ch) || (x.valid && x.slice == ch)), .notPermitted),
     (x.valid && fld (r.word 1) 2 0 == 0 && decide (2048 ≤ fld (r.word 2) 31 0), .badArgument),
     (decide ((s.slice x.slice).state ≠ .active) || x.fetchError, .busy)]
    (toBuffer .notPermitted ch r (r.word 1) es.flatten [mk64 [x.consumer, at' x.producer 32], BitVec.ofNat 64 es.length]) s

def cmdQueueRecoveryRead (ch : Nat) (r : Req) (s : Dev) : Dev := command spec0230 ch r (queueRecoveryRead ch r) s

/-- QUEUE_RECOVERY_READ (0x0230). -/
def execQueueRecoveryRead (ch : Nat) (r : Req) (s : State) : Host.Outcome State Fault Refusal := ran (Wf.queueRecoveryRead ch r) (onChannel ch (cmdQueueRecoveryRead ch r)) s

end Sys2Proof.Machine
end

