-- ==== Sys2Proof/Machine/Slices.lean ====
section
/-! DEFINITION. Quiesce, forced quiesce, slice reset and destruction (R183 to R194; Table 5-3). -/
namespace Sys2Proof.Machine

/-- Slices that exist, slice 0 among them. -/
def Dev.sliceList (s : Dev) : List Nat := 0 :: ((s.slices.slices.map Prod.fst).filter (fun n => n != 0 && decide ((s.slice n).state ≠ .free)))

/-- Threads of a slice's groups. -/
def sliceThreads (s : Dev) (sl : Nat) : List Nat :=
  (s.groupList.filter (fun e => e.2.slice == sl)).flatMap (fun e => e.2.threads ++ e.2.leaving)

/-- Changes the record of a slice's quiesce. -/
def onQuiesce (sl : Nat) (f : Quiesce → Quiesce) (s : Dev) : Dev :=
  s.setSlice sl { s.slice sl with quiesce := f (s.slice sl).quiesce }

/-- QDE sends its marker once every send in progress has passed its last frame to a pipeline (Table 5-3, step 2a). -/
def qdeMarker (sl : Nat) (s : Dev) : Dev :=
  let z := (s.slice sl).quiesce
  let sending := (s.qpsOf sl).any (fun q => (s.qp q).typ == 0 && (s.qp q).items.any (fun i => i.started && i.outcome.isNone))
  if z.step = 2 ∧ z.qdeMarked = false ∧ sending = false then
    startMarkers (sliceMarker s sl) [3] (onQuiesce sl (fun z => { z with qdeMarked := true }) s)
  else s

/-- Forced quiesce: in place of what remains of steps 2 and 3, packets are discarded and work in progress ends with its progress
(R187, R188). -/
def forceQuiesce (sl : Nat) (s : Dev) : Dev :=
  let f := fun (t : Tag) => t.slice.toNat == sl
  let z := (s.slice sl).quiesce
  if z.forced then s
  else
    let early := decide (z.step < 4)
    let n := if early then discardCount s f else 0
    let s1 := onQuiesce sl (fun z => { z with forced := true, discarded := z.discarded + n }) s
    let s2 := count .slcForced 0 (enterState sl .forcing s1)
    whenB early (fun s => endWork sl 4 (fun i => i.started) (discardAll .slcForcedDiscard f s)) s2

/-- A quiesce begins: step 1, and step 2a but for QDE's marker; with FORCE, FORCING follows step 1 (R186, R188; Table 5-3). -/
def beginQuiesce (sl : Nat) (why : QuiesceWhy) (force : Bool) (ms : Nat) (job : Option Job) (s : Dev) : Dev :=
  let x := s.slice sl
  let z : Quiesce := { Quiesce.none with
    why := why, step := 2, start := s.now, timeoutMs := if ms = 0 then x.profile.quiesceMs else ms, job := job, before := x.state }
  let s1 := enterState sl .quiescing (s.setSlice sl { x with quiesce := z })
  let s2 := (sliceThreads s1 sl).foldl (fun s t => latch t 0x200 s) (count .slcQuiesces 0 (dropStaged sl s1))
  let s3 := qdeMarker sl (startMarkers (sliceMarker s2 sl) [0, 1, 2, 4, 5, 6, 7] s2)
  whenB force (forceQuiesce sl) s3

/-- A unit passes a slice marker on or reports it (Table 5-3, step 2b). -/
def sliceDrainPass (u sl : Nat) (s0 : Dev) : Dev :=
  let s := qdeMarker sl s0
  match heldMarker s u true sl with
  | some m => if holdsMarkers s u m && unitClear s u (fun t => t.slice.toNat == sl) then passMarker u m s else s
  | none => s

/-- SLICE_DRAIN_MARKER_PASS (R186). -/
def execSliceDrainMarkerPass (unit sl : Nat) (s : State) : Host.Outcome State Fault Refusal := ran (Wf.sliceDrainMarkerPass unit sl) (sliceDrainPass unit sl) s

/-- Records at the front of the holding area go to the ring while they can (R228). -/
def flushRecords (q : Nat) : Nat → Dev → Dev
  | 0, s => s
  | n + 1, s =>
    if (recordReady (s.qp q)).isSome then
      let s1 := completionRecordWrite q s
      if (s1.qp q).items.length < (s.qp q).items.length then flushRecords q n s1 else s1
    else s

/-- The records of a slice's queues go to their rings while they can. -/
def flushSlice (sl : Nat) (s : Dev) : Dev := (s.qpsOf sl).foldl (fun s q => flushRecords q (s.qp q).items.length s) s

/-- Step 4: vectors with pending events are withdrawn (R194). -/
def withdrawVectors (sl : Nat) (s : Dev) : Dev :=
  let vs := (List.range 64).filter (fun v => decide (0 < (s.vec sl v).pending))
  let mask : W64 := BitVec.ofNat 64 ((vs.map (fun v => 2 ^ v)).sum)
  let s1 := vs.foldl (fun s v => s.setVec sl v { s.vec sl v with pending := 0 }) s
  countBy .ieuWithdrawn 0 vs.length (onQuiesce sl (fun z => { z with withdrawn := mask }) s1)

/-- Steps 2 and 3 are done: every egress unit has reported, and nothing that was started is unfinished. -/
def quiesceSettled (s : Dev) (sl : Nat) : Bool :=
  allReported s (sliceMarker s sl) && unfinished s sl (fun i => i.started) == 0

/-- Steps 4 and 5, and the start of step 6. -/
def withdrawAndFlush (sl : Nat) (s : Dev) : Dev :=
  let s1 := withdrawVectors sl (flushSlice sl s)
  let s2 := (s1.qpsOf sl).foldl (fun s q => dropAborts q s) (endWork sl 4 (fun i => !i.started) s1)
  flushSlice sl (onQuiesce sl (fun z => { z with step := 6 }) s2)

/-- The words of a quiesce report (R200). -/
def quiesceReport (s : Dev) (sl final : Nat) : List W64 :=
  let z := (s.slice sl).quiesce
  [mk64 [final, at' (b2n z.forced) 4, at' (b2n z.haltSeen) 5, at' (b2n z.hostLost) 6], z.withdrawn,
   mk64 [lo 32 z.faultCompletions, at' (lo 32 z.discarded) 32], BitVec.ofNat 64 (lo 32 (Time.since s.now z.start / 1000))]

/-- Every vector of the slice is masked (R190). -/
def maskVectors (sl : Nat) (s : Dev) : Dev := (List.range 64).foldl (fun s v => s.setVec sl v { s.vec sl v with mask := true }) s

/-- Vectors are masked, and coalescing and the event map return to their reset values (R190). -/
def resetSettings (sl : Nat) (s : Dev) : Dev :=
  let s1 := (List.range 64).foldl (fun s v => s.setVec sl v { s.vec sl v with mask := true, countMax := 1, delayUs := 0 }) s
  s1.setSlice sl { s1.slice sl with evMailbox := 255, evState := 255, evPressure := 255, evKeyLost := 255 }

/-- The command that resets the slice came on its own channel (R191). -/
def selfReset (s : Dev) (sl : Nat) : Option Job := (s.slice sl).quiesce.job.filter (fun j => j.ch == sl)

/-- The slice's channel is reset; a request that resets its own slice is answered on the fresh channel, unless the response timer has answered it
already (R155, R190, R191). -/
def resetOwnChan (sl : Nat) (s : Dev) : Dev :=
  let c := s.chan sl
  let s1 := resetChan sl s
  match selfReset s sl with
  | some j =>
    let c1 := { s1.chan sl with running := [j.no] }
    s1.setChan sl (if c.executing ∧ c.current = some ⟨j.no, j.opcode, j.seq⟩ then
      { c1 with executing := true, current := c.current, deadline := c.deadline } else c1)
  | none => s1

/-- Step 7, the slice reset (R190): its fault code and count among it. `settings`: coalescing and the event map return to their reset values,
which needs their record; else the vectors are masked alone. -/
def resetSlice (sl : Nat) (settings : Bool) (s : Dev) : Dev :=
  let s1 := (s.qpsOf sl).foldl (fun s q => s.setQp q QueuePair.none) s
  let s2 := resetOwnChan sl (resetSliceThreads sl (if settings then resetSettings sl s1 else maskVectors sl s1))
  let d : W64 := mk64 [sl, at' (b2n (s.slice sl).quiesce.forced) 12]
  count .slcResets 0 (logFault isl.QDE 0xFF 0x0203 0 d 0 s2)

/-- What a destroyed slice holds leaves its units: groups, scheduler nodes, queues and meters, SAs with their bindings, sessions and storage
keys, interrupt vectors (R192, R343, R404, R462, R478). -/
def dropHoldings (sl : Nat) (s : Dev) : Dev :=
  let s1 := dropTmgSlice sl (removeSliceGroups sl s)
  let c := s1.cry
  let mine := fun (n : Nat) => match SMap.get none c.sas n with
    | some x => saOwner x == sl
    | none => false
  let s2 := { s1 with cry := { c with
    sas := c.sas.filter (fun e => !mine e.1),
    bindings := c.bindings.filter (fun e => !(e.2.elim false mine)),
    cache := c.cache.filter (fun n => !mine n),
    sessions := c.sessions.filter (fun e => (SMap.get Conn.closed c.conns e.1).slice != sl),
    conns := c.conns.filter (fun e => e.2.slice != sl),
    keys := c.keys.filter (fun e => decide (e.1 / 4 ≠ sl)) } }
  { s2 with slices := { s2.slices with vecs := s2.slices.vecs.filter (fun e => decide (e.1 / 64 ≠ sl)) } }

/-- The slice becomes FREE, and the command that destroyed it is answered (R192, R200). -/
def sliceFreed (sl : Nat) (s : Dev) : Dev :=
  let ws := quiesceReport s sl 0
  let s1 := s.setSlice sl Slice.free
  match (s.slice sl).quiesce.job with
  | some j => answer j .ok ws s1
  | none => s1

/-- The slice reset is done: the slice is ACTIVE, or destroyed; its record goes to the journal (R190, R192, R195). When the journal cannot take the
record of a reset, the settings that it would have returned stand, and the command ends NO_RESOURCE (R79, R195; log 73). -/
def resetDone (sl : Nat) (s : Dev) : Dev :=
  let fits := decide ((s.slice sl).quiesce.why = .destroy) || Jnl.takes s.jnl 6 (recLines 32)
  let s1 := resetSlice sl fits s
  let z := (s1.slice sl).quiesce
  let ch := z.job.elim 4096 Job.ch
  if z.why = .destroy then
    let s2 := dropHoldings sl s1
    (jTake 6 sl 32 (.config 0x0105 ch [BitVec.ofNat 64 sl]) (.sliceDone sl) s2).getD (sliceFreed sl s2)
  else
    let s2 := enterState sl .active (onQuiesce sl (fun z => { z with step := 0, job := none }) s1)
    let ws := quiesceReport s1 sl 1
    let s3 := sliceEvent sl (s2.slice sl).evState s2
    let rec' : JBody := .config 0x0104 ch [BitVec.ofNat 64 sl]
    match z.job with
    | some j => (jTake 6 sl 32 rec' (.answer j .ok ws) s3).getD (answer j .noResource [] (jnlRefused (recLines 32) s3))
    | none => jPut 6 sl 32 rec' .nothing s3

/-- A slice in RESETTING is reset once no request of its channel executes, a timed-out one among them, that of its own reset apart (R141, R155,
R191). -/
def tryReset (sl : Nat) (s : Dev) : Dev :=
  if (s.slice sl).state ≠ .resetting ∨ (s.slice sl).quiesce.step ≠ 7 then s
  else if (s.chan sl).running.any (fun n => (selfReset s sl).all (fun j => j.no != n)) then s
  else resetDone sl (onQuiesce sl (fun z => { z with step := 8 }) s)

/-- The slice goes to RESETTING. -/
def startReset (sl : Nat) (s : Dev) : Dev := tryReset sl (enterState sl .resetting (onQuiesce sl (fun z => { z with step := 7 }) s))

/-- Slice 0, QUIESCED by the loss of its link, is reset once the link carries requests again (R189). -/
def sliceZeroReturn (s : Dev) : Dev :=
  let x := s.slice 0
  if x.state = .quiesced ∧ x.quiesce.hostLost ∧ s.mgt.deviceReset.isNone ∧ s.linkUsable s.mgrPort x.half then
    startReset 0 (onQuiesce 0 (fun z => { z with why := .reset, forced := false }) s)
  else s

/-- The slice that the record of a slice command of Table 5-6 is about. -/
def recordSlice (r : JRec) : Option Nat :=
  match r.body with
  | .config op _ _ =>
    if (0x0100 ≤ op ∧ op ≤ 0x0105) ∨ op = 0x0112 then some r.subject else if op = 0x0110 ∨ op = 0x0111 then some (r.subject / 64) else none
  | _ => none

/-- A slice command of Table 5-6 acts on the slice: its response is not yet written (R181). -/
def sliceBusy (s : Dev) (sl : Nat) : Bool :=
  let acts := fun (r : JRec) => recordSlice r == some sl
  (s.slice sl).quiesce.job.isSome || s.jnl.inflight.any acts

/-- DEVICE_RESET goes on (R162): slices on which no command acts are quiesced; once every slice is FREE or QUIESCED its response is
written. -/
def deviceResetGo (s : Dev) : Dev :=
  match s.mgt.deviceReset with
  | some (j, none) =>
    let todo := s.sliceList.filter (fun n => (decide ((s.slice n).state = .active) || decide ((s.slice n).state = .halted)) && !sliceBusy s n)
    let s1 := todo.foldl (fun s n => beginQuiesce n .deviceReset false 0 none s) s
    if s1.sliceList.all (fun n => decide ((s1.slice n).state = .quiesced) && !sliceBusy s1 n) then
      answer j .ok [] { s1 with mgt := { s1.mgt with deviceReset := some (j, some s1.now) } }
    else s1
  | _ => s

/-- Step 6 is done: the quiesce ends, or the reset follows (Table 5-2). -/
def quiesceEnd (sl : Nat) (s : Dev) : Dev :=
  let s1 := forgetMarkers (fun m => m.isSlice && m.id == sl) s
  let z := (s1.slice sl).quiesce
  if z.why = .reset ∨ z.why = .destroy then startReset sl s1
  else
    let s2 := enterState sl .quiesced (onQuiesce sl (fun z => { z with step := 0, job := none }) s1)
    let s3 := match z.job with
      | some j => answer j .ok (quiesceReport s1 sl 4) s2
      | none => s2
    let s4 := whenB (z.why == .portLoss) (fun s => msixSignal s.mgrPort 2 s) s3
    if sl = 0 then sliceZeroReturn s4 else s4

/-- QUIESCE_DRAINED: steps 4 and 5 once steps 2 and 3 are done or forced, the end once the slice's nodes have left arbitration, and a
reset that waited for its channel. -/
def quiesceDrained (sl : Nat) (s : Dev) : Dev :=
  let x := s.slice sl
  if x.state = .resetting then deviceResetGo (tryReset sl s)
  else if x.state = .quiescing ∨ x.state = .forcing then
    if x.quiesce.step < 4 then
      if x.state = .forcing ∨ quiesceSettled s sl then withdrawAndFlush sl s else s
    else if s.tmg.out.contains sl then deviceResetGo (quiesceEnd sl s)
    else s
  else s

/-- QUIESCE_DRAINED (R186). -/
def execQuiesceDrained (sl : Nat) (s : State) : Host.Outcome State Fault Refusal := ran (Wf.quiesceDrained sl) (quiesceDrained sl) s

/-- The quiesce timer runs out before step 6 is done (R187). -/
def quiesceTimeout (sl : Nat) (s0 : Dev) : Dev :=
  let x := s0.slice sl
  if x.state = .quiescing then
    let s := reach (Time.plus x.quiesce.start (x.quiesce.timeoutMs * 1000000)) s0
    forceQuiesce sl (logFault isl.QDE 0xFF 0x0201 0 (mk64 [sl, at' x.quiesce.step 12]) 0 s)
  else s0

/-- QUIESCE_TIMEOUT (R187). -/
def execQuiesceTimeout (sl : Nat) (s : State) : Host.Outcome State Fault Refusal := ran (Wf.quiesceTimeout sl) (quiesceTimeout sl) s

/-- A slice loses its port (R189). -/
def hostLost (p sl : Nat) (s : Dev) : Dev :=
  let x := s.slice sl
  if x.state = .free ∨ x.state = .quiesced ∨ x.state = .resetting then s
  else
    let s1 := whenB (decide (x.state = .active) || decide (x.state = .halted)) (beginQuiesce sl .portLoss false 0 none) s
    let s2 := forceQuiesce sl (onQuiesce sl (fun z => { z with hostLost := true }) s1)
    msixSignal s2.mgrPort 2 (logFault isl.QDE 0xFF 0x0204 0 (mk64 [sl, at' p 12]) 0 s2)

/-- The link of a port, or of one half of a bifurcated port, is lost to the slices that it serves (R96, R98, R189). -/
def portLost (p : Nat) (half : Bool) (s : Dev) : Dev :=
  let mine := s.sliceList.filter (fun n => s.slicePort n == p && (!(s.port p).bifurcated || (s.slice n).half == half))
  mine.foldl (fun s n => hostLost p n s) s

end Sys2Proof.Machine
end

