-- ==== Sys2Proof/Machine/StorageEvents.lean ====
section
/-! DEFINITION. Events of the storage engine's connections and cipher (R469, R471 to R473, R476). -/
namespace Sys2Proof.Machine

/-- Numbers of the connections that are open. -/
def Dev.openConns (s : Dev) : List Nat := (s.cry.conns.filter (fun (_, x) => decide (x.state ≠ .closed))).map (fun e => e.1)

/-- The open connection of a frame that a STORAGE action brought: the one it names, or the one that STE finds (R471). -/
def connOf (p : Pkt) (s : Dev) : Option Nat :=
  let c := match p.dest with
    | .storage (some c) => some c
    | _ => Config.connLookup p.tag.slice.toNat p.bytes s.openConns
  c.filter (fun c => s.openConns.contains c && (s.conn c).slice == p.tag.slice.toNat)

/-- RST or FIN from the target: a closing connection's FIN has been exchanged, any other open one fails (R472, Table 13-5). -/
def peerClosed (c : Nat) (s : Dev) : Dev :=
  if (s.conn c).state = .closing then tryClose c (s.setConn c { s.conn c with finDone := true }) else failConn c 0x8001 s

/-- What a segment does to its connection. -/
def segment (c : Nat) (seg : StSegment) (s : Dev) : Dev :=
  let x := s.conn c
  match seg with
  | .ack => s.setConn c { x with unacked := false, retries := 0 }
  | .ready => if x.state = .connecting then s.setConn c { x with state := .ready, unacked := false, retries := 0, aliveAt := s.now } else s
  | .readData cid bs => readData c cid bs s
  | .r2t cid n => sendWriteData c cid n s
  | .completion cid st cqe => nvmeCompletion c cid st cqe s
  | .rst => peerClosed c s
  | .fin => peerClosed c s
  | .bad => failConn c 0x8003 s

/-- STORAGE_SEGMENT_RECEIVE: the frame at the head of STE's input (R471). -/
def segmentReceive (seg : StSegment) (s : Dev) : Dev :=
  match s.cry.steIn with
  | [] => s
  | p :: rest =>
    let s1 := { s with cry := { s.cry with steIn := rest } }
    match connOf p s1 with
    | some c => segment c seg s1
    | none => count .steRxNoConn 0 s1

/-- A frame for a session is processed, or dropped for want of a connection (R471). -/
def execStorageSegmentReceive (seg : StSegment) (s : State) : Host.Outcome State Fault Refusal := ran (Wf.storageSegmentReceive seg) (segmentReceive seg) s

/-- An NVMe completion arrives on a connection (R476). -/
def execNvmeCompletion (conn cid status : Nat) (cqe : List Byte) (s : State) : Host.Outcome State Fault Refusal := ran (Wf.nvmeCompletion conn cid status cqe) (nvmeCompletion conn cid status cqe) s

/-- A connection fails with a transport cause (R473). -/
def execStorageTransportFailure (conn cause : Nat) (s : State) : Host.Outcome State Fault Refusal := ran (Wf.storageTransportFailure conn cause) (failConn conn cause) s

/-- A segment's retransmission timer runs out, not before RTO_MIN_US: it goes again, or TCP_RETRIES have been made and the connection fails (R472). -/
def tcpTimeout (c : Nat) (s0 : Dev) : Dev :=
  if (s0.conn c).unacked then
    let s1 := applyBoundary .retransmission isl.STE s0
    let x := s1.conn c
    let s := reach (x.sentAt + BitVec.ofNat 48 (1000 * s1.regField isl.STE 0x010 17 8)) s1
    if s.regField isl.STE 0x010 3 0 ≤ x.retries then failConn c 0x8002 s
    else sendSegment c 5 [] (s.setConn c { x with retries := x.retries + 1 })
  else s0

/-- A retransmission timer runs out (R472). -/
def execTcpRetransmitTimeout (conn : Nat) (s : State) : Host.Outcome State Fault Refusal := ran (Wf.tcpRetransmitTimeout conn) (tcpTimeout conn) s

/-- KATO_MS of a connection's session. -/
def Dev.connKato (s : Dev) (c : Nat) : Nat :=
  match SMap.get none s.cry.sessions (s.conn c).session with
  | some z => fld (z.words.getD 7 0) 15 0
  | none => 0

/-- Keep Alive on an admin connection that is READY, every KATO / 2 (R471). -/
def keepAlive (conn : Nat) (s : Dev) : Dev :=
  let x := s.conn conn
  if x.admin ∧ x.state = .ready then
    let s1 := reach (x.aliveAt + BitVec.ofNat 48 (500000 * s.connKato conn)) s
    sendSegment conn 3 [] (s1.setConn conn { s1.conn conn with aliveAt := s1.now })
  else s

/-- The command. -/
def execKeepAlive (conn : Nat) (s : State) : Host.Outcome State Fault Refusal := ran (Wf.keepAlive conn) (keepAlive conn) s

/-- 100 ms have passed in CLOSING (R472). -/
def connectionCloseTimeout (conn : Nat) (s : Dev) : Dev :=
  let x := s.conn conn
  if x.state = .closing then tryClose conn ((reach (x.closingAt + 100000000) s).setConn conn { x with finDone := true }) else s

/-- The command. -/
def execConnectionCloseTimeout (conn : Nat) (s : State) : Host.Outcome State Fault Refusal := ran (Wf.connectionCloseTimeout conn) (connectionCloseTimeout conn) s

/-- The ground on which GCM work is refused, in the order of R469. In FAILED the cipher is held off as outside its states. -/
def gcmGround (st : SteState) (len aad iv : Nat) : Option Nat :=
  if st = .service ∨ st = .failed then some 0
  else if 67108864 < len then some 1
  else if 65536 < aad then some 2
  else if iv ≠ 96 then some 3
  else none

/-- GCM work for the storage cipher is done, or refused (R469). -/
def gcmWorkRequest (requester len aad iv : Nat) (s : Dev) : Dev :=
 match gcmGround s.cry.ste len aad iv with
     | some g => logFault isl.STE 0xFF 0x0E03 0 (mk64 [lo 8 requester, at' g 8]) 0 (count .steGcmRefused 0 s)
     | none => s

/-- The command. -/
def execGcmWorkRequest (requester len aad iv : Nat) (s : State) : Host.Outcome State Fault Refusal := ran (Wf.gcmWorkRequest requester len aad iv) (gcmWorkRequest requester len aad iv) s

end Sys2Proof.Machine
end

