-- ==== Sys2Proof/Machine/CryptoCmds.lean ====
section
/-! DEFINITION. The cipher and storage commands (R450 to R481; Table 13-11), and what their registers read (Table 13-10). -/
namespace Sys2Proof.Machine

/-- The request's payload bytes are overwritten with zeros in the host's buffer (R465). -/
def zeroPayload (ch : Nat) (r : Req) (s : Dev) : Dev :=
  let (p, h, pasid) := s.bufPort ch
  if r.host.writeOk then hostWrite p h pasid (r.inline.getD 0 0) (List.replicate r.payloadLen.toNat 0) s else s

/-- The Lamplighter has read the key bytes of this request: it is no repetition, and nothing before its payload turned it away. -/
def keysRead (sp : CmdSpec) (ch : Nat) (r : Req) (s : Dev) : Bool :=
  let open'' : CmdSpec := { sp with masks := [], open' := true }
  r.indirect && (isReplay s sp.opcode ch r).isNone && (cmdCheck s open'' ch r).isNone

/-- A command that carries key bytes: they are zeroed before the response is written (R465). -/
def keyCommand (sp : CmdSpec) (ch : Nat) (r : Req) (body : Dev → Dev × Reply) (s : Dev) : Dev :=
  command sp ch r body (if keysRead sp ch r s then zeroPayload ch r s else s)

/-- Adds a slice to those that have a KEK (R464). -/
def withKek (sl : Nat) (s : Dev) : Dev := if s.cry.keks.contains sl then s else { s with cry := { s.cry with keks := s.cry.keks ++ [sl] } }

/-- A key of the slice is loaded: it is under the slice's KEK. A replayed record whose KEK has been erased leaves the slice in KEY_LOST
(R464, R535). -/
def loadKey (sl : Nat) (s : Dev) : Dev :=
  if s.jnl.replaying.isSome ∧ !s.cry.keks.contains sl then s.setSlice sl { s.slice sl with keyLost := true } else withKek sl s

/-- Keys of the slice may be set: it is not in KEY_LOST, and no erasing alarm is present (R467, R516). Under replay both are judged as
the key is loaded. -/
def keysAllowed (s : Dev) (sl : Nat) : Bool := s.jnl.replaying.isSome || (!(s.slice sl).keyLost && !s.eraseHold)

/-! ### Security associations -/

/-- Queues that are bound to an SA. -/
def saBound (s : Dev) (n : Nat) : Bool := s.cry.bindings.any (fun e => e.2 == some n)

/-- The SA that words 0 to 10 give (Table 13-1); a 128-bit KEY stands in words 7 and 8 (DEDUCED, log 141). -/
def saOf (r : Req) : Sa :=
  let w0 := r.word 0
  let next := (r.word 2).toNat
  let out := bit w0 33
  { w0 := w0, w1 := r.word 1, sci := r.word 3, softLimit := r.word 4,
    salt := BitVec.ofNat 128 ((r.word 5).toNat + (r.word 6).toNat * 2 ^ 64), key := if bit w0 34 then [r.word 7, r.word 8, r.word 9, r.word 10] else [r.word 7, r.word 8],
    seq := if out then next else 0, edge := if out then 0 else next, accepted := [], reserved := next, reserving := false, sinceMark := 0,
    exhausted := false, softReached := false }

/-- The fields are in range (Table 13-1). -/
def saFieldsOk (r : Req) : Bool :=
  let w0 := r.word 0
  let w1 := r.word 1
  let win := fld w1 44 32
  r.indirect && (!bit w0 32 || bit w0 34) && (win == 0 || (decide (64 ≤ win) && decide (win ≤ 4096) && win % 64 == 0)) &&
    (bit w0 32 || !bit w0 33 || decide (14 ≤ fld w1 55 48))

def spec0800 : CmdSpec :=
  anyCmd 0x0800 [bits 45 0, bits 44 0 ||| bits 63 48, anyWord, anyWord, anyWord, anyWord, bits 31 0, anyWord, anyWord, anyWord, anyWord] 0

/-- LCP_SA_SET (R450, R451, R481). -/
def lcpSaSet (ch : Nat) (r : Req) (s : Dev) : Dev × Reply :=
  let n := fld (r.word 0) 19 0
  let owner := fld (r.word 0) 31 20
  let old := s.sa n
  let held := (s.cry.sas.filter (fun e => e.1 != n && e.2.any (fun x => saOwner x == owner))).length
  checks
    [(reaches ch owner && (decide (4096 ≤ ch) || old.all (fun x => saOwner x == owner)), .notPermitted),
     (saFieldsOk r && decide ((s.slice owner).state ≠ .free), .badArgument),
     (keysAllowed s owner, .keyLost),
     (!saBound s n || old.all (fun x => saOutbound x == bit (r.word 0) 33), .busy),
     (decide (held < (s.slice owner).profile.securityAssocs), .noResource)]
    (configured spec0800 ch r n
      (fun s =>
        let s1 := s.setSa n (some (saOf r))
        loadKey owner { s1 with cry := { s1.cry with cache := s1.cry.cache.erase n } }) []) s

def cmdLcpSaSet (ch : Nat) (r : Req) (s : Dev) : Dev := keyCommand spec0800 ch r (lcpSaSet ch r) s

/-- LCP_SA_SET (0x0800). -/
def execLcpSaSet (ch : Nat) (r : Req) (s : State) : Host.Outcome State Fault Refusal := ran (Wf.lcpSaSet ch r) (onChannel ch (cmdLcpSaSet ch r)) s

/-- The channel reaches an SA: a slice channel those of its slice. -/
def reachesSa (s : Dev) (ch n : Nat) : Bool := decide (4096 ≤ ch) || (s.sa n).any (fun x => saOwner x == ch)

def spec0801 : CmdSpec := anyCmd 0x0801 [bits 19 0] 0

/-- LCP_SA_DELETE (R451, R462). -/
def lcpSaDelete (ch : Nat) (r : Req) (s : Dev) : Dev × Reply :=
  let n := fld (r.word 0) 19 0
  checks [((s.sa n).isNone || reachesSa s ch n, .notPermitted), ((s.sa n).isSome, .alreadyComplete), (!saBound s n, .busy)]
    (configured spec0801 ch r n
      (fun s =>
        let s1 := s.setSa n none
        { s1 with cry := { s1.cry with cache := s1.cry.cache.erase n } }) []) s

def cmdLcpSaDelete (ch : Nat) (r : Req) (s : Dev) : Dev := command spec0801 ch r (lcpSaDelete ch r) s

/-- LCP_SA_DELETE (0x0801). -/
def execLcpSaDelete (ch : Nat) (r : Req) (s : State) : Host.Outcome State Fault Refusal := ran (Wf.lcpSaDelete ch r) (onChannel ch (cmdLcpSaDelete ch r)) s

/-- LCP_SA_STATE of an SA (Table 13-10). -/
def saStateWord (s : Dev) (n : Nat) : W64 :=
  match s.sa n with
  | none => mk64 [at' (b2n (saBound s n)) 6]
  | some x => mk64 [1, at' (b2n (saOutbound x)) 1, at' (b2n (saMacsec x)) 2, at' (b2n x.exhausted) 3, at' (b2n (s.saKeyLost x)) 4,
      at' (b2n (s.cry.cache.contains n)) 5, at' (b2n (saBound s n)) 6, at' (b2n x.softReached) 7, at' (saOwner x) 8]

/-- LCP_SA_SEQ of an SA. -/
def saSeqWord (s : Dev) (n : Nat) : W64 := BitVec.ofNat 64 ((s.sa n).elim 0 Sa.seq)

def spec0802 : CmdSpec := anyCmd 0x0802 [bits 19 0] 16

/-- LCP_SA_QUERY. -/
def lcpSaQuery (ch : Nat) (r : Req) (s : Dev) : Dev × Reply :=
  let n := fld (r.word 0) 19 0
  checks [(reachesSa s ch n, .notPermitted)] (done [saStateWord s n, saSeqWord s n]) s

def cmdLcpSaQuery (ch : Nat) (r : Req) (s : Dev) : Dev := command spec0802 ch r (lcpSaQuery ch r) s

/-- LCP_SA_QUERY (0x0802). -/
def execLcpSaQuery (ch : Nat) (r : Req) (s : State) : Host.Outcome State Fault Refusal := ran (Wf.lcpSaQuery ch r) (onChannel ch (cmdLcpSaQuery ch r)) s

def spec0803 : CmdSpec := mgrCmd 0x0803 [bits 36 0] 0

/-- LCP_QUEUE_BIND (R459). -/
def lcpQueueBind (ch : Nat) (r : Req) (s : Dev) : Dev × Reply :=
  let w := r.word 0
  let q := fld w 15 0
  let n := fld w 35 16
  let queueOk := (tqueue s.tmg.cfg q).any (fun x => decide (x.port < 64))
  let saOk := match s.sa n, tqueue s.tmg.cfg q with
    | some x, some y => saOutbound x && (saOwner x == 0 || saOwner x == y.slice)
    | _, _ => false
  checks [(queueOk && (!bit w 36 || saOk), .badArgument)]
    (configured spec0803 ch r q
      (fun s => { s with cry := { s.cry with bindings := SMap.put none s.cry.bindings q (if bit w 36 then some n else none) } }) []) s

def cmdLcpQueueBind (ch : Nat) (r : Req) (s : Dev) : Dev := command spec0803 ch r (lcpQueueBind ch r) s

/-- LCP_QUEUE_BIND (0x0803). -/
def execLcpQueueBind (ch : Nat) (r : Req) (s : State) : Host.Outcome State Fault Refusal := ran (Wf.lcpQueueBind ch r) (onChannel ch (cmdLcpQueueBind ch r)) s

/-! ### Storage -/

/-- A command with ENCRYPT on a key slot is outstanding. -/
def slotInUse (s : Dev) (sl slot : Nat) : Bool :=
  (s.qpsOf sl).any (fun q => (s.qp q).typ == 2 &&
    (s.qp q).items.any (fun i => i.started && i.outcome.isNone && stEncrypt i.words && stSlot i.words == slot))

def spec0810 : CmdSpec :=
  anyCmd 0x0810 [bits 14 0 ||| bits 40 16, anyWord, anyWord, anyWord, anyWord, anyWord, anyWord, anyWord, anyWord, anyWord] 0

/-- STE_KEY_SET (R470). -/
def steKeySet (ch : Nat) (r : Req) (s : Dev) : Dev × Reply :=
  let w := r.word 0
  let sl := fld w 11 0
  let slot := fld w 13 12
  let du := fld w 40 16
  let k : StKey := { key1 := (r.words.drop 2).take 4, key2 := (r.words.drop 6).take 4, duBytes := du, tweakBase := r.word 1 }
  let keyOk := du % 16 == 0 && decide (16 ≤ du) && decide (du ≤ 16777216) && decide (k.key1 ≠ k.key2) && decide (80 ≤ r.payloadLen.toNat)
  checks
    [(reaches ch sl, .notPermitted), (r.indirect && decide ((s.slice sl).state ≠ .free) && (!bit w 14 || keyOk), .badArgument),
     (keysAllowed s sl, .keyLost), (!slotInUse s sl slot, .busy)]
    (configured spec0810 ch r (4 * sl + slot)
      (fun s =>
        let s1 := { s with cry := { s.cry with keys := SMap.put none s.cry.keys (4 * sl + slot) (if bit w 14 then some k else none) } }
        whenB (bit w 14) (loadKey sl) s1) []) s

def cmdSteKeySet (ch : Nat) (r : Req) (s : Dev) : Dev := keyCommand spec0810 ch r (steKeySet ch r) s

/-- STE_KEY_SET (0x0810). -/
def execSteKeySet (ch : Nat) (r : Req) (s : State) : Host.Outcome State Fault Refusal := ran (Wf.steKeySet ch r) (onChannel ch (cmdSteKeySet ch r)) s

/-- The fields of STE_SESSION_OPEN are in range (Table 13-11). -/
def sessionOk (r : Req) : Bool :=
  let io := fld (r.word 0) 18 12
  let mss := fld (r.word 2) 63 48
  let kato := fld (r.word 7) 15 0
  let h := fld (r.word 10) 7 0
  let b := fld (r.word 10) 15 8
  r.indirect && decide (1 ≤ io) && decide (io ≤ 64) && decide (536 ≤ mss) && decide (mss ≤ 9000) && decide (1000 ≤ kato) &&
    decide (kato ≤ 60000) && decide (h ≤ 223) && decide (b ≤ 223) && decide (88 + h + b ≤ r.payloadLen.toNat)

/-- A connection number is free. -/
def connFree (s : Dev) (c : Nat) : Bool := decide ((s.conn c).state = .closed)

/-- The first of the lowest `n` consecutive free connection numbers, `skip` apart. -/
def connRun (s : Dev) (skip n : Nat) : Option Nat :=
  (List.range (16385 - n)).find? (fun a => (List.range n).all (fun i => a + i != skip && connFree s (a + i)))

/-- The admin connection and the first I/O connection of a session to open; under replay those that its record names. -/
def sessionConns (s : Dev) (n : Nat) : Option (Nat × Nat) :=
  match s.jnl.replaying with
  | some k => some (k % 65536, k / 65536)
  | none => ((List.range 16384).find? (connFree s)).bind (fun a => (connRun s a n).map (fun b => (a, b)))

/-- A connection begins: CONNECTING, its handshake sent (R471; Table 13-4). -/
def openConn (sl session : Nat) (admin : Bool) (s : Dev) (c : Nat) : Dev :=
  sendSegment c 0 [] (s.setConn c { Conn.closed with state := .connecting, admin := admin, slice := sl, session := session })

/-- Connections of a slice that are not CLOSED. -/
def connsOf (s : Dev) (sl : Nat) : Nat := (s.cry.conns.filter (fun e => e.2.slice == sl && decide (e.2.state ≠ .closed))).length

def spec0811 : CmdSpec :=
  { anyCmd 0x0811 [bits 48 0, anyWord, anyWord, anyWord, anyWord, anyWord, anyWord, bits 15 0, anyWord, anyWord, bits 15 0] 8 with open' := true }

/-- STE_SESSION_OPEN (R471, R478). -/
def steSessionOpen (ch : Nat) (r : Req) (s : Dev) : Dev × Reply :=
  let w := r.word 0
  let sl := fld w 11 0
  let n := fld w 18 12
  checks
    [(reaches ch sl, .notPermitted), (sessionOk r && decide ((s.slice sl).state ≠ .free), .badArgument),
     (decide (connsOf s sl + n + 1 ≤ (s.slice sl).profile.storageConns) && (sessionConns s n).isSome, .noResource)]
    (fun s =>
      let (a, b) := (sessionConns s n).getD (0, 0)
      configured spec0811 ch r (a + 65536 * b)
        (fun s =>
          let z : Session := { words := r.words, ioConns := n }
          let s1 := { s with cry := { s.cry with sessions := SMap.put none s.cry.sessions a (some z) } }
          ((List.range n).map (fun i => b + i)).foldl (openConn sl a false) (openConn sl a true s1 a))
        [mk64 [a, at' b 16]] s) s

def cmdSteSessionOpen (ch : Nat) (r : Req) (s : Dev) : Dev := command spec0811 ch r (steSessionOpen ch r) s

/-- STE_SESSION_OPEN (0x0811). -/
def execSteSessionOpen (ch : Nat) (r : Req) (s : State) : Host.Outcome State Fault Refusal := ran (Wf.steSessionOpen ch r) (onChannel ch (cmdSteSessionOpen ch r)) s

/-- A connection closes by command: its commands end with cause 0x8005 and its FIN goes out; a FAILED one is CLOSED (Tables 13-4 and 13-5). Under
replay it has been closed long since. -/
def closeConn (s : Dev) (c : Nat) : Dev :=
  let x := s.conn c
  if s.jnl.replaying.isSome then s.setConn c Conn.closed
  else match x.state with
  | .connecting | .ready => tryClose c (sendSegment c 4 [] (let s1 := endConn c 0x8005 s; s1.setConn c { s1.conn c with state := .closing, lastCause := 0x8005, closingAt := s1.now }))
  | .failed => s.setConn c { Conn.closed with lastCause := x.lastCause }
  | _ => s

def spec0812 : CmdSpec := anyCmd 0x0812 [bits 13 0] 0

/-- STE_SESSION_CLOSE (R472). -/
def steSessionClose (ch : Nat) (r : Req) (s : Dev) : Dev × Reply :=
  let a := fld (r.word 0) 13 0
  let z := SMap.get none s.cry.sessions a
  checks [(z.isNone || reaches ch (s.conn a).slice, .notPermitted), (z.isSome, .alreadyComplete)]
    (configured spec0812 ch r a
      (fun s =>
        let s1 := (s.ioConns a ++ [a]).foldl closeConn s
        { s1 with cry := { s1.cry with sessions := SMap.put none s1.cry.sessions a none } }) []) s

def cmdSteSessionClose (ch : Nat) (r : Req) (s : Dev) : Dev := command spec0812 ch r (steSessionClose ch r) s

/-- STE_SESSION_CLOSE (0x0812). -/
def execSteSessionClose (ch : Nat) (r : Req) (s : State) : Host.Outcome State Fault Refusal := ran (Wf.steSessionClose ch r) (onChannel ch (cmdSteSessionClose ch r)) s

/-- STE_CONN_STATE of a connection (Table 13-10). -/
def steConnWord (s : Dev) (c : Nat) : W64 :=
  let x := s.conn c
  if x.state = .closed then mk64 [at' (lo 16 x.lastCause) 48]
  else mk64 [x.state.ctorIdx, at' (b2n x.admin) 3, at' x.slice 4, at' x.session 16, at' (s.connOutstanding c) 30, at' (lo 16 x.lastCause) 48]

def spec0813 : CmdSpec := anyCmd 0x0813 [bits 13 0] 8

/-- STE_CONN_QUERY. -/
def steConnQuery (ch : Nat) (r : Req) (s : Dev) : Dev × Reply :=
  let c := fld (r.word 0) 13 0
  checks [(decide (4096 ≤ ch) || (!connFree s c && (s.conn c).slice == ch), .notPermitted)] (done [steConnWord s c]) s

def cmdSteConnQuery (ch : Nat) (r : Req) (s : Dev) : Dev := command spec0813 ch r (steConnQuery ch r) s

/-- STE_CONN_QUERY (0x0813). -/
def execSteConnQuery (ch : Nat) (r : Req) (s : State) : Host.Outcome State Fault Refusal := ran (Wf.steConnQuery ch r) (onChannel ch (cmdSteConnQuery ch r)) s

/-! ### Rearming and patches -/

/-- A new KEK; the slice's SAs and storage keys are gone, bindings and connections stay (R467). Under replay the KEK is the one that TRU
kept, and an alarm since then has left the slice in KEY_LOST (R464, R535). -/
def rearm (sl : Nat) (s : Dev) : Dev :=
  let mine := fun (e : Nat × Option Sa) => e.2.any (fun x => saOwner x == sl)
  let gone := (s.cry.sas.filter mine).map Prod.fst
  let c := s.cry
  let s1 := { s with cry := { c with
    sas := c.sas.filter (fun e => !mine e), cache := c.cache.filter (fun n => !gone.contains n),
    keys := c.keys.filter (fun e => decide (e.1 / 4 ≠ sl)) } }
  if s.jnl.replaying.isSome then s1.setSlice sl { s1.slice sl with keyLost := !s.cry.keks.contains sl }
  else withKek sl (s1.setSlice sl { s1.slice sl with keyLost := false })

def spec0820 : CmdSpec := mgrCmd 0x0820 [bits 11 0] 0

/-- CRYPTO_SLICE_REARM (R467, R516). -/
def cryptoSliceRearm (ch : Nat) (r : Req) (s : Dev) : Dev × Reply :=
  let sl := fld (r.word 0) 11 0
  let replay := s.jnl.replaying.isSome
  checks [(replay || (s.slice sl).keyLost, .alreadyComplete), (replay || !s.eraseHold, .busy)] (configured spec0820 ch r sl (rearm sl) []) s

def cmdCryptoSliceRearm (ch : Nat) (r : Req) (s : Dev) : Dev := command spec0820 ch r (cryptoSliceRearm ch r) s

/-- CRYPTO_SLICE_REARM (0x0820). -/
def execCryptoSliceRearm (ch : Nat) (r : Req) (s : State) : Host.Outcome State Fault Refusal := ran (Wf.cryptoSliceRearm ch r) (onChannel ch (cmdCryptoSliceRearm ch r)) s

def spec0821 : CmdSpec := { mgrCmd 0x0821 [] 8 with open' := true }

/-- STE_PATCH_STAGE (R479). A patch without INDIRECT is refused. -/
def stePatchStage (ch : Nat) (r : Req) (s : Dev) : Dev × Reply :=
  if !r.indirect then fail .badArgument s
  else
    match Config.patchLevel (wordsBytes r.words) with
    | none => fail .authFailed s
    | some l =>
      checks [(decide (s.cry.patchLevel.toNat < l.toNat), .badArgument)]
        (configured spec0821 ch r 0 (fun s => { s with cry := { s.cry with staged := some l } }) [BitVec.ofNat 64 l.toNat]) s

def cmdStePatchStage (ch : Nat) (r : Req) (s : Dev) : Dev := command spec0821 ch r (stePatchStage ch r) s

/-- STE_PATCH_STAGE (0x0821). -/
def execStePatchStage (ch : Nat) (r : Req) (s : State) : Host.Outcome State Fault Refusal := ran (Wf.stePatchStage ch r) (onChannel ch (cmdStePatchStage ch r)) s

/-! ### Registers (Table 13-10) -/

/-- LCP_STATUS. -/
def lcpStatus (s : Dev) : W64 :=
  mk64 [b2n s.cry.lcpReady, at' (b2n (s.slices.slices.any (fun e => e.2.keyLost))) 1, at' (lo 16 s.cry.cache.length) 16]

/-- STE_STATUS. -/
def steStatus (s : Dev) : W64 :=
  let opens := decide (s.cry.ste = .start) || decide (s.cry.ste = .test) || decide (s.cry.ste = .recovery)
  mk64 [s.cry.ste.ctorIdx, at' (b2n opens) 3, at' (s.cry.conns.filter (fun e => decide (e.2.state = .ready))).length 16]

/-- STE_CS_VERSION. -/
def steCsVersion (s : Dev) : W64 := mk64 [s.cry.imageVersion.toNat, at' s.cry.patchLevel.toNat 32, at' (b2n s.cry.staged.isSome) 40]

end Sys2Proof.Machine
end

