-- ==== Sys2Proof/Machine/Resets.lean ====
section
/-! DEFINITION. What a reset of the device or of a port leaves (R96, R162, R530, R531, R92). -/
namespace Sys2Proof.Machine

/-- The records that count after a reset: the CHECKPOINTs of a compaction that had not ended free nothing, and are left out (R499). -/
def Jnl.kept (j : Jnl) : List JRec :=
  match j.compacting with
  | some n => j.records.take n ++ (j.records.drop n).filter (fun r => decide (r.typ ≠ 9))
  | none => j.records

/-- The highest SEQ found in any line header: a durable record's, that of one which replay left out, or that of the record being written (R498). -/
def Jnl.highest (j : Jnl) : Nat :=
  let begun := match j.inflight with
    | r :: _ => if 0 < r.written then r.seq else 0
    | [] => 0
  Nat.max (Nat.max j.highSeq j.lastDurable) begun

/-- The journal after a reset: durable records stand; the record being written is torn, and SEQ goes on behind its header (R498, R502). -/
def Jnl.afterReset (j : Jnl) : Jnl :=
  let torn := j.torn || j.inflight.head?.any (fun r => decide (0 < r.written))
  { Jnl.reset with
    records := Jnl.kept j, nextSeq := Jnl.highest j + 1, lastDurable := j.lastDurable, highSeq := Jnl.highest j, spare := j.spare,
    retired := j.retired, logLines := j.logLines, wear := j.wear, torn := torn }

/-- MGT after a reset: manager channel 0 is bound to the manager port (R147). -/
def mgtAfterReset (p : Nat) : Mgt := { Mgt.reset with bindings := [(0, ⟨BitVec.ofNat 8 (8 + p), true⟩)] }

/-- Every island except TRU is reset, with the ports and the start-up state that the reset leaves. The journal's memory (the
slices' generations, which its records count, among it), TRU with its KEKs, and a staged patch stay (R479, R496, R512, R464). -/
def resetIslands (ports : SMap HostPort) (boot : Boot) (s : Dev) : Dev :=
  { Dev.reset with
    ports := ports, mgrPort := s.mgrPort, boot := boot, mgt := mgtAfterReset s.mgrPort, jnl := Jnl.afterReset s.jnl, tru := s.tru, mtr := { Mtr.reset with gens := s.mtr.gens },
    cry := { Crypto.reset with keks := s.cry.keks, staged := s.cry.staged, patchLevel := s.cry.patchLevel },
    regs := { RegFile.reset with words := s.regs.words.filter (fun e => decide (e.1 / 2048 = 16)) },
    freeCtr := s.freeCtr, out := (spiBus boot.spiBusy s).out }

/-- A port whose HIF island is reset, its pins as they stand (R92, R100). -/
def portAfterReset (x : HostPort) : HostPort := { HostPort.reset with perst := x.perst, bifurcated := x.bifurcated }

/-- The three ports through `f`. -/
def mapPorts (f : HostPort → HostPort) (s : Dev) : SMap HostPort :=
  [0, 1, 2].foldl (fun m p => SMap.put HostPort.reset m p (f (s.port p))) []

/-- Start-up state that a reset leaves: what the pins hold. -/
def bootAfterReset (b : Boot) : Boot :=
  { Boot.reset with porHeld := b.porHeld, powerFail := b.powerFail, tripped := b.tripped, alert := b.alert, coreMv := b.coreMv, i2cAddr := b.i2cAddr }

/-- A reset through PERST# of the manager port (R531). -/
def fullReset (s : Dev) : Dev := resetIslands (mapPorts portAfterReset s) (bootAfterReset s.boot) s

/-- A link keeps its state and its configuration space; its MSI-X table is its island's (R162, log 74). -/
def linkKept (l : HostLink) : HostLink :=
  { HostLink.reset with
    up := l.up, speed := l.speed, flit := l.flit, width := l.width, d3hot := l.d3hot, timeoutCode := l.timeoutCode,
    msixEnable := l.msixEnable, msixFuncMask := l.msixFuncMask, bars := l.bars }

/-- A port through DEVICE_RESET (R162). -/
def portKept (x : HostPort) : HostPort :=
  { HostPort.reset with
    perst := x.perst, bifurcated := x.bifurcated, rrs := x.rrs, linkA := linkKept x.linkA, linkB := linkKept x.linkB }

/-- A reset by command: start-up resumes at firmware load (R162, R535). -/
def commandReset (s : Dev) : Dev :=
  resetIslands (mapPorts portKept s) { bootAfterReset s.boot with stage := 1, started := some 0, spiBusy := true, warm := true } s

/-- Stage 0 begins once the power-on reset is released and PERST# of the manager port is deasserted, and nothing holds the device (R530,
R562, R565). -/
def tryStart (s : Dev) : Dev :=
  let b := s.boot
  if b.porHeld || b.tripped || b.powerFail || (s.port s.mgrPort).perst || b.started.isSome then s
  else { s with boot := { b with started := some s.now } }

/-- The links of a port go down (R96). -/
def portLinksDown (p : Nat) (s : Dev) : Dev :=
  let s1 := s.setPort p { s.port p with linkA := HostLink.reset, linkB := HostLink.reset, held := none, dbHeld := none, reads := [] }
  whenB (s.port p).bifurcated (portLost p true) (portLost p false s1)

/-- RRS has ended on the device's ports, and does not come back while it starts up after DEVICE_RESET (R100, R162, R533). -/
def rrsOver (s : Dev) : Bool := decide (4 ≤ s.boot.stage) || s.boot.warm

/-- PERST_ASSERT (R96, R531, R562): a reset of the device on the manager port, of the port's links on another. -/
def perstAssert (p : Nat) (s : Dev) : Dev :=
  let s1 := s.setPort p { s.port p with perst := true }
  if (s.port p).perst then s
  else if p = s.mgrPort then fullReset s1
  else portLinksDown p s1

/-- PERST# falls. -/
def execPerstAssert (port : Nat) (s : State) : Host.Outcome State Fault Refusal := ran (Wf.perstAssert port) (perstAssert port) s

/-- PERST_DEASSERT (R92, R100, R101): the strap is sampled. -/
def perstDeassert (p : Nat) (strap : Bool) (s : Dev) : Dev :=
  if (s.port p).perst then
    tryStart (s.setPort p { s.port p with perst := false, bifurcated := strap, rrs := !rrsOver s })
  else s

/-- PERST# rises. -/
def execPerstDeassert (port : Nat) (strap : Bool) (s : State) : Host.Outcome State Fault Refusal := ran (Wf.perstDeassert port strap) (perstDeassert port strap) s

/-- DEVICE_RESET_EXECUTE: once the response has been consumed, or 1 ms after it was written (R162). -/
def deviceResetExecute (s : Dev) : Dev :=
  match s.mgt.deviceReset with
  | some (j, some t) => commandReset (if (s.chan j.ch).empty then s else reach (Time.plus t 1000000) s)
  | _ => s

/-- The reset of DEVICE_RESET. -/
def execDeviceResetExecute (s : State) : Host.Outcome State Fault Refusal := ran Wf.deviceResetExecute deviceResetExecute s

end Sys2Proof.Machine
end

