-- ==== Sys2Proof/Machine/SliceCmds.lean ====
section
/-! DEFINITION. Slice commands and interrupt vectors (R175 to R182, R193 to R200; Table 5-6), and what the slice registers read (Table
5-8). -/
namespace Sys2Proof.Machine

/-! ### Profiles and pools -/

/-- The bits of the profile block (R199). -/
def profileMasks : List W64 :=
  [bits 14 0 ||| bits 22 16 ||| bits 44 32 ||| bits 61 48, bits 16 0 ||| bits 44 32 ||| bits 54 48 ||| bits 59 56, bits 9 0 ||| bits 25 16]

/-- The profile in words 1 to 3 of a request. -/
def profileOf (r : Req) : Profile :=
  let a := r.word 1
  let b := r.word 2
  let c := r.word 3
  { queuePairs := fld a 14 0, vectors := fld a 22 16, schedQueues := fld a 44 32, policers := fld a 61 48, securityAssocs := fld b 16 0,
    storageConns := fld b 44 32, threads := fld b 54 48, threadSlots := fld b 59 56, weight := fld c 9 0, quiesceMs := fld c 25 16 }

/-- The profile block of a profile. -/
def profileWords (p : Profile) : List W64 :=
  [mk64 [p.queuePairs, at' p.vectors 16, at' p.schedQueues 32, at' p.policers 48],
   mk64 [p.securityAssocs, at' p.storageConns 32, at' p.threads 48, at' p.threadSlots 56], mk64 [p.weight, at' p.quiesceMs 16]]

/-- Every field is in its range (Table 5-1). -/
def profileOk (p : Profile) : Bool :=
  decide (p.queuePairs ≤ 16384) && decide (p.vectors ≤ 64) && decide (p.schedQueues ≤ 4096) && decide (p.policers ≤ 8192) &&
    decide (p.securityAssocs ≤ 65536) && decide (p.storageConns ≤ 4096) && decide (p.threads ≤ 64) && decide (1 ≤ p.threadSlots) &&
    decide (p.threadSlots ≤ 8) && decide (1 ≤ p.weight) && decide (p.weight ≤ 1000) && decide (1 ≤ p.quiesceMs) && decide (p.quiesceMs ≤ 1000)

/-- The pools: what a profile takes from each, and its size (Table 5-1). -/
def pools : List ((Profile → Nat) × Nat) :=
  [(Profile.queuePairs, 262144), (Profile.vectors, 65536), (Profile.schedQueues, 65536), (Profile.policers, 131072),
   (Profile.securityAssocs, 1048576), (Profile.storageConns, 16384), (Profile.threads, 512)]

/-- What the slices other than `sl` hold of a resource. -/
def heldByOthers (s : Dev) (sl : Nat) (f : Profile → Nat) : Nat :=
  ((s.sliceList.filter (fun n => n != sl)).map (fun n => f (s.slice n).profile)).sum

/-- Every pool covers the profile for slice `sl` (R175). -/
def poolsCover (s : Dev) (sl : Nat) (p : Profile) : Bool := pools.all (fun e => decide (heldByOthers s sl e.1 + e.1 p ≤ e.2))

/-- What no slice holds of a pool. -/
def poolFree (s : Dev) (f : Profile → Nat) (size : Nat) : Nat := size - (s.sliceList.map (fun n => f (s.slice n).profile)).sum

/-- The highest vector that a queue pair or the event map names, plus one (R177). -/
def vectorsUsed (s : Dev) (sl : Nat) : Nat :=
  let x := s.slice sl
  let named := (s.qpsOf sl).map (fun q => (s.qp q).vector) ++ [x.evMailbox, x.evState, x.evPressure, x.evKeyLost]
  (named.filter (fun v => v != 255)).foldl (fun n v => Nat.max n (v.toNat + 1)) 0

/-- The slice's use of each quota fits the profile (R177). -/
def coversUse (s : Dev) (sl : Nat) (p : Profile) : Bool :=
  let c := s.tmg.cfg
  let meters := metersOf c sl
  let sas := (s.cry.sas.filter (fun e => e.2.any (fun x => saOwner x == sl))).length
  let conns := (s.cry.conns.filter (fun e => e.2.slice == sl && decide (e.2.state ≠ .closed))).length
  decide ((s.qpsOf sl).length ≤ p.queuePairs) && decide (vectorsUsed s sl ≤ p.vectors) &&
    decide ((queuesOfSlice c sl).length ≤ p.schedQueues) && decide (meters ≤ p.policers) && decide (sas ≤ p.securityAssocs) &&
    decide (conns ≤ p.storageConns) && decide (threadsOf s sl ≤ p.threads)

/-- Every core has the entries for the slice's threads at `k` each (R347). -/
def slotsCover (s : Dev) (sl k : Nat) : Bool :=
  let ts := sliceThreads s sl
  (List.range 64).all (fun c =>
    decide (((ts.filter (fun t => t / 8 == c)).map (fun t => k - threadWeight s t)).sum ≤ slotsEmpty s c))

/-- DMA channels that hold descriptors of a slice which are not finished (R177). -/
def heldChannels (s : Dev) (sl : Nat) : List Nat :=
  ((s.qpsOf sl).filter (fun q => (s.qp q).items.any (fun i => i.outcome.isNone))).map (fun q => (s.qp q).channel)

/-- Storage connections that hold commands of a slice, queued ones included (R177). -/
def heldConns (s : Dev) (sl : Nat) : List Nat :=
  (s.cry.conns.filter (fun e => e.2.slice == sl && !e.2.cmds.isEmpty)).map (fun e => e.1) ++
    (s.qpsOf sl).flatMap (fun q => if (s.qp q).typ = 2 then ((s.qp q).items.filter (fun i => i.outcome.isNone && dOpcode i.words != 0)).map (fun i => stConn i.words)
      else [])

/-- A field of the last resize has not taken effect everywhere: on a channel, connection or thread that holds nothing of the slice any more there is
nothing for it to take effect on (R177). -/
def profilePending (s : Dev) (sl : Nat) : Bool :=
  let x := s.slice sl
  x.pendSched || x.pendMem || x.pendSte.any (fun c => (heldConns s sl).contains c) || x.pendDma.any (fun e => (heldChannels s sl).contains e.1) ||
    x.pendThr.any (fun t => (sliceThreads s sl).contains t)

/-! ### Create and resize -/

/-- The word that names a slice, a port, a half and a PASID (Table 5-6). -/
def spec0100 : CmdSpec := mgrCmd 0x0100 ((bits 14 0 ||| bits 39 20) :: profileMasks) 0

/-- The port, half and PASID are bound to an existing slice (R173). -/
def bindingUsed (s : Dev) (port : Nat) (half : Bool) (pasid : BitVec 20) : Bool :=
  s.sliceList.any (fun n => n != 0 && (s.slice n).port == port && (s.slice n).half == half && (s.slice n).pasid == pasid)

/-- SLICE_CREATE (R172, R199, R524, R141). -/
def sliceCreate (ch : Nat) (r : Req) (s : Dev) : Dev × Reply :=
  let w := r.word 0
  let sl := fld w 11 0
  let port := fld w 13 12
  let half := bit w 14
  let pasid : BitVec 20 := BitVec.ofNat 20 (fld w 39 20)
  let p := profileOf r
  let replay := s.jnl.replaying.isSome
  let make := fun (s : Dev) =>
    let x : Slice := { Slice.free with state := .active, port := port, half := half, pasid := pasid, profile := p, changed := s.now }
    let s1 := resetChan sl (s.setSlice sl x)
    if replay then s1 else { s1 with mtr := { s1.mtr with gens := SMap.put 0 s1.mtr.gens sl (SMap.get 0 s1.mtr.gens sl + 1) } }
  checks
    [(profileOk p && sl != 0 && decide (port < 3) && (!half || (s.port port).bifurcated), .badArgument),
     (decide ((s.slice sl).state = .free) && !sliceBusy s sl && s.mgt.deviceReset.isNone &&
        (replay || ((s.port port).link half).up), .busy),
     (!bindingUsed s port half pasid, .badArgument), (poolsCover s sl p, .noResource)]
    (configured spec0100 ch r sl make []) s

def cmdSliceCreate (ch : Nat) (r : Req) (s : Dev) : Dev := command spec0100 ch r (sliceCreate ch r) s

/-- SLICE_CREATE (0x0100). -/
def execSliceCreate (ch : Nat) (r : Req) (s : State) : Host.Outcome State Fault Refusal := ran (Wf.sliceCreate ch r) (onChannel ch (cmdSliceCreate ch r)) s

def spec0101 : CmdSpec := mgrCmd 0x0101 (bits 11 0 :: profileMasks) 0

/-- The profile moves at once; what takes effect later is noted until then (R177; Table 5-1). -/
def setProfile (sl : Nat) (p : Profile) (s : Dev) : Dev :=
  let x := s.slice sl
  let o := x.profile
  let weighs := o.weight != p.weight
  let chans := (heldChannels s sl).eraseDups
  let older := x.pendDma.filter (fun e => chans.contains e.1)
  let ts := sliceThreads s sl
  let busy := fun t => (s.thread t).held.isSome || !(s.thread t).input.isEmpty
  let slotsMove := o.threadSlots != p.threadSlots
  let y := { x with
    profile := p, pendSched := x.pendSched || weighs || o.schedQueues != p.schedQueues || o.policers != p.policers,
    pendMem := x.pendMem || weighs, pendSte := if weighs then (heldConns s sl).eraseDups else x.pendSte,
    pendDma := if weighs then older ++ (chans.filter (fun c => !older.any (fun e => e.1 == c))).map (fun c => (c, o.weight)) else x.pendDma,
    pendThr := if slotsMove || o.threads != p.threads then (x.pendThr ++ ts.filter busy).eraseDups else x.pendThr }
  let s1 := s.setSlice sl y
  let s2 := if slotsMove then (ts.filter (fun t => !busy t)).foldl (fun s t => reslot t s) s1 else s1
  ((List.range 64).filter (fun v => decide (p.vectors ≤ v))).foldl (fun s v => s.setVec sl v { s.vec sl v with address := 0, data := 0 }) s2

/-- SLICE_RESIZE, its checks in the order of R177. Under replay the use that the command found is not held against it again (R178). -/
def sliceResize (ch : Nat) (r : Req) (s : Dev) : Dev × Reply :=
  let sl := fld (r.word 0) 11 0
  let x := s.slice sl
  let p := profileOf r
  let (s1, a) := checks
    [(decide (x.state ≠ .free) && profileOk p, .badArgument),
     (decide (x.state ≠ .quiescing) && decide (x.state ≠ .forcing) && decide (x.state ≠ .resetting) && (s.jnl.replaying.isSome || coversUse s sl p) &&
        !sliceBusy s sl && s.mgt.deviceReset.isNone, .busy),
     (poolsCover s sl p && (decide (p.threadSlots ≤ x.profile.threadSlots) || slotsCover s sl p.threadSlots), .noResource)]
    (configured spec0101 ch r sl (setProfile sl p) []) s
  match a with
  | some (.ok, _) => (s1, a)
  | some _ => (count .slcResizeReject 0 s1, a)
  | none => (s1, a)

/-- A request that the checks before its own part turn away changes nothing either (R204). -/
def resizeTurned (ch : Nat) (r : Req) (s : Dev) : Bool :=
  (isReplay s 0x0101 ch r).isNone && (cmdCheck (takeRequest ch 0x0101 r.seq s) spec0101 ch r).isSome

def cmdSliceResize (ch : Nat) (r : Req) (s : Dev) : Dev :=
  whenB (resizeTurned ch r s) (count .slcResizeReject 0) (command spec0101 ch r (sliceResize ch r) s)

/-- SLICE_RESIZE (0x0101). -/
def execSliceResize (ch : Nat) (r : Req) (s : State) : Host.Outcome State Fault Refusal := ran (Wf.sliceResize ch r) (onChannel ch (cmdSliceResize ch r)) s

/-! ### Query, quiesce, reset, destroy -/

/-- The step that reads show. -/
def quiesceStep (x : Slice) : Nat := Nat.min 7 x.quiesce.step

def spec0102 : CmdSpec := anyCmd 0x0102 [bits 11 0] 48

/-- SLICE_QUERY (Table 5-6). -/
def sliceQuery (ch : Nat) (r : Req) (s : Dev) : Dev × Reply :=
  let sl := fld (r.word 0) 11 0
  let x := s.slice sl
  let w0 := mk64 [x.state.ctorIdx, at' (quiesceStep x) 4, at' (s.slicePort sl) 8, at' (b2n x.half) 10, at' (b2n (profilePending s sl)) 11,
    at' (b2n x.quiesce.haltSeen) 12, at' (b2n x.quiesce.hostLost) 13, at' x.pasid.toNat 20]
  checks [(reaches ch sl, .notPermitted), (decide (x.state ≠ .free), .badArgument)]
    (done ([w0] ++ profileWords x.profile ++ [x.quiesce.withdrawn, BitVec.ofNat 64 x.changed.toNat])) s

def cmdSliceQuery (ch : Nat) (r : Req) (s : Dev) : Dev := command spec0102 ch r (sliceQuery ch r) s

/-- SLICE_QUERY (0x0102). -/
def execSliceQuery (ch : Nat) (r : Req) (s : State) : Host.Outcome State Fault Refusal := ran (Wf.sliceQuery ch r) (onChannel ch (cmdSliceQuery ch r)) s

/-- Word 0 of SLICE_QUIESCE, SLICE_RESET and SLICE_DESTROY. -/
def quiesceMask : W64 := bits 12 0 ||| bits 25 16

/-- No command, quiesce or reset runs on the slice, and the device is not being reset (R162, R181). -/
def sliceIdle (s : Dev) (sl : Nat) : Bool :=
  let st := (s.slice sl).state
  !sliceBusy s sl && s.mgt.deviceReset.isNone && (decide (st = .active) || decide (st = .halted) || decide (st = .quiesced))

def spec0103 : CmdSpec := mgrCmd 0x0103 [quiesceMask] 32

/-- SLICE_QUIESCE (R186, R188; Table 5-6). -/
def sliceQuiesce (ch : Nat) (r : Req) (s : Dev) : Dev × Reply :=
  let w := r.word 0
  let sl := fld w 11 0
  let x := s.slice sl
  checks
    [(sl != 0 && decide (x.state ≠ .free) && decide (fld w 25 16 ≤ 1000), .badArgument), (sliceIdle s sl, .busy),
     (decide (x.state ≠ .quiesced), .alreadyComplete)]
    (fun s => (beginQuiesce sl .quiesce (bit w 12) (fld w 25 16) (some (mkJob spec0103 ch r s)) s, none)) s

def cmdSliceQuiesce (ch : Nat) (r : Req) (s : Dev) : Dev := command spec0103 ch r (sliceQuiesce ch r) s

/-- SLICE_QUIESCE (0x0103). -/
def execSliceQuiesce (ch : Nat) (r : Req) (s : State) : Host.Outcome State Fault Refusal := ran (Wf.sliceQuiesce ch r) (onChannel ch (cmdSliceQuiesce ch r)) s

/-- A reset or destroy of a slice begins: with its quiesce, or at step 7 where the slice is QUIESCED (Table 5-2). -/
def beginReset (sl : Nat) (why : QuiesceWhy) (w : W64) (j : Job) (s : Dev) : Dev :=
  if (s.slice sl).state = .quiesced then
    startReset sl (onQuiesce sl (fun z => { z with
      why := why, job := some j, before := .quiesced, forced := false, haltSeen := false, hostLost := false, start := s.now, faultCompletions := 0,
      discarded := 0 }) s)
  else beginQuiesce sl why (bit w 12) (fld w 25 16) (some j) s

/-- A reset or destroy begins where the journal can take its record (R79, R190, R192, R500). -/
def resetOrRefuse (sl : Nat) (why : QuiesceWhy) (w : W64) (j : Job) (s : Dev) : Dev × Reply :=
  if Jnl.takes s.jnl 6 (recLines 32) then (beginReset sl why w j s, none) else refuseRecord (recLines 32) s

def spec0104 : CmdSpec := anyCmd 0x0104 [quiesceMask] 32

/-- SLICE_RESET (R190, R191). -/
def sliceReset (ch : Nat) (r : Req) (s : Dev) : Dev × Reply :=
  let w := r.word 0
  let sl := fld w 11 0
  checks
    [(reaches ch sl && sl != 0, .notPermitted), (decide ((s.slice sl).state ≠ .free) && decide (fld w 25 16 ≤ 1000), .badArgument),
     (sliceIdle s sl, .busy)]
    (resetOrRefuse sl .reset w (mkJob spec0104 ch r s)) s

def cmdSliceReset (ch : Nat) (r : Req) (s : Dev) : Dev := command spec0104 ch r (sliceReset ch r) s

/-- SLICE_RESET (0x0104). -/
def execSliceReset (ch : Nat) (r : Req) (s : State) : Host.Outcome State Fault Refusal := ran (Wf.sliceReset ch r) (onChannel ch (cmdSliceReset ch r)) s

def spec0105 : CmdSpec := mgrCmd 0x0105 [quiesceMask] 32

/-- SLICE_DESTROY (R192). The journal must be able to take its record (R79). -/
def sliceDestroy (ch : Nat) (r : Req) (s : Dev) : Dev × Reply :=
  let w := r.word 0
  let sl := fld w 11 0
  checks
    [(sl != 0, .notPermitted), (decide ((s.slice sl).state ≠ .free) && decide (fld w 25 16 ≤ 1000), .badArgument), (sliceIdle s sl, .busy)]
    (resetOrRefuse sl .destroy w (mkJob spec0105 ch r s)) s

def cmdSliceDestroy (ch : Nat) (r : Req) (s : Dev) : Dev := command spec0105 ch r (sliceDestroy ch r) s

/-- SLICE_DESTROY (0x0105). -/
def execSliceDestroy (ch : Nat) (r : Req) (s : State) : Host.Outcome State Fault Refusal := ran (Wf.sliceDestroy ch r) (onChannel ch (cmdSliceDestroy ch r)) s

/-! ### Vectors -/

def spec0110 : CmdSpec := mgrCmd 0x0110 [bits 11 0 ||| bits 21 16, anyWord, bits 31 0] 0

/-- VECTOR_SET (R195). -/
def vectorSet (ch : Nat) (r : Req) (s : Dev) : Dev × Reply :=
  let sl := fld (r.word 0) 11 0
  let v := fld (r.word 0) 21 16
  checks [(decide (v < (s.slice sl).profile.vectors) && fld (r.word 1) 1 0 == 0, .badArgument),
      (!sliceBusy s sl && s.mgt.deviceReset.isNone, .busy)]
    (configured spec0110 ch r (64 * sl + v)
      (fun s => vecTry sl v (s.setVec sl v { s.vec sl v with address := r.word 1, data := BitVec.ofNat 32 (fld (r.word 2) 31 0) })) []) s

def cmdVectorSet (ch : Nat) (r : Req) (s : Dev) : Dev := command spec0110 ch r (vectorSet ch r) s

/-- VECTOR_SET (0x0110). -/
def execVectorSet (ch : Nat) (r : Req) (s : State) : Host.Outcome State Fault Refusal := ran (Wf.vectorSet ch r) (onChannel ch (cmdVectorSet ch r)) s

def spec0111 : CmdSpec := anyCmd 0x0111 [bits 11 0 ||| bits 21 16 ||| bits 40 32 ||| bits 57 48] 0

/-- VECTOR_COALESCE (R193, R195). -/
def vectorCoalesce (ch : Nat) (r : Req) (s : Dev) : Dev × Reply :=
  let w := r.word 0
  let sl := fld w 11 0
  let v := fld w 21 16
  checks
    [(reaches ch sl, .notPermitted), (decide (v < (s.slice sl).profile.vectors) && decide (1 ≤ fld w 40 32) && decide (fld w 40 32 ≤ 256), .badArgument),
     (!sliceBusy s sl && s.mgt.deviceReset.isNone, .busy)]
    (configured spec0111 ch r (64 * sl + v)
      (fun s => vecTry sl v (s.setVec sl v { s.vec sl v with countMax := fld w 40 32, delayUs := fld w 57 48 })) []) s

def cmdVectorCoalesce (ch : Nat) (r : Req) (s : Dev) : Dev := command spec0111 ch r (vectorCoalesce ch r) s

/-- VECTOR_COALESCE (0x0111). -/
def execVectorCoalesce (ch : Nat) (r : Req) (s : State) : Host.Outcome State Fault Refusal := ran (Wf.vectorCoalesce ch r) (onChannel ch (cmdVectorCoalesce ch r)) s

def spec0112 : CmdSpec := anyCmd 0x0112 [bits 11 0, bits 31 0] 0

/-- EVENT_MAP (R197). -/
def eventMap (ch : Nat) (r : Req) (s : Dev) : Dev × Reply :=
  let sl := fld (r.word 0) 11 0
  let w := r.word 1
  let vs := [fld w 7 0, fld w 15 8, fld w 23 16, fld w 31 24]
  let byte := fun (i : Nat) => BitVec.ofNat 8 (vs.getD i 0)
  checks
    [(reaches ch sl, .notPermitted), (decide ((s.slice sl).state ≠ .free) && vs.all (vectorOk s sl), .badArgument),
     (!sliceBusy s sl && s.mgt.deviceReset.isNone, .busy)]
    (configured spec0112 ch r sl
      (fun s => s.setSlice sl { s.slice sl with evMailbox := byte 0, evState := byte 1, evPressure := byte 2, evKeyLost := byte 3 }) []) s

def cmdEventMap (ch : Nat) (r : Req) (s : Dev) : Dev := command spec0112 ch r (eventMap ch r) s

/-- EVENT_MAP (0x0112). -/
def execEventMap (ch : Nat) (r : Req) (s : State) : Host.Outcome State Fault Refusal := ran (Wf.eventMap ch r) (onChannel ch (cmdEventMap ch r)) s

/-- DELAY_US has passed since the first pending event of a vector (R193). -/
def delayExpiry (sl v : Nat) (s : Dev) : Dev :=
  let x := s.vec sl v
  if x.pending = 0 then s else vecTry sl v (reach (Time.plus x.first (x.delayUs * 1000)) s)

/-- VECTOR_DELAY_EXPIRY (R193). -/
def execVectorDelayExpiry (sl v : Nat) (s : State) : Host.Outcome State Fault Refusal := ran (Wf.vectorDelayExpiry sl v) (delayExpiry sl v) s

/-- The held MSI-X messages of a half that are no longer masked are sent (R198). -/
def msixFlush (p : Nat) (half : Bool) (s : Dev) : Dev :=
  let l := (s.port p).link half
  if !l.msixEnable || l.msixFuncMask then s
  else
    let due := (List.range 64).filter (fun e => l.msixPending.getLsbD e && !l.msixMask.getLsbD e)
    let s1 := s.setPort p ((s.port p).setLink half { l with msixPending := l.msixPending &&& l.msixMask })
    if l.usable then due.foldl (fun s e => emit (.msix p half e) s) s1 else s1

/-- An entry, or the function, is unmasked. -/
def msixUnmask (p : Nat) (half : Bool) (entry : Option Nat) (s : Dev) : Dev :=
  let l := (s.port p).link half
  let m := match entry with
    | some e => { l with msixMask := l.msixMask &&& ~~~(BitVec.ofNat 64 (2 ^ e)) }
    | none => { l with msixFuncMask := false }
  msixFlush p half (s.setPort p ((s.port p).setLink half m))

/-- MSIX_UNMASK (R198). -/
def execMsixUnmask (port : Nat) (half : Bool) (entry : Option Nat) (s : State) : Host.Outcome State Fault Refusal := ran (Wf.msixUnmask port half entry) (msixUnmask port half entry) s

/-! ### Registers (Table 5-8) -/

/-- Slices whose state satisfies `p`. -/
def sliceCount (s : Dev) (p : SliceState → Bool) : Nat := (s.sliceList.filter (fun n => p (s.slice n).state)).length

/-- SLC_SUMMARY. -/
def slcSummary (s : Dev) : W64 :=
  mk64 [sliceCount s (· == .active), at' (sliceCount s (fun x => x == .quiescing || x == .forcing)) 16, at' (sliceCount s (· == .halted)) 32]

/-- SLC_STATE of a slice. -/
def slcState (s : Dev) (sl : Nat) : W64 :=
  let x := s.slice sl
  if x.state = .free then 0
  else mk64 [x.state.ctorIdx, at' (s.slicePort sl) 4, at' (b2n x.half) 6, at' (b2n (profilePending s sl)) 7, at' x.pasid.toNat 8,
    at' (quiesceStep x) 28, at' (s.qpsOf sl).length 32, at' x.profile.vectors 48]

/-- IEU_PENDING of a slice. -/
def ieuPending (s : Dev) (sl : Nat) : W64 :=
  BitVec.ofNat 64 (((List.range 64).filter (fun v => decide (0 < (s.vec sl v).pending))).map (fun v => 2 ^ v)).sum

/-- IEU_MASKED of a slice. -/
def ieuMasked (s : Dev) (sl : Nat) : W64 :=
  BitVec.ofNat 64 (((List.range 64).filter (fun v => (s.vec sl v).mask || decide ((s.slice sl).profile.vectors ≤ v))).map (fun v => 2 ^ v)).sum

end Sys2Proof.Machine
end

