-- ==== Sys2Proof/Machine/MgtRegs.lean ====
section
/-! DEFINITION. Registers that act when they are written: the binding table, its lock, semaphores, the stream count (R148, R165 to R169,
R543). -/
namespace Sys2Proof.Machine

/-! ### The binding table -/

/-- The channel may be bound anew: neither fixed nor in use (R148). -/
def bindable (s : Dev) (m : Nat) : Bool :=
  let c := s.chan (4096 + m)
  m != 0 && decide (m < 240) && !c.full && c.empty && !c.executing

/-- A write of MGT_BIND_WRITE (R148). A channel that a write with VALID 0 unbinds shows SENDER 0 in MGT_BIND_DATA, whatever SENDER was written: DESIGN
CHOICE, log 127 (R170, Table 4-10). -/
def bindWrite (v : W64) (s : Dev) : Dev :=
  let m := fld v 7 0
  if s.mgt.bindLock || !bindable s m || fld v 23 16 != 1 then count .mgtBindWriteDenied 0 s
  else
    let b : Binding := if bit v 24 then ⟨BitVec.ofNat 8 (fld v 15 8), true⟩ else ⟨0, false⟩
    resetChan (4096 + m) { s with mgt := { s.mgt with bindings := SMap.put ⟨0, false⟩ s.mgt.bindings m b } }

/-- A write of MGT_BIND_CTRL: 1 locks, 0 has no effect (R148). -/
def lockWrite (v : W64) (s : Dev) : Dev := if bit v 0 then { s with mgt := { s.mgt with bindLock := true } } else s

/-! ### Semaphores -/

/-- The owner of a semaphore, 0 when it is free. -/
def Dev.semOwner (s : Dev) (k : Nat) : Nat := (SMap.get 0 s.mgt.sems k).toNat

def Dev.setSem (s : Dev) (k m : Nat) : Dev := { s with mgt := { s.mgt with sems := SMap.put 0 s.mgt.sems k (BitVec.ofNat 8 m) } }

/-- A host port other than the manager port never acquires (R167). -/
def mayAcquire (s : Dev) (m : Nat) : Bool := !(decide (8 ≤ m) && decide (m ≤ 10)) || m == 8 + s.mgrPort

/-- What a read of `len` bytes at an offset returns of the 8 bytes of a register: a 4-byte read its half (R110). -/
def halfOf (off len : Nat) (v : W64) : W64 := if len = 4 then BitVec.ofNat 64 (if off % 8 = 4 then fld v 63 32 else fld v 31 0) else v

/-- What a read of a semaphore returns (R165, R167). -/
def semWord (s : Dev) (k m : Nat) : W64 :=
  let o := s.semOwner k
  mk64 [o, at' (b2n (!mayAcquire s m)) 62, at' (b2n (o != 0)) 63]

/-- One read, of `len` bytes at byte `at0` of the word: it returns them, and acquires a free semaphore (R165, R168). -/
def semReadOne (k m at0 len : Nat) (s : Dev) : Dev :=
  let s1 := emit (.readData m (halfOf at0 len (semWord s k m))) s
  if s.semOwner k = 0 ∧ mayAcquire s m then s1.setSem k m else s1

/-- A write of a semaphore: the owner's 0 in OWNER through the base view frees it, whatever the bits that are not writable (R7); any other write is
discarded and counted (R168). -/
def semWrite (m k : Nat) (v : W64) (viaAlias : Bool) (s : Dev) : Dev :=
  if s.semOwner k = m ∧ fld v 7 0 = 0 ∧ viaAlias = false then s.setSem k 0 else count .mgtSemBadRelease 0 s

/-- The semaphores of owners that satisfy `p` are freed (R169). -/
def freeSems (p : Nat → Bool) (s : Dev) : Dev :=
  { s with mgt := { s.mgt with sems := s.mgt.sems.filter (fun e => !p e.2.toNat) } }

/-! ### The stream count -/

/-- OBS_STREAM_CONSUMED.BYTES (R543). -/
def consumedWrite (v : W64) (s : Dev) : Dev := { s with obs := { s.obs with consumed := fld v 39 0 } }

end Sys2Proof.Machine
end

