-- ==== Sys2Proof/Machine/Hif.lean ====
section
/-! DEFINITION. Host ports: links, configuration requests, register writes and their posted-write buffers (R93 to R129, R567). -/
namespace Sys2Proof.Machine

/-! ### Links -/

/-- A half of a port exists: half B only of a bifurcated port (R92). -/
def halfExists (s : Dev) (p : Nat) (half : Bool) : Bool := !half || (s.port p).bifurcated

/-- LINK_DOWN: the port's link is reset, and its slices are lost (R96, R189). -/
def linkDown (p : Nat) (half : Bool) (s : Dev) : Dev :=
  if ((s.port p).link half).up then
    let x := s.port p
    portLost p half (s.setPort p { x.setLink half HostLink.reset with reads := x.reads.filter (fun r => r.half != half) })
  else s

/-- A host link leaves L0. -/
def execLinkDown (port : Nat) (half : Bool) (s : State) : Host.Outcome State Fault Refusal := ran (Wf.linkDown port half) (linkDown port half) s

/-- LINK_UP: the link is in L0 with the speed and width trained, in FLIT mode at 64 GT/s and at no other speed (R95); slice 0 may return (R189). -/
def linkUp (p : Nat) (half : Bool) (speed : BitVec 3) (_ : Bool) (width : BitVec 5) (s : Dev) : Dev :=
  let x := s.port p
  let most := if x.bifurcated then 8 else 16
  if x.perst || s.boot.powerFail || s.boot.tripped || !halfExists s p half || speed == 0 || speed == 7 || width == 0 ||
      decide (most < width.toNat) then s
  else
    let l := { x.link half with up := true, speed := speed, flit := speed == 6, width := width }
    sliceZeroReturn (s.setPort p (x.setLink half l))

/-- A host link enters L0. -/
def execLinkUp (port : Nat) (half : Bool) (speed : BitVec 3) (flit : Bool) (width : BitVec 5) (s : State) : Host.Outcome State Fault Refusal := ran (Wf.linkUp port half speed flit width) (linkUp port half speed flit width) s

/-- D3HOT_ENTRY: BARs stop decoding, and the slices are lost as if the link went down (R98). -/
def d3hotEntry (p : Nat) (half : Bool) (s : Dev) : Dev :=
  let l := (s.port p).link half
  if l.usable then portLost p half (s.setPort p ((s.port p).setLink half { l with d3hot := true })) else s

/-- A function enters D3hot. -/
def execD3hotEntry (port : Nat) (half : Bool) (s : State) : Host.Outcome State Fault Refusal := ran (Wf.d3hotEntry port half) (d3hotEntry port half) s

/-- D0_RETURN: slices are not restored, slice 0 apart (R98, R189). -/
def d0Return (p : Nat) (half : Bool) (s : Dev) : Dev :=
  let l := (s.port p).link half
  if l.d3hot then sliceZeroReturn (s.setPort p ((s.port p).setLink half { l with d3hot := false })) else s

/-- A function returns to D0. -/
def execD0Return (port : Nat) (half : Bool) (s : State) : Host.Outcome State Fault Refusal := ran (Wf.d0Return port half) (d0Return port half) s

/-! ### Configuration space -/

/-- The fixed bits of BAR register `n` (R103): memory, 64 bits wide in the lower word of each pair, BAR4 prefetchable. -/
def barFlags (n : Nat) : BitVec 32 := if n % 2 = 1 then 0 else if n = 4 then 0xC else 0x4

/-- The address bits of BAR register `n`: those above the size of Table 3-3, and the whole upper word. -/
def barMask (n : Nat) : BitVec 32 := if n % 2 = 1 then 0xFFFFFFFF else if n = 2 then 0xF0000000 else 0xFC000000

/-- What the fixed bits `known` of a word are, the others free. -/
def withFree (mask known : BitVec 32) (s : Dev) : BitVec 32 := known ||| (BitVec.ofNat 32 (Config.freeNat s.freeCtr) &&& ~~~mask)

/-- A word of the configuration header (Tables 3-1, 3-3 and 17-8): identity, header type 0 of a single function, a capability list, the BARs; what
the spec does not give is free (log 20). -/
def cfgWord (l : HostLink) (off : Nat) (s : Dev) : BitVec 32 :=
  match off with
  | 0x00 => 0x41442E71
  | 0x04 => withFree 0x00100000 0x00100000 s
  | 0x08 => 0x02000010
  | 0x0C => withFree 0x00FF0000 0 s
  | _ =>
    if 0x10 ≤ off ∧ off < 0x28 then
      let n := (off - 0x10) / 4
      SMap.get 0 l.bars n ||| barFlags n
    else withFree 0 0 s

/-- A capability's word: the mask of the bits that Table 3-1 fixes, and their values; none for a capability that is not present. Where the bits lie in a
capability's words is PCIe's own layout (log 20). -/
def capWord (x : HostPort) (l : HostLink) (extended : Bool) (id dw : Nat) : Option (BitVec 32 × BitVec 32) :=
  let head := fun (m v : Nat) => some ((BitVec.ofNat 32 (m ||| 0xFFFF), BitVec.ofNat 32 (v ||| id)) : BitVec 32 × BitVec 32)
  let std := fun (m v : Nat) => some ((BitVec.ofNat 32 (m ||| 0xFF), BitVec.ofNat 32 (v ||| id)) : BitVec 32 × BitVec 32)
  let word := fun (m v : Nat) => some ((BitVec.ofNat 32 m, BitVec.ofNat 32 v) : BitVec 32 × BitVec 32)
  match extended, id, dw with
  | false, 0x01, 0 => std 0x06000000 0
  | false, 0x01, 1 => word 0x3 (if l.d3hot then 3 else 0)
  | false, 0x01, _ => word 0 0
  | false, 0x10, 0 => std 0x00F00000 0
  | false, 0x10, 1 => word 0x10000007 2
  | false, 0x10, 3 => word 0xFFF (6 + at' (if x.bifurcated then 8 else 16) 4)
  | false, 0x10, 4 => word 0x03FF0000 (at' l.speed.toNat 16 + at' l.width.toNat 20)
  | false, 0x10, 9 => word 0x0003001F (3 + at' 3 16)
  | false, 0x10, 10 => word 0xF l.timeoutCode.toNat
  | false, 0x10, _ => word 0 0
  | false, 0x11, 0 => std 0xC7FF0000 (at' 63 16 + at' (b2n l.msixFuncMask) 30 + at' (b2n l.msixEnable) 31)
  | false, 0x11, 1 => word 0xFFFFFFFF 0x00200000
  | false, 0x11, 2 => word 0xFFFFFFFF 0x00201000
  | false, 0x11, _ => word 0 0
  | true, 0x0003, 0 => head 0 0
  | true, 0x0003, 1 => word 0xFFFFFFFF (fld Config.unitSerial 31 0)
  | true, 0x0003, 2 => word 0xFFFFFFFF (fld Config.unitSerial 63 32)
  | true, 0x001B, 1 => word 0x00001F06 (at' 20 8)
  | true, 0x000F, 1 => word 0x0000003F (at' 1 5)
  | true, 0x0003, _ => word 0 0
  | true, 0x0001, n => if n = 0 then head 0 0 else word 0 0
  | true, 0x001B, n => if n = 0 then head 0 0 else word 0 0
  | true, 0x000F, n => if n = 0 then head 0 0 else word 0 0
  | true, 0x002E, n => if n = 0 then head 0 0 else word 0 0
  | _, _, _ => none

/-- What DOE Discovery answers for the protocol `index` of the mailbox: vendor 1 (PCI-SIG) with DOE Discovery 0, CMA-SPDM 1 and Secured CMA-SPDM 2, and
the next index, 0 behind the last (R97, log 20). -/
def doeProtocol (index : Nat) : BitVec 32 := if index < 3 then BitVec.ofNat 32 (1 + at' index 16 + at' ((index + 1) % 3) 24) else 0xFFFF

/-- A configuration request that the port answers (Tables 3-1 to 3-3, R198). A capability that is absent from Table 3-1 reads as none: 0. -/
def cfgServe (p : Nat) (half : Bool) (q : CfgReq) (s : Dev) : Dev :=
  let x := s.port p
  let l := x.link half
  match q with
  | .read off => emit (.cfgDone p half (cfgWord l off s)) { s with freeCtr := s.freeCtr + 1 }
  | .readCap ext id dw =>
    match capWord x l ext id dw with
    | some (m, v) => emit (.cfgDone p half (withFree m v s)) { s with freeCtr := s.freeCtr + 1 }
    | none => emit (.cfgDone p half 0) s
  | .doeDiscovery n => emit (.cfgDone p half (doeProtocol n)) s
  | .writeBar n v => emit (.cfgDone p half 0) (s.setPort p (x.setLink half { l with bars := SMap.put 0 l.bars n (v &&& barMask n) }))
  | .writeDevCtl2 c => emit (.cfgDone p half 0) (s.setPort p (x.setLink half { l with timeoutCode := c }))
  | .writeMsixControl en fm =>
    emit (.cfgDone p half 0) (msixFlush p half (s.setPort p (x.setLink half { l with msixEnable := en, msixFuncMask := fm })))
  | .writeOther _ => emit (.cfgDone p half 0) s

/-- CONFIGURATION_REQUEST: RRS during start-up, a normal answer afterwards (R100, R102). -/
def configurationRequest (p : Nat) (half : Bool) (q : CfgReq) (s : Dev) : Dev :=
  let x := s.port p
  if !(x.link half).up || x.perst || !halfExists s p half then s
  else if x.rrs then emit (.cfgRetry p half) (count .hifRrs p s)
  else cfgServe p half q s

/-- A configuration request. -/
def execConfigurationRequest (port : Nat) (half : Bool) (q : CfgReq) (s : State) : Host.Outcome State Fault Refusal := ran (Wf.configurationRequest port half q) (configurationRequest port half q) s

/-- A port's BARs decode through some link of it (R98, R102). -/
def barsDecode (s : Dev) (p : Nat) : Bool := !(s.port p).rrs && ((s.port p).linkA.usable || (s.port p).linkB.usable)

/-- The port holds a posted write and accepts no other (R119, R567). -/
def postedBlocked (s : Dev) (p : Nat) : Bool := (s.port p).held.isSome || (s.port p).dbHeld.isSome

/-- A write to BAR4 (R106). -/
def bar4Write (p off : Nat) (s : Dev) : Dev :=
  if barsDecode s p && !postedBlocked s p then emit (.aer p true 2 off) (count .hifBar4Write p (abort p 2 off true 4 s)) else s

/-- BAR4_WRITE (R106). -/
def execBar4Write (port off : Nat) (s : State) : Host.Outcome State Fault Refusal := ran (Wf.bar4Write port off) (bar4Write port off) s

/-! ### Register writes -/

/-- What an alias makes of a value (R113): 1 set, 2 clear, 3 toggle; the base view writes the word. -/
def aliasOp (kind : Nat) (cur v : W64) : W64 :=
  match kind with
  | 1 => cur ||| v
  | 2 => cur &&& ~~~v
  | 3 => cur ^^^ v
  | _ => v

/-- The fields that a write touches: every field of the base view; those with a written one of an alias (R113). -/
def touched (kind : Nat) (v : W64) (r : WReg) : WReg :=
  if kind = 0 then r else { r with fields := r.fields.filter (fun f => v &&& f.mask != 0) }

/-- A write of an ordinary register of island `i` (R6, R55, R113, R114). -/
def plainWrite (i kind : Nat) (r : WReg) (v : W64) (s : Dev) : Dev :=
  let w := aliasOp kind (s.regShown i r.off) v
  if i = isl.PIPA ∧ 0x700 ≤ r.off ∧ distWriteOk r.off w = false then count .distCfgReject 0 s
  else writeFields i (touched kind v r) w s

/-- The target island performs a register write: `off` within its block, `kind` the view (0 base, 1 set, 2 clear, 3 toggle). A WO field is
written through the base view only (R113). -/
def performWrite (m i off kind : Nat) (v : W64) (s : Dev) : Dev :=
  if i = isl.MGT ∧ 0x300 ≤ off ∧ off < 0x700 then semWrite m ((off - 0x300) / 8) v (kind != 0) s
  else if i = isl.MGT ∧ off = 0x020 then (if kind = 0 then bindWrite v s else s)
  else if i = isl.MGT ∧ off = 0x028 then lockWrite (aliasOp kind (BitVec.ofNat 64 (b2n s.mgt.bindLock)) v) s
  else if i = isl.QDE ∧ off = 0x208 then
    (if kind ≠ 0 ∧ fld v 15 0 = 0 then s else dmaCfgWrite (aliasOp kind s.dmaCfgShown v) s)
  else if i = isl.OBS ∧ off = 0x010 then consumedWrite (aliasOp kind (BitVec.ofNat 64 s.obs.consumed) v) s
  else
    match wreg i off with
    | some r => plainWrite i kind r v s
    | none => s

/-- The island, block offset and view of a BAR0 register offset (R104). -/
def regIsland (off : Nat) : Nat := off % 65536 / 2048
def regBlockOff (off : Nat) : Nat := off % 2048
def regView (off : Nat) : Nat := off / 65536

/-- A register write that its island performs. -/
def performReg (w : RegWrite) (s : Dev) : Dev :=
  performWrite w.master (regIsland w.off) (regBlockOff w.off) (regView w.off) w.value s

/-- A held write enters the buffer and is performed. Channel writes are performed by `chan` (R118, R119). -/
def performHeld (chan : HeldWrite → Dev → Dev) (h : HeldWrite) (s : Dev) : Dev :=
  match h with
  | .reg w => performReg w s
  | h => chan h s

/-- The posted-write buffer of a port for an island is in use (R118). -/
def Dev.xbusy (s : Dev) (p k : Nat) : Bool := (s.port p).xbusy.getLsbD k

def setXbusy (p k : Nat) (b : Bool) (s : Dev) : Dev :=
  let x := s.port p
  let m : BitVec 18 := BitVec.ofNat 18 (2 ^ k)
  s.setPort p { x with xbusy := if b then x.xbusy ||| m else x.xbusy &&& ~~~m }

/-- A posted write for island `k` enters its buffer, or is held in the port (R118, R119). -/
def postedWrite (p k : Nat) (h : HeldWrite) (perform : Dev → Dev) (s : Dev) : Dev :=
  if s.xbusy p k then count .hifWriteStalls p (s.setPort p { s.port p with held := some (k, h) })
  else perform (setXbusy p k true s)

/-- A write to the MSI-X table of the port's function: address, data, mask by entry (Table 3-4, R198). -/
def msixTableWrite (p : Nat) (w : RegWrite) (s : Dev) : Dev :=
  let x := s.port p
  let l := x.link w.half
  let e := (w.off - 0x200000) / 16
  let o := w.off % 16
  let mask := fun (b : Bool) (m : W64) => if b then m ||| BitVec.ofNat 64 (2 ^ e) else m &&& ~~~(BitVec.ofNat 64 (2 ^ e))
  let a := SMap.get 0 l.msixAddr e
  let put := fun (l : HostLink) => msixFlush p w.half (s.setPort p (x.setLink w.half l))
  if o = 0 ∧ w.len = 8 then put { l with msixAddr := SMap.put 0 l.msixAddr e w.value }
  else if o = 0 ∧ w.len = 4 then put { l with msixAddr := SMap.put 0 l.msixAddr e (mk64 [fld w.value 31 0, at' (fld a 63 32) 32]) }
  else if o = 4 ∧ w.len = 4 then put { l with msixAddr := SMap.put 0 l.msixAddr e (mk64 [fld a 31 0, at' (fld w.value 31 0) 32]) }
  else if o = 8 ∧ w.len = 8 then
    put { l with msixData := SMap.put 0 l.msixData e (BitVec.ofNat 32 (fld w.value 31 0)), msixMask := mask (bit w.value 32) l.msixMask }
  else if o = 8 ∧ w.len = 4 then put { l with msixData := SMap.put 0 l.msixData e (BitVec.ofNat 32 (fld w.value 31 0)) }
  else if o = 12 ∧ w.len = 4 then put { l with msixMask := mask (bit w.value 0) l.msixMask }
  else s

/-- A register write arrives at a host port (R105, R107, R110, R111, R118, R119). Shape is judged before the port (log 76), and both before a reserved
offset: DESIGN CHOICE, log 121. -/
def hostRegWrite (p : Nat) (w : RegWrite) (s : Dev) : Dev :=
  let x := s.port p
  if !(x.link w.half).usable || x.rrs || postedBlocked s p then s
  else if 0x200000 ≤ w.off ∧ w.off < 0x200400 then msixTableWrite p w s
  else if 0x40000 ≤ w.off then s
  else if w.len ≠ 8 ∨ w.off % 8 ≠ 0 then emit (.aer p false 0 w.off) (count .hifBadAccess p (abort p 0 w.off true 3 s))
  else if p ≠ s.mgrPort then emit (.aer p true 0 w.off) (count .hifRegWriteDenied p (abort p 0 w.off true 5 s))
  else if 0x9000 ≤ w.off % 65536 then s
  else if regIsland w.off = p then performReg w s
  else postedWrite p (regIsland w.off) (.reg w) (performReg w) s

/-- A register write of any master: host ports through their buffers, the Lamplighter at once (R107, R132). -/
def regWriteArrive (w : RegWrite) (s : Dev) : Dev :=
  if 8 ≤ w.master ∧ w.master ≤ 10 then hostRegWrite (w.master - 8) w s
  else if w.off < 0x40000 ∧ w.off % 8 = 0 ∧ w.len = 8 ∧ w.off % 65536 < 0x9000 then performReg w s
  else s

/-- The write names this register of this island, through any view. -/
def names (w : RegWrite) (i off : Nat) : Bool := decide (w.off < 0x40000) && regIsland w.off == i && regBlockOff w.off == off

/-- A write of the view that the row names. -/
def viewWrite (kind : Nat) (w : RegWrite) (s : Dev) : Dev :=
  if w.off < 0x40000 ∧ regView w.off ≠ kind then s else regWriteArrive w s

/-- SET_ALIAS_WRITE (R113, R114). -/
def execSetAliasWrite (w : RegWrite) (s : State) : Host.Outcome State Fault Refusal := ran (Wf.setAliasWrite w) (viewWrite 1 w) s

/-- CLEAR_ALIAS_WRITE (R113, R114). -/
def execClearAliasWrite (w : RegWrite) (s : State) : Host.Outcome State Fault Refusal := ran (Wf.clearAliasWrite w) (viewWrite 2 w) s

/-- TOGGLE_ALIAS_WRITE (R113, R114). -/
def execToggleAliasWrite (w : RegWrite) (s : State) : Host.Outcome State Fault Refusal := ran (Wf.toggleAliasWrite w) (viewWrite 3 w) s

/-- DIST_CFG_WRITE: a write of PRS_DIST_CTRL, PRS_DIST_SLOW or PRS_DIST_SEL (R55). -/
def distCfgWrite (w : RegWrite) (s : Dev) : Dev := if names w isl.PIPA 0x700 || names w isl.PIPA 0x710 || names w isl.PIPA 0x718 then regWriteArrive w s else s

/-- The command. -/
def execDistCfgWrite (w : RegWrite) (s : State) : Host.Outcome State Fault Refusal := ran (Wf.distCfgWrite w) (distCfgWrite w) s

/-- DMA_CFG_WRITE (R242). -/
def dmaCfgWriteCmd (w : RegWrite) (s : Dev) : Dev := if names w isl.QDE 0x208 then regWriteArrive w s else s

/-- The command. -/
def execDmaCfgWrite (w : RegWrite) (s : State) : Host.Outcome State Fault Refusal := ran (Wf.dmaCfgWrite w) (dmaCfgWriteCmd w) s

/-- MGT_BIND_WRITE (R148). -/
def mgtBindWrite (w : RegWrite) (s : Dev) : Dev := if names w isl.MGT 0x020 then regWriteArrive w s else s

/-- The command. -/
def execMgtBindWrite (w : RegWrite) (s : State) : Host.Outcome State Fault Refusal := ran (Wf.mgtBindWrite w) (mgtBindWrite w) s

/-- BIND_LOCK: a write of MGT_BIND_CTRL (R148). -/
def bindLock (w : RegWrite) (s : Dev) : Dev := if names w isl.MGT 0x028 then regWriteArrive w s else s

/-- The command. -/
def execBindLock (w : RegWrite) (s : State) : Host.Outcome State Fault Refusal := ran (Wf.bindLock w) (bindLock w) s

/-- SEMAPHORE_RELEASE: a write of a semaphore, from a host port as a register write, from an internal master at once (R168). -/
def semRelease (m k : Nat) (v : W64) (viaAlias : Bool) (s : Dev) : Dev :=
  if 8 ≤ m ∧ m ≤ 10 then
    hostRegWrite (m - 8) { master := m, half := false, off := (if viaAlias then 65536 else 0) + 15 * 2048 + 0x300 + 8 * k, len := 8, value := v } s
  else semWrite m k v viaAlias s

/-- A write of a semaphore. -/
def execSemaphoreRelease (m k : Nat) (value : W64) (viaAlias : Bool) (s : State) : Host.Outcome State Fault Refusal := ran (Wf.semaphoreRelease m k value viaAlias) (semRelease m k value viaAlias) s

/-! ### Stalls -/

/-- The report of an access ended at the 2 µs bound (R123). -/
def stallAbort (p island bar off : Nat) (write : Bool) (s : Dev) : Dev :=
  logFault p island 0x0101 0 (abortWord bar off write 1) 0 (count .hifXstallAbort p (abort p bar off write 1 s))

/-- What a held write is aimed at: its BAR0 offset. -/
def heldOff : HeldWrite → Nat
  | .reg w => w.off
  | .region _ _ ch off _ => if ch < 4096 then 0x1000000 + ch * 0x1000 + off else 0x100000 + (ch - 4096) * 0x100 + off
  | .doorbell _ _ ch _ _ => if ch < 4096 then 0x1000000 + ch * 0x1000 + 0x80 else 0x100000 + (ch - 4096) * 0x100 + 0x80

/-- The first waiting read of a register of an island at an offset leaves the port. -/
def dropRead (p off : Nat) (s : Dev) : Dev :=
  let x := s.port p
  match x.reads.find? (fun r => r.bar == 0 && r.off == off) with
  | some r => s.setPort p { x with reads := x.reads.erase r }
  | none => s

/-- REGISTER_STALL_TIMEOUT: a stalled read ends with a Completer Abort, a held write is discarded (R123). -/
def stallTimeout (p island off : Nat) (write : Bool) (s : Dev) : Dev :=
  if write then
    match (s.port p).held with
    | some (k, h) =>
      if k = island then
        emit (.aer p true 0 (heldOff h)) (stallAbort p k 0 (heldOff h) true (s.setPort p { s.port p with held := none }))
      else s
    | none => s
  else if barsDecode s p then emit (.readAbort p) (stallAbort p island 0 off false (dropRead p off s))
  else s

/-- DOORBELL_HOLD_TIMEOUT (R567). -/
def doorbellHoldTimeout (p : Nat) (s : Dev) : Dev :=
  match (s.port p).dbHeld with
  | some (_, off, _, _) => emit (.aer p true 1 off) (stallAbort p isl.QDE 1 off true (s.setPort p { s.port p with dbHeld := none }))
  | none => s

end Sys2Proof.Machine
end

