-- ==== Sys2Proof/Machine/Versions.lean ====
section
/-! DEFINITION. The commit protocol: token, PREPARE, decision, activation, retirement, pulling of records (R58 to R76, R82 to R84, R441,
R571, R572). -/
namespace Sys2Proof.Machine

/-- This member is its side's lead node (R437). -/
def Dev.isLead (s : Dev) : Bool := s.str.lead == s.str.node

/-! ### Records and messages -/

/-- Pieces of at most 8,192 bytes. -/
def chunks8k : Nat → List Byte → List (List Byte)
  | 0, _ => []
  | n + 1, bs => if bs.length ≤ 8192 then [bs] else bs.take 8192 :: chunks8k n (bs.drop 8192)

def recordSegs (cs : List Change) : List (List Byte) := chunks8k ((Config.recordBytes cs).length / 8192 + 1) (Config.recordBytes cs)

/-- PREPARE's frames (Table 12-5). -/
def prepareMsgs (v : Version) (cs : List Change) : List CtlBody :=
  (recordSegs cs).zipIdx.map (fun (b, i) => .prepareData v i b) ++
    [.prepareEnd v (recordSegs cs).length (Config.sha384 (Config.recordBytes cs))]

/-- A segment joins the record in assembly; a segment of another version begins a new one. -/
def addSegment (v : Version) (i : Nat) (bs : List Byte) (s : Dev) : Dev :=
  let a : Assembly := match s.str.assembly with
    | some a => if a.version = v then a else ⟨v, []⟩
    | none => ⟨v, []⟩
  { s with str := { s.str with assembly := some { a with segs := a.segs.filter (fun e => decide (e.1 ≠ i)) ++ [(i, bs)] } } }

/-- The assembled record, when its segments 0 to n − 1 are there and the digest fits. -/
def assembled (s : Dev) (v : Version) (n : Nat) (d : BitVec 384) : Option (List Change) :=
  match s.str.assembly with
  | some a =>
    if a.version = v ∧ (List.range n).all (fun i => a.segs.any (fun e => e.1 == i)) then
      let bs := (List.range n).flatMap (fun i => ((a.segs.find? (fun e => e.1 == i)).map Prod.snd).getD [])
      if Config.sha384 bs = d then some (Config.recordChanges bs) else none
    else none
  | none => none

/-- A message is not to be taken as a repeat when it comes again: it could not be acted on. -/
def unsee (h : CtlHdr) (s : Dev) : Dev :=
  { s with str := { s.str with seen := s.str.seen.filter (fun e => !(e.1 == h.org && e.2.1 == h.msgSeq)) } }

/-! ### Jobs that wait on a version -/

/-- A VERSION_COMMIT that waits on `v` ends (R442, R572). -/
def endWait (v : Version) (st : Status) (ws : List W64) (s : Dev) : Dev :=
  match s.str.jobWait with
  | some (j, w) => if w = v then answer j st ws { s with str := { s.str with jobWait := none } } else s
  | none => s

/-! ### Slots -/

/-- A DRAINING slot's markers and times are forgotten. -/
def forgetSlotMarkers (k : Nat) (s : Dev) : Dev := forgetMarkers (fun m => !m.isSlice && m.id == k) s

/-- Table 2-3, step 6: the slot is FREE and the change journalled. -/
def freeVersion (k : Nat) (s : Dev) : Dev :=
  jPut 4 k 8 .slotFree (.freed k) (forgetSlotMarkers k (freeSlot k s))

/-- Every packet of a slot is discarded (R71). -/
def discardSlot (k : Nat) (s : Dev) : Dev := discardAll .versionForcedDiscard (fun t => t.vslot.toNat == k) s

/-- A force-retirement under R84: the slot is discarded and freed at once. -/
def forceRetire (k : Nat) (s : Dev) : Dev := freeVersion k (discardSlot k s)

/-- A PREPARED version is given up: withdrawn, abandoned or discarded on merge (R76, R84, R322). -/
def abandon (k : Nat) (s : Dev) : Dev :=
  let v := (s.slot k).version
  endWait v .versionConflict [] (jPut 5 v.toNat 8 .withdraw (.withdrawn v) (discardVersion k s))

/-- A build begins in a slot (R62, R71). -/
def beginBuild (v : Version) (s : Dev) : Dev :=
  let s1 := copySlot (s.activeSlot.getD 0) (versionSlot v) .building v s
  { s1 with rules := { s1.rules with buildRecord := [] } }

/-- A forced VERSION_BUILD_BEGIN goes on once its slot is FREE (R71); a PREPARE that has come for the slot is before it (R72). -/
def buildNow (s : Dev) : Dev :=
  match s.str.buildWait with
  | some (j, base) =>
    let v := base + 1
    if (s.slot (versionSlot v)).state = .free then
      let s1 := { s with str := { s.str with buildWait := none } }
      if s.activeSlot.isSome ∧ s.activeVersion = base ∧ s.slotIn .building = none ∧ s.preparedSlot = none ∧ s.str.held = none then
        answer j .ok [mk64 [v.toNat]] (beginBuild v s1)
      else answer j .versionConflict [] s1
    else s
  | none => s

/-! ### The token (R441) -/

/-- The VERSION_COMMIT of a commit is answered, where it has one. -/
def answerCommit (c : Option Commit) (st : Status) (ws : List W64) (s : Dev) : Dev :=
  match c.bind Commit.job with
  | some j => answer j st ws s
  | none => s

/-- A commit ends with a status; the build stays as it is. -/
def endCommit (st : Status) (ws : List W64) (s : Dev) : Dev := answerCommit s.str.commit st ws { s with str := { s.str with commit := none } }

/-- The commit that comes next ends with a status. -/
def endNext (st : Status) (s : Dev) : Dev := answerCommit s.str.nextCommit st [] { s with str := { s.str with nextCommit := none } }

/-- With the token: PREPARE is journalled here and sent to every member (Table 2-4, step 3). False when there is nothing to commit, or the
journal cannot take the record, which ends the command NO_RESOURCE (R79). -/
def startPrepare (s : Dev) : Dev × Bool :=
  match s.str.commit with
  | some c =>
    if c.stage = .token then
      let cs := s.rules.buildRecord
      match jTake 1 c.version.toNat (Config.recordBytes cs).length (.prepare cs false) (.prepared c.version) s with
      | some s1 =>
        (sendAwaited .broadcast (prepareMsgs c.version cs) s1.others
          { s1 with str := { s1.str with commit := some { c with stage := .prepare, acked := [], failed := none } } }, true)
      | none => (endCommit .noResource [] (jnlRefused (recLines (Config.recordBytes cs).length) s), false)
    else (s, false)
  | none => (s, false)

/-- The lead node of a lead side grants the idle token to the first request (R441). -/
def grantNext : Nat → Dev → Dev
  | 0, s => s
  | n + 1, s =>
    if s.isLead && !s.nonLead && s.str.holder.isNone then
      match s.str.tokenQueue with
      | [] => s
      | h :: rest =>
        let mine := h.org == s.str.node
        let s1 := { s with str := { s.str with tokenQueue := rest, tokenSeq := s.str.tokenSeq + 1, holder := some h.org, holdsToken := mine } }
        if mine then
          match startPrepare s1 with
          | (s2, true) => s2
          | (s2, false) => grantNext n { s2 with str := { s2.str with holder := none, holdsToken := true } }
        else reply h (.tokenGrant s1.str.tokenSeq) s1
    else s

/-- Grants while requests wait. -/
def grantIdle (s : Dev) : Dev := grantNext (s.str.tokenQueue.length + 1) s

/-- A holder gives the token up (R441, R442). -/
def releaseToken (s : Dev) : Dev :=
  if !s.str.holdsToken || s.str.holder.isNone then s
  else if s.isLead then grantIdle { s with str := { s.str with holder := none, holdsToken := true } }
  else sendCtl (.member s.str.lead) (.tokenRelease s.str.tokenSeq) { s with str := { s.str with holder := none, holdsToken := false } }

/-- A commit asks for the token (Table 2-4, step 2). -/
def askToken (s : Dev) : Dev :=
  if s.isLead then
    if s.str.tokenQueue.any (fun h => h.org == s.str.node) then s
    else grantIdle { s with str := { s.str with tokenQueue := s.str.tokenQueue ++ [⟨s.str.node, s.str.epoch, 0⟩] } }
  else if s.str.tokenAsked then s
  else sendAwaited (.member s.str.lead) [.tokenReq] [s.str.lead] { s with str := { s.str with tokenAsked := true } }

/-- The commit that waited for this member's earlier one begins (Table 2-4, step 2). -/
def beginNext (s : Dev) : Dev :=
  match s.str.commit, s.str.nextCommit with
  | none, some c => askToken { s with str := { s.str with commit := some c, nextCommit := none } }
  | _, _ => s

/-- A request for the token of this member's own is withdrawn. -/
def withdrawToken (s : Dev) : Dev :=
  dropAwaited (fun b => CtlBody.typ b == 0x10)
    { s with str := { s.str with tokenAsked := false, tokenQueue := s.str.tokenQueue.filter (fun h => decide (h.org ≠ s.str.node)) } }

def isTokenReq : CtlBody → Option Unit
  | .tokenReq => some ()
  | _ => none

/-- TOKEN_REQ_RECEIVE (R441): a non-lead side's lead grants nothing. -/
def tokenReqReceive (s : Dev) : Dev :=
 takeMsg isTokenReq (fun m _ s =>
    if s.str.tokenQueue.any (fun h => h.org == m.hdr.org) then s
    else grantIdle { s with str := { s.str with tokenQueue := s.str.tokenQueue ++ [m.hdr] } }) s

/-- The command. -/
def execTokenReqReceive (s : State) : Host.Outcome State Fault Refusal := ran Wf.tokenReqReceive tokenReqReceive s

def isTokenGrant : CtlBody → Option (BitVec 32)
  | .tokenGrant q => some q
  | _ => none

/-- The token has come (R73): PREPARE goes out, or the token goes back when no commit waits for it. -/
def tokenCame (q : BitVec 32) (s : Dev) : Dev :=
  let s1 := withdrawToken { s with str := { s.str with tokenSeq := q, holder := some s.str.node, holdsToken := true } }
  match startPrepare s1 with
  | (s2, true) => s2
  | (s2, false) => releaseToken s2

/-- TOKEN_GRANT_RECEIVE (R73). -/
def tokenGrantReceive (s : Dev) : Dev := takeMsg isTokenGrant (fun _ q s => tokenCame q s) s

/-- The command. -/
def execTokenGrantReceive (s : State) : Host.Outcome State Fault Refusal := ran Wf.tokenGrantReceive tokenGrantReceive s

def isTokenRelease : CtlBody → Option (BitVec 32)
  | .tokenRelease q => some q
  | _ => none

/-- TOKEN_RELEASE_RECEIVE (R441). -/
def tokenReleaseReceive (s : Dev) : Dev :=
 takeMsg isTokenRelease (fun m _ s =>
    if s.isLead && s.str.holder == some m.hdr.org then
      grantIdle { s with str := { s.str with holder := none, holdsToken := true } }
    else s) s

/-- The command. -/
def execTokenReleaseReceive (s : State) : Host.Outcome State Fault Refusal := ran Wf.tokenReleaseReceive tokenReleaseReceive s

/-! ### Retirement (R69 to R71) -/

/-- The member tells the lead node that a slot is drained. -/
def sendDrainDone (k : Nat) (s : Dev) : Dev :=
  sendCtl (.member s.str.lead) (.drainDone k) (s.setSlot k { s.slot k with drainDone := decide ((s.slot k).state ≠ .free) })

/-- RETIRE takes hold of a DRAINING slot. -/
def retireSlot (k : Nat) (force : Bool) (t : Time) (s : Dev) : Dev :=
  let s1 := forgetSlotMarkers k (s.setSlot k { s.slot k with tDrain := some t, drainStarted := force, drainDone := false })
  if force then sendDrainDone k (discardSlot k s1) else s1

/-- RETIRE is recorded for a slot; with FORCE its packets are discarded and DRAIN_DONE goes at once. A slot that this member has freed already
is drained; one that is still to be pulled keeps the RETIRE. -/
def recordRetire (k : Nat) (force : Bool) (t : Time) (s : Dev) : Dev :=
  if (s.slot k).state = .draining then retireSlot k force t s
  else match s.str.adopt with
    | some a =>
      if a.toPull.any (fun v => versionSlot v == k) then
        { s with str := { s.str with adopt := some { a with retires := a.retires.filter (fun r => decide (r.1 ≠ k)) ++ [(k, force, t)] } } }
      else sendDrainDone k s
    | none => sendDrainDone k s

/-- RETIRE goes to every member, this one included. -/
def sendRetire (k : Nat) (force : Bool) (t : Time) (s : Dev) : Dev := recordRetire k force t (sendCtl .broadcast (.retire k force t) s)

/-- The DRAINING slots. -/
def Dev.drainingSlots (s : Dev) : List Nat := slotNumbers.filter (fun k => decide ((s.slot k).state = .draining))

/-- Table 2-3, step 1, for every DRAINING slot that no RETIRE names yet, and for those whose retirement restarts (R70), where `ok` holds. -/
def retireWhere (ok : Nat → Bool) (t : Time) (s : Dev) : Dev :=
  let ks := s.drainingSlots.filter (fun k => (s.slot k).tDrain.isNone && ok k)
  (slotNumbers.filter (fun k => ks.contains k || s.str.toRetire.contains k)).foldl (fun s k => sendRetire k false t s)
    { s with str := { s.str with toRetire := [] } }

/-- Table 2-3, step 1, for all of them. -/
def retireAll (t : Time) (s : Dev) : Dev := retireWhere (fun _ => true) t s

def isRetire : CtlBody → Option (Nat × Bool × Time)
  | .retire k f t => some (k, f, t)
  | _ => none

/-- RETIRE_RECEIVE (R69, R71). -/
def retireReceive (s : Dev) : Dev := takeMsg isRetire (fun _ (k, f, t) s => recordRetire k f t s) s

/-- The command. -/
def execRetireReceive (s : State) : Host.Outcome State Fault Refusal := ran Wf.retireReceive retireReceive s

/-- At T_DRAIN every tagging point sends a marker for the slot (Table 2-3, step 2). -/
def drainStart (k : Nat) (s : Dev) : Dev :=
  let x := s.slot k
  match x.tDrain with
  | some t =>
    if x.state = .draining ∧ x.drainStarted = false then
      let s1 := reach t s
      startMarkers ⟨false, k, x.version, t, 0⟩ (List.range 8) (s1.setSlot k { x with drainStarted := true })
    else s
  | none => s

/-- VERSION_DRAIN_START (R69). -/
def execVersionDrainStart (slot : Nat) (s : State) : Host.Outcome State Fault Refusal := ran (Wf.versionDrainStart slot) (drainStart slot) s

/-- A unit passes a version marker on or reports it; the last report sends DRAIN_DONE (Table 2-3, steps 3 to 5). -/
def drainPass (u k : Nat) (s : Dev) : Dev :=
  match heldMarker s u false k with
  | some m =>
    if holdsMarkers s u m && unitClear s u (fun t => t.vslot.toNat == k) then
      let s1 := passMarker u m s
      if allReported s1 m ∧ (s.slot k).state = .draining ∧ (s.slot k).drainDone = false then sendDrainDone k s1 else s1
    else s
  | none => s

/-- DRAIN_MARKER_PASS (R69). -/
def execDrainMarkerPass (unit slot : Nat) (s : State) : Host.Outcome State Fault Refusal := ran (Wf.drainMarkerPass unit slot) (drainPass unit slot) s

/-! ### PREPARE on a member -/

/-- A version's slot is filled from a change record: against the version before it, or whole (log 71). The PREPARED version is the record's own. -/
def placeVersion (v : Version) (st : SlotState) (cs : List Change) (full : Bool) (s : Dev) : Except (Status × Change) Dev :=
  let k := versionSlot v
  let s0 := if full then
      (tableNumbers.foldl (fun s t => mapEntries t (fun e =>
        if Entry.validFor e v then (if e.vfrom = v then none else some { e with vto := v, isOpen := false }) else some e) s) s).setSlot k
        { Slot.free with state := st, version := v }
    else copySlot (s.activeSlot.getD 0) k st v s
  match applyChanges k cs s0 with
  | .ok s1 => .ok (s1.setSlot k { s1.slot k with record := cs })
  | .error e => .error e

/-- The fault of a change refused at PREPARE: 0x0801 for an image, 0x0901 for any other (R299, R322). -/
def changeRefused (v : Version) (st : Status) (c : Change) (s : Dev) : Dev :=
  let other := fun (t : Nat) (lpm : Bool) => logFault isl.MGT 0xFF 0x0901 0 (mk64 [v.toNat, at' t 32, at' (b2n lpm) 36]) 0 (countRefused c .noResource s)
  match c with
  | .image raw => logFault isl.MGT 0xFF 0x0801 0 (mk64 [fld (raw.getD 1 0) 31 0, at' (if st = .authFailed then 1 else 2) 32]) 0 s
  | .insert t _ _ => other t false
  | .route .. => other 0 true
  | _ => other 0 false

/-- The statuses that PREPARE_ACK carries (Table 12-5). -/
def ackStatus (st : Status) : Status := if st = .authFailed then .authFailed else .noResource

/-- A PREPARE that cannot be placed is answered, with nothing changed. -/
def refusePrepare (h : HeldPrepare) (st : Status) (s : Dev) : Dev :=
  reply h.hdr (.prepareAck h.version (Status.code (ackStatus st))) { s with str := { s.str with held := none } }

/-- A local VERSION_COMMIT that has not sent PREPARE ends (R72). -/
def loseCommit (s : Dev) : Dev :=
  let s1 := endNext .versionConflict s
  match s1.str.commit with
  | some c => if c.stage = .token ∧ c.rollForward = false then withdrawToken (endCommit .versionConflict [] s1) else s1
  | none => s1

/-- A local build ends, with its commit (R72). -/
def loseBuild (s : Dev) : Dev :=
  match s.slotIn .building with
  | some k => loseCommit (dropBuild k s)
  | none => s

/-- The PREPARE that is held is journalled once its slot is FREE; a local build ends first (R72, R571). A member that is STARTING, or has R84 to do,
keeps it held. -/
def tryPrepare (s : Dev) : Dev :=
  match s.str.held with
  | none => s
  | some h =>
    if s.str.starting ∨ s.str.state = .rejoining then s else
    let s1 := loseBuild s
    let busy := s1.jnl.inflight.any (fun r => r.typ == 1 && r.subject == h.version.toNat)
    if (s1.slot (versionSlot h.version)).state ≠ .free ∨ busy then s1
    else match placeVersion h.version .prepared h.changes false s1 with
      | .error (st, c) => refusePrepare h st (changeRefused h.version st c s1)
      | .ok _ =>
        match jTake 1 h.version.toNat (Config.recordBytes h.changes).length (.prepare h.changes false) (.prepared h.version) s1 with
        | some s2 => s2
        | none => refusePrepare h .noResource (jnlRefused (recLines (Config.recordBytes h.changes).length) s1)

def isPrepareData : CtlBody → Option (Version × Nat × List Byte)
  | .prepareData v i bs => some (v, i, bs)
  | _ => none

/-- PREPARE_DATA_RECEIVE (R74). -/
def prepareDataReceive (s : Dev) : Dev := takeMsg isPrepareData (fun _ (v, i, bs) s => addSegment v i bs s) s

/-- The command. -/
def execPrepareDataReceive (s : State) : Host.Outcome State Fault Refusal := ran Wf.prepareDataReceive prepareDataReceive s

def isPrepareEnd : CtlBody → Option (Version × Nat × BitVec 384)
  | .prepareEnd v n d => some (v, n, d)
  | _ => none

/-- The whole PREPARE has come. A version that this member holds already is acknowledged again. -/
def prepareEnd (h : CtlHdr) (v : Version) (n : Nat) (d : BitVec 384) (s : Dev) : Dev :=
  let x := s.slot (versionSlot v)
  if x.processes ∧ x.version = v then reply h (.prepareAck v 0) s
  else match assembled s v n d with
    | none => unsee h s
    | some cs => tryPrepare { s with str := { s.str with assembly := none, held := some ⟨v, cs, h.org, h⟩ } }

/-- PREPARE_END_RECEIVE (R571). -/
def prepareEndReceive (s : Dev) : Dev := takeMsg isPrepareEnd (fun m (v, n, d) s => prepareEnd m.hdr v n d s) s

/-- The command. -/
def execPrepareEndReceive (s : State) : Host.Outcome State Fault Refusal := ran Wf.prepareEndReceive prepareEndReceive s

def isPrepareWithdraw : CtlBody → Option Version
  | .prepareWithdraw v => some v
  | _ => none

/-- A PREPARE is withdrawn (R322): held back, or journalled and freed. -/
def prepareWithdraw (v : Version) (s : Dev) : Dev :=
  let s1 := match s.str.held with
    | some h => if h.version = v then { s with str := { s.str with held := none } } else s
    | none => s
  let k := versionSlot v
  if (s1.slot k).state = .prepared ∧ (s1.slot k).version = v then tryPrepare (abandon k s1) else s1

/-- PREPARE_WITHDRAW_RECEIVE (R322). -/
def prepareWithdrawReceive (s : Dev) : Dev := takeMsg isPrepareWithdraw (fun _ v s => prepareWithdraw v s) s

/-- The command. -/
def execPrepareWithdrawReceive (s : State) : Host.Outcome State Fault Refusal := ran Wf.prepareWithdrawReceive prepareWithdrawReceive s

/-- Table 2-3, step 6, and what waits for the slot: a held PREPARE, then a forced build. -/
def slotFreed (k : Nat) (s : Dev) : Dev :=
  if (s.slot k).state = .draining then buildNow (tryPrepare (freeVersion k s)) else s

def isSlotFree : CtlBody → Option Nat
  | .slotFree k => some k
  | _ => none

/-- SLOT_FREE_RECEIVE (R69). -/
def slotFreeReceive (s : Dev) : Dev := takeMsg isSlotFree (fun _ k s => slotFreed k s) s

/-- The command. -/
def execSlotFreeReceive (s : State) : Host.Outcome State Fault Refusal := ran Wf.slotFreeReceive slotFreeReceive s

def isDrainDone : CtlBody → Option Nat
  | .drainDone k => some k
  | _ => none

/-- The lead node counts DRAIN_DONE; after the last it broadcasts SLOT_FREE (Table 2-3, step 6). -/
def drainDone (n k : Nat) (s : Dev) : Dev :=
  if s.isLead then
    let got := if (SMap.get [] s.str.drained k).contains n then SMap.get [] s.str.drained k else n :: SMap.get [] s.str.drained k
    if s.str.members.all (fun m => got.contains m) then
      slotFreed k (sendCtl .broadcast (.slotFree k) { s with str := { s.str with drained := SMap.put [] s.str.drained k [] } })
    else { s with str := { s.str with drained := SMap.put [] s.str.drained k got } }
  else s

/-- DRAIN_DONE_RECEIVE (R69). -/
def drainDoneReceive (s : Dev) : Dev := takeMsg isDrainDone (fun m k s => drainDone m.hdr.org k s) s

/-- The command. -/
def execDrainDoneReceive (s : State) : Host.Outcome State Fault Refusal := ran Wf.drainDoneReceive drainDoneReceive s

/-! ### Decision and activation -/

/-- The committing member's PREPARE is withdrawn: the build stays BUILDING here (R322). -/
def withdraw (c : Commit) (st : Status) (s : Dev) : Dev :=
  let k := versionSlot c.version
  let s1 := dropAwaited (fun b => CtlBody.typ b == 0x20 || CtlBody.typ b == 0x21) (sendCtl .broadcast (.prepareWithdraw c.version) s)
  let s2 := if (s1.slot k).state = .prepared then
      jPut 5 c.version.toNat 8 .withdraw (.withdrawn c.version) (s1.setSlot k { s1.slot k with state := .building })
    else s1
  releaseToken (endCommit st [] s2)

/-- Every member has answered PREPARE: the decision is journalled, or the PREPARE is withdrawn (Table 2-4, step 5). -/
def settlePrepare (s : Dev) : Dev :=
  match s.str.commit with
  | some c =>
    if c.stage = .prepare ∧ s.str.members.all (fun m => c.acked.contains m) then
      match c.failed with
      | some st => withdraw c st s
      | none =>
        let t := s.now + BitVec.ofNat 48 s.rttNs
        jPut 2 c.version.toNat 8 (.decision t) (.decided c.version t) { s with str := { s.str with commit := some { c with stage := .decide } } }
    else s
  | none => s

/-- A member has answered PREPARE. -/
def prepareAcked (v : Version) (n : Nat) (st : Status) (s : Dev) : Dev :=
  match s.str.commit with
  | some c =>
    if c.version = v ∧ c.stage = .prepare then
      let c1 := { c with acked := n :: c.acked.filter (fun m => decide (m ≠ n)), failed := if st = .ok then c.failed else some st }
      settlePrepare { s with str := { s.str with commit := some c1 } }
    else s
  | none => s

def isPrepareAck : CtlBody → Option (Version × Nat)
  | .prepareAck v st => some (v, st)
  | _ => none

/-- PREPARE_ACK_RECEIVE (R74). -/
def prepareAckReceive (s : Dev) : Dev :=
 takeMsg isPrepareAck (fun m (v, st) s =>
    prepareAcked v m.hdr.org (if st = 0 then .ok else if st = 10 then .authFailed else .noResource)
      (gotReply (fun b => match b with
        | .prepareData w .. => w == v
        | .prepareEnd w .. => w == v
        | _ => false) m.hdr.org s)) s

/-- The command. -/
def execPrepareAckReceive (s : State) : Host.Outcome State Fault Refusal := ran Wf.prepareAckReceive prepareAckReceive s

/-- Every member has activated: the slots that drain are retired and the token is released (Table 2-4, step 8). -/
def commitDone (latest : Time) (s : Dev) : Dev :=
  beginNext (releaseToken (retireAll (latest + BitVec.ofNat 48 s.rttNs) { s with str := { s.str with commit := none } }))

/-- A member has acknowledged the activation, with its time. -/
def activateAcked (v : Version) (n : Nat) (t : Time) (s : Dev) : Dev :=
  match s.str.commit with
  | some c =>
    if c.version = v ∧ c.stage = .activate then
      let acked := n :: c.acked.filter (fun m => decide (m ≠ n))
      let latest := if c.acked = [] ∨ Time.later t c.latest then t else c.latest
      if s.str.members.all (fun m => acked.contains m) then commitDone latest s
      else { s with str := { s.str with commit := some { c with acked := acked, latest := latest } } }
    else s
  | none => s

/-- Retirement restarts once no ACTIVATE of this member awaits an acknowledgement and no commit of its own is under way (R70). -/
def restartRetire (s : Dev) : Dev :=
  if s.str.toRetire ≠ [] ∧ s.str.commit = none ∧ s.str.awaited.all (fun a => a.bodies.all (fun e => CtlBody.typ e.2 != 0x24)) then
    retireAll (s.now + BitVec.ofNat 48 s.rttNs) s
  else s

def isActivateAck : CtlBody → Option (Version × Time)
  | .activateAck v t => some (v, t)
  | _ => none

/-- ACTIVATE_ACK_RECEIVE (R69). -/
def activateAckReceive (s : Dev) : Dev :=
 takeMsg isActivateAck (fun m (v, t) s =>
    restartRetire (activateAcked v m.hdr.org t (gotReply (fun b => match b with
      | .activate w _ => w == v
      | _ => false) m.hdr.org s))) s

/-- The command. -/
def execActivateAckReceive (s : State) : Host.Outcome State Fault Refusal := ran Wf.activateAckReceive activateAckReceive s

/-- An activation is acknowledged once it has happened and its record is durable (R66, R497). -/
def ackActivation (s : Dev) : Dev :=
  match s.str.toActivate with
  | some a =>
    match a.durable, a.done with
    | true, some t =>
      let s1 := { s with str := { s.str with toActivate := none } }
      match a.hdr with
      | some h => reply h (.activateAck a.version t) s1
      | none => activateAcked a.version s.str.node t s1
    | _, _ => s
  | none => s

/-- A member whose offset from the leading side exceeds 1 µs steps its clock once (start-up's own time is kept), and its joined bundles come UP (R444; Table 12-8, step 6). -/
def stepClock (s : Dev) : Dev :=
  match s.str.parent with
  | some b =>
    let o := (s.bundle b).offsetPs
    let d := BitVec.ofInt 48 (o / 1000)
    let s1 := if (s.bundle b).accepted ∧ (o < -1000000 ∨ 1000000 < o) then
        Dev.setTime { s with boot := { s.boot with started := s.boot.started.map (fun t => t + d) } } (s.now + d)
      else s
    upAccepted s1
  | none => upAccepted s

/-- The steps of R84 are done: the former active version goes where it is not live on the other side, and a PREPARE that was held goes on (R571). -/
def adoptionDone (former : Option Nat) (s : Dev) : Dev :=
  match s.str.adopt with
  | some a =>
    let s1 : Dev := match former with
      | some k => if (s.slot k).state = .draining ∧ !a.live.contains (s.slot k).version ∧ a.live ≠ [] then forceRetire k s else s
      | none => s
    grantIdle (tryPrepare (stepClock { s1 with str := { s1.str with adopt := none, state := if s1.str.state = .rejoining then .settled else s1.str.state } }))
  | none => s

/-- The version becomes ACTIVE with its T_ACT, and the one before it DRAINING (R66, R572, Table 2-1). -/
def activateVersion (v : Version) (tAct : Time) (s : Dev) : Dev :=
  let k := versionSlot v
  let former := s.activeSlot
  let s1 := match former with
    | some j => s.setSlot j { s.slot j with state := .draining, tDrain := none, drainStarted := false, drainDone := false }
    | none => s
  let s2 := s1.setSlot k { s1.slot k with state := .active }
  let s3 := count .versionCommits 0 { s2 with rules := { s2.rules with tAct := tAct, actAt := s.now } }
  let s4 := endWait v .ok [mk64 [v.toNat], mk64 [tAct.toNat]] s3
  match s4.str.adopt with
  | some a => if a.target = v then adoptionDone former s4 else s4
  | none => s4

/-- The pending activation takes effect. -/
def activateNow (s : Dev) : Dev :=
  match s.str.toActivate with
  | some a =>
    let x := s.slot (versionSlot a.version)
    if a.done = none ∧ x.state = .prepared ∧ x.version = a.version then
      let s1 := activateVersion a.version a.tAct s
      ackActivation { s1 with str := { s1.str with toActivate := some { a with done := some s.now } } }
    else s
  | none => s

/-- An ACTIVATE is journalled, and takes effect at once when its time has passed (R66). -/
def takeActivate (v : Version) (t : Time) (hdr : Option CtlHdr) (s : Dev) : Dev :=
  let s1 := { s with str := { s.str with toActivate := some ⟨v, t, hdr, false, none⟩ } }
  let s2 := jPut 3 v.toNat 8 (.activate t) (.activated v t) s1
  if Time.ge s.now t then activateNow s2 else s2

def isActivate : CtlBody → Option (Version × Time)
  | .activate v t => some (v, t)
  | _ => none

/-- ACTIVATE_RECEIVE (R66). A version active already is acknowledged with the time of its activation. -/
def activateReceive (s : Dev) : Dev :=
 takeMsg isActivate (fun m (v, t) s =>
    if s.activeSlot.isSome ∧ s.activeVersion = v then reply m.hdr (.activateAck v s.rules.actAt) s
    else takeActivate v t (some m.hdr) s) s

/-- The command. -/
def execActivateReceive (s : State) : Host.Outcome State Fault Refusal := ran Wf.activateReceive activateReceive s

/-- At T_ACT the version becomes active (R66). -/
def activation (s : Dev) : Dev :=
  match s.str.toActivate with
  | some a => if a.done = none then activateNow (reach a.tAct s) else s
  | none => s

/-- ACTIVATION (R66). -/
def execActivation (s : State) : Host.Outcome State Fault Refusal := ran Wf.activation activation s

/-- The ACTIVATE record is durable. -/
def afterActivated (v : Version) (s : Dev) : Dev :=
  match s.str.toActivate with
  | some a => if a.version = v then ackActivation { s with str := { s.str with toActivate := some { a with durable := true } } } else s
  | none => s

/-- The decision is durable: ACTIVATE goes out and the manager is answered (Table 2-4, step 6). A version that the lead node rolls forward is counted
there, whether or not the lead node has it active already; the members that follow its ACTIVATE do not count it: DESIGN CHOICE, log 116 (R76, R91). -/
def afterDecided (v : Version) (s : Dev) : Dev :=
  match s.str.commit with
  | some c =>
    if c.version = v ∧ c.stage = .decide then
      let t := s.now + BitVec.ofNat 48 s.rttNs
      let s1 := { s with str := { s.str with commit := some { c with stage := .activate, acked := [], latest := 0, tAct := t, job := none } } }
      let s2 := match c.job with
        | some j => answer j .ok [mk64 [v.toNat], mk64 [t.toNat]] s1
        | none => s1
      let s3 := whenB c.rollForward (count .versionRollForward 0) (sendAwaited .broadcast [.activate v t] s2.others s2)
      if s3.activeSlot.isSome ∧ s3.activeVersion = v then activateAcked v s3.str.node s3.rules.actAt s3 else takeActivate v t none s3
    else s
  | none => s

/-! ### Pulling records (R84, Table 2-4 step 4) -/

/-- A rule set as a record that holds it whole (log 71). -/
def wholeRecord (s : Dev) (k : Nat) : List Change :=
  let x := (s.slot k).rules
  let v := (s.slot k).version
  x.tables.map (fun e => Change.tableDefine e.1 e.2.keyBytes e.2.onchip e.2.extLog2) ++
  x.profiles.map (fun e => Change.keyProfile e.1 e.2.table e.2.pieces) ++
  x.plans.map (fun e => Change.plan e.1 e.2.steps e.2.miss) ++
  x.segments.map (fun e => Change.segment e.1 true e.2.w1 e.2.w2) ++
  x.policies.map (fun e => Change.policy e.1 e.2.incomplete e.2.malformed) ++
  x.programs.map (fun e => Change.program e.1 true e.2.w1 e.2.w2) ++
  (x.image.map (fun im => Change.image im.raw)).toList ++
  tableNumbers.flatMap (fun t => let p := s.places t
    (((SMap.entries p.onchip) ++ (SMap.entries p.stash) ++ (SMap.entries p.ext)).filter (fun e => Entry.validFor e.2 v)).map
      (fun e => Change.insert t e.2.key e.2.act)) ++
  ((SMap.entries s.rules.routes).filter (fun e => e.2.slots.getLsbD k)).map
    (fun e => Change.route e.2.v6 e.2.vrf.toNat e.2.addr e.2.len true e.2.act)

def isPullReq : CtlBody → Option (Version × Nat)
  | .pullReq v n => some (v, n)
  | _ => none

/-- A neighbour sends the record of a version that it holds, from a segment on. -/
def pullReq (h : CtlHdr) (v : Version) (first : Nat) (s : Dev) : Dev :=
  let k := versionSlot v
  if (s.slot k).processes ∧ (s.slot k).version = v then
    let cs := wholeRecord s k
    let segs := recordSegs cs
    let datas := (segs.zipIdx.filter (fun (_, i) => decide (first ≤ i))).map (fun (b, i) => CtlBody.pullData v i b)
    let s1 := datas.foldl (fun s b => sendCtl (.member h.org) b s) s
    reply h (.pullEnd v segs.length (Config.sha384 (Config.recordBytes cs))) s1
  else unsee h s

/-- PULL_REQ_RECEIVE (R84). -/
def pullReqReceive (s : Dev) : Dev := takeMsg isPullReq (fun m (v, n) s => pullReq m.hdr v n s) s

/-- The command. -/
def execPullReqReceive (s : State) : Host.Outcome State Fault Refusal := ran Wf.pullReqReceive pullReqReceive s

/-- A member from which a version can be pulled: a neighbour whose TOPO names it ACTIVE, PREPARED or DRAINING, else any such member. -/
def pullFrom (s : Dev) (v : Version) : Option Nat :=
  let has := fun (t : Topo) => decide (t.node ≠ s.str.node) && s.str.members.contains t.node &&
    (t.active == v || (t.preparedValid && t.prepared == v) || t.draining.getLsbD (versionSlot v))
  let near := s.str.topos.filter (fun t => has t && (neighbours s.str.topos s.str.node).any (fun l => l.1 == t.node))
  ((near ++ s.str.topos.filter has).head?).map Topo.node

/-- The next record is asked for; with none left the adoption waits for ACTIVATE, or is done when the target is active here (R84, steps 3
and 4). -/
def pullNext (s : Dev) : Dev :=
  match s.str.adopt with
  | none => s
  | some a =>
    match a.toPull with
    | v :: _ =>
      match pullFrom s v with
      | some n => sendAwaited (.member n) [.pullReq v 0] [n] s
      | none => s
    | [] => if s.activeSlot.isSome ∧ s.activeVersion = a.target then adoptionDone none s else s

/-- A pulled record is durable: it is placed, PREPARED for the target and DRAINING for any other (R84, step 3). A local build ends (R72). -/
def placePulled (a : Adoption) (v : Version) (cs : List Change) (full : Bool) (s : Dev) : Dev :=
  let k := versionSlot v
  let s0 := loseBuild s
  let st := if v = a.target then SlotState.prepared else SlotState.draining
  let s1 := match placeVersion v st cs full s0 with
    | .ok s1 => s1
    | .error (st, c) => changeRefused v st c s0
  let kept := s1.str.adopt.elim [] Adoption.retires
  let s1 := { s1 with str := { s1.str with adopt := some { a with toPull := a.toPull.filter (fun w => decide (w ≠ v)), retires := kept } } }
  let s2 := match kept.find? (fun r => r.1 == k) with
    | some (_, force, t) => if st = .draining then retireSlot k force t s1 else s1
    | none => s1
  let s3 := if v = a.target ∧ a.roll then
      (if s2.isLead then prepareAcked v s2.str.node .ok s2 else sendCtl (.member s2.str.lead) (.prepareAck v 0) s2)
    else s2
  let s4 := pullNext s3
  match s4.str.toActivate with
  | some p => if Time.ge s4.now p.tAct then activateNow s4 else s4
  | none => s4

/-- A PREPARE record is durable: of this member's commit, of a held PREPARE, of a pull; any other was given up meanwhile. -/
def afterPrepared (v : Version) (cs : List Change) (full : Bool) (s : Dev) : Dev :=
  let k := versionSlot v
  let mine : Bool := match s.str.commit with
    | some c => c.version == v && decide (c.stage = .prepare) && !c.rollForward
    | none => false
  if mine && decide ((s.slot k).state = .building) then
    prepareAcked v s.str.node .ok (s.setSlot k { s.slot k with state := .prepared, record := cs })
  else match s.str.held.filter (fun h => decide (h.version = v) && decide (h.changes = cs) && !full), s.str.adopt.filter (fun a => a.toPull.contains v) with
    | some h, _ =>
      let s0 := loseBuild s
      match placeVersion v .prepared cs false s0 with
      | .ok s1 => reply h.hdr (.prepareAck v 0) { s1 with str := { s1.str with held := none } }
      | .error (st, c) => jPut 5 v.toNat 8 .withdraw (.withdrawn v) (refusePrepare h st (changeRefused v st c s0))
    | none, some a => placePulled a v cs full s
    | none, none => tryPrepare (jPut 5 v.toNat 8 .withdraw (.withdrawn v) s)

def isPullData : CtlBody → Option CtlBody
  | .pullData v i bs => some (.pullData v i bs)
  | .pullEnd v n d => some (.pullEnd v n d)
  | _ => none

/-- The slot that a pulled record needs: a local build ends, and what the slot holds still is force-retired first (R72, R84, step 3). -/
def clearFor (v : Version) (s : Dev) : Dev :=
  let s1 := loseBuild s
  if (s1.slot (versionSlot v)).state = .free then s1 else forceRetire (versionSlot v) s1

/-- A pulled record's frame: a segment, or the end, at which the slot is cleared and the record is journalled (R84, step 3). -/
def pullData (h : CtlHdr) (b : CtlBody) (s : Dev) : Dev :=
  match b with
  | .pullData v i bs => addSegment v i bs s
  | .pullEnd v n d =>
    match assembled s v n d with
    | none => unsee h s
    | some cs =>
      let s0 := clearFor v s
      match jTake 1 v.toNat (Config.recordBytes cs).length (.prepare cs true) (.prepared v) s0 with
      | none => unsee h (jnlRefused (recLines (Config.recordBytes cs).length) s0)
      | some s1 =>
        gotReply (fun b => match b with
          | .pullReq w _ => w == v
          | _ => false) h.org { s1 with str := { s1.str with assembly := none } }
  | _ => s

/-- PULL_DATA_RECEIVE (R84). -/
def pullDataReceive (s : Dev) : Dev := takeMsg isPullData (fun m b s => pullData m.hdr b s) s

/-- The command. -/
def execPullDataReceive (s : State) : Host.Outcome State Fault Refusal := ran Wf.pullDataReceive pullDataReceive s

end Sys2Proof.Machine
end

