-- ==== Sys2Proof/Machine/LanternLink.lean ====
section
/-! DEFINITION. Bundles at work: link blocks and replay, frames in and out, slow marks and rerouting, lane widths, heartbeats, joining (R410
to R427, R433 to R435, R443). -/
namespace Sys2Proof.Machine

/-! ### Link blocks -/

/-- CRC-32C of R411: initial value 0xFFFF_FFFF and final inversion. -/
def linkCrc (bs : List Byte) : BitVec 32 := ~~~(crc32c (BitVec.allOnes 32) bs)

/-- A link block that has arrived (Table 12-2). Reserved bits are ignored (R13). -/
structure LinkIn where
  seq : BitVec 12
  ackSeq : BitVec 12
  ackValid : Bool
  nak : Bool
  vc1 : Bool
  sof : Bool
  eof : Bool
  abort : Bool
  credit0 : Nat
  credit1 : Nat
  idle : Bool
  payload : List Byte
  deriving DecidableEq, Repr

/-- The fields of a block's 268 bytes. -/
def linkIn (bs : List Byte) : LinkIn :=
  let h : W64 := BitVec.ofNat 64 (beNat (bs.take 8))
  { seq := BitVec.ofNat 12 (fld h 63 52), ackSeq := BitVec.ofNat 12 (fld h 51 40), ackValid := bit h 39, nak := bit h 38, vc1 := bit h 37,
    sof := bit h 36, eof := bit h 35, abort := bit h 34, credit0 := fld h 25 18, credit1 := fld h 17 10, idle := bit h 9,
    payload := (bs.drop 8).take (fld h 33 26 + 1) }

/-- The block's CRC holds. -/
def linkCrcOk (bs : List Byte) : Bool := beNat ((bs.drop 264).take 4) == (linkCrc (bs.take 264)).toNat

/-- Replays the kept blocks in order; the 17th replay of a block takes the bundle out of UP with cause 3 (R412). -/
def replayBlocks (b : Nat) (s : Dev) : Dev :=
  let x := s.bundle b
  let us := x.unacked.map (fun e => (e.1, e.2 + 1))
  let s1 := countBy .lnkReplays b us.length (s.setBundle b { x with unacked := us, ackFrom := s.now })
  let s2 := us.foldl (fun s e => emit (.linkBlock b e.1.seq e.1.vc1 e.1.sof e.1.eof e.1.abort e.1.payload) s) s1
  if us.any (fun e => decide (17 ≤ e.2)) then leaveUp b 3 s2 else s2

/-- The blocks that ACK_SEQ covers. -/
def ackCovers (ack seq : BitVec 12) : Bool := decide ((ack - seq).toNat < 2048)

/-! ### Waiting for a new way (R425) -/

/-- Frames for a destination that wait on a bundle: in the traffic manager, on their way to LNK, in LNK until they have left. -/
def waitsFor (s : Dev) (b n : Nat) : Bool :=
  let toN := fun (p : Pkt) => p.dest == .node n && !p.tag.flag 6
  s.tmg.queues.any (fun e => (((tqueue s.tmg.live e.1).map TQueue.port) == some (64 + b)) && e.2.items.any (fun i => toN i.pkt)) ||
    (s.xchan isl.TMG isl.LNK).carried.any (fun p => toN p && !p.gone) ||
    ((s.bundle b).localQ ++ (s.bundle b).leaving.toList).any (fun f => f.dest == n && f.kind == 0)

/-- Destinations move to their new bundles where nothing for them waits on the old one (R425). -/
def tryMoves (s : Dev) : Dev :=
  let go := fun (e : Nat × Option RouteTo) => match e.2 with
    | some r => match r.moveTo with
      | some (b, h) => if waitsFor s r.bundle e.1 then e else (e.1, some { r with bundle := b, hops := h, moveTo := none, mayDiscard := false })
      | none => e
    | none => e
  { s with str := { s.str with routes := s.str.routes.map go } }

/-- A block's acknowledgement and credits are applied; a NAK replays what is left (R412, R413). -/
def takeAck (b : Nat) (k : LinkIn) (s : Dev) : Dev :=
  let x := s.bundle b
  let left := if k.ackValid then x.unacked.filter (fun e => !ackCovers k.ackSeq e.1.seq) else x.unacked
  let s1 := s.setBundle b { x with unacked := left, ackFrom := if left.length < x.unacked.length then s.now else x.ackFrom, credit0 := x.credit0 + k.credit0, credit1 := x.credit1 + 16 * k.credit1 }
  let s2 := if k.nak && k.ackValid then replayBlocks b s1 else s1
  tryMoves (drainTx b (s2.bundle b).txq.length s2)

/-- A block is refused (R412). -/
def nakBlock (b : Nat) (s : Dev) : Dev :=
  count .lnkBlockCrc b (emit (.linkAck b ((s.bundle b).rxNext - 1) true 0 0) s)

/-- VC 1 credits that are owed go back in units of 16 blocks (Table 12-2). -/
def returnCredit1 (b n : Nat) (s : Dev) : Dev :=
  let x := s.bundle b
  let owed := x.owed1 + n
  let s1 := s.setBundle b { x with owed1 := owed % 16 }
  if 16 ≤ owed then emit (.linkAck b (x.rxNext - 1) false 0 (owed / 16)) s1 else s1

/-- Blocks of a frame of `n` bytes. -/
def blocksOf (n : Nat) : Nat := (n + 255) / 256

/-- An accepted block's payload joins its VC's frame. An aborted frame is discarded (R423). -/
def takePayload (b : Nat) (k : LinkIn) (s : Dev) : Dev :=
  let x := s.bundle b
  let asm := (if k.sof then [] else if k.vc1 then x.asm1 else x.asm0) ++ k.payload
  let set := fun (bs : List Byte) (y : Bundle) => if k.vc1 then { y with asm1 := bs } else { y with asm0 := bs }
  if k.abort then
    let s1 := count .lnkAborted b (s.setBundle b (set [] x))
    if k.vc1 then returnCredit1 b (blocksOf asm.length) s1 else s1
  else if k.eof then s.setBundle b { set [] x with frames := x.frames ++ [(k.vc1, asm)] }
  else s.setBundle b (set asm x)

/-- A link block arrives on a bundle whose blocks run (R412). -/
def linkBlockReceive (b : Nat) (bs : List Byte) (s : Dev) : Dev :=
  if (s.bundle b).state = .down ∨ (s.bundle b).state = .refused then s
  else if !linkCrcOk bs then nakBlock b s
  else
    let k := linkIn bs
    let s1 := takeAck b k s
    let x := s1.bundle b
    if k.idle ∨ x.state = .down then s1
    else if k.seq ≠ x.rxNext then nakBlock b s1
    else takePayload b k (emit (.linkAck b k.seq false (b2n (!k.vc1)) 0) (s1.setBundle b { x with rxNext := x.rxNext + 1 }))

/-- LINK_BLOCK_RECEIVE (R412). -/
def execLinkBlockReceive (bundle : Nat) (bs : List Byte) (s : State) : Host.Outcome State Fault Refusal := ran (Wf.linkBlockReceive bundle bs) (linkBlockReceive bundle bs) s

/-- No acknowledgement has come within REPLAY_US (R412, Table 1-13). -/
def lanternReplayTimeout (bundle : Nat) (s : Dev) : Dev :=
  if (s.bundle bundle).unacked = [] then s
  else replayBlocks bundle (reach ((s.bundle bundle).ackFrom + BitVec.ofNat 48 (1000 * s.str.replayUs)) s)

/-- The command. -/
def execLanternReplayTimeout (bundle : Nat) (s : State) : Host.Outcome State Fault Refusal := ran (Wf.lanternReplayTimeout bundle) (lanternReplayTimeout bundle) s

/-! ### Frames in -/

/-- The age of R67 is exceeded; an ENTRY_TIME ahead of this member's string time has none. -/
def tooOld (s : Dev) (t : Tag) : Bool := !t.exempt && Time.later s.now t.entryTime && decide (s.rttNs < Time.since s.now t.entryTime)

/-- A relayed frame goes out on a bundle that is UP, or is counted (R418). -/
def relayOn (o : Nat) (f : LFrame) (s : Dev) : Dev :=
  let x := s.bundle o
  let g := { f with hops := f.hops - 1 }
  if x.state = .up ∨ (2 ≤ f.kind ∧ Bundle.live x) then
    s.setBundle o (if f.kind < 2 then { x with transit := x.transit ++ [g] } else { x with ctl := x.ctl ++ [g] })
  else count .lnkNoRoute o s

/-- A unicast that is not for this member (R418). -/
def relayUnicast (b : Nat) (f : LFrame) (s : Dev) : Dev :=
  if f.hops = 0 then count .lnkTtlDrop b s
  else match relayBundle s b f.dest with
    | some o => relayOn o f s
    | none => count .lnkNoRoute b s

/-- A flood or broadcast goes on: on the other bundle in linear mode, else on every connected bundle but the one it came in on (R418). -/
def relayFlood (b : Nat) (f : LFrame) (s : Dev) : Dev :=
  if f.hops = 0 then s
  else (floodBundles s b).foldl (fun s o => relayOn o f s) s

/-- A data packet is delivered to LNK's distributor with FROM_STRING, to be parsed afresh (R279, R420). -/
def deliverData (f : LFrame) (s : Dev) : Dev :=
  let p := { Pkt.fresh (f.tag.setFlag 7) f.body with afresh := true }
  toDistributor 2 p (traceStep isl.LNK 11 (64 + (f.from'.map Prod.fst).getD 0) p s)

/-- A control frame's message waits for MGT or LNK (R420); one that does not parse is dropped. -/
def deliverCtl (b : Nat) (f : LFrame) (s : Dev) : Dev :=
  match ctlMsg f.tag.originNode.toNat f.body with
  | some (h, m) => { s with str := { s.str with ctlIn := s.str.ctlIn ++ [⟨b, h, m⟩] } }
  | none => count .lnkHdrBad b s

/-- A REFORM or TOPO is delivered, and relayed once for its origin and epoch (Table 12-4, R436). -/
def reformFrame (b : Nat) (f : LFrame) (s : Dev) : Dev :=
  match ctlMsg f.tag.originNode.toNat f.body with
  | none => count .lnkHdrBad b s
  | some (h, m) =>
    let key := (CtlBody.typ m, h.org, h.epoch.toNat)
    if h.org = s.str.node ∨ s.str.relayed.contains key then s
    else if epochOlder h.epoch s.str.epoch then count .lnkStaleEpoch 0 s
    else
      let s1 := deliverCtl b f { s with str := { s.str with relayed := key :: s.str.relayed } }
      if f.hops = 0 then s1
      else (s1.bundleList.filter (fun o => decide (o ≠ b) && Bundle.live (s1.bundle o))).foldl (fun s o => relayOn o f s) s1

/-- A frame by its KIND (Table 12-4). -/
def frameByKind (b : Nat) (f : LFrame) (s : Dev) : Dev :=
  let mine := f.dest == s.str.node
  match f.kind with
  | 0 => if mine then deliverData f s else relayUnicast b f s
  | 1 => relayFlood b f (deliverData f s)
  | 2 => if mine then deliverCtl b f s else relayUnicast b f s
  | 3 => if f.tag.originNode.toNat = s.str.node then s else relayFlood b f (deliverCtl b f s)
  | 4 => deliverCtl b f s
  | _ => reformFrame b f s

/-- The frame needs room at LNK's distributor (R51). -/
def frameStalls (s : Dev) (f : LFrame) : Bool :=
  (f.kind == 1 || (f.kind == 0 && f.dest == s.str.node)) && !distAccepts s 2 f.tag.flowHash ((f.body.length + 32 + 255) / 256)

/-- LNK's distributor refuses the frame: counted once for a full hold space (R51, Table 1-14). -/
def refuseFrame (b : Nat) (f : LFrame) (s : Dev) : Dev :=
  if (s.bundle b).refused || !bucketFull s 2 f.tag.flowHash ((f.body.length + 32 + 255) / 256) then s
  else count .distHoldFull 2 (s.setBundle b { s.bundle b with refused := true })

/-- The checks of R415, R35, R65 and R67, in that order: the counters of the one that fails. A tag that fails its own check, or the one of its
version, fails the frame (R415), and is counted for the island too (R35, R65). -/
def frameCheck (s : Dev) (b : Nat) (vc1 : Bool) (bs : List Byte) : List (Ctr × Nat) ⊕ LFrame :=
  match lanternParse vc1 bs with
  | none => .inl [(.lnkHdrBad, b)]
  | some f =>
    if !tagBytesOk ((bs.drop 8).take 32) (bs.drop 40).length then .inl [(.lnkHdrBad, b), (.tagBad, isl.LNK)]
    else if !s.versionOk f.tag then .inl [(.lnkHdrBad, b), (.vslotBad, isl.LNK)]
    else if tooOld s f.tag then .inl [(.lnkAged, b)]
    else .inr { f with from' := some (b, s.now) }

/-- LNK takes a whole frame from a bundle. Data frames are taken once the bundle's join has been accepted. -/
def lanternFrameReceive (b : Nat) (s : Dev) : Dev :=
  let x := s.bundle b
  match x.frames with
  | [] => s
  | (vc1, bs) :: rest =>
    let s0 := s.setBundle b { x with frames := rest, refused := false }
    let s1 := if vc1 then returnCredit1 b (blocksOf bs.length) s0 else s0
    match frameCheck s b vc1 bs with
    | .inl cs => cs.foldl (fun s c => count c.1 c.2 s) s1
    | .inr f =>
      if frameStalls s f then refuseFrame b f s
      else
        let s2 := countBy .lnkRxBytes b f.body.length (count .lnkRxFrames b s1)
        if f.kind = 4 ∨ Bundle.live x then frameByKind b f s2 else s2

/-- LANTERN_FRAME_RECEIVE (R415). -/
def execLanternFrameReceive (bundle : Nat) (s : State) : Host.Outcome State Fault Refusal := ran (Wf.lanternFrameReceive bundle) (lanternFrameReceive bundle) s

/-! ### Frames out -/

/-- A control frame from TMG waits on VC 0 of its bundle: a unicast to its member, else a broadcast (R417, Table 12-4). -/
def lnkControl (b : Nat) (p : Pkt) (s : Dev) : Dev :=
  let frame := fun (dest kind hops : Nat) => (⟨dest, kind, hops, p.tag, p.bytes, none⟩ : LFrame)
  let f? := match p.dest with
    | .node n => (s.route n).map (fun r => frame n 2 (r.hops - 1))
    | _ => (s.floodHops b).map (fun h => frame 0xFFFFF 3 h)
  match f? with
  | some f => queueCtl b f s
  | none => count .lnkNoRoute b s

/-- A packet from TMG waits on a bundle with its Lantern header (R67, R417). -/
def lnkQueue (b : Nat) (p : Pkt) (s : Dev) : Dev :=
  if p.tag.flag 2 then lnkControl b p s
  else if tooOld s p.tag then count .lnkAged b (traceStep isl.LNK 9 (64 + b) p s)
  else
    let frame := fun (dest kind hops : Nat) => (⟨dest, kind, hops, p.tag, p.bytes, none⟩ : LFrame)
    let f? := if p.tag.flag 6 then (s.floodHops b).map (fun h => frame 0xFFFFF 1 h)
      else match p.dest with
        | .node n => (s.route n).map (fun r => frame n 0 (r.hops - 1))
        | _ => some (frame (s.bundle b).peerNode 0 0)
    match f? with
    | some f => s.setBundle b { s.bundle b with localQ := (s.bundle b).localQ ++ [f] }
    | none => count .lnkNoRoute b (traceStep isl.LNK 9 (64 + b) p s)

/-- The next VC 1 frame by the weights of R421: true for transit. -/
def transitFirst (s : Dev) (x : Bundle) : Bool :=
  let wt := s.regField isl.LNK 0x040 3 0
  let wl := s.regField isl.LNK 0x040 11 8
  match x.transit, x.localQ with
  | [], _ => false
  | _, [] => true
  | _, _ => decide (x.transitDeficit * wl ≤ x.localDeficit * wt)

/-- TX_TIME of a heartbeat is written as its first block leaves (R434). -/
def stampTx (s : Dev) (f : LFrame) : LFrame :=
  if f.kind = 4 ∧ byteAt f.body 7 = 1 then { f with body := f.body.take 16 ++ w64be [s.now.toNat] ++ f.body.drop 24 } else f

/-- A frame starts on a bundle; VC 0 blocks go before VC 1 blocks that wait (R413, R421). -/
def startFrame (b : Nat) (f : LFrame) (s : Dev) : Dev :=
  let vc1 := decide (f.kind < 2)
  let bs := LFrame.bytes f
  let s1 := countBy .lnkTxBytes b f.body.length (count .lnkTxFrames b s)
  let s2 := match f.from' with
    | some (_, t) => noteTransit t (count .lnkTransit b s1)
    | none => s1
  let s3 := if vc1 then traceStep isl.LNK 10 (64 + b) (Pkt.fresh f.tag f.body) s2 else s2
  let x := s3.bundle b
  let ks := frameBlocks vc1 false bs
  let q := if vc1 then x.txq ++ ks else x.txq.filter (fun k => !k.vc1) ++ ks ++ x.txq.filter LinkBlock.vc1
  drainTx b q.length (s3.setBundle b { x with txq := q, leaving := if vc1 then some f else x.leaving })

/-- The bundle may carry this member's data: it is UP and the member is neither STARTING nor REJOINING (R84, R439). -/
def dataMayGo (s : Dev) (x : Bundle) : Bool :=
  decide (x.state = .up) && !s.str.starting && decide (s.str.state ≠ .rejoining)

/-- A VC 1 frame starts, or is too old (R421, R422). -/
def startData (b : Nat) (transit : Bool) (f : LFrame) (rest : List LFrame) (s : Dev) : Dev :=
  let x := s.bundle b
  let n := (LFrame.bytes f).length
  let y := if transit then { x with transit := rest, transitDeficit := x.transitDeficit + n }
    else { x with localQ := rest, localDeficit := x.localDeficit + n }
  let z := if y.transit = [] ∨ y.localQ = [] then { y with transitDeficit := 0, localDeficit := 0 } else y
  let s1 := s.setBundle b z
  tryMoves (if tooOld s f.tag then count .lnkAged b s1 else startFrame b f s1)

/-- The next frame of a bundle goes: VC 0 first, then transit or local data once the block queue is empty (R421). -/
def lanternFrameTransmit (b : Nat) (s0 : Dev) : Dev :=
  let s := applyBoundary .frameStart isl.LNK s0
  let x := s.bundle b
  match x.ctl with
  | f :: rest =>
    if x.state = .down ∨ x.state = .refused ∨ (f.kind ≠ 4 ∧ !Bundle.live x) then s
    else startFrame b (stampTx s f) (s.setBundle b { x with ctl := rest })
  | [] =>
    if !dataMayGo s x || !x.txq.isEmpty then s
    else if transitFirst s x then
      match x.transit with
      | f :: rest => startData b true f rest s
      | [] => s
    else match x.localQ with
      | f :: rest => startData b false f rest s
      | [] => s

/-- LANTERN_FRAME_TRANSMIT (R417). -/
def execLanternFrameTransmit (bundle : Nat) (s : State) : Host.Outcome State Fault Refusal := ran (Wf.lanternFrameTransmit bundle) (lanternFrameTransmit bundle) s

/-! ### Slow marks (R424, R425) -/

/-- The route of a destination becomes a new way: at once where there was none or it is lost, else when nothing for it waits on the old
bundle. -/
def setWay (lost : Nat → Nat → Bool) (discard : Bool) (n : Nat) (w : Option (Nat × Found)) (s : Dev) : Dev :=
  let put := fun (r : Option RouteTo) => { s with str := { s.str with routes := SMap.put none s.str.routes n r } }
  match w with
  | none => put none
  | some (b, f) =>
    let fresh : RouteTo := { bundle := b, hops := f.hops, slowPath := f.slow, moveTo := none, mayDiscard := false, since := s.now }
    match s.route n with
    | none => put (some fresh)
    | some r =>
      if r.bundle = b ∨ lost n r.bundle then put (some fresh)
      else put (some { r with slowPath := f.slow, moveTo := some (b, f.hops), mayDiscard := discard, since := s.now })

/-- Routes from the TOPO set (R416). -/
def setRoutes (lost : Nat → Nat → Bool) (discard : Bool) (s : Dev) : Dev :=
  let rs := reachByBundle s.str.topos s.str.node
  tryMoves ((s.others).foldl (fun s n => setWay lost discard n (bestWay rs n) s) s)

/-- The slow mark of a node's link is noted in the TOPO set. -/
def noteSlow (node b : Nat) (slow : Bool) (s : Dev) : Dev :=
  let upd := fun (t : Topo) => if t.node = node then { t with links := t.links.modify b (fun l => { l with slow := slow }) } else t
  { s with str := { s.str with topos := s.str.topos.map upd } }

/-- Every member of a ring routes round slow links where the other way has none (R424). -/
def rerouteSlow (discard : Bool) (s : Dev) : Dev := if s.str.topology = 2 then setRoutes (fun _ _ => false) discard s else s

/-- A mark is set or cleared on this member's bundle. -/
def markSlow (b : Nat) (slow : Bool) (s : Dev) : Dev :=
  let x := s.bundle b
  let s1 := noteSlow s.str.node b slow (s.setBundle b { x with slow := slow })
  rerouteSlow slow (sendCtl .broadcast (.linkState b slow x.peerNode) s1)

/-- Frames wait on the bundle. -/
def framesWait (x : Bundle) : Bool := !x.transit.isEmpty || !x.localQ.isEmpty || x.txq.any LinkBlock.vc1

/-- Since when a condition has held. -/
def sinceWhen (holds : Bool) (now : Time) (t : Option Time) : Option Time := if holds then some (t.getD now) else none

/-- One credit sample of a bundle (R424). -/
def sampleCredit (s : Dev) (b : Nat) : Dev :=
  let x := s.bundle b
  s.setBundle b { x with starved := sinceWhen (decide (x.state = .up) && x.credit1 == 0 && framesWait x) s.now x.starved,
                         flowing := sinceWhen (decide (0 < x.credit1)) s.now x.flowing }

/-- The credit sample, every 100 ns: the pending SLOW_HOLD_US applies, and every bundle is sampled (R424, Table 12-11). -/
def creditSample (s : Dev) : Dev := s.bundleList.foldl sampleCredit (applyBoundary .creditSample isl.LNK s)

/-- SLOW_HOLD_US in ns. -/
def Dev.slowHold (s : Dev) : Nat := s.regField isl.LNK 0x048 9 0 * 1000

/-- The peer has withheld all VC 1 credit for SLOW_HOLD_US while frames wait: the bundle is marked slow at the end of that period (R424). -/
def bundleMarkedSlow (bundle : Nat) (s0 : Dev) : Dev :=
  let s := creditSample s0
  match (s.bundle bundle).starved with
  | some t =>
    if (s.bundle bundle).slow then s
    else
      let s1 := reach (t.plus s.slowHold) s
      markSlow bundle true (logFault isl.LNK 0xFF 0x0706 0 (mk64 [bundle, at' (s1.bundle bundle).peerNode 8]) 0 s1)
  | none => s

/-- The command. -/
def execBundleMarkedSlow (bundle : Nat) (s : State) : Host.Outcome State Fault Refusal := ran (Wf.bundleMarkedSlow bundle) (bundleMarkedSlow bundle) s

/-- Credit has flowed for ten times SLOW_HOLD_US: the mark clears at the end of that period (R424). -/
def slowMarkClear (bundle : Nat) (s0 : Dev) : Dev :=
  let s := creditSample s0
  match (s.bundle bundle).flowing with
  | some t => if (s.bundle bundle).slow then markSlow bundle false (reach (t.plus (10 * s.slowHold)) s) else s
  | none => s

/-- The command. -/
def execSlowMarkClear (bundle : Nat) (s : State) : Host.Outcome State Fault Refusal := ran (Wf.slowMarkClear bundle) (slowMarkClear bundle) s

def isLinkState : CtlBody → Option (Nat × Bool)
  | .linkState b slow _ => some (b, slow)
  | _ => none

/-- LINK_STATE_RECEIVE (R424). -/
def linkStateReceive (s : Dev) : Dev := takeMsg isLinkState (fun m (b, slow) s => rerouteSlow slow (noteSlow m.hdr.org b slow s)) s

/-- The command. -/
def execLinkStateReceive (s : State) : Host.Outcome State Fault Refusal := ran Wf.linkStateReceive linkStateReceive s

/-- Waiting frames for a destination on a bundle are discarded from TMG, from their way to LNK and from LNK (R425). -/
def discardWaiting (b n : Nat) (s : Dev) : Dev :=
  let toN := fun (p : Pkt) => p.dest == .node n && !p.tag.flag 6
  let gone := fun (ps : List Pkt) (s : Dev) => ps.foldl (fun s p => count .lnkRerouteDiscard b (traceStep isl.LNK 9 (64 + b) p s)) s
  let s1 := ((s.tmg.queues.map Prod.fst).filter (fun q => ((tqueue s.tmg.live q).map TQueue.port) == some (64 + b))).foldl (fun s q =>
    let x := s.tq q
    gone ((x.items.map TItem.pkt).filter toN) (s.setTq q { x with items := x.items.filter (fun i => !toN i.pkt) })) s
  let c := s1.xchan isl.TMG isl.LNK
  let hit := fun (p : Pkt) => toN p && !p.gone
  let s2 := gone (c.carried.filter hit) (s1.setXchan isl.TMG isl.LNK { c with carried := c.carried.map (fun p => if hit p then { p with gone := true } else p) })
  let x := s2.bundle b
  let here := fun (f : LFrame) => f.dest == n && f.kind == 0
  gone ((x.localQ.filter here).map (fun f => Pkt.fresh f.tag f.body)) (s2.setBundle b { x with localQ := x.localQ.filter (fun f => !here f) })

/-- A slow mark has stood for 1 ms: the frames for a destination that still wait on the old bundle are discarded, and it moves (R425). -/
def rerouteDiscard (n : Nat) (s : Dev) : Dev :=
  match s.route n with
  | some r => if r.moveTo.isSome && r.mayDiscard then tryMoves (discardWaiting r.bundle n (reach (r.since + 1000000) s)) else s
  | none => s

/-- REROUTE_DISCARD (R425). -/
def execRerouteDiscard (node : Nat) (s : State) : Host.Outcome State Fault Refusal := ran (Wf.rerouteDiscard node) (rerouteDiscard node) s

/-! ### Lane widths (R426, R427) -/

/-- An end evaluates its use `u` of the window and `u10` of the last 10 µs, in per cent, and proposes a width (R426). -/
def shedEvaluation (b u u10 : Nat) (s0 : Dev) : Dev :=
  let s := applyBoundary .bundleEval isl.LNK s0
  let x := s.bundle b
  if x.state ≠ .up then s
  else
    let w := if s.regField isl.LNK 0x038 0 0 = 0 then s.maxWidth
      else if u < s.regField isl.LNK 0x038 14 8 ∧ 2 < x.width then x.width / 2
      else if s.regField isl.LNK 0x038 22 16 ≤ u10 ∧ x.width < s.maxWidth then 2 * x.width
      else x.width
    sendCtl (.link b) (.lane w x.locked) (s.setBundle b { x with proposed := w })

/-- SHED_EVALUATION (R426). -/
def execShedEvaluation (bundle u u10 : Nat) (s : State) : Host.Outcome State Fault Refusal := ran (Wf.shedEvaluation bundle u u10) (shedEvaluation bundle u u10) s

def isLane : CtlBody → Option (Nat × Bool)
  | .lane w l => some (w, l)
  | _ => none

/-- LANE_RECEIVE (R426): the peer's proposal and lock. -/
def laneReceive (s : Dev) : Dev := takeMsg isLane (fun m (w, l) s => s.setBundle m.bundle { s.bundle m.bundle with peerProposed := w, peerLocked := l }) s

/-- The command. -/
def execLaneReceive (s : State) : Host.Outcome State Fault Refusal := ran Wf.laneReceive laneReceive s

/-- An aligned group of `w` locked lanes stands among `n`. -/
def lockedGroup (lanes : BitVec 16) (n w : Nat) : Bool :=
  (List.range (n / w)).any (fun g => (List.range w).all (fun i => lanes.getLsbD (g * w + i)))

/-- The widest aligned group of locked lanes, 0 for none of 2 (R427). -/
def widest (lanes : BitVec 16) (n : Nat) : Nat := (([16, 8, 4, 2] : List Nat).find? (fun w => decide (w ≤ n) && lockedGroup lanes n w)).getD 0

/-- A width change: narrower when both ends propose it, wider when either does and both report their standby lanes locked (R426, R427). -/
def widthChange (b : Nat) (s : Dev) : Dev :=
  let x := s.bundle b
  if x.state ≠ .up then s
  else if x.proposed < x.width ∧ x.peerProposed < x.width ∧ 0 < x.proposed ∧ 0 < x.peerProposed then
    count .lnkShed b (s.setBundle b { x with width := Nat.max x.proposed x.peerProposed })
  else if x.width < x.proposed ∨ x.width < x.peerProposed then
    if x.locked ∧ x.peerLocked then
      let w := Nat.min (Nat.max x.proposed x.peerProposed) (widest x.lanesOk s.maxWidth)
      if x.width < w then count .lnkRestore b (s.setBundle b { x with width := w, locked := false, peerLocked := false }) else s
    else if x.locked = false then sendCtl (.link b) (.lane x.proposed true) (s.setBundle b { x with locked := true })
    else s
  else s

/-- WIDTH_CHANGE (R427). -/
def execWidthChange (bundle : Nat) (s : State) : Host.Outcome State Fault Refusal := ran (Wf.widthChange bundle) (widthChange bundle) s

/-- A lane loses lock (R427, R434). -/
def laneLockLoss (b lane : Nat) (s : Dev) : Dev :=
  let x := s.bundle b
  if x.lanesOk.getLsbD lane then
    let lanes := x.lanesOk &&& ~~~(BitVec.ofNat 16 (2 ^ lane))
    let w := widest lanes s.maxWidth
    let s1 := s.setBundle b { x with lanesOk := lanes, width := Nat.min x.width w }
    if Bundle.live x then
      let s2 := count .lnkLaneFail b s1
      if w = 0 then leaveUp b 1 s2 else s2
    else if w = 0 then s1.setBundle b { Bundle.reset with adminUp := x.adminUp, lanesOk := lanes }
    else s1
  else s

/-- LANE_LOCK_LOSS (R427). -/
def execLaneLockLoss (bundle lane : Nat) (s : State) : Host.Outcome State Fault Refusal := ran (Wf.laneLockLoss bundle lane) (laneLockLoss bundle lane) s

/-! ### Joining (R433) -/

/-- The bundle's lanes have locked and deskewed; authentication begins (Table 12-8, steps 1 and 2). -/
def bundleLock (b : Nat) (lanes : BitVec 16) (peer : Nat) (s : Dev) : Dev :=
  let x := s.bundle b
  if b < s.bundleCount ∧ x.adminUp ∧ (x.state = .down ∨ x.state = .training) ∧ 0 < widest lanes s.maxWidth then
    s.setBundle b { Bundle.reset with lanesOk := lanes, width := widest lanes s.maxWidth, state := .authenticating, peerBundle := peer }
  else s

/-- BUNDLE_LOCK (R433). -/
def execBundleLock (bundle : Nat) (lanes : BitVec 16) (peer : Nat) (s : State) : Host.Outcome State Fault Refusal := ran (Wf.bundleLock bundle lanes peer) (bundleLock bundle lanes peer) s

/-- A bundle is refused with a reason (R433). -/
def refuseJoin (b reason : Nat) (s : Dev) : Dev :=
  let x := s.bundle b
  count .lnkJoinRefused b (logFault isl.LNK 0xFF 0x0702 0 (mk64 [b, at' reason 4, at' x.peerNode 8]) 0
    (s.setBundle b { x with state := .refused, reason := reason, refusedAt := s.now, accepted := false, ctl := [] }))

/-- This member's JOIN for a bundle, signed with the admission key over the session's transcript (R432). -/
def joinBody (b : Nat) (s : Dev) : CtlBody :=
  let k := s.keySlot s.str.keySlot
  .join s.str.stringId s.str.node s.str.mode s.mgt.fwVersion s.str.epoch s.str.leadSide (Config.ecdsaSign k.priv (s.bundle b).transcript)

/-- The end of the SPDM session of a bundle (Table 12-8, steps 2 and 3). While an erasing alarm is present the admission key cannot sign the JOIN
(R514). -/
def bundleAuthenticated (b : Nat) (ok : Bool) (transcript : BitVec 384) (s : Dev) : Dev :=
  let x := s.bundle b
  if x.state ≠ .authenticating then s
  else if !ok then refuseJoin b 1 s
  else if s.eraseHold then refuseJoin b 3 s
  else
    let s1 := s.setBundle b { x with state := .joining, transcript := transcript }
    sendCtl (.link b) (joinBody b s1) s1

/-- The reason for which a JOIN is refused (Table 12-8, step 3). A peer that this side counts already under the same epoch is no second member but
the other end of the same side, which tree mode refuses as a cycle (R409). While an erasing alarm is
present every join is refused with reason 3 (R514). -/
def joinReason (s : Dev) (b : Nat) (sid : W64) (node mode : Nat) (fw epoch : BitVec 32) (sig : List Byte) : Option Nat :=
  let here := s.str.members.contains node
  let same := here && epoch == s.str.epoch && node != s.str.node
  let major := fun (v : BitVec 32) => v.toNat / 2 ^ 24
  if sid ≠ s.str.stringId then some 2
  else if s.eraseHold || !Config.ecdsaVerify (s.keySlot s.str.keySlot).pub (s.bundle b).transcript sig then some 3
  else if here && !same then some 4
  else if mode ≠ s.str.mode then some 5
  else if major fw ≠ major s.mgt.fwVersion then some 6
  else if !here && decide (8192 ≤ s.str.members.length) then some 7
  else if same && s.str.mode == 2 then some 8
  else none

/-- A JOIN is checked: the bundle is refused, or takes part in the re-formation that starts (Table 12-8, steps 3 and 4). -/
def joinReceive (b : Nat) (sid : W64) (node mode : Nat) (fw epoch : BitVec 32) (sig : List Byte) (s : Dev) : Dev :=
  let x := s.bundle b
  if x.state ≠ .joining then s
  else
    let s1 := s.setBundle b { x with peerNode := node }
    match joinReason s b sid node mode fw epoch sig with
    | some reason => refuseJoin b reason s1
    | none =>
      let s2 := s1.setBundle b { s1.bundle b with accepted := true }
      startReform 2 (if epochOlder s2.str.highEpoch epoch then { s2 with str := { s2.str with highEpoch := epoch } } else s2)

def isJoin : CtlBody → Option (W64 × Nat × Nat × BitVec 32 × BitVec 32 × List Byte)
  | .join sid node mode fw epoch _ sig => some (sid, node, mode, fw, epoch, sig)
  | _ => none

/-- JOIN_RECEIVE (R433). -/
def joinReceiveCmd (s : Dev) : Dev := takeMsg isJoin (fun m (sid, node, mode, fw, epoch, sig) s => joinReceive m.bundle sid node mode fw epoch sig s) s

/-- The command. -/
def execJoinReceive (s : State) : Host.Outcome State Fault Refusal := ran Wf.joinReceive joinReceiveCmd s

/-- A REFUSED bundle begins again, 1 s after its refusal (R433). -/
def joinRetry (bundle : Nat) (s : Dev) : Dev :=
  let x := s.bundle bundle
  if x.state = .refused ∧ x.adminUp then
    (reach (x.refusedAt + 1000000000) s).setBundle bundle { Bundle.reset with state := .training, lanesOk := x.lanesOk }
  else s

/-- The command. -/
def execJoinRetry (bundle : Nat) (s : State) : Host.Outcome State Fault Refusal := ran (Wf.joinRetry bundle) (joinRetry bundle) s

/-! ### Heartbeats (R434, R435, R443) -/

/-- Hops to the lead node. -/
def hopsToLead (s : Dev) : Nat := if s.isLead then 0 else (s.route s.str.lead).elim 0 RouteTo.hops

/-- HEARTBEAT_SEND (R434): every heartbeat interval, on a bundle that is UP or joins (Table 12-8). -/
def heartbeatSend (bundle : Nat) (s0 : Dev) : Dev :=
  let x := s0.bundle bundle
  if Bundle.live x then
    let s := rollTransit (reach (x.beatAt + BitVec.ofNat 48 (1000 * s0.str.heartbeatUs)) s0)
    sendCtl (.link bundle) (.heartbeat s.now x.lastTx x.lastRx (hopsToLead s) (freeMin (ownFree s) bundle s)) (s.setBundle bundle { x with beatAt := s.now })
  else s0

/-- The command. -/
def execHeartbeatSend (bundle : Nat) (s : State) : Host.Outcome State Fault Refusal := ran (Wf.heartbeatSend bundle) (heartbeatSend bundle) s

/-- The signed difference of two string times in ns. -/
def timeDiff (a b : Time) : Int := (a - b).toInt

/-- The servo's adjustment, at most 200 ppm (R443). -/
def clampPpb (x : Int) : Int := if x < -200000 then -200000 else if 200000 < x then 200000 else x

/-- The bound of R443 for a member, in ps: ±(2 + 0.25 × h) ns. -/
def clockBound (hops : Nat) : Int := 2000 + 250 * (hops : Int)

/-- A heartbeat updates the bundle's counts and times, and on the parent bundle the servo (R435, R443). -/
def heartbeatReceive (b : Nat) (tx etx erx : Time) (hops : Nat) (free : FreeCounts) (s : Dev) : Dev :=
  let x := s.bundle b
  let timed := etx != 0
  let delay := (timeDiff s.now etx - timeDiff tx erx) * 500
  let off := (timeDiff erx etx - timeDiff s.now tx) * 500
  let y := { x with lastTx := tx, lastRx := s.now, free := some free, peerHops := hops,
                    delayPs := if timed then delay.toNat else x.delayPs, offsetPs := if timed then off else x.offsetPs }
  let s1 := s.setBundle b y
  if s.str.parent = some b ∧ timed then
    { s1 with str := { s1.str with freqPpb := clampPpb (Config.servoPpb s.str.freqPpb off),
                                   locked := decide (-(clockBound (hopsToLead s)) ≤ off) && decide (off ≤ clockBound (hopsToLead s)) } }
  else s1

def isHeartbeat : CtlBody → Option (Time × Time × Time × Nat × FreeCounts)
  | .heartbeat a b c h f => some (a, b, c, h, f)
  | _ => none

/-- HEARTBEAT_RECEIVE (R443). -/
def heartbeatReceiveCmd (s : Dev) : Dev := takeMsg isHeartbeat (fun m (a, b, c, h, f) s => heartbeatReceive m.bundle a b c h f s) s

/-- The command. -/
def execHeartbeatReceive (s : State) : Host.Outcome State Fault Refusal := ran Wf.heartbeatReceive heartbeatReceiveCmd s

/-- HEARTBEAT_TIMEOUT (R434). -/
def heartbeatTimeout (bundle : Nat) (s : Dev) : Dev :=
  let x := s.bundle bundle
  if x.state = .up then
      leaveUp bundle 2 (count .lnkHbMissed bundle (reach (x.lastRx + BitVec.ofNat 48 (3000 * s.str.heartbeatUs)) s))
    else s

/-- The command. -/
def execHeartbeatTimeout (bundle : Nat) (s : State) : Host.Outcome State Fault Refusal := ran (Wf.heartbeatTimeout bundle) (heartbeatTimeout bundle) s

end Sys2Proof.Machine
end

