-- ==== Sys2Proof/Machine/Reform.lean ====
section
/-! DEFINITION. Re-formation of the string: TOPO sets, the judgement of a side, the token, adoption and roll-forward (R70, R76, R82 to R84,
R429, R430, R436 to R442, R447, R572). -/
namespace Sys2Proof.Machine

/-! ### Resends (R429) -/

/-- Messages go out again under their MSG_SEQ. -/
def resendControl (a : Awaited) (s : Dev) : Dev := a.bodies.foldl (fun s e => sendAs e.1 a.dst e.2 s) s

/-- The oldest message whose reply has not come is sent again, or after 8 resends a re-formation with CAUSE 3 starts (R429). -/
def controlResend (s : Dev) : Dev :=
  match s.str.awaited with
  | [] => s
  | a :: rest =>
    if s.str.state = .forming then s
    else if 8 ≤ a.resends then startReform 3 { s with str := { s.str with awaited := rest ++ [{ a with resends := 0 }] } }
    else
      let s1 := { s with str := { s.str with awaited := rest ++ [{ a with resends := a.resends + 1 }] } }
      count .lnkCtrlResend 0 (resendControl a s1)

/-- CONTROL_RESEND_TIMEOUT (R429). -/
def execControlResendTimeout (s : State) : Host.Outcome State Fault Refusal := ran Wf.controlResendTimeout controlResend s

/-! ### REFORM, TOPO, PARAMS -/

def isReform : CtlBody → Option Nat
  | .reform c => some c
  | _ => none

/-- A later epoch has come: the member forms under it (R436, step 2). -/
def followEpoch (e : BitVec 32) (s : Dev) : Dev := if epochOlder s.str.epoch e then enterForming e s else s

/-- REFORM_RECEIVE (R436). -/
def reformReceive (s : Dev) : Dev := takeMsg isReform (fun m _ s => followEpoch m.hdr.epoch s) s

/-- The command. -/
def execReformReceive (s : State) : Host.Outcome State Fault Refusal := ran Wf.reformReceive reformReceive s

def isTopo : CtlBody → Option Topo
  | .topo t => some t
  | _ => none

/-- A TOPO joins the set of its epoch. -/
def addTopo (t : Topo) (s : Dev) : Dev :=
  if s.str.state = .forming then { s with str := { s.str with toposAt := s.now, topos := s.str.topos.filter (fun u => decide (u.node ≠ t.node)) ++ [t] } } else s

/-- TOPO_RECEIVE (R436). -/
def topoReceive (s : Dev) : Dev := takeMsg isTopo (fun m t s => addTopo t (followEpoch m.hdr.epoch s)) s

/-- The command. -/
def execTopoReceive (s : State) : Host.Outcome State Fault Refusal := ran Wf.topoReceive topoReceive s

/-- String parameters take force. -/
def setParams (h r : Nat) (s : Dev) : Dev := { s with str := { s.str with heartbeatUs := h, maxRttUs := r, pendParams := none } }

def isParams : CtlBody → Option (Nat × Nat)
  | .params h r => some (h, r)
  | _ => none

/-- PARAMS is journalled; a joining member takes the values at once, any other at the re-formation that follows (R446). -/
def paramsReceive (h r : Nat) (s : Dev) : Dev :=
  let s1 := jPut 6 0x0700 16 (.params h r) .nothing s
  if s.str.state = .rejoining then setParams h r s1 else { s1 with str := { s1.str with pendParams := some (h, r) } }

/-- PARAMS_RECEIVE (R446). -/
def paramsReceiveCmd (s : Dev) : Dev := takeMsg isParams (fun _ (h, r) s => paramsReceive h r s) s

/-- The command. -/
def execParamsReceive (s : State) : Host.Outcome State Fault Refusal := ran Wf.paramsReceive paramsReceiveCmd s

/-! ### Judging a side (R437, R438) -/

/-- The side's reference: its lead node, and the TOPOs of the side's members of it. None where no member holds one. -/
def sideReference (ts : List Topo) : Option (Nat × List Topo) :=
  match ts.filter (fun t => decide (0 < t.refMembers)) with
  | [] => none
  | t :: rest =>
    let e := rest.foldl (fun m u => if epochOlder m u.refEpoch then u.refEpoch else m) t.refEpoch
    let atE := (t :: rest).filter (fun u => u.refEpoch == e)
    let l := (atE.map Topo.refLeadNode).foldl Nat.min 0xFFFFF
    some (l, atE.filter (fun u => u.refLeadNode == l))

/-- PARTITION and whether the side is a lead side (R437). -/
def judge (ts : List Topo) : Nat × Bool :=
  match sideReference ts with
  | none => (0, true)
  | some (l, mine) =>
    let size := (mine.map Topo.refMembers).foldl Nat.max 0
    let n := mine.length
    let lead := decide (size < 2 * n) || (decide (size = 2 * n) && mine.any (fun t => t.node == l))
    (if lead then (if size ≤ n then 0 else 1) else 2, lead)

/-- PRIOR_LEAD of the leading side (R438). -/
def leadingPrior (ts : List Topo) : Nat :=
  let leads := ts.filter Topo.leadSide
  ((if leads = [] then ts else leads).map Topo.priorLead).foldl Nat.min 0xFFFFF

/-- The later of two versions. -/
def laterVersion (a b : Version) : Version := if Version.later b a then b else a

/-- A TOPO's DRAINING versions: for each bit s, the latest version below ACTIVE_VERSION whose number mod 8 is s (R438). -/
def drainingOf (t : Topo) : List Version :=
  (slotNumbers.filter (fun k => t.draining.getLsbD k)).map (fun k =>
    let d := (t.active.toNat + 8 - k) % 8
    t.active - BitVec.ofNat 32 (if d = 0 then 8 else d))

/-- A TOPO's member holds a version PREPARED. -/
def Topo.prepares (t : Topo) (v : Version) : Bool := t.preparedValid && t.prepared == v

/-- What the leading side brings: its TOPOs, its active version, its live versions, and the version due for roll-forward (R76, R84, R438). -/
structure Leading where
  topos : List Topo
  active : Version
  live : List Version
  roll : Option Version
  deriving DecidableEq, Repr

/-- The leading side, of a side's TOPOs. A roll-forward is due on a lead side for the latest version PREPARED somewhere on the leading side that is one
later than the version active there, unless a later one is active elsewhere. -/
def leadingOf (ts : List Topo) (leadSide : Bool) : Leading :=
  let l := leadingPrior ts
  let us := ts.filter (fun t => t.priorLead == l)
  let act := (us.map Topo.active).foldl laterVersion ((us.map Topo.active).headD 0)
  let due := (us.filter (fun t => t.preparedValid && t.prepared == t.active + 1 && !Version.later act t.prepared)).map Topo.prepared
  { topos := us, active := act, live := (us.flatMap (fun t => t.active :: drainingOf t)).eraseDups,
    roll := match due with
      | [] => none
      | v :: rest => if leadSide then some (rest.foldl laterVersion v) else none }

/-- The target version of R84. -/
def Leading.target (x : Leading) : Version := x.roll.getD x.active

/-- The PRIOR_LEAD of the leading side. -/
def Leading.prior (x : Leading) : Nat := (x.topos.map Topo.priorLead).headD 0

/-- This member takes over the leading side's versions: it stood on another side, or has not done the steps of R84 yet. -/
def isFollowing (x : Leading) (s : Dev) : Bool :=
  s.str.priorLead != Leading.prior x || (match s.str.adopt with
    | some a => decide (a.live ≠ [])
    | none => false)

/-- Nodes of the leading side that hold the roll-forward version, PREPARED or active. -/
def Leading.holders (x : Leading) (v : Version) : List Nat := (x.topos.filter (fun t => Topo.prepares t v || t.active == v)).map Topo.node

/-- The member of the leading side that sends T_ACT: its former lead node, or its lowest where that one is gone. -/
def Leading.sender (x : Leading) : Nat :=
  let l := Leading.prior x
  if x.topos.any (fun t => t.node == l) then l else (x.topos.map Topo.node).foldl Nat.min 0xFFFFF

/-! ### The side's own data -/

/-- The bundle to the time parent: the neighbour on the shortest path to the lead node, the lower bundle on a tie (R443). -/
def parentOf (rs : List (Nat × List Found)) (lead : Nat) : Option Nat :=
  ((rs.filterMap (fun (b, fs) => (fs.find? (fun f => f.node == lead)).map (fun f => (b, f.hops)))).foldl
    (fun (best : Option (Nat × Nat)) w => match best with
      | none => some w
      | some v => if w.2 < v.2 then some w else some v) none).map Prod.fst

/-- Membership, topology, routes, time parent and round trip from the closed set (R416, R436, R443, R447). -/
def formSide (s : Dev) : Dev :=
  let ts := s.str.topos
  let rs := reachByBundle ts s.str.node
  let ms := sideMembers rs s.str.node
  let top := topologyOf s.str.mode ts ms
  let rtt := measuredRtt top ts ms
  let s0 := match s.str.pendParams with
    | some (h, r) => setParams h r s
    | none => s
  let tooLong := decide (s0.rttNs < rtt)
  let lead := ms.headD s.str.node
  let s1 := { s0 with str := { s0.str with members := ms, topology := top, lead := lead, parent := parentOf rs lead, measuredNs := rtt,
                                           rttExceeded := tooLong, routes := s0.str.routes.filter (fun e => ms.contains e.1) } }
  let s2 := setRoutes (fun n b => !(rs.any (fun e => e.1 == b && e.2.any (fun f => f.node == n)))) false s1
  whenB tooLong (logFault isl.LNK 0xFF 0x0705 0 (mk64 [lo 22 rtt]) 0) s2

/-- On a lead side the reference becomes the new membership, and is journalled (R437). -/
def newReference (s : Dev) : Dev :=
  let s1 := { s with str := { s.str with refMembers := s.str.members, refEpoch := s.str.epoch, refLead := s.str.lead } }
  jPut 6 0x0701 (16 + 4 * s.str.members.length) (.epoch s.str.epoch s.str.members s.str.lead) .nothing s1

/-! ### The token (R442) -/

/-- The highest TOKEN_SEQ among TOPOs. -/
def maxSeq (ts : List Topo) : BitVec 32 :=
  (ts.map Topo.tokenSeq).foldl (fun m q => if epochOlder m q then q else m) ((ts.map Topo.tokenSeq).headD 0)

/-- The token of a lead side stands idle with the lead node, since every commit under way has stopped; with a roll-forward due the lead
node holds it. -/
def placeToken (roll : Bool) (s : Dev) : Dev :=
  let ts := s.str.topos
  let hs := ts.filter Topo.holdsToken
  let q0 := if hs = [] then maxSeq ts + 1 else maxSeq hs
  let q := if roll ∧ hs ≠ [] then q0 + 1 else q0
  let s1 := { s with str := { s.str with tokenSeq := q, holdsToken := s.isLead, holder := if roll then some s.str.lead else none } }
  whenB (s.isLead && decide (hs = [])) (logFault isl.LNK 0xFF 0x0704 0 (mk64 [q.toNat]) 0) s1

/-! ### A commit of this member when the side changes (R442, R572) -/

/-- The commit has sent PREPARE: its messages stop, and its VERSION_COMMIT waits for what becomes of the version. -/
def stopCommit (c : Commit) (s : Dev) : Dev :=
  let s1 := dropAwaited (fun b => CtlBody.typ b == 0x20 || CtlBody.typ b == 0x21 || (CtlBody.typ b == 0x24 && b.bytes.take 8 == w64be [c.version.toNat]))
    { s with str := { s.str with commit := none } }
  match c.job with
  | some j => { s1 with str := { s1.str with jobWait := some (j, c.version) } }
  | none => s1

/-- What becomes of a commit of this member. -/
def reformCommit (s : Dev) : Dev :=
  let s0 := withdrawToken s
  let s1 := whenB (s0.str.partition == 2) (endNext .stalePartition) s0
  match s1.str.commit with
  | none => s1
  | some c =>
    if c.stage = .token then
      if s1.str.partition = 2 then endCommit .stalePartition [] s1 else s1
    else stopCommit c s1

/-- A version whose PREPARE reached nobody durably is abandoned with the build that it came from (R76). -/
def abandonBuild (s : Dev) : Dev :=
  match s.str.jobWait with
  | some (_, v) =>
    let k := versionSlot v
    if (s.slot k).state = .building ∧ (s.slot k).version = v then endWait v .versionConflict [] (dropBuild k s) else s
  | none => s

/-! ### Adoption (R84) and roll-forward (R76) -/

/-- This member holds a version live; the target counts as held only where it is active. -/
def holdsLive (s : Dev) (target v : Version) : Bool :=
  let x := s.slot (versionSlot v)
  x.version == v && (if v = target then decide (x.state = .active) else x.processes)

/-- Versions in ascending order, none later than `top`. -/
def ascending (top : Version) (vs : List Version) : List Version := sortBy (fun a b => decide ((top - b).toNat ≤ (top - a).toNat)) vs

/-- A member of a following side begins R84: steps 1 and 2, then the pulls of step 3. -/
def beginAdoption (x : Leading) (s : Dev) : Dev :=
  let t := x.target
  let s1 := match s.preparedSlot with
    | some k =>
      let v := (s.slot k).version
      if v = t then jPut 5 v.toNat 8 .withdraw (.withdrawn v) (discardVersion k s) else abandon k s
    | none => s
  let s2 := (s1.drainingSlots.filter (fun k => !x.live.contains (s1.slot k).version)).foldl (fun s k => forceRetire k s) s1
  let pull := ascending t ((t :: x.live).eraseDups.filter (fun v => !holdsLive s2 t v))
  pullNext { s2 with str := { s2.str with adopt := some ⟨t, x.live, pull, x.roll.isSome, []⟩, state := .rejoining } }

/-- A member of the leading side under a roll-forward of `v`: it pulls the version where it lacks it; where its PREPARE has become durable since
its TOPO, it acknowledges it now. Any other PREPARED version is abandoned (R76). -/
def joinRoll (x : Leading) (v : Version) (s : Dev) : Dev :=
  let s1 := match s.preparedSlot with
    | some k => if (s.slot k).version = v then s else abandon k s
    | none => s
  let y := s1.slot (versionSlot v)
  if y.processes && y.version == v then
    if (x.holders v).contains s.str.node then s1
    else if s1.isLead then s1 else sendCtl (.member s1.str.lead) (.prepareAck v 0) s1
  else pullNext { s1 with str := { s1.str with adopt := some ⟨v, [], [v], true, []⟩ } }

/-- No roll-forward is due on a lead side: what is PREPARED on the leading side is abandoned. -/
def noRoll (s : Dev) : Dev :=
  match s.preparedSlot with
  | some k => abandon k s
  | none => s

/-- The lead node carries out the roll-forward from Table 2-4, step 5 (R76); a commit of its own that waits for the token comes after it. -/
def leadRoll (x : Leading) (v : Version) (s : Dev) : Dev :=
  let y := s.slot (versionSlot v)
  let own := if y.processes && y.version == v then [s.str.node] else []
  let job := match s.str.jobWait with
    | some (j, w) => if w = v then some j else none
    | none => none
  let c : Commit := { version := v, stage := .prepare, acked := (own ++ (x.holders v).filter (fun n => decide (n ≠ s.str.node))).eraseDups, latest := 0,
                      failed := none, tAct := 0, rollForward := true, job := job }
  let next := match s.str.commit with
    | some d => some d
    | none => s.str.nextCommit
  settlePrepare { s with str := { s.str with commit := some c, nextCommit := next, jobWait := if job.isSome then none else s.str.jobWait } }

/-- Slots that drain somewhere on the leading side; under a roll-forward, not that of the version before it. -/
def drainingSomewhere (x : Leading) : List Nat :=
  slotNumbers.filter (fun k => x.topos.any (fun t => t.draining.getLsbD k) && decide (x.roll.map (fun v => versionSlot (v - 1)) ≠ some k))

/-- The leading side's member that sends T_ACT gives it to the following members, with the string's parameters (R84, step 4; R446): the T_ACT that its
version has (R572). -/
def sendTarget (x : Leading) (followers : List Nat) (s : Dev) : Dev :=
  let s1 := sendCtl .broadcast (.params s.str.heartbeatUs s.str.maxRttUs) s
  if x.roll.isSome then s1
  else sendAwaited .broadcast [.activate x.active s.rules.tAct] followers
    { s1 with str := { s1.str with toRetire := drainingSomewhere x } }

/-- The versions of a side after its re-formation: adoption on a following member, roll-forward, and retirement from its first step (R70). A slot whose
version a member's TOPO still names ACTIVE is not retired: that member has not acknowledged the activation that follows it (log 118). -/
def settleVersions (x : Leading) (s : Dev) : Dev :=
  let following := isFollowing x s
  let ts := s.str.topos
  let followers := (ts.map Topo.node).filter (fun n => !(x.topos.any (fun t => t.node == n)))
  let s1 := if following then beginAdoption x s
    else match x.roll with
      | some v => joinRoll x v s
      | none => if s.str.leadSide then noRoll s else s
  let s2 := if s.str.leadSide then abandonBuild s1 else s1
  let s3 := if !following && s.str.node == x.sender && !followers.isEmpty then sendTarget x followers s2 else s2
  if s.isLead then
    match x.roll with
    | some v => leadRoll x v { s3 with str := { s3.str with toRetire := drainingSomewhere x } }
    | none =>
      if followers = [] then
        let ok := fun (k : Nat) => !(ts.any (fun t => versionSlot t.active == k))
        retireWhere ok (s3.now + BitVec.ofNat 48 s3.rttNs) { s3 with str := { s3.str with toRetire := (drainingSomewhere x).filter ok } }
      else s3
  else s3

/-! ### The end of a re-formation (R430, R436) -/

/-- Control messages go under the new epoch: those whose reply is awaited from present members, and those that waited (R430). -/
def resumeControl (s : Dev) : Dev :=
  let keep := s.str.awaited.filterMap (fun a =>
    let gone := a.bodies.any (fun e => CtlBody.typ e.2 == 0x10 || CtlBody.typ e.2 == 0x29)
    let m := a.missing.filter (fun n => s.str.members.contains n)
    if gone || m.isEmpty then none else some { a with missing := m })
  let q := s.str.held0
  let s1 := keep.foldl (fun s a => resendControl a s) { s with str := { s.str with awaited := keep, held0 := [] } }
  q.foldl (fun s e => sendCtl e.1 e.2 s) s1

/-- A forced build that waits ends on a non-lead side (R71). -/
def endBuildWait (s : Dev) : Dev :=
  match s.str.buildWait with
  | some (j, _) => if s.str.partition = 2 then answer j .stalePartition [] { s with str := { s.str with buildWait := none } } else s
  | none => s

/-- A commit that waits for the token asks again (R441, R442). -/
def askAgain (s : Dev) : Dev :=
  match s.str.commit with
  | some c => if c.stage = .token then askToken s else s
  | none => beginNext s

/-- The re-formation's completion is counted and logged (R436). -/
def reformLogged (s : Dev) : Dev :=
  logFault isl.LNK 0xFF 0x0703 0 (mk64 [s.str.epoch.toNat, at' (lo 14 s.str.members.length) 32, at' s.str.partition 46]) 0 (count .lnkReforms 0 s)

/-- The member is still STARTING: it takes the side's routes and waits on (R439). -/
def stillStarting (s : Dev) : Dev := resumeControl (upAccepted (reformLogged { s with str := { s.str with state := .starting } }))

/-- The side is settled: judged, its token placed, its versions brought together. PARTITION_EVENTS counts every re-formation that ends on a non-lead
side, also one of a member that was on one before: DESIGN CHOICE, log 120 (R91). -/
def settleSide (s : Dev) : Dev :=
  let (p, lead) := judge s.str.topos
  let x := leadingOf s.str.topos lead
  let following := isFollowing x s
  let s1 := { s with str := { s.str with partition := p, leadSide := lead, starting := false, waitFrom := none, tokenQueue := [], drained := [],
                                         toRetire := [], held := none, assembly := none, state := .settled,
                                         adopt := if following then s.str.adopt else none } }
  let s2 := reformLogged (whenB (p == 2) (count .partitionEvents 0) s1)
  let s3 := endBuildWait (reformCommit (if lead then placeToken x.roll.isSome (newReference s2) else s2))
  let s4 := resumeControl (if following then s3 else upAccepted s3)
  let s5 := settleVersions x s4
  askAgain { s5 with str := { s5.str with priorLead := s5.str.lead } }

/-- The closed set is acted on (R436, step 4). A STARTING member goes on waiting unless its side holds all of its reference (R439). -/
def reformationEnd (s : Dev) : Dev :=
  if s.str.state = .forming ∧ topoClosed s.str.topos then
    let s1 := formSide (reach (s.str.toposAt + 2000) s)
    if s1.str.starting && !(s1.str.refMembers.all (fun n => s1.str.members.contains n)) then stillStarting s1 else settleSide s1
  else s

/-- REFORMATION_END (R436). -/
def execReformationEnd (s : State) : Host.Outcome State Fault Refusal := ran Wf.reformationEnd reformationEnd s

/-- A member begins in its mode: alone and DISABLED in mode 0; STARTING while its journal holds a reference; else a string of one that is its own
lead side (R439, Table 12-9). A roll-forward that is due is carried out (R76). -/
def enterString (s : Dev) : Dev :=
  let s0 := { s with str := { s.str with members := [s.str.node], lead := s.str.node, priorLead := s.str.node, partition := 0, topology := 0, routes := [],
                                         parent := none, measuredNs := 0, rttExceeded := false, tokenQueue := [], holder := none, holdsToken := true,
                                         awaited := [], held0 := [], ctlIn := [], adopt := none, held := none, assembly := none, drained := [], toRetire := [] } }
  if s.str.mode = 0 then
    let s1 := { s0 with str := { s0.str with state := .disabled, starting := false, waitFrom := none, leadSide := true } }
    let s2 := { s1 with str := { s1.str with topos := [ownTopo s1] } }
    settleVersions (leadingOf s2.str.topos true) s2
  else if s.str.refMembers = [] then startReform 2 { s0 with str := { s0.str with starting := false, waitFrom := none, leadSide := true } }
  else { s0 with str := { s0.str with state := .starting, starting := true, waitFrom := some s.now, leadSide := false } }

/-- The wait of R439 is over: the member completes a re-formation and proceeds under R437. -/
def startupWaitExpiry (s : Dev) : Dev :=
  match s.str.waitFrom with
  | some t =>
    if s.str.starting then
      let s1 := reach (t + BitVec.ofNat 48 (s.str.startupWaitMs * 1000000)) s
      startReform 2 { s1 with str := { s1.str with starting := false, waitFrom := none } }
    else s
  | none => s

/-- STARTUP_WAIT_EXPIRY (R439). -/
def execStartupWaitExpiry (s : State) : Host.Outcome State Fault Refusal := ran Wf.startupWaitExpiry startupWaitExpiry s

end Sys2Proof.Machine
end

