-- ==== Sys2Proof/Machine/Metering.lean ====
section
/-! DEFINITION. Candle marks, the close of periods, meter records, and the metering commands (R517 to R529; Table 15-7). -/
namespace Sys2Proof.Machine

/-! ### Marks -/

/-- The newest open period. -/
def Dev.newestPeriod (s : Dev) : OpenPeriod := s.mtr.opens.headD ⟨0, 0, false, false, []⟩

/-- A mark that this member would place itself: at the last mark plus the spacing of the last two, of those that are no later than its newest period
(R520). -/
def ownMark (s : Dev) : Option (BitVec 32 × Time) :=
  let newest := s.newestPeriod.period
  match s.mtr.lastMarks.filter (fun e => !Version.later e.1 newest) with
  | (_, t) :: (_, u) :: _ => some (newest + 1, t + (t - u))
  | _ => none

/-- The next mark: its period, its time, and whether it is placed without an announcement (R520). An announcement of the next period is the next mark; of
a later one, where this member would place none before it. None before any mark has been announced, or while only one has: it has no spacing (log
90). -/
def nextMark (s : Dev) : Option (BitVec 32 × Time × Bool) :=
  match s.mtr.announced.find? (fun e => e.1 == s.newestPeriod.period + 1) with
  | some (n, t) => some (n, t, false)
  | none =>
    match s.mtr.announced, ownMark s with
    | (n, t) :: _, some (m, u) => if Time.ge u t then some (n, t, false) else some (m, u, true)
    | (n, t) :: _, none => some (n, t, false)
    | [], some (m, u) => some (m, u, true)
    | [], none => none

/-- This member announces marks: it is the lead node of the lead side, or alone (R520). -/
def announces (s : Dev) : Bool := s.isLead && !s.nonLead && !s.str.starting

/-- A mark is noted: the last two, and the one announced behind them. -/
def noteMark (n : BitVec 32) (t : Time) (s : Dev) : Dev :=
  { s with mtr := { s.mtr with lastMarks := ((n, t) :: s.mtr.lastMarks.filter (fun e => e.1 != n)).take 3 } }

/-- The journal's record of a mark. A record that it refuses is not kept. -/
def journalMark (n : BitVec 32) (t : Time) (placed : Bool) (s : Dev) : Dev :=
  match jTake 6 n.toNat 16 (.mark n t placed) .nothing s with
  | some s1 => s1
  | none => jnlRefused (recLines 16) s

/-- An announced mark is journalled and held until it is reached. -/
def holdMark (n : BitVec 32) (t : Time) (s : Dev) : Dev :=
  let s1 := noteMark n t { s with mtr := { s.mtr with announced := s.mtr.announced.filter (fun e => e.1 != n) ++ [(n, t)] } }
  journalMark n t false s1

/-- The lead node announces a mark to the string. -/
def announceMark (n : BitVec 32) (t : Time) (s : Dev) : Dev := sendCtl .broadcast (.candle n t) (holdMark n t s)

/-- The mark is reached: its period opens; the lead node announces the one that follows, after which a new period length is in force
(R520). -/
def candleMark (s0 : Dev) : Dev :=
  match nextMark s0 with
  | none => s0
  | some (n, t, placed) =>
    let s := reach t s0
    let s1 := { s with mtr := { s.mtr with
      opens := ⟨n, t, placed, false, []⟩ :: s.mtr.opens, announced := s.mtr.announced.filter (fun e => Version.later e.1 n) } }
    let s2 := if placed then
        logFault isl.MGT 0xFF 0x1303 0 (mk64 [n.toNat]) 0 (count .mtrSelfMarks 0 (journalMark n t true (noteMark n t s1)))
      else s1
    if announces s2 then
      let s3 := announceMark (n + 1) (t + BitVec.ofNat 48 (s2.mtr.periodS * 1000000000)) s2
      { s3 with mtr := { s3.mtr with periodS := s3.mtr.nextPeriodS } }
    else s2

/-- CANDLE_MARK (R520). -/
def execCandleMark (s : State) : Host.Outcome State Fault Refusal := ran Wf.candleMark candleMark s

def isCandle : CtlBody → Option (BitVec 32 × Time)
  | .candle n t => some (n, t)
  | _ => none

/-- An announcement is journalled; of a period that this member has opened already only its time is noted. The period in force is what
the last two announcements are apart. -/
def candleReceive (n : BitVec 32) (t : Time) (s : Dev) : Dev :=
  let s1 := match s.mtr.lastMarks with
    | (m, u) :: _ =>
      if n = m + 1 then
        let p := Time.since t u / 1000000000
        { s with mtr := { s.mtr with periodS := p, nextPeriodS := p } }
      else s
    | [] => s
  if Version.later n s.newestPeriod.period then holdMark n t s1 else journalMark n t false (noteMark n t s1)

/-- CANDLE_RECEIVE (R520). -/
def candleReceiveCmd (s : Dev) : Dev := takeMsg isCandle (fun _ (n, t) s => candleReceive n t s) s

/-- The command. -/
def execCandleReceive (s : State) : Host.Outcome State Fault Refusal := ran Wf.candleReceive candleReceiveCmd s

/-! ### Meter records -/

/-- Payload bytes of a METER record (R525). -/
def meterLen (r : MeterRec) : Nat := 32 + 264 * r.entries.length

/-- The entries of a period: one for each slice and generation with a meter that is not zero. -/
def meterEntries (counts : SMap W64) : List (Nat × Nat × List W64) :=
  let keys := (counts.map (fun e => e.1 / 32)).eraseDups
  keys.map (fun k => (k % 4096, k / 4096, (List.range 32).map (fun m => SMap.get 0 counts (32 * k + m))))

/-- Records that wait go to the journal, lost periods first, until it refuses one (R523). -/
def flushMeters : Nat → Dev → Dev
  | 0, s => s
  | n + 1, s =>
    match s.mtr.lostQ ++ s.mtr.waiting with
    | [] => s
    | r :: _ =>
      match jTake 7 r.period.toNat (meterLen r) (.meter r) (.metered r.period) s with
      | some s1 =>
        flushMeters n (if s.mtr.lostQ.isEmpty then { s1 with mtr := { s1.mtr with waiting := s1.mtr.waiting.drop 1 } }
          else { s1 with mtr := { s1.mtr with lostQ := s1.mtr.lostQ.drop 1 } })
      | none => jnlRefused (recLines (meterLen r)) s

/-- Every record that waits is presented. -/
def presentMeters (s : Dev) : Dev := flushMeters (s.mtr.lostQ.length + s.mtr.waiting.length) s

/-- The record of a lost period: LOST set, no entries (R523). -/
def lostRecord (r : MeterRec) : MeterRec := { r with lost := true, entries := [] }

/-- A frozen period waits for the journal; with four waiting already the oldest is lost (R523). -/
def freeze (r : MeterRec) (s : Dev) : Dev :=
  let s1 := presentMeters { s with mtr := { s.mtr with waiting := s.mtr.waiting ++ [r] } }
  if !s1.mtr.waiting.contains r then s1
  else
    match s1.mtr.waiting with
    | old :: rest =>
      let s2 := if 4 < s1.mtr.waiting.length then
          logFault isl.MGT 0xFF 0x1301 0 (mk64 [old.period.toNat]) 0 (count .mtrLostPeriods 0
            { s1 with mtr := { s1.mtr with waiting := rest, lostQ := s1.mtr.lostQ ++ [lostRecord old] } })
        else s1
      logFault isl.MGT 0xFF 0x1302 0 (mk64 [r.period.toNat]) 0 s2
    | [] => s1

/-- The oldest open period closes one maximum string round trip after the mark that ended it (R521, R522). -/
def periodClose (s0 : Dev) : Dev :=
  match s0.mtr.opens.reverse with
  | p :: q :: _ =>
    let s := reach (q.mark + BitVec.ofNat 48 s0.rttNs) s0
    let r : MeterRec :=
      { period := p.period, lost := p.lost, selfMarked := p.selfMarked, mark := p.mark, next := q.mark, node := s.str.node,
        entries := if p.lost then [] else meterEntries p.counts }
    freeze r { s with mtr := { s.mtr with opens := s.mtr.opens.dropLast } }
  | _ => s0

/-- PERIOD_CLOSE (R522). -/
def execPeriodClose (s : State) : Host.Outcome State Fault Refusal := ran Wf.periodClose periodClose s

/-- The lead node notes a member's period as done; STRING_DONE is the last that every present member has reported (R522). -/
def memberDone (node : Nat) (n : BitVec 32) (s : Dev) : Dev :=
  let d := SMap.put 0 s.mtr.doneBy node (n.toNat + 1)
  let all := s.str.members.map (fun m => SMap.get 0 d m)
  let low := all.foldl Nat.min (all.headD 0)
  { s with mtr := { s.mtr with doneBy := d, stringDone := if low = 0 then s.mtr.stringDone else BitVec.ofNat 32 (low - 1) } }

/-- A METER record is durable: the period is done here, and the lead node is told (R522). -/
def afterMetered (n : BitVec 32) (s : Dev) : Dev :=
  let s1 := { s with mtr := { s.mtr with localDone := some n } }
  if s.isLead then memberDone s.str.node n s1 else sendCtl (.member s.str.lead) (.candleDone n) s1

def isCandleDone : CtlBody → Option (BitVec 32)
  | .candleDone n => some n
  | _ => none

/-- CANDLE_DONE_RECEIVE (R522): on the lead node. -/
def candleDoneReceive (s : Dev) : Dev := takeMsg isCandleDone (fun m n s => if s.isLead then memberDone m.hdr.org n s else s) s

/-- The command. -/
def execCandleDoneReceive (s : State) : Host.Outcome State Fault Refusal := ran Wf.candleDoneReceive candleDoneReceive s

/-! ### Register values (Table 15-6) -/

def mtrStatus (s : Dev) : W64 :=
  let placed := match nextMark s with
    | some (_, _, b) => b
    | none => false
  mk64 [lo 3 s.mtr.waiting.length, at' (b2n placed) 3, at' (lo 12 s.mtr.periodS) 16, at' s.newestPeriod.period.toNat 32]

def mtrNextMark (s : Dev) : W64 :=
  match nextMark s with
  | some (_, t, _) => mk64 [t.toNat]
  | none => 0

def mtrDone (s : Dev) : W64 :=
  mk64 [(s.mtr.localDone.getD 0).toNat, at' (if s.isLead then s.mtr.stringDone.toNat else 0) 32]

def mtrOldest (s : Dev) : W64 := mk64 [s.mtr.oldest.toNat]

/-! ### Commands -/

def spec0900 : CmdSpec := mgrCmd 0x0900 [bits 11 0] 16

/-- METER_CONFIG's effect: at its first use it sets the first mark, the next whole multiple of the period (R520). -/
def setPeriod (p : Nat) (s : Dev) : Dev :=
  if (nextMark s).isSome ∨ s.jnl.replaying.isSome then
    { s with mtr := { s.mtr with nextPeriodS := p, periodS := if s.jnl.replaying.isSome then p else s.mtr.periodS } }
  else
    let u := p * 1000000000
    announceMark (s.newestPeriod.period + 1) (BitVec.ofNat 48 ((s.now.toNat / u + 1) * u))
      { s with mtr := { s.mtr with periodS := p, nextPeriodS := p } }

/-- METER_CONFIG: answers the period and the mark from which the length applies (R520). -/
def meterConfig (ch : Nat) (r : Req) (s : Dev) : Dev × Reply :=
  let p := fld (r.word 0) 11 0
  let u := p * 1000000000
  let ws := match nextMark s with
    | some (n, t, _) => [mk64 [(n + 1).toNat], mk64 [(t + BitVec.ofNat 48 (s.mtr.periodS * 1000000000)).toNat]]
    | none => [mk64 [(s.newestPeriod.period + 1).toNat], mk64 [lo 48 ((s.now.toNat / u + 1) * u)]]
  let replay := s.jnl.replaying.isSome
  checks [(decide (1 ≤ p) && decide (p ≤ 3600), .badArgument), (replay || !s.nonLead, .stalePartition), (replay || s.isLead, .notPermitted)]
    (configured spec0900 ch r 0 (setPeriod p) ws) s

def cmdMeterConfig (ch : Nat) (r : Req) (s : Dev) : Dev := command spec0900 ch r (meterConfig ch r) s

/-- METER_CONFIG (0x0900). -/
def execMeterConfig (ch : Nat) (r : Req) (s : State) : Host.Outcome State Fault Refusal := ran (Wf.meterConfig ch r) (onChannel ch (cmdMeterConfig ch r)) s

def spec0901 : CmdSpec := anyCmd 0x0901 [] 32

def meterQuery (_ : Nat) (_ : Req) (s : Dev) : Dev × Reply := done [mtrStatus s, mtrNextMark s, mtrDone s, mtrOldest s] s

def cmdMeterQuery (ch : Nat) (r : Req) (s : Dev) : Dev := command spec0901 ch r (meterQuery ch r) s

/-- METER_QUERY (0x0901). -/
def execMeterQuery (ch : Nat) (r : Req) (s : State) : Host.Outcome State Fault Refusal := ran (Wf.meterQuery ch r) (onChannel ch (cmdMeterQuery ch r)) s

def spec0902 : CmdSpec := anyCmd 0x0902 [bits 44 0, anyWord, bits 12 0, bits 12 0] 8

/-- The durable METER record of a period. -/
def meterRecord (s : Dev) (n : Nat) : Option MeterRec :=
  (s.jnl.records.filterMap (fun r => match r.body with
    | .meter x => if x.period.toNat = n then some x else none
    | _ => none)).getLast?

/-- The header of a METER record (R525). -/
def meterHeader (r : MeterRec) : List W64 :=
  [mk64 [r.period.toNat, at' (lo 16 r.entries.length) 32, at' (b2n r.lost) 48, at' (b2n r.selfMarked) 49], mk64 [r.mark.toNat],
   mk64 [r.next.toNat], mk64 [lo 20 r.node]]

/-- An entry of a METER record. -/
def meterEntry (e : Nat × Nat × List W64) : List W64 := mk64 [lo 12 e.1, at' (lo 16 e.2.1) 16] :: e.2.2

/-- METER_READ: the header and COUNT entries from CURSOR on, of one slice or of all (R525, R527). -/
def meterRead (ch : Nat) (r : Req) (s : Dev) : Dev × Reply :=
  let w := r.word 0
  let n := fld w 31 0
  let sl := fld w 43 32
  let all := bit w 44
  let count := fld (r.word 2) 12 0
  let cursor := fld (r.word 3) 12 0
  checks [(decide (1 ≤ count) && decide (count ≤ 4096) && decide (fld (r.word 1) 2 0 = 0), .badArgument),
          (!isSliceChan ch || (!all && sl == ch), .notPermitted),
          (decide (s.mtr.oldest.toNat ≤ n) && decide (n ≤ s.newestPeriod.period.toNat), .badArgument)]
    (fun s =>
      match meterRecord s n with
      | none => fail .busy s
      | some x =>
        let es := x.entries.filter (fun e => all || e.1 == sl)
        let part := (es.drop cursor).take count
        let next := if cursor + part.length < es.length then cursor + part.length else 0
        toBuffer .timeout ch r (r.word 1) (wordsBytes (meterHeader x ++ part.flatMap meterEntry)) [mk64 [lo 13 next, at' (lo 13 part.length) 16]] s) s

def cmdMeterRead (ch : Nat) (r : Req) (s : Dev) : Dev := command spec0902 ch r (meterRead ch r) s

/-- METER_READ (0x0902). -/
def execMeterRead (ch : Nat) (r : Req) (s : State) : Host.Outcome State Fault Refusal := ran (Wf.meterRead ch r) (onChannel ch (cmdMeterRead ch r)) s

def spec0903 : CmdSpec := mgrCmd 0x0903 [bits 31 0] 8

/-- METER_RELEASE (R525). -/
def meterRelease (ch : Nat) (r : Req) (s : Dev) : Dev × Reply :=
  let n := fld (r.word 0) 31 0
  let beyond := match s.mtr.localDone with
    | some d => decide (d.toNat < n)
    | none => true
  let replay := s.jnl.replaying.isSome
  checks [(replay || !beyond, .badArgument), (decide (s.mtr.oldest.toNat ≤ n), .alreadyComplete)]
    (configured spec0903 ch r 0 (fun s => { s with mtr := { s.mtr with oldest := BitVec.ofNat 32 (n + 1) } }) [mk64 [lo 32 (n + 1)]]) s

def cmdMeterRelease (ch : Nat) (r : Req) (s : Dev) : Dev := command spec0903 ch r (meterRelease ch r) s

/-- METER_RELEASE (0x0903). -/
def execMeterRelease (ch : Nat) (r : Req) (s : State) : Host.Outcome State Fault Refusal := ran (Wf.meterRelease ch r) (onChannel ch (cmdMeterRelease ch r)) s

def spec0904 : CmdSpec := anyCmd 0x0904 [bits 11 0] 256

/-- METER_LIVE: the counts of the newest open period. -/
def meterLive (ch : Nat) (r : Req) (s : Dev) : Dev × Reply :=
  let sl := fld (r.word 0) 11 0
  checks [(reaches ch sl, .notPermitted)]
    (done ((List.range 32).map (fun m => SMap.get 0 s.newestPeriod.counts (meterKey s sl m)))) s

def cmdMeterLive (ch : Nat) (r : Req) (s : Dev) : Dev := command spec0904 ch r (meterLive ch r) s

/-- METER_LIVE (0x0904). -/
def execMeterLive (ch : Nat) (r : Req) (s : State) : Host.Outcome State Fault Refusal := ran (Wf.meterLive ch r) (onChannel ch (cmdMeterLive ch r)) s

end Sys2Proof.Machine
end

