-- ==== Sys2Proof/Machine/JournalRun.lean ====
section
/-! DEFINITION. The commit journal's writes, its compaction, and the memory and journal commands (R496 to R502, R505; Table 14-7). -/
namespace Sys2Proof.Machine

/-! ### Write credit (R501) -/

/-- Units of 10^-9 byte: one byte, the most that is kept, and the refill of one ns at 96 MiB/s. -/
abbrev creditByte : Nat := 1000000000
abbrev creditMax : Nat := 345600 * 1048576 * creditByte
abbrev creditPerNs : Nat := 96 * 1048576

/-- The credit at a time. -/
def Jnl.creditAt (j : Jnl) (t : Time) : Nat := Nat.min creditMax (j.credit + Time.since t j.creditTime * creditPerNs)

/-- Charges one line. -/
def chargeLine (s : Dev) : Dev :=
  { s with jnl := { s.jnl with credit := Jnl.creditAt s.jnl s.now - 64 * creditByte, creditTime := s.now } }

/-- Writes are paced: less than one line's credit is left. -/
def pacedNow (s : Dev) : Bool := decide (Jnl.creditAt s.jnl s.now < 64 * creditByte)

/-- A paced line is written once its credit is there; a POWER_FAIL record is not paced. Fault 0x1102 at most once an hour. -/
def paceLine (s : Dev) : Dev :=
  if pacedNow s then
    let due := (64 * creditByte - Jnl.creditAt s.jnl s.now + creditPerNs - 1) / creditPerNs
    let s1 := match s.jnl.pacingLogged with
      | some t =>
        if Time.since s.now t < 3600 * 1000000000 then s
        else logFault isl.MGT 0xFF 0x1102 0 0 0 { s with jnl := { s.jnl with pacingLogged := some s.now } }
      | none => logFault isl.MGT 0xFF 0x1102 0 0 0 { s with jnl := { s.jnl with pacingLogged := some s.now } }
    reach (s.now + BitVec.ofNat 48 due) s1
  else s

/-! ### Line writes -/

/-- A line is retired: its replacement comes from the spare pool, or the log region shrinks (R496, R500). Which line it is, is open. -/
def retireLine (s : Dev) : Dev :=
  let n := Config.freeNat s.freeCtr % 8388608
  let s1 := { s with freeCtr := s.freeCtr + 1,
                     jnl := { s.jnl with retired := s.jnl.retired + 1, spare := s.jnl.spare - 1,
                                         logLines := if s.jnl.spare = 0 then s.jnl.logLines - 1 else s.jnl.logLines } }
  logFault isl.MGT 0xFF 0x1104 0 (BitVec.ofNat 64 n) 0 (count .jnlRetired 0 s1)

/-- The records that a compaction has written over become free lines, and its command is answered with FREE_MIB (R499). -/
def compacted (j : Job) (s : Dev) : Dev :=
  let n := s.jnl.compacting.getD 0
  let s1 := { s with jnl := Jnl.recover { s.jnl with records := s.jnl.records.drop n, compacting := none } }
  presentMeters (answer j .ok [mk64 [lo 9 ((Jnl.free s1.jnl - jnlReserve) * 64 / 1048576)]] s1)

/-- A reserved block of outbound numbers may be used (R453). -/
def blockReserved (sa upTo : Nat) (s : Dev) : Dev :=
  match s.sa sa with
  | some x => s.setSa sa (some { x with reserved := upTo, reserving := false })
  | none => s

/-- What follows a record that has become durable (R497). -/
def afterRecord (r : JRec) (s : Dev) : Dev :=
  match r.then' with
  | .nothing => s
  | .answer j st ws => answer j st ws s
  | .prepared v =>
    match r.body with
    | .prepare cs full => afterPrepared v cs full s
    | _ => s
  | .decided v _ => afterDecided v s
  | .activated v _ => afterActivated v s
  | .freed _ => s
  | .withdrawn _ => s
  | .metered n => afterMetered n s
  | .seqBlock sa _ upTo => blockReserved sa upTo s
  | .compacted j => compacted j s
  | .sliceDone sl => sliceFreed sl s

/-- The oldest record's next line has been written and read back; at the last line the record is durable (R496, R497). -/
def lineDone (r : JRec) (rest : List JRec) (s : Dev) : Dev :=
  let r1 := { r with written := r.written + 1 }
  if r1.written < r1.lines then { s with jnl := { s.jnl with inflight := r1 :: rest } }
  else
    let s1 := { s with jnl := { s.jnl with inflight := rest, records := s.jnl.records ++ [r1], lastDurable := r1.seq } }
    deviceResetGo (afterRecord r1 (count .jnlRecords 0 s1))

/-- A line write ends, with its read-back (R496). -/
def lineWriteComplete (ok overLimit : Bool) (s0 : Dev) : Dev :=
  match s0.jnl.inflight with
  | [] => s0
  | r :: rest =>
    let s := chargeLine (if r.typ = 10 then s0 else paceLine s0)
    let s1 := count .jnlLines 0 (emit (.journalLine r.seq r.written) { s with jnl := { s.jnl with wear := s.jnl.wear + 1 } })
    if ok && !overLimit then lineDone r rest s1 else retireLine s1

/-- JOURNAL_LINE_WRITE_COMPLETE (R496, R497). -/
def execJournalLineWriteComplete (ok overLimit : Bool) (s : State) : Host.Outcome State Fault Refusal := ran (Wf.journalLineWriteComplete ok overLimit) (lineWriteComplete ok overLimit) s

/-- JOURNAL_RECORD_WRITE: a record is presented and taken or refused (R500). The periods that wait for the journal are presented as METER
records (R523); a record of another type is one whose payload nothing else of this model interprets. -/
def journalRecordWrite (typ subject : Nat) (ws : List W64) (s : Dev) : Dev :=
  if typ = 7 then presentMeters s
  else
    match jTake typ subject (8 * ws.length) (.raw ws) .nothing s with
    | some s1 => s1
    | none => if jnlPrivileged typ then s else jnlRefused (recLines (8 * ws.length)) s

/-- A record is presented to the journal. -/
def execJournalRecordWrite (typ subject : Nat) (ws : List W64) (s : State) : Host.Outcome State Fault Refusal := ran (Wf.journalRecordWrite typ subject ws) (journalRecordWrite typ subject ws) s

/-! ### Compaction (R499) -/

/-- The journal's PREPARE of a version, as a difference from the version before it. -/
def differenceOf (s : Dev) (v : Version) : Option (List Change) :=
  ((s.jnl.records ++ s.jnl.inflight).filterMap (fun r => match r.body with
    | .prepare cs full => if r.subject = v.toNat ∧ !full then some cs else none
    | _ => none)).getLast?

/-- A checkpoint: its subject, its payload's length, what it says. -/
abbrev Checkpoint := Nat × Nat × JBody

/-- The versions held, oldest first: each whole, or as its difference from the one before it, and its activation. -/
def versionPoints (s : Dev) : Option Version → List Nat → List Checkpoint
  | _, [] => []
  | before, k :: ks =>
    let x := s.slot k
    let cs := wholeRecord s k
    let rec' : Checkpoint := match before, differenceOf s x.version with
      | some b, some d =>
        if b + 1 = x.version then (x.version.toNat, (Config.recordBytes d).length, .prepare d false)
        else (x.version.toNat, (Config.recordBytes cs).length, .prepare cs true)
      | _, _ => (x.version.toNat, (Config.recordBytes cs).length, .prepare cs true)
    let pending := s.str.toActivate.any (fun a => a.version == x.version)
    let t := match s.str.toActivate with
      | some a => if a.version = x.version then a.tAct else s.rules.tAct
      | none => s.rules.tAct
    let act : List Checkpoint := if x.state = .prepared ∧ !pending then [] else [(x.version.toNat, 8, .activate t)]
    rec' :: act ++ versionPoints s (if x.state = .prepared then none else some x.version) ks

/-- The slots held, oldest version first. -/
def heldSlots (s : Dev) : List Nat :=
  let top := s.activeVersion + 1
  sortBy (fun a b => decide ((top - (s.slot b).version).toNat ≤ (top - (s.slot a).version).toNat))
    (slotNumbers.filter (fun k => Slot.processes (s.slot k)))

/-- A record is a checkpoint of anything but a version. -/
def JRec.plain (r : JRec) : Bool :=
  match r.body with
  | .prepare .. => false
  | .activate _ => false
  | _ => true

/-- Payload length of a record. -/
def JRec.len (r : JRec) : Nat := 64 * r.lines - 48

/-- The checkpoints that hold the live state: the versions, PREPAREs not yet durable, and every other live record in its order. -/
def checkpoints (s : Dev) : List Checkpoint :=
  let vs : List Checkpoint := if heldSlots s = [0] ∧ (s.slot 0).version = 0 then [] else (0, 8, .noVersion) :: versionPoints s none (heldSlots s)
  let coming := (s.jnl.inflight.filter (fun r => r.typ == 1 && !(heldSlots s).any (fun k => (s.slot k).version.toNat == r.subject))).map
    (fun r => (r.subject, JRec.len r, r.body))
  let others := ((liveAmong s (s.jnl.records ++ s.jnl.inflight)).filter JRec.plain).map (fun r => (r.subject, JRec.len r, r.body))
  vs ++ coming ++ others

/-- Takes the checkpoints in order; after the last the older records are free. -/
def takeCheckpoints (j : Job) : List Checkpoint → Dev → Dev
  | [], s => s
  | [(subject, n, b)], s => jPut 9 subject n b (.compacted j) s
  | (subject, n, b) :: cs, s => takeCheckpoints j cs (jPut 9 subject n b .nothing s)

def spec0C11 : CmdSpec := mgrCmd 0x0C11 [] 8

/-- JNL_COMPACT (R499, R500): all its CHECKPOINT records fit, or nothing is freed. -/
def jnlCompact (ch : Nat) (r : Req) (s : Dev) : Dev × Reply :=
  let cs := checkpoints s
  let size := (cs.map (fun c => recLines c.2.1)).sum
  let fits := decide (size ≤ Jnl.free s.jnl) && !s.jnl.stopped && cs.all (fun c => decide (recLines c.2.1 ≤ 16384))
  if s.jnl.compacting.isSome then fail .busy s
  else if !fits then (jnlRefused size s, some (.noResource, []))
  else
    let s1 := { s with jnl := { s.jnl with compacting := some (s.jnl.records.length + s.jnl.inflight.length) } }
    let cs1 := if cs = [] then [(0, 8, JBody.noVersion)] else cs
    (takeCheckpoints (mkJob spec0C11 ch r s) cs1 s1, none)

def cmdJnlCompact (ch : Nat) (r : Req) (s : Dev) : Dev := command spec0C11 ch r (jnlCompact ch r) s

/-- JNL_COMPACT (0x0C11). -/
def execJnlCompact (ch : Nat) (r : Req) (s : State) : Host.Outcome State Fault Refusal := ran (Wf.jnlCompact ch r) (onChannel ch (cmdJnlCompact ch r)) s

/-! ### Power failure (R502, R561) -/

/-- The record in progress completes when it can; what comes after it is torn or was never begun; a POWER_FAIL record is written if there is
room (R502). -/
def jnlPowerFail (torn : Bool) (s : Dev) : Dev :=
  let s1 := { s with jnl := { s.jnl with ready := false } }
  let s2 := match s1.jnl.inflight with
    | [] => s1
    | r :: _ =>
      if torn then { s1 with jnl := { s1.jnl with torn := s1.jnl.torn || decide (0 < r.written), highSeq := Jnl.highest s1.jnl, inflight := [] } }
      else
        { s1 with jnl := { s1.jnl with inflight := [], records := s1.jnl.records ++ [{ r with written := r.lines }], lastDurable := r.seq,
                                       wear := s1.jnl.wear + (r.lines - r.written) } }
  let p : JRec :=
    { typ := 10, seq := Jnl.highest s2.jnl + 1, time := s2.now, subject := 0, lines := 1, written := 1, body := .powerFail, then' := .nothing }
  let s3 := if s.jnl.ready ∧ 0 < Jnl.free s2.jnl then
      { s2 with jnl := { s2.jnl with records := s2.jnl.records ++ [p], lastDurable := p.seq, wear := s2.jnl.wear + 1 } }
    else s2
  { s3 with jnl := { s3.jnl with stopped := true } }

/-! ### Commands and registers -/

def jnlStatus (s : Dev) : W64 :=
  let st := if s.jnl.stopped then 3 else if !s.jnl.ready then 0 else if s.jnl.exhausted.isSome then 2 else 1
  mk64 [st, at' (lo 9 ((Jnl.free s.jnl - jnlReserve) * 64 / 1048576)) 16, at' (lo 9 s.liveMib) 32]

/-- WEAR_PCT: the ring is written in ascending order, so the most-worn line has been written once for each turn begun. -/
def jnlHealth (s : Dev) : W64 :=
  let turns := (s.jnl.wear + s.jnl.logLines - 1) / Nat.max s.jnl.logLines 1
  mk64 [Nat.min 127 (turns * 100 / 100000000), at' (b2n s.jnl.corrupt) 7, at' (lo 19 (s.jnl.spare * 64 / 1024)) 8, at' (lo 32 s.jnl.retired) 32]

def jnlRate (s : Dev) : W64 := mk64 [lo 19 (Jnl.creditAt s.jnl s.now / creditByte / 1048576), at' (b2n (pacedNow s)) 19]

def jnlSeq (s : Dev) : W64 := BitVec.ofNat 64 s.jnl.lastDurable

def spec0C10 : CmdSpec := mgrCmd 0x0C10 [] 32

def jnlQuery (_ : Nat) (_ : Req) (s : Dev) : Dev × Reply := done [jnlStatus s, jnlHealth s, jnlRate s, jnlSeq s] s

def cmdJnlQuery (ch : Nat) (r : Req) (s : Dev) : Dev := command spec0C10 ch r (jnlQuery ch r) s

/-- JNL_QUERY (0x0C10). -/
def execJnlQuery (ch : Nat) (r : Req) (s : State) : Host.Outcome State Fault Refusal := ran (Wf.jnlQuery ch r) (onChannel ch (cmdJnlQuery ch r)) s

/-- MEM_STATUS (Table 14-6). -/
def memStatus (s : Dev) : W64 :=
  mk64 [lo 2 s.mem.speed, at' (b2n s.mem.small) 2, at' (b2n s.mem.trained) 3, at' (Nat.min 65535 s.mem.poisoned.length) 16,
    at' (lo 32 (programMib s - groupMib s)) 32]

def spec0C00 : CmdSpec := mgrCmd 0x0C00 [] 24

def memQuery (_ : Nat) (_ : Req) (s : Dev) : Dev × Reply :=
  done [memStatus s, s.regShown isl.MEM 0x010, mk64 [lo 10 s.mem.retrainMs]] s

def cmdMemQuery (ch : Nat) (r : Req) (s : Dev) : Dev := command spec0C00 ch r (memQuery ch r) s

/-- MEM_QUERY (0x0C00). -/
def execMemQuery (ch : Nat) (r : Req) (s : State) : Host.Outcome State Fault Refusal := ran (Wf.memQuery ch r) (onChannel ch (cmdMemQuery ch r)) s

end Sys2Proof.Machine
end

