-- ==== Sys2Proof/Machine/MacCmds.lean ====
section
/-! DEFINITION. The port commands (R256, R268 to R270). -/
namespace Sys2Proof.Machine

/-- The octet of a port command. -/
def octetOf (op : Nat) (w0 : W64) : Nat := if op = 0x0301 then fld w0 5 0 / 8 else fld w0 2 0

/-- Another port command is executing on the octet: its record is not yet durable (R268). -/
def octetBusy (s : Dev) (o : Nat) : Bool :=
  s.jnl.inflight.any (fun r => match r.body with
    | .config op _ ws => [0x0300, 0x0301, 0x0304].contains op && octetOf op (ws.getD 0 0) == o
    | _ => false)

/-- A port goes to NONE: its frames are discarded and counted (R256). -/
def removePort (s : Dev) (p : Nat) : Dev :=
  let x := s.eport p
  let s1 := enterPort p .none 0 s
  let s2 := countBy .macTxDownDrop p x.tx.length (countBy .macRxOverflow p x.rx.length s1)
  let s3 := x.tx.foldl (fun s k => traceStep (ethIsland p) 9 p k s) s2
  s3.setEport p EthPort.none

/-- The octet takes a mode: its ports go, the new ones are created in ADMIN_DOWN (R256). -/
def setOctetMode (o m : Nat) (s : Dev) : Dev :=
  let s1 := (octetPorts o (s.octetMode o)).foldl removePort s
  let s2 := { s1 with eth := { s1.eth with modes := SMap.put 0 s1.eth.modes o m } }
  (octetPorts o m).foldl (fun s p => s.setEport p (newPort p m)) s2

def spec0300 : CmdSpec := mgrCmd 0x0300 [bits 2 0 ||| bits 11 8] 0

def portOctetMode (ch : Nat) (r : Req) (s : Dev) : Dev × Reply :=
  let o := fld (r.word 0) 2 0
  let m := fld (r.word 0) 11 8
  checks [(decide (m ≤ 8), Status.badArgument), (!octetBusy s o, .busy), (m != s.octetMode o, .alreadyComplete)]
    (configured spec0300 ch r o (setOctetMode o m) []) s

def cmdPortOctetMode (ch : Nat) (r : Req) (s : Dev) : Dev := command spec0300 ch r (portOctetMode ch r) s

/-- PORT_OCTET_MODE (Table 7-9). -/
def execPortOctetMode (ch : Nat) (r : Req) (s : State) : Host.Outcome State Fault Refusal := ran (Wf.portOctetMode ch r) (onChannel ch (cmdPortOctetMode ch r)) s

/-- The fields of a PORT_CONFIG are in range (Table 7-9). -/
def portCfgOk (s : Dev) (p : Nat) (w0 w1 : W64) : Bool :=
  let x := { EthPort.none with w0 := w0, w1 := w1 }
  s.portExists p && decide (cfgMedium x < 3) && fecOk (s.octetMode (p / 8)) (cfgFec x) && !(cfgMedium x == 2 && cfgAn x) &&
    decide (cfgFlow x < 3) && decide (cfgPtp x < 3) && decide (1518 ≤ cfgMaxFrame x) && decide (cfgMaxFrame x ≤ 16388) &&
    decide (16 ≤ cfgXoff x) && decide (cfgXoff x + 32 ≤ 128 * s.portLanes p)

/-- The port takes its new settings: ADMIN_UP 0 takes it down, ADMIN_UP set takes it through bring-up, and a change of MEDIUM, FEC or AN_EN does the
one and then the other (R251, R269). A priority that the new FLOW_CONTROL does not pause is held no longer, and the use of the receive buffer is
held against the new settings (R261). -/
def setPortCfg (p : Nat) (w0 w1 : W64) (s : Dev) : Dev :=
  let x := s.eport p
  let z := { x with w0 := w0, w1 := w1 }
  let y := { z with pausingPeer := x.pausingPeer &&& prioMask (pausable z) }
  let s1 := s.setEport p y
  if !cfgAdmin y then (if x.state = .adminDown then s1 else enterPort p .adminDown 0 s1)
  else if x.state = .adminDown ∨ cfgMedium x ≠ cfgMedium y ∨ cfgFec x ≠ cfgFec y ∨ cfgAn x ≠ cfgAn y then bringUp p (enterPort p .adminDown 0 s1)
  else pauseCheck p s1

def spec0301 : CmdSpec := mgrCmd 0x0301 [bits 5 0 ||| bits 17 8 ||| bits 31 24, bits 14 0 ||| bits 47 32] 0

def portConfig (ch : Nat) (r : Req) (s : Dev) : Dev × Reply :=
  let p := fld (r.word 0) 5 0
  checks [(portCfgOk s p (r.word 0) (r.word 1), Status.badArgument), (!octetBusy s (p / 8), .busy)]
    (configured spec0301 ch r p (setPortCfg p (r.word 0) (r.word 1)) []) s

def cmdPortConfig (ch : Nat) (r : Req) (s : Dev) : Dev := command spec0301 ch r (portConfig ch r) s

/-- PORT_CONFIG (R269, Table 7-9). -/
def execPortConfig (ch : Nat) (r : Req) (s : State) : Host.Outcome State Fault Refusal := ran (Wf.portConfig ch r) (onChannel ch (cmdPortConfig ch r)) s

/-- MAC_PORT_STATE of a first lane (Table 7-8). -/
def portStateWord (s : Dev) (p : Nat) : W64 :=
  let x := s.eport p
  if x.state = .none then 0
  else mk64 [PortState.code x.state, at' (cfgMedium x) 4, at' (cfgFec x) 6, at' (s.portLanes p) 8, at' (cfgFlow x) 12, at' (cfgPtp x) 14,
    at' x.pausedByPeer.toNat 16, at' x.pausingPeer.toNat 24, at' x.tsFifo.length 32, at' (rxFill x) 44]

def spec0302 : CmdSpec := anyCmd 0x0302 [bits 5 0] 24

def portQuery (_ : Nat) (r : Req) (s : Dev) : Dev × Reply :=
  let p := fld (r.word 0) 5 0
  checks [(s.portExists p, Status.badArgument), (!octetBusy s (p / 8), .busy)] (done [portStateWord s p, (s.eport p).w0, (s.eport p).w1]) s

def cmdPortQuery (ch : Nat) (r : Req) (s : Dev) : Dev := command spec0302 ch r (portQuery ch r) s

/-- PORT_QUERY (Table 7-9). -/
def execPortQuery (ch : Nat) (r : Req) (s : State) : Host.Outcome State Fault Refusal := ran (Wf.portQuery ch r) (onChannel ch (cmdPortQuery ch r)) s

def spec0303 : CmdSpec := mgrCmd 0x0303 [bits 5 0 ||| bits 13 8, anyWord] 8

/-- Entries leave the FIFO as they are written (R270). MAX, 1 to 64, has 6 bits: 0 stands for 64 (DESIGN CHOICE, log 41). -/
def portTxTimestamps (ch : Nat) (r : Req) (s : Dev) : Dev × Reply :=
  let p := fld (r.word 0) 5 0
  let n := if fld (r.word 0) 13 8 = 0 then 64 else fld (r.word 0) 13 8
  checks [(s.portExists p, Status.badArgument), (fld (r.word 1) 2 0 == 0, .badArgument), (!octetBusy s (p / 8), .busy)] (fun s =>
    let x := s.eport p
    let es := x.tsFifo.take n
    match bufferFault .timeout s ch r with
    | some st => if es = [] then done [0] s else fail st s
    | none =>
      done [BitVec.ofNat 64 es.length]
        (bufferWrite ch (r.word 1) (wordsBytes (es.flatMap (fun e => [e.1, e.2]))) (s.setEport p { x with tsFifo := x.tsFifo.drop n }))) s

def cmdPortTxTimestamps (ch : Nat) (r : Req) (s : Dev) : Dev := command spec0303 ch r (portTxTimestamps ch r) s

/-- PORT_TX_TIMESTAMPS (R270, Table 7-9). -/
def execPortTxTimestamps (ch : Nat) (r : Req) (s : State) : Host.Outcome State Fault Refusal := ran (Wf.portTxTimestamps ch r) (onChannel ch (cmdPortTxTimestamps ch r)) s

def spec0304 : CmdSpec := mgrCmd 0x0304 [bits 2 0 ||| bits 23 8] 0

def portLanePolarity (ch : Nat) (r : Req) (s : Dev) : Dev × Reply :=
  let o := fld (r.word 0) 2 0
  checks [(!octetBusy s o, Status.busy)]
    (configured spec0304 ch r o
      (fun s => { s with eth := { s.eth with polarity := SMap.put 0 s.eth.polarity o (BitVec.ofNat 16 (fld (r.word 0) 23 8)) } }) []) s

def cmdPortLanePolarity (ch : Nat) (r : Req) (s : Dev) : Dev := command spec0304 ch r (portLanePolarity ch r) s

/-- PORT_LANE_POLARITY (R249, R269, Table 7-9). -/
def execPortLanePolarity (ch : Nat) (r : Req) (s : State) : Host.Outcome State Fault Refusal := ran (Wf.portLanePolarity ch r) (onChannel ch (cmdPortLanePolarity ch r)) s

end Sys2Proof.Machine
end

