-- ==== Sys2Proof/Machine/Observe.lean ====
section
/-! DEFINITION. Trace, streaming, the OBS tap and boundary scan, and the observation commands (R536 to R547; Table 16-8). -/
namespace Sys2Proof.Machine

/-! ### The trace ring (R540) -/

/-- Bytes of the ring. -/
abbrev traceRing : Nat := 2 ^ 26

def TraceRec.bytes (r : TraceRec) : Nat := 8 * r.words.length

def ringBytes (rs : List TraceRec) : Nat := (rs.map TraceRec.bytes).sum

/-- Bytes held and not yet streamed. -/
def traceFill (s : Dev) : Nat := ringBytes (s.obs.ring.drop s.obs.streamed)

/-- The oldest record gives way. -/
def dropOldest (o : Observe) : Observe :=
  match o.ring with
  | [] => o
  | r :: rest => { o with ring := rest, tail := (o.tail + TraceRec.bytes r) % traceRing, streamed := o.streamed - 1 }

/-- Records give way until `n` bytes are free; answers how many. -/
def makeRoom (n : Nat) : Nat → Observe → Nat × Observe
  | 0, o => (0, o)
  | fuel + 1, o =>
    if traceRing < ringBytes o.ring + n then
      let (k, o1) := makeRoom n fuel (dropOldest o)
      (k + 1, o1)
    else (0, o)

/-- A record is written at the head. -/
def putTrace (r : TraceRec) (o : Observe) : Observe := { o with ring := o.ring ++ [r], head := (o.head + TraceRec.bytes r) % traceRing }

/-- `n` records are lost: counted, and reported at most once a second. -/
def traceLost (n : Nat) (s : Dev) : Dev :=
  if n = 0 then s
  else
    let s1 := countBy .obsTraceLost 0 n { s with obs := { s.obs with lostSince := s.obs.lostSince + n } }
    let quiet := s.obs.lostLogged.any (fun t => decide (Time.since s.now t < 1000000000))
    if quiet then s1
    else
      logFault isl.OBS 0xFF 0x1401 0 (mk64 [lo 32 s1.obs.lostSince]) 0 { s1 with obs := { s1.obs with lostSince := 0, lostLogged := some s.now } }

/-- The record that has arrived first is written. In WRAP the oldest records give way; in STOP only streamed ones do, and otherwise the record
is discarded. -/
def traceRecordWrite (s : Dev) : Dev :=
  match s.obs.arriving with
  | [] => s
  | r :: rest =>
    let o := { s.obs with arriving := rest }
    let n := TraceRec.bytes r
    if o.mode = 0 then { s with obs := o }
    else if o.mode = 2 ∧ traceRing < ringBytes (o.ring.drop o.streamed) + n then traceLost 1 { s with obs := o }
    else
      let (k, o1) := makeRoom n o.ring.length o
      traceLost (if o.mode = 1 then k else 0) (count .obsTraceRecords 0 { s with obs := putTrace r o1 })

/-- TRACE_RECORD_WRITE (R540). -/
def execTraceRecordWrite (s : State) : Host.Outcome State Fault Refusal := ran Wf.traceRecordWrite traceRecordWrite s

/-! ### Streaming (R543) -/

/-- Slice 0's memory through the manager port. -/
def streamWrite (addr : W64) (bs : List Byte) (s : Dev) : Dev := if bs = [] then s else hostWrite s.mgrPort false none addr bs s

/-- The longest run of whole records of at most `n` bytes. -/
def recordsWithin : Nat → List TraceRec → List TraceRec
  | _, [] => []
  | n, r :: rs => if TraceRec.bytes r ≤ n then r :: recordsWithin (n - TraceRec.bytes r) rs else []

/-- The bytes of records. -/
def traceBytes (rs : List TraceRec) : List Byte := rs.flatMap (fun r => wordsBytes r.words)

/-- The records leave: they count as streamed. -/
def markStreamed (rs : List TraceRec) (s : Dev) : Dev :=
  countBy .obsStreamBytes 0 (ringBytes rs)
    { s with obs := { s.obs with streamed := s.obs.streamed + rs.length, streamBytes := s.obs.streamBytes + ringBytes rs } }

/-- To host memory: no more than the ring takes; then the total to INDEX_ADDR. A write that fails ends streaming. -/
def streamToHost (rs : List TraceRec) (bad : Option Nat) (s : Dev) : Dev :=
  let size := 2 ^ fld (s.obs.streamWords.getD 0 0) 12 8
  let ahead := (s.obs.streamBytes + 2 ^ 40 - s.obs.consumed % 2 ^ 40) % 2 ^ 40
  let part := recordsWithin (size - ahead) rs
  if part = [] then s
  else match bad with
    | some c => logFault isl.MGT 0xFF 0x1402 0 (mk64 [lo 3 c]) 0 { s with obs := { s.obs with streamTarget := 0 } }
    | none =>
      let off := s.obs.streamBytes % size
      let bs := traceBytes part
      let ring := s.obs.streamWords.getD 1 0
      let s1 := streamWrite ring (bs.drop (size - off)) (streamWrite (ring + BitVec.ofNat 64 off) (bs.take (size - off)) s)
      let s2 := markStreamed part s1
      streamWrite (s.obs.streamWords.getD 2 0) (wordsBytes [BitVec.ofNat 64 s2.obs.streamBytes]) s2

/-- The header of a stream frame: DEST_MAC, SRC_MAC, the VLAN tag where one is given, EtherType 0x88B5. -/
def streamHeader (s : Dev) : List Byte :=
  let vlan := fld (s.obs.streamWords.getD 0 0) 27 16
  beBytes (fld (s.obs.streamWords.getD 3 0) 47 0) 6 ++ beBytes (fld (s.obs.streamWords.getD 4 0) 47 0) 6 ++
    (if vlan = 0 then [] else beBytes 0x8100 2 ++ beBytes vlan 2) ++ beBytes 0x88B5 2

/-- To a port: a frame of at most 8,192 bytes of whole records, tagged by MGT from port 75 of slice 0. -/
def streamToPort (rs : List TraceRec) (s : Dev) : Dev :=
  let part := recordsWithin 8192 rs
  if part = [] then s else tagAndQueue 4 0 75 s.now (streamHeader s ++ traceBytes part) id (markStreamed part s)

/-- TRACE_STREAM: a batch of at most `n` records. -/
def traceStream (n : Nat) (bad : Option Nat) (s : Dev) : Dev :=
  let rs := (s.obs.ring.drop s.obs.streamed).take n
  if !s.mgt.fwUp then s
  else if s.obs.streamTarget = 1 then streamToHost rs bad s
  else if s.obs.streamTarget = 2 then streamToPort rs s
  else s

/-- The Lamplighter streams records (R543). -/
def execTraceStream (n : Nat) (bad : Option Nat) (s : State) : Host.Outcome State Fault Refusal := ran (Wf.traceStream n bad) (traceStream n bad) s

/-- OBS_STREAM_CONSUMED_WRITE (R536, R543). -/
def obsStreamConsumedWrite (w : RegWrite) (s : Dev) : Dev := if names w isl.OBS 0x010 then regWriteArrive w s else s

/-- The command. -/
def execObsStreamConsumedWrite (w : RegWrite) (s : State) : Host.Outcome State Fault Refusal := ran (Wf.obsStreamConsumedWrite w) (obsStreamConsumedWrite w) s

/-! ### BAR4 and the tap (R537 to R539, R544) -/

/-- Counter i as BAR4 shows it. The indices are fixed by the stepping and not given, but for MAC_RX_FCS in the worked case. -/
def counterShown (s : Dev) (i : Nat) : W64 :=
  if 0x1A40 ≤ i ∧ i < 0x1A80 then s.counter .macRxFcs (i - 0x1A40)
  else match Config.counterAt i with
    | some k => SMap.get 0 s.ctr k
    | none => 0

/-- A byte of BAR4 (Table 16-2). -/
def bar4Byte (s : Dev) (a : Nat) : Byte :=
  if a < 0x40000 then (wordsBytes [counterShown s (a / 8)]).getD (a % 8) 0
  else if a < 0x50000 then Config.directoryByte (a - 0x40000)
  else 0

/-- Byte `n` of the trace buffer: of the record that lies there, an open value where none does. -/
def traceByte (s : Dev) (n : Nat) : Byte :=
  let i := (n + traceRing - s.obs.tail) % traceRing
  let held := ringBytes s.obs.ring
  if i < held then (traceBytes s.obs.ring).getD i 0 else BitVec.ofNat 8 (Config.freeNat (s.freeCtr + n))

/-- A byte that the tap reads (R544). -/
def tapByte (s : Dev) (op : Byte) (a : Nat) : Byte :=
  if !s.obs.tapEnable || op != 0x0B then 0
  else if a < 0x40000000 then bar4Byte s a
  else if a < 0x40000000 + traceRing then traceByte s (a - 0x40000000)
  else 0

/-- OBS_TAP_TRANSACTION: `n` bytes from an address on. -/
def tapTransaction (op : Byte) (addr : BitVec 32) (n : Nat) (s : Dev) : Dev :=
  let s1 := emit (.tap ((List.range n).map (fun k => tapByte s op (addr.toNat + k)))) s
  whenB s.obs.tapEnable (count .obsTapReads 0) { s1 with freeCtr := s1.freeCtr + traceRing }

/-- A tap transaction (R544). -/
def execObsTapTransaction (op : Byte) (addr : BitVec 32) (n : Nat) (s : State) : Host.Outcome State Fault Refusal := ran (Wf.obsTapTransaction op addr n) (tapTransaction op addr n) s

/-! ### Boundary scan (R545, R566) -/

/-- The bits of a number, least significant first. -/
def bitsOf (w n : Nat) : List Bool := (List.range w).map (fun i => n.testBit i)

/-- A data register is selected and shifted out. -/
def scanSelect (k : Nat) (out : List Bool) (s : Dev) : Dev := emit (.scanOut out) { s with obs := { s.obs with scan := k } }

/-- IDCODE: 0x1414_4D9B. -/
def execIdcode (s : State) : Host.Outcome State Fault Refusal := ran Wf.idcode (scanSelect 0 (bitsOf 32 0x14144D9B)) s

/-- SAMPLE: the pins as they stand. -/
def execSampleTap (pins : List Bool) (s : State) : Host.Outcome State Fault Refusal := ran (Wf.sampleTap pins) (scanSelect 1 pins) s

/-- BYPASS, and every code that Table 16-5 does not give: the one-bit register, which captures 0. -/
def execBypassTap (code : BitVec 6) (s : State) : Host.Outcome State Fault Refusal := ran (Wf.bypassTap code) (scanSelect 2 [false]) s

/-! ### Register values (Table 16-7) -/

def obsStatus (s : Dev) : W64 :=
  let o := s.obs
  let full := o.mode == 2 && decide (traceFill s = traceRing)
  mk64 [lo 2 o.mode, at' (b2n full) 2, at' (b2n (decide (o.streamTarget ≠ 0))) 3, at' (b2n o.tapEnable) 4, at' (traceFill s) 8]

def obsTracePtrs (s : Dev) : W64 := mk64 [s.obs.head, at' s.obs.tail 32]

def obsBoot (s : Dev) : W64 :=
  let b := s.boot
  mk64 [lo 4 b.stage, at' (lo 4 b.cause) 4, at' (b2n b.imageB) 8, at' (lo 28 b.msToReady) 16]

/-! ### Commands -/

def spec0A00 : CmdSpec := mgrCmd 0x0A00 [bits 1 0 ||| bits 12 8, bits 23 0 ||| bits 44 32] 0

def obsTraceConfig (_ : Nat) (r : Req) (s : Dev) : Dev × Reply :=
  let a := r.word 0
  let b := r.word 1
  checks [(decide (fld a 1 0 ≤ 2), .badArgument)]
    (fun s => done [] { s with obs := { s.obs with
      mode := fld a 1 0, sources := BitVec.ofNat 5 (fld a 12 8), sampleN := fld b 23 0, slice := fld b 43 32, sliceFilter := bit b 44 } }) s

def cmdObsTraceConfig (ch : Nat) (r : Req) (s : Dev) : Dev := command spec0A00 ch r (obsTraceConfig ch r) s

/-- OBS_TRACE_CONFIG (0x0A00). -/
def execObsTraceConfig (ch : Nat) (r : Req) (s : State) : Host.Outcome State Fault Refusal := ran (Wf.obsTraceConfig ch r) (onChannel ch (cmdObsTraceConfig ch r)) s

def spec0A01 : CmdSpec := mgrCmd 0x0A01 [bits 12 0] 0

def obsHeaderCapture (_ : Nat) (r : Req) (s : Dev) : Dev × Reply :=
  let sl := fld (r.word 0) 11 0
  let others := s.obs.headerCapture.filter (fun n => n != sl)
  checks [(decide ((s.slice sl).state ≠ .free), .badArgument)]
    (fun s => done [] { s with obs := { s.obs with headerCapture := if bit (r.word 0) 12 then others ++ [sl] else others } }) s

def cmdObsHeaderCapture (ch : Nat) (r : Req) (s : Dev) : Dev := command spec0A01 ch r (obsHeaderCapture ch r) s

/-- OBS_HEADER_CAPTURE (0x0A01). -/
def execObsHeaderCapture (ch : Nat) (r : Req) (s : State) : Host.Outcome State Fault Refusal := ran (Wf.obsHeaderCapture ch r) (onChannel ch (cmdObsHeaderCapture ch r)) s

def spec0A02 : CmdSpec := mgrCmd 0x0A02 [bits 1 0 ||| bits 12 8 ||| bits 27 16, anyWord, anyWord, bits 47 0, bits 47 0] 0

/-- OBS_STREAM: the target and its words; both totals start again. -/
def obsStream (_ : Nat) (r : Req) (s : Dev) : Dev × Reply :=
  let w := r.word 0
  let log := fld w 12 8
  let hostOk := decide (20 ≤ log) && decide (log ≤ 30) && decide ((r.word 1).toNat % 2 ^ log = 0) && decide ((r.word 2).toNat % 8 = 0)
  checks [(decide (fld w 1 0 ≤ 2) && (fld w 1 0 != 1 || hostOk), .badArgument)]
    (fun s => done [] { s with obs := { s.obs with streamTarget := fld w 1 0, streamWords := r.words.take 5, streamBytes := 0, consumed := 0 } }) s

def cmdObsStream (ch : Nat) (r : Req) (s : Dev) : Dev := command spec0A02 ch r (obsStream ch r) s

/-- OBS_STREAM (0x0A02). -/
def execObsStream (ch : Nat) (r : Req) (s : State) : Host.Outcome State Fault Refusal := ran (Wf.obsStream ch r) (onChannel ch (cmdObsStream ch r)) s

def spec0A03 : CmdSpec := mgrCmd 0x0A03 [bits 25 0, anyWord, bits 23 0] 8

/-- The records held from a ring offset on; none where no record begins there. The head itself has none after it. -/
def recordsFrom (target : Nat) : Nat → List TraceRec → Option (List TraceRec)
  | off, [] => if off = target then some [] else none
  | off, r :: rs => if off = target then some (r :: rs) else recordsFrom target ((off + TraceRec.bytes r) % traceRing) rs

/-- OBS_TRACE_READ: whole records from OFFSET on. -/
def obsTraceRead (ch : Nat) (r : Req) (s : Dev) : Dev × Reply :=
  let given := fld (r.word 0) 25 0
  let off := if given = 0x3FFFFFF then s.obs.tail else given
  let rs := recordsFrom off s.obs.tail s.obs.ring
  checks [(rs.isSome && decide (fld (r.word 1) 2 0 = 0), .badArgument)]
    (fun s =>
      let part := recordsWithin (fld (r.word 2) 23 0) (rs.getD [])
      toBuffer .timeout ch r (r.word 1) (traceBytes part) [mk64 [(off + ringBytes part) % traceRing, at' (lo 24 (ringBytes part)) 32]] s) s

def cmdObsTraceRead (ch : Nat) (r : Req) (s : Dev) : Dev := command spec0A03 ch r (obsTraceRead ch r) s

/-- OBS_TRACE_READ (0x0A03). -/
def execObsTraceRead (ch : Nat) (r : Req) (s : State) : Host.Outcome State Fault Refusal := ran (Wf.obsTraceRead ch r) (onChannel ch (cmdObsTraceRead ch r)) s

def spec0A04 : CmdSpec := mgrCmd 0x0A04 [bits 0 0] 0

def obsTapEnable (_ : Nat) (r : Req) (s : Dev) : Dev × Reply :=
  checks [(s.obs.tapEnable != bit (r.word 0) 0, .alreadyComplete)]
    (fun s => done [] { s with obs := { s.obs with tapEnable := bit (r.word 0) 0 } }) s

def cmdObsTapEnable (ch : Nat) (r : Req) (s : Dev) : Dev := command spec0A04 ch r (obsTapEnable ch r) s

/-- OBS_TAP_ENABLE (0x0A04). -/
def execObsTapEnable (ch : Nat) (r : Req) (s : State) : Host.Outcome State Fault Refusal := ran (Wf.obsTapEnable ch r) (onChannel ch (cmdObsTapEnable ch r)) s

end Sys2Proof.Machine
end

