-- ==== Sys2Proof/Machine/ParserCmds.lean ====
section
/-! DEFINITION. The parser commands (R289 to R298). -/
namespace Sys2Proof.Machine

/-- The image that a PREPARE whose record is being journalled brings to slot `k`: its control-store writes run alongside (R294). -/
def writingImage (s : Dev) (k : Nat) : Option (List W64) :=
  s.jnl.inflight.findSome? (fun r => match r.body with
    | .prepare cs _ =>
      if versionSlot (BitVec.ofNat 32 r.subject) = k then cs.findSome? (fun c => match c with
        | .image raw => some raw
        | _ => none)
      else none
    | _ => none)

/-- PRS_CS_VERSION for an image and a STATE. -/
def imageWord (im : Image) (st : Nat) : W64 := mk64 [im.imageId.toNat, at' im.patch.toNat 32, at' im.baseSeg 40, at' (Image.segs im) 44, at' st 49]

/-- PRS_CS_VERSION of a slot (Table 8-7). A slot to which a PREPARE being journalled brings an image shows that image with STATE 1, in the segments that
it is to take (DESIGN CHOICE, log 136). -/
def csVersionWord (s : Dev) (k : Nat) : W64 :=
  if (s.slot k).state = .free then
    match writingImage s k with
    | none => 0
    | some raw => imageWord (imageAt raw ((s.freeRun ((rawCount raw + 255) / 256)).getD 0)) 1
  else match (s.slot k).rules.image with
    | none => mk64 [at' 2 49]
    | some im => imageWord im 2

/-- The digest of the image that a slot maps. -/
def csDigest (s : Dev) (k : Nat) : BitVec 384 :=
  match (s.slot k).rules.image with
  | none => Config.defaultDigest
  | some im => im.digest

/-- A digest as it lies in payload words: its byte 0 is byte 0 of the first word. -/
def digestWords (d : BitVec 384) : List W64 := bytesWords (beBytes d.toNat 48) 6

/-- The response of an image load: REASON, WORD, BASE_SEG. -/
def loadWord (reason word base : Nat) : W64 := mk64 [reason, at' word 8, at' base 20]

/-- Loads a whole image into the build (R291, R294, R298). -/
def loadImage (v : Version) (raw : List W64) (len : Nat) (r : Req) (s : Dev) : Dev × Reply :=
  match imageReason raw len with
  | some (reason, w) => (s, some (.badArgument, [loadWord reason w 0]))
  | none =>
    if !imageAuth s raw then fail .authFailed s
    else if buildMax < (s.withChange (.image raw)).length then fail .noResource s
    else if !Jnl.takes s.jnl 1 (recLines r.payloadLen.toNat) then refuseRecord (recLines r.payloadLen.toNat) s
    else match placeImage (s.buildK v) raw s with
      | none => fail .noResource s
      | some s1 =>
        let base := ((s1.slot (s1.buildK v)).rules.image.map Image.baseSeg).getD 0
        done [loadWord 0 0 base] (recordChange (.image raw) s1)

def spec0400 : CmdSpec := { mgrCmd 0x0400 [bits 31 0] 8 with open' := true }

def parserImageLoad (_ : Nat) (r : Req) (s : Dev) : Dev × Reply :=
  let v := reqVersion r
  let raw := r.words.drop 1
  checks ((r.indirect, Status.badArgument) :: buildChecks s v)
    (fun s => loadImage v raw (r.payloadLen.toNat - 8) r s) s

def cmdParserImageLoad (ch : Nat) (r : Req) (s : Dev) : Dev := command spec0400 ch r (parserImageLoad ch r) s

/-- PARSER_IMAGE_LOAD (Table 8-8). -/
def execParserImageLoad (ch : Nat) (r : Req) (s : State) : Host.Outcome State Fault Refusal := ran (Wf.parserImageLoad ch r) (onChannel ch (cmdParserImageLoad ch r)) s

/-- The image that a patch makes: the header with its new PATCH_LEVEL, the words with whole segments replaced, the new signature
(R295). -/
def patchedRaw (im : Image) (first count level : Nat) (ws : List W64) : List W64 :=
  let h := im.raw.take 8
  let h1 := h.take 1 ++ [mk64 [fld (h.getD 1 0) 31 0, at' level 32, at' (fld (h.getD 1 0) 43 40) 40]] ++ h.drop 2
  let body := (im.raw.drop 8).take (4 * im.words.length)
  let mid := (ws.take (1024 * count)).take (body.length - 1024 * first)
  h1 ++ (body.take (1024 * first) ++ mid ++ body.drop (1024 * (first + count))) ++ (ws.drop (1024 * count)).take 12

def spec0401 : CmdSpec := { mgrCmd 0x0401 [bits 31 0, bits 8 0 ||| bits 23 16] 8 with open' := true }

def parserImagePatch (_ : Nat) (r : Req) (s : Dev) : Dev × Reply :=
  let v := reqVersion r
  let first := fld (r.word 1) 3 0
  let count := fld (r.word 1) 8 4
  let level := fld (r.word 1) 23 16
  checks ([(r.indirect, Status.badArgument), (decide (1 ≤ count) && decide (count ≤ 16), .badArgument),
           (r.payloadLen.toNat == 16 + 8192 * count + 96, .badArgument)] ++ buildChecks s v)
    (fun s =>
      match (s.slot (s.buildK v)).rules.image with
      | none => fail .badArgument s
      | some im =>
        if Image.segs im < first + count ∨ level ≤ im.patch.toNat then fail .badArgument s
        else
          let raw := patchedRaw im first count level (r.words.drop 2)
          loadImage v raw (8 * raw.length) r s) s

def cmdParserImagePatch (ch : Nat) (r : Req) (s : Dev) : Dev := command spec0401 ch r (parserImagePatch ch r) s

/-- PARSER_IMAGE_PATCH (R295, Table 8-8). -/
def execParserImagePatch (ch : Nat) (r : Req) (s : State) : Host.Outcome State Fault Refusal := ran (Wf.parserImagePatch ch r) (onChannel ch (cmdParserImagePatch ch r)) s

def spec0402 : CmdSpec := mgrCmd 0x0402 [bits 31 0, bits 11 0 ||| bits 19 16] 0

def parserPolicy (_ : Nat) (r : Req) (s : Dev) : Dev × Reply :=
  let v := reqVersion r
  let inc := fld (r.word 1) 17 16
  let mal := fld (r.word 1) 19 18
  checks ([(inc != 3, Status.badArgument), (mal != 3, .badArgument)] ++ buildChecks s v)
    (buildChange v (.policy (fld (r.word 1) 11 0) (BitVec.ofNat 2 inc) (BitVec.ofNat 2 mal))) s

def cmdParserPolicy (ch : Nat) (r : Req) (s : Dev) : Dev := command spec0402 ch r (parserPolicy ch r) s

/-- PARSER_POLICY (Table 8-8). -/
def execParserPolicy (ch : Nat) (r : Req) (s : State) : Host.Outcome State Fault Refusal := ran (Wf.parserPolicy ch r) (onChannel ch (cmdParserPolicy ch r)) s

def spec0403 : CmdSpec := mgrCmd 0x0403 [bits 2 0] 56

def parserQuery (_ : Nat) (r : Req) (s : Dev) : Dev × Reply :=
  let k := fld (r.word 0) 2 0
  if (s.slot k).state = .free then fail .badArgument s
  else (s, some (s.readStatus, csVersionWord s k :: digestWords (csDigest s k)))

def cmdParserQuery (ch : Nat) (r : Req) (s : Dev) : Dev := command spec0403 ch r (parserQuery ch r) s

/-- PARSER_QUERY (Table 8-8). -/
def execParserQuery (ch : Nat) (r : Req) (s : State) : Host.Outcome State Fault Refusal := ran (Wf.parserQuery ch r) (onChannel ch (cmdParserQuery ch r)) s

/-- The policy that a slot holds for a slice (R289). -/
def slotPolicy (s : Dev) (k sl : Nat) : Policy := SMap.get Policy.default (s.slot k).rules.policies sl

def spec0404 : CmdSpec := anyCmd 0x0404 [bits 14 0] 8

def parserPolicyQuery (ch : Nat) (r : Req) (s : Dev) : Dev × Reply :=
  let sl := fld (r.word 0) 11 0
  let k := fld (r.word 0) 14 12
  if !reaches ch sl then fail .notPermitted s
  else if (s.slot k).state = .free then fail .badArgument s
  else (s, some (s.readStatus, [mk64 [(slotPolicy s k sl).incomplete.toNat, at' (slotPolicy s k sl).malformed.toNat 2]]))

def cmdParserPolicyQuery (ch : Nat) (r : Req) (s : Dev) : Dev := command spec0404 ch r (parserPolicyQuery ch r) s

/-- PARSER_POLICY_QUERY (Table 8-8). -/
def execParserPolicyQuery (ch : Nat) (r : Req) (s : State) : Host.Outcome State Fault Refusal := ran (Wf.parserPolicyQuery ch r) (onChannel ch (cmdParserPolicyQuery ch r)) s

end Sys2Proof.Machine
end

