-- ==== Sys2Proof/Machine/Trust.lean ====
section
/-! DEFINITION. The root of trust: alarms and the erasure of data keys, SPDM, key slots and the trust commands (R464 to R467, R508 to R516;
Tables 15-6 and 15-7). -/
namespace Sys2Proof.Machine

/-! ### Alarms -/

/-- A slice holds a key: a KEK, or a storage key (R466). -/
def holdsKey (s : Dev) (sl : Nat) : Bool :=
  s.cry.keks.contains sl || s.cry.keys.any (fun e => decide (e.1 / 4 = sl) && e.2.isSome)

/-- The storage descriptors of a slice with ENCRYPT 1 end with STATUS KEY_LOST (R467, R476). -/
def endEncrypted (sl : Nat) (s : Dev) : Dev :=
  ((s.qpsOf sl).filter (fun q => (s.qp q).typ == 2)).foldl (fun s q =>
    let x := s.qp q
    let mine := fun (i : WorkItem) => WorkItem.live i && decide (dOpcode i.words ≠ 0) && stEncrypt i.words
    s.setQp q { x with items := x.items.map (fun i => if mine i then setOutcome (faultOutcome s x i 7) i else i) }) s

/-- A slice enters KEY_LOST, and its event is signalled (R466, R467). -/
def loseKeys (s : Dev) (sl : Nat) : Dev :=
  let s1 := endEncrypted sl (s.setSlice sl { s.slice sl with keyLost := true })
  sliceEvent sl (s1.slice sl).evKeyLost s1

/-- A key-loading command whose record is not yet durable ends KEY_LOST (R516). -/
def spoilLoads (s : Dev) : Dev :=
  let f := fun (r : JRec) => match r.then' with
    | .answer j _ _ => if [0x0800, 0x0810, 0x0820].contains j.opcode then { r with then' := .answer j .keyLost [] } else r
    | _ => r
  { s with jnl := { s.jnl with inflight := s.jnl.inflight.map f } }

/-- The data keys are erased (R466). -/
def eraseKeys (s : Dev) : Dev :=
  let held := s.sliceList.filter (holdsKey s)
  let mine := dataPkt (fun _ => true)
  let s1 := (s.cry.decIn.filter mine).foldl (fun s p => count .lcpKeyLostDrop 0 (dropPkt isl.LCP p s)) s
  let s2 := (s1.cry.encIn.filter mine).foldl (fun s p => count .lcpKeyLostDrop 0 (traceStep isl.LCP 9 (Dest.ethPort p.dest) p s)) s1
  let s3 := { s2 with cry := { s2.cry with
    decIn := s2.cry.decIn.filter (fun p => !mine p), encIn := s2.cry.encIn.filter (fun p => !mine p),
    keks := [], cache := [], keys := [] } }
  let s4 := spoilLoads (held.foldl loseKeys s3)
  logFault isl.TRU 0xFF 0x0D04 0 (mk64 [lo 13 held.length]) 0 { s4 with tru := { s4.tru with erased := some s.now } }

/-- The bit of an alarm source in TRU_ALARM.ACTIVE. -/
def alarmBit (n : Nat) : BitVec 6 := BitVec.ofNat 6 (2 ^ (n - 1))

/-- TRU raises an alarm: it is logged and counted, and an erasing one erases the data keys, once for alarms within 1 µs (R515, R516). -/
def raiseAlarm (n : Nat) (s : Dev) : Dev :=
  let s1 := count .truAlarms (n - 1) (logFault isl.TRU 0xFF 0x1201 0 (mk64 [n]) 0 { s with tru := { s.tru with active := s.tru.active ||| alarmBit n } })
  let recent := s.tru.erased.any (fun t => decide (Time.since s.now t ≤ 1000))
  if alarmBit n &&& erasingMask = 0 ∨ recent then s1 else eraseKeys s1

/-- An alarm's cause appears. TRU is held by the power-on reset, and a stopped part raises no VOLTAGE alarm (R558). -/
def alarmRaised (n : Nat) (s : Dev) : Dev :=
  if s.boot.porHeld || (n == 2 && s.boot.powerFail) || s.tru.active &&& alarmBit n != 0 then s else raiseAlarm n s

/-- ALARM_RAISED (R515): source 6 is raised by TRU_ZEROISE alone. -/
def execAlarmRaised (source : Nat) (s : State) : Host.Outcome State Fault Refusal := ran (Wf.alarmRaised source) (alarmRaised source) s

/-- ALARM_CLEARED (R515, R516): the alarm's cause has gone. -/
def execAlarmCleared (source : Nat) (s : State) : Host.Outcome State Fault Refusal :=
  ran (Wf.alarmCleared source) (fun (s : Dev) => { s with tru := { s.tru with active := s.tru.active &&& ~~~alarmBit source } }) s

/-! ### Measurements and SPDM -/

/-- The digest of measurement block 6: the images that the ACTIVE slot maps, one for each pipeline (Table 15-1). -/
def imageMeasure (s : Dev) : BitVec 384 :=
  let d := csDigest s (s.activeSlot.getD 0)
  Config.sha384 ((List.replicate 8 (beBytes d.toNat 48)).flatten)

/-- Measurement block `n` of Table 15-1: block 6 as it stands, the others as start-up took them. -/
def measurement (s : Dev) (n : Nat) : BitVec 384 := if n = 6 then imageMeasure s else s.tru.meas.getD (n - 1) 0

/-- The request can be answered other than with ERROR (R510). -/
def spdmOk (s : Dev) (path : Nat) (k : SpdmKind) (valid : Bool) : Bool :=
  valid && match k with
    | .certificate slot => slot == 0
    | .measurements n _ => decide (n ≤ 6) || n == 255
    | .finish _ => s.tru.handshakes.contains path
    | .endSession => s.tru.sessions.contains path
    | .other => false
    | _ => true

/-- What the answer holds: the digests asked for stand first. -/
def spdmContent (s : Dev) (path : Nat) (k : SpdmKind) (bs : List Byte) : List Byte :=
  let own := match k with
    | .measurements n _ => (if n = 255 then [1, 2, 3, 4, 5, 6] else if n = 0 then [] else [n]).flatMap (fun m => beBytes (measurement s m).toNat 48)
    | .certificate _ => Config.certChain
    | _ => []
  own ++ Config.spdmAnswer path bs

/-- What a request does to the path's session (R510): a second KEY_EXCHANGE ends the first one. -/
def spdmSession (path : Nat) (k : SpdmKind) (ok : Bool) (s : Dev) : Dev :=
  let without := s.tru.sessions.filter (fun p => p != path)
  let pending := s.tru.handshakes.filter (fun p => p != path)
  match k with
  | .keyExchange => if ok then { s with tru := { s.tru with sessions := without, handshakes := pending ++ [path] } } else s
  | .finish t =>
    let s1 := { s with tru := { s.tru with handshakes := pending } }
    let s2 := if ok then count .truSpdmSessions path { s1 with tru := { s1.tru with sessions := without ++ [path] } } else s1
    if 4 ≤ path then bundleAuthenticated (path - 4) ok t s2 else s2
  | .endSession => if ok then { s with tru := { s.tru with sessions := without } } else s
  | _ => s

/-- The answer leaves on its path: over Lantern as an SPDM frame. -/
def spdmSend (path : Nat) (error : Bool) (bs : List Byte) (s : Dev) : Dev :=
  if 4 ≤ path then sendCtl (.link (path - 4)) (.spdm bs) (emit (.spdm path error bs) s) else emit (.spdm path error bs) s

/-- An SPDM message on a bundle that waits for TRU. -/
def takeSpdm (b : Nat) (s : Dev) : Option Dev :=
  let mine := fun (m : CtlMsg) => m.bundle == b && match m.body with
    | .spdm _ => true
    | _ => false
  match findIdxFrom mine 0 s.str.ctlIn with
  | some (i, _) => some { s with str := { s.str with ctlIn := s.str.ctlIn.eraseIdx i } }
  | none => none

/-- TRU handles a message (R510). -/
def spdmAnswer (path : Nat) (k : SpdmKind) (valid : Bool) (bs : List Byte) (s : Dev) : Dev :=
  match k with
  | .peerDone t => if 4 ≤ path then bundleAuthenticated (path - 4) valid t (whenB valid (count .truSpdmSessions path) s) else s
  | _ =>
    let ok := spdmOk s path k valid
    let content := if ok then spdmContent s path k bs else []
    spdmSession path k ok (spdmSend path (!ok) content (whenB (!ok) (count .truSpdmFail path) s))

/-- SPDM_REQUEST (R510): paths 0 to 2 are the DOE mailboxes of the host ports, 3 is MCTP, 4 + b is bundle b. -/
def spdmRequest (path : Nat) (k : SpdmKind) (valid : Bool) (bs : List Byte) (s : Dev) : Dev :=
  if s.boot.porHeld then s
  else if path < 4 then spdmAnswer path k valid bs s
  else match takeSpdm (path - 4) s with
    | some s1 => spdmAnswer path k valid bs s1
    | none => s

/-- TRU as SPDM responder, and over Lantern as requester. -/
def execSpdmRequest (path : Nat) (kind : SpdmKind) (valid : Bool) (bs : List Byte) (s : State) : Host.Outcome State Fault Refusal := ran (Wf.spdmRequest path kind valid bs) (spdmRequest path kind valid bs) s

/-! ### Register values (Table 15-6) -/

def truStatus (s : Dev) : W64 :=
  let used := ((List.range 16).map (fun k => if (s.keySlot k).purpose = 0 then 0 else 2 ^ k)).sum
  mk64 [b2n s.tru.owned, at' (b2n s.tru.locked) 1, at' used 16, at' s.tru.enrolCounter.toNat 32]

def truAlarm (s : Dev) : W64 := mk64 [s.tru.active.toNat, at' (b2n s.eraseHold) 6]

/-- TRU_MEAS_DIGEST: the first 8 bytes of the digest that TRU_MEAS_SEL names. -/
def truMeasDigest (s : Dev) : W64 := (digestWords (measurement s (s.regField isl.TRU 0x010 2 0))).getD 0 0

/-! ### Commands -/

def spec0B00 : CmdSpec := anyCmd 0x0B00 [] 24

def truQuery (_ : Nat) (_ : Req) (s : Dev) : Dev × Reply :=
  done [truStatus s, truAlarm s, mk64 ((List.range 16).map (fun k => at' (s.keySlot k).purpose.toNat (2 * k)))] s

def cmdTruQuery (ch : Nat) (r : Req) (s : Dev) : Dev := command spec0B00 ch r (truQuery ch r) s

/-- TRU_QUERY (0x0B00). -/
def execTruQuery (ch : Nat) (r : Req) (s : State) : Host.Outcome State Fault Refusal := ran (Wf.truQuery ch r) (onChannel ch (cmdTruQuery ch r)) s

def Dev.setKeySlot (s : Dev) (k : Nat) (x : KeySlot) : Dev := { s with tru := { s.tru with slots := SMap.put KeySlot.empty s.tru.slots k x } }

/-- The OWNER key's signature over the unit serial, ENROL_COUNTER and the payload from byte 8 up to the signature (R513). -/
def ownerSigned (s : Dev) (signed sig : List Byte) : Bool :=
  Config.ecdsaVerify (s.keySlot 0).pub
    (Config.sha384 (beBytes Config.unitSerial.toNat 8 ++ beBytes s.tru.enrolCounter.toNat 4 ++ signed)) sig

/-- The purpose may stand in the slot (R512). -/
def purposeFits (slot purpose : Nat) : Bool := if purpose = 1 then slot == 0 else (purpose == 2 || purpose == 3) && decide (1 ≤ slot)

def spec0B01 : CmdSpec := { mgrCmd 0x0B01 [bits 3 0 ||| bits 9 8] 0 with open' := true }

/-- KEY_ENROL (R512, R513): the key and, but for a unit's first OWNER, the signature. Bytes of the payload count from its word 0. -/
def keyEnrol (_ : Nat) (r : Req) (s : Dev) : Dev × Reply :=
  let bs := (wordsBytes r.words).take r.payloadLen.toNat
  let slot := fld (r.word 0) 3 0
  let purpose := fld (r.word 0) 9 8
  let first := !s.tru.owned && slot == 0
  let keyLen := 96 + if purpose = 3 then 48 else 0
  let pub := (bs.drop 16).take 96
  let priv := if purpose = 3 then (bs.drop 112).take 48 else []
  let sigAt := 16 + keyLen
  let lenOk := decide (r.payloadLen.toNat = sigAt + if first then 0 else 96) || (first && decide (r.payloadLen.toNat = sigAt + 96))
  let replaces := s.tru.owned && slot == 0
  checks
    [(r.indirect && purposeFits slot purpose && lenOk && r.word 1 == 0, .badArgument), (Config.pointOk pub, .badArgument),
     (purpose != 3 || Config.scalarOk priv pub, .badArgument),
     (first || ownerSigned s ((bs.take sigAt).drop 8) ((bs.drop sigAt).take 96), .authFailed),
     (decide ((s.keySlot slot).purpose = 0) || replaces, .busy)]
    (fun s =>
      let s1 := s.setKeySlot slot ⟨BitVec.ofNat 2 purpose, pub, priv⟩
      done [] { s1 with tru := { s1.tru with owned := s1.tru.owned || first, enrolCounter := s1.tru.enrolCounter + 1 } }) s

def cmdKeyEnrol (ch : Nat) (r : Req) (s : Dev) : Dev := keyCommand spec0B01 ch r (keyEnrol ch r) s

/-- KEY_ENROL (0x0B01); its payload is zeroed (R465). -/
def execKeyEnrol (ch : Nat) (r : Req) (s : State) : Host.Outcome State Fault Refusal := ran (Wf.keyEnrol ch r) (onChannel ch (cmdKeyEnrol ch r)) s

def spec0B02 : CmdSpec := mgrCmd 0x0B02 (bits 3 0 :: List.replicate 12 anyWord) 0

/-- KEY_REVOKE (R513, R514): slot 0 is only ever replaced. The signed payload from byte 8 up to the signature is empty. -/
def keyRevoke (_ : Nat) (r : Req) (s : Dev) : Dev × Reply :=
  let slot := fld (r.word 0) 3 0
  let sig := ((wordsBytes r.words).drop 8).take 96
  checks [(slot != 0, .badArgument), (decide ((s.keySlot slot).purpose ≠ 0), .alreadyComplete), (ownerSigned s [] sig, .authFailed)]
    (fun s =>
      let s1 := s.setKeySlot slot KeySlot.empty
      done [] { s1 with tru := { s1.tru with enrolCounter := s1.tru.enrolCounter + 1 } }) s

def cmdKeyRevoke (ch : Nat) (r : Req) (s : Dev) : Dev := command spec0B02 ch r (keyRevoke ch r) s

/-- KEY_REVOKE (0x0B02). -/
def execKeyRevoke (ch : Nat) (r : Req) (s : State) : Host.Outcome State Fault Refusal := ran (Wf.keyRevoke ch r) (onChannel ch (cmdKeyRevoke ch r)) s

def spec0B03 : CmdSpec := anyCmd 0x0B03 [anyWord, bits 15 0] 8

/-- CERT_READ: the chain of certificate slot 0 (R510). -/
def certRead (ch : Nat) (r : Req) (s : Dev) : Dev × Reply :=
  let n := Config.certChain.length
  checks [(decide (fld (r.word 0) 2 0 = 0), .badArgument), (decide (n ≤ fld (r.word 1) 15 0), .badArgument)]
    (toBuffer .timeout ch r (r.word 0) Config.certChain [mk64 [lo 16 n]]) s

def cmdCertRead (ch : Nat) (r : Req) (s : Dev) : Dev := command spec0B03 ch r (certRead ch r) s

/-- CERT_READ (0x0B03). -/
def execCertRead (ch : Nat) (r : Req) (s : State) : Host.Outcome State Fault Refusal := ran (Wf.certRead ch r) (onChannel ch (cmdCertRead ch r)) s

def spec0B04 : CmdSpec := mgrCmd 0x0B04 [bits 0 0] 0

/-- TRU_ZEROISE: alarm source 6, whose cause is the taking of the command (R515, R516). -/
def truZeroise (_ : Nat) (r : Req) (s : Dev) : Dev × Reply :=
  checks [(bit (r.word 0) 0, .badArgument)]
    (fun s =>
      let s1 := raiseAlarm 6 s
      done [] { s1 with tru := { s1.tru with active := s1.tru.active &&& ~~~alarmBit 6 } }) s

def cmdTruZeroise (ch : Nat) (r : Req) (s : Dev) : Dev := command spec0B04 ch r (truZeroise ch r) s

/-- TRU_ZEROISE (0x0B04). -/
def execTruZeroise (ch : Nat) (r : Req) (s : State) : Host.Outcome State Fault Refusal := ran (Wf.truZeroise ch r) (onChannel ch (cmdTruZeroise ch r)) s

end Sys2Proof.Machine
end

