-- ==== Sys2Proof/Machine/Startup.lean ====
section
/-! DEFINITION. Power-on reset, the start-up stages but for replay, power failure, voltage and temperature, and the pulse per second (R485,
R502, R530 to R535, R554 to R565; Table 16-1). -/
namespace Sys2Proof.Machine

/-! ### Power-on reset (R530, R556, R559) -/

/-- What TRU keeps in its own store: key slots, ownership, the enrolment counter (R512). -/
def truKept (t : Tru) : Tru :=
  { Tru.reset with owned := t.owned, locked := t.locked, slots := t.slots, enrolCounter := t.enrolCounter }

/-- The whole device is reset, TRU included, and its registers with it. Ports keep the level of their PERST#. -/
def wholeReset (boot : Boot) (s : Dev) : Dev :=
  let s1 := resetIslands (mapPorts portAfterReset s) boot s
  { s1 with tru := truKept s.tru, regs := RegFile.reset }

/-- POWER_ON_RESET_ASSERT (R530): a rail or a reference clock has left its limits. A power cycle ends what THERM_TRIP_N and PWR_FAIL_N have
stopped (R562, R565). -/
def powerOnResetAssert (s : Dev) : Dev := wholeReset { Boot.reset with coreMv := s.boot.coreMv } s

/-- The command. -/
def execPowerOnResetAssert (s : State) : Host.Outcome State Fault Refusal := ran Wf.powerOnResetAssert powerOnResetAssert s

/-- The straps are sampled, and the fused VDD_CORE target is set. MGR_PORT 3 selects port 0 (R556, R559). -/
def porRelease (mgr i2c mv : Nat) (s : Dev) : Dev :=
  if s.boot.porHeld then
    let p := if mgr = 3 then 0 else mgr
    let s1 := { s with mgrPort := p, mgt := mgtAfterReset p, boot := { s.boot with porHeld := false, i2cAddr := i2c, coreMv := mv, avsAt := some s.now } }
    tryStart (emit (.avsTarget mv) s1)
  else s

/-- POWER_ON_RESET_RELEASE (R530). -/
def execPowerOnResetRelease (mgr i2c mv : Nat) (s : State) : Host.Outcome State Fault Refusal := ran (Wf.powerOnResetRelease mgr i2c mv) (porRelease mgr i2c mv) s

/-! ### Stages 0 to 4 and 7 -/

/-- Start-up is in this stage. -/
def Dev.inStage (s : Dev) (n : Nat) : Bool := s.boot.started.isSome && s.boot.stage == n

def setStage (n : Nat) (s : Dev) : Dev := { s with boot := { s.boot with stage := n } }

/-- RRS ends on every port (R533). -/
def endRrs (s : Dev) : Dev := { s with ports := mapPorts (fun x => { x with rrs := false }) s }

/-- Start-up stops in FAILED (R533). -/
def bootFailed (cause : Nat) (s : Dev) : Dev := endRrs { s with boot := { s.boot with stage := 15, cause := cause } }

/-- ROM (R532, R557): the boot ROM takes the flash bus. -/
def romStage (s : Dev) : Dev := if s.inStage 0 then setStage 1 (spiBus true s) else s

/-- The command. -/
def execRomStage (s : State) : Host.Outcome State Fault Refusal := ran Wf.romStage romStage s

/-- The CAUSE that an image meets, 0 for none (Table 16-7). -/
def ImageRead.cause (i : ImageRead) : Nat := if !i.signed || !i.decrypts then 1 else if !i.newEnough then 2 else 0

/-- An image is loaded: a staged patch is applied, and the storage engine goes to TEST (R479; Table 13-3). -/
def loadImageOf (i : ImageRead) (b : Bool) (causeA : Nat) (s : Dev) : Dev :=
  let c := s.cry
  let s1 := { s with
    boot := { s.boot with version := i.version, imageB := b, causeA := causeA },
    cry := { c with imageVersion := i.steVersion, patchLevel := c.staged.getD c.patchLevel, staged := none, ste := .test } }
  setStage 2 s1

/-- FW_LOAD (R532, R533): image A, else image B, else FAILED. -/
def fwLoad (a b : ImageRead) (s : Dev) : Dev :=
  if s.inStage 1 then
    let s1 := spiBus false s
    if ImageRead.cause a = 0 then loadImageOf a false 0 s1
    else if ImageRead.cause b = 0 then loadImageOf b true (ImageRead.cause a) s1
    else bootFailed (if ImageRead.cause a = 2 ∨ ImageRead.cause b = 2 then 2 else 1) s1
  else s

/-- The firmware is loaded. -/
def execFwLoad (a b : ImageRead) (s : State) : Host.Outcome State Fault Refusal := ran (Wf.fwLoad a b) (fwLoad a b) s

/-- What block 4 measures: purpose and public key of each slot (Table 15-1). -/
def slotBytes (s : Dev) : List Byte :=
  (List.range 16).flatMap (fun k =>
    let x := s.keySlot k
    beBytes x.purpose.toNat 1 ++ (x.pub ++ List.replicate (96 - x.pub.length) 0).take 96)

/-- MEASURE (R509; Table 15-1): digests of the boot ROM, of the firmware and of the storage-engine microcode, and those that the state gives.
Block 5 is over the stepping, OWNED and LOCKED. -/
def measure (rom fw ste : BitVec 384) (s : Dev) : Dev :=
  if s.inStage 2 then
    let b5 := Config.sha384 ([0x10] ++ beBytes (b2n s.tru.owned) 1 ++ beBytes (b2n s.tru.locked) 1)
    setStage 3 { s with tru := { s.tru with meas := [rom, fw, ste, Config.sha384 (slotBytes s), b5, 0] } }
  else s

/-- The measurements are taken. -/
def execMeasureStage (rom fw ste : BitVec 384) (s : State) : Host.Outcome State Fault Refusal := ran (Wf.measureStage rom fw ste) (measure rom fw ste) s

/-- Manager channels 240 to 243 are bound to identities 0x10, 0x11, 0x12 and 0x05 (R147). -/
def bindInternal (s : Dev) : Dev :=
  let put := fun (m : SMap Binding) (e : Nat × Byte) => SMap.put ⟨0, false⟩ m e.1 ⟨e.2, true⟩
  { s with mgt := { s.mgt with bindings := [(240, 0x10), (241, 0x11), (242, 0x12), (243, 0x05)].foldl put s.mgt.bindings } }

/-- The firmware runs. It reports a start from image B (R533). -/
def firmwareUp (s : Dev) : Dev :=
  let s1 := { s with mgt := { s.mgt with fwUp := true, fwVersion := s.boot.version, wdogAt := s.now } }
  whenB s1.boot.imageB (logFault isl.MGT 0xFF 0x1003 0 (mk64 [lo 8 s1.boot.causeA]) 0) s1

/-- SELF_TEST (R534): TRU's tests, that of the journal's GCM unit, and the test that fails in the line cipher and in the storage cipher. -/
def selfTest (tru jnl : Bool) (lcp ste : Option Byte) (s : Dev) : Dev :=
  if s.inStage 3 then
    if !tru then bootFailed 3 s
    else if !jnl then bootFailed 4 s
    else
      let s1 := endRrs (bindInternal { s with cry := { s.cry with lcpReady := lcp.isNone, ste := if ste.isNone then .recovery else .failed } })
      let s2 := firmwareUp s1
      let s3 := match lcp with
        | some t => logFault isl.LCP 0xFF 0x0D05 0 (mk64 [t.toNat]) 0 s2
        | none => s2
      let s4 := match ste with
        | some t => logFault isl.STE 0xFF 0x0E01 0 (mk64 [t.toNat]) 0 s3
        | none => s3
      setStage 4 s4
  else s

/-- The known-answer tests end. -/
def execSelfTest (tru jnl : Bool) (lcp ste : Option Byte) (s : State) : Host.Outcome State Fault Refusal := ran (Wf.selfTest tru jnl lcp ste) (selfTest tru jnl lcp ste) s

/-- TRAINING (R485): the channels that fail at each step; the highest step at which none does is taken. With none, start-up stays here. -/
def training (fails : List (BitVec 48)) (small : Bool) (s : Dev) : Dev :=
  if s.inStage 4 && !s.boot.trainFailed then
    match fails.findIdx? (fun f => f == 0) with
    | some k => setStage 5 { s with mem := { s.mem with trained := true, speed := k, small := small, intervalAt := s.now, windowAt := s.now } }
    | none =>
      let last := fails.getLast?.getD 0
      let bad := (List.range 48).filter (fun c => last.getLsbD c)
      let s1 := bad.foldl (fun s c => logFault isl.MEM 0xFF 0x0F01 0 (mk64 [c]) 0 s) s
      { s1 with mem := { s1.mem with small := small }, boot := { s1.boot with trainFailed := true } }
  else s

/-- GDDR7 training ends. -/
def execTrainingStage (f36 f32 f28 f24 : BitVec 48) (small : Bool) (s : State) : Host.Outcome State Fault Refusal := ran (Wf.trainingStage f36 f32 f28 f24 small) (training [f36, f32, f28, f24] small) s

/-- REJOIN (R439, Table 16-1): the member enters its string, and the stage ends once it is a settled member, at once in MODE 0. -/
def rejoin (s : Dev) : Dev :=
  if s.inStage 6 then
    let s1 := if s.boot.entered then s else enterString { s with boot := { s.boot with entered := true } }
    if s1.str.mode = 0 ∨ s1.str.state = .settled then setStage 7 s1 else s1
  else s

/-- Stage 6. -/
def execRejoinStage (s : State) : Host.Outcome State Fault Refusal := ran Wf.rejoinStage rejoin s

/-- READY (R102; Table 16-1). -/
def readyNow (s : Dev) : Dev :=
  if s.inStage 7 && !s.boot.ready then
    let t := match s.boot.started with
      | some u => Time.since s.now u / 1000000
      | none => 0
    { s with boot := { s.boot with ready := true, msToReady := t } }
  else s

/-- HIF_STATUS.READY reads 1 on every port. -/
def execReadyStage (s : State) : Host.Outcome State Fault Refusal := ran Wf.readyStage readyNow s

/-! ### Power failure (R502, R535, R561, R562) -/

/-- The part stops: what the journal has taken stays, everything else but TRU's store is gone when the part restarts, and is modelled as gone
now (log 91). -/
def powerFail (torn : Bool) (s : Dev) : Dev :=
  if s.boot.porHeld || s.boot.powerFail || s.boot.tripped then s
  else
    let s1 := jnlPowerFail torn s
    let s2 := resetIslands (mapPorts portAfterReset s1) { bootAfterReset s.boot with powerFail := true } s1
    { s2 with jnl := { s2.jnl with stopped := true } }

/-- POWER_FAIL: PWR_FAIL_N takes effect. -/
def execPowerFail (torn : Bool) (s : State) : Host.Outcome State Fault Refusal := ran (Wf.powerFail torn) (powerFail torn) s

/-- POWER_FAIL_RECOVERY (R562): the part restarts at stage 0 as after a power-on reset. -/
def powerFailRecovery (s : Dev) : Dev :=
  if s.boot.powerFail then tryStart (wholeReset { bootAfterReset s.boot with powerFail := false } s) else s

/-- PWR_FAIL_N has stayed high for 10 ms. -/
def execPowerFailRecovery (s : State) : Host.Outcome State Fault Refusal := ran Wf.powerFailRecovery powerFailRecovery s

/-! ### Voltage, temperature, the pulse per second -/

/-- AVS_TARGET_ADJUST (R559): in steps of at most 10 mV, no more often than once per 100 µs. -/
def avsAdjust (mv : Nat) (s : Dev) : Dev :=
  let step := decide (mv ≤ s.boot.coreMv + 10) && decide (s.boot.coreMv ≤ mv + 10)
  let rested := s.boot.avsAt.all (fun t => decide (100000 ≤ Time.since s.now t))
  if !s.boot.porHeld && step && rested then emit (.avsTarget mv) { s with boot := { s.boot with coreMv := mv, avsAt := some s.now } } else s

/-- The VDD_CORE target follows temperature. -/
def execAvsTargetAdjust (mv : Nat) (s : State) : Host.Outcome State Fault Refusal := ran (Wf.avsTargetAdjust mv) (avsAdjust mv) s

/-- THERM_ALERT (R565): THERM_ALERT_N is low from 100 °C until the junction falls to 95 °C. -/
def thermAlert (celsius : Nat) (s : Dev) : Dev :=
  if s.boot.porHeld then s
  else if 100 ≤ celsius ∧ s.boot.alert = false then emit (.pin "THERM_ALERT_N" false) { s with boot := { s.boot with alert := true } }
  else if celsius ≤ 95 ∧ s.boot.alert = true then emit (.pin "THERM_ALERT_N" true) { s with boot := { s.boot with alert := false } }
  else s

/-- The junction reaches a temperature. -/
def execThermAlert (celsius : Nat) (s : State) : Host.Outcome State Fault Refusal := ran (Wf.thermAlert celsius) (thermAlert celsius) s

/-- THERM_TRIP (R565): every island except TRU is held in reset until a power cycle. -/
def thermTrip (s : Dev) : Dev :=
  if s.boot.porHeld || s.boot.tripped then s
  else
    emit (.pin "THERM_TRIP_N" false) (resetIslands (mapPorts portAfterReset s) { bootAfterReset s.boot with tripped := true } s)

/-- The junction reaches 120 °C. -/
def execThermTrip (s : State) : Host.Outcome State Fault Refusal := ran Wf.thermTrip thermTrip s

/-- PPS_PULSE (R554): at the next whole multiple of 10^9 ns, PPS_OUT is high for 1 µs. -/
def ppsPulse (s : Dev) : Dev :=
  if s.boot.porHeld then s
  else
    let n := (s.now.toNat / 1000000000 + 1) * 1000000000
    let t : Time := if n < 2 ^ 48 then BitVec.ofNat 48 n else 0
    emit (.pin "PPS_OUT" false) (emit (.pin "PPS_OUT" true) (reach t s))

/-- The pulse per second. -/
def execPpsPulse (s : State) : Host.Outcome State Fault Refusal := ran Wf.ppsPulse ppsPulse s

end Sys2Proof.Machine
end

