-- ==== Sys2Proof/Machine/StringCmds.lean ====
section
/-! DEFINITION. LNK's read-only registers and the string commands (Tables 12-11 and 12-13). -/
namespace Sys2Proof.Machine

/-! ### Register values -/

/-- STATE codes (Table 12-9). -/
def MemberState.code : MemberState → Nat
  | .disabled => 0
  | .starting => 1
  | .forming => 2
  | .settled => 3
  | .rejoining => 4

/-- LNK_STATUS. -/
def lnkStatus (s : Dev) : W64 :=
  let x := s.str
  mk64 [lo 20 x.node, at' (MemberState.code x.state) 20, at' (lo 2 x.topology) 23, at' (lo 2 x.partition) 25, at' (b2n s.isLead) 27,
    at' (b2n x.rttExceeded) 28, at' (lo 2 x.mode) 29, at' (lo 20 x.lead) 32]

/-- LNK_EPOCH. -/
def lnkEpoch (s : Dev) : W64 := mk64 [s.str.epoch.toNat, at' (lo 14 s.str.members.length) 32, at' (lo 14 s.str.refMembers.length) 48]

/-- LNK_TOKEN. -/
def lnkToken (s : Dev) : W64 := mk64 [s.str.tokenSeq.toNat, at' (lo 20 (s.str.holder.getD 0xFFFFF)) 32]

/-- LNK_RTT. -/
def lnkRtt (s : Dev) : W64 := mk64 [lo 22 s.str.measuredNs, at' (lo 11 s.str.maxRttUs) 32, at' (lo 14 s.str.heartbeatUs) 48]

/-- STATE codes of LNK_BUNDLE_STATE. -/
def BundleState.code : BundleState → Nat
  | .down => 0
  | .training => 1
  | .authenticating => 2
  | .joining => 3
  | .up => 4
  | .refused => 5

/-- LNK_BUNDLE_STATE of a bundle. -/
def lnkBundleState (s : Dev) (b : Nat) : W64 :=
  let x := s.bundle b
  mk64 [BundleState.code x.state, at' (lo 5 x.width) 3, at' x.lanesOk.toNat 8, at' (b2n x.slow) 24, at' (b2n (s.str.parent == some b)) 25,
    at' (b2n x.adminUp) 26, at' (b2n (decide (x.state = .up) && decide (x.width < widest x.lanesOk s.maxWidth))) 27, at' (lo 20 x.peerNode) 32,
    at' (lo 3 x.peerBundle) 52]

/-- LNK_BUNDLE_TIME of a bundle. -/
def lnkBundleTime (s : Dev) (b : Nat) : W64 :=
  let x := s.bundle b
  mk64 [lo 24 x.delayPs, at' (BitVec.ofInt 24 x.offsetPs).toNat 32]

/-! ### Commands -/

def spec0700 : CmdSpec := mgrCmd 0x0700 [bits 21 0 ||| bits 27 24, anyWord, bits 13 0 ||| bits 42 32 ||| bits 54 48, bits 15 0] 0

/-- The arguments of STRING_CONFIG are in range. -/
def stringArgs (r : Req) : Bool :=
  let node := fld (r.word 0) 19 0
  let hb := fld (r.word 2) 13 0
  let rtt := fld (r.word 2) 42 32
  let rep := fld (r.word 2) 54 48
  decide (1 ≤ node) && decide (node ≤ 0xFFFFE) && decide (fld (r.word 0) 21 20 < 3) && decide (10 ≤ hb) && decide (hb ≤ 10000) &&
    decide (10 ≤ rtt) && decide (rtt ≤ 2000) && decide (1 ≤ rep) && decide (rep ≤ 100) && decide (fld (r.word 3) 15 0 ≤ 60000)

/-- NODE_ID, MODE or STRING_ID changes. -/
def stringMoves (r : Req) (s : Dev) : Bool :=
  fld (r.word 0) 19 0 != s.str.node || fld (r.word 0) 21 20 != s.str.mode || r.word 1 != s.str.stringId

/-- HEARTBEAT_US or MAX_RTT_US changes. -/
def stringRetimes (r : Req) (s : Dev) : Bool := fld (r.word 2) 13 0 != s.str.heartbeatUs || fld (r.word 2) 42 32 != s.str.maxRttUs

/-- Every bundle starts again; ADMIN_UP stays. -/
def restartBundles (s : Dev) : Dev :=
  (List.range 8).foldl (fun s b => s.setBundle b { Bundle.reset with adminUp := (s.bundle b).adminUp }) s

/-- The change of STRING_CONFIG. HEARTBEAT_US and MAX_RTT_US go out in PARAMS and apply at the re-formation with CAUSE 4; on a member of no string
they apply at once (R446). -/
def applyString (r : Req) (s : Dev) : Dev :=
  let h := fld (r.word 2) 13 0
  let rtt := fld (r.word 2) 42 32
  let s1 := { s with str := { s.str with node := fld (r.word 0) 19 0, mode := fld (r.word 0) 21 20, keySlot := fld (r.word 0) 27 24, stringId := r.word 1,
                                         replayUs := fld (r.word 2) 54 48, startupWaitMs := fld (r.word 3) 15 0 } }
  if s.jnl.replaying.isSome then setParams h rtt s1
  else
    let s2 := if stringMoves r s then enterString (restartBundles s1) else s1
    if !stringRetimes r s then s2
    else if s2.str.mode = 0 then setParams h rtt s2
    else
      let s3 := sendCtl .broadcast (.params h rtt) s2
      startReform 4 { s3 with str := { s3.str with pendParams := some (h, rtt) } }

/-- STRING_CONFIG's own part. -/
def stringConfig (ch : Nat) (r : Req) (s : Dev) : Dev × Reply :=
  checks [(stringArgs r, .badArgument),
          (!stringMoves r s || s.bundleList.all (fun b => decide ((s.bundle b).state ≠ .up)), .busy),
          (!stringRetimes r s || !s.nonLead, .stalePartition)]
    (configured spec0700 ch r 0 (applyString r) []) s

def cmdStringConfig (ch : Nat) (r : Req) (s : Dev) : Dev := command spec0700 ch r (stringConfig ch r) s

/-- STRING_CONFIG (R446). -/
def execStringConfig (ch : Nat) (r : Req) (s : State) : Host.Outcome State Fault Refusal := ran (Wf.stringConfig ch r) (onChannel ch (cmdStringConfig ch r)) s

def spec0701 : CmdSpec := anyCmd 0x0701 [] 32

def stringQuery (_ : Nat) (_ : Req) (s : Dev) : Dev × Reply := done [lnkStatus s, lnkEpoch s, lnkToken s, lnkRtt s] s

def cmdStringQuery (ch : Nat) (r : Req) (s : Dev) : Dev := command spec0701 ch r (stringQuery ch r) s

/-- STRING_QUERY (R446). -/
def execStringQuery (ch : Nat) (r : Req) (s : State) : Host.Outcome State Fault Refusal := ran (Wf.stringQuery ch r) (onChannel ch (cmdStringQuery ch r)) s

def spec0702 : CmdSpec := mgrCmd 0x0702 [bits 31 0, anyWord, bits 12 0] 8

/-- A member's entry: its route from here, and its unit serial. -/
def memberWords (s : Dev) (n : Nat) : List W64 :=
  let (h, b, p) := match s.route n with
    | some r => (r.hops, r.bundle, r.slowPath)
    | none => (0, 0, false)
  [mk64 [lo 20 n, at' (lo 13 h) 20, at' (lo 3 b) 33, at' (b2n p) 36], if n = s.str.node then Config.unitSerial else Config.peerSerial n]

/-- STRING_MEMBERS' own part: ascending from CURSOR. -/
def stringMembers (ch : Nat) (r : Req) (s : Dev) : Dev × Reply :=
  let cursor := fld (r.word 0) 31 0
  let n := fld (r.word 2) 12 0
  checks [(decide (1 ≤ n) && decide (n ≤ 4096) && fld (r.word 1) 2 0 == 0, Status.badArgument)] (fun s =>
    let all := s.str.members
    let es := (all.drop cursor).take n
    let next := if all.length ≤ cursor + n then 0 else cursor + n
    toBuffer .timeout ch r (r.word 1) (wordsBytes (es.flatMap (memberWords s))) [mk64 [next, at' es.length 32]] s) s

def cmdStringMembers (ch : Nat) (r : Req) (s : Dev) : Dev := command spec0702 ch r (stringMembers ch r) s

/-- STRING_MEMBERS (R446). -/
def execStringMembers (ch : Nat) (r : Req) (s : State) : Host.Outcome State Fault Refusal := ran (Wf.stringMembers ch r) (onChannel ch (cmdStringMembers ch r)) s

def spec0703 : CmdSpec := mgrCmd 0x0703 [bits 2 0 ||| bits 8 8] 0

/-- A bundle is taken down, which takes it out of UP with cause 4, or trains again. -/
def adminBundle (b : Nat) (up : Bool) (s : Dev) : Dev :=
  if up then s.setBundle b { Bundle.reset with adminUp := true, state := .training, lanesOk := (s.bundle b).lanesOk }
  else
    let s1 := leaveUp b 4 s
    s1.setBundle b { Bundle.reset with adminUp := false, lanesOk := (s1.bundle b).lanesOk }

def bundleAdmin (ch : Nat) (r : Req) (s : Dev) : Dev × Reply :=
  let b := fld (r.word 0) 2 0
  let up := bit (r.word 0) 8
  checks [(decide (b < s.bundleCount) || s.jnl.replaying.isSome, .badArgument), (decide ((s.bundle b).adminUp ≠ up), .alreadyComplete)]
    (configured spec0703 ch r b (adminBundle b up) []) s

def cmdBundleAdmin (ch : Nat) (r : Req) (s : Dev) : Dev := command spec0703 ch r (bundleAdmin ch r) s

/-- BUNDLE_ADMIN (R446). -/
def execBundleAdmin (ch : Nat) (r : Req) (s : State) : Host.Outcome State Fault Refusal := ran (Wf.bundleAdmin ch r) (onChannel ch (cmdBundleAdmin ch r)) s

def spec0704 : CmdSpec := mgrCmd 0x0704 [bits 2 0] 16

def bundleQuery (_ : Nat) (r : Req) (s : Dev) : Dev × Reply :=
  let b := fld (r.word 0) 2 0
  checks [(decide (b < s.bundleCount), .badArgument)] (fun s => done [lnkBundleState s b, lnkBundleTime s b] s) s

def cmdBundleQuery (ch : Nat) (r : Req) (s : Dev) : Dev := command spec0704 ch r (bundleQuery ch r) s

/-- BUNDLE_QUERY (R446). -/
def execBundleQuery (ch : Nat) (r : Req) (s : State) : Host.Outcome State Fault Refusal := ran (Wf.bundleQuery ch r) (onChannel ch (cmdBundleQuery ch r)) s

def spec0705 : CmdSpec := mgrCmd 0x0705 [bits 31 0] 0

/-- STRING_TIME_STEER: the lead node's frequency offset (R444). -/
def stringTimeSteer (ch : Nat) (r : Req) (s : Dev) : Dev × Reply :=
  let f := (BitVec.ofNat 32 (fld (r.word 0) 31 0)).toInt
  checks [(decide (-100000 ≤ f) && decide (f ≤ 100000), .badArgument), (s.isLead || s.jnl.replaying.isSome, .notPermitted), (!s.nonLead, .stalePartition)]
    (configured spec0705 ch r 0 (fun s => { s with str := { s.str with freqPpb := f } }) []) s

def cmdStringTimeSteer (ch : Nat) (r : Req) (s : Dev) : Dev := command spec0705 ch r (stringTimeSteer ch r) s

/-- STRING_TIME_STEER (R444). -/
def execStringTimeSteer (ch : Nat) (r : Req) (s : State) : Host.Outcome State Fault Refusal := ran (Wf.stringTimeSteer ch r) (onChannel ch (cmdStringTimeSteer ch r)) s

def spec0706 : CmdSpec := mgrCmd 0x0706 [bits 47 0] 0

/-- STRING_TIME_SET: string time is stepped (R444). A replay steps nothing. -/
def stringTimeSet (ch : Nat) (r : Req) (s : Dev) : Dev × Reply :=
  checks [(s.bundleList.all (fun b => decide ((s.bundle b).state = .down)), .busy)]
    (configured spec0706 ch r 0 (fun s => if s.jnl.replaying.isSome then s else s.setTime (BitVec.ofNat 48 (fld (r.word 0) 47 0))) []) s

def cmdStringTimeSet (ch : Nat) (r : Req) (s : Dev) : Dev := command spec0706 ch r (stringTimeSet ch r) s

/-- STRING_TIME_SET (R444). -/
def execStringTimeSet (ch : Nat) (r : Req) (s : State) : Host.Outcome State Fault Refusal := ran (Wf.stringTimeSet ch r) (onChannel ch (cmdStringTimeSet ch r)) s

end Sys2Proof.Machine
end

