-- ==== Sys2Proof/Machine/Replay.lean ====
section
/-! DEFINITION. Journal replay: what each record restores, and stage 5 of start-up (R60, R66, R453, R498, R503, R523). -/
namespace Sys2Proof.Machine

/-- The journalled configuration commands, by opcode (Table 2-7), part 1. -/
def replayTable0 : List (Nat × (Nat → Req → Dev → Dev × Reply)) :=
  [(0x0100, sliceCreate), (0x0101, sliceResize), (0x0110, vectorSet), (0x0111, vectorCoalesce), (0x0112, eventMap),
   (0x0200, queueCreate), (0x0201, queueDestroy), (0x0203, queueModify), (0x0300, portOctetMode), (0x0301, portConfig),
   (0x0304, portLanePolarity), (0x0540, actImageLoad), (0x0541, actImageUnload), (0x0542, actGroupSet), (0x0600, tmgPortSet),
   (0x0601, tmgGroupSet), (0x0602, tmgSliceNodeSet), (0x0603, tmgSliceLimit), (0x0604, tmgQueueSet), (0x0606, tmgPolicerSet),
   (0x0608, tmgFloodListSet), (0x0609, tmgMirrorSet), (0x0700, stringConfig), (0x0703, bundleAdmin), (0x0705, stringTimeSteer),
   (0x0706, stringTimeSet)]

/-- The journalled configuration commands, by opcode (Table 2-7), part 2. -/
def replayTable1 : List (Nat × (Nat → Req → Dev → Dev × Reply)) :=
  [(0x0800, lcpSaSet), (0x0801, lcpSaDelete), (0x0803, lcpQueueBind), (0x0810, steKeySet), (0x0811, steSessionOpen),
   (0x0812, steSessionClose), (0x0820, cryptoSliceRearm), (0x0821, stePatchStage), (0x0900, meterConfig), (0x0903, meterRelease),
   (0x0C01, memRetrainConfig)]

/-- The journalled configuration commands, by opcode (Table 2-7). -/
def replayTable : List (Nat × (Nat → Req → Dev → Dev × Reply)) := replayTable0 ++ replayTable1

/-- The request that a CONFIG record holds. -/
def recordReq (ws : List W64) : Req :=
  { seq := 0, indirect := true, retry := false, flagsRsv := false, payloadLen := BitVec.ofNat 16 (8 * ws.length), inline := List.replicate 7 0,
    host := { translates := true, readOk := true, writeOk := true, data := ws } }

/-- A slice's queue pairs are gone (R190). -/
def dropPairs (sl : Nat) (s : Dev) : Dev := (s.qpsOf sl).foldl (fun s q => s.setQp q QueuePair.none) s

/-- A CONFIG record's change is made again. -/
def replayConfig (op ch subject : Nat) (ws : List W64) (s : Dev) : Dev :=
  if op = 0x0104 then resetSettings subject (dropPairs subject s)
  else if op = 0x0105 then (dropHoldings subject (dropPairs subject s)).setSlice subject Slice.free
  else match replayTable.find? (fun e => e.1 == op) with
    | some (_, f) => (f ch (recordReq ws) s).1
    | none => s

/-- A PREPARE's version is in its slot, PREPARED: also one that was pulled as DRAINING, until the ACTIVATE that the journal holds behind it makes it
DRAINING again. The record does not say which it was, and the spec does not say what it becomes: DESIGN CHOICE, log 119 (R84). -/
def replayPrepare (v : Version) (cs : List Change) (full : Bool) (s : Dev) : Dev :=
  let k := versionSlot v
  let s1 := if (s.slot k).state = .free then s else freeSlot k s
  match placeVersion v .prepared cs full s1 with
  | .ok s2 => s2
  | .error _ => s

/-- A version whose ACTIVATE the journal holds is ACTIVE at once, the one before it DRAINING (R66), and with it each version that was pulled as DRAINING
beside it (R84; log 119). -/
def replayActivate (v : Version) (t : Time) (s : Dev) : Dev :=
  let k := versionSlot v
  let x := s.slot k
  if x.state ≠ .prepared ∨ x.version ≠ v then s
  else
    let s1 := match s.activeSlot with
      | some j => s.setSlot j { s.slot j with state := .draining, tDrain := none, drainStarted := false, drainDone := false }
      | none => s
    let others := slotNumbers.filter (fun j => j != k && decide ((s1.slot j).state = .prepared))
    let s2 := others.foldl (fun s j => s.setSlot j { s.slot j with state := .draining }) (s1.setSlot k { s1.slot k with state := .active })
    { s2 with rules := { s2.rules with tAct := t, actAt := t } }

/-- A version that was withdrawn or abandoned is gone. -/
def replayWithdraw (v : Version) (s : Dev) : Dev :=
  let k := versionSlot v
  if (s.slot k).version = v ∧ (s.slot k).state = .prepared then discardVersion k s else s

/-- Numbers of an SA after a fault: outbound ones go on behind the reserved block, inbound ones 2^20 above the checkpoint (R453). -/
def replaySeqBlock (n : Nat) (inbound : Bool) (upTo : Nat) (s : Dev) : Dev :=
  match s.sa n with
  | some x => s.setSa n (some (if inbound then { x with seq := upTo, edge := upTo + 2 ^ 20 } else { x with seq := upTo, reserved := upTo }))
  | none => s

/-- A reference membership, with its epoch and lead node (R437, R440). -/
def replayEpoch (e : BitVec 32) (ms : List Nat) (lead : Nat) (s : Dev) : Dev :=
  { s with str := { s.str with refMembers := ms, refEpoch := e, refLead := lead, epoch := e,
                               highEpoch := if epochOlder s.str.highEpoch e then e else s.str.highEpoch } }

/-- A record is applied (R503). -/
def replayRecord (s0 : Dev) (r : JRec) : Dev :=
  let s := { s0 with jnl := { s0.jnl with replaying := some r.subject } }
  match r.body with
  | .prepare cs full => replayPrepare (BitVec.ofNat 32 r.subject) cs full s
  | .decision _ => s
  | .activate t => replayActivate (BitVec.ofNat 32 r.subject) t s
  | .slotFree => freeSlot r.subject s
  | .withdraw => replayWithdraw (BitVec.ofNat 32 r.subject) s
  | .config op ch ws => replayConfig op ch r.subject ws s
  | .mark n t _ => noteMark n t s
  | .noVersion => freeSlot 0 s
  | .epoch e ms lead => replayEpoch e ms lead s
  | .params h m => setParams h m s
  | .meter x => { s with mtr := { s.mtr with localDone := some x.period } }
  | .seqBlock inbound upTo => replaySeqBlock r.subject inbound upTo s
  | .powerFail => s
  | .raw _ => s

/-! ### Periods (R523) -/

/-- The marks that records hold: period, time, whether its record was written as it was reached. -/
def recordMarks (rs : List JRec) : List (BitVec 32 × Time × Bool) :=
  rs.filterMap (fun r => match r.body with
    | .mark n t placed => some (n, t, placed)
    | _ => none)

/-- The time of a mark. -/
def markTime (ms : List (BitVec 32 × Time × Bool)) (n : BitVec 32) : Time :=
  match ms.find? (fun m => m.1 == n) with
  | some (_, t, _) => t
  | none => 0

/-- The record of a period that a restart has lost. -/
def lostPeriod (s : Dev) (ms : List (BitVec 32 × Time × Bool)) (n : BitVec 32) : MeterRec :=
  { period := n, lost := true, selfMarked := ms.any (fun m => m.1 == n && m.2.2), mark := markTime ms n, next := markTime ms (n + 1),
    node := s.str.node, entries := [] }

/-- A period is reported lost. -/
def reportLost (s : Dev) (n : BitVec 32) : Dev := logFault isl.MGT 0xFF 0x1301 0 (mk64 [n.toNat]) 0 (count .mtrLostPeriods 0 s)

/-- After the records: the period that was open is open again, its counts lost, and every earlier one without a record is lost. -/
def restorePeriods (rs : List JRec) (s : Dev) : Dev :=
  let ms := recordMarks rs
  let (open', ahead) : BitVec 32 × List (BitVec 32 × Time) := match ms.getLast? with
    | some (n, t, placed) => if placed then (n, []) else (n - 1, [(n, t)])
    | none => (0, [])
  let recorded := rs.filterMap (fun r => match r.body with
    | .meter x => some x.period
    | _ => none)
  let before := ((0 :: ms.map (fun m => m.1)).eraseDups.filter (fun n =>
    decide (n.toNat < open'.toNat) && decide (s.mtr.oldest.toNat ≤ n.toNat) && !recorded.contains n))
  let again := !rs.isEmpty
  let p : OpenPeriod := ⟨open', markTime ms open', ms.any (fun m => m.1 == open' && m.2.2), again, []⟩
  let s1 := { s with mtr := { s.mtr with opens := [p], announced := ahead, lostQ := if again then before.map (lostPeriod s ms) else [] } }
  if again then reportLost (before.foldl reportLost s1) open' else s1

/-! ### Stage 5 -/

/-- The records that replay applies when the one at `bad` fails its tag, and whether that is not the last (R503). -/
def goodRecords (rs : List JRec) (bad : Option Nat) : List JRec × Bool :=
  match bad with
  | some n => (rs.take n, decide (n + 1 < rs.length))
  | none => (rs, false)

/-- A record that failed its tag: the last one is torn, any other corrupts the journal. -/
def reportBad (rs : List JRec) (bad : Option Nat) (s : Dev) : Dev :=
  match bad with
  | some n =>
    if n + 1 < rs.length then
      logFault isl.MGT 0xFF 0x1103 0 (BitVec.ofNat 64 ((rs[n]?.map JRec.seq).getD 0)) 0 { s with jnl := { s.jnl with corrupt := true } }
    else whenB (decide (n < rs.length)) (count .jnlTorn 0) s
  | none => s

/-- Every outbound SA reserves its next block (R453). -/
def reserveAll (s : Dev) : Dev :=
  s.cry.sas.foldl (fun s e => match s.sa e.1 with
    | some x => if saOutbound x && !x.reserving then reserveBlock e.1 x s else s
    | none => s) s

/-- The end of the stage: the storage engine serves (Table 13-3). -/
def replayEnd (s : Dev) : Dev :=
  setStage 6 { s with cry := { s.cry with ste := if s.cry.ste = .recovery then .service else s.cry.ste } }

/-- REPLAY: each record whose tag verifies is applied in SEQ order, and the journal takes records again. After a watchdog restart in stage 6 all
of it stands already (R503, R535). -/
def replay (bad : Option Nat) (s : Dev) : Dev :=
  if !(s.inStage 5 && s.mgt.fwUp) then s
  else if s.jnl.ready then replayEnd s
  else
    let (good, _) := goodRecords s.jnl.records bad
    let s1 := reportBad s.jnl.records bad (whenB s.jnl.torn (count .jnlTorn 0) s)
    let s2 := good.foldl replayRecord s1
    let s3 := restorePeriods good s2
    let s4 := { s3 with jnl := { s3.jnl with
      highSeq := Jnl.highest s3.jnl, records := good, lastDurable := ((good.getLast?).map JRec.seq).getD 0, replaying := none, torn := false, ready := true } }
    replayEnd (presentMeters (reserveAll s4))

/-- Stage 5. -/
def execReplayStage (bad : Option Nat) (s : State) : Host.Outcome State Fault Refusal := ran (Wf.replayStage bad) (replay bad) s

end Sys2Proof.Machine
end

