-- ==== Sys2Proof/Machine/TableCmds.lean ====
section
/-! DEFINITION. The table commands (R312 to R315, R323 to R335). -/
namespace Sys2Proof.Machine

/-- Words of a key of `n` bytes. -/
def keyWords (n : Nat) : Nat := (n + 7) / 8

/-- A key from payload words: its bytes in payload order, most significant first; none where the padding is not 0 (R334). -/
def keyOf (ws : List W64) (n : Nat) : Option (List Byte) :=
  let bs := wordsBytes (ws.take (keyWords n))
  if (bs.drop n).all (fun b => b == 0) then some (bs.take n) else none

/-- An action record as a command may give it: a KIND of Table 9-4, reserved bit 0. -/
def actionOk (a : Action) : Bool := decide (a.kind ≤ 10) && !bit a.a 63

/-- Payload words `i` and `i + 1` as an action. -/
def actionAt (ws : List W64) (i : Nat) : Action := ⟨ws.getD i 0, ws.getD (i + 1) 0⟩

/-- The table's definition in the build. -/
def buildDef (s : Dev) (v : Version) (t : Nat) : TableDef := RuleSet.tableDef (s.rules' (s.buildK v)) t

/-! ### Definitions -/

/-- The table holds an entry valid in the build or in its base version (R312). -/
def tableHolds (s : Dev) (v : Version) (t : Nat) : Bool :=
  let p := s.places t
  ((SMap.entries p.onchip ++ SMap.entries p.ext ++ SMap.entries p.stash).map Prod.snd).any
    (fun e => Entry.validFor e v || Entry.validFor e (v - 1))

/-- The totals of R312 with table `t` redefined. -/
def totalsOk (s : Dev) (v : Version) (t : Nat) (d : TableDef) : Bool :=
  let ds := tableNumbers.map (fun u => if u = t then d else buildDef s v u)
  decide ((ds.map TableDef.cost).sum ≤ 4194304) && decide ((ds.map (fun x => if x.extLog2 = 0 then 0 else 2 ^ x.extLog2)).sum ≤ 2 ^ 27)

def spec0510 : CmdSpec := mgrCmd 0x0510 [bits 31 0, bits 9 0 ||| bits 54 32, bits 4 0] 0

def tableDefine (_ : Nat) (r : Req) (s : Dev) : Dev × Reply :=
  let v := reqVersion r
  let t := fld (r.word 1) 3 0
  let kb := fld (r.word 1) 9 4
  let oc := fld (r.word 1) 54 32
  let ext := fld (r.word 2) 4 0
  checks ([(decide (1 ≤ kb) && decide (kb ≤ 40), Status.badArgument), (ext == 0 || (decide (10 ≤ ext) && decide (ext ≤ 27)), .badArgument),
           (!(t == 14 && kb != 7) && !(t == 15 && kb != 8), .badArgument)] ++ buildChecks s v ++
          [(!tableHolds s v t, .busy), (totalsOk s v t ⟨kb, oc, ext⟩, .noResource)])
    (buildChange v (.tableDefine t kb oc ext)) s

def cmdTableDefine (ch : Nat) (r : Req) (s : Dev) : Dev := command spec0510 ch r (tableDefine ch r) s

/-- TABLE_DEFINE (R312). -/
def execTableDefine (ch : Nat) (r : Req) (s : State) : Host.Outcome State Fault Refusal := ran (Wf.tableDefine ch r) (onChannel ch (cmdTableDefine ch r)) s

/-- The length of a piece's source for SRC 64 to 67. -/
def srcLen (src : Nat) : Nat := if src = 66 then 1 else 2

/-- A piece is well formed (R313). -/
def pieceOk (w : BitVec 16) : Bool :=
  let src := w.toNat % 128
  let off := w.toNat / 128 % 4
  let n := w.toNat / 512 % 16 + 1
  w.toNat / 2 ^ 13 == 0 &&
    (if src < 48 then decide (4 * src + off + n ≤ 192) else decide (64 ≤ src) && decide (src ≤ 67) && off == 0 && n == srcLen src)

def spec0511 : CmdSpec := mgrCmd 0x0511 [bits 31 0, bits 5 0 ||| bits 15 8, anyWord, anyWord, bits 31 0] 0

def keyProfile (_ : Nat) (r : Req) (s : Dev) : Dev × Reply :=
  let v := reqVersion r
  let t := fld (r.word 1) 11 8
  let n := fld (r.word 1) 15 12
  let ps := (List.range n).map (fun i => BitVec.ofNat 16 (fld (r.word (2 + i / 4)) (16 * (i % 4) + 15) (16 * (i % 4))))
  checks ([(decide (1 ≤ n) && decide (n ≤ 10) && decide (t ≤ 13) && ps.all pieceOk, Status.badArgument)] ++ buildChecks s v)
    (buildChange v (.keyProfile (fld (r.word 1) 5 0) t ps)) s

def cmdKeyProfile (ch : Nat) (r : Req) (s : Dev) : Dev := command spec0511 ch r (keyProfile ch r) s

/-- KEY_PROFILE (R313). -/
def execKeyProfile (ch : Nat) (r : Req) (s : State) : Host.Outcome State Fault Refusal := ran (Wf.keyProfile ch r) (onChannel ch (cmdKeyProfile ch r)) s

def spec0512 : CmdSpec := mgrCmd 0x0512 [bits 31 0, bits 10 0 ||| bits 39 16, anyWord, anyWord] 0

/-- A MISS action is final (R306), so it is no CONTINUE. -/
def planSet (_ : Nat) (r : Req) (s : Dev) : Dev × Reply :=
  let v := reqVersion r
  let n := fld (r.word 1) 10 8
  let steps := (List.range n).map (fun i => fld (r.word 1) (6 * i + 21) (6 * i + 16))
  let miss := actionAt r.words 2
  checks ([(decide (n ≤ 4) && actionOk miss && miss.kind != 0, Status.badArgument)] ++ buildChecks s v)
    (buildChange v (.plan (fld (r.word 1) 7 0) steps miss)) s

def cmdPlanSet (ch : Nat) (r : Req) (s : Dev) : Dev := command spec0512 ch r (planSet ch r) s

/-- PLAN_SET (R306). -/
def execPlanSet (ch : Nat) (r : Req) (s : State) : Host.Outcome State Fault Refusal := ran (Wf.planSet ch r) (onChannel ch (cmdPlanSet ch r)) s

/-! ### Entries -/

/-- The records of a TABLE_INSERT: actions and keys; none where a record is not well formed. -/
def insertRecords (kb : Nat) : Nat → List W64 → Option (List (Action × List Byte))
  | 0, _ => some []
  | n + 1, ws =>
    let a := actionAt ws 0
    match keyOf (ws.drop 2) kb, insertRecords kb n (ws.drop (2 + keyWords kb)) with
    | some k, some rest => if actionOk a then some ((a, k) :: rest) else none
    | _, _ => none

/-- Inserts records in order: how many are done, and the first failure (0 none, 1 key present, 2 no room). -/
def insertAll (v : Version) (t : Nat) (replace : Bool) : List (Action × List Byte) → Nat → Dev → Dev × Nat × Nat
  | [], n, s => (s, n, 0)
  | (a, key) :: rest, n, s =>
    let k := s.buildK v
    if (findEntry s k t key).isSome && !replace then (s, n, 1)
    else if buildMax ≤ s.rules.buildRecord.length then (s, n, 2)
    else match applyChange k (.insert t key a) s with
      | .ok s1 => insertAll v t replace rest (n + 1) (recordChange (.insert t key a) s1)
      | .error st => (countRefused (.insert t key a) st s, n, 2)

def spec0513 : CmdSpec := { mgrCmd 0x0513 [bits 31 0, bits 3 0 ||| bits 8 8 ||| bits 28 16] 8 with open' := true }

/-- The records of a TABLE_INSERT are well formed, their reserved bits 0 (R12), as far as the build gives their layout: its table's key length. -/
def insertOk (s : Dev) (v : Version) (t n : Nat) (r : Req) : Bool :=
  let kb := (buildDef s v t).keyBytes
  (s.buildSlot v).isNone || kb == 0 ||
    (decide (r.payloadLen.toNat = 16 + n * (16 + 8 * keyWords kb)) && (insertRecords kb n (r.words.drop 2)).isSome)

def tableInsert (_ : Nat) (r : Req) (s : Dev) : Dev × Reply :=
  let v := reqVersion r
  let t := fld (r.word 1) 3 0
  let n := fld (r.word 1) 28 16
  checks ([(decide (t ≤ 13) && decide (1 ≤ n) && decide (n ≤ 4096) && insertOk s v t n r, Status.badArgument)] ++ buildChecks s v) (fun s =>
    let kb := (buildDef s v t).keyBytes
    if kb = 0 then fail .badArgument s
    else match insertRecords kb n (r.words.drop 2) with
      | none => fail .badArgument s
      | some rs =>
        let (s1, d, f) := insertAll v t (bit (r.word 1) 8) rs 0 s
        (s1, some (if f = 0 then .ok else if f = 1 then .badArgument else .noResource, [mk64 [d, at' f 16]]))) s

def cmdTableInsert (ch : Nat) (r : Req) (s : Dev) : Dev := command spec0513 ch r (tableInsert ch r) s

/-- TABLE_INSERT (R315, R319). -/
def execTableInsert (ch : Nat) (r : Req) (s : State) : Host.Outcome State Fault Refusal := ran (Wf.tableInsert ch r) (onChannel ch (cmdTableInsert ch r)) s

def spec0514 : CmdSpec := { mgrCmd 0x0514 [bits 31 0, bits 3 0] 0 with open' := true }

/-- The key of a command whose word 2 begins it. -/
def reqKey (r : Req) (kb : Nat) : Option (List Byte) :=
  if kb = 0 ∨ r.payloadLen.toNat ≠ 16 + 8 * keyWords kb then none else keyOf (r.words.drop 2) kb

def tableDelete (_ : Nat) (r : Req) (s : Dev) : Dev × Reply :=
  let v := reqVersion r
  let t := fld (r.word 1) 3 0
  checks ([(decide (t ≤ 13), Status.badArgument)] ++ buildChecks s v) (fun s =>
    match reqKey r (buildDef s v t).keyBytes with
    | none => fail .badArgument s
    | some key =>
      if (findEntry s (s.buildK v) t key).isNone then fail .alreadyComplete s else buildChange v (.delete t key) s) s

def cmdTableDelete (ch : Nat) (r : Req) (s : Dev) : Dev := command spec0514 ch r (tableDelete ch r) s

/-- TABLE_DELETE (R315). -/
def execTableDelete (ch : Nat) (r : Req) (s : State) : Host.Outcome State Fault Refusal := ran (Wf.tableDelete ch r) (onChannel ch (cmdTableDelete ch r)) s

def spec0515 : CmdSpec := { mgrCmd 0x0515 [bits 2 0, bits 3 0] 32 with open' := true }

def tableLookup (_ : Nat) (r : Req) (s : Dev) : Dev × Reply :=
  let k := fld (r.word 0) 2 0
  let t := fld (r.word 1) 3 0
  if (s.slot k).state = .free then fail .badArgument s
  else match reqKey r (RuleSet.tableDef (s.rules' k) t).keyBytes with
    | none => fail .badArgument s
    | some key =>
      match (lookup s k t key).hit with
      | none => (s, some (s.readStatus, [0, 0, 0, 0]))
      | some (e, w) =>
        (s, some (s.readStatus, [mk64 [1, at' w 1, at' (b2n e.isOpen) 3], mk64 [e.vfrom.toNat, at' e.vto.toNat 32], e.act.a, e.act.b]))

def cmdTableLookup (ch : Nat) (r : Req) (s : Dev) : Dev := command spec0515 ch r (tableLookup ch r) s

/-- TABLE_LOOKUP (Table 9-7). -/
def execTableLookup (ch : Nat) (r : Req) (s : State) : Host.Outcome State Fault Refusal := ran (Wf.tableLookup ch r) (onChannel ch (cmdTableLookup ch r)) s

/-! ### Segments, bindings, static entries, routes -/

def spec0516 : CmdSpec := mgrCmd 0x0516 [bits 31 0, bits 20 0 ||| bits 63 32, bits 57 0] 0

/-- The ranges of Table 9-2. -/
def segmentOk (w1 w2 : W64) : Bool :=
  let x : Segment := ⟨true, w1, w2⟩
  (!segTenant x || decide (1 ≤ segLimit x)) && decide (10 ≤ segAge x) && decide (segAge x ≤ 3600) && decide (2 ≤ segMoves x) &&
    decide (1 ≤ segWindow x) && decide (segWindow x ≤ 10000)

def segmentSet (_ : Nat) (r : Req) (s : Dev) : Dev × Reply :=
  let v := reqVersion r
  let valid := bit (r.word 1) 16
  checks ([(!valid || segmentOk (r.word 1) (r.word 2), Status.badArgument)] ++ buildChecks s v)
    (buildChange v (.segment (fld (r.word 1) 15 0) valid (r.word 1) (r.word 2))) s

def cmdSegmentSet (ch : Nat) (r : Req) (s : Dev) : Dev := command spec0516 ch r (segmentSet ch r) s

/-- SEGMENT_SET (R305). -/
def execSegmentSet (ch : Nat) (r : Req) (s : State) : Host.Outcome State Fault Refusal := ran (Wf.segmentSet ch r) (onChannel ch (cmdSegmentSet ch r)) s

def spec0517 : CmdSpec := mgrCmd 0x0517 [bits 31 0, bits 53 0, bits 48 0] 0

def portBind (_ : Nat) (r : Req) (s : Dev) : Dev × Reply :=
  let v := reqVersion r
  let w := r.word 1
  let port := fld w 27 20
  let sl := fld w 39 28
  let key := bindKey (fld w 19 0) port sl (bit w 40) (fld w 52 41)
  let c : Change := if bit w 53 then .insert 14 key ⟨r.word 2, 0⟩ else .delete 14 key
  checks ([(ingressOk port && !(decide (port ≤ 71) && sl != 0) && decide (fld (r.word 2) 48 46 ≤ 6), Status.badArgument)] ++ buildChecks s v)
    (buildChange v c) s

def cmdPortBind (ch : Nat) (r : Req) (s : Dev) : Dev := command spec0517 ch r (portBind ch r) s

/-- PORT_BIND (R303, R304). -/
def execPortBind (ch : Nat) (r : Req) (s : State) : Host.Outcome State Fault Refusal := ran (Wf.portBind ch r) (onChannel ch (cmdPortBind ch r)) s

def spec0518 : CmdSpec := mgrCmd 0x0518 [bits 31 0, anyWord, bits 40 0, bits 20 0] 0

def l2Static (_ : Nat) (r : Req) (s : Dev) : Dev × Reply :=
  let v := reqVersion r
  let mac := fld (r.word 1) 47 0
  let key := macKey (fld (r.word 1) 63 48) mac
  let c : Change := if bit (r.word 2) 28 then .insert 15 key ⟨r.word 2, r.word 3⟩ else .delete 15 key
  checks ([(!isGroup mac, Status.badArgument)] ++ buildChecks s v) (buildChange v c) s

def cmdL2Static (ch : Nat) (r : Req) (s : Dev) : Dev := command spec0518 ch r (l2Static ch r) s

/-- L2_STATIC (R323). -/
def execL2Static (ch : Nat) (r : Req) (s : State) : Host.Outcome State Fault Refusal := ran (Wf.l2Static ch r) (onChannel ch (cmdL2Static ch r)) s

def spec0519 : CmdSpec := mgrCmd 0x0519 [bits 31 0, bits 21 0, anyWord, anyWord, anyWord, anyWord] 0

/-- Length, host bits and action of a route (Table 9-7). -/
def routeOk (v6 : Bool) (len : Nat) (w2 w3 : W64) (valid : Bool) (a : Action) : Bool :=
  let w := if v6 then 128 else 32
  let addr := if v6 then w2.toNat * 2 ^ 64 + w3.toNat else w2.toNat
  decide (len ≤ w) && (v6 || (decide (w2.toNat < 2 ^ 32) && w3 == 0)) && addr % 2 ^ (w - len) == 0 &&
    !bit a.a 63 && (!valid || (actionOk a && [1, 2, 5, 9, 10].contains a.kind))

def routeSet (_ : Nat) (r : Req) (s : Dev) : Dev × Reply :=
  let v := reqVersion r
  let w := r.word 1
  let v6 := bit w 12
  let vrf := fld w 11 0
  let len := fld w 20 13
  let valid := bit w 21
  let addr := BitVec.ofNat 128 (if v6 then (r.word 2).toNat * 2 ^ 64 + (r.word 3).toNat else (r.word 2).toNat)
  let a := actionAt r.words 4
  checks ([(routeOk v6 len (r.word 2) (r.word 3) valid a, Status.badArgument)] ++ buildChecks s v ++
      [(valid || hasRoute s v6 vrf addr len (s.buildK v), .alreadyComplete)])
    (buildChange v (.route v6 vrf addr len valid a)) s

def cmdRouteSet (ch : Nat) (r : Req) (s : Dev) : Dev := command spec0519 ch r (routeSet ch r) s

/-- ROUTE_SET (R329, R331). -/
def execRouteSet (ch : Nat) (r : Req) (s : State) : Host.Outcome State Fault Refusal := ran (Wf.routeSet ch r) (onChannel ch (cmdRouteSet ch r)) s

/-! ### The learned view -/

/-- The comparison of R328. -/
def wins (a b : Learned) : Bool :=
  if a.lastTime ≠ b.lastTime then Time.later a.lastTime b.lastTime
  else if a.port ≠ b.port then decide (a.port < b.port)
  else decide (a.node < b.node)

/-- The copies that this member's pipelines hold. -/
def ownLearned (s : Dev) : List Learned :=
  pipeNumbers.flatMap (fun k => (SMap.entries (s.pipe k).learned).map (fun e => { e.2 with flapping := isFlapping s e.2 }))

/-- Key of a learned entry, in the order of R335. -/
def learnedKey (l : Learned) : Nat := l.segment * 2 ^ 48 + l.mac.toNat

/-- One entry for each SEGMENT and MAC, ascending: the copy that wins, FLAPPING where any copy is (R328, R335). -/
def mergedView (ls : List Learned) : List Learned :=
  let keys := sortBy (fun a b => decide (a ≤ b)) (ls.map learnedKey).eraseDups
  keys.filterMap (fun k =>
    let cs := ls.filter (fun l => learnedKey l == k)
    (cs.foldl (fun (best : Option Learned) l => match best with
      | none => some l
      | some b => some (if wins l b then l else b)) none).map (fun l => { l with flapping := cs.any (fun c => c.flapping) }))

/-- The four words of an L2_READ entry (R335). -/
def learnedWords (s : Dev) (l : Learned) : List W64 :=
  let pipes := (pipeNumbers.filter (fun k => (learnedAt s k l.segment l.mac.toNat).isSome)).map (fun k => 2 ^ k)
  [mk64 [l.mac.toNat, at' l.segment 48], mk64 [l.port, at' l.node 8, at' l.slice 28, at' (b2n l.flapping) 40], BitVec.ofNat 64 l.lastTime.toNat,
   mk64 [pipes.sum, at' l.rxQpBase 8, at' l.rxQpLog2 26]]

def spec0520 : CmdSpec := mgrCmd 0x0520 [bits 17 0, bits 31 0, anyWord, bits 12 0] 8

/-- Entries from CURSOR on, COUNT of them at most. CURSOR counts the entries already returned (DESIGN CHOICE, log 42). Other members'
copies are free (log 43). -/
def l2Read (ch : Nat) (r : Req) (s : Dev) : Dev × Reply :=
  let seg := fld (r.word 0) 15 0
  let string := bit (r.word 0) 17
  let cursor := fld (r.word 1) 31 0
  let n := fld (r.word 3) 12 0
  checks [(decide (1 ≤ n) && decide (n ≤ 4096) && fld (r.word 2) 2 0 == 0, Status.badArgument)] (fun s =>
    let remote := if string && decide (1 < s.str.members.length) then Config.remoteLearned s.freeCtr else []
    let ls := (ownLearned s ++ remote).filter (fun l => bit (r.word 0) 16 || l.segment == seg)
    let all := mergedView ls
    let es := (all.drop cursor).take n
    let next := if all.length ≤ cursor + n then 0 else cursor + n
    let s1 := { s with freeCtr := s.freeCtr + 1 }
    match bufferFault .timeout s ch r with
    | some st => if es = [] then (s1, some (s.readStatus, [0])) else fail st s1
    | none =>
      (bufferWrite ch (r.word 2) (wordsBytes (es.flatMap (learnedWords s))) s1, some (s.readStatus, [mk64 [next, at' es.length 32]]))) s

def cmdL2Read (ch : Nat) (r : Req) (s : Dev) : Dev := command spec0520 ch r (l2Read ch r) s

/-- L2_READ (R328, R335). -/
def execL2Read (ch : Nat) (r : Req) (s : State) : Host.Outcome State Fault Refusal := ran (Wf.l2Read ch r) (onChannel ch (cmdL2Read ch r)) s

def spec0521 : CmdSpec := mgrCmd 0x0521 [bits 18 0 ||| bits 31 24 ||| bits 63 44] 8

/-- Removes this member's copies; with STRING the other members remove theirs. -/
def l2Flush (_ : Nat) (r : Req) (s : Dev) : Dev × Reply :=
  let w := r.word 0
  let hit := fun (l : Learned) => (bit w 16 || l.segment == fld w 15 0) && (!bit w 18 || (l.port == fld w 31 24 && l.node == fld w 63 44))
  let n := ((ownLearned s).filter hit).length
  done [BitVec.ofNat 64 n] (pipeNumbers.foldl (fun s k => forgetIn k hit s) s)

def cmdL2Flush (ch : Nat) (r : Req) (s : Dev) : Dev := command spec0521 ch r (l2Flush ch r) s

/-- L2_FLUSH (R327, Table 9-7). -/
def execL2Flush (ch : Nat) (r : Req) (s : State) : Host.Outcome State Fault Refusal := ran (Wf.l2Flush ch r) (onChannel ch (cmdL2Flush ch r)) s

end Sys2Proof.Machine
end

