-- ==== Sys2Proof/Machine/Mailbox.lean ====
section
/-! DEFINITION. Mailbox channels as their senders write them, the response timer, the firmware watchdog, and the general commands (R133 to
R145, R155 to R164; Table 4-7). -/
namespace Sys2Proof.Machine

/-! ### Writes of a channel region -/

/-- The BAR0 offset of a byte of a channel region (R133). -/
def chanOff (ch off : Nat) : Nat := if ch < 4096 then 0x1000000 + ch * 0x1000 + off else 0x100000 + (ch - 4096) * 0x100 + off

/-- A write that finds FULL set is rejected (R143, R144). -/
def rejectWrite (m ch off : Nat) (s : Dev) : Dev :=
  let c := s.chan ch
  let s1 := count .mbxReject 0 (s.setChan ch { c with rejectCount := c.rejectCount + 1 })
  if 8 ≤ m ∧ m ≤ 10 then emit (.aer (m - 8) true 0 (chanOff ch off)) (abort (m - 8) 0 (chanOff ch off) true 7 s1)
  else emit (.busError m) s1

/-- Bytes written over words from byte `off` on. -/
def overlay (ws : List W64) (n off : Nat) (bs : List Byte) : List W64 :=
  let old := wordsBytes ((ws ++ List.replicate (n - ws.length) 0).take n)
  bytesWords (old.take off ++ bs ++ old.drop (off + bs.length)) n

/-- A doorbell write: TAKEN acts first, then POST captures the request (R137, R140). -/
def doorbellBits (ch : Nat) (post taken : Bool) (s : Dev) : Dev :=
  let c := s.chan ch
  let c1 := if taken then { c with empty := true } else c
  s.setChan ch (if post then { c1 with full := true, captured := c1.request } else c1)

/-- MGT performs a doorbell write (R143, R145). -/
def chanDoorbell (m ch : Nat) (post taken : Bool) (s : Dev) : Dev :=
  if s.sender ch ≠ some m then count .mbxBindDenied 0 s
  else if post && (s.chan ch).full then rejectWrite m ch 0x80 s
  else doorbellBits ch post taken s

/-- MGT performs a write of a permitted shape in a channel region (R135, R136, R143, R145). -/
def chanWrite (m ch off : Nat) (bs : List Byte) (s : Dev) : Dev :=
  let c := s.chan ch
  let v : W64 := BitVec.ofNat 64 (leNat bs)
  if s.sender ch ≠ some m then count .mbxBindDenied 0 s
  else if off < 0x40 then
    if c.full then rejectWrite m ch off s else s.setChan ch { c with request := overlay c.request 8 off bs }
  else if off = 0x80 then chanDoorbell m ch (bit v 0) (bit v 1) s
  else if off = 0x90 then s.setChan ch { c with slotFreeEn := bit v 0, responseEn := bit v 1 }
  else s

/-- The shape of a write is permitted (R136). -/
def shapeOk (off len : Nat) : Bool :=
  if off < 0x80 then off % 4 == 0 && len % 4 == 0 && decide (0 < len) && decide (off % 64 + len ≤ 64)
  else if off < 0x98 then off % 8 == 0 && len == 8
  else true

/-- A held channel write is performed. -/
def performChan (h : HeldWrite) (s : Dev) : Dev :=
  match h with
  | .reg _ => s
  | .region m _ ch off bs => chanWrite m ch off bs s
  | .doorbell m _ ch post taken => chanDoorbell m ch post taken s

/-- A channel write arrives: from a host through its port (R108, R134), from an internal master at MGT. The port of a slice's page is judged before the
shape, unlike a register's (log 76): DESIGN CHOICE, log 122 (R108, R130). A write of the page behind its channel region is discarded (R105, R133). -/
def chanArrive (m : Nat) (half : Bool) (ch off len : Nat) (h : HeldWrite) (s : Dev) : Dev :=
  if 8 ≤ m ∧ m ≤ 10 then
    let p := m - 8
    let x := s.port p
    if !(x.link half).usable || x.rrs || postedBlocked s p then s
    else if decide (ch < 4096) && !pageServed s p half ch then wrongPort p 0 (chanOff ch off) true s
    else if 0x100 ≤ off then s
    else if !shapeOk off len then
      emit (.aer p false 0 (chanOff ch off)) (count .hifBadAccess p (abort p 0 (chanOff ch off) true 3 s))
    else postedWrite p isl.MGT h (performChan h) s
  else if off < 0x100 ∧ shapeOk off len then performChan h s
  else s

/-- MBX_REQUEST_WRITE: a write of a channel region (R136, R143). -/
def execMbxRequestWrite (m : Nat) (half : Bool) (ch off : Nat) (bs : List Byte) (s : State) : Host.Outcome State Fault Refusal := ran (Wf.mbxRequestWrite m half ch off bs) (chanArrive m half ch off bs.length (.region m half ch off bs)) s

/-- POST, with TAKEN in the same write or without (R137, R140). -/
def execPostRequest (m : Nat) (half : Bool) (ch : Nat) (withTaken : Bool) (s : State) : Host.Outcome State Fault Refusal := ran (Wf.postRequest m half ch withTaken) (chanArrive m half ch 0x80 8 (.doorbell m half ch true withTaken)) s

/-- TAKEN (R140). -/
def execTaken (m : Nat) (half : Bool) (ch : Nat) (s : State) : Host.Outcome State Fault Refusal := ran (Wf.taken m half ch) (chanArrive m half ch 0x80 8 (.doorbell m half ch false true)) s

/-- WRITE_ACKNOWLEDGE: the buffer frees, and the held write for it enters (R118, R119). -/
def writeAcknowledge (p k : Nat) (s : Dev) : Dev :=
  if s.xbusy p k then
    match (s.port p).held with
    | some (j, h) => if j = k then performHeld performChan h (s.setPort p { s.port p with held := none }) else setXbusy p k false s
    | none => setXbusy p k false s
  else s

/-! ### The response timer -/

/-- MAILBOX_RESPONSE_TIMEOUT: the hardware answers TIMEOUT, the command runs on (R155). -/
def responseTimeout (ch : Nat) (s0 : Dev) : Dev :=
  let c := s0.chan ch
  match c.executing, c.current with
  | true, some ⟨_, op, seq⟩ =>
    let s := reach c.deadline s0
    let d := mk64 [lo 13 ch, at' seq.toNat 16, at' (lo 16 op) 32]
    logFault isl.MGT 0xFF 0x1002 0 d 0 (count .mbxTimeouts 0 (writeResponse ch op seq .timeout false 0 [] s))
  | _, _ => s0

/-- A response timer runs out. -/
def execMailboxResponseTimeout (ch : Nat) (s : State) : Host.Outcome State Fault Refusal := ran (Wf.mailboxResponseTimeout ch) (responseTimeout ch) s

/-! ### The firmware watchdog -/

/-- The watchdog period in force (R161): a new one is so once the firmware has restarted its watchdog. -/
def Dev.wdogShown (s : Dev) : Nat := (mgtAt s.mgt s.now).wdogMs

/-- FIRMWARE_WATCHDOG (R159, R535; Table 13-3). -/
def firmwareWatchdog (pc : W64) (s : Dev) : Dev :=
  if s.mgt.fwUp then
    let g := s.mgt
    let s1 := freeSems (fun m => decide (1 ≤ m) && decide (m ≤ 4)) { s with mgt := { g with fwUp := false, fwVersion := 0 } }
    let s2 := { s1 with
      cry := { s1.cry with ste := if s1.cry.ste = .service then .recovery else s1.cry.ste },
      boot := { s1.boot with stage := if s1.boot.stage = 6 then 5 else s1.boot.stage, entered := false } }
    count .mgtWdogRestarts 0 (logFault isl.MGT 0xFF 0x1001 0 pc 0 (spiBus true s2))
  else s

/-- A watchdog period passes without a restart. -/
def execFirmwareWatchdog (pc : W64) (s : State) : Host.Outcome State Fault Refusal := ran (Wf.firmwareWatchdog pc) (firmwareWatchdog pc) s

/-! ### General commands (Table 4-7) -/

/-- A command that is accepted before the device is ready (R161). -/
def earlyCmd (opcode : Nat) (masks : List W64) (respMax : Nat) : CmdSpec := { anyCmd opcode masks respMax with early := true }

def earlyMgrCmd (opcode : Nat) (masks : List W64) (respMax : Nat) : CmdSpec := { mgrCmd opcode masks respMax with early := true }

def spec0000 : CmdSpec := earlyCmd 0x0000 [] 24

/-- DEVICE_INFO. -/
def deviceInfo (ch : Nat) (_ : Req) (s : Dev) : Dev × Reply :=
  done [mk64 [0x4144, at' 0x10 16, at' s.mgt.fwVersion.toNat 32], Config.unitSerial, mk64 [s.str.node, at' ((s.sender ch).getD 0) 32]] s

def cmdDeviceInfo (ch : Nat) (r : Req) (s : Dev) : Dev := command spec0000 ch r (deviceInfo ch r) s

/-- DEVICE_INFO (0x0000). -/
def execDeviceInfo (ch : Nat) (r : Req) (s : State) : Host.Outcome State Fault Refusal := ran (Wf.deviceInfo ch r) (onChannel ch (cmdDeviceInfo ch r)) s

def spec0001 : CmdSpec := earlyCmd 0x0001 [] 8

/-- READY_STATUS. -/
def readyStatus (_ : Nat) (_ : Req) (s : Dev) : Dev × Reply := done [mk64 [b2n s.boot.ready, at' s.boot.stage 8]] s

def cmdReadyStatus (ch : Nat) (r : Req) (s : Dev) : Dev := command spec0001 ch r (readyStatus ch r) s

/-- READY_STATUS (0x0001). -/
def execReadyStatus (ch : Nat) (r : Req) (s : State) : Host.Outcome State Fault Refusal := ran (Wf.readyStatus ch r) (onChannel ch (cmdReadyStatus ch r)) s

/-- A slice channel and an internal channel name themselves only (Table 4-7). -/
def namesItself (s : Dev) (ch n : Nat) : Bool := n == ch || !(isSliceChan ch || s.isInternal ch)

def spec0002 : CmdSpec := earlyCmd 0x0002 [bits 12 0 ||| bits 22 16] 0

/-- CHANNEL_CONFIG: from the channel's next request on (R155). -/
def channelConfig (ch : Nat) (r : Req) (s : Dev) : Dev × Reply :=
  let n := fld (r.word 0) 12 0
  let ms := fld (r.word 0) 22 16
  checks [(decide (n < 4352) && decide (1 ≤ ms) && decide (ms ≤ 100), .badArgument), (namesItself s ch n, .notPermitted)]
    (fun s => done [] (s.setChan n { s.chan n with timerMs := ms })) s

def cmdChannelConfig (ch : Nat) (r : Req) (s : Dev) : Dev := command spec0002 ch r (channelConfig ch r) s

/-- CHANNEL_CONFIG (0x0002). -/
def execChannelConfig (ch : Nat) (r : Req) (s : State) : Host.Outcome State Fault Refusal := ran (Wf.channelConfig ch r) (onChannel ch (cmdChannelConfig ch r)) s

def spec0003 : CmdSpec := earlyCmd 0x0003 [bits 28 0] 8

/-- CMD_RESULT: the newest history entry of that sequence. -/
def cmdResult (ch : Nat) (r : Req) (s : Dev) : Dev × Reply :=
  let n := fld (r.word 0) 28 16
  let seq : BitVec 16 := BitVec.ofNat 16 (fld (r.word 0) 15 0)
  if n ≥ 4352 then fail .badArgument s
  else if !namesItself s ch n then fail .notPermitted s
  else
    match (s.chan n).history.find? (fun h => h.seq == seq) with
    | some h => done [mk64 [lo 16 h.opcode, at' h.seq.toNat 16, at' (Status.code h.status) 32, at' (b2n h.done) 48]] s
    | none => fail .badArgument s

def cmdCmdResult (ch : Nat) (r : Req) (s : Dev) : Dev := command spec0003 ch r (cmdResult ch r) s

/-- CMD_RESULT (0x0003). -/
def execCmdResult (ch : Nat) (r : Req) (s : State) : Host.Outcome State Fault Refusal := ran (Wf.cmdResult ch r) (onChannel ch (cmdCmdResult ch r)) s

def spec0004 : CmdSpec := earlyMgrCmd 0x0004 [bits 13 0] 0

/-- WATCHDOG_CONFIG. -/
def watchdogConfig (_ : Nat) (r : Req) (s : Dev) : Dev × Reply :=
  let ms := fld (r.word 0) 13 0
  checks [(decide (10 ≤ ms) && decide (ms ≤ 10000), .badArgument)]
    (fun s =>
      let p := s.wdogShown
      done [] { s with mgt := { s.mgt with wdogMs := p, wdogNextMs := ms, wdogAt := Time.plus s.now (p * 1000000) } }) s

def cmdWatchdogConfig (ch : Nat) (r : Req) (s : Dev) : Dev := command spec0004 ch r (watchdogConfig ch r) s

/-- WATCHDOG_CONFIG (0x0004). -/
def execWatchdogConfig (ch : Nat) (r : Req) (s : State) : Host.Outcome State Fault Refusal := ran (Wf.watchdogConfig ch r) (onChannel ch (cmdWatchdogConfig ch r)) s

def spec0005 : CmdSpec := earlyMgrCmd 0x0005 [bits 31 0, anyWord, bits 10 0] 16

/-- The records that FAULT_LOG_READ takes (R164). -/
def faultsFrom (s : Dev) (first : BitVec 32) (n : Nat) : BitVec 32 × List FaultRec :=
  let g := s.mgt
  let d := (g.nextIndex - first).toNat
  let held := g.faults.length
  if d = 0 ∨ 2 ^ 31 ≤ d then (g.nextIndex, [])
  else
    let k := Nat.min d held
    (g.nextIndex - BitVec.ofNat 32 k, (g.faults.drop (held - k)).take n)

/-- FAULT_LOG_READ (R164). -/
def faultLogRead (ch : Nat) (r : Req) (s : Dev) : Dev × Reply :=
  let n := fld (r.word 2) 10 0
  let (i, rs) := faultsFrom s (BitVec.ofNat 32 (fld (r.word 0) 31 0)) n
  checks [(decide (1 ≤ n) && decide (n ≤ 1024) && fld (r.word 1) 2 0 == 0, .badArgument)]
    (toBuffer .timeout ch r (r.word 1) (wordsBytes (rs.flatMap FaultRec.words))
      [mk64 [i.toNat, at' s.mgt.nextIndex.toNat 32], BitVec.ofNat 64 rs.length]) s

def cmdFaultLogRead (ch : Nat) (r : Req) (s : Dev) : Dev := command spec0005 ch r (faultLogRead ch r) s

/-- FAULT_LOG_READ (0x0005). -/
def execFaultLogRead (ch : Nat) (r : Req) (s : State) : Host.Outcome State Fault Refusal := ran (Wf.faultLogRead ch r) (onChannel ch (cmdFaultLogRead ch r)) s

def spec0006 : CmdSpec := earlyMgrCmd 0x0006 [bits 6 0] 8

/-- SEM_FORCE_RELEASE (R169). -/
def semForceRelease (_ : Nat) (r : Req) (s : Dev) : Dev × Reply :=
  let k := fld (r.word 0) 6 0
  if s.semOwner k = 0 then fail .alreadyComplete s
  else done [BitVec.ofNat 64 (s.semOwner k)] (count .mgtSemForced 0 (s.setSem k 0))

def cmdSemForceRelease (ch : Nat) (r : Req) (s : Dev) : Dev := command spec0006 ch r (semForceRelease ch r) s

/-- SEM_FORCE_RELEASE (0x0006). -/
def execSemForceRelease (ch : Nat) (r : Req) (s : State) : Host.Outcome State Fault Refusal := ran (Wf.semForceRelease ch r) (onChannel ch (cmdSemForceRelease ch r)) s

def spec0007 : CmdSpec := earlyMgrCmd 0x0007 [bits 0 0] 0

/-- DEVICE_RESET (R162). -/
def deviceReset (ch : Nat) (r : Req) (s : Dev) : Dev × Reply :=
  checks [(bit (r.word 0) 0, .badArgument), (s.mgt.deviceReset.isNone, .busy)]
    (fun s => (deviceResetGo { s with mgt := { s.mgt with deviceReset := some (mkJob spec0007 ch r s, none) } }, none)) s

def cmdDeviceReset (ch : Nat) (r : Req) (s : Dev) : Dev := command spec0007 ch r (deviceReset ch r) s

/-- DEVICE_RESET (0x0007). -/
def execDeviceReset (ch : Nat) (r : Req) (s : State) : Host.Outcome State Fault Refusal := ran (Wf.deviceReset ch r) (onChannel ch (cmdDeviceReset ch r)) s

end Sys2Proof.Machine
end

