-- ==== Sys2Proof/Machine/VersionCmds.lean ====
section
/-! DEFINITION. The version commands (Table 2-10) and the checks of a commit (R77, R321). -/
namespace Sys2Proof.Machine

/-! ### Consistency (R321) -/

/-- Bytes of a key profile's pieces. -/
def profileBytes (x : KeyProfile) : Nat := (x.pieces.map (fun w => w.toNat / 512 % 16 + 1)).sum

/-- A profile names a defined table, and its lengths make up KEY_BYTES. -/
def profileFits (r : RuleSet) (x : KeyProfile) : Bool :=
  let d := RuleSet.tableDef r x.table
  decide (0 < d.keyBytes) && profileBytes x == d.keyBytes

def profilePresent (r : RuleSet) (n : Nat) : Bool := !(SMap.get KeyProfile.none r.profiles n).pieces.isEmpty

/-- An action names a bound program, where it names one. -/
def actionBound (r : RuleSet) (a : Action) : Bool := a.kind != 5 || (SMap.get ProgBind.none r.programs (a.arg % 4096)).valid

/-- The entries of a table that are valid in the version of slot `k`. -/
def entriesOf (s : Dev) (k t : Nat) : List Entry :=
  let p := s.places t
  (((SMap.entries p.onchip) ++ (SMap.entries p.stash) ++ (SMap.entries p.ext)).map Prod.snd).filter (fun e => Entry.validFor e (s.slot k).version)

/-- The build in slot `k` is consistent. -/
def buildConsistent (s : Dev) (k : Nat) : Bool :=
  let r := (s.slot k).rules
  r.plans.all (fun e => e.2.steps.all (profilePresent r) && actionBound r e.2.miss) &&
  r.profiles.all (fun e => profileFits r e.2) &&
  r.segments.all (fun e => (SMap.get Plan.none r.plans (segPlan e.2)).valid) &&
  (List.range 14).all (fun t => (entriesOf s k t).all (fun e => actionBound r e.act)) &&
  ((SMap.entries s.rules.routes).filter (fun e => e.2.slots.getLsbD k)).all (fun e => actionBound r e.2.act) &&
  (entriesOf s k 14).all (fun e => (SMap.get Segment.none r.segments (fld e.act.a 15 0)).valid)

/-- Every image of the build verifies (Table 2-5). -/
def buildAuthentic (s : Dev) (k : Nat) : Bool :=
  match (s.slot k).rules.image with
  | some im => imageAuth s im.raw
  | none => true

/-- Entries that the build adds to a table less those that it closes. -/
def netAdded (s : Dev) (k t : Nat) : Int :=
  let v := (s.slot k).version
  let p := s.places t
  let es := ((SMap.entries p.onchip) ++ (SMap.entries p.stash) ++ (SMap.entries p.ext)).map Prod.snd
  ((es.filter (fun e => decide (e.vfrom = v) && e.isOpen)).length : Int) - ((es.filter (fun e => decide (e.vto = v) && !e.isOpen)).length : Int)

/-- The minimum of what the other members last reported (R435); none in a string of one. -/
def reportedFree (s : Dev) : Option FreeCounts :=
  (s.bundleList.filter (fun b => decide ((s.bundle b).state = .up))).foldl
    (fun m b => match m, (s.bundle b).free with
      | some x, some f => some (FreeCounts.min x f)
      | none, some f => some f
      | x, none => x) none

/-- The build fits every table of the string (R321). -/
def buildFits (s : Dev) (k : Nat) : Bool :=
  match reportedFree s with
  | some f => tableNumbers.all (fun t => let (a, b) := f.tables.getD t (0, 0); decide (netAdded s k t ≤ (a + b : Nat)))
  | none => true

/-- The lines of the build's record (R79). -/
def buildLines (s : Dev) : Nat := recLines (Config.recordBytes s.rules.buildRecord).length

/-! ### Commands -/

/-- SLOT_STATE codes of the eight slots. -/
def SlotState.code : SlotState → Nat
  | .free => 0
  | .building => 1
  | .prepared => 2
  | .active => 3
  | .draining => 4

def spec0500 : CmdSpec := mgrCmd 0x0500 [] 32

/-- Words of VERSION_QUERY. -/
def versionWords (s : Dev) : List W64 :=
  let build := match s.slotIn .building with
    | some k => (s.slot k).version
    | none => 0
  [mk64 [s.activeVersion.toNat, at' build.toNat 32],
   mk64 [(slotNumbers.map (fun k => SlotState.code (s.slot k).state * 16 ^ k)).sum, at' (lo 2 s.str.partition) 32],
   mk64 [lo 20 s.str.lead, at' (lo 20 s.str.members.length) 20],
   mk64 [s.rules.tAct.toNat]]

/-- VERSION_QUERY answers STALE_PARTITION until the steps of R84 are done. -/
def versionQuery (_ : Nat) (_ : Req) (s : Dev) : Dev × Reply :=
  (s, some (s.readStatus, versionWords s))

def cmdVersionQuery (ch : Nat) (r : Req) (s : Dev) : Dev := command spec0500 ch r (versionQuery ch r) s

/-- VERSION_QUERY (R89). -/
def execVersionQuery (ch : Nat) (r : Req) (s : State) : Host.Outcome State Fault Refusal := ran (Wf.versionQuery ch r) (onChannel ch (cmdVersionQuery ch r)) s

def spec0501 : CmdSpec := mgrCmd 0x0501 [bits 32 0] 8

/-- VERSION_BUILD_BEGIN: at once in a FREE slot, else with FORCE after a forced retirement (R71). A PREPARE that is being journalled for a FREE slot
counts as a PREPARED one: DESIGN CHOICE, log 117. -/
def versionBuildBegin (ch : Nat) (r : Req) (s : Dev) : Dev × Reply :=
  let base := reqVersion r
  let v := base + 1
  let k := versionSlot v
  let force := bit (r.word 0) 32
  let draining := decide ((s.slot k).state = .draining)
  checks [(!s.nonLead, .stalePartition),
          (s.activeSlot.isSome && s.activeVersion == base && (s.slotIn .building).isNone && s.preparedSlot.isNone &&
            (draining || s.str.held.isNone), .versionConflict),
          (!draining || (force && s.str.buildWait.isNone), .busy)]
    (fun s =>
      if draining then
        (sendRetire k true s.now { s with str := { s.str with buildWait := some (mkJob spec0501 ch r s, base) } }, none)
      else done [mk64 [v.toNat]] (beginBuild v s)) s

def cmdVersionBuildBegin (ch : Nat) (r : Req) (s : Dev) : Dev := command spec0501 ch r (versionBuildBegin ch r) s

/-- VERSION_BUILD_BEGIN (R62, R71). -/
def execVersionBuildBegin (ch : Nat) (r : Req) (s : State) : Host.Outcome State Fault Refusal := ran (Wf.versionBuildBegin ch r) (onChannel ch (cmdVersionBuildBegin ch r)) s

def spec0502 : CmdSpec := mgrCmd 0x0502 [bits 31 0] 16

/-- A VERSION_COMMIT is executing on this member: one that has been answered is not, though its commit goes on (Tables 2-4 and 2-5). -/
def Dev.commitExecutes (s : Dev) : Bool := s.str.commit.any (fun c => c.job.isSome) || s.str.nextCommit.isSome || s.str.jobWait.isSome

/-- VERSION_COMMIT: the checks of Table 2-4, step 1, then the token, behind an answered commit of this member (R73, R74, R77). -/
def versionCommit (ch : Nat) (r : Req) (s : Dev) : Dev × Reply :=
  let v := reqVersion r
  if s.nonLead then fail .stalePartition s
  else if s.activeSlot.isSome ∧ s.activeVersion = v then (s, some (.alreadyComplete, [mk64 [v.toNat], mk64 [s.rules.tAct.toNat]]))
  else match s.buildSlot v with
    | none => if s.committing v then fail .busy s else fail .versionConflict s
    | some k =>
      checks [(!s.commitExecutes && !s.str.starting, .busy), (buildConsistent s k, .badArgument),
              (buildAuthentic s k, .authFailed), (buildFits s k, .noResource)]
        (fun s =>
          let c : Commit := { version := v, stage := .token, acked := [], latest := 0, failed := none, tAct := 0, rollForward := false,
                              job := some (mkJob spec0502 ch r s) }
          if Jnl.takes s.jnl 1 (buildLines s) then (beginNext { s with str := { s.str with nextCommit := some c } }, none)
          else refuseRecord (buildLines s) s) s

def cmdVersionCommit (ch : Nat) (r : Req) (s : Dev) : Dev := command spec0502 ch r (versionCommit ch r) s

/-- VERSION_COMMIT (R74). -/
def execVersionCommit (ch : Nat) (r : Req) (s : State) : Host.Outcome State Fault Refusal := ran (Wf.versionCommit ch r) (onChannel ch (cmdVersionCommit ch r)) s

def spec0503 : CmdSpec := mgrCmd 0x0503 [bits 31 0] 0

/-- VERSION_BUILD_ABORT: the build is freed, and a PREPARE held for its slot goes on (R571). -/
def versionBuildAbort (_ : Nat) (r : Req) (s : Dev) : Dev × Reply :=
  let v := reqVersion r
  checks [((s.buildSlot v).isSome || s.committing v, .versionConflict), (!s.committing v, .busy)]
    (fun s => done [] (tryPrepare (dropBuild (s.buildK v) s))) s

def cmdVersionBuildAbort (ch : Nat) (r : Req) (s : Dev) : Dev := command spec0503 ch r (versionBuildAbort ch r) s

/-- VERSION_BUILD_ABORT (R89). -/
def execVersionBuildAbort (ch : Nat) (r : Req) (s : State) : Host.Outcome State Fault Refusal := ran (Wf.versionBuildAbort ch r) (onChannel ch (cmdVersionBuildAbort ch r)) s

end Sys2Proof.Machine
end

