-- ==== Sys2Proof/Machine/Take.lean ====
section
/-! DEFINITION. The Lamplighter takes a posted request (R137, R138, R149, R569, R570). -/
namespace Sys2Proof.Machine

/-- The commands by opcode (Tables 2-10, 4-7 and those of the later chapters), part 1. -/
def commandTable0 : List (Nat × (Nat → Req → Dev → Dev)) :=
  [(0x0000, cmdDeviceInfo), (0x0001, cmdReadyStatus), (0x0002, cmdChannelConfig), (0x0003, cmdCmdResult),
   (0x0004, cmdWatchdogConfig), (0x0005, cmdFaultLogRead), (0x0006, cmdSemForceRelease), (0x0007, cmdDeviceReset),
   (0x0100, cmdSliceCreate), (0x0101, cmdSliceResize), (0x0102, cmdSliceQuery), (0x0103, cmdSliceQuiesce),
   (0x0104, cmdSliceReset), (0x0105, cmdSliceDestroy), (0x0110, cmdVectorSet), (0x0111, cmdVectorCoalesce),
   (0x0112, cmdEventMap), (0x0200, cmdQueueCreate), (0x0201, cmdQueueDestroy), (0x0202, cmdQueueQuery), (0x0203, cmdQueueModify),
   (0x0204, cmdQueueRestart), (0x0205, cmdQueueAbort), (0x0230, cmdQueueRecoveryRead), (0x0300, cmdPortOctetMode),
   (0x0301, cmdPortConfig)]

/-- The commands by opcode (Tables 2-10, 4-7 and those of the later chapters), part 2. -/
def commandTable1 : List (Nat × (Nat → Req → Dev → Dev)) :=
  [(0x0302, cmdPortQuery), (0x0303, cmdPortTxTimestamps), (0x0304, cmdPortLanePolarity), (0x0400, cmdParserImageLoad),
   (0x0401, cmdParserImagePatch), (0x0402, cmdParserPolicy), (0x0403, cmdParserQuery), (0x0404, cmdParserPolicyQuery),
   (0x0500, cmdVersionQuery), (0x0501, cmdVersionBuildBegin), (0x0502, cmdVersionCommit), (0x0503, cmdVersionBuildAbort),
   (0x0510, cmdTableDefine), (0x0511, cmdKeyProfile), (0x0512, cmdPlanSet), (0x0513, cmdTableInsert), (0x0514, cmdTableDelete),
   (0x0515, cmdTableLookup), (0x0516, cmdSegmentSet), (0x0517, cmdPortBind), (0x0518, cmdL2Static), (0x0519, cmdRouteSet),
   (0x0520, cmdL2Read), (0x0521, cmdL2Flush), (0x0540, cmdActImageLoad), (0x0541, cmdActImageUnload)]

/-- The commands by opcode (Tables 2-10, 4-7 and those of the later chapters), part 3. -/
def commandTable2 : List (Nat × (Nat → Req → Dev → Dev)) :=
  [(0x0542, cmdActGroupSet), (0x0543, cmdActGroupQuery), (0x0544, cmdActProgramBind), (0x0545, cmdActSignal),
   (0x0546, cmdActBindQuery), (0x0600, cmdTmgPortSet), (0x0601, cmdTmgGroupSet), (0x0602, cmdTmgSliceNodeSet),
   (0x0603, cmdTmgSliceLimit), (0x0604, cmdTmgQueueSet), (0x0605, cmdTmgQueueStats), (0x0606, cmdTmgPolicerSet),
   (0x0607, cmdTmgPolicerStats), (0x0608, cmdTmgFloodListSet), (0x0609, cmdTmgMirrorSet), (0x0700, cmdStringConfig),
   (0x0701, cmdStringQuery), (0x0702, cmdStringMembers), (0x0703, cmdBundleAdmin), (0x0704, cmdBundleQuery),
   (0x0705, cmdStringTimeSteer), (0x0706, cmdStringTimeSet), (0x0800, cmdLcpSaSet), (0x0801, cmdLcpSaDelete),
   (0x0802, cmdLcpSaQuery), (0x0803, cmdLcpQueueBind)]

/-- The commands by opcode (Tables 2-10, 4-7 and those of the later chapters), part 4. -/
def commandTable3 : List (Nat × (Nat → Req → Dev → Dev)) :=
  [(0x0810, cmdSteKeySet), (0x0811, cmdSteSessionOpen), (0x0812, cmdSteSessionClose), (0x0813, cmdSteConnQuery),
   (0x0820, cmdCryptoSliceRearm), (0x0821, cmdStePatchStage), (0x0900, cmdMeterConfig), (0x0901, cmdMeterQuery),
   (0x0902, cmdMeterRead), (0x0903, cmdMeterRelease), (0x0904, cmdMeterLive), (0x0A00, cmdObsTraceConfig),
   (0x0A01, cmdObsHeaderCapture), (0x0A02, cmdObsStream), (0x0A03, cmdObsTraceRead), (0x0A04, cmdObsTapEnable),
   (0x0B00, cmdTruQuery), (0x0B01, cmdKeyEnrol), (0x0B02, cmdKeyRevoke), (0x0B03, cmdCertRead), (0x0B04, cmdTruZeroise),
   (0x0C00, cmdMemQuery), (0x0C01, cmdMemRetrainConfig), (0x0C02, cmdMemChannelQuery), (0x0C10, cmdJnlQuery),
   (0x0C11, cmdJnlCompact)]

/-- The commands by opcode (Tables 2-10, 4-7 and those of the later chapters). -/
def commandTable : List (Nat × (Nat → Req → Dev → Dev)) := commandTable0 ++ commandTable1 ++ commandTable2 ++ commandTable3

/-- The request that a captured frame holds (R149). -/
def frameReq (ws : List W64) (host : HostIO) : Req :=
  let w := ws.getD 0 0
  { seq := BitVec.ofNat 16 (fld w 31 16), indirect := bit w 32, retry := bit w 33, flagsRsv := decide (fld w 47 34 ≠ 0),
    payloadLen := BitVec.ofNat 16 (fld w 63 48), inline := ((ws.drop 1) ++ List.replicate 7 0).take 7, host := host }

/-- A request with an undefined opcode (R570, points 1 and 2). -/
def unknownCommand (op ch : Nat) (r : Req) (s : Dev) : Dev :=
  match isReplay s op ch r with
  | some h => replayAnswer ch r h (count .mbxRequests 0 s)
  | none =>
    let s1 := takeRequest ch op r.seq s
    answer { ch := ch, no := s1.mgt.takes, opcode := op, seq := r.seq, writeOk := false, indirect := false, addr := 0 } .badArgument [] s1

/-- FULL falls, which is an event where the sender has asked for it; the channel is the one served last (R135, R138). -/
def emptySlot (ch : Nat) (s : Dev) : Dev :=
  let c := s.chan ch
  whenB c.slotFreeEn (mbxEvent ch) (served ch (s.setChan ch { c with full := false }))

/-- REQUEST_TAKE: the channel's request is taken when it is its turn, and executed. -/
def requestTake (ch : Nat) (host : HostIO) (s : Dev) : Dev :=
  if servedNext s ≠ some ch then s
  else
    let ws := (s.chan ch).captured
    let r := frameReq ws host
    let op := fld (ws.getD 0 0) 15 0
    match commandTable.find? (fun e => e.1 == op) with
    | some (_, f) => f ch r (emptySlot ch s)
    | none => unknownCommand op ch r (emptySlot ch s)

/-- REQUEST_TAKE (R138). -/
def execRequestTake (ch : Nat) (host : HostIO) (s : State) : Host.Outcome State Fault Refusal := ran (Wf.requestTake ch host) (requestTake ch host) s

end Sys2Proof.Machine
end

