-- ==== Sys2Proof/Machine/ReadReg.lean ====
section
/-! DEFINITION. What every register reads as, and the reading of 128-bit values (R105, R110, R120, R126 to R128; the register tables of
chapters 1 and 3 to 16). Reserved offsets and reserved bits read 0, and so do WO fields. -/
namespace Sys2Proof.Machine

/-- A number with bit `k` set for each `k` of a list. -/
def bitsOfList (l : List Nat) : Nat := (l.map (fun k => 2 ^ k)).sum

/-! ### Host ports (Table 3-7) -/

def hifStatus (s : Dev) (p : Nat) : W64 :=
  mk64 [b2n s.boot.ready, at' (b2n (p == s.mgrPort)) 1, at' (b2n (s.port p).bifurcated) 2, at' (b2n s.mgt.fwUp) 3, at' (lo 4 s.boot.stage) 8]

def hifLink (l : HostLink) : W64 :=
  if l.up then mk64 [1, at' l.speed.toNat 1, at' (b2n l.flit) 4, at' l.width.toNat 5] else 0

def readHif (s : Dev) (p off : Nat) : W64 :=
  match off with
  | 0x000 => hifStatus s p
  | 0x008 => mk64 [(s.port p).xbusy.toNat]
  | 0x010 => (s.port p).abortAddr
  | 0x018 => mk64 [(s.port p).abortTime.toNat]
  | 0x020 => hifLink (s.port p).linkA
  | 0x028 => hifLink (s.port p).linkB
  | _ => 0

/-! ### MGT (Tables 4-10, 12-10, 14-6, 15-6) -/

def mgtStatus (s : Dev) : W64 := mk64 [b2n s.mgt.fwUp, at' (b2n s.mgt.bindLock) 1, at' s.mgt.fwVersion.toNat 32]

/-- MGT_BIND_DATA of a manager channel. -/
def bindData (s : Dev) (m : Nat) : W64 :=
  let b := SMap.get ⟨0, false⟩ s.mgt.bindings m
  let fixed := m == 0 || decide (240 ≤ m)
  if b.valid then mk64 [b.sender.toNat, at' 1 8, at' 1 16, at' (b2n fixed) 17] else mk64 [at' (b2n fixed) 17]

/-- MGT_TIME_STATE. -/
def timeState (s : Dev) : W64 := mk64 [b2n s.str.locked, at' (BitVec.ofInt 32 s.str.freqPpb).toNat 32]

def readMgt (s : Dev) (m off : Nat) : W64 :=
  if 0x300 ≤ off ∧ off < 0x700 ∧ off % 8 = 0 then semWord s ((off - 0x300) / 8) m
  else
    match off with
    | 0x000 => mgtStatus s
    | 0x008 => mk64 [s.mgt.nextIndex.toNat]
    | 0x010 => s.regShown isl.MGT 0x010
    | 0x018 => bindData s (s.regField isl.MGT 0x010 7 0)
    | 0x028 => mk64 [b2n s.mgt.bindLock]
    | 0x030 => mk64 [s.wdogShown]
    | 0x038 => mk64 [m]
    | 0x080 => mk64 [s.now.toNat, at' (lo 16 (Config.freeNat s.freeCtr)) 48]
    | 0x088 => timeState s
    | 0x100 => jnlStatus s
    | 0x108 => jnlHealth s
    | 0x110 => jnlRate s
    | 0x118 => jnlSeq s
    | 0x200 => mtrStatus s
    | 0x208 => mtrNextMark s
    | 0x210 => mtrDone s
    | 0x218 => mtrOldest s
    | _ => 0

/-! ### QDE (Tables 5-6, 6-8) -/

def qdeSummary (s : Dev) : W64 :=
  let qs := s.qde.pairs.filter (fun e => e.2.valid)
  mk64 [qs.length, at' (qs.filter (fun e => e.2.fetchError)).length 32]

def dmaState (s : Dev) (c : Nat) : W64 :=
  mk64 [s.dmaFill c, at' (b2n (s.dma c).fetching) 8, at' (lo 4 (s.dmaBusy c)) 9, at' (s.qpsOn c).length 32]

def readQde (s : Dev) (off : Nat) : W64 :=
  match off with
  | 0x000 => slcSummary s
  | 0x010 => slcState s (s.regField isl.QDE 0x008 11 0)
  | 0x018 => mk64 [poolFree s Profile.queuePairs 262144]
  | 0x020 => mk64 [poolFree s Profile.vectors 65536]
  | 0x108 => ieuPending s (s.regField isl.QDE 0x100 11 0)
  | 0x110 => ieuMasked s (s.regField isl.QDE 0x100 11 0)
  | 0x180 => qdeSummary s
  | 0x190 => qStateWord s (s.regField isl.QDE 0x188 17 0)
  | 0x198 => qIndexWord s (s.regField isl.QDE 0x188 17 0)
  | 0x1A0 => qAuxWord s (s.regField isl.QDE 0x188 17 0)
  | 0x208 => s.dmaCfgShown
  | 0x210 => dmaState s (s.regField isl.QDE 0x200 6 0)
  | _ => s.regShown isl.QDE off

/-! ### NETW and NETE (Table 7-8) -/

/-- The four octet modes of an island whose first octet is `o`. -/
def octetModes (s : Dev) (o : Nat) : W64 := mk64 ((List.range 4).map (fun n => at' (lo 4 (s.octetMode (o + n))) (4 * n)))

def portsUp (s : Dev) (first : Nat) : W64 :=
  mk64 [bitsOfList ((List.range 32).filter (fun i => decide ((s.eport (first + i)).state = .up)))]

def readNet (s : Dev) (i off : Nat) : W64 :=
  let first := if i = isl.NETW then 0 else 32
  match off with
  | 0x000 => octetModes s (first / 8)
  | 0x008 => portsUp s first
  | 0x018 => portStateWord s (first + s.regField i 0x010 4 0)
  | _ => s.regShown i off

/-! ### The pipelines and the distributors (Tables 1-12, 8-7, 9-6) -/

/-- A PREPARED, ACTIVE or DRAINING slot maps an image whose words pipeline `k` holds with an uncorrectable error. -/
def imageSpoiled (s : Dev) (k : Nat) : Bool :=
  slotNumbers.any (fun v => (s.slot v).processes && (s.slot v).rules.image.any (fun im => (s.pipe k).badWords.any (Image.covers im)))

/-- CS_READY and REPAIRING (Table 8-7): bit p of CS_READY is 1 while local pipeline p's control store holds free of uncorrectable errors every image
that a PREPARED, ACTIVE or DRAINING slot maps; bit p of REPAIRING while a word of it is to be rewritten. -/
def prsStatus (s : Dev) (i : Nat) : W64 :=
  let base := if i = isl.PIPA then 0 else 4
  mk64 [bitsOfList ((List.range 4).filter (fun p => !imageSpoiled s (base + p))),
    at' (bitsOfList ((List.range 4).filter (fun p => !(s.pipe (base + p)).badWords.isEmpty))) 4]

/-- Segments that hold an image: those of every image that a slot maps. -/
def segsUsed (s : Dev) : List Nat :=
  (List.range 16).filter (fun k => slotNumbers.any (fun v =>
    match (s.slot v).rules.image with
    | some im => decide (im.baseSeg ≤ k) && decide (k < im.baseSeg + Image.segs im)
    | none => false))

/-- A sweep has entries to free (R316). -/
def sweeping (s : Dev) : Bool :=
  let dead := fun (m : SMap (Option Entry)) => (SMap.entries m).any (fun e => !s.keptVersions.any (fun v => Entry.validFor e.2 v))
  tableNumbers.any (fun t => dead (s.places t).onchip || dead (s.places t).stash || dead (s.places t).ext)

def clsStatus (s : Dev) : W64 :=
  mk64 [b2n (sweeping s), at' (bitsOfList (tableNumbers.filter (fun t => decide (0 < stashUsed s t)))) 16]

/-- CLS_TBL_GEOM: the definition in the active version. -/
def tableGeom (s : Dev) (t : Nat) : W64 :=
  let d := RuleSet.tableDef (s.rules' (s.activeSlot.getD 0)) t
  mk64 [lo 23 d.onchip, at' (b2n (decide (21 ≤ d.keyBytes))) 23, at' (lo 5 d.extLog2) 24, at' (lo 6 d.keyBytes) 32]

def tableUse (s : Dev) (t : Nat) : W64 := mk64 [lo 23 (onchipUsed s t), at' (lo 7 (stashUsed s t)) 23, at' (lo 28 (extUsed s t)) 32]

/-- FWD_L2_USE of a pipeline. -/
def l2Use (s : Dev) (k : Nat) : W64 :=
  let ls := (SMap.entries (s.pipe k).learned).map Prod.snd
  mk64 [lo 19 ls.length, at' (lo 19 (ls.filter (isFlapping s)).length) 32]

/-- FWD_LPM_USE; an insertion moves its entries within its own step, so MOVING reads 0. -/
def lpmUseWord (s : Dev) : W64 :=
  let (a, b, f) := lpmUse s
  mk64 [lo 17 a, at' (lo 16 b) 17, at' (lo 17 f) 33]

/-- A bucket of a distributor has a pending move. -/
def movesBucket (s : Dev) (b d : Nat) : Bool := decide ((s.bucket d b).pipeline ≠ (s.bucket d b).target)

/-- PRS_DIST_SLOW. -/
def distSlow (s : Dev) : W64 :=
  let moving := (s.fabric.buckets.map Prod.snd).filter (fun (x : Bucket) => decide (x.pipeline ≠ x.target))
  mk64 [s.fabric.slow.toNat, at' (bitsOfList (pipeNumbers.filter (fun k => moving.any (fun x => x.pipeline == k || x.target == k)))) 8]

/-- PRS_DIST_MAP_DATA. The master copy shows the lowest-numbered distributor whose move is pending, else distributor 0 (DESIGN CHOICE, log 44). -/
def distMapData (s : Dev) (b : Nat) : W64 :=
  let d := ((List.range 8).find? (movesBucket s b)).getD 0
  let x := s.bucket d b
  mk64 [lo 3 x.pipeline, at' (b2n (movesBucket s b d)) 3, at' (lo 3 x.target) 4, at' (b2n ((List.range 8).any (fun d => !(s.bucket d b).held.isEmpty))) 7]

def readPipe (s : Dev) (i off : Nat) : W64 :=
  let pipe := (if i = isl.PIPA then 0 else 4) + s.regField i 0x208 1 0
  let dist := decide (i = isl.PIPA)
  match off with
  | 0x000 => prsStatus s i
  | 0x018 => csVersionWord s (s.regField i 0x010 4 2)
  | 0x020 => (digestWords (csDigest s (s.regField i 0x010 4 2))).getD 0 0
  | 0x028 => mk64 [bitsOfList (segsUsed s), at' (16 - (segsUsed s).length) 16]
  | 0x100 => clsStatus s
  | 0x110 => tableGeom s (s.regField i 0x108 3 0)
  | 0x118 => tableUse s (s.regField i 0x108 3 0)
  | 0x210 => l2Use s pipe
  | 0x218 => lpmUseWord s
  | 0x708 => if dist then distSlow s else 0
  | 0x720 => if dist then distMapData s (s.regField i 0x718 11 0) else 0
  | _ => s.regShown i off

/-! ### ACT0 and ACT1 (Table 10-14) -/

def actSummary (s : Dev) (base : Nat) : W64 :=
  let ts := (List.range 256).map (fun t => (s.thread (base + t)).state)
  mk64 [(ts.filter (fun x => decide (x ≠ .free))).length, at' (ts.filter (fun x => decide (x = .waiting))).length 16,
        at' (ts.filter (fun x => decide (x = .faulted))).length 32]

def thrState (s : Dev) (t : Nat) : W64 :=
  let x := s.thread t
  if x.state = .free then 0
  else mk64 [x.state.ctorIdx, at' (b2n x.held.isSome) 3, at' (lo 12 (s.threadSlice t)) 4, at' (lo 13 x.pc) 16, at' (eventWord s t).toNat 32,
    at' x.waitMask.toNat 48]

def thrInfo (s : Dev) (t : Nat) : W64 :=
  let x := s.thread t
  mk64 [lo 8 x.lastFault, at' (lo 13 x.faultPc) 8, at' (lo 10 x.group) 32, at' (lo 4 (threadWeight s t)) 42, at' (lo 5 x.input.length) 46]

/-- 16 entries of a core's slot table from `first` on. -/
def slotWord (s : Dev) (core first : Nat) : W64 :=
  mk64 ((List.range 16).map (fun e => match s.slotEntry core (first + e) with
    | some t => at' (8 + t) (4 * e)
    | none => 0))

def readAct (s : Dev) (i off : Nat) : W64 :=
  let base := if i = isl.ACT0 then 0 else 256
  let core := base / 8 + s.regField i 0x010 4 0
  let t := 8 * core + s.regField i 0x010 7 5
  match off with
  | 0x000 => actSummary s base
  | 0x018 => thrState s t
  | 0x020 => thrInfo s t
  | 0x028 => mk64 [lo 15 (codeUse s core)]
  | 0x030 => slotWord s core 0
  | 0x038 => slotWord s core 16
  | _ => s.regShown i off

/-! ### TMG (Table 11-3) -/

/-- The queue holds a packet and a shaper on its path keeps it from being sent. -/
def queueShaped (s : Dev) (q : Nat) (x : TQueue) : Bool :=
  let n := tnode s.tmg.live x.port x.slice
  let g := (n.map TNode.group).getD 0
  let group := match tgroup s.tmg.live x.port g with
    | some y =>
      let r := s.tg (16 * x.port + g)
      committed (schedBit s 1) y.cir y.cbs r.cSpent || peakOpen (schedBit s 1) y.pir y.pbs r.pSpent
    | none => true
  let node := match n with
    | some y => peakOpen (schedBit s 2) y.peak y.peakBurst (s.tn (4096 * x.port + x.slice)).pSpent
    | none => true
  let own := committed (schedBit s 0) x.cir x.cbs (s.tq q).cSpent || peakOpen (schedBit s 0) x.pir x.pbs (s.tq q).pSpent
  let port := peakOpen true (portKbps s x.port) (tport s.tmg.live x.port).burst (s.tp x.port).spent
  !(s.tq q).items.isEmpty && !(own && node && group && port)

def tmgQState (s : Dev) (q : Nat) : W64 :=
  match tqueue s.tmg.live q with
  | none => 0
  | some x =>
    mk64 [1, at' (b2n (classPaused s x.port x.cls)) 1, at' (b2n (queueShaped s q x)) 2, at' (b2n (s.tmg.out.contains x.slice)) 3, at' (lo 3 x.cls) 4,
      at' (lo 3 x.prio) 7, at' (lo 4 (((tnode s.tmg.live x.port x.slice).map TNode.group).getD 0)) 10, at' (lo 12 x.slice) 16, at' (lo 8 x.port) 28]

def readTmg (s : Dev) (off : Nat) : W64 :=
  let q := s.regField isl.TMG 0x050 15 0
  match off with
  | 0x000 => mk64 [lo 20 (bufUsed s), at' (lo 20 (sharedFree s)) 32]
  | 0x008 => mk64 [lo 48 s.tmg.periods]
  | 0x058 => tmgQState s q
  | 0x060 => mk64 [lo 20 (qCells (s.tq q)), at' (headDelay s (s.tq q)) 32]
  | 0x070 => polState s (s.regField isl.TMG 0x068 16 0)
  | _ => s.regShown isl.TMG off

/-! ### The other islands -/

def readLnk (s : Dev) (off : Nat) : W64 :=
  match off with
  | 0x000 => lnkStatus s
  | 0x008 => lnkEpoch s
  | 0x010 => lnkToken s
  | 0x018 => lnkRtt s
  | 0x028 => lnkBundleState s (s.regField isl.LNK 0x020 2 0)
  | 0x030 => lnkBundleTime s (s.regField isl.LNK 0x020 2 0)
  | _ => s.regShown isl.LNK off

def readLcp (s : Dev) (off : Nat) : W64 :=
  match off with
  | 0x000 => lcpStatus s
  | 0x018 => saStateWord s (s.regField isl.LCP 0x010 19 0)
  | 0x020 => saSeqWord s (s.regField isl.LCP 0x010 19 0)
  | _ => s.regShown isl.LCP off

def readSte (s : Dev) (off : Nat) : W64 :=
  match off with
  | 0x000 => steStatus s
  | 0x008 => steCsVersion s
  | 0x020 => steConnWord s (s.regField isl.STE 0x018 13 0)
  | _ => s.regShown isl.STE off

def readMem (s : Dev) (off : Nat) : W64 :=
  match off with
  | 0x000 => memStatus s
  | 0x020 => memChState (s.memChan (s.regField isl.MEM 0x018 5 0))
  | _ => s.regShown isl.MEM off

def readTru (s : Dev) (off : Nat) : W64 :=
  match off with
  | 0x000 => truStatus s
  | 0x008 => truAlarm s
  | 0x018 => truMeasDigest s
  | _ => s.regShown isl.TRU off

def readObs (s : Dev) (off : Nat) : W64 :=
  match off with
  | 0x000 => obsStatus s
  | 0x008 => obsTracePtrs s
  | 0x010 => mk64 [s.obs.consumed]
  | 0x018 => obsBoot s
  | _ => s.regShown isl.OBS off

/-- A register's value as master `m` reads it: `off` within the block of island `i`. -/
def readReg (s : Dev) (m i off : Nat) : W64 :=
  if off = 0x7F0 then mk64 [i, at' 0x10 8]
  else if off = 0x7F8 then mk64 [b2n (s.applied i), at' (SMap.get 0 s.regs.applyCount i).toNat 16]
  else
    match i with
    | 0 => readHif s 0 off
    | 1 => readHif s 1 off
    | 2 => readHif s 2 off
    | 3 => readNet s 3 off
    | 4 => readNet s 4 off
    | 5 => readLnk s off
    | 6 => readPipe s 6 off
    | 7 => readPipe s 7 off
    | 8 => readAct s 8 off
    | 9 => readAct s 9 off
    | 10 => readTmg s off
    | 11 => readLcp s off
    | 12 => readSte s off
    | 13 => readQde s off
    | 14 => readMem s off
    | 15 => readMgt s m off
    | 16 => readTru s off
    | 17 => readObs s off
    | _ => 0

/-! ### Channel regions and doorbell pages -/

/-- MBX_STATUS of a channel (Table 4-3). -/
def mbxStatus (s : Dev) (ch : Nat) : W64 :=
  let c := s.chan ch
  mk64 [b2n c.full, at' (b2n c.empty) 1, at' (b2n c.executing) 2, at' (b2n (s.sender ch).isSome) 3, at' c.rejectCount.toNat 16]

/-- The 8 bytes at an aligned offset of a channel region, as master `m` reads them: 0 for any but the bound sender (R134, R135, R136, R145). -/
def readChan (s : Dev) (m ch off : Nat) : W64 :=
  let c := s.chan ch
  if s.sender ch ≠ some m then 0
  else if off < 0x40 then c.request.getD (off / 8) 0
  else if off < 0x80 then c.response.getD (off / 8 - 8) 0
  else if off = 0x88 then mbxStatus s ch
  else if off = 0x90 then mk64 [b2n c.slotFreeEn, at' (b2n c.responseEn) 1]
  else 0

/-- The 8 bytes at an aligned offset of a slice's doorbell page: the vector control words, and 0 elsewhere (R196, R210). -/
def readDoorbells (s : Dev) (sl off : Nat) : W64 :=
  let v := (off - 0xFC00) / 8
  if 0xFC00 ≤ off ∧ v < (s.slice sl).profile.vectors then mk64 [b2n (s.vec sl v).mask, at' (b2n (decide (0 < (s.vec sl v).pending))) 1] else 0

/-! ### 128-bit values -/

/-- The low words of 128-bit pairs: HIF_ABORT_ADDR, ACT_SLOTS_LO. -/
def lowWord (i off : Nat) : Bool := (decide (i < 3) && off == 0x010) || ((i == isl.ACT0 || i == isl.ACT1) && off == 0x030)

def shadowKey (m i : Nat) : Nat := 32 * m + i

/-- The high word of the pair whose low word is at `off`, as an 8-byte read by master `m` returns it: latched by its last low-word read in the
island where that was of this pair, else live (R126, R127). -/
def highWord (s : Dev) (m i off : Nat) : W64 :=
  match SMap.get none s.regs.shadows (shadowKey m i) with
  | some (o, v) => if o = off then v else readReg s m i (off + 8)
  | none => readReg s m i (off + 8)

/-- The read latches the high word of a pair. -/
def latchHigh (m i off : Nat) (s : Dev) : Dev :=
  if lowWord i off then
    { s with regs := { s.regs with shadows := SMap.put none s.regs.shadows (shadowKey m i) (some (off, readReg s m i (off + 8))) } }
  else s

/-- The 8 bytes at an aligned offset of an island's block, as an 8-byte read by master `m` returns them (R126, R127). -/
def blockWord (s : Dev) (m i off : Nat) : W64 := if 8 ≤ off ∧ lowWord i (off - 8) then highWord s m i (off - 8) else readReg s m i off

end Sys2Proof.Machine
end

