-- ==== Sys2Proof/Machine/Receive.lean ====
section
/-! DEFINITION. A crossing's receiving end: blocks checked, packets put together and accepted by their unit (R17, R21, R23, R26, R35, R65). -/
namespace Sys2Proof.Machine

/-! ### Acceptance by a unit -/

/-- A marker's body read back (R431). -/
def markerOf (bs : List Byte) : Marker :=
  let w := bodyWord bs
  let slice := fld (w 0) 7 0 == 2
  { isSlice := slice, id := if slice then fld (w 0) 27 16 else fld (w 0) 10 8, version := BitVec.ofNat 32 (fld (w 0) 63 32),
    time := BitVec.ofNat 48 (fld (w 1) 47 0), source := fld (w 1) 55 48 }

/-- A unit holds a drain marker from the unit that sent it. -/
def holdMarker (u : Nat) (p : Pkt) (s : Dev) : Dev :=
  match p.marker with
  | some m => { s with fabric := { s.fabric with markers := s.fabric.markers ++ [(u, p.pipe, m)] } }
  | none => s

/-- The global port of a packet that leaves TMG or LCP: its class queue's port, or that of a control frame's destination. -/
def egressPort (s : Dev) (p : Pkt) : Nat :=
  match p.dest with
  | .port e => e
  | .node n => 64 + (s.route n).elim 0 RouteTo.bundle
  | _ => ((tqueue s.tmg.live p.fromQueue).map TQueue.port).getD 75

/-- The packet is dropped at a crossing's receiving end and counted for the island (R26, R35, R65). -/
def crossingDrop (c : Ctr) (src dst : Nat) (p : Pkt) (s : Dev) : Dev :=
  count c dst (if inFlight src dst p then dropPkt dst p s else if p.marker.isSome then s else traceStep dst 9 p.tag.ingress.toNat p s)

/-- A poisoned packet is dropped; a packet of a host send ends its work with a fault completion (R26). -/
def crossingPoison (src dst : Nat) (p : Pkt) (s : Dev) : Dev :=
  let s1 := crossingDrop .xingPktDrop src dst p s
  if inFlight src dst p then workBad p s1 else s1

/-- A pipeline takes a packet that comes back for another pass or from the line cipher, or a new one. -/
def toPipeline (src : Nat) (p : Pkt) (s : Dev) : Dev :=
  let x := s.pipe p.pipe
  let back := src == isl.LCP || ((src == isl.ACT0 || src == isl.ACT1) && p.ps.plan.isSome)
  s.setPipe p.pipe (if back then { x with returns := x.returns ++ [p] } else { x with input := x.input ++ [p] })

/-- An Ethernet port's MAC takes a frame. A poisoned one is counted as dropped by its island, and goes to the MAC to be stomped or discarded (R26,
R263); one for a port that exists no more is dropped (R37). -/
def toEthPort (i e : Nat) (p : Pkt) (s : Dev) : Dev :=
  let s1 := whenB p.poisoned (count .xingPktDrop i) s
  if s.portExists e then s1.setEport e { s1.eport e with tx := (s1.eport e).tx ++ [p] }
  else count .fwdBadEgress p.pipe (traceStep i 9 e p s1)

/-- A packet reaches its unit. The island drops a poisoned packet (R26); an Ethernet MAC takes it, to stomp or discard it (R263). -/
def acceptPkt (src dst : Nat) (p : Pkt) (s : Dev) : Dev :=
  let whole := fun (f : Dev → Dev) => if p.poisoned then crossingPoison src dst p s else f s
  let good := fun (u : Nat) (f : Dev → Dev) => if p.marker.isSome then holdMarker u p s else whole f
  match dst with
  | 3 => if p.marker.isSome then holdMarker 11 p s else toEthPort isl.NETW (egressPort s p) p s
  | 4 => if p.marker.isSome then holdMarker 12 p s else toEthPort isl.NETE (egressPort s p) p s
  | 5 => good 13 (lnkQueue (egressPort s p - 64) p)
  | 6 => whole (toPipeline src p)
  | 7 => whole (toPipeline src p)
  | 8 => whole (fun s => s.setActInput 0 (s.actInput 0 ++ [p]))
  | 9 => whole (fun s => s.setActInput 1 (s.actInput 1 ++ [p]))
  | 10 => whole (fun s => { s with tmg := { s.tmg with input := s.tmg.input ++ [p] } })
  | 11 =>
    if src = isl.TMG then good 16 (fun s => { s with cry := { s.cry with encIn := s.cry.encIn ++ [p] } })
    else good 10 (fun s => { s with cry := { s.cry with decIn := s.cry.decIn ++ [p] } })
  | 12 => good 9 (fun s => endFlight p { s with cry := { s.cry with steIn := s.cry.steIn ++ [p] } })
  | 13 => good 14 (fun s => { s with qde := { s.qde with rxIn := s.qde.rxIn ++ [p] } })
  | 15 => good 15 (traceStep isl.MGT 8 75 p)
  | _ => s

/-! ### Blocks -/

/-- The bytes in use of a block: all 64, or in a block with EOP set the first VALID_BYTES, 0 meaning 64. -/
def blockBytes (b : Block) : List Byte := if b.eop && b.validBytes != 0 then b.data.take b.validBytes.toNat else b.data

/-- The packet that a channel's source posted, with the tag and frame bytes as they came; a packet that nothing in this model posted gets
the pipeline of its bucket's home. -/
def arrived (c : Channel) (asm : List Byte) (poison : Bool) (dst : Nat) : Pkt :=
  let t := Tag.ofBytes (asm.take 32)
  let bs := asm.drop 32
  match c.carried with
  | p :: _ => { p with tag := t, bytes := bs, poisoned := p.poisoned || poison }
  | [] =>
    let home := Tag.bucket t % 8
    let pipe := if dst = isl.PIPA then home % 4 else if dst = isl.PIPB then 4 + home % 4 else home
    { Pkt.fresh t bs with pipe := pipe, dist := 8, poisoned := poison, marker := if t.flag 1 then some (markerOf bs) else none }

/-- A packet has come whole: its tag is checked (R35, R65), and its unit takes it. The tag of a poisoned packet is not used; a packet discarded on
its way brings nothing. -/
def packetArrive (src dst : Nat) (c : Channel) (asm : List Byte) (poison : Bool) (s : Dev) : Dev :=
  let p := arrived c asm poison dst
  let s1 := s.setXchan src dst { c with carried := c.carried.drop 1, asm := [], asmPoison := false }
  if c.carried.head?.any Pkt.gone then s1
  else if poison then
    match c.carried with
    | q :: _ => if q.marker.isSome then count .xingPktDrop dst s1 else acceptPkt src dst { q with poisoned := true } s1
    | [] => count .xingPktDrop dst s1
  else if !tagBytesOk (asm.take 32) (asm.drop 32).length then crossingDrop .tagBad src dst p s1
  else if !s.versionOk p.tag then crossingDrop .vslotBad src dst p s1
  else acceptPkt src dst p s1

/-- What a good block brings, by its KIND (R21, Table 1-4). A packet grows, and is handed on with its last block. A poisoned register response
ends with Completer Abort the read that the port last sent to the island (R124). What other blocks carry is taken at the events that it belongs to. -/
def blockContent (src dst : Nat) (b : Block) (s : Dev) : Dev :=
  match b.kind with
  | .packet =>
    let c := s.xchan src dst
    let asm := (if b.sop then [] else c.asm) ++ blockBytes b
    let bad := (if b.sop then false else c.asmPoison) || b.poison
    if b.eop then packetArrive src dst c asm bad s else s.setXchan src dst { c with asm := asm, asmPoison := bad }
  | .regAccess =>
    if b.poison ∧ dst < 3 then
      let (bar, off) := SMap.get (0, 0) (s.port dst).lastRead src
      emit (.readAbort dst) (abort dst bar off false 2 s)
    else s
  | _ => s

/-- CROSSING_BLOCK_RECEIVE (R23). A refusal names the block that the receiver expects; what follows is discarded until it comes whole. -/
def crossingBlockReceive (src dst : Nat) (b : Block) (s : Dev) : Dev :=
  let c := s.xchan src dst
  if b.crc = b.goodCrc ∧ b.seq = c.expSeq then
    let s1 := s.setXchan src dst { c with expSeq := c.expSeq + 1, discarding := false, fifo := c.fifo + 1 }
    blockContent src dst b (count .xingBlocks (xinst src dst) (emit (.ack src dst b.seq) s1))
  else if c.discarding ∧ b.seq ≠ c.expSeq then s
  else emit (.refuse src dst c.expSeq) (s.setXchan src dst { c with discarding := true })

/-- A receiving island takes a crossing block (R23). -/
def execCrossingBlockReceive (src dst : Nat) (b : Block) (s : State) : Host.Outcome State Fault Refusal := ran (Wf.crossingBlockReceive src dst b) (crossingBlockReceive src dst b) s

/-- The receiver's unit can take a block out of the FIFO: a pipeline's input holds 64 packets (R47), and its return queue 48 from the action cores and
the line cipher (R287). -/
def unitTakes (s : Dev) (src dst : Nat) : Bool :=
  if dst = isl.PIPA ∨ dst = isl.PIPB then
    pipeNumbers.all (fun k => decide (pipeIsland k ≠ dst) ||
      (if src = isl.ACT0 ∨ src = isl.ACT1 ∨ src = isl.LCP then decide ((s.pipe k).returns.length ≤ 48) else decide ((s.pipe k).input.length ≤ 64)))
  else true

/-- A credit returns (R17); from a HIF island to QDE it may be one of the doorbell crossing (R567). -/
def takeCredit (src dst : Nat) (s : Dev) : Dev :=
  let s1 := if unitTakes s src dst then creditReturn src dst s else s
  if src < 3 ∧ dst = isl.QDE then doorbellCredit src s1 else s1

end Sys2Proof.Machine
end

