-- ==== Sys2Proof/Machine/HostReads.lean ====
section
/-! DEFINITION. Host reads of every window, and the accesses that reach an island in one clock (R104 to R111, R115, R120 to R127, R136, R145, R165
to R168, R196, R210, R539, R567). -/
namespace Sys2Proof.Machine

/-! ### What a read brings -/

/-- A read of a register of the base view or an alias at its island: the value returns, an 8-byte read of a pair's low word latches the high word, a
semaphore is acquired (R110, R115, R126, R127, R165). A reserved offset reads 0 (R105). Each read of MGT_STRING_TIME draws a new fraction: the model's
clock counts whole nanoseconds. -/
def registerRead (m off len : Nat) (s : Dev) : Dev :=
  let i := regIsland off
  let o := regBlockOff off - off % 8
  if 0x9000 ≤ off % 65536 then emit (.readData m 0) s
  else if i = isl.MGT ∧ 0x300 ≤ o ∧ o < 0x700 then semReadOne ((o - 0x300) / 8) m off len s
  else
    let s1 := emit (.readData m (halfOf off len (blockWord s m i o))) (if len = 8 then latchHigh m i o s else s)
    if i = isl.MGT ∧ o = 0x080 then { s1 with freeCtr := s1.freeCtr + 1 } else s1

/-- The bytes of a channel's region, as master `m` reads them. -/
def chanBytes (s : Dev) (m ch off len : Nat) : List Byte :=
  ((wordsBytes ((List.range 20).map (fun k => readChan s m ch (8 * k))) ++ List.replicate len 0).drop off ++ List.replicate len 0).take len

/-- Bytes of the MSI-X table of a function, and its pending bit array (Table 3-4, R198). -/
def msixBytes (l : HostLink) (off len : Nat) : List Byte :=
  let entry := fun (e : Nat) => [SMap.get 0 l.msixAddr e, mk64 [(SMap.get 0 l.msixData e).toNat, at' (b2n (l.msixMask.getLsbD e)) 32]]
  let e := (off - 0x200000) / 16
  ((wordsBytes ((List.range (len / 16 + 2)).flatMap (fun k => if e + k < 64 then entry (e + k) else [0, 0]))).drop (off % 16)).take len

def pbaBytes (l : HostLink) (off len : Nat) : List Byte :=
  ((wordsBytes [l.msixPending] ++ List.replicate len 0).drop (off - 0x201000)).take len

/-- The word that a read of a slice's doorbell page returns: 0 but for a control word read in a shape that R110 permits (R196, R210). -/
def pageWord (s : Dev) (sl off len : Nat) : W64 :=
  if (len = 8 ∧ off % 8 = 0) ∨ (len = 4 ∧ off % 4 = 0) then halfOf off len (readDoorbells s sl (off - off % 8)) else 0

/-- The channel that a BAR0 offset lies in, with the offset within its region or page (R133). -/
def chanAt (off : Nat) : Option (Nat × Nat) :=
  if 0x100000 ≤ off ∧ off < 0x110000 then some (4096 + (off - 0x100000) / 256, off % 256)
  else if 0x1000000 ≤ off ∧ off < 0x2000000 then some ((off - 0x1000000) / 4096, off % 4096)
  else none

/-- A shape that R110 permits. -/
def regShape (off len : Nat) : Bool := (len == 8 && off % 8 == 0) || (len == 4 && off % 4 == 0)

/-- The shape of a channel read is permitted (R136); reserved offsets take any (R105). -/
def chanShape (off len : Nat) : Bool :=
  if off < 0x80 then off % 4 == 0 && len % 4 == 0 && decide (0 < len) && decide (off % 64 + len ≤ 64)
  else if off < 0x98 then regShape off len
  else true

/-- The shape of a read is permitted in its window (R110, R136, R539); of a doorbell page and of reserved offsets any is. -/
def readShape (r : HostRead) : Bool :=
  match r.bar with
  | 0 => if r.off < 0x40000 then regShape r.off r.len else match chanAt r.off with
    | some (_, o) => chanShape o r.len
    | none => true
  | 1 => true
  | _ => decide (4 ≤ r.len) && decide (r.len ≤ 64) && r.off % 4 == 0 && decide (r.off % 64 + r.len ≤ 64)

/-- The read names a slice's page that another port or half serves (R108). -/
def readWrongPort (s : Dev) (p : Nat) (r : HostRead) : Bool :=
  match r.bar with
  | 0 => match chanAt r.off with
    | some (ch, _) => decide (ch < 4096) && !pageServed s p r.half ch
    | none => false
  | 1 => !pageServed s p r.half (r.off / 65536)
  | _ => false

/-- The island that the read crosses to from port `p`'s own; none for what the port's island holds itself. -/
def readIsland (p : Nat) (r : HostRead) : Option Nat :=
  match r.bar with
  | 0 =>
    if r.off < 0x40000 then (if regIsland r.off = p ∨ 0x9000 ≤ r.off % 65536 then none else some (regIsland r.off))
    else (chanAt r.off).map (fun _ => isl.MGT)
  | 1 => some isl.QDE
  | _ => some isl.OBS

/-- The read is performed where it leads, and its data returns. -/
def performRead (r : HostRead) (l : HostLink) (s : Dev) : Dev :=
  match r.bar with
  | 0 =>
    if r.off < 0x40000 then registerRead r.master r.off r.len s
    else if 0x200000 ≤ r.off ∧ r.off < 0x200400 then emit (.readBytes r.master (msixBytes l r.off r.len)) s
    else if 0x201000 ≤ r.off ∧ r.off < 0x201008 then emit (.readBytes r.master (pbaBytes l r.off r.len)) s
    else match chanAt r.off with
      | some (ch, o) => emit (.readBytes r.master (if o < 0x100 then chanBytes s r.master ch o r.len else List.replicate r.len 0)) s
      | none => emit (.readBytes r.master (List.replicate r.len 0)) s
  | 1 => emit (.readData r.master (pageWord s (r.off / 65536) (r.off % 65536) r.len)) s
  | _ => emit (.readBytes r.master ((List.range r.len).map (fun k => bar4Byte s (r.off + k)))) s

/-! ### A read at a port -/

/-- The read waits in the port: behind a held write for the same island, or, of a doorbell page, behind a held doorbell write or for a credit of
the doorbell crossing (R120, R567). -/
def readWaits (s : Dev) (p : Nat) (r : HostRead) : Bool :=
  let x := s.port p
  if r.bar = 1 then x.dbHeld.isSome || x.dbCredits == 0
  else x.held.any (fun e => readIsland p r == some e.1)

/-- The port sends the read, and keeps where it went. -/
def sendRead (p : Nat) (r : HostRead) (s : Dev) : Dev :=
  let x := s.port p
  match readIsland p r with
  | some i =>
    s.setPort p { x with lastRead := SMap.put (0, 0) x.lastRead i (r.bar, r.off), dbCredits := if r.bar = 1 then x.dbCredits - 1 else x.dbCredits }
  | none => s

/-- A read arrives at a host port. A bad shape ends it with Unsupported Request, counted and logged as cause 3 (R111, R136, R539); through the wrong port
or half it returns 0 (R108), which is judged first (log 122). -/
def hostRead (p : Nat) (r : HostRead) (s : Dev) : Dev :=
  let x := s.port p
  if !(x.link r.half).usable || x.rrs then s
  else if readWrongPort s p r then emit (.readBytes r.master (List.replicate r.len 0)) s
  else if !readShape r then emit (.readUnsupported p) (count .hifBadAccess p (abort p r.bar r.off false 3 s))
  else if readWaits s p r then s.setPort p { x with reads := x.reads ++ [r] }
  else performRead r (x.link r.half) (sendRead p r s)

/-- A read of any master: a host port's, or at once one from inside the device, of the register file or a channel (R132, R145). -/
def readArrive (r : HostRead) (s : Dev) : Dev :=
  if 8 ≤ r.master ∧ r.master ≤ 10 then hostRead (r.master - 8) r s
  else if r.bar = 0 ∧ readShape r then performRead r HostLink.reset s
  else s

/-- The reads that waited in a port are looked at again, in order. -/
def serveReads (p : Nat) (s : Dev) : Dev :=
  let x := s.port p
  x.reads.foldl (fun s r => hostRead p r s) (s.setPort p { x with reads := [] })

/-! ### Accesses of one clock (R125) -/

/-- The master of an access. -/
def RegAccess.master : RegAccess → Nat
  | .write w => w.master
  | .read r => r.master

/-- An access arrives. -/
def accessArrive (a : RegAccess) (s : Dev) : Dev :=
  match a with
  | .write w => regWriteArrive w s
  | .read r => readArrive r s

/-- Accesses of one clock, in the arbiter's order: by master identity (R125). -/
def clockOrder (as : List RegAccess) : List RegAccess := sortBy (fun a b => decide (RegAccess.master a ≤ RegAccess.master b)) as

/-- Accesses that reach the islands in one clock. -/
def accessesArrive (as : List RegAccess) (s : Dev) : Dev := (clockOrder as).foldl (fun s a => accessArrive a s) s

/-- REGISTER_WRITE: a base-view write, or one of the MSI-X table, with what other masters send in the same clock (R6, R110, R119, R125). -/
def registerWrite (w : RegWrite) (others : List RegAccess) (s : Dev) : Dev :=
  if w.off < 0x40000 ∧ regView w.off ≠ 0 then s else accessesArrive (.write w :: others) s

/-- The command. -/
def execRegisterWrite (w : ClockWrite) (s : State) : Host.Outcome State Fault Refusal :=
  ran (Wf.registerWrite w.first (sameClock w.writes w.reads)) (registerWrite w.first (sameClock w.writes w.reads)) s

/-- LOW_WORD_READ: a host read, of a 128-bit low word or of anything else that a BAR shows, with what other masters send in the same clock (R110, R125,
R126). -/
def lowWordRead (r : HostRead) (others : List RegAccess) (s : Dev) : Dev := accessesArrive (.read r :: others) s

/-- The command. -/
def execLowWordRead (r : HostRead) (writes : List RegWrite) (reads : List HostRead) (s : State) : Host.Outcome State Fault Refusal :=
  ran (Wf.lowWordRead r (sameClock writes reads)) (lowWordRead r (sameClock writes reads)) s

/-! ### Semaphores -/

/-- The read of semaphore `k` by a master, through a half of its port where it is a host's. -/
def semAccess (k : Nat) (e : Nat × Bool) : HostRead := { master := e.1, half := e.2, bar := 0, off := 15 * 2048 + 0x300 + 8 * k, len := 8 }

/-- The read reaches MGT now: its port's BARs decode and it waits behind no write (R98, R120). -/
def semArrives (s : Dev) (k : Nat) (e : Nat × Bool) : Bool :=
  !(decide (8 ≤ e.1) && decide (e.1 ≤ 10)) ||
    (((s.port (e.1 - 8)).link e.2).usable && !(s.port (e.1 - 8)).rrs && !readWaits s (e.1 - 8) (semAccess k e))

/-- Reads of a semaphore that arrive in one MGT clock are performed in ascending identity. Of a free one the lowest that may acquires it, and every other
read of that clock is counted (R166, R167). -/
def semRead (ms : List (Nat × Bool)) (k : Nat) (s : Dev) : Dev :=
  let here := (ms.filter (semArrives s k)).map Prod.fst
  let s1 := accessesArrive (ms.map (fun e => .read (semAccess k e))) s
  if s.semOwner k = 0 ∧ here.any (mayAcquire s) then countBy .mgtSemContended 0 (here.length - 1) s1 else s1

/-- SEMAPHORE_READ (R165, R166, R167). -/
def execSemaphoreRead (ms : List (Nat × Bool)) (k : Nat) (s : State) : Host.Outcome State Fault Refusal := ran (Wf.semaphoreRead ms k) (semRead ms k) s

/-! ### What lets waiting reads go -/

/-- A performed write is acknowledged; the held write goes first, then the reads behind it (R118, R120). -/
def ackWrite (port island : Nat) (s : Dev) : Dev := serveReads port (writeAcknowledge port island s)

/-- The command. -/
def execWriteAcknowledge (port island : Nat) (s : State) : Host.Outcome State Fault Refusal := ran (Wf.writeAcknowledge port island) (ackWrite port island) s

/-- A register access has stalled for 2 µs (R123). -/
def endStall (port island off : Nat) (write : Bool) (s : Dev) : Dev := serveReads port (stallTimeout port island off write s)

/-- The command. -/
def execRegisterStallTimeout (port island off : Nat) (write : Bool) (s : State) : Host.Outcome State Fault Refusal := ran (Wf.registerStallTimeout port island off write) (endStall port island off write) s

/-- A doorbell write has been held for 2 µs (R567). -/
def endDoorbellHold (port : Nat) (s : Dev) : Dev := serveReads port (doorbellHoldTimeout port s)

/-- The command. -/
def execDoorbellHoldTimeout (port : Nat) (s : State) : Host.Outcome State Fault Refusal := ran (Wf.doorbellHoldTimeout port) (endDoorbellHold port) s

/-- A credit returns (R17); on the doorbell crossing it may be what a read waits for (R567). -/
def creditTaken (src dst : Nat) (s : Dev) : Dev := if src < 3 ∧ dst = isl.QDE then serveReads src (takeCredit src dst s) else takeCredit src dst s

/-- The command. -/
def execCreditReturn (src dst : Nat) (s : State) : Host.Outcome State Fault Refusal := ran (Wf.creditReturn src dst) (creditTaken src dst) s

end Sys2Proof.Machine
end

