-- ==== Sys2Proof/Machine/Restart.lean ====
section
/-! DEFINITION. The firmware's restart behind its watchdog (R159, R160). A command whose record the journal does not hold ends HALTED: what of it waits
to be done is dropped, and what it has begun is taken back as far as it can be (log 18). -/
namespace Sys2Proof.Machine

/-- The response that a journal record leads to. -/
def JThen.job : JThen → Option Job
  | .answer j _ _ => some j
  | .compacted j => some j
  | _ => none

/-- The journal holds the record of a channel's command whole (R160): a configuration record, or the decision of its commit. -/
def journalHolds (s : Dev) (ch no : Nat) : Bool :=
  let mine := fun (j : Job) => j.ch == ch && j.no == no
  let decided := s.str.commit.any (fun c => c.job.any mine && s.jnl.records.any (fun r => match r.body with
    | .decision _ => r.subject == c.version.toNat
    | _ => false))
  s.jnl.records.any (fun r => (JThen.job r.then').any mine) || decided

/-- A channel's unfinished history entries end, and a request that still executes is answered (R160). -/
def endHistory (ch : Nat) (s : Dev) : Dev :=
  let c := s.chan ch
  let st := fun (no : Nat) => if journalHolds s ch no then Status.ok else Status.halted
  let s1 := s.setChan ch { c with running := [], history := c.history.map (fun h => if h.done then h else { h with status := st h.no, done := true }) }
  match c.executing, c.current with
  | true, some ⟨no, op, seq⟩ => writeResponse ch op seq (st no) false 0 [] s1
  | _, _ => s1

/-- A commit that no journal holds decided is withdrawn, with the one behind it and the one whose outcome is awaited (R160, R322). -/
def haltCommits (s : Dev) : Dev :=
  let s1 := endNext .halted s
  let s2 := match s1.str.commit with
    | some (c : Commit) =>
      if c.job.isNone then s1
      else if c.stage = CommitStage.token then endCommit .halted [] s1
      else if c.stage = CommitStage.prepare then withdraw c .halted s1
      else s1
    | none => s1
  let s3 := match s2.str.jobWait with
    | some (j, _) => answer j .halted [] { s2 with str := { s2.str with jobWait := none } }
    | none => s2
  match s3.str.buildWait with
  | some (j, _) => answer j .halted [] { s3 with str := { s3.str with buildWait := none } }
  | none => s3

/-- The quiesce or reset of a slice that a command or DEVICE_RESET has begun is taken back: the slice returns to the state before it. One that the
loss of the link has forced goes on without its command (R160, R189). -/
def haltSlice (sl : Nat) (s : Dev) : Dev :=
  let z := (s.slice sl).quiesce
  let s1 := match z.job with
    | some j => answer j .halted [] (onQuiesce sl (fun z => { z with job := none }) s)
    | none => s
  if z.job.isNone && z.why != .deviceReset then s1
  else if z.hostLost then onQuiesce sl (fun z => { z with why := .portLoss }) s1
  else
    let s2 := forgetMarkers (fun m => m.isSlice && m.id == sl) s1
    enterState sl z.before (onQuiesce sl (fun z => { z with step := 0, why := .quiesce, qdeMarked := false }) s2)

/-- DEVICE_RESET that has not been answered ends, and with it the quiesces that are its own. -/
def haltReset (s : Dev) : Dev :=
  match s.mgt.deviceReset with
  | some (j, none) => answer j .halted [] { s with mgt := { s.mgt with deviceReset := none } }
  | _ => s

/-- QUEUE_ABORTs that wait for their entry end. -/
def haltAborts (q : Nat) (s : Dev) : Dev :=
  let x := s.qp q
  x.aborts.foldl (fun s (_, _, j) => answer j .halted [] s) (s.setQp q { x with aborts := [] })

/-- The commands that go on and whose record the journal does not hold end HALTED (R160). -/
def haltJobs (s : Dev) : Dev :=
  let answered := s.mgt.deviceReset.any (fun d => d.2.isSome)
  let s1 := haltReset (haltCommits s)
  let slices := s1.sliceList.filter (fun n => (s1.slice n).quiesce.job.isSome || (!answered && (s1.slice n).quiesce.why == .deviceReset))
  let s2 := slices.foldl (fun s n => haltSlice n s) s1
  ((s2.qde.pairs.map Prod.fst).filter (fun q => !(s2.qp q).aborts.isEmpty)).foldl (fun s q => haltAborts q s) s2

/-- The firmware runs again: history entries end, requests are taken, and the storage engine serves (R160; Table 13-3). Its replay of the journal has
the records that had been taken whole (DESIGN CHOICE, log 18), so it ends only once none is on its way. -/
def firmwareRestart (v : BitVec 32) (s : Dev) : Dev :=
  if s.mgt.fwUp || decide (s.boot.stage < 4) || decide (7 < s.boot.stage) || s.boot.powerFail || !s.jnl.inflight.isEmpty then s
  else
    let s0 := haltJobs s
    let s1 := (s0.mgt.chans.map Prod.fst).foldl (fun s ch => endHistory ch s) s0
    spiBus false { s1 with
      mgt := { s1.mgt with fwUp := true, fwVersion := v, wdogMs := s1.mgt.wdogNextMs, wdogAt := s1.now },
      cry := { s1.cry with ste := if s1.cry.ste = .recovery ∧ s1.boot.stage = 7 then .service else s1.cry.ste } }

/-- FIRMWARE_RESTART_COMPLETE (R160). -/
def execFirmwareRestartComplete (version : BitVec 32) (s : State) : Host.Outcome State Fault Refusal := ran (Wf.firmwareRestartComplete version) (firmwareRestart version) s

end Sys2Proof.Machine
end

