-- ==== Sys2Proof/Machine/Dispatch.lean ====
section
/-! DEFINITION. One arm per command: its meaning, or its name where it has none. -/
namespace Sys2Proof.Machine

def exec (i : Instr) (s : State) : Host.Outcome State Fault Refusal :=
  match i with
  | .crossingBlockReceive src dst b => Sys2Proof.Machine.execCrossingBlockReceive src dst b s
  | .blockAcknowledgement src dst seq => Sys2Proof.Machine.execBlockAcknowledgement src dst seq s
  | .blockRefusal src dst seq => Sys2Proof.Machine.execBlockRefusal src dst seq s
  | .crossingAckTimeout src dst seq => Sys2Proof.Machine.execCrossingAckTimeout src dst seq s
  | .creditReturn src dst => Sys2Proof.Machine.execCreditReturn src dst s
  | .distributorSend d => Sys2Proof.Machine.execDistributorSend d s
  | .bucketInFlightEnd d b => Sys2Proof.Machine.execBucketInFlightEnd d b s
  | .pipelineMarkedSlow k => Sys2Proof.Machine.execPipelineMarkedSlow k s
  | .slowMarkCleared k => Sys2Proof.Machine.execSlowMarkCleared k s
  | .distCfgWrite w => Sys2Proof.Machine.execDistCfgWrite w s
  | .versionQuery ch r => Sys2Proof.Machine.execVersionQuery ch r s
  | .versionBuildBegin ch r => Sys2Proof.Machine.execVersionBuildBegin ch r s
  | .versionCommit ch r => Sys2Proof.Machine.execVersionCommit ch r s
  | .versionBuildAbort ch r => Sys2Proof.Machine.execVersionBuildAbort ch r s
  | .queueRecoveryRead ch r => Sys2Proof.Machine.execQueueRecoveryRead ch r s
  | .tokenReqReceive => Sys2Proof.Machine.execTokenReqReceive s
  | .tokenGrantReceive => Sys2Proof.Machine.execTokenGrantReceive s
  | .tokenReleaseReceive => Sys2Proof.Machine.execTokenReleaseReceive s
  | .prepareDataReceive => Sys2Proof.Machine.execPrepareDataReceive s
  | .prepareEndReceive => Sys2Proof.Machine.execPrepareEndReceive s
  | .prepareAckReceive => Sys2Proof.Machine.execPrepareAckReceive s
  | .prepareWithdrawReceive => Sys2Proof.Machine.execPrepareWithdrawReceive s
  | .activateReceive => Sys2Proof.Machine.execActivateReceive s
  | .activation => Sys2Proof.Machine.execActivation s
  | .activateAckReceive => Sys2Proof.Machine.execActivateAckReceive s
  | .retireReceive => Sys2Proof.Machine.execRetireReceive s
  | .versionDrainStart slot => Sys2Proof.Machine.execVersionDrainStart slot s
  | .drainMarkerPass unit slot => Sys2Proof.Machine.execDrainMarkerPass unit slot s
  | .drainDoneReceive => Sys2Proof.Machine.execDrainDoneReceive s
  | .slotFreeReceive => Sys2Proof.Machine.execSlotFreeReceive s
  | .pullReqReceive => Sys2Proof.Machine.execPullReqReceive s
  | .pullDataReceive => Sys2Proof.Machine.execPullDataReceive s
  | .perstAssert port => Sys2Proof.Machine.execPerstAssert port s
  | .perstDeassert port strap => Sys2Proof.Machine.execPerstDeassert port strap s
  | .linkDown port half => Sys2Proof.Machine.execLinkDown port half s
  | .linkUp port half speed flit width => Sys2Proof.Machine.execLinkUp port half speed flit width s
  | .d3hotEntry port half => Sys2Proof.Machine.execD3hotEntry port half s
  | .d0Return port half => Sys2Proof.Machine.execD0Return port half s
  | .configurationRequest port half q => Sys2Proof.Machine.execConfigurationRequest port half q s
  | .bar4Write port off => Sys2Proof.Machine.execBar4Write port off s
  | .registerWrite w => Sys2Proof.Machine.execRegisterWrite w s
  | .setAliasWrite w => Sys2Proof.Machine.execSetAliasWrite w s
  | .clearAliasWrite w => Sys2Proof.Machine.execClearAliasWrite w s
  | .toggleAliasWrite w => Sys2Proof.Machine.execToggleAliasWrite w s
  | .writeAcknowledge port island => Sys2Proof.Machine.execWriteAcknowledge port island s
  | .lowWordRead r writes reads => Sys2Proof.Machine.execLowWordRead r writes reads s
  | .registerStallTimeout port island off write => Sys2Proof.Machine.execRegisterStallTimeout port island off write s
  | .doorbellHoldTimeout port => Sys2Proof.Machine.execDoorbellHoldTimeout port s
  | .mbxRequestWrite m half ch off bs => Sys2Proof.Machine.execMbxRequestWrite m half ch off bs s
  | .postRequest m half ch withTaken => Sys2Proof.Machine.execPostRequest m half ch withTaken s
  | .taken m half ch => Sys2Proof.Machine.execTaken m half ch s
  | .requestTake ch host => Sys2Proof.Machine.execRequestTake ch host s
  | .mailboxResponseTimeout ch => Sys2Proof.Machine.execMailboxResponseTimeout ch s
  | .mgtBindWrite w => Sys2Proof.Machine.execMgtBindWrite w s
  | .bindLock w => Sys2Proof.Machine.execBindLock w s
  | .firmwareWatchdog pc => Sys2Proof.Machine.execFirmwareWatchdog pc s
  | .firmwareRestartComplete version => Sys2Proof.Machine.execFirmwareRestartComplete version s
  | .semaphoreRead ms k => Sys2Proof.Machine.execSemaphoreRead ms k s
  | .semaphoreRelease m k value viaAlias => Sys2Proof.Machine.execSemaphoreRelease m k value viaAlias s
  | .deviceInfo ch r => Sys2Proof.Machine.execDeviceInfo ch r s
  | .readyStatus ch r => Sys2Proof.Machine.execReadyStatus ch r s
  | .channelConfig ch r => Sys2Proof.Machine.execChannelConfig ch r s
  | .cmdResult ch r => Sys2Proof.Machine.execCmdResult ch r s
  | .watchdogConfig ch r => Sys2Proof.Machine.execWatchdogConfig ch r s
  | .faultLogRead ch r => Sys2Proof.Machine.execFaultLogRead ch r s
  | .semForceRelease ch r => Sys2Proof.Machine.execSemForceRelease ch r s
  | .deviceReset ch r => Sys2Proof.Machine.execDeviceReset ch r s
  | .deviceResetExecute => Sys2Proof.Machine.execDeviceResetExecute s
  | .sliceCreate ch r => Sys2Proof.Machine.execSliceCreate ch r s
  | .sliceResize ch r => Sys2Proof.Machine.execSliceResize ch r s
  | .sliceQuery ch r => Sys2Proof.Machine.execSliceQuery ch r s
  | .sliceQuiesce ch r => Sys2Proof.Machine.execSliceQuiesce ch r s
  | .sliceReset ch r => Sys2Proof.Machine.execSliceReset ch r s
  | .sliceDestroy ch r => Sys2Proof.Machine.execSliceDestroy ch r s
  | .sliceDrainMarkerPass unit sl => Sys2Proof.Machine.execSliceDrainMarkerPass unit sl s
  | .quiesceDrained sl => Sys2Proof.Machine.execQuiesceDrained sl s
  | .quiesceTimeout sl => Sys2Proof.Machine.execQuiesceTimeout sl s
  | .vectorSet ch r => Sys2Proof.Machine.execVectorSet ch r s
  | .vectorCoalesce ch r => Sys2Proof.Machine.execVectorCoalesce ch r s
  | .eventMap ch r => Sys2Proof.Machine.execEventMap ch r s
  | .vectorMask port half sl v len => Sys2Proof.Machine.execVectorMask port half sl v len s
  | .vectorUnmask port half sl v len => Sys2Proof.Machine.execVectorUnmask port half sl v len s
  | .vectorDelayExpiry sl v => Sys2Proof.Machine.execVectorDelayExpiry sl v s
  | .msixUnmask port half entry => Sys2Proof.Machine.execMsixUnmask port half entry s
  | .producerDoorbell port half sl off len ws => Sys2Proof.Machine.execProducerDoorbell port half sl off len ws s
  | .completionConsumerDoorbell port half sl off len ws => Sys2Proof.Machine.execCompletionConsumerDoorbell port half sl off len ws s
  | .invalidateDoorbell port half sl off len ws => Sys2Proof.Machine.execInvalidateDoorbell port half sl off len ws s
  | .descriptorFetch chan => Sys2Proof.Machine.execDescriptorFetch chan s
  | .descriptorFetchComplete qp ds => Sys2Proof.Machine.execDescriptorFetchComplete qp ds s
  | .descriptorFetchTimeout qp => Sys2Proof.Machine.execDescriptorFetchTimeout qp s
  | .descriptorStart chan => Sys2Proof.Machine.execDescriptorStart chan s
  | .dmaReadComplete qp index what res => Sys2Proof.Machine.execDmaReadComplete qp index what res s
  | .pcieCompletionTimeout qp index what => Sys2Proof.Machine.execPcieCompletionTimeout qp index what s
  | .fenceReadComplete qp index ok => Sys2Proof.Machine.execFenceReadComplete qp index ok s
  | .translationComplete qp index what page => Sys2Proof.Machine.execTranslationComplete qp index what page s
  | .atsInvalidation port pasid page log2 tag => Sys2Proof.Machine.execAtsInvalidation port pasid page log2 tag s
  | .atsInvalidationComplete port tag => Sys2Proof.Machine.execAtsInvalidationComplete port tag s
  | .rxFrameArrival => Sys2Proof.Machine.execRxFrameArrival s
  | .completionRecordWrite qp => Sys2Proof.Machine.execCompletionRecordWrite qp s
  | .queueCreate ch r => Sys2Proof.Machine.execQueueCreate ch r s
  | .queueDestroy ch r => Sys2Proof.Machine.execQueueDestroy ch r s
  | .queueQuery ch r => Sys2Proof.Machine.execQueueQuery ch r s
  | .queueModify ch r => Sys2Proof.Machine.execQueueModify ch r s
  | .queueRestart ch r => Sys2Proof.Machine.execQueueRestart ch r s
  | .queueAbort ch r => Sys2Proof.Machine.execQueueAbort ch r s
  | .dmaCfgWrite w => Sys2Proof.Machine.execDmaCfgWrite w s
  | .portOctetMode ch r => Sys2Proof.Machine.execPortOctetMode ch r s
  | .portConfig ch r => Sys2Proof.Machine.execPortConfig ch r s
  | .portQuery ch r => Sys2Proof.Machine.execPortQuery ch r s
  | .portTxTimestamps ch r => Sys2Proof.Machine.execPortTxTimestamps ch r s
  | .portLanePolarity ch r => Sys2Proof.Machine.execPortLanePolarity ch r s
  | .autonegotiationEnd port ok => Sys2Proof.Machine.execAutonegotiationEnd port ok s
  | .trainingEnd port ok => Sys2Proof.Machine.execTrainingEnd port ok s
  | .lockAchieved port => Sys2Proof.Machine.execLockAchieved port s
  | .lockTimeout port => Sys2Proof.Machine.execLockTimeout port s
  | .linkLost port lane => Sys2Proof.Machine.execLinkLost port lane s
  | .ethFrameReceived port bs sfd code preamble fcs fec => Sys2Proof.Machine.execEthFrameReceived port bs sfd code preamble fcs fec s
  | .ethFrameToDistributor port => Sys2Proof.Machine.execEthFrameToDistributor port s
  | .pauseFrameReceived port pfc mask quanta => Sys2Proof.Machine.execPauseFrameReceived port pfc mask quanta s
  | .pauseExpiry port prio => Sys2Proof.Machine.execPauseExpiry port prio s
  | .pauseRefresh port => Sys2Proof.Machine.execPauseRefresh port s
  | .frameTransmit port begun => Sys2Proof.Machine.execFrameTransmit port begun s
  | .parserPass pipe errs => Sys2Proof.Machine.execParserPass pipe errs s
  | .csWordRewrite pipe word ok => Sys2Proof.Machine.execCsWordRewrite pipe word ok s
  | .scrubRound pipe errs => Sys2Proof.Machine.execScrubRound pipe errs s
  | .parserImageLoad ch r => Sys2Proof.Machine.execParserImageLoad ch r s
  | .parserImagePatch ch r => Sys2Proof.Machine.execParserImagePatch ch r s
  | .parserPolicy ch r => Sys2Proof.Machine.execParserPolicy ch r s
  | .parserQuery ch r => Sys2Proof.Machine.execParserQuery ch r s
  | .parserPolicyQuery ch r => Sys2Proof.Machine.execParserPolicyQuery ch r s
  | .classification e => Sys2Proof.Machine.execClassification e s
  | .extTableReadResponse pipe poisoned => Sys2Proof.Machine.execExtTableReadResponse pipe poisoned s
  | .lineRebuild granule line => Sys2Proof.Machine.execLineRebuild granule line s
  | .learnEvent pipe => Sys2Proof.Machine.execLearnEvent pipe s
  | .flapHoldEnd pipe segment mac => Sys2Proof.Machine.execFlapHoldEnd pipe segment mac s
  | .ageingScan => Sys2Proof.Machine.execAgeingScan s
  | .entrySweep ext => Sys2Proof.Machine.execEntrySweep ext s
  | .tableDefine ch r => Sys2Proof.Machine.execTableDefine ch r s
  | .keyProfile ch r => Sys2Proof.Machine.execKeyProfile ch r s
  | .planSet ch r => Sys2Proof.Machine.execPlanSet ch r s
  | .tableInsert ch r => Sys2Proof.Machine.execTableInsert ch r s
  | .tableDelete ch r => Sys2Proof.Machine.execTableDelete ch r s
  | .tableLookup ch r => Sys2Proof.Machine.execTableLookup ch r s
  | .segmentSet ch r => Sys2Proof.Machine.execSegmentSet ch r s
  | .portBind ch r => Sys2Proof.Machine.execPortBind ch r s
  | .l2Static ch r => Sys2Proof.Machine.execL2Static ch r s
  | .routeSet ch r => Sys2Proof.Machine.execRouteSet ch r s
  | .l2Read ch r => Sys2Proof.Machine.execL2Read ch r s
  | .l2Flush ch r => Sys2Proof.Machine.execL2Flush ch r s
  | .programDispatch island => Sys2Proof.Machine.execProgramDispatch island s
  | .alu t dst s1 s2 func => Sys2Proof.Machine.execAlu t dst s1 s2 func s
  | .addi t dst s1 imm => Sys2Proof.Machine.execAddi t dst s1 imm s
  | .andi t dst s1 imm => Sys2Proof.Machine.execAndi t dst s1 imm s
  | .ori t dst s1 imm => Sys2Proof.Machine.execOri t dst s1 imm s
  | .xori t dst s1 imm => Sys2Proof.Machine.execXori t dst s1 imm s
  | .shi t dst s1 imm => Sys2Proof.Machine.execShi t dst s1 imm s
  | .movz t dst s1 imm => Sys2Proof.Machine.execMovz t dst s1 imm s
  | .movk t dst s1 imm => Sys2Proof.Machine.execMovk t dst s1 imm s
  | .slti t dst s1 imm => Sys2Proof.Machine.execSlti t dst s1 imm s
  | .sltiu t dst s1 imm => Sys2Proof.Machine.execSltiu t dst s1 imm s
  | .extField t dst s1 imm => Sys2Proof.Machine.execExtField t dst s1 imm s
  | .insField t dst s1 imm => Sys2Proof.Machine.execInsField t dst s1 imm s
  | .beq t s1 s2 off => Sys2Proof.Machine.execBeq t s1 s2 off s
  | .bne t s1 s2 off => Sys2Proof.Machine.execBne t s1 s2 off s
  | .blt t s1 s2 off => Sys2Proof.Machine.execBlt t s1 s2 off s
  | .bge t s1 s2 off => Sys2Proof.Machine.execBge t s1 s2 off s
  | .bltu t s1 s2 off => Sys2Proof.Machine.execBltu t s1 s2 off s
  | .bgeu t s1 s2 off => Sys2Proof.Machine.execBgeu t s1 s2 off s
  | .jal t dst off => Sys2Proof.Machine.execJal t dst off s
  | .jalr t dst s1 imm => Sys2Proof.Machine.execJalr t dst s1 imm s
  | .wfe t dst s1 imm => Sys2Proof.Machine.execWfe t dst s1 imm s
  | .eventWake t => Sys2Proof.Machine.execEventWake t s
  | .evtr t dst s1 imm => Sys2Proof.Machine.execEvtr t dst s1 imm s
  | .timeRead t dst s1 imm => Sys2Proof.Machine.execTimeRead t dst s1 imm s
  | .trapInstr t dst s1 imm => Sys2Proof.Machine.execTrapInstr t dst s1 imm s
  | .ldl t dst s1 imm => Sys2Proof.Machine.execLdl t dst s1 imm s
  | .stl t dst s1 imm => Sys2Proof.Machine.execStl t dst s1 imm s
  | .pld t dst s1 imm => Sys2Proof.Machine.execPld t dst s1 imm s
  | .pst t dst s1 imm => Sys2Proof.Machine.execPst t dst s1 imm s
  | .ctr t dst s1 imm => Sys2Proof.Machine.execCtr t dst s1 imm s
  | .tagr t dst s1 imm => Sys2Proof.Machine.execTagr t dst s1 imm s
  | .tagw t dst s1 imm => Sys2Proof.Machine.execTagw t dst s1 imm s
  | .phead t dst s1 imm => Sys2Proof.Machine.execPhead t dst s1 imm s
  | .plen t dst s1 imm => Sys2Proof.Machine.execPlen t dst s1 imm s
  | .pktget t dst s1 imm => Sys2Proof.Machine.execPktget t dst s1 imm s
  | .pktout t dst s1 imm => Sys2Proof.Machine.execPktout t dst s1 imm s
  | .pktnew t dst s1 s2 func => Sys2Proof.Machine.execPktnew t dst s1 s2 func s
  | .tlk t dst s1 imm => Sys2Proof.Machine.execTlk t dst s1 imm s
  | .sld t dst s1 imm => Sys2Proof.Machine.execSld t dst s1 imm s
  | .sst t dst s1 imm => Sys2Proof.Machine.execSst t dst s1 imm s
  | .satom t dst s1 s2 func => Sys2Proof.Machine.execSatom t dst s1 s2 func s
  | .fence t dst s1 imm => Sys2Proof.Machine.execFence t dst s1 imm s
  | .stateAccessResponse t poisoned => Sys2Proof.Machine.execStateAccessResponse t poisoned s
  | .chsend t dst s1 imm => Sys2Proof.Machine.execChsend t dst s1 imm s
  | .chrecv t dst s1 imm => Sys2Proof.Machine.execChrecv t dst s1 imm s
  | .groupTick group => Sys2Proof.Machine.execGroupTick group s
  | .quiescentDeadlock core => Sys2Proof.Machine.execQuiescentDeadlock core s
  | .packetBudgetExpiry t => Sys2Proof.Machine.execPacketBudgetExpiry t s
  | .actImageLoad ch r => Sys2Proof.Machine.execActImageLoad ch r s
  | .actImageUnload ch r => Sys2Proof.Machine.execActImageUnload ch r s
  | .actGroupSet ch r => Sys2Proof.Machine.execActGroupSet ch r s
  | .actGroupQuery ch r => Sys2Proof.Machine.execActGroupQuery ch r s
  | .actProgramBind ch r => Sys2Proof.Machine.execActProgramBind ch r s
  | .actSignal ch r => Sys2Proof.Machine.execActSignal ch r s
  | .actBindQuery ch r => Sys2Proof.Machine.execActBindQuery ch r s
  | .tmgEnqueue lost => Sys2Proof.Machine.execTmgEnqueue lost s
  | .dequeue port ue => Sys2Proof.Machine.execDequeue port ue s
  | .schedulerPeriod => Sys2Proof.Machine.execSchedulerPeriod s
  | .queueDepthSample => Sys2Proof.Machine.execQueueDepthSample s
  | .tmgPortSet ch r => Sys2Proof.Machine.execTmgPortSet ch r s
  | .tmgGroupSet ch r => Sys2Proof.Machine.execTmgGroupSet ch r s
  | .tmgSliceNodeSet ch r => Sys2Proof.Machine.execTmgSliceNodeSet ch r s
  | .tmgSliceLimit ch r => Sys2Proof.Machine.execTmgSliceLimit ch r s
  | .tmgQueueSet ch r => Sys2Proof.Machine.execTmgQueueSet ch r s
  | .tmgQueueStats ch r => Sys2Proof.Machine.execTmgQueueStats ch r s
  | .tmgPolicerSet ch r => Sys2Proof.Machine.execTmgPolicerSet ch r s
  | .tmgPolicerStats ch r => Sys2Proof.Machine.execTmgPolicerStats ch r s
  | .tmgFloodListSet ch r => Sys2Proof.Machine.execTmgFloodListSet ch r s
  | .tmgMirrorSet ch r => Sys2Proof.Machine.execTmgMirrorSet ch r s
  | .linkBlockReceive bundle bs => Sys2Proof.Machine.execLinkBlockReceive bundle bs s
  | .lanternReplayTimeout bundle => Sys2Proof.Machine.execLanternReplayTimeout bundle s
  | .lanternFrameReceive bundle => Sys2Proof.Machine.execLanternFrameReceive bundle s
  | .lanternFrameTransmit bundle => Sys2Proof.Machine.execLanternFrameTransmit bundle s
  | .bundleMarkedSlow bundle => Sys2Proof.Machine.execBundleMarkedSlow bundle s
  | .slowMarkClear bundle => Sys2Proof.Machine.execSlowMarkClear bundle s
  | .linkStateReceive => Sys2Proof.Machine.execLinkStateReceive s
  | .rerouteDiscard node => Sys2Proof.Machine.execRerouteDiscard node s
  | .shedEvaluation bundle u u10 => Sys2Proof.Machine.execShedEvaluation bundle u u10 s
  | .laneReceive => Sys2Proof.Machine.execLaneReceive s
  | .widthChange bundle => Sys2Proof.Machine.execWidthChange bundle s
  | .laneLockLoss bundle lane => Sys2Proof.Machine.execLaneLockLoss bundle lane s
  | .controlResendTimeout => Sys2Proof.Machine.execControlResendTimeout s
  | .bundleLock bundle lanes peer => Sys2Proof.Machine.execBundleLock bundle lanes peer s
  | .joinReceive => Sys2Proof.Machine.execJoinReceive s
  | .joinRetry bundle => Sys2Proof.Machine.execJoinRetry bundle s
  | .heartbeatSend bundle => Sys2Proof.Machine.execHeartbeatSend bundle s
  | .heartbeatReceive => Sys2Proof.Machine.execHeartbeatReceive s
  | .heartbeatTimeout bundle => Sys2Proof.Machine.execHeartbeatTimeout bundle s
  | .reformReceive => Sys2Proof.Machine.execReformReceive s
  | .topoReceive => Sys2Proof.Machine.execTopoReceive s
  | .reformationEnd => Sys2Proof.Machine.execReformationEnd s
  | .startupWaitExpiry => Sys2Proof.Machine.execStartupWaitExpiry s
  | .paramsReceive => Sys2Proof.Machine.execParamsReceive s
  | .stringConfig ch r => Sys2Proof.Machine.execStringConfig ch r s
  | .stringQuery ch r => Sys2Proof.Machine.execStringQuery ch r s
  | .stringMembers ch r => Sys2Proof.Machine.execStringMembers ch r s
  | .bundleAdmin ch r => Sys2Proof.Machine.execBundleAdmin ch r s
  | .bundleQuery ch r => Sys2Proof.Machine.execBundleQuery ch r s
  | .stringTimeSteer ch r => Sys2Proof.Machine.execStringTimeSteer ch r s
  | .stringTimeSet ch r => Sys2Proof.Machine.execStringTimeSet ch r s
  | .lcpDecrypt => Sys2Proof.Machine.execLcpDecrypt s
  | .lcpEncrypt => Sys2Proof.Machine.execLcpEncrypt s
  | .gcmWorkRequest requester len aad iv => Sys2Proof.Machine.execGcmWorkRequest requester len aad iv s
  | .storageSegmentReceive seg => Sys2Proof.Machine.execStorageSegmentReceive seg s
  | .nvmeCompletion conn cid status cqe => Sys2Proof.Machine.execNvmeCompletion conn cid status cqe s
  | .storageTransportFailure conn cause => Sys2Proof.Machine.execStorageTransportFailure conn cause s
  | .tcpRetransmitTimeout conn => Sys2Proof.Machine.execTcpRetransmitTimeout conn s
  | .keepAlive conn => Sys2Proof.Machine.execKeepAlive conn s
  | .connectionCloseTimeout conn => Sys2Proof.Machine.execConnectionCloseTimeout conn s
  | .lcpSaSet ch r => Sys2Proof.Machine.execLcpSaSet ch r s
  | .lcpSaDelete ch r => Sys2Proof.Machine.execLcpSaDelete ch r s
  | .lcpSaQuery ch r => Sys2Proof.Machine.execLcpSaQuery ch r s
  | .lcpQueueBind ch r => Sys2Proof.Machine.execLcpQueueBind ch r s
  | .steKeySet ch r => Sys2Proof.Machine.execSteKeySet ch r s
  | .steSessionOpen ch r => Sys2Proof.Machine.execSteSessionOpen ch r s
  | .steSessionClose ch r => Sys2Proof.Machine.execSteSessionClose ch r s
  | .steConnQuery ch r => Sys2Proof.Machine.execSteConnQuery ch r s
  | .cryptoSliceRearm ch r => Sys2Proof.Machine.execCryptoSliceRearm ch r s
  | .stePatchStage ch r => Sys2Proof.Machine.execStePatchStage ch r s
  | .memRequest requester q => Sys2Proof.Machine.execMemRequest requester q s
  | .memBurstComplete chan ok => Sys2Proof.Machine.execMemBurstComplete chan ok s
  | .arbitrationEpoch => Sys2Proof.Machine.execArbitrationEpoch s
  | .rhWindowEnd => Sys2Proof.Machine.execRhWindowEnd s
  | .retrainingStart chan => Sys2Proof.Machine.execRetrainingStart chan s
  | .retrainingComplete chan ok => Sys2Proof.Machine.execRetrainingComplete chan ok s
  | .deviceOverTemperature dev => Sys2Proof.Machine.execDeviceOverTemperature dev s
  | .journalRecordWrite typ subject ws => Sys2Proof.Machine.execJournalRecordWrite typ subject ws s
  | .journalLineWriteComplete ok overLimit => Sys2Proof.Machine.execJournalLineWriteComplete ok overLimit s
  | .memQuery ch r => Sys2Proof.Machine.execMemQuery ch r s
  | .memRetrainConfig ch r => Sys2Proof.Machine.execMemRetrainConfig ch r s
  | .memChannelQuery ch r => Sys2Proof.Machine.execMemChannelQuery ch r s
  | .jnlQuery ch r => Sys2Proof.Machine.execJnlQuery ch r s
  | .jnlCompact ch r => Sys2Proof.Machine.execJnlCompact ch r s
  | .powerFail torn => Sys2Proof.Machine.execPowerFail torn s
  | .powerFailRecovery => Sys2Proof.Machine.execPowerFailRecovery s
  | .spdmRequest path kind valid bs => Sys2Proof.Machine.execSpdmRequest path kind valid bs s
  | .alarmRaised source => Sys2Proof.Machine.execAlarmRaised source s
  | .alarmCleared source => Sys2Proof.Machine.execAlarmCleared source s
  | .candleMark => Sys2Proof.Machine.execCandleMark s
  | .periodClose => Sys2Proof.Machine.execPeriodClose s
  | .candleReceive => Sys2Proof.Machine.execCandleReceive s
  | .candleDoneReceive => Sys2Proof.Machine.execCandleDoneReceive s
  | .meterConfig ch r => Sys2Proof.Machine.execMeterConfig ch r s
  | .meterQuery ch r => Sys2Proof.Machine.execMeterQuery ch r s
  | .meterRead ch r => Sys2Proof.Machine.execMeterRead ch r s
  | .meterRelease ch r => Sys2Proof.Machine.execMeterRelease ch r s
  | .meterLive ch r => Sys2Proof.Machine.execMeterLive ch r s
  | .truQuery ch r => Sys2Proof.Machine.execTruQuery ch r s
  | .keyEnrol ch r => Sys2Proof.Machine.execKeyEnrol ch r s
  | .keyRevoke ch r => Sys2Proof.Machine.execKeyRevoke ch r s
  | .certRead ch r => Sys2Proof.Machine.execCertRead ch r s
  | .truZeroise ch r => Sys2Proof.Machine.execTruZeroise ch r s
  | .powerOnResetRelease mgr i2c mv => Sys2Proof.Machine.execPowerOnResetRelease mgr i2c mv s
  | .romStage => Sys2Proof.Machine.execRomStage s
  | .fwLoad a b => Sys2Proof.Machine.execFwLoad a b s
  | .measureStage rom fw ste => Sys2Proof.Machine.execMeasureStage rom fw ste s
  | .selfTest tru jnl lcp ste => Sys2Proof.Machine.execSelfTest tru jnl lcp ste s
  | .trainingStage f36 f32 f28 f24 small => Sys2Proof.Machine.execTrainingStage f36 f32 f28 f24 small s
  | .replayStage bad => Sys2Proof.Machine.execReplayStage bad s
  | .rejoinStage => Sys2Proof.Machine.execRejoinStage s
  | .readyStage => Sys2Proof.Machine.execReadyStage s
  | .traceRecordWrite => Sys2Proof.Machine.execTraceRecordWrite s
  | .traceStream n bad => Sys2Proof.Machine.execTraceStream n bad s
  | .obsStreamConsumedWrite w => Sys2Proof.Machine.execObsStreamConsumedWrite w s
  | .obsTapTransaction op addr n => Sys2Proof.Machine.execObsTapTransaction op addr n s
  | .idcode => Sys2Proof.Machine.execIdcode s
  | .sampleTap pins => Sys2Proof.Machine.execSampleTap pins s
  | .bypassTap code => Sys2Proof.Machine.execBypassTap code s
  | .obsTraceConfig ch r => Sys2Proof.Machine.execObsTraceConfig ch r s
  | .obsHeaderCapture ch r => Sys2Proof.Machine.execObsHeaderCapture ch r s
  | .obsStream ch r => Sys2Proof.Machine.execObsStream ch r s
  | .obsTraceRead ch r => Sys2Proof.Machine.execObsTraceRead ch r s
  | .obsTapEnable ch r => Sys2Proof.Machine.execObsTapEnable ch r s
  | .avsTargetAdjust mv => Sys2Proof.Machine.execAvsTargetAdjust mv s
  | .thermAlert celsius => Sys2Proof.Machine.execThermAlert celsius s
  | .thermTrip => Sys2Proof.Machine.execThermTrip s
  | .powerOnResetAssert => Sys2Proof.Machine.execPowerOnResetAssert s
  | .temperatureReportClear dev => Sys2Proof.Machine.execTemperatureReportClear dev s
  | .ppsPulse => Sys2Proof.Machine.execPpsPulse s
  | .threadCyclesCharge t => Sys2Proof.Machine.execThreadCyclesCharge t s

end Sys2Proof.Machine
end

