-- ==== Sys2Proof/Machine/Tick.lean ====
section
/-! DEFINITION. What passes when no command waits: one nanosecond of time. -/
namespace Sys2Proof.Machine

/-- One nanosecond: the clock counts, the memory channels serve what waits, and every 100 ns the FIFO fills and the credits are sampled, at
which the fields of those boundaries apply (Tables 1-12 and 12-10; DESIGN CHOICE, log 2). -/
def tick (s : Dev) : Dev :=
  let s1 := moveIdle (rewriteEntries (memClocks (s.atTime (s.now + 1))))
  if s1.now.toNat % 100 = 0 then fifoSample (creditSample s1) else s1

end Sys2Proof.Machine
end

