-- ==== Sys2Proof/Safety.lean ====
section
/-! DEFINITION. The terms that the claims use: a command that completes, a request that is accepted, a control message that is acted on, a
queue that a run gets through. -/
namespace Sys2Proof.Machine

/-- The command completes from `s`, and leaves the member as `d` and the waiting commands as they were. -/
def Becomes (c : Instr) (s : State) (d : Dev) : Prop := exec c s = .next { s with dev := d }

/-- The command completes from `s` with a member of which `p` holds, and leaves the waiting commands as they were. -/
def Ends (c : Instr) (s : State) (p : Dev → Prop) : Prop := ∃ d, exec c s = .next { s with dev := d } ∧ p d

/-- It is the channel's turn, the request repeats no earlier one, and it passes the checks that R570 puts before the command's own; `d` is the
member once the request has been taken (R138, R569). -/
def Accepted (sp : CmdSpec) (ch : Nat) (r : Req) (s d : Dev) : Prop :=
  s.turnOf ch = true ∧ isReplay (served ch s) sp.opcode ch r = none ∧ d = takeRequest ch sp.opcode r.seq (served ch s) ∧ cmdCheck d sp ch r = none

/-- `m`, which carries `x`, is the first waiting message that `p` selects, it is neither stale (R430) nor a repeat (R429), and it is no
message of KIND LINK; `t` is the member once the message has been taken. -/
def Arrived {α : Type} (p : CtlBody → Option α) (m : CtlMsg) (x : α) (s t : Dev) : Prop :=
  ∃ pre post, s.str.ctlIn = pre ++ m :: post ∧ (∀ y ∈ pre, p y.body = none) ∧ p m.body = some x ∧ CtlBody.isLink m.body = false ∧
    epochOlder m.hdr.epoch s.str.epoch = false ∧ (∀ e ∈ s.str.seen, e.1 = m.hdr.org → e.2.1 ≠ m.hdr.msgSeq) ∧
    t = { s with str := { s.str with ctlIn := pre ++ post, seen := (m.hdr.org, m.hdr.msgSeq, none) :: s.str.seen } }

/-- The same of a message of KIND LINK, which is of the peer only. -/
def LinkArrived {α : Type} (p : CtlBody → Option α) (m : CtlMsg) (x : α) (s t : Dev) : Prop :=
  ∃ pre post, s.str.ctlIn = pre ++ m :: post ∧ (∀ y ∈ pre, p y.body = none) ∧ p m.body = some x ∧ CtlBody.isLink m.body = true ∧
    t = { s with str := { s.str with ctlIn := pre ++ post } }

/-- The configuration command's record is taken, with its answer `ws` to follow it, no timed-out command holding its object; `e` is the member that
holds the record (R73, R79, R156). -/
def Recorded (sp : CmdSpec) (ch : Nat) (r : Req) (subject : Nat) (ws : List W64) (d e : Dev) : Prop :=
  d.jnl.replaying = none ∧ heldObject d sp.opcode subject = false ∧
    jTake 6 subject r.payloadLen.toNat (.config sp.opcode ch r.words) (.answer (mkJob sp ch r d) .ok ws) d = some e

/-- This member builds version `v` in slot `k`, and a build command may change it: no commit of it is under way, the side may build, and the build
has room for one more change (R83, R297, R322). -/
def Builds (v : Version) (k : Nat) (d : Dev) : Prop :=
  d.buildSlot v = some k ∧ d.committing v = false ∧ d.nonLead = false ∧ d.rules.buildRecord.length < buildMax

/-- Thread `t` is READY and `w`, a legal encoding, is the instruction of its image at its PC (R341, R349). -/
def Issues (t : Nat) (w : BitVec 32) (s : Dev) : Prop :=
  t < 512 ∧ (s.thread t).state = .ready ∧ illegalInstr w = false ∧ ∃ im, s.threadImage t = some im ∧ im.code[(s.thread t).pc]? = some w

/-- Where `w` is thread `t`'s next instruction, the command completes: the core counts it, `f` is its effect, and threads that were leaving their
group go once they hold and queue nothing (R351). -/
def Issued (c : Instr) (t : Nat) (w : BitVec 32) (s : State) (f : Dev → Dev) : Prop :=
  Issues t w s.dev → Becomes c s (settleGroup (s.dev.thread t).group (f (count .actIssued (coreOf t) s.dev)))

/-- The journal is in SEQ order: durable records up to the last durable SEQ, then those on their way, and the next SEQ beyond every SEQ that stands
in the ring (R496, R498). -/
def Jnl.ordered (j : Jnl) : Prop :=
  List.Pairwise (fun a b => a < b) ((j.records ++ j.inflight).map JRec.seq) ∧ (∀ r ∈ j.records, r.seq ≤ j.lastDurable) ∧
    (∀ r ∈ j.inflight, j.lastDurable < r.seq ∧ j.highSeq < r.seq ∧ r.seq < j.nextSeq) ∧ j.lastDurable < j.nextSeq ∧ j.highSeq < j.nextSeq

/-- Every waiting command is well formed: the queue holds nothing that the block could not be sent. -/
abbrev State.fit (s : State) : Prop := s.pending.all Instr.wf = true

end Sys2Proof.Machine
end

