-- ==== Sys2Proof/Certificates/Slice0/Obligations.lean ====
section
/-! DEFINITION. Statements for the provers. Each rests on the spec's rules that its first words name; a choice of the model that one rests on is named
with its row of the assumption log. -/
open Sys2Proof Sys2Proof.Machine

/-- A step takes the command in front of the queue and runs it on the state with the queue's rest; with none waiting, one nanosecond passes (log 2). -/
def Obligations.FrontCommandRuns : Prop :=
  (∀ (c : Instr) (rest : List Instr) (s : State), s.pending = c :: rest → step s = exec c { s with pending := rest }) ∧
  (∀ s : State, s.pending = [] → step s = .next { s with dev := tick s.dev } ∧ (tick s.dev).now = s.dev.now + 1)

/-- Every command that is well formed completes, whatever the state, and leaves the commands that wait as they were; every other one is refused as ill
formed; none faults. A queue of well-formed commands never stops the block: `n` steps take the first `n` of them, or all and then time passes, and
what is left is well formed still. -/
def Obligations.QueuesRunThrough : Prop :=
  (∀ (c : Instr) (s : State), (c.wf = true → Ends c s (fun _ => True)) ∧ (c.wf = false → exec c s = .refused .illFormed)) ∧
  ((∀ s t : State, s.fit → step s = .next t → t.fit) ∧
   (∀ (n : Nat) (s : State), s.fit → ∃ t : State, Host.Core.run core n s = .next t ∧ t.pending = s.pending.drop n ∧ t.fit))

/-- R60, R172, R530, R542, R544, R545: the state right after reset: the power-on reset is held, no command waits, slot 0 holds version 0 ACTIVE and
every other slot is FREE, slice 0 exists and no other, no queue pair is valid, nothing is observed, the journal holds nothing. R128 and the register
tables: what the identity, apply and host registers, and every register with writable fields, read as right after reset. -/
def Obligations.StateAtReset : Prop :=
  (let d := State.reset.dev
   State.reset.pending = [] ∧ State.reset.fit ∧ d.boot.porHeld = true ∧ d.boot.started = none ∧ d.boot.ready = false ∧ d.now = 0 ∧ d.out = [] ∧
     d.activeSlot = some 0 ∧ (d.slot 0).version = 0 ∧ (∀ k, 1 ≤ k → k < 8 → (d.slot k).state = .free) ∧
     (d.slice 0).state = .active ∧ (∀ n, n ≠ 0 → (d.slice n).state = .free) ∧ (∀ q, (d.qp q).valid = false) ∧ (∀ c i, d.counter c i = 0) ∧
     d.obs.mode = 0 ∧ d.obs.headerCapture = [] ∧ d.obs.tapEnable = false ∧ d.tru.locked = true ∧ d.tru.owned = false ∧ d.tru.active = 0 ∧
     d.jnl.records = [] ∧ Jnl.ordered d.jnl) ∧
  (∀ m : Nat, m < 96 →
     (∀ i, i < 18 → readReg Dev.reset m i 0x7F0 = BitVec.ofNat 64 (i + 0x1000) ∧ readReg Dev.reset m i 0x7F8 = 1) ∧
     (∀ p, p < 3 → readReg Dev.reset m p 0x000 = (if p = 0 then 2 else 0) ∧
       ∀ off ∈ [0x008, 0x010, 0x018, 0x020, 0x028], readReg Dev.reset m p off = 0) ∧
     (∀ e ∈ ([(5, 0x038, 1 + 20 * 2 ^ 8 + 70 * 2 ^ 16 + 100 * 2 ^ 32), (5, 0x040, 3 + 2 ^ 8), (5, 0x048, 20), (6, 0x008, 1 + 100 * 2 ^ 16),
         (6, 0x120, 256), (6, 0x200, 3), (7, 0x200, 3), (6, 0x700, 1 + 50 * 2 ^ 16), (6, 0x710, 48 + 16 * 2 ^ 8 + 100 * 2 ^ 16), (8, 0x008, 16), (9, 0x008, 16),
         (10, 0x040, 7), (10, 0x048, 256 + 2 ^ 16), (11, 0x008, 4500), (12, 0x010, 8 + 200 * 2 ^ 8), (14, 0x008, 16 + 48 * 2 ^ 8),
         (14, 0x010, 512 + 64 * 2 ^ 16 + 1000 * 2 ^ 32), (16, 0x010, 1)] : List (Nat × Nat × Nat)),
       readReg Dev.reset m e.1 e.2.1 = BitVec.ofNat 64 e.2.2))

/-- Tags and Lantern frames are read as they are written: no bit of a field is dropped (R9, R22, R35, R414, R415). -/
def Obligations.TagsAndFramesReadBack : Prop :=
  (∀ (t : Tag) (n : Nat), Tag.ofBytes t.bytes = t ∧ t.bytes.length = 32 ∧ (tagBytesOk t.bytes n = true ↔ t.fieldsOk n = true)) ∧
  (∀ (f : LFrame) (vc1 : Bool), f.dest < 2 ^ 20 → f.kind ≤ 5 → f.hops < 2 ^ 13 →
    (vc1 = decide (f.kind < 2) → lanternParse vc1 f.bytes = some { f with from' := none }) ∧ (vc1 ≠ decide (f.kind < 2) → lanternParse vc1 f.bytes = none)) ∧
  (∀ f g : LFrame, f.dest < 2 ^ 20 → f.kind ≤ 5 → f.hops < 2 ^ 13 → g.dest < 2 ^ 20 → g.kind ≤ 5 → g.hops < 2 ^ 13 → f.bytes = g.bytes →
    { f with from' := none } = { g with from' := none })

/-- R498: a SEQ never repeats. Records are in SEQ order, and the next SEQ lies beyond every one that a line of the ring holds: taking a record, writing
a line, compaction, power failure and reset keep it so, and after a reset the next SEQ still lies beyond that of every record begun. -/
def Obligations.JournalSequence : Prop :=
  (∀ (typ subject len : Nat) (body : JBody) (next : JThen) (d e : Dev), Jnl.ordered d.jnl → jTake typ subject len body next d = some e →
    Jnl.ordered e.jnl ∧ ∃ r, e.jnl.inflight = d.jnl.inflight ++ [r] ∧ r.seq = d.jnl.nextSeq ∧ ∀ x ∈ d.jnl.records ++ d.jnl.inflight, x.seq < r.seq) ∧
  (∀ (ok worn : Bool) (s : State), Jnl.ordered s.dev.jnl → s.dev.mgt.deviceReset = none → (∀ r ∈ s.dev.jnl.inflight, r.then' = .nothing) →
    Ends (.journalLineWriteComplete ok worn) s (fun d => Jnl.ordered d.jnl)) ∧
  (∀ (n : Nat) (j : Jnl), Jnl.ordered j → Jnl.ordered { j with records := j.records.drop n, compacting := none }) ∧
  (∀ (torn : Bool) (s : State), Jnl.ordered s.dev.jnl → Ends (.powerFail torn) s (fun d => Jnl.ordered d.jnl)) ∧
  (∀ j : Jnl, Jnl.ordered j → Jnl.ordered (Jnl.afterReset j) ∧ (∀ r ∈ j.records, r.seq < (Jnl.afterReset j).nextSeq) ∧
    ∀ r rest, j.inflight = r :: rest → 0 < r.written → r.seq < (Jnl.afterReset j).nextSeq)

/-- R536, R537, R544, R545: reading counters, trace and pins, and writing the trace buffer, leave every island but OBS as it was. Only the fault log,
with its interrupt, tells of trace that is lost. -/
def Obligations.ObservationChangesNothing : Prop :=
  let others := fun (d e : Dev) => e.fabric = d.fabric ∧ e.mgrPort = d.mgrPort ∧ e.regs = d.regs ∧ e.slices = d.slices ∧ e.rules = d.rules ∧ e.qde = d.qde ∧
    e.boot = d.boot ∧ e.str = d.str ∧ e.jnl = d.jnl ∧ e.mem = d.mem ∧ e.mtr = d.mtr ∧ e.tru = d.tru ∧ e.cry = d.cry ∧ e.eth = d.eth ∧ e.act = d.act ∧
    e.tmg = d.tmg ∧ e.now = d.now ∧ e.mgt.chans = d.mgt.chans ∧ e.mgt.bindings = d.mgt.bindings ∧ e.mgt.sems = d.mgt.sems ∧
    (∀ c i, c ≠ .obsTraceRecords → c ≠ .obsTraceLost → c ≠ .obsStreamBytes → c ≠ .obsTapReads → c ≠ .mgtFaultOverwrite → i < 2 ^ 16 →
      e.counter c i = d.counter c i)
  (∀ s : State, Ends .traceRecordWrite s (others s.dev)) ∧
  (∀ (n : Nat) (bad : Option Nat) (s : State), (∀ c, bad = some c → c < 8) → s.dev.obs.streamTarget ≠ 2 → Ends (.traceStream n bad) s (others s.dev)) ∧
  (∀ (op : Byte) (addr : BitVec 32) (n : Nat) (s : State), n ≤ 4096 →
    Ends (.obsTapTransaction op addr n) s (fun e => others s.dev e ∧ e.obs = s.dev.obs ∧ e.mgt = s.dev.mgt ∧ e.ports = s.dev.ports)) ∧
  (∀ (c : Instr) (s : State), c = .idcode ∨ (∃ pins, c = .sampleTap pins) ∨ (∃ code : BitVec 6, code ≠ 1 ∧ code ≠ 2 ∧ c = .bypassTap code) →
    Ends c s (fun e => others s.dev e ∧ e.ctr = s.dev.ctr ∧ e.mgt = s.dev.mgt ∧ e.ports = s.dev.ports ∧ e.obs = { s.dev.obs with scan := e.obs.scan }))

/-- R17, R24, R25: the source keeps a block until it is acknowledged; a refused block, or one not acknowledged in time, is re-sent with every later one,
and after its third re-send goes once more with POISON set and a good CRC, counted and logged. A credit returns when the receiver takes a block out
of its FIFO, and the first waiting block goes. R21: the blocks of a packet carry its tag and its frame, in order, and the first has SOP, the last
EOP. R23: a block with a good CRC and the expected SEQ is acknowledged; any other is refused, and what follows is discarded until the expected block
comes whole. -/
def Obligations.Crossings : Prop :=
  ((∀ (src dst : Nat) (seq : BitVec 7) (s : State), Wf.blockAcknowledgement src dst seq = true →
     Becomes (.blockAcknowledgement src dst seq) s
       (s.dev.setXchan src dst { s.dev.xchan src dst with unacked := (s.dev.xchan src dst).unacked.filter (fun u => u.block.seq != seq) })) ∧
   (∀ (src dst : Nat) (seq : BitVec 7) (s : State) (pre post : List Unacked) (u : Unacked), Wf.blockRefusal src dst seq = true →
     (s.dev.xchan src dst).unacked = pre ++ u :: post → u.block.seq = seq → (∀ x ∈ pre, x.block.seq ≠ seq) →
     let sent := fun (v : Unacked) => (v :: post).foldl (fun d x => count .xingResend (xinst src dst) (emit (.block src dst x.block) d))
       (s.dev.setXchan src dst { s.dev.xchan src dst with unacked := pre ++ v :: post })
     (u.resends < 3 →
       Becomes (.blockRefusal src dst seq) s (sent ⟨u.block, u.resends + 1⟩) ∧
       Becomes (.crossingAckTimeout src dst seq) s (sent ⟨u.block, u.resends + 1⟩)) ∧
     (3 ≤ u.resends → u.block.poison = false →
       let bad := Block.numbered { u.block with poison := true } seq
       let d := count .xingPoison (xinst src dst)
         (logFault src dst 0x0001 (XKind.code u.block.kind) (BitVec.ofNat 64 seq.toNat) 0 (sent ⟨bad, u.resends + 1⟩))
       bad.poison = true ∧ bad.crc = bad.goodCrc ∧
       Becomes (.blockRefusal src dst seq) s d ∧ Becomes (.crossingAckTimeout src dst seq) s d)) ∧
   (∀ (src dst : Nat) (s : State), Wf.creditReturn src dst = true → 3 ≤ src → dst ≠ isl.PIPA → dst ≠ isl.PIPB → 0 < (s.dev.xchan src dst).fifo →
     let c := s.dev.xchan src dst
     (c.queue = [] →
       Becomes (.creditReturn src dst) s (emit (.credit src dst) (s.dev.setXchan src dst { c with fifo := c.fifo - 1, credits := c.credits + 1 }))) ∧
     (∀ b rest, c.queue = b :: rest → Ends (.creditReturn src dst) s (fun d =>
       d.out = .block src dst (Block.numbered b c.sendSeq) :: .credit src dst :: s.dev.out ∧
       d.xchan src dst = { c with fifo := c.fifo - 1, sendSeq := c.sendSeq + 1, queue := rest,
                                  unacked := c.unacked ++ [⟨Block.numbered b c.sendSeq, 0⟩] })))) ∧
  (∀ (t : Tag) (bs : List Byte),
     (packetBlocks t bs).flatMap blockBytes = t.bytes ++ bs ∧
     (packetBlocks t bs).length = (32 + bs.length + 63) / 64 ∧
     (∀ b ∈ packetBlocks t bs, b.data.length = 64 ∧ b.kind = .packet ∧ b.poison = false) ∧
     ((packetBlocks t bs).head?.map Block.sop = some true) ∧ ((packetBlocks t bs).getLast?.map Block.eop = some true)) ∧
  (∀ (src dst : Nat) (b : Block) (s : State), Wf.crossingBlockReceive src dst b = true →
     let c := s.dev.xchan src dst
     (b.crc = b.goodCrc → b.seq = c.expSeq → b.kind = .packet → b.eop = false → b.poison = false →
       Becomes (.crossingBlockReceive src dst b) s
         (let d := count .xingBlocks (xinst src dst) (emit (.ack src dst b.seq)
           (s.dev.setXchan src dst { c with expSeq := c.expSeq + 1, discarding := false, fifo := c.fifo + 1 }))
         d.setXchan src dst { d.xchan src dst with asm := (if b.sop then [] else c.asm) ++ b.data,
                                                   asmPoison := if b.sop then false else c.asmPoison })) ∧
     (¬ (b.crc = b.goodCrc ∧ b.seq = c.expSeq) → (c.discarding = false ∨ b.seq = c.expSeq) →
       Becomes (.crossingBlockReceive src dst b) s (emit (.refuse src dst c.expSeq) (s.dev.setXchan src dst { c with discarding := true }))) ∧
     (b.seq ≠ c.expSeq → c.discarding = true → Becomes (.crossingBlockReceive src dst b) s s.dev))

/-- R40, R48, R49, R55: a distributor sends a packet to the pipeline that the bucket map names for FLOW_HASH [11:0], and counts it in flight; the count
falls when the packet is accepted or dropped, and at 0 a pending move that is due or held is made. A register write that breaks a range changes no
field. R47, R50, R53: a pipeline whose input FIFO has stayed at or above FILL_HIGH since `t` is marked slow at the end of SLOW_WINDOW, and every
bucket that it serves gets a target among the healthy ones; one that has stayed at or below FILL_LOW for 10 windows loses the mark, and its home
buckets are sent back, unless MIGRATE_EN is 0. What a sample does not find at the mark any longer has not stayed there. -/
def Obligations.Distributors : Prop :=
  ((∀ (n : Nat) (p : Pkt) (rest : List Pkt) (s : State), Wf.distributorSend n = true → s.dev.distInbox n = p :: rest → p.tag.flag 1 = false →
     let b := p.tag.flowHash.toNat % 4096
     let x := s.dev.bucket n b
     x.target = x.pipeline →
     Becomes (.distributorSend n) s
       (let d := (applyBoundary .distPacket isl.PIPA s.dev).setDistInbox n rest
        post (distIsland n) (pipeIsland x.pipeline) { p with pipe := x.pipeline }
         (d.setBucket n b { x with lastSeen := s.dev.now, inflight := x.inflight + 1 }))) ∧
   (∀ (n b : Nat) (s : State), Wf.bucketInFlightEnd n b = true → (n, b) ∈ s.dev.fabric.ended →
     let x := s.dev.bucket n b
     0 < x.inflight →
     let d := { s.dev with fabric := { s.dev.fabric with ended := s.dev.fabric.ended.erase (n, b) } }
     let less := { x with inflight := x.inflight - 1 }
     (moveDue s.dev less = false → Becomes (.bucketInFlightEnd n b) s (d.setBucket n b less)) ∧
     (x.held = [] → x.inflight = 1 → x.target ≠ x.pipeline → 2 ≤ s.dev.healthy.length → s.dev.flowletGap ≤ Time.since s.dev.now x.lastSeen →
       Ends (.bucketInFlightEnd n b) s (fun t =>
         t.bucket n b = { x with pipeline := x.target, inflight := 0 } ∧
         t.counter .distMigrations n = s.dev.counter .distMigrations n + 1 ∧ t.counter .distHolds n = s.dev.counter .distHolds n)) ∧
     (x.held ≠ [] → x.inflight = 1 → x.target ≠ x.pipeline →
       Ends (.bucketInFlightEnd n b) s (fun t =>
         t.bucket n b = { x with pipeline := x.target, inflight := x.held.length, held := [] } ∧
         t.counter .distMigrations n = s.dev.counter .distMigrations n + 1 ∧ t.counter .distHolds n = s.dev.counter .distHolds n + 1))) ∧
   (∀ (w : RegWrite) (s : State), Wf.distCfgWrite w = true → w.master < 8 → w.off = 0x3700 → w.len = 8 →
     let x := s.dev.regWord isl.PIPA 0x700
     let gap := fld w.value 25 16
     (1 ≤ gap ∧ gap ≤ 1000 →
       Becomes (.distCfgWrite w) s (s.dev.setRegWord isl.PIPA 0x700
         { value := (x.value &&& ~~~(bits 0 0)) ||| (w.value &&& bits 0 0), pend := (x.pend &&& ~~~(bits 25 16)) ||| (w.value &&& bits 25 16),
           pendMask := x.pendMask ||| bits 25 16 })) ∧
     (¬ (1 ≤ gap ∧ gap ≤ 1000) → Becomes (.distCfgWrite w) s (count .distCfgReject 0 s.dev)))) ∧
  (∀ (k : Nat) (s : State), Wf.pipelineMarkedSlow k = true → boundDue .fifoSample isl.PIPA s.dev = false →
     let high := s.dev.regField isl.PIPA 0x710 5 0
     let low := s.dev.regField isl.PIPA 0x710 13 8
     let window := s.dev.regField isl.PIPA 0x710 31 16 * 100
     let at1 := fun (t : Time) => if Time.ge s.dev.now t then s.dev.now else t
     (s.dev.regField isl.PIPA 0x700 0 0 = 1 → s.dev.fabric.slow.getLsbD k = false → high ≤ s.dev.fill k →
       (s.dev.healthy.filter (fun j => j != k)).length ≥ 2 →
       let t := at1 (Time.plus ((SMap.get none s.dev.fabric.highSince k).getD s.dev.now) window)
       Ends (.pipelineMarkedSlow k) s (fun d => d.now = t ∧
         d.fabric.slow = s.dev.fabric.slow ||| BitVec.ofNat 8 (2 ^ k) ∧ d.counter .distSlowMarks k = s.dev.counter .distSlowMarks k + 1 ∧
         ∀ n b, n < 8 → b < 4096 →
           let x := s.dev.bucket n b
           (x.pipeline ≠ k → d.bucket n b = x) ∧
           (x.pipeline = k → ∃ j, d.bucket n b = { x with target := j, moveStart := t, homeward := false } ∧ j ≠ k ∧ j < 8 ∧
             s.dev.fabric.slow.getLsbD j = false ∧
             ∀ i, i < 8 → i ≠ k → s.dev.fabric.slow.getLsbD i = false → s.dev.served n j ≤ s.dev.served n i ∧ (s.dev.served n i = s.dev.served n j → j ≤ i)))) ∧
     (s.dev.fabric.slow.getLsbD k = true → s.dev.fill k ≤ low →
       let t := at1 (Time.plus ((SMap.get none s.dev.fabric.lowSince k).getD s.dev.now) (10 * window))
       Ends (.slowMarkCleared k) s (fun d => d.now = t ∧
         d.fabric.slow = s.dev.fabric.slow &&& ~~~(BitVec.ofNat 8 (2 ^ k)) ∧
         ∀ n b, n < 8 → b < 4096 →
           let x := s.dev.bucket n b
           d.bucket n b = if s.dev.regField isl.PIPA 0x700 0 0 = 1 ∧ b % 8 = k ∧ x.pipeline ≠ k then
             { x with target := k, moveStart := t, homeward := true } else x)) ∧
     (s.dev.fill k < high → Ends (.pipelineMarkedSlow k) s (fun d => d.fabric.slow = s.dev.fabric.slow ∧ d.fabric.buckets = s.dev.fabric.buckets ∧
       SMap.get none d.fabric.highSince k = none)) ∧
     (low < s.dev.fill k → Ends (.slowMarkCleared k) s (fun d => d.fabric.slow = s.dev.fabric.slow ∧ d.fabric.buckets = s.dev.fabric.buckets ∧
       SMap.get none d.fabric.lowSince k = none)))

/-- R89: VERSION_QUERY answers the active version, the build, the eight slots' states by the codes of Table 2-1, PARTITION, the lead node, the number of
members and T_ACT; on a non-lead side with STALE_PARTITION and the same payload (R83). R59, R62, R71, R72, R89, Table 2-10: what VERSION_BUILD_BEGIN
and VERSION_BUILD_ABORT do, and with which status they are refused, with nothing but the answer. -/
def Obligations.BuildsAndVersionQuery : Prop :=
  (∀ (ch : Nat) (r : Req) (s : State) (d : Dev), Wf.versionQuery ch r = true → Accepted spec0500 ch r s.dev d →
     ∃ w0 w1 w2 w3 : W64,
       Becomes (.versionQuery ch r) s (answer (mkJob spec0500 ch r d) (if d.nonLead then .stalePartition else .ok) [w0, w1, w2, w3] d) ∧
       fld w0 31 0 = d.activeVersion.toNat ∧
       (∀ k, d.slotIn .building = some k → fld w0 63 32 = (d.slot k).version.toNat) ∧ (d.slotIn .building = none → fld w0 63 32 = 0) ∧
       (∀ k, k < 8 → fld w1 (4 * k + 3) (4 * k) = match (d.slot k).state with
         | .free => 0
         | .building => 1
         | .prepared => 2
         | .active => 3
         | .draining => 4) ∧
       (d.str.partition < 4 → fld w1 33 32 = d.str.partition) ∧
       (d.str.lead < 2 ^ 20 → fld w2 19 0 = d.str.lead) ∧ (d.str.members.length < 2 ^ 20 → fld w2 39 20 = d.str.members.length) ∧
       fld w3 47 0 = d.rules.tAct.toNat) ∧
  (∀ (ch : Nat) (r : Req) (s : State) (d : Dev), cmdWf ch r = true →
     (Accepted spec0501 ch r s.dev d →
       let base : Version := BitVec.ofNat 32 (fld (r.word 0) 31 0)
       let v := base + 1
       let k := v.toNat % 8
       let ends := fun st ws e => Becomes (.versionBuildBegin ch r) s (answer (mkJob spec0501 ch r d) st ws e)
       (d.nonLead = true → ends .stalePartition [] d) ∧
       (d.nonLead = false → (d.activeSlot = none ∨ d.activeVersion ≠ base ∨ d.slotIn .building ≠ none ∨ d.slotIn .prepared ≠ none ∨
         (d.slot k).state ≠ .draining ∧ d.str.held ≠ none) → ends .versionConflict [] d) ∧
       (∀ a, d.nonLead = false → d.activeSlot = some a → (d.slot a).version = base → d.slotIn .building = none → d.slotIn .prepared = none →
         ((d.slot k).state = .draining → bit (r.word 0) 32 = false ∨ d.str.buildWait ≠ none → ends .busy [] d) ∧
         ((d.slot k).state = .draining → bit (r.word 0) 32 = true → d.str.buildWait = none →
           Becomes (.versionBuildBegin ch r) s
             (sendRetire k true d.now { d with str := { d.str with buildWait := some (mkJob spec0501 ch r d, base) } })) ∧
         ((d.slot k).state ≠ .draining → d.str.held = none → ∃ e, ends .ok [BitVec.ofNat 64 v.toNat] e ∧
           e.slot k = { Slot.free with state := .building, version := v, rules := (d.slot a).rules } ∧
           (∀ j, j ≠ k → e.slot j = d.slot j) ∧ e.rules.buildRecord = [] ∧ e = { d with rules := e.rules }))) ∧
     (Accepted spec0503 ch r s.dev d →
       let v : Version := BitVec.ofNat 32 (fld (r.word 0) 31 0)
       let ends := fun st e => Becomes (.versionBuildAbort ch r) s (answer (mkJob spec0503 ch r d) st [] e)
       (d.buildSlot v = none → d.committing v = false → ends .versionConflict d) ∧
       (d.committing v = true → ends .busy d) ∧
       (∀ k, d.buildSlot v = some k → d.committing v = false →
         let e := dropBuild k d
         ends .ok (tryPrepare e) ∧ (d.str.held = none → tryPrepare e = e) ∧ e.slot k = Slot.free ∧ (∀ j, j ≠ k → e.slot j = d.slot j) ∧
         e.rules.buildRecord = [] ∧ e = { d with rules := e.rules })))

/-- R74, R77: VERSION_COMMIT, of a build that passes the checks of Table 2-4, step 1, asks for the token with its answer outstanding; otherwise it ends
with the status of Table 2-5 and changes nothing else. Behind a commit of this member that has been answered already it waits. The order of the last
four checks is the model's (R570). R73, R441: the lead node grants the idle token to a request, the member to which it is granted sends PREPARE or
gives it back, and a release makes it idle again. -/
def Obligations.CommitsAndTheToken : Prop :=
  (∀ (ch : Nat) (r : Req) (s : State) (d : Dev), Wf.versionCommit ch r = true → Accepted spec0502 ch r s.dev d →
     let v : Version := BitVec.ofNat 32 (fld (r.word 0) 31 0)
     let ends := fun st ws => Becomes (.versionCommit ch r) s (answer (mkJob spec0502 ch r d) st ws d)
     (d.nonLead = true → ends .stalePartition []) ∧
     (d.nonLead = false →
       (∀ a, d.activeSlot = some a → (d.slot a).version = v → ends .alreadyComplete [BitVec.ofNat 64 v.toNat, BitVec.ofNat 64 d.rules.tAct.toNat]) ∧
       (¬ (d.activeSlot.isSome = true ∧ d.activeVersion = v) →
         (d.buildSlot v = none → d.committing v = false → ends .versionConflict []) ∧
         (d.buildSlot v = none → d.committing v = true → ends .busy []) ∧
         (∀ k, d.buildSlot v = some k →
           let executes := (∃ c, d.str.commit = some c ∧ c.job ≠ none) ∨ d.str.nextCommit ≠ none ∨ d.str.jobWait ≠ none
           (executes ∨ d.str.starting = true → ends .busy []) ∧
           (¬ executes → d.str.starting = false →
             (buildConsistent d k = false → ends .badArgument []) ∧
             (buildConsistent d k = true → buildAuthentic d k = false → ends .authFailed []) ∧
             (buildConsistent d k = true → buildAuthentic d k = true → buildFits d k = false → ends .noResource []) ∧
             (buildConsistent d k = true → buildAuthentic d k = true → buildFits d k = true → Jnl.takes d.jnl 1 (buildLines d) = false →
               Becomes (.versionCommit ch r) s (answer (mkJob spec0502 ch r d) .noResource [] (jnlRefused (buildLines d) d))) ∧
             (buildConsistent d k = true → buildAuthentic d k = true → buildFits d k = true → Jnl.takes d.jnl 1 (buildLines d) = true →
               let c : Commit := { version := v, stage := .token, acked := [], latest := 0, failed := none, tAct := 0, rollForward := false,
                                   job := some (mkJob spec0502 ch r d) }
               (d.str.commit = none → Becomes (.versionCommit ch r) s (askToken { d with str := { d.str with commit := some c, nextCommit := none } })) ∧
               (d.str.commit = none → d.isLead = false → d.str.tokenAsked = false →
                 Becomes (.versionCommit ch r) s (sendAwaited (.member d.str.lead) [.tokenReq] [d.str.lead]
                   { d with str := { d.str with commit := some c, nextCommit := none, tokenAsked := true } })) ∧
               (d.str.commit ≠ none → Becomes (.versionCommit ch r) s { d with str := { d.str with nextCommit := some c } }))))))) ∧
  ((∀ (m : CtlMsg) (s : State) (t : Dev), Arrived isTokenReq m () s.dev t → t.isLead = true →
     t.str.tokenQueue.any (fun h => h.org == m.hdr.org) = false →
     (t.nonLead = true ∨ t.str.holder ≠ none →
       Becomes .tokenReqReceive s { t with str := { t.str with tokenQueue := t.str.tokenQueue ++ [m.hdr] } }) ∧
     (t.nonLead = false → t.str.holder = none → t.str.tokenQueue = [] → m.hdr.org ≠ t.str.node →
       Becomes .tokenReqReceive s (reply m.hdr (.tokenGrant (t.str.tokenSeq + 1))
         { t with str := { t.str with tokenSeq := t.str.tokenSeq + 1, holder := some m.hdr.org, holdsToken := false } }))) ∧
   (∀ (m : CtlMsg) (q : BitVec 32) (s : State) (t : Dev), Arrived isTokenGrant m q s.dev t → t.isLead = false →
     let g := withdrawToken { t with str := { t.str with tokenSeq := q, holder := some t.str.node, holdsToken := true } }
     (t.str.commit = none → Becomes .tokenGrantReceive s
       (sendCtl (.member t.str.lead) (.tokenRelease q) { g with str := { g.str with holder := none, holdsToken := false } })) ∧
     (∀ c e, t.str.commit = some c → c.stage = .token →
       jTake 1 c.version.toNat (Config.recordBytes g.rules.buildRecord).length (.prepare g.rules.buildRecord false) (.prepared c.version) g = some e →
       Becomes .tokenGrantReceive s (sendAwaited .broadcast (prepareMsgs c.version g.rules.buildRecord) e.others
         { e with str := { e.str with commit := some { c with stage := .prepare, acked := [], failed := none } } }))) ∧
   (∀ (m : CtlMsg) (q : BitVec 32) (s : State) (t : Dev), Arrived isTokenRelease m q s.dev t →
     t.str.holder = some m.hdr.org → t.isLead = true → t.str.tokenQueue = [] →
     Becomes .tokenReleaseReceive s { t with str := { t.str with holder := none, holdsToken := true } }))

/-- R72, R74, R322, R571: a PREPARE in segments is put together; once whole it is held, its record journalled when its slot is FREE and no build stands,
and acknowledged only when the record is durable; it waits while its slot is not FREE. What is withdrawn is freed. The committing member journals
its decision after the last acknowledgement, or withdraws. R84, Table 2-4, step 4: a member that holds the version answers a pull with the record's
segments from the one asked for and the end with their number and digest; one that does not holds its answer back. The puller clears the slot of
what it holds, and journals a record that is whole. That the record sent holds the version whole is the model's choice (log 71). -/
def Obligations.PreparesAndPulls : Prop :=
  ((∀ (m : CtlMsg) (v : Version) (i : Nat) (bs : List Byte) (s : State) (t : Dev), Arrived isPrepareData m (v, i, bs) s.dev t →
     (t.str.assembly = none → Becomes .prepareDataReceive s { t with str := { t.str with assembly := some ⟨v, [(i, bs)]⟩ } }) ∧
     (∀ segs, t.str.assembly = some ⟨v, segs⟩ → Becomes .prepareDataReceive s
       { t with str := { t.str with assembly := some ⟨v, segs.filter (fun e => decide (e.1 ≠ i)) ++ [(i, bs)]⟩ } })) ∧
   (∀ (m : CtlMsg) (v : Version) (n : Nat) (dg : BitVec 384) (cs : List Change) (s : State) (t : Dev),
     Arrived isPrepareEnd m (v, n, dg) s.dev t → assembled t v n dg = some cs →
     ¬ ((t.slot (v.toNat % 8)).processes = true ∧ (t.slot (v.toNat % 8)).version = v) →
     let w := { t with str := { t.str with assembly := none, held := some ⟨v, cs, m.hdr.org, m.hdr⟩ } }
     Becomes .prepareEndReceive s (tryPrepare w) ∧
     (t.str.starting = true ∨ t.str.state = .rejoining → Becomes .prepareEndReceive s w) ∧
     (t.slotIn .building = none → (t.slot (v.toNat % 8)).state ≠ .free → Becomes .prepareEndReceive s w) ∧
     (∀ e1 e2, t.str.starting = false → t.str.state ≠ .rejoining → t.slotIn .building = none → (t.slot (v.toNat % 8)).state = .free → (t.jnl.inflight.any (fun r => r.typ == 1 && r.subject == v.toNat)) = false →
       placeVersion v .prepared cs false w = .ok e1 →
       jTake 1 v.toNat (Config.recordBytes cs).length (.prepare cs false) (.prepared v) w = some e2 → Becomes .prepareEndReceive s e2)) ∧
   (∀ (m : CtlMsg) (v : Version) (s : State) (t : Dev), Arrived isPrepareWithdraw m v s.dev t →
     (∀ h, t.str.held = some h → h.version = v → (t.slot (v.toNat % 8)).state ≠ .prepared →
       Becomes .prepareWithdrawReceive s { t with str := { t.str with held := none } }) ∧
     (t.str.held = none → (t.slot (v.toNat % 8)).state = .prepared → (t.slot (v.toNat % 8)).version = v → t.str.jobWait = none →
       Ends .prepareWithdrawReceive s (fun e => e.slot (v.toNat % 8) = Slot.free ∧ (∀ j, j ≠ v.toNat % 8 → e.slot j = t.slot j) ∧
         e = { t with rules := e.rules, jnl := e.jnl }))) ∧
   (∀ (m : CtlMsg) (v : Version) (c : Commit) (s : State) (t : Dev), Arrived isPrepareAck m (v, 0) s.dev t →
     t.str.commit = some c → c.version = v → c.stage = .prepare → c.failed = none →
     let g := gotReply (fun b => match b with
       | .prepareData w .. => w == v
       | .prepareEnd w .. => w == v
       | _ => false) m.hdr.org t
     let acked := m.hdr.org :: c.acked.filter (fun n => decide (n ≠ m.hdr.org))
     (g.str.members.all (fun n => acked.contains n) = false →
       Becomes .prepareAckReceive s { g with str := { g.str with commit := some { c with acked := acked } } }) ∧
     (g.str.members.all (fun n => acked.contains n) = true →
       Becomes .prepareAckReceive s
         (jPut 2 v.toNat 8 (.decision (g.now + BitVec.ofNat 48 (g.str.maxRttUs * 1000))) (.decided v (g.now + BitVec.ofNat 48 (g.str.maxRttUs * 1000)))
           { g with str := { g.str with commit := some { c with acked := acked, stage := .decide } } })))) ∧
  ((∀ (m : CtlMsg) (v : Version) (n : Nat) (s : State) (t : Dev), Arrived isPullReq m (v, n) s.dev t →
     (¬ ((t.slot (v.toNat % 8)).processes = true ∧ (t.slot (v.toNat % 8)).version = v) → Becomes .pullReqReceive s (unsee m.hdr t)) ∧
     ((t.slot (v.toNat % 8)).processes = true → (t.slot (v.toNat % 8)).version = v →
       let cs := wholeRecord t (v.toNat % 8)
       let segs := recordSegs cs
       Becomes .pullReqReceive s (reply m.hdr (.pullEnd v segs.length (Config.sha384 (Config.recordBytes cs)))
         (((segs.zipIdx.filter (fun e => decide (n ≤ e.2))).map (fun e => CtlBody.pullData v e.2 e.1)).foldl
           (fun d b => sendCtl (.member m.hdr.org) b d) t)))) ∧
   (∀ (m : CtlMsg) (v : Version) (i : Nat) (bs : List Byte) (s : State) (t : Dev), Arrived isPullData m (.pullData v i bs) s.dev t →
     t.str.assembly = none → Becomes .pullDataReceive s { t with str := { t.str with assembly := some ⟨v, [(i, bs)]⟩ } }) ∧
   (∀ (m : CtlMsg) (v : Version) (n : Nat) (dg : BitVec 384) (cs : List Change) (e : Dev) (s : State) (t : Dev),
     Arrived isPullData m (.pullEnd v n dg) s.dev t → assembled t v n dg = some cs →
     jTake 1 v.toNat (Config.recordBytes cs).length (.prepare cs true) (.prepared v) (clearFor v t) = some e →
     Becomes .pullDataReceive s (gotReply (fun b => match b with
       | .pullReq w _ => w == v
       | _ => false) m.hdr.org { e with str := { e.str with assembly := none } })) ∧
   (∀ (v : Version) (t : Dev), t.slotIn .building = none →
     ((t.slot (v.toNat % 8)).state = .free → clearFor v t = t) ∧
     ((t.slot (v.toNat % 8)).state ≠ .free → clearFor v t = freeVersion (v.toNat % 8) (discardSlot (v.toNat % 8) t))))

/-- R66: a version that is activated is ACTIVE with the one before it DRAINING, at T_ACT or, where T_ACT has passed, on receipt; the ACTIVATE is
journalled on receipt. The last acknowledgement retires what drains, with T_DRAIN one maximum round trip after the latest activation (R69). R69,
R70, R71, Table 2-3: RETIRE is recorded for a DRAINING slot, and with FORCE its packets are discarded and DRAIN_DONE sent at once; at T_DRAIN
markers go to every distributor; a unit passes a marker on when it holds every feeder's and nothing of the slot; after the last DRAIN_DONE the lead
node frees the slot everywhere, and SLOT_FREE frees it on each member. -/
def Obligations.ActivationAndRetirement : Prop :=
  ((∀ (m : CtlMsg) (v : Version) (at_ : Time) (s : State) (t : Dev), Arrived isActivate m (v, at_) s.dev t →
     let w := { t with str := { t.str with toActivate := some ⟨v, at_, some m.hdr, false, none⟩ } }
     let e := jPut 3 v.toNat 8 (.activate at_) (.activated v at_) w
     (t.activeSlot.isSome = true → t.activeVersion = v → Becomes .activateReceive s (reply m.hdr (.activateAck v t.rules.actAt) t)) ∧
     (¬ (t.activeSlot.isSome = true ∧ t.activeVersion = v) →
       (Time.ge t.now at_ = false → Becomes .activateReceive s e) ∧ (Time.ge t.now at_ = true → Becomes .activateReceive s (activateNow e))) ∧
     (∀ x, jTake 3 v.toNat 8 (.activate at_) (.activated v at_) w = some x → e = x)) ∧
   (∀ s : State, (∀ y ∈ s.dev.str.ctlIn, isActivate y.body = none) → Becomes .activateReceive s s.dev) ∧
   (∀ s : State, s.dev.str.toActivate = none ∨ (∃ a, s.dev.str.toActivate = some a ∧ a.done ≠ none) → Becomes .activation s s.dev) ∧
   (∀ (a : PendAct) (j : Nat) (s : State), s.dev.str.toActivate = some a → a.done = none → a.durable = false →
     (s.dev.slot (a.version.toNat % 8)).state = .prepared → (s.dev.slot (a.version.toNat % 8)).version = a.version → s.dev.activeSlot = some j →
     s.dev.str.adopt = none → s.dev.str.jobWait = none →
     Ends .activation s (fun d =>
       d.now = (if Time.ge s.dev.now a.tAct then s.dev.now else a.tAct) ∧ d.rules.tAct = a.tAct ∧ d.rules.actAt = d.now ∧
       d.slot (a.version.toNat % 8) = { s.dev.slot (a.version.toNat % 8) with state := .active } ∧
       d.slot j = { s.dev.slot j with state := .draining, tDrain := none, drainStarted := false, drainDone := false } ∧
       (∀ i, i ≠ j → i ≠ a.version.toNat % 8 → d.slot i = s.dev.slot i) ∧
       d.counter .versionCommits 0 = s.dev.counter .versionCommits 0 + 1 ∧
       d = { s.dev with rules := d.rules, ctr := d.ctr, now := d.now, mgt := d.mgt,
                        str := { s.dev.str with toActivate := some { a with done := some d.now } } })) ∧
   (∀ (m : CtlMsg) (v : Version) (u : Time) (c : Commit) (s : State) (t : Dev), Arrived isActivateAck m (v, u) s.dev t →
     t.str.commit = some c → c.version = v → c.stage = .activate → t.str.toRetire = [] →
     let g := gotReply (fun b => match b with
       | .activate w _ => w == v
       | _ => false) m.hdr.org t
     let acked := m.hdr.org :: c.acked.filter (fun n => decide (n ≠ m.hdr.org))
     let latest := if c.acked = [] ∨ Time.later u c.latest then u else c.latest
     (g.str.members.all (fun n => acked.contains n) = false →
       Becomes .activateAckReceive s { g with str := { g.str with commit := some { c with acked := acked, latest := latest } } }) ∧
     (g.str.members.all (fun n => acked.contains n) = true → Becomes .activateAckReceive s (restartRetire (beginNext (releaseToken
       (retireAll (latest + BitVec.ofNat 48 (g.str.maxRttUs * 1000)) { g with str := { g.str with commit := none } })))))) ∧
   (∀ (m : CtlMsg) (v : Version) (u : Time) (s : State) (t : Dev), Arrived isActivateAck m (v, u) s.dev t → t.str.commit = none → t.str.toRetire = [] →
     Becomes .activateAckReceive s (gotReply (fun b => match b with
       | .activate w _ => w == v
       | _ => false) m.hdr.org t))) ∧
  ((∀ (m : CtlMsg) (k : Nat) (u : Time) (s : State) (t : Dev), Arrived isRetire m (k, false, u) s.dev t → (t.slot k).state = .draining →
     Ends .retireReceive s (fun d => d.slot k = { t.slot k with tDrain := some u, drainStarted := false, drainDone := false } ∧
       (∀ j, j ≠ k → d.slot j = t.slot j) ∧ d = { t with rules := d.rules, fabric := d.fabric })) ∧
   (∀ (m : CtlMsg) (k : Nat) (u : Time) (s : State) (t : Dev), Arrived isRetire m (k, true, u) s.dev t → (t.slot k).state = .draining →
     Becomes .retireReceive s (sendDrainDone k (discardSlot k (forgetSlotMarkers k
       (t.setSlot k { t.slot k with tDrain := some u, drainStarted := true, drainDone := false }))))) ∧
   (∀ (m : CtlMsg) (k : Nat) (force : Bool) (u : Time) (s : State) (t : Dev), Arrived isRetire m (k, force, u) s.dev t →
     (t.slot k).state ≠ .draining → t.str.adopt = none → Becomes .retireReceive s (sendDrainDone k t)) ∧
   (∀ (k : Nat) (u : Time) (s : State), Wf.versionDrainStart k = true → (s.dev.slot k).tDrain = some u → (s.dev.slot k).state = .draining →
     (s.dev.slot k).drainStarted = false →
     Becomes (.versionDrainStart k) s (startMarkers ⟨false, k, (s.dev.slot k).version, u, 0⟩ [0, 1, 2, 3, 4, 5, 6, 7]
       ((reach u s.dev).setSlot k { s.dev.slot k with drainStarted := true }))) ∧
   (∀ (k : Nat) (s : State), Wf.versionDrainStart k = true →
     ((s.dev.slot k).tDrain = none ∨ (s.dev.slot k).state ≠ .draining ∨ (s.dev.slot k).drainStarted = true) → Becomes (.versionDrainStart k) s s.dev) ∧
   (∀ (u k : Nat) (m : Marker) (s : State), Wf.drainMarkerPass u k = true → heldMarker s.dev u false k = some m →
     (holdsMarkers s.dev u m = false ∨ unitClear s.dev u (fun t => t.vslot.toNat == k) = false → Becomes (.drainMarkerPass u k) s s.dev) ∧
     (holdsMarkers s.dev u m = true → unitClear s.dev u (fun t => t.vslot.toNat == k) = true →
       let d := passMarker u m s.dev
       let last := allReported d m = true ∧ (s.dev.slot k).state = .draining ∧ (s.dev.slot k).drainDone = false
       (¬ last → Becomes (.drainMarkerPass u k) s d) ∧ (last → Becomes (.drainMarkerPass u k) s (sendDrainDone k d)))) ∧
   (∀ (u k : Nat) (s : State), Wf.drainMarkerPass u k = true → heldMarker s.dev u false k = none → Becomes (.drainMarkerPass u k) s s.dev) ∧
   (∀ (m : CtlMsg) (k : Nat) (s : State) (t : Dev), Arrived isDrainDone m k s.dev t → t.isLead = true →
     let got := if (SMap.get [] t.str.drained k).contains m.hdr.org then SMap.get [] t.str.drained k else m.hdr.org :: SMap.get [] t.str.drained k
     (t.str.members.all (fun n => got.contains n) = false →
       Becomes .drainDoneReceive s { t with str := { t.str with drained := SMap.put [] t.str.drained k got } }) ∧
     (t.str.members.all (fun n => got.contains n) = true →
       Becomes .drainDoneReceive s (slotFreed k
         (sendCtl .broadcast (.slotFree k) { t with str := { t.str with drained := SMap.put [] t.str.drained k [] } })))) ∧
   (∀ (m : CtlMsg) (k : Nat) (s : State) (t : Dev), Arrived isDrainDone m k s.dev t → t.isLead = false → Becomes .drainDoneReceive s t) ∧
   (∀ (m : CtlMsg) (k : Nat) (s : State) (t : Dev), Arrived isSlotFree m k s.dev t →
     ((t.slot k).state ≠ .draining → Becomes .slotFreeReceive s t) ∧
     ((t.slot k).state = .draining → Becomes .slotFreeReceive s (buildNow (tryPrepare (freeVersion k t))))) ∧
   (∀ (m : CtlMsg) (k : Nat) (s : State) (t : Dev), Arrived isSlotFree m k s.dev t → (t.slot k).state = .draining → t.str.held = none →
     t.str.buildWait = none → Ends .slotFreeReceive s (fun d => d.slot k = Slot.free ∧ (∀ j, j ≠ k → d.slot j = t.slot j) ∧
       d = { t with rules := d.rules, fabric := d.fabric, jnl := d.jnl })))

/-- R92, R95, R96, R98, R100, R102: what PERST#, the links and the power states of a port do. The manager port's PERST# resets every island but TRU;
another port's only its own links. -/
def Obligations.PortsAndLinks : Prop :=
  (∀ (p : Nat) (s : State), Wf.perstAssert p = true → (s.dev.port p).perst = false →
    (p = s.dev.mgrPort → Becomes (.perstAssert p) s (fullReset (s.dev.setPort p { s.dev.port p with perst := true })) ∧
      Ends (.perstAssert p) s (fun d => d.tru = s.dev.tru ∧ d.slices = Dev.reset.slices ∧ d.rules = Dev.reset.rules ∧ d.qde = Dev.reset.qde ∧
        d.str = Dev.reset.str ∧ d.ctr = [] ∧ d.now = 0 ∧ d.boot.stage = 0 ∧ (d.port p).perst = true ∧ (d.port p).rrs = true)) ∧
    (p ≠ s.dev.mgrPort →
      let d := portLost p false ((s.dev.setPort p { s.dev.port p with perst := true }).setPort p
        { s.dev.port p with perst := true, linkA := HostLink.reset, linkB := HostLink.reset, held := none, dbHeld := none, reads := [] })
      ((s.dev.port p).bifurcated = false → Becomes (.perstAssert p) s d) ∧
      ((s.dev.port p).bifurcated = true → Becomes (.perstAssert p) s (portLost p true d)))) ∧
  (∀ (p : Nat) (strap : Bool) (s : State), Wf.perstDeassert p strap = true → (s.dev.port p).perst = true → p ≠ s.dev.mgrPort →
    s.dev.boot.started ≠ none →
    Becomes (.perstDeassert p strap) s
      (s.dev.setPort p { s.dev.port p with perst := false, bifurcated := strap, rrs := decide (s.dev.boot.stage < 4) && !s.dev.boot.warm })) ∧
  (∀ (p : Nat) (strap : Bool) (s : State), Wf.perstDeassert p strap = true → (s.dev.port p).perst = true → p = s.dev.mgrPort →
    s.dev.boot.started = none → s.dev.boot.porHeld = false → s.dev.boot.tripped = false → s.dev.boot.powerFail = false →
    Becomes (.perstDeassert p strap) s
      { s.dev.setPort p { s.dev.port p with perst := false, bifurcated := strap, rrs := decide (s.dev.boot.stage < 4) && !s.dev.boot.warm } with
        boot := { s.dev.boot with started := some s.dev.now } }) ∧
  (∀ (p : Nat) (half : Bool) (s : State), Wf.linkDown p half = true →
    (((s.dev.port p).link half).up = true →
      Becomes (.linkDown p half) s (portLost p half (s.dev.setPort p
        { (s.dev.port p).setLink half HostLink.reset with reads := (s.dev.port p).reads.filter (fun r => r.half != half) }))) ∧
    (((s.dev.port p).link half).up = false → Becomes (.linkDown p half) s s.dev)) ∧
  (∀ (p : Nat) (half : Bool) (speed : BitVec 3) (flit : Bool) (width : BitVec 5) (s : State), Wf.linkUp p half speed flit width = true →
    (s.dev.port p).perst = false → s.dev.boot.powerFail = false → s.dev.boot.tripped = false → (half = true → (s.dev.port p).bifurcated = true) →
    1 ≤ speed.toNat → speed.toNat ≤ 6 → 1 ≤ width.toNat → width.toNat ≤ (if (s.dev.port p).bifurcated then 8 else 16) →
    (s.dev.slice 0).state ≠ .quiesced →
    Becomes (.linkUp p half speed flit width) s (s.dev.setPort p ((s.dev.port p).setLink half
      { (s.dev.port p).link half with up := true, speed := speed, flit := speed == 6, width := width }))) ∧
  (∀ (p : Nat) (half : Bool) (s : State), Wf.d3hotEntry p half = true → ((s.dev.port p).link half).usable = true →
    Becomes (.d3hotEntry p half) s
      (portLost p half (s.dev.setPort p ((s.dev.port p).setLink half { (s.dev.port p).link half with d3hot := true })))) ∧
  (∀ (p : Nat) (half : Bool) (s : State), Wf.d0Return p half = true → ((s.dev.port p).link half).d3hot = true → (s.dev.slice 0).state ≠ .quiesced →
    Becomes (.d0Return p half) s (s.dev.setPort p ((s.dev.port p).setLink half { (s.dev.port p).link half with d3hot := false }))) ∧
  (∀ (p : Nat) (half : Bool) (q : CfgReq) (s : State), Wf.configurationRequest p half q = true → ((s.dev.port p).link half).up = true →
    (s.dev.port p).perst = false → (half = true → (s.dev.port p).bifurcated = true) →
    ((s.dev.port p).rrs = true → Becomes (.configurationRequest p half q) s (emit (.cfgRetry p half) (count .hifRrs p s.dev))) ∧
    ((s.dev.port p).rrs = false → q = .read 0 →
      Becomes (.configurationRequest p half q) s (emit (.cfgDone p half 0x41442E71) { s.dev with freeCtr := s.dev.freeCtr + 1 })) ∧
    (∀ c, (s.dev.port p).rrs = false → q = .writeDevCtl2 c → Becomes (.configurationRequest p half q) s
      (emit (.cfgDone p half 0) (s.dev.setPort p ((s.dev.port p).setLink half { (s.dev.port p).link half with timeoutCode := c })))) ∧
    (∀ n v, (s.dev.port p).rrs = false → q = .writeBar n v → Becomes (.configurationRequest p half q) s
      (emit (.cfgDone p half 0) (s.dev.setPort p ((s.dev.port p).setLink half
        { (s.dev.port p).link half with bars := SMap.put 0 ((s.dev.port p).link half).bars n (v &&& barMask n) })))) ∧
    ((s.dev.port p).rrs = false → Becomes (.configurationRequest p half q) s (cfgServe p half q s.dev))) ∧
  (∀ (p off : Nat) (s : State), Wf.bar4Write p off = true → (s.dev.port p).rrs = false → ((s.dev.port p).link false).usable = true →
    ((s.dev.port p).held.isSome = true ∨ (s.dev.port p).dbHeld.isSome = true → Becomes (.bar4Write p off) s s.dev) ∧
    ((s.dev.port p).held = none → (s.dev.port p).dbHeld = none → Becomes (.bar4Write p off) s (emit (.aer p true 2 off) (count .hifBar4Write p
      (s.dev.setPort p { s.dev.port p with abortAddr := abortWord 2 off true 4, abortTime := s.dev.now })))))

/-- R107, R110, R111, R118, R119, R123, R125, R567: accesses of one clock arrive in the order of their masters' identities. A register write through a
host port is judged by its shape and its port, enters the posted-write buffer of its island or is held, and is performed; an acknowledgement frees
the buffer for the write held, and then the reads that waited are looked at again; a write held for 2 µs is discarded. That the island performs the
write as it enters the buffer is the model's reading (log 77), and that shape is judged before the port (log 76). -/
def Obligations.RegisterWritePath : Prop :=
  (∀ as : List RegAccess, (clockOrder as).Perm as ∧ (clockOrder as).Pairwise (fun a b => RegAccess.master a ≤ RegAccess.master b)) ∧
  (∀ (w : RegWrite) (ws : List RegWrite) (rs : List HostRead) (s : State), Wf.registerWrite w (sameClock ws rs) = true → w.off < 0x10000 ∨ 0x40000 ≤ w.off →
    Becomes (.registerWrite ⟨w, ws, rs⟩) s ((clockOrder (.write w :: sameClock ws rs)).foldl (fun d a => accessArrive a d) s.dev)) ∧
  (∀ (r : HostRead) (ws : List RegWrite) (rs : List HostRead) (s : State), Wf.lowWordRead r (sameClock ws rs) = true →
    Becomes (.lowWordRead r ws rs) s ((clockOrder (.read r :: sameClock ws rs)).foldl (fun d a => accessArrive a d) s.dev)) ∧
  (∀ (w : RegWrite) (p : Nat) (s : State), Wf.registerWrite w [] = true → w.master = p + 8 → ((s.dev.port p).link w.half).usable = true →
    (s.dev.port p).rrs = false → (s.dev.port p).held = none → (s.dev.port p).dbHeld = none → w.off < 0x10000 →
    (w.len ≠ 8 ∨ w.off % 8 ≠ 0 →
      Becomes (.registerWrite ⟨w, [], []⟩) s (emit (.aer p false 0 w.off) (count .hifBadAccess p (abort p 0 w.off true 3 s.dev)))) ∧
    (w.len = 8 → w.off % 8 = 0 →
      (p ≠ s.dev.mgrPort →
        Becomes (.registerWrite ⟨w, [], []⟩) s (emit (.aer p true 0 w.off) (count .hifRegWriteDenied p (abort p 0 w.off true 5 s.dev)))) ∧
      (p = s.dev.mgrPort → 0x9000 ≤ w.off → Becomes (.registerWrite ⟨w, [], []⟩) s s.dev) ∧
      (p = s.dev.mgrPort → w.off < 0x9000 → w.off / 2048 ≠ p →
        ((s.dev.port p).xbusy.getLsbD (w.off / 2048) = false →
          Becomes (.registerWrite ⟨w, [], []⟩) s (performWrite w.master (w.off / 2048) (w.off % 2048) 0 w.value
            (s.dev.setPort p { s.dev.port p with xbusy := (s.dev.port p).xbusy ||| BitVec.ofNat 18 (2 ^ (w.off / 2048)) }))) ∧
        ((s.dev.port p).xbusy.getLsbD (w.off / 2048) = true →
          Becomes (.registerWrite ⟨w, [], []⟩) s
            (count .hifWriteStalls p (s.dev.setPort p { s.dev.port p with held := some (w.off / 2048, .reg w) })))))) ∧
  (∀ (p k : Nat) (s : State), Wf.writeAcknowledge p k = true → (s.dev.port p).xbusy.getLsbD k = true →
    ((s.dev.port p).held = none →
      let d := s.dev.setPort p { s.dev.port p with xbusy := (s.dev.port p).xbusy &&& ~~~(BitVec.ofNat 18 (2 ^ k)) }
      Becomes (.writeAcknowledge p k) s (serveReads p d) ∧ ((s.dev.port p).reads = [] → Becomes (.writeAcknowledge p k) s d)) ∧
    (∀ w, (s.dev.port p).held = some (k, .reg w) → Becomes (.writeAcknowledge p k) s (serveReads p
      (performWrite w.master (w.off % 65536 / 2048) (w.off % 2048) (w.off / 65536) w.value (s.dev.setPort p { s.dev.port p with held := none })))) ∧
    (∀ h, (s.dev.port p).held = some (k, h) →
      Becomes (.writeAcknowledge p k) s (serveReads p (performHeld performChan h (s.dev.setPort p { s.dev.port p with held := none }))))) ∧
  (∀ (p k off : Nat) (w : RegWrite) (s : State), Wf.registerStallTimeout p k off true = true → (s.dev.port p).held = some (k, .reg w) →
    Becomes (.registerStallTimeout p k off true) s (serveReads p (emit (.aer p true 0 w.off) (logFault p k 0x0101 0 (abortWord 0 w.off true 1) 0
      (count .hifXstallAbort p (abort p 0 w.off true 1 (s.dev.setPort p { s.dev.port p with held := none }))))))) ∧
  (∀ (p k off : Nat) (s : State), Wf.registerStallTimeout p k off false = true → (s.dev.port p).rrs = false →
    ((s.dev.port p).link false).usable = true →
    Becomes (.registerStallTimeout p k off false) s (serveReads p (emit (.readAbort p) (logFault p k 0x0101 0 (abortWord 0 off false 1) 0
      (count .hifXstallAbort p (abort p 0 off false 1 (dropRead p off s.dev))))))) ∧
  (∀ (p off len : Nat) (half : Bool) (ws : List W64) (s : State), Wf.doorbellHoldTimeout p = true → (s.dev.port p).dbHeld = some (half, off, len, ws) →
    Becomes (.doorbellHoldTimeout p) s (serveReads p (emit (.aer p true 1 off) (logFault p isl.QDE 0x0101 0 (abortWord 1 off true 1) 0
      (count .hifXstallAbort p (abort p 1 off true 1 (s.dev.setPort p { s.dev.port p with dbHeld := none })))))))

/-- R6, R113, R116, R117: what a write leaves of a register, through the base view and through the aliases. A field in range takes its bits, at once or
as its pending value, which a read returns; at a field's boundary its pending value becomes the applied one, other bits stay, and APPLY_COUNT rises
by one where something was pending and not otherwise. -/
def Obligations.RegisterFields : Prop :=
  (∀ (f : WField) (w : W64) (x : RegWord) (k : Nat), f.lo ≤ f.hi → f.hi < 64 → k < 64 →
    (f.bound = .atOnce → (writeField f w x).value.getLsbD k = (if f.lo ≤ k ∧ k ≤ f.hi then w.getLsbD k else x.value.getLsbD k) ∧
      (writeField f w x).pend = x.pend ∧ (writeField f w x).pendMask = x.pendMask) ∧
    (f.bound ≠ .atOnce → (writeField f w x).value = x.value ∧
      (writeField f w x).pendMask.getLsbD k = (x.pendMask.getLsbD k || decide (f.lo ≤ k ∧ k ≤ f.hi)) ∧
      (writeField f w x).pend.getLsbD k = (if f.lo ≤ k ∧ k ≤ f.hi then w.getLsbD k else x.pend.getLsbD k))) ∧
  (∀ (i kind off : Nat) (v : W64) (r : WReg) (w : RegWrite) (s : State), (kind = 1 ∨ kind = 2 ∨ kind = 3) → w.master = 1 → w.len = 8 →
    w.off = kind * 65536 + i * 2048 + off → i < 18 → off < 2048 → off % 8 = 0 → w.value = v → i ≠ isl.MGT → wreg i off = some r →
    (i = isl.QDE → off ≠ 0x208) → (i = isl.OBS → off ≠ 0x010) → (i = isl.PIPA → off < 0x700) →
    let cur := s.dev.regShown i off
    let word : W64 := if kind = 1 then cur ||| v else if kind = 2 then cur &&& ~~~v else cur ^^^ v
    let c : Instr := if kind = 1 then .setAliasWrite w else if kind = 2 then .clearAliasWrite w else .toggleAliasWrite w
    let hit := { r with fields := r.fields.filter (fun f => v &&& f.mask != 0) }
    Becomes c s (writeFields i hit word s.dev) ∧
    ((∀ f ∈ hit.fields, f.inRange word = true) → i ≠ isl.MEM →
      Becomes c s (s.dev.setRegWord i off (hit.fields.foldl (fun x f => writeField f word x) (s.dev.regWord i off))))) ∧
  (∀ (b : Boundary) (i : Nat) (s : Dev), i < 18 →
    (boundDue b i s = false → applyBoundary b i s = s) ∧
    (boundDue b i s = true →
      SMap.get 0 (applyBoundary b i s).regs.applyCount i = SMap.get 0 s.regs.applyCount i + 1 ∧
      (∀ r ∈ islandRegs i, ∀ k, k < 64 →
        ((applyBoundary b i s).regWord i r.off).pendMask.getLsbD k = ((s.regWord i r.off).pendMask.getLsbD k && !(boundMask b r).getLsbD k) ∧
        ((applyBoundary b i s).regWord i r.off).value.getLsbD k =
          (if (s.regWord i r.off).pendMask.getLsbD k && (boundMask b r).getLsbD k then (s.regWord i r.off).pend.getLsbD k
           else (s.regWord i r.off).value.getLsbD k)) ∧
      applyBoundary b i s = { s with regs := (applyBoundary b i s).regs }))

/-- R105, R108, R110, R111, R115, R120, R126, R127: a read of a register, through the base view or an alias, returns its value to the reader: all 8
bytes or a half. A port keeps where the read went, holds it behind a write held for the same island, and ends a bad shape with Unsupported Request.
An 8-byte read of a low word latches the high word for the reading master alone, and the high word reads as latched until that master reads another
low word of the island; a half read latches nothing. A slice's page reads 0 through a port that does not serve it. -/
def Obligations.RegisterReads : Prop :=
  (∀ (r : HostRead) (v i off : Nat) (s : State), Wf.lowWordRead r [] = true → r.bar = 0 → r.off = v * 65536 + i * 2048 + off → v < 4 → i < 18 →
    off < 2048 → i ≠ isl.MGT →
    let p := r.master - 8
    let host := 8 ≤ r.master ∧ r.master ≤ 10
    (host → ((s.dev.port p).link r.half).usable = true ∧ (s.dev.port p).rrs = false ∧ readWaits s.dev p r = false) →
    let d := if host ∧ i ≠ p then s.dev.setPort p { s.dev.port p with lastRead := SMap.put (0, 0) (s.dev.port p).lastRead i (0, r.off) } else s.dev
    (r.len = 8 → off % 8 = 0 → lowWord i off = false →
      Becomes (.lowWordRead r [] []) s (emit (.readData r.master (blockWord d r.master i off)) d)) ∧
    (r.len = 4 → off % 8 = 0 →
      Becomes (.lowWordRead r [] []) s (emit (.readData r.master (BitVec.ofNat 64 (fld (blockWord d r.master i off) 31 0))) d)) ∧
    (r.len = 4 → off % 8 = 4 →
      Becomes (.lowWordRead r [] []) s (emit (.readData r.master (BitVec.ofNat 64 (fld (blockWord d r.master i (off - 4)) 63 32))) d)) ∧
    (r.len = 8 → off % 8 = 0 → lowWord i off = true → Ends (.lowWordRead r [] []) s (fun e =>
      e = { d with regs := e.regs, out := .readData r.master (readReg d r.master i off) :: d.out } ∧
      e.regs.words = s.dev.regs.words ∧ e.regs.applyCount = s.dev.regs.applyCount ∧
      (∀ d2 : Dev, d2.regs = e.regs → highWord d2 r.master i off = readReg d r.master i (off + 8)) ∧
      (∀ m2 i2, m2 < 96 → i2 < 18 → m2 ≠ r.master ∨ i2 ≠ i →
        SMap.get none e.regs.shadows (32 * m2 + i2) = SMap.get none s.dev.regs.shadows (32 * m2 + i2))))) ∧
  (∀ (m i off : Nat) (d : Dev), lowWord i off = true → blockWord d m i (off + 8) = highWord d m i off) ∧
  (∀ (m i off o : Nat) (v : W64) (d : Dev), SMap.get none d.regs.shadows (32 * m + i) = some (o, v) →
    highWord d m i off = if o = off then v else readReg d m i (off + 8)) ∧
  (∀ (r : HostRead) (s : State), Wf.lowWordRead r [] = true → 8 ≤ r.master → r.master ≤ 10 →
    let p := r.master - 8
    (((s.dev.port p).link r.half).usable = false ∨ (s.dev.port p).rrs = true → Becomes (.lowWordRead r [] []) s s.dev) ∧
    (((s.dev.port p).link r.half).usable = true → (s.dev.port p).rrs = false →
      (readWrongPort s.dev p r = true → Becomes (.lowWordRead r [] []) s (emit (.readBytes r.master (List.replicate r.len 0)) s.dev)) ∧
      (r.bar = 1 → pageServed s.dev p r.half (r.off / 65536) = false → readWrongPort s.dev p r = true) ∧
      (readWrongPort s.dev p r = false → readShape r = false →
        Becomes (.lowWordRead r [] []) s (emit (.readUnsupported p) (count .hifBadAccess p (abort p r.bar r.off false 3 s.dev)))) ∧
      (readWrongPort s.dev p r = false → readShape r = true →
        (readWaits s.dev p r = true → Becomes (.lowWordRead r [] []) s (s.dev.setPort p { s.dev.port p with reads := (s.dev.port p).reads ++ [r] })) ∧
        (readWaits s.dev p r = false →
          Becomes (.lowWordRead r [] []) s (performRead r ((s.dev.port p).link r.half) (sendRead p r s.dev)))) ∧
      (∀ i h, r.bar = 0 → r.off < 0x40000 → (s.dev.port p).held = some (i, h) → i ≠ p → r.off % 65536 < 0x9000 → r.off % 65536 / 2048 = i →
        readWaits s.dev p r = true) ∧
      (r.bar = 0 → r.off < 0x40000 → 0x9000 ≤ r.off % 65536 → regShape r.off r.len = true →
        Becomes (.lowWordRead r [] []) s (emit (.readData r.master 0) s.dev))))

/-- R135, R137, R140, R143, R145, R148: what the writes of a channel region do, from a master whose write MGT performs at once (an internal one) and
from a host port whose buffer for MGT is free. A request slot that is FULL rejects what is written, a POST included; TAKEN acts before POST. R108,
R130, R136, R138, R143: a channel write through a port that does not serve the slice's page, or of a shape that R136 does not permit, changes no
channel; it is counted, and the abort record of the port says why. That the port is judged first is the model's choice (log 122). R138, R149, R153,
R569: a request is taken only on its channel's turn, manager channels before slice channels; FULL falls, and the command that the captured frame's
opcode names is executed. On any other channel nothing happens. R139, R150, R154, R155, R158: the end of a command writes the whole response frame,
clears EXECUTING with EMPTY, and records the final status; where the response timer has answered already only the history is written; no other
channel, and nothing but what an interrupt takes, is touched. -/
def Obligations.Mailboxes : Prop :=
  (∀ (m ch : Nat) (half : Bool) (s : State) (t : Dev), mbxMasterWf m = true → ch < 4352 →
     ((m < 8 ∨ 10 < m) ∧ t = s.dev ∨
       (8 ≤ m ∧ m ≤ 10 ∧ (4096 ≤ ch ∨ pageServed s.dev (m - 8) half ch = true) ∧ ((s.dev.port (m - 8)).link half).usable = true ∧ (s.dev.port (m - 8)).rrs = false ∧
         (s.dev.port (m - 8)).held = none ∧ (s.dev.port (m - 8)).dbHeld = none ∧ (s.dev.port (m - 8)).xbusy.getLsbD 15 = false ∧
         t = s.dev.setPort (m - 8) { s.dev.port (m - 8) with xbusy := (s.dev.port (m - 8)).xbusy ||| BitVec.ofNat 18 (2 ^ 15) })) →
     let c := t.chan ch
     (∀ off bs, 0 < bs.length → off < 0x40 → off % 4 = 0 → bs.length % 4 = 0 → off + bs.length ≤ 64 →
       (t.sender ch ≠ some m → Becomes (.mbxRequestWrite m half ch off bs) s (count .mbxBindDenied 0 t)) ∧
       (t.sender ch = some m → c.full = false →
         Becomes (.mbxRequestWrite m half ch off bs) s (t.setChan ch { c with request := overlay c.request 8 off bs })) ∧
       (t.sender ch = some m → c.full = true → Becomes (.mbxRequestWrite m half ch off bs) s (rejectWrite m ch off t))) ∧
     (∀ both : Bool, t.sender ch = some m →
       (c.full = true → Becomes (.postRequest m half ch both) s (rejectWrite m ch 0x80 t)) ∧
       (c.full = false → Becomes (.postRequest m half ch both) s
         (t.setChan ch { c with empty := c.empty || both, full := true, captured := c.request }))) ∧
     (t.sender ch = some m → Becomes (.taken m half ch) s (t.setChan ch { c with empty := true })) ∧
     (rejectWrite m ch 0x80 t).chan ch = { c with rejectCount := c.rejectCount + 1 } ∧
     (rejectWrite m ch 0x80 t).counter .mbxReject 0 = t.counter .mbxReject 0 + 1) ∧
  (∀ (m ch off : Nat) (half : Bool) (bs : List Byte) (s : State), Wf.mbxRequestWrite m half ch off bs = true → 8 ≤ m → m ≤ 10 →
     ((s.dev.port (m - 8)).link half).usable = true → (s.dev.port (m - 8)).rrs = false → (s.dev.port (m - 8)).held = none →
     (s.dev.port (m - 8)).dbHeld = none →
     let p := m - 8
     let at0 := if ch < 4096 then 0x1000000 + ch * 0x1000 + off else 0x100000 + (ch - 4096) * 0x100 + off
     (ch < 4096 → pageServed s.dev p half ch = false →
       Becomes (.mbxRequestWrite m half ch off bs) s (count .hifWrongPort p (abort p 0 at0 true 6 s.dev))) ∧
     (4096 ≤ ch ∨ pageServed s.dev p half ch = true →
       (0x100 ≤ off → Becomes (.mbxRequestWrite m half ch off bs) s s.dev) ∧
       (off < 0x80 → ¬ (off % 4 = 0 ∧ bs.length % 4 = 0 ∧ off % 64 + bs.length ≤ 64) →
         Becomes (.mbxRequestWrite m half ch off bs) s (emit (.aer p false 0 at0) (count .hifBadAccess p (abort p 0 at0 true 3 s.dev)))))) ∧
  (∀ (ch : Nat) (host : HostIO) (s : State), Wf.requestTake ch host = true →
     let c := s.dev.chan ch
     let op := fld (c.captured.getD 0 0) 15 0
     (servedNext s.dev ≠ some ch → Becomes (.requestTake ch host) s s.dev) ∧
     (servedNext s.dev = some ch →
       (s.dev.mgt.fwUp = true ∧ (s.dev.sender ch).isSome = true ∧ c.full = true ∧ c.empty = true ∧ c.executing = false) ∧
       (ch < 4096 → ∀ n, 4096 ≤ n → n ∈ s.dev.mgt.chans.map Prod.fst → takeable s.dev n = false) ∧
       (∀ f, (op, f) ∈ commandTable → Becomes (.requestTake ch host) s (f ch (frameReq c.captured host) (emptySlot ch s.dev))) ∧
       ((∀ e ∈ commandTable, e.1 ≠ op) →
         Becomes (.requestTake ch host) s (unknownCommand op ch (frameReq c.captured host) (emptySlot ch s.dev))) ∧
       ((emptySlot ch s.dev).chan ch = { c with full := false }))) ∧
  (∀ (j : Job) (st : Status) (ws : List W64) (d : Dev), j.indirect = false ∨ ws = [] → ws.length ≤ 7 → j.ch < 4352 →
     let c := d.chan j.ch
     let e := answer j st ws d
     (e.chan j.ch).history = histEnd j.no st ws c.history ∧ (e.chan j.ch).running = c.running.filter (fun n => n != j.no) ∧
     (∀ k, k ≠ j.ch → e.chan k = d.chan k) ∧
     e = { d with mgt := e.mgt, ctr := e.ctr, out := e.out, slices := e.slices, ports := e.ports } ∧
     (c.executing = true → c.current = some ⟨j.no, j.opcode, j.seq⟩ →
       (e.chan j.ch).empty = false ∧ (e.chan j.ch).executing = false ∧ (e.chan j.ch).current = none ∧
       ∃ w0, (e.chan j.ch).response = w0 :: ws ++ List.replicate (7 - ws.length) 0 ∧
         fld w0 15 0 = j.opcode % 65536 ∧ fld w0 31 16 = j.seq.toNat ∧ fld w0 46 32 = st.ctorIdx ∧ bit w0 47 = false ∧ fld w0 63 48 = 8 * ws.length) ∧
     (¬ (c.executing = true ∧ c.current = some ⟨j.no, j.opcode, j.seq⟩) →
       e = d.setChan j.ch { c with history := histEnd j.no st ws c.history, running := c.running.filter (fun n => n != j.no) }))

/-- R155, R159, R160, R162: the response timer answers TIMEOUT and the command runs on; a watchdog period without a restart stops the firmware and frees
its semaphores; the restarted firmware takes requests again; DEVICE_RESET's reset follows its response. -/
def Obligations.LamplighterTimers : Prop :=
  (∀ (ch no op : Nat) (seq : BitVec 16) (s : State), Wf.mailboxResponseTimeout ch = true → (s.dev.chan ch).executing = true →
    (s.dev.chan ch).current = some ⟨no, op, seq⟩ →
    let t := reach (s.dev.chan ch).deadline s.dev
    Becomes (.mailboxResponseTimeout ch) s (logFault isl.MGT 0xFF 0x1002 0 (mk64 [lo 13 ch, at' seq.toNat 16, at' (lo 16 op) 32]) 0
      (count .mbxTimeouts 0 (writeResponse ch op seq .timeout false 0 [] t))) ∧
    ((writeResponse ch op seq .timeout false 0 [] t).chan ch).history = (s.dev.chan ch).history ∧
    ((writeResponse ch op seq .timeout false 0 [] t).chan ch).running = (s.dev.chan ch).running) ∧
  (∀ (pc : W64) (s : State), Wf.firmwareWatchdog pc = true → s.dev.mgt.fwUp = true →
    Ends (.firmwareWatchdog pc) s (fun d => d.mgt.fwUp = false ∧ d.mgt.fwVersion = 0 ∧ d.mgt.chans = s.dev.mgt.chans ∧
      d.counter .mgtWdogRestarts 0 = s.dev.counter .mgtWdogRestarts 0 + 1 ∧ d.rules = s.dev.rules ∧ d.tmg = s.dev.tmg ∧ d.qde = s.dev.qde ∧
      (∀ e ∈ d.mgt.sems, ¬ (1 ≤ e.2.toNat ∧ e.2.toNat ≤ 4)) ∧
      d.mgt.faults.getLast?.map (fun f => (f.code, f.detail2)) = some (0x1001, pc))) ∧
  (∀ (v : BitVec 32) (s : State), Wf.firmwareRestartComplete v = true → s.dev.mgt.fwUp = false → 4 ≤ s.dev.boot.stage → s.dev.boot.stage ≤ 7 →
    s.dev.boot.powerFail = false →
    let runs := fun (d : Dev) => spiBus false { d with
      mgt := { d.mgt with fwUp := true, fwVersion := v, wdogMs := d.mgt.wdogNextMs, wdogAt := d.now },
      cry := { d.cry with ste := if d.cry.ste = .recovery ∧ d.boot.stage = 7 then .service else d.cry.ste } }
    (s.dev.jnl.inflight ≠ [] → Becomes (.firmwareRestartComplete v) s s.dev) ∧
    (s.dev.jnl.inflight = [] → Becomes (.firmwareRestartComplete v) s
      (runs (((haltJobs s.dev).mgt.chans.map Prod.fst).foldl (fun d ch => endHistory ch d) (haltJobs s.dev)))) ∧
    (s.dev.jnl.inflight = [] → s.dev.mgt.chans = [] → s.dev.mgt.deviceReset = none → s.dev.str.nextCommit = none → s.dev.str.commit = none →
      s.dev.str.jobWait = none → s.dev.str.buildWait = none → (∀ n ∈ s.dev.sliceList, (s.dev.slice n).quiesce.job = none ∧
        (s.dev.slice n).quiesce.why ≠ .deviceReset) → (∀ q, (s.dev.qp q).aborts = []) →
      Becomes (.firmwareRestartComplete v) s (runs s.dev))) ∧
  (∀ (ch : Nat) (d : Dev), (d.chan ch).executing = false →
    (endHistory ch d).chan ch = { d.chan ch with running := [], history := (d.chan ch).history.map (fun h => if h.done then h else
      { h with status := (if journalHolds d ch h.no then .ok else .halted), done := true }) }) ∧
  (∀ (j : Job) (u : Time) (s : State), Wf.deviceResetExecute = true → s.dev.mgt.deviceReset = some (j, some u) →
    ((s.dev.chan j.ch).empty = true → Becomes .deviceResetExecute s (commandReset s.dev)) ∧
    ((s.dev.chan j.ch).empty = false → Becomes .deviceResetExecute s (commandReset (reach (u + 1000000) s.dev))) ∧
    (commandReset s.dev).boot.stage = 1 ∧ (commandReset s.dev).tru = s.dev.tru ∧
    (∀ p, p < 3 → ((commandReset s.dev).port p).rrs = (s.dev.port p).rrs ∧ ((commandReset s.dev).port p).linkA.up = (s.dev.port p).linkA.up))

/-- R147, R148: a binding write that is permitted takes effect and resets its channel; any other is counted and changes nothing. LOCK only rises. R7,
R165 to R168: of the reads of a free semaphore in one clock the lowest identity that may acquire does, and reads 0; every other read of that clock
is counted, and one behind it reads the new owner with bit 63 set. A held semaphore answers its owner and stays. A host port other than the manager
port acquires nothing and reads bit 62 set. The owner's 0 in OWNER through the base view frees, whatever the bits that are not writable. -/
def Obligations.BindingsAndSemaphores : Prop :=
  (∀ (w : RegWrite) (s : State), w.master = 1 → w.len = 8 →
     (w.off = 15 * 2048 + 0x020 →
       let m := fld w.value 7 0
       let b : Binding := if bit w.value 24 then ⟨BitVec.ofNat 8 (fld w.value 15 8), true⟩ else ⟨0, false⟩
       let c := s.dev.chan (4096 + m)
       (s.dev.mgt.bindLock = true ∨ m = 0 ∨ 240 ≤ m ∨ fld w.value 23 16 ≠ 1 ∨ c.full = true ∨ c.empty = false ∨ c.executing = true →
         Becomes (.mgtBindWrite w) s (count .mgtBindWriteDenied 0 s.dev)) ∧
       (s.dev.mgt.bindLock = false → 1 ≤ m → m < 240 → fld w.value 23 16 = 1 → c.full = false → c.empty = true → c.executing = false →
         Becomes (.mgtBindWrite w) s
           ({ s.dev with mgt := { s.dev.mgt with bindings := SMap.put ⟨0, false⟩ s.dev.mgt.bindings m b } }.setChan (4096 + m) MbxChan.reset))) ∧
     (w.off = 15 * 2048 + 0x028 →
       Becomes (.bindLock w) s { s.dev with mgt := { s.dev.mgt with bindLock := s.dev.mgt.bindLock || bit w.value 0 } })) ∧
  (let said := fun (s : State) (o : Nat) (e : Nat × Bool) =>
     Out.readData e.1 (BitVec.ofNat 64 (o + (if mayAcquire s.dev e.1 then 0 else 2 ^ 62) + (if o = 0 then 0 else 2 ^ 63)))
   (∀ (ms pre post : List (Nat × Bool)) (a : Nat × Bool) (k : Nat) (s : State), ms = pre ++ a :: post → Wf.semaphoreRead ms k = true →
     ms.Pairwise (fun x y => x.1 < y.1) → (∀ e ∈ ms, semArrives s.dev k e = true) → (∀ e ∈ pre, mayAcquire s.dev e.1 = false) →
     mayAcquire s.dev a.1 = true → s.dev.semOwner k = 0 →
     Ends (.semaphoreRead ms k) s (fun d =>
       d.semOwner k = a.1 ∧ d.counter .mgtSemContended 0 = s.dev.counter .mgtSemContended 0 + BitVec.ofNat 64 (pre.length + post.length) ∧
       d.out = (post.map (said s a.1)).reverse ++ Out.readData a.1 0 :: (pre.map (said s 0)).reverse ++ s.dev.out ∧
       (∀ j, j ≠ k → d.semOwner j = s.dev.semOwner j))) ∧
   (∀ (ms : List (Nat × Bool)) (k o : Nat) (s : State), Wf.semaphoreRead ms k = true → ms.Pairwise (fun x y => x.1 < y.1) →
     (∀ e ∈ ms, semArrives s.dev k e = true) → s.dev.semOwner k = o → (0 < o ∨ ∀ e ∈ ms, mayAcquire s.dev e.1 = false) →
     Ends (.semaphoreRead ms k) s (fun d => d = { s.dev with out := (ms.map (said s o)).reverse ++ s.dev.out, ports := d.ports })) ∧
   (∀ (m : Nat) (half : Bool) (k : Nat) (s : State), Wf.semaphoreRead [(m, half)] k = true → 8 ≤ m → m ≤ 10 →
     ((s.dev.port (m - 8)).link half).usable = false → Becomes (.semaphoreRead [(m, half)] k) s s.dev) ∧
   (∀ (m k : Nat) (v : W64) (viaAlias : Bool) (s : State), Wf.semaphoreRelease m k v viaAlias = true → m < 8 ∨ 10 < m →
     (s.dev.semOwner k = m → fld v 7 0 = 0 → viaAlias = false → Becomes (.semaphoreRelease m k v viaAlias) s (s.dev.setSem k 0)) ∧
     (¬ (s.dev.semOwner k = m ∧ fld v 7 0 = 0 ∧ viaAlias = false) →
       Becomes (.semaphoreRelease m k v viaAlias) s (count .mgtSemBadRelease 0 s.dev))) ∧
   (∀ (m k : Nat) (v : W64) (viaAlias : Bool) (s : State), Wf.semaphoreRelease m k v viaAlias = true → 8 ≤ m → m ≤ 10 →
     Becomes (.semaphoreRelease m k v viaAlias) s (hostRegWrite (m - 8)
       { master := m, half := false, off := (if viaAlias then 0x10000 else 0) + 15 * 2048 + 0x300 + 8 * k, len := 8, value := v } s.dev)))

/-- R161, R162, R164, R169, Table 4-7: the general commands. -/
def Obligations.GeneralCommands : Prop :=
  ∀ (ch : Nat) (r : Req) (s : State) (d : Dev), cmdWf ch r = true →
    (Accepted spec0000 ch r s.dev d → ∃ w0 w2, Becomes (.deviceInfo ch r) s (answer (mkJob spec0000 ch r d) .ok [w0, Config.unitSerial, w2] d) ∧
      fld w0 15 0 = 0x4144 ∧ fld w0 23 16 = 0x10 ∧ fld w0 63 32 = d.mgt.fwVersion.toNat ∧
      (d.str.node < 2 ^ 20 → ∀ m, d.sender ch = some m → m < 256 → fld w2 19 0 = d.str.node ∧ fld w2 39 32 = m)) ∧
    (Accepted spec0001 ch r s.dev d → Becomes (.readyStatus ch r) s
      (answer (mkJob spec0001 ch r d) .ok [BitVec.ofNat 64 ((if d.boot.ready then 1 else 0) + d.boot.stage * 256)] d)) ∧
    (Accepted spec0002 ch r s.dev d →
      let n := fld (r.word 0) 12 0
      let ms := fld (r.word 0) 22 16
      (n < 4352 → 1 ≤ ms → ms ≤ 100 → n = ch ∨ (4096 ≤ ch ∧ d.isInternal ch = false) →
        Becomes (.channelConfig ch r) s (answer (mkJob spec0002 ch r d) .ok [] (d.setChan n { d.chan n with timerMs := ms }))) ∧
      (4352 ≤ n ∨ ms = 0 ∨ 100 < ms → Becomes (.channelConfig ch r) s (answer (mkJob spec0002 ch r d) .badArgument [] d)) ∧
      (n < 4096 → 1 ≤ ms → ms ≤ 100 → ch < 4096 → n ≠ ch → Becomes (.channelConfig ch r) s (answer (mkJob spec0002 ch r d) .notPermitted [] d))) ∧
    (Accepted spec0003 ch r s.dev d → ∀ h, (d.chan ch).history.find? (fun x => x.seq == BitVec.ofNat 16 (fld (r.word 0) 15 0)) = some h →
      fld (r.word 0) 28 16 = ch →
      ∃ w, Becomes (.cmdResult ch r) s (answer (mkJob spec0003 ch r d) .ok [w] d) ∧ fld w 15 0 = h.opcode % 65536 ∧ fld w 31 16 = h.seq.toNat ∧
        fld w 46 32 = h.status.ctorIdx ∧ bit w 48 = h.done) ∧
    (Accepted spec0004 ch r s.dev d →
      let ms := fld (r.word 0) 13 0
      (10 ≤ ms → ms ≤ 10000 → Ends (.watchdogConfig ch r) s (fun e => ∃ g, e = answer (mkJob spec0004 ch r d) .ok [] g ∧ g.mgt.wdogNextMs = ms ∧
        g.wdogShown = d.wdogShown ∧ g = { d with mgt := { d.mgt with wdogMs := g.mgt.wdogMs, wdogNextMs := ms, wdogAt := g.mgt.wdogAt } })) ∧
      (ms < 10 ∨ 10000 < ms → Becomes (.watchdogConfig ch r) s (answer (mkJob spec0004 ch r d) .badArgument [] d))) ∧
    (Accepted spec0005 ch r s.dev d →
      let first : BitVec 32 := BitVec.ofNat 32 (fld (r.word 0) 31 0)
      let n := fld (r.word 2) 10 0
      let dist := (d.mgt.nextIndex - first).toNat
      1 ≤ n → n ≤ 1024 → fld (r.word 1) 2 0 = 0 →
      (dist = 0 ∨ 2 ^ 31 ≤ dist → Becomes (.faultLogRead ch r) s
        (answer (mkJob spec0005 ch r d) .ok [BitVec.ofNat 64 (d.mgt.nextIndex.toNat + d.mgt.nextIndex.toNat * 2 ^ 32), 0] d)) ∧
      (0 < dist → dist < 2 ^ 31 →
        let k := if dist ≤ d.mgt.faults.length then dist else d.mgt.faults.length
        let rs := (d.mgt.faults.drop (d.mgt.faults.length - k)).take n
        let i := d.mgt.nextIndex - BitVec.ofNat 32 k
        (rs = [] ∨ bufferFault .timeout d ch r = none → Becomes (.faultLogRead ch r) s (answer (mkJob spec0005 ch r d) .ok
          [BitVec.ofNat 64 (i.toNat + d.mgt.nextIndex.toNat * 2 ^ 32), BitVec.ofNat 64 rs.length]
          (bufferWrite ch (r.word 1) (wordsBytes (rs.flatMap FaultRec.words)) d))) ∧
        (rs ≠ [] → bufferFault .timeout d ch r ≠ none → Becomes (.faultLogRead ch r) s (answer (mkJob spec0005 ch r d) .timeout [] d)))) ∧
    (Accepted spec0006 ch r s.dev d →
      let k := fld (r.word 0) 6 0
      (d.semOwner k = 0 → Becomes (.semForceRelease ch r) s (answer (mkJob spec0006 ch r d) .alreadyComplete [] d)) ∧
      (d.semOwner k ≠ 0 → Becomes (.semForceRelease ch r) s
        (answer (mkJob spec0006 ch r d) .ok [BitVec.ofNat 64 (d.semOwner k)] (count .mgtSemForced 0 (d.setSem k 0))))) ∧
    (Accepted spec0007 ch r s.dev d →
      (bit (r.word 0) 0 = false → Becomes (.deviceReset ch r) s (answer (mkJob spec0007 ch r d) .badArgument [] d)) ∧
      (bit (r.word 0) 0 = true → d.mgt.deviceReset ≠ none → Becomes (.deviceReset ch r) s (answer (mkJob spec0007 ch r d) .busy [] d)) ∧
      (bit (r.word 0) 0 = true → d.mgt.deviceReset = none →
        Becomes (.deviceReset ch r) s (deviceResetGo { d with mgt := { d.mgt with deviceReset := some (mkJob spec0007 ch r d, none) } })))

/-- R172, R173, R175, R177, R199, Table 5-6: SLICE_CREATE and SLICE_RESIZE make their checks in the spec's order, and the first that fails answers and
changes nothing; where all hold and the record is taken the slice is bound, or its whole profile moves; SLICE_QUERY reads it. That a device reset in
progress turns both away with BUSY is the model's reading (log 92). -/
def Obligations.SliceCreateResizeQuery : Prop :=
  ∀ (ch : Nat) (r : Req) (s : State) (d : Dev), cmdWf ch r = true →
    let w := r.word 0
    let sl := fld w 11 0
    let x := d.slice sl
    let p := profileOf r
    (Accepted spec0100 ch r s.dev d → d.jnl.replaying = none →
      let port := fld w 13 12
      let half := bit w 14
      let pasid : BitVec 20 := BitVec.ofNat 20 (fld w 39 20)
      let c1 := profileOk p = true ∧ sl ≠ 0 ∧ port < 3 ∧ (half = true → (d.port port).bifurcated = true)
      let c2 := x.state = .free ∧ sliceBusy d sl = false ∧ d.mgt.deviceReset = none ∧ ((d.port port).link half).up = true
      (¬ c1 → Becomes (.sliceCreate ch r) s (answer (mkJob spec0100 ch r d) .badArgument [] d)) ∧
      (c1 → ¬ c2 → Becomes (.sliceCreate ch r) s (answer (mkJob spec0100 ch r d) .busy [] d)) ∧
      (c1 → c2 → bindingUsed d port half pasid = true → Becomes (.sliceCreate ch r) s (answer (mkJob spec0100 ch r d) .badArgument [] d)) ∧
      (c1 → c2 → bindingUsed d port half pasid = false → poolsCover d sl p = false →
        Becomes (.sliceCreate ch r) s (answer (mkJob spec0100 ch r d) .noResource [] d)) ∧
      (c1 → c2 → bindingUsed d port half pasid = false → poolsCover d sl p = true → ∀ e, Recorded spec0100 ch r sl [] d e →
        Ends (.sliceCreate ch r) s (fun t => (t.slice sl).state = .active ∧ (t.slice sl).port = port ∧ (t.slice sl).half = half ∧
          (t.slice sl).pasid = pasid ∧ (t.slice sl).profile = p ∧ t.chan sl = MbxChan.reset ∧ (∀ n, n ≠ sl → t.slice n = d.slice n) ∧
          (∀ n, n ≠ sl → t.chan n = d.chan n) ∧ t = { e with slices := t.slices, mgt := t.mgt, mtr := t.mtr }))) ∧
    (Accepted spec0101 ch r s.dev d → d.jnl.replaying = none →
      let c1 := x.state ≠ .free ∧ profileOk p = true
      let c2 := x.state ≠ .quiescing ∧ x.state ≠ .forcing ∧ x.state ≠ .resetting ∧ coversUse d sl p = true ∧ sliceBusy d sl = false ∧
        d.mgt.deviceReset = none
      let c3 := poolsCover d sl p = true ∧ (p.threadSlots ≤ x.profile.threadSlots ∨ slotsCover d sl p.threadSlots = true)
      (¬ c1 → Becomes (.sliceResize ch r) s (answer (mkJob spec0101 ch r d) .badArgument [] (count .slcResizeReject 0 d))) ∧
      (c1 → ¬ c2 → Becomes (.sliceResize ch r) s (answer (mkJob spec0101 ch r d) .busy [] (count .slcResizeReject 0 d))) ∧
      (c1 → c2 → ¬ c3 → Becomes (.sliceResize ch r) s (answer (mkJob spec0101 ch r d) .noResource [] (count .slcResizeReject 0 d))) ∧
      (c1 → c2 → c3 → ∀ e, Recorded spec0101 ch r sl [] d e → Ends (.sliceResize ch r) s (fun t => t = setProfile sl p e ∧
        (p.threadSlots = x.profile.threadSlots → (t.slice sl).profile = p ∧ (t.slice sl).state = x.state ∧
          (t.slice sl).pasid = x.pasid ∧ (∀ n, n ≠ sl → t.slice n = d.slice n) ∧
          (∀ v, v < 64 → t.vec sl v = (if p.vectors ≤ v then { d.vec sl v with address := 0, data := 0 } else d.vec sl v)))))) ∧
    (Accepted spec0102 ch r s.dev d → (4096 ≤ ch ∨ ch = sl) → x.state ≠ .free → d.slicePort sl < 3 → ∃ w0, Becomes (.sliceQuery ch r) s
        (answer (mkJob spec0102 ch r d) .ok ([w0] ++ profileWords x.profile ++ [x.quiesce.withdrawn, BitVec.ofNat 64 x.changed.toNat]) d) ∧
      fld w0 3 0 = x.state.ctorIdx ∧ fld w0 9 8 = d.slicePort sl ∧ bit w0 11 = profilePending d sl ∧ bit w0 12 = x.quiesce.haltSeen ∧ bit w0 13 = x.quiesce.hostLost ∧
      fld w0 39 20 = x.pasid.toNat)

/-- R181, R186, R188, R190 to R192, R199: SLICE_QUIESCE, SLICE_RESET and SLICE_DESTROY of an idle slice begin its quiesce, and answer only when it ends;
at a slice already QUIESCED a quiesce is ALREADY_COMPLETE, and a reset or destroy goes straight to step 7. R185 to R187, R190 to R192, R194, R200,
Table 5-3: the slice drain markers, steps 4 to 6, the end of a quiesce and of a reset, and the quiesce timer. -/
def Obligations.Quiesce : Prop :=
  (∀ (ch : Nat) (r : Req) (s : State) (d : Dev), cmdWf ch r = true →
     let w := r.word 0
     let sl := fld w 11 0
     let x := d.slice sl
     let begun := fun (t : Dev) (why : QuiesceWhy) (sp : CmdSpec) =>
       (t.slice sl).quiesce.why = why ∧ (t.slice sl).quiesce.job = some (mkJob sp ch r d) ∧ (t.slice sl).quiesce.start = d.now ∧
         (t.slice sl).quiesce.timeoutMs = (if fld w 25 16 = 0 then x.profile.quiesceMs else fld w 25 16) ∧
         (t.slice sl).state = (if bit w 12 then .forcing else .quiescing) ∧ (t.slice sl).quiesce.forced = bit w 12 ∧
         t.counter .slcQuiesces 0 = d.counter .slcQuiesces 0 + 1 ∧ (∀ n, n ≠ sl → t.slice n = d.slice n) ∧ t.chan ch = d.chan ch ∧ t.jnl = d.jnl
     (Accepted spec0103 ch r s.dev d →
       (sl = 0 ∨ x.state = .free ∨ 1000 < fld w 25 16 → Becomes (.sliceQuiesce ch r) s (answer (mkJob spec0103 ch r d) .badArgument [] d)) ∧
       (sl ≠ 0 → x.state ≠ .free → fld w 25 16 ≤ 1000 → sliceIdle d sl = false →
         Becomes (.sliceQuiesce ch r) s (answer (mkJob spec0103 ch r d) .busy [] d)) ∧
       (sl ≠ 0 → fld w 25 16 ≤ 1000 → sliceIdle d sl = true → x.state = .quiesced →
         Becomes (.sliceQuiesce ch r) s (answer (mkJob spec0103 ch r d) .alreadyComplete [] d)) ∧
       (sl ≠ 0 → fld w 25 16 ≤ 1000 → sliceIdle d sl = true → x.state = .active ∨ x.state = .halted →
         Ends (.sliceQuiesce ch r) s (fun t => begun t .quiesce spec0103))) ∧
     (Accepted spec0104 ch r s.dev d →
       (sl = 0 ∨ (ch < 4096 ∧ ch ≠ sl) → Becomes (.sliceReset ch r) s (answer (mkJob spec0104 ch r d) .notPermitted [] d)) ∧
       (sl ≠ 0 → (4096 ≤ ch ∨ ch = sl) → x.state ≠ .free → fld w 25 16 ≤ 1000 → sliceIdle d sl = false →
         Becomes (.sliceReset ch r) s (answer (mkJob spec0104 ch r d) .busy [] d)) ∧
       (sl ≠ 0 → (4096 ≤ ch ∨ ch = sl) → x.state ≠ .free → fld w 25 16 ≤ 1000 → sliceIdle d sl = true → Jnl.takes d.jnl 6 (recLines 32) = false →
         Becomes (.sliceReset ch r) s (answer (mkJob spec0104 ch r d) .noResource [] (jnlRefused (recLines 32) d))) ∧
       (sl ≠ 0 → (4096 ≤ ch ∨ ch = sl) → x.state ≠ .free → fld w 25 16 ≤ 1000 → sliceIdle d sl = true → Jnl.takes d.jnl 6 (recLines 32) = true →
         (x.state = .active ∨ x.state = .halted → Ends (.sliceReset ch r) s (fun t => begun t .reset spec0104)) ∧
         (x.state = .quiesced → Becomes (.sliceReset ch r) s (beginReset sl .reset w (mkJob spec0104 ch r d) d)))) ∧
     (Accepted spec0105 ch r s.dev d →
       (sl = 0 → Becomes (.sliceDestroy ch r) s (answer (mkJob spec0105 ch r d) .notPermitted [] d)) ∧
       (sl ≠ 0 → x.state ≠ .free → fld w 25 16 ≤ 1000 → sliceIdle d sl = true → Jnl.takes d.jnl 6 (recLines 32) = false →
         Becomes (.sliceDestroy ch r) s (answer (mkJob spec0105 ch r d) .noResource [] (jnlRefused (recLines 32) d))) ∧
       (sl ≠ 0 → x.state ≠ .free → fld w 25 16 ≤ 1000 → sliceIdle d sl = true → Jnl.takes d.jnl 6 (recLines 32) = true →
         (x.state = .active ∨ x.state = .halted → Ends (.sliceDestroy ch r) s (fun t => begun t .destroy spec0105)) ∧
         (x.state = .quiesced → Becomes (.sliceDestroy ch r) s (beginReset sl .destroy w (mkJob spec0105 ch r d) d))))) ∧
  ((∀ (u sl : Nat) (s : State), Wf.sliceDrainMarkerPass u sl = true → (s.dev.slice sl).quiesce.qdeMarked = true →
     (∀ m, heldMarker s.dev u true sl = some m → holdsMarkers s.dev u m = true → unitClear s.dev u (fun t => t.slice.toNat == sl) = true →
       Becomes (.sliceDrainMarkerPass u sl) s (passMarker u m s.dev) ∧ markerPassed (passMarker u m s.dev) u m = true) ∧
     (∀ m, heldMarker s.dev u true sl = some m →
       (holdsMarkers s.dev u m = false ∨ unitClear s.dev u (fun t => t.slice.toNat == sl) = false) →
       Becomes (.sliceDrainMarkerPass u sl) s s.dev)) ∧
   (∀ (sl : Nat) (s : State), Wf.quiesceDrained sl = true →
     let x := s.dev.slice sl
     (x.state = .quiescing → x.quiesce.step < 4 → quiesceSettled s.dev sl = false → Becomes (.quiesceDrained sl) s s.dev) ∧
     (x.state = .forcing ∨ x.state = .quiescing ∧ quiesceSettled s.dev sl = true → x.quiesce.step < 4 →
       Becomes (.quiesceDrained sl) s (withdrawAndFlush sl s.dev) ∧ ((withdrawAndFlush sl s.dev).slice sl).quiesce.step = 6) ∧
     (x.state = .forcing ∨ x.state = .quiescing → 4 ≤ x.quiesce.step → sl ∈ s.dev.tmg.out → s.dev.mgt.deviceReset = none →
       Becomes (.quiesceDrained sl) s (quiesceEnd sl s.dev)) ∧
     (x.state = .forcing ∨ x.state = .quiescing → 4 ≤ x.quiesce.step → sl ∉ s.dev.tmg.out → Becomes (.quiesceDrained sl) s s.dev)) ∧
   (∀ (sl : Nat) (d : Dev), sl ≠ 0 → (d.slice sl).quiesce.why = .quiesce → ∀ j, (d.slice sl).quiesce.job = some j → j.indirect = false →
     let e := quiesceEnd sl d
     (e.slice sl).state = .quiesced ∧ (e.slice sl).quiesce.job = none ∧ (e.slice sl).quiesce.withdrawn = (d.slice sl).quiesce.withdrawn ∧
       ((d.chan j.ch).executing = true → (d.chan j.ch).current = some ⟨j.no, j.opcode, j.seq⟩ →
         (e.chan j.ch).response = respWord j.opcode j.seq .ok false 32 :: quiesceReport d sl 4 ++ List.replicate 3 0)) ∧
   (∀ (sl : Nat) (s : State), Wf.quiesceTimeout sl = true →
     let x := s.dev.slice sl
     (x.state ≠ .quiescing → Becomes (.quiesceTimeout sl) s s.dev) ∧
     (x.state = .quiescing → x.quiesce.forced = false → Ends (.quiesceTimeout sl) s (fun t => (t.slice sl).state = .forcing ∧
       (t.slice sl).quiesce.forced = true ∧ t.counter .slcForced 0 = s.dev.counter .slcForced 0 + 1 ∧ (∀ n, n ≠ sl → t.slice n = s.dev.slice n) ∧
       t.mgt.faults.getLast?.map (fun f => (f.code, f.detail2)) = some (0x0201, mk64 [sl, at' x.quiesce.step 12])))) ∧
   (∀ (sl : Nat) (settings : Bool) (d : Dev), sl < 4096 →
     let e := resetSlice sl settings d
     e.qpsOf sl = [] ∧ (∀ q, q ∉ d.qpsOf sl → e.qp q = d.qp q) ∧
       (∀ v, v < 64 → e.vec sl v = { d.vec sl v with
         mask := true, countMax := if settings then 1 else (d.vec sl v).countMax, delayUs := if settings then 0 else (d.vec sl v).delayUs }) ∧
       (settings = true →
         (e.slice sl).evMailbox = 255 ∧ (e.slice sl).evState = 255 ∧ (e.slice sl).evPressure = 255 ∧ (e.slice sl).evKeyLost = 255) ∧
       (settings = false →
         (e.slice sl).evMailbox = (d.slice sl).evMailbox ∧ (e.slice sl).evState = (d.slice sl).evState ∧
         (e.slice sl).evPressure = (d.slice sl).evPressure ∧ (e.slice sl).evKeyLost = (d.slice sl).evKeyLost) ∧
       (e.slice sl).port = (d.slice sl).port ∧ (e.slice sl).half = (d.slice sl).half ∧ (e.slice sl).pasid = (d.slice sl).pasid ∧
       (e.slice sl).profile = (d.slice sl).profile ∧ e.counter .slcResets 0 = d.counter .slcResets 0 + 1 ∧ (e.chan sl).history = [] ∧
       e.mgt.faults.getLast?.map (fun f => (f.code, f.detail2)) =
         some (0x0203, mk64 [sl, at' (b2n (d.slice sl).quiesce.forced) 12])))

/-- R193 to R196: the vector commands, the control words of the doorbell page, and when a message goes and when it waits. R198, Table 5-5: an MSI-X
message on a half that is enabled goes at once, is held in the pending bit array while its function or entry is masked, and goes once unmasked; on a
half with MSI-X disabled it is not sent; a bifurcated port uses half B only while half A's link is not up. -/
def Obligations.Interrupts : Prop :=
  ((∀ (ch : Nat) (r : Req) (s : State) (d e : Dev), cmdWf ch r = true → d.mgt.deviceReset = none →
     let w := r.word 0
     let sl := fld w 11 0
     let v := fld w 21 16
     let vs := [fld (r.word 1) 7 0, fld (r.word 1) 15 8, fld (r.word 1) 23 16, fld (r.word 1) 31 24]
     (Accepted spec0110 ch r s.dev d →
       ((d.slice sl).profile.vectors ≤ v ∨ fld (r.word 1) 1 0 ≠ 0 → Becomes (.vectorSet ch r) s (answer (mkJob spec0110 ch r d) .badArgument [] d)) ∧
       (v < (d.slice sl).profile.vectors → fld (r.word 1) 1 0 = 0 → sliceBusy d sl = true →
         Becomes (.vectorSet ch r) s (answer (mkJob spec0110 ch r d) .busy [] d)) ∧
       (v < (d.slice sl).profile.vectors → fld (r.word 1) 1 0 = 0 → sliceBusy d sl = false → Recorded spec0110 ch r (64 * sl + v) [] d e → Becomes (.vectorSet ch r) s
         (vecTry sl v (e.setVec sl v { e.vec sl v with address := r.word 1, data := BitVec.ofNat 32 (fld (r.word 2) 31 0) })))) ∧
     (Accepted spec0111 ch r s.dev d → ch < 4096 → ch ≠ sl → Becomes (.vectorCoalesce ch r) s (answer (mkJob spec0111 ch r d) .notPermitted [] d)) ∧
     (Accepted spec0111 ch r s.dev d → (4096 ≤ ch ∨ ch = sl) →
       ((d.slice sl).profile.vectors ≤ v ∨ fld w 40 32 = 0 ∨ 256 < fld w 40 32 →
         Becomes (.vectorCoalesce ch r) s (answer (mkJob spec0111 ch r d) .badArgument [] d)) ∧
       (v < (d.slice sl).profile.vectors → 1 ≤ fld w 40 32 → fld w 40 32 ≤ 256 → sliceBusy d sl = true →
         Becomes (.vectorCoalesce ch r) s (answer (mkJob spec0111 ch r d) .busy [] d)) ∧
       (v < (d.slice sl).profile.vectors → 1 ≤ fld w 40 32 → fld w 40 32 ≤ 256 → sliceBusy d sl = false → Recorded spec0111 ch r (64 * sl + v) [] d e →
         Becomes (.vectorCoalesce ch r) s (vecTry sl v (e.setVec sl v { e.vec sl v with countMax := fld w 40 32, delayUs := fld w 57 48 })))) ∧
     (Accepted spec0112 ch r s.dev d → ch < 4096 → ch ≠ sl → Becomes (.eventMap ch r) s (answer (mkJob spec0112 ch r d) .notPermitted [] d)) ∧
     (Accepted spec0112 ch r s.dev d → (4096 ≤ ch ∨ ch = sl) → (d.slice sl).state ≠ .free →
       ((∃ b ∈ vs, b ≠ 255 ∧ (d.slice sl).profile.vectors ≤ b) → Becomes (.eventMap ch r) s (answer (mkJob spec0112 ch r d) .badArgument [] d)) ∧
       ((∀ b ∈ vs, b = 255 ∨ b < (d.slice sl).profile.vectors) → sliceBusy d sl = true →
         Becomes (.eventMap ch r) s (answer (mkJob spec0112 ch r d) .busy [] d)) ∧
       ((∀ b ∈ vs, b = 255 ∨ b < (d.slice sl).profile.vectors) → sliceBusy d sl = false → Recorded spec0112 ch r sl [] d e → Becomes (.eventMap ch r) s
         (e.setSlice sl { e.slice sl with evMailbox := BitVec.ofNat 8 (fld (r.word 1) 7 0), evState := BitVec.ofNat 8 (fld (r.word 1) 15 8),
                                           evPressure := BitVec.ofNat 8 (fld (r.word 1) 23 16), evKeyLost := BitVec.ofNat 8 (fld (r.word 1) 31 24) })))) ∧
   (∀ (p sl v : Nat) (half : Bool) (s : State), Wf.vectorMask p half sl v 8 = true → s.dev.linkUsable p half = true → pageServed s.dev p half sl = true →
     (s.dev.port p).dbHeld = none → (s.dev.port p).held = none → 0 < (s.dev.port p).dbCredits → 
     let t := s.dev.setPort p { s.dev.port p with dbCredits := (s.dev.port p).dbCredits - 1 }
     (v < (s.dev.slice sl).profile.vectors →
       Becomes (.vectorMask p half sl v 8) s (t.setVec sl v { t.vec sl v with mask := true }) ∧
       Becomes (.vectorUnmask p half sl v 8) s (vecTry sl v (t.setVec sl v { t.vec sl v with mask := false }))) ∧
     ((s.dev.slice sl).profile.vectors ≤ v → Becomes (.vectorMask p half sl v 8) s t ∧ Becomes (.vectorUnmask p half sl v 8) s t)) ∧
   (∀ (sl v : Nat) (s : State), Wf.vectorDelayExpiry sl v = true →
     ((s.dev.vec sl v).pending = 0 → Becomes (.vectorDelayExpiry sl v) s s.dev) ∧
     (0 < (s.dev.vec sl v).pending → Becomes (.vectorDelayExpiry sl v) s
       (vecTry sl v (reach (Time.plus (s.dev.vec sl v).first ((s.dev.vec sl v).delayUs * 1000)) s.dev)))) ∧
   (∀ (sl v : Nat) (d : Dev),
     let x := d.vec sl v
     let due := x.mask = false ∧ 0 < x.pending ∧ (x.countMax ≤ x.pending ∨ x.delayUs * 1000 ≤ Time.since d.now x.first) ∧ x.address ≠ 0
     (¬ due → vecTry sl v d = d) ∧
     (due → d.linkUsable (d.slicePort sl) (d.slice sl).half = true → 
       ((vecTry sl v d).vec sl v) = { x with pending := 0 } ∧ 
       (vecTry sl v d).out = .message (d.slicePort sl) (d.slice sl).half x.address x.data :: d.out ∧
       (vecTry sl v d).counter .ieuMessages (d.slicePort sl) = d.counter .ieuMessages (d.slicePort sl) + 1))) ∧
  ((∀ (p e : Nat) (half : Bool) (d : Dev), e < 64 →
     let l := (d.port p).link half
     (l.msixEnable = false → msixHalf p half e d = d) ∧
     (l.msixEnable = true → l.msixFuncMask = true ∨ l.msixMask.getLsbD e = true →
       (((msixHalf p half e d).port p).link half).msixPending.getLsbD e = true ∧ (msixHalf p half e d).out = d.out) ∧
     (l.msixEnable = true → l.msixFuncMask = false → l.msixMask.getLsbD e = false → l.usable = true → msixHalf p half e d = emit (.msix p half e) d) ∧
     ((d.port p).bifurcated = true → (d.port p).linkA.up = false → msixSignal p e d = msixHalf p true e d) ∧
     ((d.port p).bifurcated = false ∨ (d.port p).linkA.up = true → msixSignal p e d = msixHalf p false e d)) ∧
   (∀ (p e : Nat) (half : Bool) (s : State), Wf.msixUnmask p half (some e) = true →
     let l := (s.dev.port p).link half
     l.msixEnable = true → l.msixFuncMask = false → (∀ i, i < 64 → l.msixPending.getLsbD i = true → i = e) → l.msixPending.getLsbD e = true →
       Ends (.msixUnmask p half (some e)) s (fun t => ((t.port p).link half).msixMask.getLsbD e = false ∧ ((t.port p).link half).msixPending = 0 ∧
         t.out = (if l.usable then .msix p half e :: s.dev.out else s.dev.out) ∧ t = { s.dev with ports := t.ports, out := t.out })) ∧
   (∀ (p : Nat) (half : Bool) (s : State), Wf.msixUnmask p half none = true →
     let l := (s.dev.port p).link half
     l.msixEnable = false → Becomes (.msixUnmask p half none) s (s.dev.setPort p ((s.dev.port p).setLink half { l with msixFuncMask := false }))))

/-- R206, R210 to R215, Table 6-2: one doorbell word written to a slice's page through its own port, which has a crossing credit. R217, R223, R224,
R230, R232, R233, R237, R239: what a channel's fetcher asks for, what a fetched descriptor becomes, and FETCH_ERROR. A fetch read that the port's
completion timer ends is issued again (R233). -/
def Obligations.DoorbellsAndDescriptors : Prop :=
  (∀ (p sl off : Nat) (half : Bool) (w : W64) (s : State), p < 3 → sl < 4096 → off < 64 → s.dev.linkUsable p half = true →
     pageServed s.dev p half sl = true → (s.dev.port p).dbHeld = none → (s.dev.port p).held = none → 0 < (s.dev.port p).dbCredits →
     let t := s.dev.setPort p { s.dev.port p with dbCredits := (s.dev.port p).dbCredits - 1 }
     let q := fld w 17 0
     let x := s.dev.qp q
     let idx := fld w 48 32
     let n := fld w 55 52 + 1
     let rejected := fun (cause : Nat) => count .qdeDbReject 0 (t.setQp q { x with lastReject := cause, dbRejects := if x.dbRejects = 0xFFFF#16 then x.dbRejects else x.dbRejects + 1 })
     (off % 8 ≠ 0 → Becomes (.producerDoorbell p half sl off 8 [w]) s (count .qdeDbBadAccess p t) ∧
       Becomes (.completionConsumerDoorbell p half sl off 8 [w]) s (count .qdeDbBadAccess p t) ∧
       Becomes (.invalidateDoorbell p half sl off 8 [w]) s (count .qdeDbBadAccess p t)) ∧
     (off % 8 = 0 → bit w 63 = false → Becomes (.producerDoorbell p half sl off 8 [w]) s t ∧
       Becomes (.completionConsumerDoorbell p half sl off 8 [w]) s t ∧ Becomes (.invalidateDoorbell p half sl off 8 [w]) s t) ∧
     (off % 8 = 0 → bit w 63 = true →
       (x.valid = false ∨ x.slice ≠ sl ∨ fld w 31 18 ≠ 0 ∨ fld w 62 49 ≠ 0 →
         Becomes (.producerDoorbell p half sl off 8 [w]) s (count .qdeDbForeign p t) ∧
         Becomes (.completionConsumerDoorbell p half sl off 8 [w]) s (count .qdeDbForeign p t)) ∧
       (x.valid = false ∨ x.slice ≠ sl ∨ fld w 31 18 ≠ 0 ∨ fld w 51 49 ≠ 0 ∨ fld w 62 56 ≠ 0 →
         Becomes (.invalidateDoorbell p half sl off 8 [w]) s (count .qdeDbForeign p t)) ∧
       (x.valid = true → x.slice = sl → (s.dev.slice sl).state = .active → fld w 31 18 = 0 →
         (fld w 62 49 = 0 →
           (2 ^ (x.k + 1) ≤ idx → Becomes (.producerDoorbell p half sl off 8 [w]) s (rejected 4) ∧
             Becomes (.completionConsumerDoorbell p half sl off 8 [w]) s (rejected 4)) ∧
           (idx < 2 ^ (x.k + 1) → x.consumer < 2 ^ (x.k + 1) → 2 ^ x.k < (idx + 2 ^ (x.k + 1) - x.consumer) % 2 ^ (x.k + 1) →
             Becomes (.producerDoorbell p half sl off 8 [w]) s (rejected 1)) ∧
           (idx < 2 ^ (x.k + 1) → x.consumer < 2 ^ (x.k + 1) → (idx + 2 ^ (x.k + 1) - x.consumer) % 2 ^ (x.k + 1) ≤ 2 ^ x.k →
             Becomes (.producerDoorbell p half sl off 8 [w]) s (t.setQp q { x with producer := idx, marked := true })) ∧
           (idx < 2 ^ (x.k + 1) → unread x < qpDiff x idx x.cqConsumer → Becomes (.completionConsumerDoorbell p half sl off 8 [w]) s (rejected 2)) ∧
           (idx < 2 ^ (x.k + 1) → qpDiff x idx x.cqConsumer ≤ unread x →
             Ends (.completionConsumerDoorbell p half sl off 8 [w]) s (fun d => (d.qp q).cqConsumer = idx ∧ (d.qp q).consumer = x.consumer ∧
               (d.qp q).producer = x.producer ∧ (d.qp q).items = x.items ∧ (∀ j, j ≠ q → d.qp j = s.dev.qp j)))) ∧
         (fld w 51 49 = 0 → fld w 62 56 = 0 →
           (2 ^ (x.k + 1) ≤ idx → Becomes (.invalidateDoorbell p half sl off 8 [w]) s (rejected 4)) ∧
           (idx < 2 ^ (x.k + 1) → (∃ e ∈ ringRun x idx n, outstanding x ≤ qpDiff x e x.consumer) →
             Becomes (.invalidateDoorbell p half sl off 8 [w]) s (rejected 3)) ∧
           (idx < 2 ^ (x.k + 1) → (∀ e ∈ ringRun x idx n, qpDiff x e x.consumer < outstanding x) → (x.items.map WorkItem.index).Nodup →
             Ends (.invalidateDoorbell p half sl off 8 [w]) s (fun d =>
               (∀ i ∈ (d.qp q).items, i.index ∈ ringRun x idx n → i.started = false → i.outcome = none → i.cached = false) ∧
               (d.qp q).producer = x.producer ∧ (d.qp q).consumer = x.consumer ∧ (∀ j, j ≠ q → d.qp j = s.dev.qp j))))))) ∧
  ((∀ (c : Nat) (s : State), c < 96 →
     (fetchChoice c s.dev = none → Becomes (.descriptorFetch c) s (s.dev.setDma c { s.dev.dma c with fetching := false })) ∧
     (∀ q i n fresh, fetchChoice c s.dev = some (q, i, n, fresh) →
       let x := s.dev.qp q
       let y := { x with fetching := x.fetching ++ [Fetch.mk i n [] s.dev.now], items := if fresh then x.items ++ (ringRun x i n).map newItem else x.items }
       let t := (s.dev.setQp q { y with marked := !fetchedAll y }).setDma c { s.dev.dma c with lastQp := q }
       let a := x.workAddr + BitVec.ofNat 64 (64 * (i % 2 ^ x.k))
       let found := s.dev.atcFind (qpPort s.dev q).1 (qpPort s.dev q).2.2 a
       (running s.dev x = true ∧ x.marked = true ∧ s.dev.readsOn c < 120 ∧ 1 ≤ n ∧ i % 2 ^ x.k + n ≤ 2 ^ x.k ∧ i % 2 ^ x.k % 64 + n ≤ 64) ∧
       (fresh = true → x.items.length + n ≤ 64 ∧ x.items.length + n ≤ outstanding x ∧ (x.aborts = [] → unstarted x + n ≤ x.prefetch)) ∧
       (qpUsable s.dev q = true → ∀ e, found = some e → e.read = true → Becomes (.descriptorFetch c) s (evalFill c (qdeRead q i .fetch a (64 * n) t))) ∧
       (qpUsable s.dev q = true → found = none → Becomes (.descriptorFetch c) s (evalFill c (askPage q i .fetch a (64 * n) t))) ∧
       (qpUsable s.dev q = true → ∀ e, found = some e → e.read = false → Becomes (.descriptorFetch c) s (evalFill c (fetchError q i 4 t))) ∧
       (qpUsable s.dev q = false → Becomes (.descriptorFetch c) s (evalFill c (fetchError q i 1 t))))) ∧
   (∀ (q i len : Nat) (what : ReadWhat) (a : W64) (d : Dev),
     let r : QdeReq := { no := d.qde.reqNo + 1, qp := q, index := i, what := what, port := (qpPort d q).1, half := (qpPort d q).2.1, pasid := (qpPort d q).2.2,
                         addr := a, len := len, time := d.now, gone := true }
     (qdeRead q i what a len d).out = .hostRead r.port r.half r.pasid a len :: d.out ∧ (qdeRead q i what a len d).qde.reqs = d.qde.reqs ++ [r] ∧
     (askPage q i what a len d).out = .atsRequest r.port r.pasid (a.toNat / 4096) :: d.out ∧
     (askPage q i what a len d).qde.reqs = d.qde.reqs ++ [{ r with gone := false }] ∧
     (askPage q i what a len d).counter .dmaAtcMiss r.port = d.counter .dmaAtcMiss r.port + 1 ∧
     (∀ n, (qdeRead q i what a len d).qp n = d.qp n ∧ (askPage q i what a len d).qp n = d.qp n)) ∧
   (∀ (q i : Nat) (ws : List W64) (tm : Time) (rest : List Fetch) (z : QdeReq) (s : State), Wf.descriptorFetchComplete q [ws] = true →
     (s.dev.qp q).fetching = Fetch.mk i 1 [] tm :: rest → i < qpMod (s.dev.qp q) → s.dev.reqOf q i .fetch (fun r => r.gone && r.len == 64) = some z →
     Becomes (.descriptorFetchComplete q [ws]) s (evalFill (s.dev.qp q).channel (checkPressure q (rxDrain q 4
       (fetchedOne q i ws ((endReq z s.dev).setQp q { s.dev.qp q with fetching := rest })))))) ∧
   (∀ (q i : Nat) (ws : List W64) (it : WorkItem) (d : Dev), findItem (d.qp q) i = some it → WorkItem.fetched it = false → (d.qp q).aborts = [] →
     (d.slice (d.qp q).slice).state = .active →
     let held := d.setQp q (onItem (d.qp q) i (fun it => { it with words := ws, cached := true }))
     (malformedReason d (d.qp q) ws = none → fetchedOne q i ws d = held) ∧
     (∀ reason, malformedReason d (d.qp q) ws = some reason → fetchedOne q i ws d = malformed q i reason 0 held ∧
       ((malformed q i reason 0 held).slice (d.qp q).slice).state = .halted ∧
       (malformed q i reason 0 held).counter .qdeMalformed 0 = d.counter .qdeMalformed 0 + 1 ∧
       ((findItem ((malformed q i reason 0 held).qp q) i).bind WorkItem.outcome).map WorkOutcome.status = some 6 ∧
       (∀ n, n ≠ (d.qp q).slice → (malformed q i reason 0 held).slice n = d.slice n))) ∧
   (∀ (q : Nat) (f : Fetch) (rest : List Fetch) (s : State), q < 2 ^ 18 → (s.dev.qp q).fetching = f :: rest →
     Becomes (.descriptorFetchTimeout q) s (fetchError q f.first 0 (reach (Time.plus f.start ((s.dev.qp q).timeoutUs * 1000)) s.dev))) ∧
   (∀ (q i : Nat) (f : Fetch) (z : QdeReq) (s : State), q < 2 ^ 18 → (s.dev.qp q).fetching.find? (fun f => f.first == i) = some f →
     (s.dev.reqOf q i .fetch (fun r => r.gone) = some z → z.len = 64 * f.n →
       Becomes (.dmaReadComplete q i .fetch .unsupported) s (fetchError q i 1 (endReq z s.dev)) ∧
       Becomes (.dmaReadComplete q i .fetch .completerAbort) s (fetchError q i 2 (endReq z s.dev)) ∧
       Becomes (.dmaReadComplete q i .fetch .poisoned) s (fetchError q i 3 (endReq z s.dev))) ∧
     (s.dev.reqOf q i .fetch (fun r => !r.gone) = some z →
       (qpUsable s.dev q = true → Becomes (.translationComplete q i .fetch none) s (fetchError q i 4 (endReq z s.dev))) ∧
       (qpUsable s.dev q = false → Becomes (.translationComplete q i .fetch none) s (fetchError q i 1 (endReq z s.dev)))) ∧
     (s.dev.reqOf q i .fetch (fun _ => true) = some z → Becomes (.pcieCompletionTimeout q i .fetch) s
       (fetchRead q i f.n (endReq z (reach (Time.plus z.time (s.dev.completionNs z.port z.half)) s.dev))))) ∧
   (∀ (q i cause : Nat) (d : Dev),
     let e := fetchError q i cause d
     ((d.qp q).fetchError = true → e = d) ∧
     ((d.qp q).fetchError = false → (e.qp q).fetchError = true ∧ (e.qp q).fetching = [] ∧ (e.qp q).items = dropUnheld (d.qp q).items ∧
       (∀ j, j ≠ q → e.qp j = d.qp j) ∧ e.counter .qdeFetchError 0 = d.counter .qdeFetchError 0 + 1 ∧
       e.mgt.faults.getLast?.map (fun f => (f.code, f.detail2)) = some (0x0301, mk64 [q, at' i 24, at' cause 41]))))

/-- R206, R208, R225 to R229, R232, R236, R239, R240: a started descriptor's reads, its outcome, which the first to arrive fixes, its FENCE read, its
record, and what ATS does. That a channel starts the descriptor of the slice served least for its WEIGHT is the model's reading of R238 (log 135).
R184, R217, R234, R236: a frame for QDE is dropped and counted, waits in staging, or takes the next unused descriptor of a channel that may have one
more in progress. -/
def Obligations.DescriptorWork : Prop :=
  ((∀ (c : Nat) (s : State), c < 96 →
     let e := (s.dev.qpsOn c).foldl issueReady (resumeSends c s.dev)
     (startChoice e c = none → Becomes (.descriptorStart c) s e) ∧
     (∀ q i, startChoice e c = some (q, i) →
       let x := e.qp q
       let t := takeTurn x.slice e
       let begun := channelStarts q (t.setQp q (onItem x i.index (fun i => { i with started := true })))
       (i.cached = true ∧ i.started = false ∧ i.outcome = none ∧ (e.slice x.slice).state = .active ∧ e.dmaBusy x.channel < 8 ∧
         (x.typ = 1 → x.staging ≠ []) ∧ (x.typ = 0 → ∀ j ∈ x.items, j.started = true → j.outcome ≠ none)) ∧
       (x.typ = 1 → Becomes (.descriptorStart c) s (rxDrain q 1 t)) ∧
       (x.typ ≠ 1 → dOpcode i.words = 0 → findItem x i.index = some i → i.fencing = none → i.writes = [] → Ends (.descriptorStart c) s (fun d =>
         (findItem (d.qp q) i.index).bind WorkItem.outcome =
           some { status := 0, progress := 0, bytes := 0, frag := 0, detail := 0, time := recordTime e i, rxFlags := 0 } ∧
         (d.qp q).consumer = x.consumer ∧ (∀ n, n ≠ q → d.qp n = e.qp n))) ∧
       (x.typ = 0 → dOpcode i.words ≠ 0 → Becomes (.descriptorStart c) s (sendStart q i.index begun)) ∧
       (x.typ ≠ 0 → x.typ ≠ 1 → dOpcode i.words ≠ 0 → Becomes (.descriptorStart c) s (storageStart q i.index begun)))) ∧
   (∀ (q i cause : Nat) (r : ReadReq) (it : WorkItem) (z : QdeReq) (s : State), q < 2 ^ 18 → findItem (s.dev.qp q) i = some it → it.req = some r →
     r.table = false →
     (s.dev.reqOf q i .data (fun z => z.gone) = some z →
       ∀ res, (res = .unsupported ∧ cause = 1 ∨ res = .completerAbort ∧ cause = 4 ∨ res = .poisoned ∧ cause = 6) →
         Becomes (.dmaReadComplete q i .data res) s (issueReady (readError q i cause (endReq z s.dev)) q)) ∧
     (s.dev.reqOf q i .data (fun _ => true) = some z → Becomes (.pcieCompletionTimeout q i .data) s
       (readError q i 7 (endReq z (reach (Time.plus z.time (s.dev.completionNs z.port z.half)) s.dev)))) ∧
     (s.dev.reqOf q i .data (fun z => !z.gone) = some z →
       (qpUsable s.dev q = true → Becomes (.translationComplete q i .data none) s (translationFault q i (endReq z s.dev))) ∧
       (qpUsable s.dev q = false → Becomes (.translationComplete q i .data none) s (readError q i 7 (endReq z s.dev))) ∧
       (qpUsable s.dev q = true → ∀ g : AtsPage, 12 ≤ g.log2 → g.log2 ≤ 30 → g.read = true → Becomes (.translationComplete q i .data (some g)) s
         (qdeRead q i .data z.addr z.len (atcAdd z.port
           { pasid := z.pasid, log2 := g.log2, page := z.addr.toNat / 2 ^ g.log2, read := true, write := g.write } (endReq z s.dev))))) ∧
     (∀ bs, s.dev.reqOf q i .data (fun z => z.gone && bs.length == z.len) = some z → (s.dev.qp q).typ = 0 →
       Becomes (.dmaReadComplete q i .data (.data bs)) s (sendData q i r bs (endReq z s.dev)))) ∧
   (∀ (q i cause : Nat) (d : Dev) (it : WorkItem), findItem (d.qp q) i = some it → it.outcome = none →
     let e := readError q i cause d
     (∀ n, n ≠ q → e.qp n = d.qp n) ∧
     (findItem (e.qp q) i).bind WorkItem.outcome = some (faultOutcome d (d.qp q) it 1) ∧
     e.counter .dmaBad (d.qp q).channel = d.counter .dmaBad (d.qp q).channel + 1 ∧
     e.mgt.faults.getLast?.map (fun f => (f.code, f.detail2, f.detail3)) =
       some (0x0401, mk64 [q, at' cause 48], BitVec.ofNat 64 (dSeq it.words).toNat)) ∧
   (∀ (o : WorkOutcome) (it : WorkItem), (it.outcome ≠ none → setOutcome o it = it) ∧ (it.outcome = none → (setOutcome o it).outcome = some o)) ∧
   (∀ (q i : Nat) (it : WorkItem) (o : WorkOutcome) (z : QdeReq) (bs : List Byte) (s : State), q < 2 ^ 18 → findItem (s.dev.qp q) i = some it →
     it.fencing = some o → it.outcome = none → s.dev.reqOf q i .fence (fun z => z.gone) = some z →
     Ends (.fenceReadComplete q i (.data bs)) s (fun d =>
       (findItem (d.qp q) i).bind WorkItem.outcome = some { o with time := recordTime s.dev it } ∧ (∀ n, n ≠ q → d.qp n = s.dev.qp n) ∧
       d = { s.dev with qde := d.qde }) ∧
     (∀ res cause, (res = .unsupported ∧ cause = 1 ∨ res = .completerAbort ∧ cause = 4 ∨ res = .poisoned ∧ cause = 6) →
       Ends (.fenceReadComplete q i res) s (fun d =>
         (findItem (d.qp q) i).bind WorkItem.outcome =
           some { o with status := 1, progress := 2, bytes := bytesDone it, frag := fragDone it, time := recordTime s.dev it } ∧
         (∀ n, n ≠ q → d.qp n = s.dev.qp n) ∧
         d.mgt.faults.getLast?.map (fun f => (f.code, f.detail2)) = some (0x0401, mk64 [q, at' cause 48])))) ∧
   (∀ (q : Nat) (it : WorkItem) (o : WorkOutcome) (s : State), q < 2 ^ 18 → (s.dev.qp q).valid = true → (s.dev.qp q).recordRefused = false →
     (s.dev.slice (s.dev.qp q).slice).state = .active → recordReady (s.dev.qp q) = some (it, o) → qpUsable s.dev q = true →
     let x := s.dev.qp q
     let a := cqSlotAddr x it.index
     let found := s.dev.atcFind (qpPort s.dev q).1 (qpPort s.dev q).2.2 a
     (x.items.head? = some it ∧ it.outcome = some o ∧ it.writes = [] ∧ unread x < 2 ^ x.k ∧ it.index = x.consumer) ∧
     (∀ e, found = some e → e.write = true → Ends (.completionRecordWrite q) s (fun e =>
       (e.qp q).consumer = (x.consumer + 1) % 2 ^ (x.k + 1) ∧ (e.qp q).items = x.items.drop 1 ∧
       (e.qp q).cqConsumer = x.cqConsumer ∧ (∀ n, n ≠ q → e.qp n = s.dev.qp n) ∧
       .hostWrite (qpPort s.dev q).1 (qpPort s.dev q).2.1 (qpPort s.dev q).2.2 a (wordsBytes (recordWords x it o)) ∈ e.out)) ∧
     (∀ e, found = some e → e.write = false → Becomes (.completionRecordWrite q) s (fetchError q it.index 5 (s.dev.setQp q { x with recordRefused := true }))) ∧
     (found = none → s.dev.reqOf q it.index .ring (fun _ => true) = none → Becomes (.completionRecordWrite q) s (askPage q it.index .ring a 32 s.dev))) ∧
   (∀ (p page log2 tag : Nat) (pasid : Option (BitVec 20)) (s : State), Wf.atsInvalidation p pasid page log2 tag = true →
     Ends (.atsInvalidation p pasid page log2 tag) s (fun d =>
       (∀ e, e ∈ SMap.get [] d.qde.atc p ↔ e ∈ SMap.get [] s.dev.qde.atc p ∧ ¬ (e.pasid = pasid ∧ pagesMeet e.page e.log2 page log2 = true)) ∧
       d.qde.invals = s.dev.qde.invals ++ [{ port := p, tag := tag, pasid := pasid, page := page, log2 := log2, upTo := s.dev.qde.reqNo }] ∧
       d.qde.pairs = s.dev.qde.pairs ∧ d.qde.reqs = s.dev.qde.reqs ∧ d.counter .dmaAtcInval p = s.dev.counter .dmaAtcInval p + 1) ∧
     (∀ v, s.dev.qde.invals.find? (fun v => v.port == p && v.tag == tag) = some v →
       (inFlightUnder s.dev v = true ∨ s.dev.portUsable p = false → Becomes (.atsInvalidationComplete p tag) s s.dev) ∧
       (inFlightUnder s.dev v = false → s.dev.portUsable p = true → Becomes (.atsInvalidationComplete p tag) s
         (emit (.atsInvalidated p tag) { s.dev with qde := { s.dev.qde with invals := s.dev.qde.invals.erase v } }))))) ∧
  (∀ (p : Pkt) (rest : List Pkt) (s : State), s.dev.qde.rxIn = p :: rest → p.tag.flag 0 = false →
     let t := { s.dev with qde := { s.dev.qde with rxIn := rest } }
     let q := p.tag.queue.toNat
     let x := s.dev.qp q
     let staged := t.setQp q { x with staging := x.staging ++ [p] }
     (x.valid = false ∨ x.typ ≠ 1 → Becomes .rxFrameArrival s (count .qdeRxBadQp (rxPort p) t)) ∧
     (x.valid = true → x.typ = 1 → (s.dev.slice x.slice).state ≠ .active → Becomes .rxFrameArrival s (count .slcRxDrop 0 t)) ∧
     (x.valid = true → x.typ = 1 → (s.dev.slice x.slice).state = .active →
       (nextUnused x = none → unfetched x = 0 → Becomes .rxFrameArrival s (count .qdeRxNoBuf (rxPort p) t)) ∧
       (nextUnused x = none → 0 < unfetched x → x.staging.length < 4 → t.stagedBytes (rxPort p) + p.bytes.length ≤ 2097152 →
         Becomes .rxFrameArrival s staged) ∧
       (nextUnused x = none → 0 < unfetched x → 4 ≤ x.staging.length → Becomes .rxFrameArrival s (count .qdeRxStageDrop (rxPort p) t)) ∧
       (∀ i, nextUnused x = some i → (i.cached = false ∨ 8 ≤ s.dev.dmaBusy x.channel ∨ x.staging ≠ []) →
         (x.staging.length < 4 → t.stagedBytes (rxPort p) + p.bytes.length ≤ 2097152 → Becomes .rxFrameArrival s staged) ∧
         (4 ≤ x.staging.length ∨ 2097152 < t.stagedBytes (rxPort p) + p.bytes.length → Becomes .rxFrameArrival s (count .qdeRxStageDrop (rxPort p) t))) ∧
       (∀ i, nextUnused x = some i → i.cached = true → s.dev.dmaBusy x.channel < 8 → x.staging = [] → dIndirect i.words = false →
         (dLength i.words < p.bytes.length → Becomes .rxFrameArrival s (count .qdeRxTooLong (rxPort p) t)) ∧
         (p.bytes.length ≤ dLength i.words → Becomes .rxFrameArrival s (rxWrite q i.index p (channelStarts q (t.setQp q (onItem x i.index (fun i =>
           { i with started := true, frame := some p, parts := [(dWord i 1, p.bytes.length)], curFrag := 0 })))))))))

/-- R90, R232, R243, R244, Table 6-9, R573: the queue commands. QUEUE_CREATE checks arguments, state and quota in that order, and reach before them (the
model's order, log 14). R116, R242, Table 6-8: a DMA_CFG write that breaks a range changes no field and is counted; one in range is pending until
the channel's next FILL evaluation, which makes it the applied value. Stated of an internal master, whose write MGT performs at once. -/
def Obligations.QueueCommands : Prop :=
  (∀ (ch : Nat) (r : Req) (s : State) (d : Dev), cmdWf ch r = true →
     let w := r.word 0
     let q := fld w 17 0
     let x := d.qp q
     let mine := 4096 ≤ ch ∨ ch = x.slice
     (Accepted spec0200 ch r s.dev d → d.jnl.replaying = none →
       let sl := fld w 11 0
       let port := d.slicePort sl
       let chan := fld w 31 24
       let argsOk := fld w 13 12 < 3 ∧ 4 ≤ fld w 20 16 ∧ fld w 20 16 ≤ 16 ∧ (chan < 32 ∨ chan = 255) ∧ vectorOk d sl (fld w 39 32) = true ∧
         1 ≤ fld w 48 44 ∧ fld w 48 44 ≤ 16 ∧ fld (r.word 1) 11 0 = 0 ∧ fld (r.word 2) 11 0 = 0 ∧ fetchTimeoutOk (fld (r.word 3) 16 0) = true ∧
         (bit w 14 = true → fld w 13 12 = 1 ∧ d.exceptionQueue sl = none)
       let n := lowestFree ((d.qde.pairs.filter (fun e => e.2.valid)).map (fun e => e.1))
       (ch < 4096 → ch ≠ sl → Becomes (.queueCreate ch r) s (answer (mkJob spec0200 ch r d) .notPermitted [] d)) ∧
       ((4096 ≤ ch ∨ ch = sl) → ¬ argsOk → Becomes (.queueCreate ch r) s (answer (mkJob spec0200 ch r d) .badArgument [] d)) ∧
       (argsOk → (4096 ≤ ch ∨ ch = sl) → (d.slice sl).state ≠ .active → Becomes (.queueCreate ch r) s (answer (mkJob spec0200 ch r d) .busy [] d)) ∧
       (argsOk → (4096 ≤ ch ∨ ch = sl) → (d.slice sl).state = .active → (d.slice sl).profile.queuePairs ≤ (d.qpsOf sl).length →
         Becomes (.queueCreate ch r) s (answer (mkJob spec0200 ch r d) .noResource [] d)) ∧
       (argsOk → (4096 ≤ ch ∨ ch = sl) → (d.slice sl).state = .active → (d.qpsOf sl).length < (d.slice sl).profile.queuePairs →
         ∀ e, Recorded spec0200 ch r n [BitVec.ofNat 64 n] d e →
           Becomes (.queueCreate ch r) s (e.setQp n { QueuePair.none with
             valid := true, slice := sl, typ := fld w 13 12, exception := bit w 14, k := fld w 20 16,
             channel := 32 * port + (if chan = 255 then fewestChannel d port else chan), vector := BitVec.ofNat 8 (fld w 39 32),
             eventAll := bit w 40, prefetch := fld w 48 44, timeoutUs := fetchTimeout (fld (r.word 3) 16 0), workAddr := r.word 1,
             cqAddr := r.word 2 }))) ∧
     (Accepted spec0201 ch r s.dev d →
       (x.valid = false → Becomes (.queueDestroy ch r) s (answer (mkJob spec0201 ch r d) .badArgument [] d)) ∧
       (x.valid = true → ¬ mine → Becomes (.queueDestroy ch r) s (answer (mkJob spec0201 ch r d) .notPermitted [] d)) ∧
       (x.valid = true → mine → (d.slice x.slice).state = .active → (x.producer ≠ x.consumer ∨ x.items ≠ []) →
         Becomes (.queueDestroy ch r) s (answer (mkJob spec0201 ch r d) .busy [] d)) ∧
       (x.valid = true → mine → ((d.slice x.slice).state ≠ .active ∨ (x.producer = x.consumer ∧ x.items = [])) → ∀ e, Recorded spec0201 ch r q [] d e →
         Ends (.queueDestroy ch r) s (fun t => t.qp q = QueuePair.none ∧ (∀ n, n ≠ q → t.qp n = d.qp n) ∧ (x.aborts = [] → t = { e with qde := t.qde })))) ∧
     (Accepted spec0202 ch r s.dev d →
       (x.valid = false → Becomes (.queueQuery ch r) s (answer (mkJob spec0202 ch r d) .badArgument [] d)) ∧
       (x.valid = true → mine → Becomes (.queueQuery ch r) s (answer (mkJob spec0202 ch r d) .ok
         [qStateWord d q, qIndexWord d q, qAuxWord d q, mk64 [x.vector.toNat, at' (b2n x.eventAll) 8, at' x.prefetch 9, at' x.timeoutUs 32]] d)) ∧
       (x.valid = true → ¬ mine → Becomes (.queueQuery ch r) s (answer (mkJob spec0202 ch r d) .notPermitted [] d))) ∧
     (Accepted spec0203 ch r s.dev d →
       let argsOk := x.valid = true ∧ vectorOk d x.slice (fld w 39 32) = true ∧ 1 ≤ fld w 48 44 ∧ fld w 48 44 ≤ 16 ∧
         fetchTimeoutOk (fld (r.word 1) 16 0) = true
       (¬ argsOk → Becomes (.queueModify ch r) s (answer (mkJob spec0203 ch r d) .badArgument [] d)) ∧
       (argsOk → ¬ mine → Becomes (.queueModify ch r) s (answer (mkJob spec0203 ch r d) .notPermitted [] d)) ∧
       (argsOk → mine → (d.slice x.slice).state ≠ .active → Becomes (.queueModify ch r) s (answer (mkJob spec0203 ch r d) .busy [] d)) ∧
       (argsOk → mine → (d.slice x.slice).state = .active → ∀ e, Recorded spec0203 ch r q [] d e →
         Becomes (.queueModify ch r) s (e.setQp q { x with vector := BitVec.ofNat 8 (fld w 39 32), eventAll := bit w 40, prefetch := fld w 48 44,
                                                            timeoutUs := fetchTimeout (fld (r.word 1) 16 0) }))) ∧
     (Accepted spec0204 ch r s.dev d →
       (x.valid = false → Becomes (.queueRestart ch r) s (answer (mkJob spec0204 ch r d) .badArgument [] d)) ∧
       (x.valid = true → ¬ mine → Becomes (.queueRestart ch r) s (answer (mkJob spec0204 ch r d) .notPermitted [] d)) ∧
       (x.valid = true → mine → (d.slice x.slice).state ≠ .active → Becomes (.queueRestart ch r) s (answer (mkJob spec0204 ch r d) .busy [] d)) ∧
       (x.valid = true → mine → (d.slice x.slice).state = .active → x.fetchError = false →
         Becomes (.queueRestart ch r) s (answer (mkJob spec0204 ch r d) .alreadyComplete [] d)) ∧
       (x.valid = true → mine → (d.slice x.slice).state = .active → x.fetchError = true → Becomes (.queueRestart ch r) s (answer (mkJob spec0204 ch r d) .ok []
         (completionRecordWrite q (d.setQp q { x with fetchError := false, recordRefused := false, marked := true }))))) ∧
     (Accepted spec0205 ch r s.dev d →
       let idx := fld w 48 32
       let posted := x.valid = true ∧ idx < 2 ^ (x.k + 1) ∧ qpDiff x idx x.consumer < outstanding x
       (¬ posted → Becomes (.queueAbort ch r) s (answer (mkJob spec0205 ch r d) .badArgument [] d)) ∧
       (posted → mine → (d.slice x.slice).state = .active →
         (∀ i, findItem x idx = some i → WorkItem.fetched i = true →
           (dSeq i.words ≠ BitVec.ofNat 32 (fld (r.word 1) 31 0) → Becomes (.queueAbort ch r) s (answer (mkJob spec0205 ch r d) .badArgument [] d)) ∧
           (dSeq i.words = BitVec.ofNat 32 (fld (r.word 1) 31 0) → i.outcome ≠ none →
             Becomes (.queueAbort ch r) s (answer (mkJob spec0205 ch r d) .alreadyComplete [] d)) ∧
           (dSeq i.words = BitVec.ofNat 32 (fld (r.word 1) 31 0) → i.outcome = none →
             let o := faultOutcome d x i 3
             Becomes (.queueAbort ch r) s (answer (mkJob spec0205 ch r d) .ok [mk64 [at' o.progress 40, at' 3 42]]
               (issueReady (d.setQp q (onItem x idx (setOutcome o))) q)))) ∧
         ((∀ i, findItem x idx = some i → WorkItem.fetched i = false) → Becomes (.queueAbort ch r) s (d.setQp q { x with
           aborts := x.aborts ++ [(idx, BitVec.ofNat 32 (fld (r.word 1) 31 0), mkJob spec0205 ch r d)], marked := true })))) ∧
     (Accepted spec0230 ch r s.dev d →
       let reached := d.isInternal ch = false ∧ (4096 ≤ ch ∨ (x.valid = true ∧ ch = x.slice))
       let argsOk := x.valid = true ∧ fld (r.word 1) 2 0 = 0 ∧ 2048 ≤ fld (r.word 2) 31 0
       let es := (x.items.filter WorkItem.fetched).map (recoveryEntry d x)
       (¬ reached → Becomes (.queueRecoveryRead ch r) s (answer (mkJob spec0230 ch r d) .notPermitted [] d)) ∧
       (reached → ¬ argsOk → Becomes (.queueRecoveryRead ch r) s (answer (mkJob spec0230 ch r d) .badArgument [] d)) ∧
       (reached → argsOk → (d.slice x.slice).state = .active → x.fetchError = false →
         Becomes (.queueRecoveryRead ch r) s (answer (mkJob spec0230 ch r d) .busy [] d)) ∧
       (reached → argsOk → ((d.slice x.slice).state ≠ .active ∨ x.fetchError = true) →
         (es = [] ∨ bufferFault .notPermitted d ch r = none →
           Becomes (.queueRecoveryRead ch r) s (answer (mkJob spec0230 ch r d) .ok [mk64 [x.consumer, at' x.producer 32], BitVec.ofNat 64 es.length]
             (bufferWrite ch (r.word 1) es.flatten d))) ∧
         (es ≠ [] → ∀ st, bufferFault .notPermitted d ch r = some st →
           Becomes (.queueRecoveryRead ch r) s (answer (mkJob spec0230 ch r d) st [] d))))) ∧
  (∀ (w : RegWrite) (s : State), w.master = 1 → w.len = 8 → w.off = 13 * 2048 + 0x208 →
     let c := s.dev.regField isl.QDE 0x200 6 0
     let low := fld w.value 7 0
     let high := fld w.value 15 8
     (¬ (low ≤ 127 ∧ low + 1 ≤ high ∧ high ≤ 128) → Becomes (.dmaCfgWrite w) s (count .dmaCfgReject 0 s.dev)) ∧
     (low ≤ 127 → low + 1 ≤ high → high ≤ 128 →
       let e := s.dev.setDma c { s.dev.dma c with pendLow := some low, pendHigh := some high }
       Becomes (.dmaCfgWrite w) s e ∧ e.dmaCfgShown = mk64 [low, at' high 8] ∧
       ((evalFill c e).dma c).low = low ∧ ((evalFill c e).dma c).high = high ∧ ((evalFill c e).dma c).pendLow = none ∧
       (e.dmaFill c ≤ low → ((evalFill c e).dma c).fetching = true) ∧ (low < e.dmaFill c → high ≤ e.dmaFill c → ((evalFill c e).dma c).fetching = false)))

/-- R251, R252, R254, Table 7-3: how a port moves between its states; an event in another state changes nothing. R247, R249, R256, R268 to R270, Table
7-9: the port commands. That MAX 0 of PORT_TX_TIMESTAMPS stands for 64 is the model's choice (log 41). -/
def Obligations.EthernetPorts : Prop :=
  (∀ (p lane : Nat) (s : State), p < 64 → lane < 8 →
     let x := s.dev.eport p
     let goes := fun (st : PortState) => s.dev.setEport p { x with state := st }
     (x.state = .negotiating → Becomes (.autonegotiationEnd p true) s (goes .training) ∧ Becomes (.autonegotiationEnd p false) s (count .macAnFail p s.dev)) ∧
     (x.state = .training → Becomes (.trainingEnd p true) s (goes .locking) ∧
       Becomes (.trainingEnd p false) s (count .macTrainFail p (goes (if cfgAn x then .negotiating else .training)))) ∧
     (x.state = .locking → Ends (.lockAchieved p) s (fun d => (d.eport p).state = .up ∧ (d.eport p).rx = x.rx ∧ (∀ q, q ≠ p → d.eport q = s.dev.eport q) ∧
         (pausable x = [] → d = goes .up)) ∧ Becomes (.lockTimeout p) s (goes (if cfgMedium x = 2 then .locking else .training))) ∧
     (x.state = .up → Ends (.linkLost p lane) s (fun d => (d.eport p).state = (if cfgMedium x = 2 then .locking else if cfgAn x then .negotiating else .training) ∧
       (d.eport p).w0 = x.w0 ∧ (d.eport p).w1 = x.w1 ∧ (d.eport p).rx = x.rx ∧ (∀ q, q ≠ p → d.eport q = s.dev.eport q) ∧
       d.counter .macLinkDown p = s.dev.counter .macLinkDown p + 1 ∧
       d.mgt.faults.getLast?.map (fun f => (f.code, f.detail2)) = some (0x0601, mk64 [p, at' (PortState.code (firstState x)) 8, at' lane 16]))) ∧
     (x.state ≠ .negotiating → Becomes (.autonegotiationEnd p true) s s.dev ∧ Becomes (.autonegotiationEnd p false) s s.dev) ∧
     (x.state ≠ .training → Becomes (.trainingEnd p true) s s.dev ∧ Becomes (.trainingEnd p false) s s.dev) ∧
     (x.state ≠ .locking → Becomes (.lockAchieved p) s s.dev ∧ Becomes (.lockTimeout p) s s.dev) ∧
     (x.state ≠ .up → Becomes (.linkLost p lane) s s.dev)) ∧
  (∀ (ch : Nat) (r : Req) (s : State) (d : Dev), cmdWf ch r = true →
     let w := r.word 0
     (Accepted spec0300 ch r s.dev d →
       let o := fld w 2 0
       let m := fld w 11 8
       (8 < m → Becomes (.portOctetMode ch r) s (answer (mkJob spec0300 ch r d) .badArgument [] d)) ∧
       (m ≤ 8 → octetBusy d o = true → Becomes (.portOctetMode ch r) s (answer (mkJob spec0300 ch r d) .busy [] d)) ∧
       (m ≤ 8 → octetBusy d o = false → m = d.octetMode o → Becomes (.portOctetMode ch r) s (answer (mkJob spec0300 ch r d) .alreadyComplete [] d)) ∧
       (m ≤ 8 → octetBusy d o = false → m ≠ d.octetMode o → ∀ e, Recorded spec0300 ch r o [] d e → Ends (.portOctetMode ch r) s (fun t =>
         t.octetMode o = m ∧ (∀ p ∈ octetPorts o m, t.eport p = newPort p m) ∧ (∀ p, p / 8 ≠ o → t.eport p = d.eport p) ∧
         (∀ p ∈ octetPorts o (d.octetMode o), p ∉ octetPorts o m → t.eport p = EthPort.none)))) ∧
     (Accepted spec0301 ch r s.dev d →
       let p := fld w 5 0
       let x := d.eport p
       (portCfgOk d p w (r.word 1) = false → Becomes (.portConfig ch r) s (answer (mkJob spec0301 ch r d) .badArgument [] d)) ∧
       (portCfgOk d p w (r.word 1) = true → octetBusy d (p / 8) = true → Becomes (.portConfig ch r) s (answer (mkJob spec0301 ch r d) .busy [] d)) ∧
       (portCfgOk d p w (r.word 1) = true → octetBusy d (p / 8) = false → ∀ e, Recorded spec0301 ch r p [] d e → Ends (.portConfig ch r) s (fun t =>
         (t.eport p).w0 = w ∧ (t.eport p).w1 = r.word 1 ∧ (∀ q, q ≠ p → t.eport q = d.eport q) ∧
         (bit w 8 = false → (t.eport p).state = .adminDown) ∧
         (bit w 8 = true → x.state = .adminDown → (t.eport p).state = (if fld w 10 9 = 2 then .locking else if bit w 13 then .negotiating else .training)) ∧
         (bit w 8 = true → x.state ≠ .adminDown → fld w 10 9 = cfgMedium x → fld w 12 11 = cfgFec x → bit w 13 = cfgAn x → (t.eport p).state = x.state) ∧
         (bit w 8 = true → x.state ≠ .adminDown → (fld w 10 9 ≠ cfgMedium x ∨ fld w 12 11 ≠ cfgFec x ∨ bit w 13 ≠ cfgAn x) →
           (t.eport p).state = (if fld w 10 9 = 2 then .locking else if bit w 13 then .negotiating else .training) ∧
           (x.state = .up → t.mgt.faults.getLast?.map (fun f => (f.code, f.detail2)) = some (0x0601, mk64 [p, at' 1 8])))))) ∧
     (Accepted spec0302 ch r s.dev d →
       let p := fld w 5 0
       ((d.eport p).state ≠ .none → octetBusy d (p / 8) = true → Becomes (.portQuery ch r) s (answer (mkJob spec0302 ch r d) .busy [] d)) ∧
       ((d.eport p).state ≠ .none → octetBusy d (p / 8) = false → Becomes (.portQuery ch r) s
         (answer (mkJob spec0302 ch r d) .ok [portStateWord d p, (d.eport p).w0, (d.eport p).w1] d)) ∧
       ((d.eport p).state = .none → Becomes (.portQuery ch r) s (answer (mkJob spec0302 ch r d) .badArgument [] d))) ∧
     (Accepted spec0303 ch r s.dev d →
       let p := fld w 5 0
       let x := d.eport p
       let n := if fld w 13 8 = 0 then 64 else fld w 13 8
       (x.state = .none ∨ fld (r.word 1) 2 0 ≠ 0 → Becomes (.portTxTimestamps ch r) s (answer (mkJob spec0303 ch r d) .badArgument [] d)) ∧
       (x.state ≠ .none → fld (r.word 1) 2 0 = 0 → octetBusy d (p / 8) = true →
         Becomes (.portTxTimestamps ch r) s (answer (mkJob spec0303 ch r d) .busy [] d)) ∧
       (x.state ≠ .none → fld (r.word 1) 2 0 = 0 → octetBusy d (p / 8) = false →
         (bufferFault .timeout d ch r = none →
           Becomes (.portTxTimestamps ch r) s (answer (mkJob spec0303 ch r d) .ok [BitVec.ofNat 64 (x.tsFifo.take n).length]
             (bufferWrite ch (r.word 1) (wordsBytes ((x.tsFifo.take n).flatMap (fun e => [e.1, e.2]))) (d.setEport p { x with tsFifo := x.tsFifo.drop n })))) ∧
         (∀ st, bufferFault .timeout d ch r = some st →
           (x.tsFifo = [] → Becomes (.portTxTimestamps ch r) s (answer (mkJob spec0303 ch r d) .ok [0] d)) ∧
           (x.tsFifo ≠ [] → Becomes (.portTxTimestamps ch r) s (answer (mkJob spec0303 ch r d) st [] d))))) ∧
     (Accepted spec0304 ch r s.dev d → octetBusy d (fld w 2 0) = true → Becomes (.portLanePolarity ch r) s (answer (mkJob spec0304 ch r d) .busy [] d)) ∧
     (Accepted spec0304 ch r s.dev d → octetBusy d (fld w 2 0) = false → ∀ e, Recorded spec0304 ch r (fld w 2 0) [] d e →
       Becomes (.portLanePolarity ch r) s { e with eth := { e.eth with polarity := SMap.put 0 e.eth.polarity (fld w 2 0) (BitVec.ofNat 16 (fld w 23 8)) } }))

/-- R257 to R263, R265, Table 7-4: a frame that a port receives is dropped in the counter of the first condition it meets, or waits in the receive
buffer; the head of the buffer goes to its distributor once that accepts it; pauses are taken, run out and are repeated; and a frame for
transmission is sent padded with its FCS, or discarded. That the FCS is the CRC-32 of IEEE 802.3 is taken from outside the spec (log 40). -/
def Obligations.FramesAndPauses : Prop :=
  (∀ (p : Nat) (bs : List Byte) (sfd : Time) (code preamble fcs : Bool) (s : State), p < 64 → Wf.ethFrameReceived p bs sfd code preamble fcs [] = true →
    let t := reach sfd s.dev
    let x := s.dev.eport p
    let n := bs.length + 4
    let run := fun d => Becomes (.ethFrameReceived p bs sfd code preamble fcs []) s d
    (x.state ≠ .up → run s.dev) ∧
    (x.state = .up →
      (code = true ∨ preamble = true → run (count .macRxBad p (count .macRxCode p t))) ∧
      (code = false → preamble = false →
        (n < 64 → run (count .macRxBad p (count .macRxRunt p t))) ∧
        (64 ≤ n → cfgMaxFrame x < n → run (count .macRxBad p (count .macRxOversize p t))) ∧
        (64 ≤ n → n ≤ cfgMaxFrame x →
          (fcs = true → run (count .macRxBad p (count .macRxFcs p t))) ∧
          (fcs = false → be16 bs 12 = 0x8808 → controlKind x bs = none → run (count .macRxBad p (count .macRxOdd p t))) ∧
          (fcs = false → be16 bs 12 ≠ 0x8808 → s.dev.rxCells p < rxFill x + rxCellsOf bs → run (count .macRxOverflow p t)) ∧
          (fcs = false → be16 bs 12 ≠ 0x8808 → rxFill x + rxCellsOf bs ≤ s.dev.rxCells p →
            run (pauseCheck p (t.setEport p { x with rx := x.rx ++ [(sfd, bs)] }))))))) ∧
  (∀ (p : Nat) (sfd : Time) (bs : List Byte) (rest : List (Time × List Byte)) (s : State), p < 64 → (s.dev.eport p).rx = (sfd, bs) :: rest →
    let d := if p < 32 then 0 else 1
    let sl := BitVec.ofNat 12 (defaultSlice s.dev p bs)
    let ok := distAccepts s.dev d (flowHash sl bs) ((bs.length + 32 + 255) / 256)
    let x := s.dev.eport p
    let full := bucketFull s.dev d (flowHash sl bs) ((bs.length + 32 + 255) / 256)
    (ok = false → x.rxRefused = true ∨ full = false → Becomes (.ethFrameToDistributor p) s s.dev) ∧
    (ok = false → x.rxRefused = false → full = true →
      Becomes (.ethFrameToDistributor p) s (count .distHoldFull d (s.dev.setEport p { x with rxRefused := true }))) ∧
    (ok = true → Becomes (.ethFrameToDistributor p) s (pauseCheck p (tagAndQueue d sl p sfd bs id
      (countBy .macRxBytes p (bs.length + 4) (count .macRxFrames p (s.dev.setEport p { x with rx := rest, rxRefused := false }))))))) ∧
  (∀ (p k : Nat) (qs : List Nat) (s : State), Wf.pauseFrameReceived p false 0 qs = true → k < 8 → (s.dev.eport p).state = .up →
    cfgFlow (s.dev.eport p) = 1 →
    let q := qs.getD 0 0
    Ends (.pauseFrameReceived p false 0 qs) s (fun d =>
      (d.eport p).pausedByPeer = (if q = 0 then 0 else 0xFF) ∧ d.counter .macRxPause p = s.dev.counter .macRxPause p + 1 ∧
      (q ≠ 0 → SMap.get 0 (d.eport p).pauseEnd k = s.dev.now.plus (q * 512 / s.dev.portRate p)) ∧ (∀ j, j ≠ p → d.eport j = s.dev.eport j))) ∧
  (∀ (p k : Nat) (s : State), p < 64 → k < 8 →
    ((s.dev.eport p).pausedByPeer.getLsbD k = true → Ends (.pauseExpiry p k) s (fun d => (d.eport p).pausedByPeer.getLsbD k = false ∧
      (∀ j, j ≠ p → d.eport j = s.dev.eport j))) ∧
    ((s.dev.eport p).pausedByPeer.getLsbD k = false → Becomes (.pauseExpiry p k) s s.dev)) ∧
  (∀ (p : Nat) (s : State), p < 64 →
    let m := (s.dev.eport p).pausingPeer
    (m = 0 → Becomes (.pauseRefresh p) s s.dev) ∧
    (m ≠ 0 → Becomes (.pauseRefresh p) s (count .macTxPause p (emit (.pauseFrame p m (cfgFlow (s.dev.eport p) == 2) 0xFFFF) s.dev)))) ∧
  (∀ (p : Nat) (begun : Bool) (k : Pkt) (rest : List Pkt) (s : State), p < 64 → (s.dev.eport p).tx = k :: rest → k.tag.flag 0 = false →
    let x := s.dev.eport p
    let t := s.dev.setEport p { x with tx := rest }
    let bs := padded k.bytes
    let stomped := logFault (ethIsland p) 0xFF 0x0602 0 (BitVec.ofNat 64 p) 0 (count .macTxStomped p t)
    (60 ≤ bs.length ∧ bs.take k.bytes.length = k.bytes) ∧
    (x.state ≠ .up → Becomes (.frameTransmit p begun) s (count .macTxDownDrop p t)) ∧
    (x.state = .up → k.poisoned = true → Becomes (.frameTransmit p begun) s
      (if begun then emit (.ethFrame p bs (~~~(fcsOf bs)) true) stomped else stomped)) ∧
    (x.state = .up → k.poisoned = false → cfgMaxFrame x < bs.length + 4 → Becomes (.frameTransmit p begun) s (count .macTxOversize p t)) ∧
    (x.state = .up → k.poisoned = false → bs.length + 4 ≤ cfgMaxFrame x → cfgPtp x = 0 → Becomes (.frameTransmit p begun) s
      (meterPacket k.tag.slice.toNat 8 k.tag (countBy .macTxBytes p (bs.length + 4) (count .macTxFrames p (emit (.ethFrame p bs (fcsOf bs) false) t))))))

/-- R34, R273 to R276, R279, R281 to R288: what one instruction and one pass may do, and that a lane start runs the pass of the packet that the arbiter
takes. R285: a word with an uncorrectable error drops the packet that reads it, is counted and logged, and stays bad until it has been rewritten in
every control store; a rewrite that fails is logged; a scrub counts the words it corrects. -/
def Obligations.ParserAndControlStores : Prop :=
  ((∀ p : Pkt, windowStart p ≤ 256 ∧ (p.tag.pass = 0 → windowStart p = 0)) ∧
   (∀ (w : BitVec 256) (p : Pkt) (ws pc next : Nat) (x y : PassState), runWord w p ws pc x = .inr (y, next) →
     y.cursor = x.cursor + mwAdvance w p (ws + x.cursor) (windowEnd ws) ∧ ws + y.cursor ≤ windowEnd ws ∧ ws + x.cursor + mwFurthest w ≤ windowEnd ws ∧
     y.ps.stack = (if mw w 68 68 = 1 then x.ps.stack ++ [(BitVec.ofNat 8 (mw w 67 60), ws + x.cursor)] else x.ps.stack) ∧
     (mw w 68 68 = 1 → x.ps.stack.length < 12) ∧
     y.ps.scratch = (x.ps.scratch &&& ~~~(BitVec.ofNat 4 (mw w 39 36))) ||| BitVec.ofNat 4 (mw w 43 40) ∧
     (mw w 59 59 = 1 → mw w 44 44 = 1 →
       ws + x.cursor + (mw w 52 45 + frame16 p (ws + x.cursor + mw w 58 53)) ≤ p.tag.length.toNat ∧
       mwAdvance w p (ws + x.cursor) (windowEnd ws) ≤ mw w 52 45 + frame16 p (ws + x.cursor + mw w 58 53))) ∧
   (∀ (w : BitVec 256) (p : Pkt) (ws pc : Nat) (x : PassState), windowEnd ws < ws + x.cursor + Nat.max (mwAdvance w p (ws + x.cursor) (windowEnd ws)) (mwFurthest w) →
     runWord w p ws pc x = .inl (if mwAdvance w p (ws + x.cursor) (windowEnd ws) ≤ 64 ∧ windowEnd ws < 256 ∧ 0 < x.cursor ∧ p.tag.pass ≠ 3 then .again pc true
       else .flagged 4 pc)) ∧
   (∀ (im : Image) (bad : List Nat) (errs : List (Nat × Bool)) (p : Pkt) (ws n pc : Nat) (x y : PassState) (e : PassEnd),
     runPass im bad errs p ws n pc x = (e, y) → ws + x.cursor ≤ windowEnd ws → x.ps.stack.length ≤ 12 →
     ws + y.cursor ≤ windowEnd ws ∧ y.ps.stack.length ≤ 12 ∧ (∀ a sp, e = .again a sp → p.tag.pass ≠ 3) ∧ (∀ f a, e = .flagged f a → f = 4 ∨ f = 5) ∧
     (∀ a, e = .lost a → bad.contains (256 * im.baseSeg + a) = true ∨ errs.contains (256 * im.baseSeg + a, true) = true)) ∧
   (∀ (k : Nat) (errs : List (Nat × Bool)) (s : State) (d : Dev) (p : Pkt) (returned : Bool), Wf.parserPass k errs = true → arbiter k s.dev = some (p, returned, d) →
     p.marker = none →
     (p.tag.flag 2 = true → Becomes (.parserPass k errs) s (post (pipeIsland k) isl.TMG p d)) ∧
     (p.tag.flag 2 = false → returned = true → p.tag.pass = 3 → Becomes (.parserPass k errs) s (count .prsPassOverrun k (dropPkt (pipeIsland k) p d))) ∧
     (p.tag.flag 2 = false → ¬ (returned = true ∧ p.tag.pass = 3) → Becomes (.parserPass k errs) s
       (passOf k errs (beginPass returned (parseAfresh p)) (whenB returned (count .prsReturns k) (count .prsPasses k d))))) ∧
   (∀ (k : Nat) (errs : List (Nat × Bool)) (s : State), Wf.parserPass k errs = true → arbiter k s.dev = none → Becomes (.parserPass k errs) s s.dev) ∧
   (∀ (k : Nat) (d : Dev), (∀ p q, (d.pipe k).recirc = p :: q → arbiter k d = some (p, false, d.setPipe k { d.pipe k with recirc := q })) ∧
     (∀ p q, (d.pipe k).recirc = [] → (d.pipe k).returns = p :: q → arbiter k d = some (p, true, d.setPipe k { d.pipe k with returns := q })) ∧
     (∀ p q, (d.pipe k).recirc = [] → (d.pipe k).returns = [] → (d.pipe k).input = p :: q →
       arbiter k d = some (p, false, d.setPipe k { d.pipe k with input := q })))) ∧
  ((∀ (k a : Nat) (p : Pkt) (im : Image) (x : PassState) (d : Dev), a = 256 * im.baseSeg → x.corrected = 0 → p.tag.flag 0 = false → ∀ ws pc,
     let e := finishPass k (some im) p ws (.lost pc) x d
     (e.pipe k).badWords.contains (a + pc) = true ∧ e.counter .prsCsUe k = d.counter .prsCsUe k + 1 ∧
     (∀ j, j ≠ k → (e.pipe j).badWords = (d.pipe j).badWords) ∧ (e.pipe k).parsed = (d.pipe k).parsed ∧ (e.pipe k).recirc = (d.pipe k).recirc ∧
     e.mgt.faults.getLast?.map (fun f => (f.code, f.detail2)) = some (0x0802, mk64 [k, at' (a + pc) 3, at' p.tag.vslot.toNat 15])) ∧
   (∀ (k a : Nat) (s : State), Wf.csWordRewrite k a true = true → (s.dev.pipe k).badWords.contains a = true →
     Ends (.csWordRewrite k a true) s (fun d => (∀ j, j < 8 → (d.pipe j).badWords = (s.dev.pipe j).badWords.filter (fun w => decide (w ≠ a))) ∧
       d = { s.dev with rules := d.rules }) ∧
     Ends (.csWordRewrite k a false) s (fun d => d.rules = s.dev.rules ∧
       d.mgt.faults.getLast?.map (fun f => f.code) = some 0x0803)) ∧
   (∀ (k a : Nat) (ok : Bool) (s : State), Wf.csWordRewrite k a ok = true → (s.dev.pipe k).badWords.contains a = false → Becomes (.csWordRewrite k a ok) s s.dev) ∧
   (∀ (k : Nat) (errs : List (Nat × Bool)) (s : State), Wf.scrubRound k errs = true →
     let t := applyBoundary .scrubRound (pipeIsland k) s.dev
     (t.regField (pipeIsland k) 0x008 0 0 = 0 → Becomes (.scrubRound k errs) s t) ∧
     (t.regField (pipeIsland k) 0x008 0 0 = 1 → Ends (.scrubRound k errs) s (fun d =>
       d.counter .prsCsCorrected k = t.counter .prsCsCorrected k + BitVec.ofNat 64 (errs.filter (fun e => !e.2)).length ∧
       (∀ a, (a, true) ∈ errs → (d.pipe k).badWords.contains a = true) ∧ (∀ j, j ≠ k → d.pipe j = t.pipe j)))))

/-- R290 to R295, R297, Table 8-8: the parser commands. -/
def Obligations.ParserCommands : Prop :=
  ∀ (ch : Nat) (r : Req) (s : State) (d : Dev) (k : Nat), cmdWf ch r = true →
    let v := reqVersion r
    (Accepted spec0400 ch r s.dev d →
      (r.indirect = false → Becomes (.parserImageLoad ch r) s (answer (mkJob spec0400 ch r d) .badArgument [] d)) ∧
      (r.indirect = true → d.buildSlot v = none → d.committing v = false →
        Becomes (.parserImageLoad ch r) s (answer (mkJob spec0400 ch r d) .versionConflict [] d)) ∧
      (r.indirect = true → d.committing v = true → Becomes (.parserImageLoad ch r) s (answer (mkJob spec0400 ch r d) .busy [] d)) ∧
      (r.indirect = true → Builds v k d →
        let raw := r.words.drop 1
        (∀ reason w, imageReason raw (r.payloadLen.toNat - 8) = some (reason, w) →
          Becomes (.parserImageLoad ch r) s (answer (mkJob spec0400 ch r d) .badArgument [loadWord reason w 0] d)) ∧
        (imageReason raw (r.payloadLen.toNat - 8) = none → imageAuth d raw = false →
          Becomes (.parserImageLoad ch r) s (answer (mkJob spec0400 ch r d) .authFailed [] d)) ∧
        (imageReason raw (r.payloadLen.toNat - 8) = none → imageAuth d raw = true → Jnl.takes d.jnl 1 (recLines r.payloadLen.toNat) = false →
          Becomes (.parserImageLoad ch r) s (answer (mkJob spec0400 ch r d) .noResource [] (jnlRefused (recLines r.payloadLen.toNat) d))) ∧
        (imageReason raw (r.payloadLen.toNat - 8) = none → imageAuth d raw = true → Jnl.takes d.jnl 1 (recLines r.payloadLen.toNat) = true →
          (placeImage k raw d = none → Becomes (.parserImageLoad ch r) s (answer (mkJob spec0400 ch r d) .noResource [] d)) ∧
          (∀ e, placeImage k raw d = some e → e.buildSlot v = some k →
            Becomes (.parserImageLoad ch r) s (answer (mkJob spec0400 ch r d) .ok
              [loadWord 0 0 (((e.slot k).rules.image.map Image.baseSeg).getD 0)] (recordChange (.image raw) e)))))) ∧
    (Accepted spec0401 ch r s.dev d → r.indirect = true → Builds v k d →
      let first := fld (r.word 1) 3 0
      let n := fld (r.word 1) 8 4
      let level := fld (r.word 1) 23 16
      1 ≤ n → n ≤ 16 → r.payloadLen.toNat = 16 + 8192 * n + 96 →
        ((d.slot k).rules.image = none → Becomes (.parserImagePatch ch r) s (answer (mkJob spec0401 ch r d) .badArgument [] d)) ∧
        (∀ im, (d.slot k).rules.image = some im →
          (Image.segs im < first + n ∨ level ≤ im.patch.toNat → Becomes (.parserImagePatch ch r) s (answer (mkJob spec0401 ch r d) .badArgument [] d)) ∧
          (first + n ≤ Image.segs im → im.patch.toNat < level → ∀ e st ws,
            loadImage v (patchedRaw im first n level (r.words.drop 2)) (8 * (patchedRaw im first n level (r.words.drop 2)).length) r d = (e, some (st, ws)) →
            Becomes (.parserImagePatch ch r) s (answer (mkJob spec0401 ch r d) st ws e)))) ∧
    (Accepted spec0402 ch r s.dev d → Builds v k d →
      let sl := fld (r.word 1) 11 0
      let inc := fld (r.word 1) 17 16
      let mal := fld (r.word 1) 19 18
      (inc = 3 ∨ mal = 3 → Becomes (.parserPolicy ch r) s (answer (mkJob spec0402 ch r d) .badArgument [] d)) ∧
      (inc ≠ 3 → mal ≠ 3 → Ends (.parserPolicy ch r) s (fun e => ∃ t, e = answer (mkJob spec0402 ch r d) .ok [] t ∧
        slotPolicy t k sl = ⟨BitVec.ofNat 2 inc, BitVec.ofNat 2 mal⟩ ∧ (∀ m, m ≠ sl → slotPolicy t k m = slotPolicy d k m) ∧
        (∀ j, j ≠ k → t.slot j = d.slot j)))) ∧
    (Accepted spec0403 ch r s.dev d →
      let j := fld (r.word 0) 2 0
      ((d.slot j).state = .free → Becomes (.parserQuery ch r) s (answer (mkJob spec0403 ch r d) .badArgument [] d)) ∧
      ((d.slot j).state ≠ .free → Becomes (.parserQuery ch r) s
        (answer (mkJob spec0403 ch r d) d.readStatus (csVersionWord d j :: digestWords (csDigest d j)) d))) ∧
    (Accepted spec0404 ch r s.dev d →
      let sl := fld (r.word 0) 11 0
      let j := fld (r.word 0) 14 12
      ((d.slot j).state = .free → 4096 ≤ ch ∨ ch = sl → Becomes (.parserPolicyQuery ch r) s (answer (mkJob spec0404 ch r d) .badArgument [] d)) ∧
      (ch < 4096 → ch ≠ sl → Becomes (.parserPolicyQuery ch r) s (answer (mkJob spec0404 ch r d) .notPermitted [] d)) ∧
      ((d.slot j).state ≠ .free → 4096 ≤ ch ∨ ch = sl → Becomes (.parserPolicyQuery ch r) s (answer (mkJob spec0404 ch r d) d.readStatus
        [mk64 [(slotPolicy d j sl).incomplete.toNat, at' (slotPolicy d j sl).malformed.toNat 2]] d)))

/-- R314 to R318: closing an entry in a build, giving the build up, and the sweep leave what every version that keeps its slot finds as it is. R329 to
R331: which route a slot's look-up answers, and what one slot's column leaves alone. -/
def Obligations.VersionedTables : Prop :=
  (∀ (s : Dev) (k t : Nat) (key : List Byte), k < 8 → (∀ u, SMap.rising (s.places u).onchip = true ∧ SMap.rising (s.places u).ext = true) →
     (∀ (v : Version) (closed : List Byte), Version.later v (s.slot k).version = true →
       (∀ m ∈ [(s.places t).onchip, (s.places t).ext, (s.places t).stash], ∀ e ∈ SMap.entries m, Entry.is closed v e.2 = true → e.2.isOpen = true) →
       (lookup (closeEntry t closed v s) k t key).hit.map Prod.snd = (lookup s k t key).hit.map Prod.snd ∧
       (lookup (closeEntry t closed v s) k t key).hit.map (fun x => (x.1.key, x.1.act, x.1.vfrom)) =
         (lookup s k t key).hit.map (fun x => (x.1.key, x.1.act, x.1.vfrom))) ∧
     (∀ (v : Version), Version.later v (s.slot k).version = true →
       (lookup (unbuildEntries v s) k t key).hit.map (fun x => (x.1.key, x.1.act, x.1.vfrom, x.2)) =
         (lookup s k t key).hit.map (fun x => (x.1.key, x.1.act, x.1.vfrom, x.2))) ∧
     ((s.slot k).state ≠ .free → ∀ ext, (lookup (entrySweep ext s) k t key).hit = (lookup s k t key).hit) ∧
     (∀ ext, Becomes (.entrySweep ext) ⟨s, []⟩ (entrySweep ext s))) ∧
  (∀ (s : Dev) (v6 : Bool) (vrf : Nat) (a : BitVec 128) (k : Nat), k < 8 →
     let fits : Route → Prop := fun r => r.v6 = v6 ∧ r.vrf.toNat = vrf ∧ r.slots.getLsbD k = true ∧ prefixMatch r a = true
     (lpmLookup s k v6 vrf a = none ↔ ∀ e ∈ SMap.entries s.rules.routes, ¬ fits e.2) ∧
     (∀ r, lpmLookup s k v6 vrf a = some r → fits r ∧
       ((SMap.entries s.rules.routes).Pairwise (fun x y => x.2.v6 = y.2.v6 → y.2.len ≤ x.2.len) →
         ∀ e ∈ SMap.entries s.rules.routes, fits e.2 → e.2.len ≤ r.len)) ∧
     (∀ b, b < 8 → b ≠ k →
       (lpmLookup (clearColumn b s) k v6 vrf a).map Route.act = (lpmLookup s k v6 vrf a).map Route.act ∧
       (lpmLookup (copyColumn k b s) b v6 vrf a).map Route.act = (lpmLookup s k v6 vrf a).map Route.act ∧
       (lpmLookup (copyColumn k b s) k v6 vrf a).map Route.act = (lpmLookup s k v6 vrf a).map Route.act ∧
       (∀ g vr ad len, (lpmLookup (dropRoute g vr ad len b s) k v6 vrf a).map Route.act = (lpmLookup s k v6 vrf a).map Route.act)) ∧
     lpmLookup (clearColumn k s) k v6 vrf a = none)

/-- R26, R301 to R311, R317, R320: the order in which packets enter classification, the wait for GDDR7 lines, a look-up that meets a lost entry or line,
and what each final action does. -/
def Obligations.Classification : Prop :=
  (∀ (k : Nat) (s : State) (pre : List Pkt) (p : Pkt) (post : List Pkt), Wf.classification k none = true → (s.dev.pipe k).parsed = pre ++ p :: post →
    (∀ q ∈ pre, bucketWaits (s.dev.pipe k) q = true) → bucketWaits (s.dev.pipe k) p = false →
    Becomes (.classification ⟨k, none⟩) s (classify k p 0 (s.dev.setPipe k { s.dev.pipe k with parsed := pre ++ post }))) ∧
  (∀ (k : Nat) (s : State), Wf.classification k none = true → (∀ q ∈ (s.dev.pipe k).parsed, bucketWaits (s.dev.pipe k) q = true) →
    Becomes (.classification ⟨k, none⟩) s s.dev) ∧
  (∀ (k t i : Nat) (s : State) (d : Dev), Wf.classification k (some (t, i)) = true →
    Becomes (.classification ⟨k, none⟩) { s with dev := meetBadEntry t i s.dev } d → Becomes (.classification ⟨k, some (t, i)⟩) s d) ∧
  (∀ (k : Nat) (p : Pkt) (n : Nat) (d : Dev), k < 8 →
    (∀ v, classifyRun d k p n = .ok v → classify k p n d = settle k (!p.ps.bound) v d) ∧
    (∀ t sl lines, classifyRun d k p n = .error (.waits t sl lines) →
      (classify k p n d).pipe k = { d.pipe k with waiting := (d.pipe k).waiting ++ [⟨t, n, p⟩] } ∧ (∀ j, j ≠ k → (classify k p n d).pipe j = d.pipe j)) ∧
    (∀ t i c, classifyRun d k p n = .error (.lost t i c) →
      (∀ j, (classify k p n d).pipe j = d.pipe j) ∧
      (classify k p n d).mgt.faults.getLast?.map (fun f => (f.code, f.detail2)) = some (0x0902, mk64 [lo 4 t, at' (lo 32 i) 8]))) ∧
  (∀ (k : Nat) (s : State) (w : WaitRead) (rest : List WaitRead), Wf.extTableReadResponse k false = true → (s.dev.pipe k).waiting = w :: rest →
    let d := s.dev.setPipe k { s.dev.pipe k with waiting := rest }
    Becomes (.extTableReadResponse k false) s (classify k w.pkt (w.reads + 1) d) ∧
    Becomes (.extTableReadResponse k true) s (workBad w.pkt (count .xingPktDrop (pipeIsland k) (dropPkt (pipeIsland k) w.pkt d)))) ∧
  (∀ (s : Dev) (a : Action) (p : Pkt) (c : Cx),
    (a.kind = 1 → s.egressOk a.egress = true → (actionDest s a p c).2.1 = some (.port a.egress) ∧
      (actionDest s a p c).1.tag.queue = BitVec.ofNat 18 (if 72 ≤ a.egress ∧ a.egress ≤ 74 then a.queue else a.queue % 65536)) ∧
    (a.kind = 1 → s.egressOk a.egress = false → actionDest s a p c = (p, none, c.add .fwdBadEgress)) ∧
    (a.kind = 2 → a.node = s.str.node → actionDest s a p c = (p, none, c.add .fwdBadEgress)) ∧
    (a.kind = 2 → a.node ≠ s.str.node → (actionDest s a p c).2.1 = some (.node a.node)) ∧
    (a.kind = 5 → (actionDest s a p c).2.1 = some (.program a.arg)) ∧
    (a.kind = 6 → (actionDest s a p c).2.1 = some .recirc ∧ (actionDest s a p c).1.ps.plan = some a.plan ∧ (actionDest s a p c).1.ps.entryIdx = a.entry) ∧
    (a.kind = 9 → (actionDest s a p c).2.1 = some .exception) ∧
    (a.kind = 10 → actionDest s a p c = (p, none, c.add .clsActionDrop))) ∧
  (∀ (k : Nat) (s : Dev) (p : Pkt),
    (p.tag.pass = 3 → handOff k p .recirc s = count .prsPassOverrun k (dropPkt (pipeIsland k) p s)) ∧
    (p.tag.pass ≠ 3 → ∃ q, (handOff k p .recirc s).pipe k = { s.pipe k with recirc := (s.pipe k).recirc ++ [q] } ∧
      q.tag.pass = p.tag.pass + 1 ∧ q.bytes = p.bytes)) ∧
  (∀ (s : Dev) (k : Nat) (p : Pkt) (reads : Nat) (v : Verdict), classifyRun s k p reads = .ok v →
    v.pkt.bytes = p.bytes ∧ v.pkt.tag.originNode = p.tag.originNode ∧ v.pkt.tag.ingress = p.tag.ingress ∧ v.pkt.tag.entryTime = p.tag.entryTime ∧
    v.pkt.tag.vslot = p.tag.vslot ∧ v.pkt.tag.pass = p.tag.pass ∧ (72 ≤ p.tag.ingress.toNat ∨ p.ps.bound = true →
      v.pkt.tag.slice = p.tag.slice))

/-- R324 to R328: learning, moves, flapping, the end of a hold, ageing, and L2_FLUSH. -/
def Obligations.LearnedEntries : Prop :=
  (∀ (k : Nat) (s : State) (e : LearnEvent) (rest : List LearnEvent), Wf.learnEvent k = true → (s.dev.pipe k).learnQ = e :: rest →
    let d := s.dev.setPipe k { s.dev.pipe k with learnQ := rest }
    let x := slotSegment d e.vslot.toNat e.segment
    let place : Place := ⟨e.port, e.node, e.slice, e.rxQpBase, e.rxQpLog2⟩
    let full := segTenant x = true ∧ segLimit x ≤ learnedUse d k e.segment e.port
    (x.valid = false → Becomes (.learnEvent k) s d) ∧
    (x.valid = true → learnedAt d k e.segment e.mac.toNat = none →
      (full → Becomes (.learnEvent k) s (count .fwdLimitFlood k d)) ∧
      (¬ full → Ends (.learnEvent k) s (fun t => t.counter .fwdLearnFull k = d.counter .fwdLearnFull k + 1 ∧ t.pipe k = d.pipe k ∨
        t.counter .fwdLearns k = d.counter .fwdLearns k + 1 ∧ ∃ l, learnedAt t k e.segment e.mac.toNat = some l ∧ learnedPlace l = place ∧
          l.lastTime = e.time ∧ l.moves = [] ∧ l.flapping = false))) ∧
    (x.valid = true → ∀ l, learnedAt d k e.segment e.mac.toNat = some l → (l.flapping = true → Time.ge d.now l.holdEnd = false) →
      (learnedPlace l = place → Ends (.learnEvent k) s (fun t => learnedAt t k e.segment e.mac.toNat = some { l with lastTime := e.time } ∧ t.ctr = d.ctr)) ∧
      (learnedPlace l ≠ place → full → Becomes (.learnEvent k) s (count .fwdLimitFlood k d)) ∧
      (learnedPlace l ≠ place → ¬ full → l.flapping = true → Becomes (.learnEvent k) s d) ∧
      (learnedPlace l ≠ place → ¬ full → l.flapping = false →
        let recent := l.moves.filter (fun t => decide (Time.since d.now t ≤ segWindow x * 1000000))
        (recent.length < segMoves x → Ends (.learnEvent k) s (fun t => t.counter .fwdMoves k = d.counter .fwdMoves k + 1 ∧
          ∃ n, learnedAt t k e.segment e.mac.toNat = some n ∧ learnedPlace n = place ∧ n.lastTime = e.time ∧ n.moves = d.now :: recent ∧ n.flapping = false)) ∧
        (segMoves x ≤ recent.length → Ends (.learnEvent k) s (fun t =>
          t.mgt.faults.getLast?.map (fun f => (f.code, f.detail3)) = some (0x0A01, BitVec.ofNat 64 e.mac.toNat) ∧
          ∃ n, learnedAt t k e.segment e.mac.toNat = some n ∧ learnedPlace n = learnedPlace l ∧ n.lastTime = l.lastTime ∧ n.flapping = true ∧
            n.holdEnd = d.now.plus (10 * segWindow x * 1000000)))))) ∧
  (∀ (k : Nat) (s : State), Wf.learnEvent k = true → (s.dev.pipe k).learnQ = [] → Becomes (.learnEvent k) s s.dev) ∧
  (∀ (k seg : Nat) (mac : BitVec 48) (s : State), Wf.flapHoldEnd k seg mac = true →
    (∀ l, learnedAt s.dev k seg mac.toNat = some l → l.flapping = true → Ends (.flapHoldEnd k seg mac) s (fun t => Time.ge t.now l.holdEnd = true ∧
      learnedAt t k seg mac.toNat = some { l with flapping := false, moves := [] })) ∧
    ((∀ l, learnedAt s.dev k seg mac.toNat = some l → l.flapping = false) → Becomes (.flapHoldEnd k seg mac) s s.dev)) ∧
  (∀ (s : State), Wf.ageingScan = true → Ends .ageingScan s (fun t => ∀ k, k < 8 →
    (s.dev.regField (pipeIsland k) 0x200 1 1 = 0 → t.pipe k = s.dev.pipe k) ∧
    (s.dev.regField (pipeIsland k) 0x200 1 1 = 1 → SMap.entries (t.pipe k).learned = (SMap.entries (s.dev.pipe k).learned).filter (fun e =>
      (slotSegment s.dev (s.dev.activeSlot.getD 0) e.2.segment).valid && !(Time.later s.dev.now e.2.lastTime &&
        decide (segAge (slotSegment s.dev (s.dev.activeSlot.getD 0) e.2.segment) * 1000000000 < Time.since s.dev.now e.2.lastTime)))) ∧
    (s.dev.regField (pipeIsland k) 0x200 1 1 = 1 → t.counter .fwdAged k = s.dev.counter .fwdAged k +
      BitVec.ofNat 64 ((SMap.entries (s.dev.pipe k).learned).filter (fun e => aged s.dev e.2)).length))) ∧
  (∀ (ch : Nat) (r : Req) (s : State) (d : Dev), cmdWf ch r = true → Accepted spec0521 ch r s.dev d →
    let hit := fun (l : Learned) => (bit (r.word 0) 16 || l.segment == fld (r.word 0) 15 0) &&
      (!bit (r.word 0) 18 || (l.port == fld (r.word 0) 31 24 && l.node == fld (r.word 0) 63 44))
    Ends (.l2Flush ch r) s (fun e => ∃ t, e = answer (mkJob spec0521 ch r d) .ok [BitVec.ofNat 64 ((ownLearned d).filter hit).length] t ∧
      (∀ k, k < 8 → SMap.entries (t.pipe k).learned = (SMap.entries (d.pipe k).learned).filter (fun x => !hit x.2)) ∧ d = { t with rules := d.rules })) ∧
  (∀ a b : Learned, (a.lastTime = b.lastTime → a.port < b.port → wins a b = true ∧ wins b a = false) ∧
    (a.lastTime = b.lastTime → a.port = b.port → a.node < b.node → wins a b = true) ∧
    (Time.later a.lastTime b.lastTime = true → wins a b = true ∧ wins b a = false)) ∧
  (∀ (ch : Nat) (r : Req) (s : State) (d : Dev), cmdWf ch r = true → Accepted spec0520 ch r s.dev d →
    let n := fld (r.word 3) 12 0
    (n = 0 ∨ 4096 < n ∨ fld (r.word 2) 2 0 ≠ 0 → Becomes (.l2Read ch r) s (answer (mkJob spec0520 ch r d) .badArgument [] d)) ∧
    (1 ≤ n → n ≤ 4096 → fld (r.word 2) 2 0 = 0 → bit (r.word 0) 17 = false →
      let all := mergedView ((ownLearned d).filter (fun l => bit (r.word 0) 16 || l.segment == fld (r.word 0) 15 0))
      let es := (all.drop (fld (r.word 1) 31 0)).take n
      (bufferFault .timeout d ch r = none → Becomes (.l2Read ch r) s (answer (mkJob spec0520 ch r d) d.readStatus
        [mk64 [if all.length ≤ fld (r.word 1) 31 0 + n then 0 else fld (r.word 1) 31 0 + n, at' es.length 32]]
        (bufferWrite ch (r.word 2) (wordsBytes (es.flatMap (learnedWords d))) { d with freeCtr := d.freeCtr + 1 }))) ∧
      (∀ st, bufferFault .timeout d ch r = some st →
        (es = [] → Becomes (.l2Read ch r) s (answer (mkJob spec0520 ch r d) d.readStatus [0] { d with freeCtr := d.freeCtr + 1 })) ∧
        (es ≠ [] → Becomes (.l2Read ch r) s (answer (mkJob spec0520 ch r d) st [] { d with freeCtr := d.freeCtr + 1 })))))

/-- R303 to R306, R312 to R315, R319, R323, R329, R331, R334, Table 9-7: the build commands of the tables. -/
def Obligations.TableCommands : Prop :=
  (∀ (ch : Nat) (r : Req) (s : State) (d : Dev) (c : Instr) (sp : CmdSpec), cmdWf ch r = true → Accepted sp ch r s.dev d →
    (c, sp) ∈ [(Instr.tableDefine ch r, spec0510), (.keyProfile ch r, spec0511), (.planSet ch r, spec0512), (.tableInsert ch r, spec0513),
      (.tableDelete ch r, spec0514), (.segmentSet ch r, spec0516), (.portBind ch r, spec0517), (.l2Static ch r, spec0518), (.routeSet ch r, spec0519)] →
    (d.buildSlot (reqVersion r) = none → d.committing (reqVersion r) = false →
      Ends c s (fun e => ∃ st, (st = .badArgument ∨ st = .versionConflict) ∧ e = answer (mkJob sp ch r d) st [] d)) ∧
    (d.committing (reqVersion r) = true → Ends c s (fun e => ∃ st, (st = .badArgument ∨ st = .busy) ∧ e = answer (mkJob sp ch r d) st [] d))) ∧
  (∀ (ch : Nat) (r : Req) (s : State) (d : Dev) (k : Nat), cmdWf ch r = true → Builds (reqVersion r) k d →
    let v := reqVersion r
    (Accepted spec0510 ch r s.dev d →
      let t := fld (r.word 1) 3 0
      let kb := fld (r.word 1) 9 4
      let ext := fld (r.word 2) 4 0
      let df : TableDef := ⟨kb, fld (r.word 1) 54 32, ext⟩
      (kb = 0 ∨ 40 < kb ∨ (ext ≠ 0 ∧ ext < 10) ∨ 27 < ext ∨ (t = 14 ∧ kb ≠ 7) ∨ (t = 15 ∧ kb ≠ 8) →
        Becomes (.tableDefine ch r) s (answer (mkJob spec0510 ch r d) .badArgument [] d)) ∧
      (1 ≤ kb → kb ≤ 40 → ext = 0 ∨ (10 ≤ ext ∧ ext ≤ 27) → (t = 14 → kb = 7) → (t = 15 → kb = 8) →
        (tableHolds d v t = true → Becomes (.tableDefine ch r) s (answer (mkJob spec0510 ch r d) .busy [] d)) ∧
        (tableHolds d v t = false → totalsOk d v t df = false → Becomes (.tableDefine ch r) s (answer (mkJob spec0510 ch r d) .noResource [] d)) ∧
        (tableHolds d v t = false → totalsOk d v t df = true → Ends (.tableDefine ch r) s (fun e => ∃ u, e = answer (mkJob spec0510 ch r d) .ok [] u ∧
          RuleSet.tableDef (u.rules' k) t = df ∧ (∀ o, o ≠ t → RuleSet.tableDef (u.rules' k) o = RuleSet.tableDef (d.rules' k) o) ∧
          (∀ j, j ≠ k → u.slot j = d.slot j) ∧ d = { u with rules := d.rules })))) ∧
    (Accepted spec0511 ch r s.dev d →
      let n := fld (r.word 1) 15 12
      let ps := (List.range n).map (fun i => BitVec.ofNat 16 (fld (r.word (2 + i / 4)) (16 * (i % 4) + 15) (16 * (i % 4))))
      (n = 0 ∨ 10 < n ∨ 13 < fld (r.word 1) 11 8 → Becomes (.keyProfile ch r) s (answer (mkJob spec0511 ch r d) .badArgument [] d)) ∧
      (1 ≤ n → n ≤ 10 → fld (r.word 1) 11 8 ≤ 13 → ps.all pieceOk = true → Ends (.keyProfile ch r) s (fun e => ∃ u,
        e = answer (mkJob spec0511 ch r d) .ok [] u ∧ SMap.get KeyProfile.none (u.rules' k).profiles (fld (r.word 1) 5 0) = ⟨fld (r.word 1) 11 8, ps⟩ ∧
        (∀ j, j ≠ k → u.slot j = d.slot j)))) ∧
    (Accepted spec0512 ch r s.dev d →
      let n := fld (r.word 1) 10 8
      let miss := actionAt r.words 2
      (4 < n ∨ 10 < miss.kind ∨ miss.kind = 0 → Becomes (.planSet ch r) s (answer (mkJob spec0512 ch r d) .badArgument [] d)) ∧
      (n ≤ 4 → miss.kind ≤ 10 → miss.kind ≠ 0 → bit miss.a 63 = false → Ends (.planSet ch r) s (fun e => ∃ u,
        e = answer (mkJob spec0512 ch r d) .ok [] u ∧ SMap.get Plan.none (u.rules' k).plans (fld (r.word 1) 7 0) =
          ⟨true, (List.range n).map (fun i => fld (r.word 1) (6 * i + 21) (6 * i + 16)), miss⟩ ∧ (∀ j, j ≠ k → u.slot j = d.slot j)))) ∧
    (Accepted spec0516 ch r s.dev d →
      (bit (r.word 1) 16 = true → segmentOk (r.word 1) (r.word 2) = false → Becomes (.segmentSet ch r) s (answer (mkJob spec0516 ch r d) .badArgument [] d)) ∧
      (bit (r.word 1) 16 = false ∨ segmentOk (r.word 1) (r.word 2) = true → Ends (.segmentSet ch r) s (fun e => ∃ u,
        e = answer (mkJob spec0516 ch r d) .ok [] u ∧
        slotSegment u k (fld (r.word 1) 15 0) = (if bit (r.word 1) 16 then ⟨true, r.word 1, r.word 2⟩ else Segment.none) ∧
        (∀ n, n ≠ fld (r.word 1) 15 0 → slotSegment u k n = slotSegment d k n) ∧ (∀ j, j ≠ k → u.slot j = d.slot j)))) ∧
    (Accepted spec0517 ch r s.dev d →
      let w := r.word 1
      let port := fld w 27 20
      let key := bindKey (fld w 19 0) port (fld w 39 28) (bit w 40) (fld w 52 41)
      (ingressOk port = false ∨ (port ≤ 71 ∧ fld w 39 28 ≠ 0) ∨ fld (r.word 2) 48 46 = 7 →
        Becomes (.portBind ch r) s (answer (mkJob spec0517 ch r d) .badArgument [] d)) ∧
      (ingressOk port = true → (port ≤ 71 → fld w 39 28 = 0) → fld (r.word 2) 48 46 ≤ 6 →
        (bit w 53 = true → ∀ e, putEntry k 14 key ⟨r.word 2, 0⟩ d = some e →
          Becomes (.portBind ch r) s (answer (mkJob spec0517 ch r d) .ok [] (recordChange (.insert 14 key ⟨r.word 2, 0⟩) e))) ∧
        (bit w 53 = true → putEntry k 14 key ⟨r.word 2, 0⟩ d = none →
          Becomes (.portBind ch r) s (answer (mkJob spec0517 ch r d) .noResource [] (count .clsInsertFail 14 (insertionBegins d)))) ∧
        (bit w 53 = false → Becomes (.portBind ch r) s (answer (mkJob spec0517 ch r d) .ok []
          (recordChange (.delete 14 key) (closeEntry 14 key (d.slot k).version d)))))) ∧
    (Accepted spec0518 ch r s.dev d →
      let mac := fld (r.word 1) 47 0
      let key := macKey (fld (r.word 1) 63 48) mac
      (isGroup mac = true → Becomes (.l2Static ch r) s (answer (mkJob spec0518 ch r d) .badArgument [] d)) ∧
      (isGroup mac = false →
        (bit (r.word 2) 28 = true → ∀ e, putEntry k 15 key ⟨r.word 2, r.word 3⟩ d = some e →
          Becomes (.l2Static ch r) s (answer (mkJob spec0518 ch r d) .ok [] (recordChange (.insert 15 key ⟨r.word 2, r.word 3⟩) e))) ∧
        (bit (r.word 2) 28 = false → Becomes (.l2Static ch r) s (answer (mkJob spec0518 ch r d) .ok []
          (recordChange (.delete 15 key) (closeEntry 15 key (d.slot k).version d)))))) ∧
    (Accepted spec0519 ch r s.dev d →
      let w := r.word 1
      let v6 := bit w 12
      let vrf := fld w 11 0
      let len := fld w 20 13
      let addr := BitVec.ofNat 128 (if v6 then (r.word 2).toNat * 2 ^ 64 + (r.word 3).toNat else (r.word 2).toNat)
      let a := actionAt r.words 4
      (routeOk v6 len (r.word 2) (r.word 3) (bit w 21) a = false → Becomes (.routeSet ch r) s (answer (mkJob spec0519 ch r d) .badArgument [] d)) ∧
      (routeOk v6 len (r.word 2) (r.word 3) (bit w 21) a = true →
        (bit w 21 = true → ∀ e, addRoute v6 vrf addr len a k d = some e →
          Becomes (.routeSet ch r) s (answer (mkJob spec0519 ch r d) .ok [] (recordChange (.route v6 vrf addr len true a) e))) ∧
        (bit w 21 = true → addRoute v6 vrf addr len a k d = none → Becomes (.routeSet ch r) s (answer (mkJob spec0519 ch r d) .noResource [] d)) ∧
        (bit w 21 = false → hasRoute d v6 vrf addr len k = false → Becomes (.routeSet ch r) s (answer (mkJob spec0519 ch r d) .alreadyComplete [] d)) ∧
        (bit w 21 = false → hasRoute d v6 vrf addr len k = true → Becomes (.routeSet ch r) s (answer (mkJob spec0519 ch r d) .ok []
          (recordChange (.route v6 vrf addr len false a) (dropRoute v6 vrf addr len k d)))))) ∧
    (Accepted spec0513 ch r s.dev d →
      let t := fld (r.word 1) 3 0
      let n := fld (r.word 1) 28 16
      t ≤ 13 → 1 ≤ n → n ≤ 4096 → let kb := (RuleSet.tableDef (d.rules' k) t).keyBytes
        (kb = 0 ∨ r.payloadLen.toNat ≠ 16 + n * (16 + 8 * keyWords kb) ∨ insertRecords kb n (r.words.drop 2) = none →
          Becomes (.tableInsert ch r) s (answer (mkJob spec0513 ch r d) .badArgument [] d)) ∧
        ∀ rs, kb ≠ 0 → r.payloadLen.toNat = 16 + n * (16 + 8 * keyWords kb) → insertRecords kb n (r.words.drop 2) = some rs →
          ∀ e m f, insertAll v t (bit (r.word 1) 8) rs 0 d = (e, m, f) → Becomes (.tableInsert ch r) s
            (answer (mkJob spec0513 ch r d) (if f = 0 then .ok else if f = 1 then .badArgument else .noResource) [mk64 [m, at' f 16]] e)) ∧
    (Accepted spec0514 ch r s.dev d → let t := fld (r.word 1) 3 0
      t ≤ 13 → ∀ key, reqKey r (RuleSet.tableDef (d.rules' k) t).keyBytes = some key →
        (findEntry d k t key = none → Becomes (.tableDelete ch r) s (answer (mkJob spec0514 ch r d) .alreadyComplete [] d)) ∧
        (findEntry d k t key ≠ none → Becomes (.tableDelete ch r) s (answer (mkJob spec0514 ch r d) .ok []
          (recordChange (.delete t key) (closeEntry t key (d.slot k).version d)))))) ∧
  (∀ (ch : Nat) (r : Req) (s : State) (d : Dev), cmdWf ch r = true → Accepted spec0515 ch r s.dev d →
    let k := fld (r.word 0) 2 0
    let t := fld (r.word 1) 3 0
    ((d.slot k).state = .free → Becomes (.tableLookup ch r) s (answer (mkJob spec0515 ch r d) .badArgument [] d)) ∧
    ((d.slot k).state ≠ .free → ∀ key, reqKey r (RuleSet.tableDef (d.rules' k) t).keyBytes = some key →
      (findEntry d k t key = none → Becomes (.tableLookup ch r) s (answer (mkJob spec0515 ch r d) d.readStatus [0, 0, 0, 0] d)) ∧
      (∀ e w, (lookup d k t key).hit = some (e, w) → Becomes (.tableLookup ch r) s (answer (mkJob spec0515 ch r d) d.readStatus
        [mk64 [1, at' w 1, at' (b2n e.isOpen) 3], mk64 [e.vfrom.toNat, at' e.vto.toNat 32], e.act.a, e.act.b] d)))) ∧
  (∀ (v : Version) (t k : Nat) (replace : Bool) (a : Action) (key : List Byte) (rest : List (Action × List Byte)) (n : Nat) (s : Dev),
    s.buildSlot v = some k → s.rules.buildRecord.length < buildMax →
    (findEntry s k t key ≠ none → replace = false → insertAll v t replace ((a, key) :: rest) n s = (s, n, 1)) ∧
    ((findEntry s k t key = none ∨ replace = true) → ∀ e, putEntry k t key a s = some e →
      insertAll v t replace ((a, key) :: rest) n s = insertAll v t replace rest (n + 1) (recordChange (.insert t key a) e)) ∧
    ((findEntry s k t key = none ∨ replace = true) → putEntry k t key a s = none →
      insertAll v t replace ((a, key) :: rest) n s = (count .clsInsertFail t (insertionBegins s), n, 2)))

/-- R348, R349, Tables 10-3, 10-4 and 10-6: what the register instructions write, and that each goes on to the next instruction. -/
def Obligations.RegisterInstructions : Prop :=
  ∀ (t : Nat) (dst s1 s2 : BitVec 5) (func : BitVec 11) (imm : BitVec 16) (s : State),
    let a := s.dev.reg t s1
    let b := s.dev.reg t s2
    let old := s.dev.reg t dst
    let i := imm.signExtend 64
    let z := imm.zeroExtend 64
    let v : W64 → Dev → Dev := fun x d => retire t dst x d
    Issued (.alu t dst s1 s2 func) t (encA 0x00 dst s1 s2 func) s (v (aluFn func.toNat a b)) ∧
    (aluFn 0 a b = a + b ∧ aluFn 1 a b = a - b ∧ aluFn 2 a b = a &&& b ∧ aluFn 3 a b = a ||| b ∧ aluFn 4 a b = a ^^^ b ∧
      aluFn 5 a b = a <<< (b.toNat % 64) ∧ aluFn 6 a b = a >>> (b.toNat % 64) ∧ aluFn 7 a b = a.sshiftRight (b.toNat % 64) ∧
      aluFn 8 a b = (if a.toInt < b.toInt then 1 else 0) ∧ aluFn 9 a b = (if a.toNat < b.toNat then 1 else 0) ∧
      (aluFn 10 a b).toNat = min a.toNat b.toNat ∧ (aluFn 11 a b).toNat = max a.toNat b.toNat ∧ aluFn 12 a b = a * b ∧
      (aluFn 13 a b).toNat = a.toNat * b.toNat / 2 ^ 64 ∧
      (a ≠ 0 → 2 ^ 63 ≤ a.toNat * 2 ^ (aluFn 14 a b).toNat ∧ a.toNat * 2 ^ (aluFn 14 a b).toNat < 2 ^ 64) ∧ aluFn 14 0 b = 64 ∧
      (∀ n, n < 64 → ∀ k, k < 8 → (aluFn 16 a b).getLsbD (8 * k + n % 8) = a.getLsbD (8 * (7 - k) + n % 8))) ∧
    Issued (.addi t dst s1 imm) t (encI 0x01 dst s1 imm) s (v (a + i)) ∧
    Issued (.andi t dst s1 imm) t (encI 0x02 dst s1 imm) s (v (a &&& z)) ∧
    Issued (.ori t dst s1 imm) t (encI 0x03 dst s1 imm) s (v (a ||| z)) ∧
    Issued (.xori t dst s1 imm) t (encI 0x04 dst s1 imm) s (v (a ^^^ z)) ∧
    Issued (.shi t dst s1 imm) t (encI 0x05 dst s1 imm) s (v (
      if imm.toNat / 64 % 4 = 0 then a <<< (imm.toNat % 64) else if imm.toNat / 64 % 4 = 1 then a >>> (imm.toNat % 64)
      else if imm.toNat / 64 % 4 = 2 then a.sshiftRight (imm.toNat % 64) else a.rotateRight (imm.toNat % 64))) ∧
    Issued (.movz t dst s1 imm) t (encI 0x06 dst s1 imm) s (v (z <<< (16 * (s1.toNat % 4)))) ∧
    Issued (.movk t dst s1 imm) t (encI 0x07 dst s1 imm) s (v (movkFn (s1.toNat % 4) imm old)) ∧
    (∀ h, h < 4 → ∀ n, n < 64 → (movkFn h imm old).getLsbD n = (if n / 16 = h then imm.getLsbD (n % 16) else old.getLsbD n)) ∧
    Issued (.slti t dst s1 imm) t (encI 0x08 dst s1 imm) s (v (if a.toInt < i.toInt then 1 else 0)) ∧
    Issued (.sltiu t dst s1 imm) t (encI 0x09 dst s1 imm) s (v (if a.toNat < i.toNat then 1 else 0)) ∧
    Issued (.extField t dst s1 imm) t (encI 0x0A dst s1 imm) s (v (extFn imm a)) ∧
    Issued (.insField t dst s1 imm) t (encI 0x0B dst s1 imm) s (v (insFn imm a old)) ∧
    (imm.toNat % 64 + imm.toNat / 64 % 64 < 64 → (extFn imm a).toNat = a.toNat / 2 ^ (imm.toNat % 64) % 2 ^ (imm.toNat / 64 % 64 + 1) ∧
      ∀ n, n < 64 → (insFn imm a old).getLsbD n = (if imm.toNat % 64 ≤ n ∧ n ≤ imm.toNat % 64 + imm.toNat / 64 % 64 then
        a.getLsbD (n - imm.toNat % 64) else old.getLsbD n)) ∧
    Issued (.timeRead t dst s1 imm) t (encI 0x36 dst s1 imm) s (v (s.dev.now.zeroExtend 64)) ∧
    (∀ (d : Dev) (x : W64), (retire t dst x d).reg t dst = (if dst = 0 then 0 else x) ∧ ((retire t dst x d).thread t).pc = (d.thread t).pc + 1 ∧
      (∀ r, r ≠ dst → (retire t dst x d).reg t r = d.reg t r) ∧ d.reg t 0 = 0 ∧ (∀ u, u ≠ t → (retire t dst x d).thread u = d.thread u) ∧
      retire t dst x d = { d with act := { d.act with threads := (retire t dst x d).act.threads } } ∧
      (retire t dst x d).thread t = { d.thread t with g := ((retire t dst x d).thread t).g, pc := (d.thread t).pc + 1 })

/-- R349, R363, R364, Tables 10-4 and 10-7: branches, jumps, waits and the event word. -/
def Obligations.ControlInstructions : Prop :=
  ∀ (t : Nat) (dst s1 s2 : BitVec 5) (imm : BitVec 16) (off : BitVec 21) (s : State),
    let a := s.dev.reg t s1
    let b := s.dev.reg t s2
    let pc := (s.dev.thread t).pc
    let e := eventWord s.dev t
    let go : Bool → Dev → Dev := fun p d => d.setThread t { d.thread t with pc := if p then ((pc : Int) + imm.toInt).toNat else pc + 1 }
    let link : BitVec 5 → Nat → Dev → Dev := fun r n d =>
      d.setThread t { Thread.setReg (d.thread t) r.toNat (BitVec.ofNat 64 (pc + 1)) with pc := n }
    Issued (.beq t s1 s2 imm) t (encI 0x10 s1 s2 imm) s (go (decide (a = b))) ∧ Issued (.bne t s1 s2 imm) t (encI 0x11 s1 s2 imm) s (go (decide (a ≠ b))) ∧
    Issued (.blt t s1 s2 imm) t (encI 0x12 s1 s2 imm) s (go (decide (a.toInt < b.toInt))) ∧
    Issued (.bge t s1 s2 imm) t (encI 0x13 s1 s2 imm) s (go (decide (b.toInt ≤ a.toInt))) ∧
    Issued (.bltu t s1 s2 imm) t (encI 0x14 s1 s2 imm) s (go (decide (a.toNat < b.toNat))) ∧
    Issued (.bgeu t s1 s2 imm) t (encI 0x15 s1 s2 imm) s (go (decide (b.toNat ≤ a.toNat))) ∧
    Issued (.jal t dst off) t (encJ 0x16 dst off) s (link dst ((pc : Int) + off.toInt).toNat) ∧
    (∀ im, s.dev.threadImage t = some im → (a + imm.signExtend 64).toNat < im.code.length →
      Issued (.jalr t dst s1 imm) t (encI 0x17 dst s1 imm) s (link dst (a + imm.signExtend 64).toNat)) ∧
    (∀ im, s.dev.threadImage t = some im → im.code.length ≤ (a + imm.signExtend 64).toNat →
      Issued (.jalr t dst s1 imm) t (encI 0x17 dst s1 imm) s (threadFault t 2 0)) ∧
    (imm = 0 → Issued (.wfe t dst s1 imm) t (encI 0x34 dst s1 imm) s (threadFault t 1 0)) ∧
    (e &&& imm ≠ 0 → Issued (.wfe t dst s1 imm) t (encI 0x34 dst s1 imm) s (fun d =>
      retire t dst (e.zeroExtend 64) (d.setThread t { d.thread t with waitMask := imm, waitDst := dst.toNat }))) ∧
    (imm ≠ 0 → e &&& imm = 0 → Issued (.wfe t dst s1 imm) t (encI 0x34 dst s1 imm) s (fun d =>
      d.setThread t { d.thread t with waitMask := imm, waitDst := dst.toNat, pc := pc + 1, state := .waiting })) ∧
    Issued (.evtr t dst s1 imm) t (encI 0x35 dst s1 imm) s (fun d =>
      retire t dst (e.zeroExtend 64) (d.setThread t { d.thread t with latched := (d.thread t).latched &&& ~~~imm })) ∧
    Issued (.trapInstr t dst s1 imm) t (encI 0x37 dst s1 imm) s (threadFault t 16 imm.toNat) ∧
    (t < 512 → (s.dev.thread t).state = .waiting →
      (e &&& (s.dev.thread t).waitMask ≠ 0 → Ends (.eventWake t) s (fun d => (d.thread t).state = .ready ∧
        ((s.dev.thread t).waitDst ≠ 0 → Thread.reg (d.thread t) (s.dev.thread t).waitDst = e.zeroExtend 64) ∧
        (d.thread t).pc = pc ∧ (d.thread t).latched = (s.dev.thread t).latched ∧ (∀ u, u ≠ t → d.thread u = s.dev.thread u) ∧
        d = { s.dev with act := d.act })) ∧
      (e &&& (s.dev.thread t).waitMask = 0 → Becomes (.eventWake t) s s.dev)) ∧
    (∀ n, n < 1024 → ∀ g, s.dev.group n = some g → g.tickUs ≠ 0 → Ends (.groupTick n) s (fun d =>
      (∀ u ∈ g.threads ++ g.leaving, (d.thread u).latched.getLsbD 3 = true ∧ (d.thread u).state = (s.dev.thread u).state) ∧
      (∀ u, u ∉ g.threads ++ g.leaving → d.thread u = s.dev.thread u) ∧ d.now = (reach (nextTick s.dev g) s.dev).now ∧
      d = { s.dev with now := d.now, mgt := d.mgt, act := d.act }) ∧ (g.tickUs ≤ 65535 →
      0 < Time.since (nextTick s.dev g) s.dev.now ∧ Time.since (nextTick s.dev g) s.dev.now ≤ g.tickUs * 1000)) ∧
    (∀ c, c < 64 → deadlocked s.dev c = true → Ends (.quiescentDeadlock c) s (fun d => ∃ u, u / 8 = c ∧ (s.dev.thread u).state = .waiting ∧
      (∀ w, w / 8 = c → (s.dev.thread w).state ≠ .free → u ≤ w) ∧ (d.thread u).state = .ready ∧ (d.thread u).latched.getLsbD 8 = true ∧
      (∀ w, w ≠ u → d.thread w = s.dev.thread w) ∧ d.counter .actDeadlock c = s.dev.counter .actDeadlock c + 1 ∧
      d.mgt.faults.getLast?.map (fun f => f.code) = some 0x0B03)) ∧
    (∀ c, c < 64 → deadlocked s.dev c = false → Becomes (.quiescentDeadlock c) s s.dev)

/-- R352, R355, R356, Table 10-5: loads, stores and atomics of scratch and state memory, and their responses. R354: what TLK may look up, the version it
reads under, and its answer. -/
def Obligations.MemoryInstructions : Prop :=
  (∀ (t : Nat) (dst s1 s2 : BitVec 5) (func : BitVec 11) (imm : BitVec 16) (s : State),
     let n := 2 ^ (imm.toNat / 2 ^ 14)
     let a := (s.dev.reg t s1 + BitVec.ofNat 64 (imm.toNat % 4096)).toNat
     let b := (s.dev.reg t s1).toNat
     let x := s.dev.thread t
     let mib := ((s.dev.threadGroup t).map Group.stateMib).getD 0
     let next : Dev → Dev := fun d => d.setThread t { d.thread t with pc := (d.thread t).pc + 1 }
     let stall : Stall → Dev → Dev := fun w d => d.setThread t { d.thread t with pc := x.pc + 1, state := .stalled, stall := some w }
     let sliceOf := match x.held with
       | some p => p.tag.slice.toNat
       | none => s.dev.threadSlice t
     let charged : Nat → Bool → Dev → Dev := fun m write d => memRequest sliceOf write (stateLineOf s.dev t m) (x.held.map (fun p => p.tag.entryTime)) d
     let both : Dev → Dev := fun d => charged b true (charged b false d)
     (4096 < a + n → Issued (.ldl t dst s1 imm) t (encI 0x18 dst s1 imm) s (threadFault t 3 0) ∧
       Issued (.stl t dst s1 imm) t (encI 0x19 dst s1 imm) s (threadFault t 3 0)) ∧
     (a + n ≤ 4096 → a % n ≠ 0 → Issued (.ldl t dst s1 imm) t (encI 0x18 dst s1 imm) s (threadFault t 4 0) ∧
       Issued (.stl t dst s1 imm) t (encI 0x19 dst s1 imm) s (threadFault t 4 0)) ∧
     (a + n ≤ 4096 → a % n = 0 →
       Issued (.ldl t dst s1 imm) t (encI 0x18 dst s1 imm) s (retire t dst (BitVec.ofNat 64 (leNat (Memory.readN x.scratch a n)))) ∧
       Issued (.stl t dst s1 imm) t (encI 0x19 dst s1 imm) s (fun d => next (d.setThread t
         { d.thread t with scratch := Memory.writeN x.scratch a (leBytes (s.dev.reg t dst).toNat n) }))) ∧
     (a % n ≠ 0 → Issued (.sld t dst s1 imm) t (encI 0x29 dst s1 imm) s (threadFault t 4 0) ∧
       Issued (.sst t dst s1 imm) t (encI 0x2A dst s1 imm) s (threadFault t 4 0)) ∧
     (a % n = 0 → mib * 2 ^ 20 < a + n → Issued (.sld t dst s1 imm) t (encI 0x29 dst s1 imm) s (threadFault t 12 0) ∧
       Issued (.sst t dst s1 imm) t (encI 0x2A dst s1 imm) s (threadFault t 12 0)) ∧
     (a % n = 0 → a + n ≤ mib * 2 ^ 20 → Issued (.sld t dst s1 imm) t (encI 0x29 dst s1 imm) s (fun d => stall (.load dst.toNat a n) (charged a false d)) ∧
       Issued (.sst t dst s1 imm) t (encI 0x2A dst s1 imm) s (fun d => next (storeState t a (leBytes (s.dev.reg t dst).toNat n) (charged a true d)))) ∧
     (b % 8 = 0 → b + 8 ≤ mib * 2 ^ 20 →
       ((dst ≠ 0 ∨ func = 1 ∨ func = 2) → Issued (.satom t dst s1 s2 func) t (encA 0x2B dst s1 s2 func) s
         (fun d => stall (.atomic dst.toNat b func.toNat (s.dev.reg t s2) (s.dev.reg t dst)) (both d))) ∧
       (dst = 0 → func ≠ 1 → func ≠ 2 →
         (statePoisoned s.dev t b = false → Issued (.satom t dst s1 s2 func) t (encA 0x2B dst s1 s2 func) s
           (fun d => next (atomic t b func.toNat (s.dev.reg t s2) 0 (both d)))) ∧
         (statePoisoned s.dev t b = true → Issued (.satom t dst s1 s2 func) t (encA 0x2B dst s1 s2 func) s (fun d => next (both d))))) ∧
     (b % 8 = 0 → mib * 2 ^ 20 < b + 8 → Issued (.satom t dst s1 s2 func) t (encA 0x2B dst s1 s2 func) s (threadFault t 12 0)) ∧
     (b % 8 ≠ 0 → Issued (.satom t dst s1 s2 func) t (encA 0x2B dst s1 s2 func) s (threadFault t 4 0)) ∧
     Issued (.fence t dst s1 imm) t (encI 0x2C dst s1 imm) s next ∧
     (∀ old v d : W64, atomFn 0 old v d = some (old + v) ∧ atomFn 1 old v d = some v ∧ atomFn 2 old v d = (if old = v then some d else none) ∧
       (atomFn 3 old v d).map BitVec.toNat = some (max old.toNat v.toNat) ∧ atomFn 4 old v d = some (old ||| v)) ∧
     (∀ poisoned, t < 512 → x.state = .stalled →
       let e : Dev → Prop := fun d => Becomes (.stateAccessResponse t poisoned) s (settleGroup x.group d)
       let ready : Nat → W64 → Dev → Dev := fun r v d =>
         d.setThread t (Thread.setReg { d.thread t with state := .ready, stall := none } r v)
       (∀ r m k, x.stall = some (.load r m k) → (poisoned || statePoisoned s.dev t m) = false → e (ready r (loadState s.dev t m k) s.dev)) ∧
       (∀ r m k, x.stall = some (.load r m k) → (poisoned || statePoisoned s.dev t m) = true → e (threadFault t 13 0 (poisonState t m s.dev))) ∧
       (∀ r m f v w, x.stall = some (.atomic r m f v w) → (poisoned || statePoisoned s.dev t m) = false →
         e (ready r (loadState s.dev t m 8) (atomic t m f v w s.dev))) ∧
       (∀ r m f v w, x.stall = some (.atomic r m f v w) → (poisoned || statePoisoned s.dev t m) = true → e (threadFault t 13 0 (poisonState t m s.dev))) ∧
       (∀ r table key k, x.stall = some (.table r table key k) → badBucket s.dev table (RuleSet.tableDef (s.dev.rules' k) table) key = none → poisoned = false →
         e (let d := tlkAnswer t r (findEntry s.dev k table key) s.dev; d.setThread t { d.thread t with state := .ready, stall := none })) ∧
       (∀ r table key k, x.stall = some (.table r table key k) → badBucket s.dev table (RuleSet.tableDef (s.dev.rules' k) table) key = none → poisoned = true →
         e (threadFault t 13 0 s.dev)) ∧
       (∀ r table key k, x.stall = some (.table r table key k) → ∀ u, badBucket s.dev table (RuleSet.tableDef (s.dev.rules' k) table) key = some u →
         let pipe := (x.held.map Pkt.pipe).getD 0
         e (threadFault t 13 0 (logFault (pipeIsland pipe) 0xFF 0x0902 0 (mk64 [lo 4 table, at' (lo 32 u) 8]) 0 (count .clsExtPoison pipe s.dev))))) ∧
     (∀ (g : Group) (m : Nat) (bs : List Byte) (d : Dev), d.threadGroup t = some g → (∃ h, (storeState t m bs d).threadGroup t = some h ∧
       (∀ j, j < m ∨ m + bs.length ≤ j → Memory.read h.mem j = Memory.read g.mem j) ∧
       (∀ j, (hj : j < bs.length) → Memory.read h.mem (m + j) = bs[j]) ∧ m / 8 ∉ h.poisoned ∧ (∀ w, w ≠ m / 8 → (w ∈ h.poisoned ↔ w ∈ g.poisoned)) ∧
       (∀ w, w ∈ h.cured ↔ w ∈ g.cured ∨ (w = m / 8 ∧ d.mem.poisoned.contains (stateLineOf d t m) = true)) ∧
       statePoisoned (storeState t m bs d) t m = false ∧ h = { g with mem := h.mem, poisoned := h.poisoned, cured := h.cured }))) ∧
  (∀ (t : Nat) (dst s1 : BitVec 5) (imm : BitVec 16) (s : State),
     let table := imm.toNat % 16
     let k := tlkSlot s.dev t
     let def' := RuleSet.tableDef (s.dev.rules' k) table
     let n := def'.keyBytes
     let key := tlkKey s.dev t s1.toNat n
     let l := lookup s.dev k table key
     let slice := match (s.dev.thread t).held with
       | some p => p.tag.slice.toNat
       | none => s.dev.threadSlice t
     (14 ≤ table ∨ (tlkMask s.dev t).testBit table = false → Issued (.tlk t dst s1 imm) t (encI 0x28 dst s1 imm) s (threadFault t 11 0)) ∧
     (table < 14 → (tlkMask s.dev t).testBit table = true →
       (∀ m, badPlace s.dev table def' key = some m → let pipe := ((s.dev.thread t).held.map Pkt.pipe).getD 0
         Issued (.tlk t dst s1 imm) t (encI 0x28 dst s1 imm) s (fun d => threadFault t 13 0
           (logFault (pipeIsland pipe) 0xFF 0x0902 0 (mk64 [lo 4 table, at' (lo 32 m) 8]) 0 (count .clsExtPoison pipe d)))) ∧
       (badPlace s.dev table def' key = none → l.ext = true → Issued (.tlk t dst s1 imm) t (encI 0x28 dst s1 imm) s (fun d =>
         let f := ((extBuckets table def' key).map (bucketLine table)).foldl
           (fun e line => memRequest slice false line ((s.dev.thread t).held.map (fun p => p.tag.entryTime)) e) d
         f.setThread t { f.thread t with pc := (s.dev.thread t).pc + 1, state := .stalled, stall := some (.table dst.toNat table key k) })) ∧
       (badPlace s.dev table def' key = none → l.ext = false → Issued (.tlk t dst s1 imm) t (encI 0x28 dst s1 imm) s (fun d => toNext t (tlkAnswer t dst.toNat (l.hit.map Prod.fst) d)))) ∧
     (∀ p, (s.dev.thread t).held = some p → k = p.tag.vslot.toNat ∧ (∀ m, p.dest = .program m →
       tlkMask s.dev t = progMask (progBinding s.dev p.tag.vslot.toNat (m % 4096)))) ∧
     ((s.dev.thread t).held = none → ∀ j, s.dev.activeSlot = some j → k = j) ∧
     (dst.toNat ≤ 30 → dst ≠ 0 → ∀ (e : Entry) (d : Dev),
       Thread.reg ((tlkAnswer t dst.toNat (some e) d).thread t) dst.toNat = e.act.a ||| BitVec.ofNat 64 (2 ^ 63) ∧
       Thread.reg ((tlkAnswer t dst.toNat (some e) d).thread t) (dst.toNat + 1) = e.act.b ∧
       Thread.reg ((tlkAnswer t dst.toNat none d).thread t) dst.toNat = 0) ∧
     (∀ i, i < (tlkKey s.dev t s1.toNat n).length → s1.toNat + i / 8 < 32 →
       (tlkKey s.dev t s1.toNat n)[i]? = some (BitVec.ofNat 8 ((Thread.reg (s.dev.thread t) (s1.toNat + i / 8)).toNat / 2 ^ (8 * (7 - i % 8))))))

/-- R352, R353, R357 to R359, Tables 10-5, 10-8 and 10-10: the instructions on packets. Fewer than 14 bytes make no packet: the model's choice (log 52). -/
def Obligations.PacketInstructions : Prop :=
  (∀ (t : Nat) (dst s1 : BitVec 5) (imm : BitVec 16) (s : State), (s.dev.thread t).held = none →
    let zero : Dev → Dev := if (s.dev.thread t).heldEmpty then retire t dst 0 else threadFault t 6 0
    let none' : Dev → Dev := if (s.dev.thread t).heldEmpty then toNext t else threadFault t 6 0
    Issued (.pld t dst s1 imm) t (encI 0x1A dst s1 imm) s zero ∧ Issued (.ctr t dst s1 imm) t (encI 0x1C dst s1 imm) s zero ∧
    (imm.toNat % 16 ≠ 15 → Issued (.tagr t dst s1 imm) t (encI 0x1D dst s1 imm) s zero ∧ Issued (.tagw t dst s1 imm) t (encI 0x1E dst s1 imm) s none') ∧
    Issued (.pst t dst s1 imm) t (encI 0x1B dst s1 imm) s none' ∧ Issued (.phead t dst s1 imm) t (encI 0x1F dst s1 imm) s none' ∧
    Issued (.plen t dst s1 imm) t (encI 0x20 dst s1 imm) s none' ∧ Issued (.pktout t dst s1 imm) t (encI 0x22 dst s1 imm) s none' ∧
    ((s.dev.thread t).input = [] → Issued (.pktget t dst s1 imm) t (encI 0x21 dst s1 imm) s (fun d =>
      retire t dst 0 (d.setThread t { d.thread t with heldEmpty := false }))) ∧
    (∀ p rest, (s.dev.thread t).input = p :: rest → Issued (.pktget t dst s1 imm) t (encI 0x21 dst s1 imm) s (fun d =>
      let y := { (chargeCycles t d).thread t with input := rest, held := some p, heldEmpty := false }
      retire t dst 1 ((chargeCycles t d).setThread t { y with takenAt := d.now, copies := 0, frontAdded := 0, tailAdded := 0 })))) ∧
  (∀ (t : Nat) (dst s1 : BitVec 5) (imm : BitVec 16) (s : State) (p : Pkt), (s.dev.thread t).held = some p →
    let a := accAddr s.dev t s1 imm
    let n := accSize imm
    let len := p.bytes.length
    let x := s.dev.thread t
    let hold : Pkt → Dev → Dev := fun q d => toNext t (d.setThread t { d.thread t with held := some (Pkt.fixLength q) })
    let sel := imm.toNat % 16
    let v := s.dev.reg t s1
    let k := (-imm.toInt).toNat
    let m := (v + imm.signExtend 64).toNat
    (len < a + n → Issued (.pld t dst s1 imm) t (encI 0x1A dst s1 imm) s (threadFault t 5 0) ∧
      Issued (.pst t dst s1 imm) t (encI 0x1B dst s1 imm) s (threadFault t 5 0)) ∧
    (a + n ≤ len → Issued (.pld t dst s1 imm) t (encI 0x1A dst s1 imm) s (retire t dst (BitVec.ofNat 64 (beNat ((p.bytes.drop a).take n)))) ∧
      Issued (.pst t dst s1 imm) t (encI 0x1B dst s1 imm) s
        (hold { p with bytes := p.bytes.take a ++ beBytes ((s.dev.reg t dst).toNat % 2 ^ (8 * n)) n ++ p.bytes.drop (a + n) })) ∧
    (imm.toNat % 128 < 48 → Issued (.ctr t dst s1 imm) t (encI 0x1C dst s1 imm) s
      (retire t dst ((SMap.get 0 p.ps.containers (imm.toNat % 128)).zeroExtend 64))) ∧
    (64 ≤ imm.toNat % 128 → imm.toNat % 128 < 76 → Issued (.ctr t dst s1 imm) t (encI 0x1C dst s1 imm) s
      (retire t dst (match p.ps.stack[imm.toNat % 128 - 64]? with
        | some (h, o) => mk64 [h.toNat, at' (lo 16 o) 8, at' 1 63]
        | none => 0))) ∧
    (sel = 15 → Issued (.tagr t dst s1 imm) t (encI 0x1D dst s1 imm) s (threadFault t 1 0) ∧
      Issued (.tagw t dst s1 imm) t (encI 0x1E dst s1 imm) s (threadFault t 1 0)) ∧
    (sel ≠ 15 → Issued (.tagr t dst s1 imm) t (encI 0x1D dst s1 imm) s (retire t dst (BitVec.ofNat 64 (tagField s.dev p sel)))) ∧
    (sel = 4 → Issued (.tagw t dst s1 imm) t (encI 0x1E dst s1 imm) s (hold { p with tag := { p.tag with queue := v.truncate 18 } })) ∧
    (sel = 5 → (p.tag.colour = 0 ∧ (v = 1 ∨ v = 2)) ∨ (p.tag.colour = 1 ∧ v = 2) →
      Issued (.tagw t dst s1 imm) t (encI 0x1E dst s1 imm) s (hold { p with tag := { p.tag with colour := v.truncate 2 } })) ∧
    (sel = 5 → v.toNat < p.tag.colour.toNat ∨ 2 < v.toNat → Issued (.tagw t dst s1 imm) t (encI 0x1E dst s1 imm) s (threadFault t 8 0)) ∧
    (sel = 8 → v.toNat ≤ 63 → Issued (.tagw t dst s1 imm) t (encI 0x1E dst s1 imm) s (hold { p with tag := { p.tag with meterClass := v.truncate 6 } })) ∧
    (sel ∉ [4, 5, 8, 15] → Issued (.tagw t dst s1 imm) t (encI 0x1E dst s1 imm) s (threadFault t 8 0)) ∧
    ((len : Int) - imm.toInt < 14 ∨ 16384 < (len : Int) - imm.toInt ∨ 256 < x.frontAdded + k →
      Issued (.phead t dst s1 imm) t (encI 0x1F dst s1 imm) s (threadFault t 5 0)) ∧
    (14 ≤ (len : Int) - imm.toInt → (len : Int) - imm.toInt ≤ 16384 → x.frontAdded + k ≤ 256 →
      Issued (.phead t dst s1 imm) t (encI 0x1F dst s1 imm) s (fun d =>
        let ps := { p.ps with frontDelta := p.ps.frontDelta - imm.toInt }
        let q := { p with bytes := if 0 < imm.toInt then p.bytes.drop imm.toInt.toNat else List.replicate k 0 ++ p.bytes, ps := ps }
        toNext t (d.setThread t { d.thread t with held := some (Pkt.fixLength q), frontAdded := x.frontAdded + k }))) ∧
    (m < 14 ∨ 16384 < m ∨ 256 < x.tailAdded + (m - len) → Issued (.plen t dst s1 imm) t (encI 0x20 dst s1 imm) s (threadFault t 5 0)) ∧
    (14 ≤ m → m ≤ 16384 → x.tailAdded + (m - len) ≤ 256 →
      Issued (.plen t dst s1 imm) t (encI 0x20 dst s1 imm) s (fun d =>
        let q := { p with bytes := p.bytes.take m ++ List.replicate (m - len) 0 }
        toNext t (d.setThread t { d.thread t with held := some (Pkt.fixLength q), tailAdded := x.tailAdded + (m - len) }))) ∧
    Issued (.pktget t dst s1 imm) t (encI 0x21 dst s1 imm) s (threadFault t 7 0) ∧
    (let owner := s.dev.threadSlice t
     let copy := imm.getLsbD 4
     (dispositionOk s.dev owner p sel copy v = false → Issued (.pktout t dst s1 imm) t (encI 0x22 dst s1 imm) s (threadFault t 9 0)) ∧
     (dispositionOk s.dev owner p sel copy v = true → copy = false →
       Issued (.pktout t dst s1 imm) t (encI 0x22 dst s1 imm) s (fun d => toNext t (sendOut t p sel v (releaseHeld t d)))) ∧
     (dispositionOk s.dev owner p sel copy v = true → copy = true → x.copies < 4 →
       Issued (.pktout t dst s1 imm) t (encI 0x22 dst s1 imm) s (fun d => toNext t (count .actCopies (coreOf t)
         (sendOut t { p with tag := p.tag.setFlag 11, dist := 8, work := none } sel v (d.setThread t { d.thread t with copies := x.copies + 1 }))))) ∧
     (dispositionOk s.dev owner p sel copy v = true → copy = true → 4 ≤ x.copies →
       Issued (.pktout t dst s1 imm) t (encI 0x22 dst s1 imm) s (threadFault t 10 0)) ∧
     (sel ∉ [1, 2, 6, 9, 10] → dispositionOk s.dev owner p sel copy v = false) ∧
     (sel = 1 → owner ≠ 0 → dispositionOk s.dev owner p sel copy v = true →
       fld v 7 0 = 72 + s.dev.slicePort p.tag.slice.toNat ∧ (s.dev.qp (fld v 25 8)).slice = p.tag.slice.toNat ∧ (s.dev.qp (fld v 25 8)).valid = true))) ∧
  (∀ (t : Nat) (dst s1 s2 : BitVec 5) (func : BitVec 11) (s : State),
    let a := (s.dev.reg t s1).toNat
    let n := (s.dev.reg t s2).toNat
    let sl := s.dev.threadSlice t
    let d := if t < 256 then 6 else 7
    let bs := Memory.readN (s.dev.thread t).scratch a n
    (4096 < a + n → Issued (.pktnew t dst s1 s2 func) t (encA 0x23 dst s1 s2 func) s (threadFault t 3 0)) ∧
    (a + n ≤ 4096 → 14 ≤ n → bucketFull s.dev d (flowHash (BitVec.ofNat 12 sl) bs) ((n + 32 + 255) / 256) = false → creationStopped s.dev sl = false →
      Issued (.pktnew t dst s1 s2 func) t (encA 0x23 dst s1 s2 func) s (fun e => retire t dst 1 (count .actCreated (coreOf t)
        (meterAdd sl 28 1 e.now (tagAndQueue d (BitVec.ofNat 12 sl) 79 e.now bs id e))))) ∧
    (a + n ≤ 4096 → n < 14 ∨ creationStopped s.dev sl = true →
      Issued (.pktnew t dst s1 s2 func) t (encA 0x23 dst s1 s2 func) s (fun e => retire t dst 0 (count .actCreateRefused (coreOf t) e))) ∧
    (a + n ≤ 4096 → 14 ≤ n → bucketFull s.dev d (flowHash (BitVec.ofNat 12 sl) bs) ((n + 32 + 255) / 256) = true → creationStopped s.dev sl = false →
      Issued (.pktnew t dst s1 s2 func) t (encA 0x23 dst s1 s2 func) s
        (fun e => retire t dst 0 (count .actCreateRefused (coreOf t) (count .distHoldFull d e)))))

/-- R360 to R362: messages between threads of one cluster and one slice. R366 to R368, Table 10-11: what a fault leaves of a thread, when it is parked,
the budget, and encodings that raise ILLEGAL. -/
def Obligations.ChannelsAndFaults : Prop :=
  (∀ (t : Nat) (dst s1 : BitVec 5) (imm : BitVec 16) (s : State),
     let x := s.dev.thread t
     let word := imm.toNat / 64 % 4
     let named := 64 * (t / 64) + imm.toNat % 64
     let u := if word = 0 then named else x.stTarget.getD named
     let v := s.dev.reg t s1
     let base := (if word = 0 then [] else x.staging) ++ List.replicate (4 - (if word = 0 then 0 else x.staging.length)) 0
     let words := setAt base word v
     let last := imm.getLsbD 8
     let bad := (s.dev.thread u).state = .free ∨ s.dev.threadSlice u ≠ s.dev.threadSlice t
     (word = 0 ∨ last = true → bad → Issued (.chsend t dst s1 imm) t (encI 0x30 dst s1 imm) s (threadFault t 14 0)) ∧
     (last = false → (word = 0 → ¬ bad) → Issued (.chsend t dst s1 imm) t (encI 0x30 dst s1 imm) s (fun d => toNext t (d.setThread t
       { d.thread t with staging := words, stTarget := if word = 0 then some named else x.stTarget }))) ∧
     (last = true → ¬ bad → u ≠ t → (s.dev.thread u).recvQ.length < 4 → Issues t (encI 0x30 dst s1 imm) s.dev → Ends (.chsend t dst s1 imm) s (fun e =>
       ∃ d, e = settleGroup x.group d ∧ (d.thread u).recvQ = (s.dev.thread u).recvQ ++ [(t, words.take (word + 1))] ∧ (d.thread t).staging = [] ∧
         d.reg t dst = (if dst = 0 then 0 else 1) ∧ (d.thread t).pc = x.pc + 1 ∧ (∀ w, w ≠ t → w ≠ u → d.thread w = s.dev.thread w))) ∧
     (last = true → ¬ bad → 4 ≤ (s.dev.thread u).recvQ.length → Issued (.chsend t dst s1 imm) t (encI 0x30 dst s1 imm) s (fun d => retire t dst 0
       ((count .actChRefused (coreOf t) d).setThread t { d.thread t with
         staging := words, stTarget := if word = 0 then some named else x.stTarget, refusedBy := some u }))) ∧
     (let y : W64 := match x.recvQ with
        | [] => 0
        | (w, ws) :: _ => if imm.getLsbD 3 then mk64 [ws.length, at' (w % 64) 3] else ws.getD (imm.toNat % 4) 0
      Issued (.chrecv t dst s1 imm) t (encI 0x31 dst s1 imm) s (fun d =>
        retire t dst y (if imm.getLsbD 2 then d.setThread t { d.thread t with recvQ := x.recvQ.drop 1 } else d)))) ∧
  ((∀ (t cause detail : Nat) (s : Dev), t < 512 → cause < 256 → (s.thread t).pc < 8192 → detail < 65536 →
     let e := threadFault t cause detail s
     let y := e.thread t
     (Thread.reg y 1 = mk64 [cause, at' (s.thread t).pc 8, at' detail 21] ∧ (∀ r, r ≠ 1 → Thread.reg y r = 0)) ∧ y.held = none ∧ y.heldEmpty = false ∧
     y.staging = [] ∧ y.stTarget = none ∧ y.latched = (s.thread t).latched ||| 0x400#16 ∧ y.scratch = (s.thread t).scratch ∧
     y.recvQ = (s.thread t).recvQ ∧ y.input = (s.thread t).input ∧ y.lastFault = cause ∧ y.faultPc = (s.thread t).pc ∧
     (∀ im, s.threadImage t = some im → y.pc = im.entry) ∧ (∀ u, u ≠ t → e.thread u = s.thread u) ∧
     (y.state = .ready ∨ y.state = .faulted) ∧
     (y.state = .faulted ↔ (applyBoundary .threadFault (actIsland t) s).regField (actIsland t) 0x008 7 0 ≤
       ((s.thread t).faults.filter (fun f => decide (Time.since s.now f < 1000000))).length + 1) ∧
     (y.state = .faulted → e.counter .actParked (coreOf t) = s.counter .actParked (coreOf t) + 1 ∧
       e.mgt.faults.getLast?.map (fun f => f.code) = some 0x0B02) ∧
     e.counter .actFaults (coreOf t) = s.counter .actFaults (coreOf t) + 1) ∧
   (∀ (t : Nat) (s : State) (g : Group) (p : Pkt), t < 512 → s.dev.threadGroup t = some g → (s.dev.thread t).held = some p → (s.dev.thread t).state ≠ .faulted →
     Becomes (.packetBudgetExpiry t) s (settleGroup (s.dev.thread t).group
       (threadFault t 15 0 (reach ((s.dev.thread t).takenAt.plus ((g.maxCycles + 1) / 2)) s.dev)))) ∧
   (∀ (t : Nat) (s : State), t < 512 → (s.dev.thread t).held = none → Becomes (.packetBudgetExpiry t) s s.dev) ∧
   (∀ (t : Nat) (s : State), t < 512 →
     ((s.dev.thread t).state ≠ .free → (s.dev.thread t).held = none →
       Becomes (.threadCyclesCharge t) s (chargeCycles t (reach ((s.dev.thread t).chargedAt.plus 10000) s.dev))) ∧
     ((s.dev.thread t).state = .free ∨ (s.dev.thread t).held ≠ none → Becomes (.threadCyclesCharge t) s s.dev)) ∧
   (∀ (t : Nat) (w : BitVec 32) (f : Dev → Dev) (s : Dev) (im : ActImage), s.threadImage t = some im → (s.thread t).state = .ready →
     (im.code.length ≤ (s.thread t).pc → issue t w f s = settleGroup (s.thread t).group (threadFault t 2 0 s)) ∧
     (im.code[(s.thread t).pc]? = some w → illegalInstr w = true →
       issue t w f s = settleGroup (s.thread t).group (threadFault t 1 0 (count .actIssued (coreOf t) s)))) ∧
   (∀ (t : Nat) (w : BitVec 32) (f : Dev → Dev) (s : Dev), (s.thread t).state ≠ .ready → issue t w f s = s))

/-- R343, R350, R351, R369 to R375: dispatch to a thread, and the commands of images, groups and bindings. -/
def Obligations.ProgramsAndGroups : Prop :=
  (∀ (i : Nat) (s : State) (p : Pkt) (rest : List Pkt), i < 2 → s.dev.actInput i = p :: rest →
    let d := s.dev.setActInput i rest
    let b := progBinding s.dev p.tag.vslot.toNat (packetProgram p % 4096)
    (b.valid = false ∨ s.dev.groupOf (progOwner b) (progImage b) = none →
      Becomes (.programDispatch i) s (count .actNoGroup i (dropPkt (8 + i) p d))) ∧
    (∀ n g, b.valid = true → s.dev.groupOf (progOwner b) (progImage b) = some (n, g) →
      (progOwner b ≠ 0 → progOwner b ≠ p.tag.slice.toNat → Becomes (.programDispatch i) s (count .actSliceMismatch i (dropPkt (8 + i) p d))) ∧
      (progOwner b = 0 ∨ progOwner b = p.tag.slice.toNat →
        let t := g.map.getD (p.tag.flowHash.toNat / 2 ^ 26) 0
        ((s.dev.thread t).state = .faulted ∨ (s.dev.thread t).state = .free ∨ 16 ≤ (s.dev.thread t).input.length ∨
            65536 < ((s.dev.thread t).input.map (fun q => q.bytes.length)).sum + p.bytes.length →
          Becomes (.programDispatch i) s (count .actDispatchDrop i (dropPkt (8 + i) p d))) ∧
        ((s.dev.thread t).state ≠ .faulted → (s.dev.thread t).state ≠ .free → (s.dev.thread t).input.length < 16 →
          ((s.dev.thread t).input.map (fun q => q.bytes.length)).sum + p.bytes.length ≤ 65536 → Ends (.programDispatch i) s (fun e =>
            (e.thread t).input = (s.dev.thread t).input ++ [p] ∧ (∀ u, u ≠ t → e.thread u = s.dev.thread u) ∧
            e.counter .actDispatched (t / 8) = s.dev.counter .actDispatched (t / 8) + 1))))) ∧
  (∀ (ch : Nat) (r : Req) (s : State) (d : Dev), cmdWf ch r = true →
    let sl := fld (r.word 0) 11 0
    let h := fld (r.word 0) 41 32
    (Accepted spec0540 ch r s.dev d →
      let raw := r.words.drop 1
      let h := d.assign ((SMap.entries d.act.images).map Prod.fst)
      (reaches ch sl = false → Becomes (.actImageLoad ch r) s (answer (mkJob spec0540 ch r d) .notPermitted [] d)) ∧
      (reaches ch sl = true → r.indirect = false ∨ (d.slice sl).state = .free →
        Becomes (.actImageLoad ch r) s (answer (mkJob spec0540 ch r d) .badArgument [] d)) ∧
      (r.indirect = true → (d.slice sl).state ≠ .free → reaches ch sl = true →
        (∀ k i, actImageReason raw (r.payloadLen.toNat - 8) = some (k, i) →
          Becomes (.actImageLoad ch r) s (answer (mkJob spec0540 ch r d) .badArgument [mk64 [k, at' (lo 13 i) 8]] d)) ∧
        (actImageReason raw (r.payloadLen.toNat - 8) = none → 1024 ≤ (SMap.entries d.act.images).length →
          Becomes (.actImageLoad ch r) s (answer (mkJob spec0540 ch r d) .noResource [] d)) ∧
        (actImageReason raw (r.payloadLen.toNat - 8) = none → (SMap.entries d.act.images).length < 1024 →
          ∀ e, Recorded spec0540 ch r h [mk64 [at' h 32]] d e → Ends (.actImageLoad ch r) s (fun f =>
            f.actImage h = some { slice := sl, imageId := BitVec.ofNat 32 (fld (raw.getD 1 0) 31 0), entry := fld (raw.getD 1 0) 44 32,
                                  code := (imageCode (raw.drop 4)).take (fld (raw.getD 0 0) 60 48) } ∧
            (∀ j, j ≠ h → f.actImage j = e.actImage j) ∧ f = { e with act := f.act })))) ∧
    (Accepted spec0541 ch r s.dev d → ∀ im, d.actImage h = some im → im.slice = sl → reaches ch sl = true →
      (d.groupList.any (fun e => e.2.handle == h) = true → Becomes (.actImageUnload ch r) s (answer (mkJob spec0541 ch r d) .busy [] d)) ∧
      (d.groupList.any (fun e => e.2.handle == h) = false → ∀ e, Recorded spec0541 ch r h [] d e → Ends (.actImageUnload ch r) s (fun f =>
        f.actImage h = none ∧ (∀ j, j ≠ h → f.actImage j = e.actImage j) ∧ f = { e with act := f.act }))) ∧
    (Accepted spec0541 ch r s.dev d →
      (reaches ch sl = false → Becomes (.actImageUnload ch r) s (answer (mkJob spec0541 ch r d) .notPermitted [] d)) ∧
      (reaches ch sl = true → imageOf d sl h = none → Becomes (.actImageUnload ch r) s (answer (mkJob spec0541 ch r d) .badArgument [] d))) ∧
    (Accepted spec0543 ch r s.dev d →
      (reaches ch sl = false → Becomes (.actGroupQuery ch r) s (answer (mkJob spec0543 ch r d) .notPermitted [] d)) ∧
      (reaches ch sl = true → groupFor d sl h = none → Becomes (.actGroupQuery ch r) s (answer (mkJob spec0543 ch r d) .badArgument [] d)) ∧
      (∀ n g, groupFor d sl h = some (n, g) → reaches ch sl = true → Becomes (.actGroupQuery ch r) s (answer (mkJob spec0543 ch r d) .ok
        [mk64 [n, at' g.threads.length 16, at' ((g.threads ++ g.leaving).filter (fun t => decide ((d.thread t).state = .faulted))).length 32],
         mk64 [(((d.actImage g.handle).map ActImage.imageId).getD 0).toNat, at' g.tickUs 32], mk64 [g.maxCycles, at' g.stateMib 32],
         mk64 (((List.range 64).filter (fun c => (g.threads ++ g.leaving).any (fun t => t / 8 == c))).map (fun c => 2 ^ c))] d))) ∧
    (Accepted spec0545 ch r s.dev d →
      (reaches ch sl = false → Becomes (.actSignal ch r) s (answer (mkJob spec0545 ch r d) .notPermitted [] d)) ∧
      (reaches ch sl = true → groupFor d sl h = none → Becomes (.actSignal ch r) s (answer (mkJob spec0545 ch r d) .badArgument [] d))) ∧
    (Accepted spec0545 ch r s.dev d → ∀ n g, groupFor d sl h = some (n, g) → reaches ch sl = true →
      ((d.slice sl).state ≠ .active → Becomes (.actSignal ch r) s (answer (mkJob spec0545 ch r d) .busy [] d)) ∧
      ((d.slice sl).state = .active → Ends (.actSignal ch r) s (fun f => ∃ e, f = answer (mkJob spec0545 ch r d) .ok [] e ∧
        (∀ t ∈ g.threads ++ g.leaving, (e.thread t).latched = (d.thread t).latched ||| BitVec.ofNat 16 (16 * fld (r.word 0) 51 48)) ∧
        (∀ t, t ∉ g.threads ++ g.leaving → e.thread t = d.thread t)))) ∧
    (Accepted spec0544 ch r s.dev d → ∀ k, Builds (reqVersion r) k d → Ends (.actProgramBind ch r) s (fun f => ∃ e,
      f = answer (mkJob spec0544 ch r d) .ok [] e ∧
      progBinding e k (fld (r.word 1) 11 0) = (if bit (r.word 1) 24 then ⟨true, r.word 1, r.word 2⟩ else ProgBind.none) ∧
      (∀ n, n ≠ fld (r.word 1) 11 0 → progBinding e k n = progBinding d k n) ∧ (∀ j, j ≠ k → e.slot j = d.slot j))) ∧
    (Accepted spec0546 ch r s.dev d →
      let k := fld (r.word 0) 2 0
      let b := progBinding d k (fld (r.word 0) 27 16)
      ((d.slot k).state = .free → Becomes (.actBindQuery ch r) s (answer (mkJob spec0546 ch r d) .badArgument [] d)) ∧
      ((d.slot k).state ≠ .free → Becomes (.actBindQuery ch r) s (answer (mkJob spec0546 ch r d) d.readStatus (if b.valid then
        [mk64 [progOwner b, at' 1 12, at' (progImage b).toNat 32], BitVec.ofNat 64 (progMask b)] else [0, 0]) d))) ∧
    (Accepted spec0542 ch r s.dev d → (imageOf d sl h).isSome = true → reaches ch sl = true → (d.slice sl).state = .active →
      let w1 := r.word 1
      let w2 := r.word 2
      let n := fld w1 6 0
      let mib := fld w1 42 32
      let k := (d.slice sl).profile.threadSlots
      let num := d.assign (d.groupList.map Prod.fst)
      (bit (r.word 0) 48 = true → groupFor d sl h = none → 1 ≤ n → n ≤ 64 → mib ≤ 1024 → 1000 ≤ fld w2 16 0 → fld w2 16 0 ≤ 100000 →
        (threadsOf d sl + n ≤ (d.slice sl).profile.threads → groupMib d + mib ≤ programMib d →
          (placement d h k n = none → Becomes (.actGroupSet ch r) s (answer (mkJob spec0542 ch r d) .noResource [] d)) ∧
          (∀ ts e, placement d h k n = some ts → Recorded spec0542 ch r num [BitVec.ofNat 64 num] d e →
            Becomes (.actGroupSet ch r) s (newGroup num sl h w1 w2 ts e))) ∧
        ((d.slice sl).profile.threads < threadsOf d sl + n → Becomes (.actGroupSet ch r) s (answer (mkJob spec0542 ch r d) .noResource [] d))) ∧
      (∀ g : Nat × Group, groupFor d sl h = some g → bit (r.word 0) 48 = true → 1 ≤ n → n ≤ 64 → mib = g.2.stateMib → mib ≤ 1024 → 1000 ≤ fld w2 16 0 →
        fld w2 16 0 ≤ 100000 → threadsOf d sl + (n - g.2.threads.length) ≤ (d.slice sl).profile.threads →
        ∀ ts e, placement d h k (n - g.2.threads.length) = some ts → Recorded spec0542 ch r g.1 [BitVec.ofNat 64 g.1] d e →
          Becomes (.actGroupSet ch r) s (changeGroup g.1 n w1 w2 ts e)) ∧
      (∀ g : Nat × Group, groupFor d sl h = some g → bit (r.word 0) 48 = false →
        (boundSomewhere d sl (((imageOf d sl h).map ActImage.imageId).getD 0) = true →
          Becomes (.actGroupSet ch r) s (answer (mkJob spec0542 ch r d) .busy [] d)) ∧
        (boundSomewhere d sl (((imageOf d sl h).map ActImage.imageId).getD 0) = false → ∀ e, Recorded spec0542 ch r g.1 [BitVec.ofNat 64 g.1] d e →
          Becomes (.actGroupSet ch r) s (removeGroup g.1 e))))) ∧
  (∀ (s : Dev) (h k n : Nat) (ts : List Nat), placement s h k n = some ts → ts.length = n ∧ ts.Nodup ∧
    (∀ t ∈ ts, t < 512 ∧ (s.thread t).state = .free) ∧ ts.Pairwise (· < ·))

/-- R384 to R387: what a meter takes from its buckets, the colour that a packet leaves with, and when it is dropped. R378 to R383, R388 to R401: a
packet that enters the traffic manager, a dequeue opportunity, a scheduler period, a depth sample. -/
def Obligations.TrafficManager : Prop :=
  ((∀ (m : TMeter) (x : MeterRun) (len c0 : Nat) (now : Time),
     let b := 1024 * ((len : Int) + m.overhead).toNat
     let tc := min (1024 * m.cbs) (x.tc + refill m.cir (Time.since now x.last))
     let tp := min (1024 * m.pbs) (x.tp + refill m.pir (Time.since now x.last))
     let r := (colour m x len c0 now).1
     let y := (colour m x len c0 now).2
     r ≤ 2 ∧ y.tc ≤ 1024 * m.cbs ∧ y.tp ≤ 1024 * m.pbs ∧ y.last = now ∧
     (r = 2 → y.tc = tc ∧ y.tp = tp ∧ y.red = x.red + 1 ∧ y.yellow = x.yellow ∧ y.green = x.green) ∧
     (r = 1 → y.tc = tc ∧ b ≤ tp ∧ y.tp = tp - b ∧ y.yellow = x.yellow + 1 ∧ y.red = x.red ∧ y.green = x.green) ∧
     (r = 0 → b ≤ tc ∧ y.tc = tc - b ∧ y.green = x.green + 1 ∧ y.red = x.red ∧ y.yellow = x.yellow ∧
       (m.mode = false → b ≤ tp ∧ y.tp = tp - b) ∧ (m.mode = true → y.tp = tp)) ∧
     (m.aware = true → c0 ≠ 3 → c0 ≤ r ∨ 2 < c0) ∧
     (m.mode = false → tp < b → r = 2) ∧ (m.mode = false → m.aware = false → b ≤ tp → b ≤ tc → r = 0) ∧
     (m.mode = true → m.aware = false → b ≤ tc → r = 0)) ∧
   (∀ (p : Pkt) (port : Nat) (s : Dev) (m : TMeter), tmeter s.tmg.live (policerOf p port) = some m → (policerOf p port = 131071 → port = 75) →
     (m.owner ≠ 0 → m.owner ≠ p.tag.slice.toNat → police p port s = (some p, count .tmgPolicerForeign 0 s)) ∧
     (m.owner = 0 ∨ m.owner = p.tag.slice.toNat →
       let r := (colour m (s.meterRun (policerOf p port) m) p.tag.length.toNat p.tag.colour.toNat s.now).1
       ((police p port s).1 = none ↔ r = 2 ∧ m.mark = false) ∧
       (∀ q, (police p port s).1 = some q → q.bytes = p.bytes ∧ q.tag.colour.toNat = max r (if p.tag.colour = 3 then 0 else p.tag.colour.toNat) ∧
         q.tag.slice = p.tag.slice ∧ q.tag.queue = p.tag.queue ∧ (r = 2 → q.tag.flag 10 = true)))) ∧
   (∀ (p : Pkt) (port : Nat) (s : Dev), tmeter s.tmg.live (policerOf p port) = none → police p port s = (some p, s)) ∧
   (∀ p : Pkt, policerOf p 75 = 131071)) ∧
  ((∀ (lost : Bool) (s : State), s.dev.tmg.input = [] → Becomes (.tmgEnqueue lost) s s.dev) ∧
   (∀ (lost : Bool) (s : State) (p : Pkt) (rest : List Pkt), s.dev.tmg.input = p :: rest →
     let d := { s.dev with tmg := { s.dev.tmg with input := rest } }
     (∀ m, p.marker = some m → Becomes (.tmgEnqueue lost) s { d with fabric := { d.fabric with markers := d.fabric.markers ++ [(8, p.pipe, m)] } }) ∧
     (p.marker = none → p.tag.flag 2 = true → ∀ e, p.dest = .port e →
       (((d.tp e).control.map cellsOf).sum + cellsOf p ≤ 64 →
         Becomes (.tmgEnqueue lost) s (endFlight p (d.setTp e { d.tp e with control := (d.tp e).control ++ [p] }))) ∧
       (64 < ((d.tp e).control.map cellsOf).sum + cellsOf p → Becomes (.tmgEnqueue lost) s (endFlight p (count .tmgCtrlDrop e d)))) ∧
     (p.marker = none → p.tag.flag 2 = false → Becomes (.tmgEnqueue lost) s (tmgPlace lost p d)) ∧
     (p.marker = none → p.tag.flag 2 = false → p.mirror = 0 → ∀ e q x, p.dest = .port e → tmeter d.tmg.live (policerOf p e) = none →
       d.egressOk e = true → chooseQueue d e p.tag.slice.toNat p.cls p.tag.queue.toNat = .inr q → tqueue d.tmg.live q = some x →
       let c := if p.tag.colour = 3 then 0 else p.tag.colour.toNat
       Ends (.tmgEnqueue false) s (fun t => (∀ u, u ≠ q → t.tq u = s.dev.tq u) ∧
         (admits d q (cellsOf p) c x = true → ∃ i : TItem, (t.tq q).items = (s.dev.tq q).items ++ [i] ∧ i.pkt.bytes = p.bytes ∧
           i.pkt.tag = (if p.tag.colour = 3 then { p.tag with colour := 0 } else p.tag)) ∧
         (admits d q (cellsOf p) c x = false → t.tq q = s.dev.tq q))) ∧
     (p.marker = none → p.tag.flag 2 = false → p.mirror = 0 → ∀ e, p.dest = .port e → tmeter d.tmg.live (policerOf p e) = none → d.egressOk e = false →
       Ends (.tmgEnqueue false) s (fun t => (∀ u, t.tq u = s.dev.tq u) ∧
         t.counter .fwdBadEgress p.pipe = s.dev.counter .fwdBadEgress p.pipe + 1))) ∧
   (∀ (s : Dev) (q n c : Nat) (x : TQueue), admits s q n c x = true →
     (SMap.get 0 s.tmg.live.limits x.slice ≠ 0 → sliceCells s x.slice + n ≤ SMap.get 0 s.tmg.live.limits x.slice) ∧
     (x.minCells < qCells (s.tq q) + n → 100 * (qCells (s.tq q) + n) ≤ min x.maxCells (sharedFree s * 2 ^ x.alpha / 64) * colourPct x c)) ∧
   (∀ (p : Nat) (ue : Option Nat) (s : State), Wf.dequeue p ue = true →
     (∀ k rest, (s.dev.tp p).control = k :: rest → Becomes (.dequeue p ue) s (sendEgress p 0 ue k (s.dev.setTp p { s.dev.tp p with control := rest }))) ∧
     ((s.dev.tp p).control = [] → portEligible s.dev p = false → Becomes (.dequeue p ue) s s.dev) ∧
     ((s.dev.tp p).control = [] → portEligible s.dev p = true → Ends (.dequeue p ue) s (fun d => ∃ q, (∀ u, u ≠ q → (d.tq u).items = (s.dev.tq u).items) ∧
       ((d.tq q).items = (s.dev.tq q).items ∨
         (d.tq q).items = (s.dev.tq q).items.tail ∧ (queueCommitted s.dev q = true ∨ queueExcess s.dev q = true))))) ∧
   (∀ (s : State), Ends .schedulerPeriod s (fun d => d.tmg.periods = (s.dev.tmg.periods + 1) % 2 ^ 48 ∧
     d.tmg.pend = s.dev.tmg.pend.drop (dueCommands s.dev).length ∧
     d.tmg.live = (dueCommands s.dev).foldl (fun c e => applyTmg e.2.1 e.2.2.1 e.2.2.2 c) s.dev.tmg.live ∧ d.tmg.cfg = s.dev.tmg.cfg)) ∧
   (∀ (s : Dev) (q : Nat) (x : TQueue), SMap.rising s.tmg.queues = true → tqueue s.tmg.live q = some x →
     ((refillBuckets s).tq q).cSpent = (s.tq q).cSpent - x.cir ∧ ((refillBuckets s).tq q).pSpent = (s.tq q).pSpent - x.pir ∧
     ((refillBuckets s).tq q).items = (s.tq q).items) ∧
   (∀ (s : State), (s.dev.regField isl.TMG 0x048 16 16 = 0 → Becomes .queueDepthSample s s.dev) ∧
     (s.dev.regField isl.TMG 0x048 16 16 = 1 → Ends .queueDepthSample s (fun d =>
       d.tmg = { s.dev.tmg with sampleAt := (s.dev.tmg.sampleAt + 1) % 65536 }))))

/-- R399, R403, Table 11-4: the traffic manager commands, and what each sets. -/
def Obligations.TmgCommands : Prop :=
  (∀ (ch : Nat) (r : Req) (s : State) (d : Dev), cmdWf ch r = true →
    let w := r.word 0
    let w1 := r.word 1
    let c := d.tmg.cfg
    let sets : Instr → CmdSpec → Nat → List W64 → Prop := fun i sp subject ws =>
      ∀ e, Recorded sp ch r subject ws d e → Becomes i s (commandTmg sp.opcode subject r.words e)
    let gives : Instr → CmdSpec → Status → Prop := fun i sp st => Becomes i s (answer (mkJob sp ch r d) st [] d)
    (Accepted spec0600 ch r s.dev d →
      (75 < fld w 7 0 ∨ signed7 (fld w 14 8) < -32 → gives (.tmgPortSet ch r) spec0600 .badArgument) ∧
      (fld w 7 0 ≤ 75 → -32 ≤ signed7 (fld w 14 8) → sets (.tmgPortSet ch r) spec0600 (fld w 7 0) [])) ∧
    (Accepted spec0601 ch r s.dev d →
      let p := fld w 7 0
      let g := fld w 11 8
      (75 < p ∨ (bit w 12 = false ∧ g = 0) → gives (.tmgGroupSet ch r) spec0601 .badArgument) ∧
      (p ≤ 75 → bit w 12 = true → 1 ≤ fld w 25 16 → fld w 25 16 ≤ 1000 → fld w1 63 32 = 0 ∨ fld w1 31 0 ≤ fld w1 63 32 →
        sets (.tmgGroupSet ch r) spec0601 (16 * p + g) []) ∧
      (bit w 12 = true → fld w1 63 32 ≠ 0 → fld w1 63 32 < fld w1 31 0 → gives (.tmgGroupSet ch r) spec0601 .badArgument) ∧
      (p ≤ 75 → bit w 12 = false → g ≠ 0 → groupInUse c p g = true → gives (.tmgGroupSet ch r) spec0601 .busy) ∧
      (p ≤ 75 → bit w 12 = false → g ≠ 0 → groupInUse c p g = false → sets (.tmgGroupSet ch r) spec0601 (16 * p + g) [])) ∧
    (Accepted spec0602 ch r s.dev d →
      let sl := fld w 11 0
      let p := fld w 19 12
      (75 < p ∨ (d.slice sl).state = .free → gives (.tmgSliceNodeSet ch r) spec0602 .badArgument) ∧
      (p ≤ 75 → (d.slice sl).state ≠ .free → bit w 24 = true → tgroup c p (fld w 23 20) ≠ none →
        ((tnode c p sl).isSome = true ∨ nodeCount c < 16384 → sets (.tmgSliceNodeSet ch r) spec0602 (4096 * p + sl) []) ∧
        (tnode c p sl = none → 16384 ≤ nodeCount c → gives (.tmgSliceNodeSet ch r) spec0602 .noResource)) ∧
      (p ≤ 75 → (d.slice sl).state ≠ .free → bit w 24 = false →
        (queuesOf c p sl ≠ [] → gives (.tmgSliceNodeSet ch r) spec0602 .busy) ∧
        (queuesOf c p sl = [] → sets (.tmgSliceNodeSet ch r) spec0602 (4096 * p + sl) []))) ∧
    (Accepted spec0603 ch r s.dev d →
      ((d.slice (fld w 11 0)).state = .free → gives (.tmgSliceLimit ch r) spec0603 .badArgument) ∧
      ((d.slice (fld w 11 0)).state ≠ .free → sets (.tmgSliceLimit ch r) spec0603 (fld w 11 0) [])) ∧
    (Accepted spec0604 ch r s.dev d →
      let x := queueOfWords r.words
      let q := fld w 47 32
      (75 < x.port → gives (.tmgQueueSet ch r) spec0604 .badArgument) ∧
      (x.port ≤ 75 → bit w 26 = true → bit w 48 = false → (d.slice x.slice).state ≠ .free → 1 ≤ x.qweight → x.qweight ≤ 1000 → x.alpha ≤ 9 →
        x.yellow ≤ 100 → x.red ≤ 100 → tqueue c q = none → (tnode c x.port x.slice).isSome = true →
        (sharedPool c < x.minCells → gives (.tmgQueueSet ch r) spec0604 .noResource) ∧
        (x.minCells ≤ sharedPool c →
        ((queuesOfSlice c x.slice).length < (d.slice x.slice).profile.schedQueues → sets (.tmgQueueSet ch r) spec0604 q [BitVec.ofNat 64 q]) ∧
        ((d.slice x.slice).profile.schedQueues ≤ (queuesOfSlice c x.slice).length → gives (.tmgQueueSet ch r) spec0604 .noResource))) ∧
      (x.port ≤ 75 → bit w 26 = true → bit w 48 = true → (d.slice x.slice).state ≠ .free → 1 ≤ x.qweight → x.qweight ≤ 1000 → x.alpha ≤ 9 →
        x.yellow ≤ 100 → x.red ≤ 100 → freeQueue c < 65536 → (tnode c x.port x.slice).isSome = true → x.minCells ≤ sharedPool c →
        (queuesOfSlice c x.slice).length < (d.slice x.slice).profile.schedQueues →
          sets (.tmgQueueSet ch r) spec0604 (freeQueue c) [BitVec.ofNat 64 (freeQueue c)]) ∧
      (∀ y, x.port ≤ 75 → bit w 26 = true → bit w 48 = false → (d.slice x.slice).state ≠ .free → 1 ≤ x.qweight → x.qweight ≤ 1000 → x.alpha ≤ 9 →
        x.yellow ≤ 100 → x.red ≤ 100 → tqueue c q = some y →
        (y.slice ≠ x.slice ∨ y.port ≠ x.port ∨ y.cls ≠ x.cls → gives (.tmgQueueSet ch r) spec0604 .badArgument) ∧
        (y.slice = x.slice → y.port = x.port → y.cls = x.cls → x.minCells ≤ y.minCells + sharedPool c → (tnode c x.port x.slice).isSome = true →
          sets (.tmgQueueSet ch r) spec0604 q [BitVec.ofNat 64 q])) ∧
      (x.port ≤ 75 → bit w 26 = false → bit w 48 = false → (tqueue c q).isSome = true →
        (qCells (d.tq q) ≠ 0 → gives (.tmgQueueSet ch r) spec0604 .busy) ∧
        (qCells (d.tq q) = 0 → sets (.tmgQueueSet ch r) spec0604 q [BitVec.ofNat 64 q]))) ∧
    (Accepted spec0606 ch r s.dev d →
      let m := fld w 16 0
      let owner := fld w 31 20
      (m = 131071 → owner ≠ 0 → gives (.tmgPolicerSet ch r) spec0606 .badArgument) ∧
      (bit w 35 = true → bit w 32 = false → fld w1 63 32 < fld w1 31 0 → gives (.tmgPolicerSet ch r) spec0606 .badArgument) ∧
      (-32 ≤ signed7 (fld w 46 40) → (m = 131071 → owner = 0) → bit w 35 = true → (d.slice owner).state ≠ .free →
        bit w 32 = true ∨ fld w1 31 0 ≤ fld w1 63 32 → tmeter c m = none →
        (metersOf c owner < (d.slice owner).profile.policers → sets (.tmgPolicerSet ch r) spec0606 m []) ∧
        (m = 131071 → sets (.tmgPolicerSet ch r) spec0606 m []) ∧
        (m ≠ 131071 → (d.slice owner).profile.policers ≤ metersOf c owner → gives (.tmgPolicerSet ch r) spec0606 .noResource))) ∧
    (Accepted spec0608 ch r s.dev d →
      ((∃ h ∈ floodHosts r.words, h.1 = 3) → gives (.tmgFloodListSet ch r) spec0608 .badArgument) ∧
      ((∀ h ∈ floodHosts r.words, h.1 < 3) → sets (.tmgFloodListSet ch r) spec0608 (fld w 11 0) [])) ∧
    (Accepted spec0609 ch r s.dev d →
      (fld w 3 0 = 0 → gives (.tmgMirrorSet ch r) spec0609 .badArgument) ∧
      (fld w 3 0 ≠ 0 → bit w 4 = false ∨ (fld w 15 8 ≤ 75 ∧ (fld w 31 16 = 0 ∨ (64 ≤ fld w 31 16 ∧ fld w 31 16 ≤ 16384)) ∧ fld w1 15 0 ≠ 0) →
        sets (.tmgMirrorSet ch r) spec0609 (fld w 3 0) [])) ∧
    (Accepted spec0605 ch r s.dev d →
      let q := fld w 15 0
      (tqueue d.tmg.live q = none → gives (.tmgQueueStats ch r) spec0605 .badArgument) ∧
      (∀ x, tqueue d.tmg.live q = some x →
        (ch < 4096 → ch ≠ x.slice → gives (.tmgQueueStats ch r) spec0605 .notPermitted) ∧
        (4096 ≤ ch ∨ ch = x.slice → Becomes (.tmgQueueStats ch r) s (answer (mkJob spec0605 ch r d) .ok
          (mk64 [qCells (d.tq q), at' (d.tq q).items.length 32] :: BitVec.ofNat 64 (headDelay d (d.tq q)) :: binWords (d.tq q).bins) d)))) ∧
    (Accepted spec0607 ch r s.dev d →
      let m := fld w 16 0
      (tmeter d.tmg.live m = none → gives (.tmgPolicerStats ch r) spec0607 .badArgument) ∧
      (∀ x, tmeter d.tmg.live m = some x → 4096 ≤ ch ∨ ch = x.owner → Becomes (.tmgPolicerStats ch r) s (answer (mkJob spec0607 ch r d) .ok
        [(d.meterRun m x).green, (d.meterRun m x).yellow, (d.meterRun m x).red, polState d m] d)))) ∧
  (∀ (op n : Nat) (ws : List W64) (d : Dev), (commandTmg op n ws d).tmg.live = d.tmg.live ∧ (commandTmg op n ws d).tmg.cfg = applyTmg op n ws d.tmg.cfg ∧
    (commandTmg op n ws d).tmg.pend = d.tmg.pend ++ [(d.jnl.nextSeq - 1, op, n, ws)]) ∧
  (∀ (n : Nat) (ws : List W64) (c : TmgCfg),
    let w := ws.getD 0 0
    let w1 := ws.getD 1 0
    let w2 := ws.getD 2 0
    tport (applyTmg 0x600 n ws c) (fld w 7 0) = ⟨signed7 (fld w 14 8), fld w1 31 0, fld w1 55 32, BitVec.ofNat 24 (fld w2 23 0)⟩ ∧
    tgroup (applyTmg 0x601 n ws c) (fld w 7 0) (fld w 11 8) =
      (if bit w 12 then some ⟨fld w 25 16, fld w1 31 0, fld w1 63 32, fld w2 23 0, fld w2 55 32⟩ else none) ∧
    tnode (applyTmg 0x602 n ws c) (fld w 19 12) (fld w 11 0) =
      (if bit w 24 then some ⟨fld w 23 20, fld w 27 25, fld w1 31 0, fld w1 55 32⟩ else none) ∧
    SMap.get 0 (applyTmg 0x603 n ws c).limits (fld w 11 0) = fld w 51 32 ∧
    tqueue (applyTmg 0x604 n ws c) n = (if bit w 26 then some (queueOfWords ws) else none) ∧
    (∀ q, q ≠ n → tqueue (applyTmg 0x604 n ws c) q = tqueue c q) ∧
    (bit w 26 = true → bit w 27 = true → tqmap (applyTmg 0x604 n ws c) (qmapKey (fld w 19 12) (fld w 11 0) (fld w 22 20)) = some n) ∧
    (bit w 26 = true → (tnode (applyTmg 0x604 n ws c) (fld w 19 12) (fld w 11 0)).isSome = true) ∧
    tmeter (applyTmg 0x606 n ws c) (fld w 16 0) = (if bit w 35 then
      some ⟨fld w 31 20, bit w 32, bit w 33, bit w 34, signed7 (fld w 46 40), fld w1 31 0, fld w1 63 32, fld w2 23 0, fld w2 55 32⟩ else none) ∧
    (SMap.get none (applyTmg 0x608 n ws c).floods (fld w 11 0)).map TFlood.hosts = (if bit w 12 then some (floodHosts ws) else none) ∧
    SMap.get none (applyTmg 0x609 n ws c).mirrors (fld w 3 0) = (if bit w 4 then some ⟨fld w 15 8, fld w 31 16, fld w 49 32, fld w1 15 0⟩ else none))

/-- R411 to R413, Table 12-2: a block is taken in SEQ order with a good CRC and refused with NAK otherwise; what an acknowledgement covers is kept no
longer; a NAK and a time without acknowledgement replay what is kept; the 17th replay of a block takes the bundle out of UP with cause 3. -/
def Obligations.LinkBlocks : Prop :=
  (∀ (b : Nat) (bs : List Byte) (s : State), Wf.linkBlockReceive b bs = true →
    let x := s.dev.bundle b
    let k := linkIn bs
    let good := beNat ((bs.drop 264).take 4) = (~~~ (crc32c (BitVec.allOnes 32) (bs.take 264))).toNat
    let runs := x.state ≠ .down ∧ x.state ≠ .refused
    let credited := { x with credit0 := x.credit0 + k.credit0, credit1 := x.credit1 + 16 * k.credit1 }
    let nak := fun d => count .lnkBlockCrc b (emit (.linkAck b (x.rxNext - 1) true 0 0) d)
    let after := fun d => Becomes (.linkBlockReceive b bs) s d
    (¬ runs → after s.dev) ∧ (runs → ¬ good → after (nak s.dev)) ∧
    (runs → good → k.ackValid = false → x.txq = [] →
      (k.idle = true → after (tryMoves (s.dev.setBundle b credited))) ∧
      (k.idle = false → k.seq ≠ x.rxNext → after (nak (tryMoves (s.dev.setBundle b credited)))) ∧
      (k.idle = false → k.seq = x.rxNext →
        let was := if k.sof then [] else if k.vc1 then x.asm1 else x.asm0
        Ends (.linkBlockReceive b bs) s (fun d => (d.bundle b).rxNext = x.rxNext + 1 ∧ (∀ j, j ≠ b → d.bundle j = s.dev.bundle j) ∧
          (k.abort = true → (d.bundle b).frames = x.frames ∧ d.counter .lnkAborted b = s.dev.counter .lnkAborted b + 1) ∧
          (k.abort = false → k.eof = true → (d.bundle b).frames = x.frames ++ [(k.vc1, was ++ k.payload)]) ∧
          (k.abort = false → k.eof = false → (d.bundle b).frames = x.frames ∧
            (if k.vc1 then (d.bundle b).asm1 = was ++ k.payload ∧ (d.bundle b).asm0 = x.asm0
              else (d.bundle b).asm0 = was ++ k.payload ∧ (d.bundle b).asm1 = x.asm1))))) ∧
    (runs → good → k.ackValid = true → k.idle = true → x.txq = [] →
      let left := x.unacked.filter (fun e => decide (2048 ≤ (k.ackSeq - e.1.seq).toNat))
      let y := { credited with unacked := left, ackFrom := if left.length < x.unacked.length then s.dev.now else x.ackFrom }
      let again := left.map (fun e => (e.1, e.2 + 1))
      (k.nak = false → after (tryMoves (s.dev.setBundle b y))) ∧
      (k.nak = true → (∀ e ∈ left, e.2 < 16) → after (tryMoves (again.foldl
        (fun d e => emit (.linkBlock b e.1.seq e.1.vc1 e.1.sof e.1.eof e.1.abort e.1.payload) d)
        (countBy .lnkReplays b again.length ((s.dev.setBundle b y).setBundle b { y with unacked := again, ackFrom := s.dev.now }))))))) ∧
  (∀ (b : Nat) (s : State), b < 8 →
    let x := s.dev.bundle b
    let again := x.unacked.map (fun e => (e.1, e.2 + 1))
    let t := reach (x.ackFrom + BitVec.ofNat 48 (1000 * s.dev.str.replayUs)) s.dev
    (x.unacked = [] → Becomes (.lanternReplayTimeout b) s s.dev) ∧
    (x.unacked ≠ [] → (∀ e ∈ x.unacked, e.2 < 16) → Becomes (.lanternReplayTimeout b) s (again.foldl
      (fun d e => emit (.linkBlock b e.1.seq e.1.vc1 e.1.sof e.1.eof e.1.abort e.1.payload) d)
      (countBy .lnkReplays b again.length (t.setBundle b { x with unacked := again, ackFrom := t.now })))) ∧
    ((∃ e ∈ x.unacked, 16 ≤ e.2) → x.state = .up → Ends (.lanternReplayTimeout b) s (fun d => (d.bundle b).state = .down ∧
      (d.bundle b).unacked = [] ∧ d.mgt.faults.getLast?.map (fun f => (f.code, f.detail2)) = some (0x0701, mk64 [b, at' 3 4, at' x.peerNode 8]) ∧
      (s.dev.str.mode ≠ 0 → d.str.state = .forming ∧ d.str.epoch = s.dev.str.highEpoch + 1))))

/-- R65, R67, R415 to R422, Table 12-4: a whole frame is dropped in the counter of the first check that it fails; else it is delivered, relayed or both
by its KIND. What goes out goes on VC 0 first; transit and local data share by their weights; what is too old is dropped. -/
def Obligations.FramesOnTheString : Prop :=
  (∀ (b : Nat) (s : State), b < 8 → (s.dev.bundle b).frames = [] → Becomes (.lanternFrameReceive b) s s.dev) ∧
  (∀ (b : Nat) (vc1 : Bool) (bs : List Byte) (rest : List (Bool × List Byte)) (s : State), b < 8 → (s.dev.bundle b).frames = (vc1, bs) :: rest →
    let s0 := s.dev.setBundle b { s.dev.bundle b with frames := rest, refused := false }
    let s1 := if vc1 then returnCredit1 b ((bs.length + 255) / 256) s0 else s0
    let after := fun d => Becomes (.lanternFrameReceive b) s d
    (lanternParse vc1 bs = none → after (count .lnkHdrBad b s1)) ∧
    (∀ f, lanternParse vc1 bs = some f →
      (tagBytesOk ((bs.drop 8).take 32) (bs.drop 40).length = false → after (count .tagBad isl.LNK (count .lnkHdrBad b s1))) ∧
      (tagBytesOk ((bs.drop 8).take 32) (bs.drop 40).length = true → s.dev.versionOk f.tag = false →
        after (count .vslotBad isl.LNK (count .lnkHdrBad b s1))) ∧
      (tagBytesOk ((bs.drop 8).take 32) (bs.drop 40).length = true → s.dev.versionOk f.tag = true →
        (tooOld s.dev f.tag = true → after (count .lnkAged b s1)) ∧
        (tooOld s.dev f.tag = false → frameStalls s.dev f = true →
          let full := bucketFull s.dev 2 f.tag.flowHash ((f.body.length + 32 + 255) / 256)
          ((s.dev.bundle b).refused = true ∨ full = false → after s.dev) ∧
          ((s.dev.bundle b).refused = false → full = true →
            after (count .distHoldFull 2 (s.dev.setBundle b { s.dev.bundle b with refused := true })))) ∧
        (tooOld s.dev f.tag = false → frameStalls s.dev f = false → Bundle.live (s.dev.bundle b) = false → f.kind ≠ 4 →
          after (countBy .lnkRxBytes b f.body.length (count .lnkRxFrames b s1))) ∧
        (tooOld s.dev f.tag = false → frameStalls s.dev f = false → Bundle.live (s.dev.bundle b) = true →
          let g : LFrame := { f with from' := some (b, s.dev.now) }
          let t := countBy .lnkRxBytes b f.body.length (count .lnkRxFrames b s1)
          let o := 1 - b
          (f.kind = 0 → f.dest = s.dev.str.node → after (deliverData g t)) ∧
          (f.kind = 0 ∨ f.kind = 2 → f.dest ≠ s.dev.str.node → f.hops = 0 → after (count .lnkTtlDrop b t)) ∧
          (f.kind = 0 → f.dest ≠ s.dev.str.node → f.hops ≠ 0 → s.dev.str.mode = 1 →
            ((t.bundle o).state = .up → after (t.setBundle o { t.bundle o with transit := (t.bundle o).transit ++ [{ g with hops := f.hops - 1 }] })) ∧
            ((t.bundle o).state ≠ .up → after (count .lnkNoRoute o t))) ∧
          (f.kind = 1 → f.hops = 0 → after (deliverData g t)) ∧
          (f.kind = 1 → f.hops ≠ 0 → s.dev.str.mode = 1 → after (relayOn o g (deliverData g t))) ∧
          (f.kind = 2 → f.dest = s.dev.str.node → after (deliverCtl b g t)) ∧
          (f.kind = 3 → f.tag.originNode.toNat = s.dev.str.node → after t) ∧
          (f.kind = 3 → f.tag.originNode.toNat ≠ s.dev.str.node → f.hops = 0 → after (deliverCtl b g t)) ∧
          (f.kind = 4 → ∀ h m, ctlMsg f.tag.originNode.toNat f.body = some (h, m) →
            after { t with str := { t.str with ctlIn := t.str.ctlIn ++ [⟨b, h, m⟩] } }) ∧
          (f.kind = 5 → ∀ h m, ctlMsg f.tag.originNode.toNat f.body = some (h, m) →
            h.org = s.dev.str.node ∨ (CtlBody.typ m, h.org, h.epoch.toNat) ∈ s.dev.str.relayed → after t))))) ∧
  (∀ (b : Nat) (s : State), b < 8 →
    let d := applyBoundary .frameStart isl.LNK s.dev
    let x := d.bundle b
    let data := x.state = .up ∧ d.str.starting = false ∧ d.str.state ≠ .rejoining ∧ x.txq = []
    (∀ f rest, x.ctl = f :: rest → x.state ≠ .down → x.state ≠ .refused → Bundle.live x = true → f.kind ≠ 4 →
      Becomes (.lanternFrameTransmit b) s (startFrame b f (d.setBundle b { x with ctl := rest }))) ∧
    (∀ f rest, x.ctl = f :: rest → x.state = .up → f.kind = 4 → byteAt f.body 7 = 1 →
      Becomes (.lanternFrameTransmit b) s
        (startFrame b { f with body := f.body.take 16 ++ w64be [d.now.toNat] ++ f.body.drop 24 } (d.setBundle b { x with ctl := rest }))) ∧
    (x.ctl = [] → ¬ data → Becomes (.lanternFrameTransmit b) s d) ∧
    (x.ctl = [] → data → ∀ f fs g gs, x.transit = f :: fs → x.localQ = g :: gs →
      let turn := x.transitDeficit * d.regField isl.LNK 0x040 11 8 ≤ x.localDeficit * d.regField isl.LNK 0x040 3 0
      Ends (.lanternFrameTransmit b) s (fun e =>
        (turn → (e.bundle b).transit = fs ∧ (e.bundle b).localQ = x.localQ ∧
          e.counter .lnkAged b = d.counter .lnkAged b + (if tooOld d f.tag then 1 else 0)) ∧
        (¬ turn → (e.bundle b).localQ = gs ∧ (e.bundle b).transit = x.transit ∧
          e.counter .lnkAged b = d.counter .lnkAged b + (if tooOld d g.tag then 1 else 0))))) ∧
  (∀ (b n : Nat) (p : Pkt) (r : RouteTo) (d : Dev), p.dest = .node n → d.route n = some r →
    (p.tag.flag 2 = false → tooOld d p.tag = false → p.tag.flag 6 = false →
      lnkQueue b p d = d.setBundle b { d.bundle b with localQ := (d.bundle b).localQ ++ [⟨n, 0, r.hops - 1, p.tag, p.bytes, none⟩] }) ∧
    (p.tag.flag 2 = true → lnkQueue b p d = d.setBundle b { d.bundle b with ctl := (d.bundle b).ctl ++ [⟨n, 2, r.hops - 1, p.tag, p.bytes, none⟩] })) ∧
  (∀ (n : Nat) (seq : BitVec 32) (m : CtlBody) (d : Dev), n ≠ d.str.node → (d.route n).isSome = true →
    ∃ p : Pkt, p.bytes = ctlBody d.str.epoch seq m ∧ p.tag.flag 2 = true ∧ p.dest = .node n ∧
      sendAs seq (.member n) m d = post isl.MGT isl.TMG p (emit (.control (.member n) d.str.epoch seq m) d)) ∧
  (∀ d : Dev, d.str.mode = 1 → d.str.topology = 2 → d.str.members ≠ [] → Bundle.live (d.bundle 0) = true →
    d.floodReach 0 + d.floodReach 1 = d.str.members.length - 1 ∧ d.floodReach 1 ≤ d.floodReach 0 ∧ d.floodReach 0 ≤ d.floodReach 1 + 1) ∧
  (∀ (rs : List (Nat × List Found)) (n : Nat), match bestWay rs n with
    | none => ∀ e ∈ rs, ∀ f ∈ e.2, f.node ≠ n
    | some w => (∃ e ∈ rs, e.1 = w.1 ∧ w.2 ∈ e.2 ∧ w.2.node = n) ∧ ∀ e ∈ rs, ∀ f, e.2.find? (fun f => f.node == n) = some f →
        (w.2.slow = true → f.slow = true) ∧ (w.2.slow = f.slow → w.2.hops ≤ f.hops) ∧ (w.2.slow = f.slow → w.2.hops = f.hops → w.1 ≤ e.1))

/-- R424 to R427: when a bundle is marked slow and when the mark goes, what a discard leaves, which width is proposed, when the width changes, and what
the loss of a lane does. -/
def Obligations.SlowMarksAndWidths : Prop :=
  (∀ (b : Nat) (s : State), b < 8 →
    let d := creditSample s.dev
    let x := d.bundle b
    let y := s.dev.bundle b
    let hold := 1000 * d.regField isl.LNK 0x048 9 0
    let waits := y.transit ≠ [] ∨ y.localQ ≠ [] ∨ ∃ k ∈ y.txq, k.vc1 = true
    let marked := fun (slow : Bool) (e : Dev) =>
      rerouteSlow slow (sendCtl .broadcast (.linkState b slow x.peerNode) (noteSlow d.str.node b slow (e.setBundle b { x with slow := slow })))
    (b < s.dev.bundleCount →
      (y.state = .up ∧ y.credit1 = 0 ∧ waits → x.starved = some (y.starved.getD s.dev.now)) ∧
      (¬ (y.state = .up ∧ y.credit1 = 0 ∧ waits) → x.starved = none) ∧
      (0 < y.credit1 → x.flowing = some (y.flowing.getD s.dev.now)) ∧ (y.credit1 = 0 → x.flowing = none) ∧
      x = { y with starved := x.starved, flowing := x.flowing }) ∧
    (s.dev.bundleCount ≤ b → x = y) ∧
    (∀ t, x.starved = some t → x.slow = false → Becomes (.bundleMarkedSlow b) s
      (marked true (logFault isl.LNK 0xFF 0x0706 0 (mk64 [b, at' x.peerNode 8]) 0 (reach (t.plus hold) d)))) ∧
    (x.starved = none ∨ x.slow = true → Becomes (.bundleMarkedSlow b) s d) ∧
    (∀ t, x.flowing = some t → x.slow = true → Becomes (.slowMarkClear b) s (marked false (reach (t.plus (10 * hold)) d))) ∧
    (x.flowing = none ∨ x.slow = false → Becomes (.slowMarkClear b) s d)) ∧
  (∀ (m : CtlMsg) (k : Nat) (slow : Bool) (s : State) (t : Dev), Arrived isLinkState m (k, slow) s.dev t →
    Becomes .linkStateReceive s (rerouteSlow slow (noteSlow m.hdr.org k slow t)) ∧
    (t.str.topology ≠ 2 → Becomes .linkStateReceive s (noteSlow m.hdr.org k slow t))) ∧
  (∀ (n : Nat) (s : State), Wf.rerouteDiscard n = true →
    (s.dev.route n = none → Becomes (.rerouteDiscard n) s s.dev) ∧
    (∀ r, s.dev.route n = some r →
      (r.moveTo = none ∨ r.mayDiscard = false → Becomes (.rerouteDiscard n) s s.dev) ∧
      (r.moveTo ≠ none → r.mayDiscard = true → Ends (.rerouteDiscard n) s (fun d => d.now = (reach (r.since + 1000000) s.dev).now ∧
        (∀ p ∈ (d.xchan isl.TMG isl.LNK).carried, p.dest = .node n → p.tag.flag 6 = false → p.gone = true) ∧
        (d.bundle r.bundle).localQ = (s.dev.bundle r.bundle).localQ.filter (fun f => decide (f.dest ≠ n ∨ f.kind ≠ 0)) ∧
        (∀ j, j ≠ r.bundle → d.bundle j = s.dev.bundle j) ∧
        (∀ q, (tqueue s.dev.tmg.live q).map TQueue.port = some (64 + r.bundle) →
          (d.tq q).items = (s.dev.tq q).items.filter (fun i => decide (i.pkt.dest ≠ .node n ∨ i.pkt.tag.flag 6 = true))) ∧
        (∀ q, (tqueue s.dev.tmg.live q).map TQueue.port ≠ some (64 + r.bundle) → d.tq q = s.dev.tq q))))) ∧
  (∀ (b u u10 : Nat) (s : State), Wf.shedEvaluation b u u10 = true →
    let d := applyBoundary .bundleEval isl.LNK s.dev
    let x := d.bundle b
    let on := d.regField isl.LNK 0x038 0 0 = 1
    let low := d.regField isl.LNK 0x038 14 8
    let high := d.regField isl.LNK 0x038 22 16
    let proposes := fun w => Becomes (.shedEvaluation b u u10) s (sendCtl (.link b) (.lane w x.locked) (d.setBundle b { x with proposed := w }))
    (x.state ≠ .up → Becomes (.shedEvaluation b u u10) s d) ∧
    (x.state = .up →
      (¬ on → proposes d.maxWidth) ∧ (on → u < low → 2 < x.width → proposes (x.width / 2)) ∧
      (on → ¬ (u < low ∧ 2 < x.width) → high ≤ u10 → x.width < d.maxWidth → proposes (2 * x.width)) ∧
      (on → ¬ (u < low ∧ 2 < x.width) → ¬ (high ≤ u10 ∧ x.width < d.maxWidth) → proposes x.width))) ∧
  (∀ (m : CtlMsg) (w : Nat) (l : Bool) (s : State) (t : Dev), LinkArrived isLane m (w, l) s.dev t →
    Becomes .laneReceive s (t.setBundle m.bundle { t.bundle m.bundle with peerProposed := w, peerLocked := l })) ∧
  (∀ (b : Nat) (s : State), b < 8 →
    let d := s.dev
    let x := d.bundle b
    let narrow := 0 < x.proposed ∧ x.proposed < x.width ∧ 0 < x.peerProposed ∧ x.peerProposed < x.width
    let wide := x.width < x.proposed ∨ x.width < x.peerProposed
    let w := min (max x.proposed x.peerProposed) (widest x.lanesOk d.maxWidth)
    (x.state ≠ .up ∨ (¬ narrow ∧ ¬ wide) → Becomes (.widthChange b) s d) ∧
    (x.state = .up → narrow → Becomes (.widthChange b) s (count .lnkShed b (d.setBundle b { x with width := max x.proposed x.peerProposed }))) ∧
    (x.state = .up → wide → x.locked = true → x.peerLocked = true → x.width < w →
      Becomes (.widthChange b) s (count .lnkRestore b (d.setBundle b { x with width := w, locked := false, peerLocked := false }))) ∧
    (x.state = .up → wide → x.locked = false →
      Becomes (.widthChange b) s (sendCtl (.link b) (.lane x.proposed true) (d.setBundle b { x with locked := true })))) ∧
  (∀ (b lane : Nat) (s : State), Wf.laneLockLoss b lane = true →
    let x := s.dev.bundle b
    let lanes := x.lanesOk &&& ~~~ (BitVec.ofNat 16 (2 ^ lane))
    let w := widest lanes s.dev.maxWidth
    (x.lanesOk.getLsbD lane = false → Becomes (.laneLockLoss b lane) s s.dev) ∧
    (x.lanesOk.getLsbD lane = true → x.state = .up →
      (w ≠ 0 → Becomes (.laneLockLoss b lane) s
        (count .lnkLaneFail b (s.dev.setBundle b { x with lanesOk := lanes, width := min x.width w }))) ∧
      (w = 0 → Ends (.laneLockLoss b lane) s (fun d => (d.bundle b).state = .down ∧
        d.counter .lnkLaneFail b = s.dev.counter .lnkLaneFail b + 1 ∧
        d.mgt.faults.getLast?.map (fun f => (f.code, f.detail2)) = some (0x0701, mk64 [b, at' 1 4, at' x.peerNode 8]))))) ∧
  (∀ (lanes : BitVec 16) (n : Nat), n ≤ 16 →
    let w := widest lanes n
    (w = 0 ∨ (w ∈ [2, 4, 8, 16] ∧ ∃ g, (g + 1) * w ≤ n ∧ ∀ i, i < w → lanes.getLsbD (g * w + i) = true)) ∧
    (∀ v g, v ∈ [2, 4, 8, 16] → (g + 1) * v ≤ n → (∀ i, i < v → lanes.getLsbD (g * v + i) = true) → v ≤ w))

/-- R409, R429, R432 to R434, R443, R514, Table 12-8: the steps of a join with the reasons for which it is refused, heartbeats and what the servo takes
from them, and resends. -/
def Obligations.JoinsAndHeartbeats : Prop :=
  (∀ (b peer : Nat) (lanes : BitVec 16) (s : State), Wf.bundleLock b lanes peer = true →
    let x := s.dev.bundle b
    let w := widest lanes s.dev.maxWidth
    let goes := b < s.dev.bundleCount ∧ x.adminUp = true ∧ (x.state = .down ∨ x.state = .training) ∧ 0 < w
    (goes → Becomes (.bundleLock b lanes peer) s
      (s.dev.setBundle b { Bundle.reset with lanesOk := lanes, width := w, state := .authenticating, peerBundle := peer })) ∧
    (¬ goes → Becomes (.bundleLock b lanes peer) s s.dev)) ∧
  (∀ (m : CtlMsg) (sid : W64) (node mode : Nat) (fw epoch : BitVec 32) (sig : List Byte) (s : State) (t : Dev),
    LinkArrived isJoin m (sid, node, mode, fw, epoch, sig) s.dev t →
    let b := m.bundle
    let x := t.bundle b
    let y := { x with peerNode := node }
    let refused := fun (k : Nat) => Becomes .joinReceive s (count .lnkJoinRefused b (logFault isl.LNK 0xFF 0x0702 0 (mk64 [b, at' k 4, at' node 8]) 0
      ((t.setBundle b y).setBundle b { y with state := .refused, reason := k, refusedAt := t.now, accepted := false, ctl := [] })))
    let signed := t.eraseHold = false ∧ Config.ecdsaVerify (t.keySlot t.str.keySlot).pub x.transcript sig = true
    let fresh := node ∉ t.str.members
    let other := node ∈ t.str.members ∧ epoch = t.str.epoch ∧ node ≠ t.str.node
    let major := fun (v : BitVec 32) => v.toNat / 2 ^ 24
    (x.state ≠ .joining → Becomes .joinReceive s t) ∧
    (x.state = .joining →
      (sid ≠ t.str.stringId → refused 2) ∧
      (sid = t.str.stringId → ¬ signed → refused 3) ∧
      (sid = t.str.stringId → signed → ¬ fresh → ¬ other → refused 4) ∧
      (sid = t.str.stringId → signed → fresh ∨ other → mode ≠ t.str.mode → refused 5) ∧
      (sid = t.str.stringId → signed → fresh ∨ other → mode = t.str.mode → major fw ≠ major t.mgt.fwVersion → refused 6) ∧
      (sid = t.str.stringId → signed → fresh → mode = t.str.mode → major fw = major t.mgt.fwVersion → 8192 ≤ t.str.members.length → refused 7) ∧
      (sid = t.str.stringId → signed → other → mode = t.str.mode → major fw = major t.mgt.fwVersion → t.str.mode = 2 → refused 8) ∧
      (sid = t.str.stringId → signed → (fresh ∧ t.str.members.length < 8192) ∨ (other ∧ t.str.mode = 1) → mode = t.str.mode →
        major fw = major t.mgt.fwVersion → epochOlder t.str.highEpoch epoch = false → t.str.mode ≠ 0 →
        Ends .joinReceive s (fun d => (d.bundle b).accepted = true ∧ (d.bundle b).peerNode = node ∧ d.str.state = .forming ∧
          d.str.epoch = t.str.highEpoch + 1)))) ∧
  (∀ (b : Nat) (s : State), b < 8 →
    let x := s.dev.bundle b
    (x.state = .refused → x.adminUp = true → Becomes (.joinRetry b) s
      ((reach (x.refusedAt + 1000000000) s.dev).setBundle b { Bundle.reset with state := .training, lanesOk := x.lanesOk })) ∧
    (x.state ≠ .refused ∨ x.adminUp = false → Becomes (.joinRetry b) s s.dev) ∧
    (Bundle.live x = true →
      let d := rollTransit (reach (x.beatAt + BitVec.ofNat 48 (1000 * s.dev.str.heartbeatUs)) s.dev)
      Becomes (.heartbeatSend b) s (sendCtl (.link b)
        (.heartbeat d.now x.lastTx x.lastRx (hopsToLead d) (freeMin (ownFree d) b d)) (d.setBundle b { x with beatAt := d.now }))) ∧
    (Bundle.live x = false → Becomes (.heartbeatSend b) s s.dev) ∧
    (x.state ≠ .up → Becomes (.heartbeatTimeout b) s s.dev) ∧
    (x.state = .up → Ends (.heartbeatTimeout b) s (fun d => (d.bundle b).state = .down ∧
      d.counter .lnkHbMissed b = s.dev.counter .lnkHbMissed b + 1 ∧
      d.mgt.faults.getLast?.map (fun f => (f.code, f.detail2)) = some (0x0701, mk64 [b, at' 2 4, at' x.peerNode 8])))) ∧
  (∀ (m : CtlMsg) (t3 t1 t2 : Time) (hops : Nat) (free : FreeCounts) (s : State) (t : Dev), LinkArrived isHeartbeat m (t3, t1, t2, hops, free) s.dev t →
    let x := t.bundle m.bundle
    let t4 := t.now
    let delay : Int := ((t4 - t1).toInt - (t3 - t2).toInt) * 500
    let offset : Int := ((t2 - t1).toInt - (t4 - t3).toInt) * 500
    let bound : Int := 2000 + 250 * (hopsToLead t : Int)
    (t1 = 0 → Becomes .heartbeatReceive s (t.setBundle m.bundle { x with lastTx := t3, lastRx := t4, free := some free, peerHops := hops })) ∧
    (t1 ≠ 0 →
      let e := t.setBundle m.bundle { x with lastTx := t3, lastRx := t4, free := some free, peerHops := hops, delayPs := delay.toNat, offsetPs := offset }
      (t.str.parent ≠ some m.bundle → Becomes .heartbeatReceive s e) ∧
      (t.str.parent = some m.bundle → Ends .heartbeatReceive s (fun d => -200000 ≤ d.str.freqPpb ∧ d.str.freqPpb ≤ 200000 ∧ d.now = t.now ∧
        (d.str.locked = true ↔ -bound ≤ offset ∧ offset ≤ bound) ∧ d = { e with str := { e.str with freqPpb := d.str.freqPpb, locked := d.str.locked } })))) ∧
  (∀ s : State,
    (s.dev.str.awaited = [] ∨ s.dev.str.state = .forming → Becomes .controlResendTimeout s s.dev) ∧
    (∀ a rest, s.dev.str.awaited = a :: rest → s.dev.str.state ≠ .forming →
      (8 ≤ a.resends → s.dev.str.mode ≠ 0 → Ends .controlResendTimeout s (fun d => d.str.state = .forming ∧ d.str.epoch = s.dev.str.highEpoch + 1)) ∧
      (a.resends < 8 →
        let d := { s.dev with str := { s.dev.str with awaited := rest ++ [{ a with resends := a.resends + 1 }] } }
        Becomes .controlResendTimeout s (count .lnkCtrlResend 0 (a.bodies.foldl (fun d e => sendAs e.1 a.dst e.2 d) d)))))

/-- R416, R430, R436 to R439, R442, R446, Tables 12-7 and 12-9: a later epoch makes a member FORMING under it; a TOPO joins its set; a closed set ends
the re-formation with the side judged by its reference, its lead node the lowest of its members; a STARTING member waits; the token is placed. -/
def Obligations.ReformationOfASide : Prop :=
  (∀ (m : CtlMsg) (c : Nat) (s : State) (t : Dev), Arrived isReform m c s.dev t →
    (epochOlder t.str.epoch m.hdr.epoch = false → Becomes .reformReceive s t) ∧
    (epochOlder t.str.epoch m.hdr.epoch = true → Ends .reformReceive s (fun d => d.str.epoch = m.hdr.epoch ∧ d.str.state = .forming ∧
      d.str.topos = [ownTopo t] ∧ d.rules = t.rules ∧ d.str.members = t.str.members))) ∧
  (∀ (m : CtlMsg) (u : Topo) (s : State) (t : Dev), Arrived isTopo m u s.dev t →
    (epochOlder t.str.epoch m.hdr.epoch = false → t.str.state ≠ .forming → Becomes .topoReceive s t) ∧
    (epochOlder t.str.epoch m.hdr.epoch = false → t.str.state = .forming →
      Becomes .topoReceive s { t with str := { t.str with toposAt := t.now, topos := t.str.topos.filter (fun v => decide (v.node ≠ u.node)) ++ [u] } }) ∧
    (epochOlder t.str.epoch m.hdr.epoch = true → u.node ≠ t.str.node → Ends .topoReceive s (fun d => d.str.epoch = m.hdr.epoch ∧
      d.str.state = .forming ∧ d.str.topos = [ownTopo t, u]))) ∧
  (∀ s : State,
    (s.dev.str.state ≠ .forming ∨ topoClosed s.dev.str.topos = false → Becomes .reformationEnd s s.dev) ∧
    (s.dev.str.state = .forming → topoClosed s.dev.str.topos = true →
      let e := formSide (reach (s.dev.str.toposAt + 2000) s.dev)
      let waits := s.dev.str.starting = true ∧ ∃ n ∈ s.dev.str.refMembers, n ∉ e.str.members
      let j := judge s.dev.str.topos
      (e.str.members = sideMembers (reachByBundle s.dev.str.topos s.dev.str.node) s.dev.str.node) ∧
      (waits → Ends .reformationEnd s (fun d => d.str.state = .starting ∧ d.str.members = e.str.members ∧ d.str.starting = true)) ∧
      (¬ waits → Ends .reformationEnd s (fun d => (d.str.state = .settled ∨ d.str.state = .rejoining) ∧ d.str.starting = false ∧
        d.str.members = e.str.members ∧ d.str.lead = e.str.lead ∧ d.str.priorLead = e.str.lead ∧ d.str.partition = j.1 ∧ d.str.leadSide = j.2 ∧
        (j.2 = true → d.str.refMembers = e.str.members ∧ d.str.refEpoch = s.dev.str.epoch ∧ d.str.refLead = e.str.lead) ∧
        (j.2 = false → d.str.refMembers = s.dev.str.refMembers ∧ d.str.refEpoch = s.dev.str.refEpoch))))) ∧
  (∀ d : Dev, d.str.node ∈ (formSide d).str.members ∧ (formSide d).str.lead ∈ (formSide d).str.members ∧
    ∀ n ∈ (formSide d).str.members, (formSide d).str.lead ≤ n) ∧
  (∀ ts : List Topo, ((∀ t ∈ ts, t.refMembers = 0) → judge ts = (0, true)) ∧
    (∀ (e : BitVec 32) (l k : Nat), l ≤ 0xFFFFF → (∃ t ∈ ts, 0 < t.refMembers ∧ t.refEpoch = e ∧ t.refLeadNode = l) →
      (∀ t ∈ ts, 0 < t.refMembers → t.refEpoch = e ∧ t.refLeadNode = l ∧ t.refMembers = k) →
      let n := (ts.filter (fun t => decide (0 < t.refMembers))).length
      (k < 2 * n → judge ts = (if k ≤ n then 0 else 1, true)) ∧
      (k = 2 * n → (∃ t ∈ ts, 0 < t.refMembers ∧ t.node = l) → judge ts = (1, true)) ∧
      (k = 2 * n → (∀ t ∈ ts, 0 < t.refMembers → t.node ≠ l) → judge ts = (2, false)) ∧
      (2 * n < k → judge ts = (2, false)))) ∧
  (∀ ts : List Topo, (∀ t ∈ ts, t.priorLead ≤ 0xFFFFF) →
    ((∃ t ∈ ts, t.leadSide = true) → (∃ t ∈ ts, t.leadSide = true ∧ t.priorLead = leadingPrior ts) ∧
      ∀ t ∈ ts, t.leadSide = true → leadingPrior ts ≤ t.priorLead) ∧
    (ts ≠ [] → (∀ t ∈ ts, t.leadSide = false) → (∃ t ∈ ts, t.priorLead = leadingPrior ts) ∧ ∀ t ∈ ts, leadingPrior ts ≤ t.priorLead)) ∧
  (∀ (roll : Bool) (d : Dev), (placeToken roll d).str.holdsToken = d.isLead ∧
    ((∀ t ∈ d.str.topos, t.holdsToken = false) → (placeToken roll d).str.tokenSeq = maxSeq d.str.topos + 1 ∧
      (d.isLead = true → (placeToken roll d).mgt.faults.getLast?.map (fun f => (f.code, f.detail2)) =
        some (0x0704, mk64 [(maxSeq d.str.topos + 1).toNat]))) ∧
    (∀ t ∈ d.str.topos, t.holdsToken = true → (∀ u ∈ d.str.topos, u.holdsToken = true → u = t) →
      (placeToken roll d).str.tokenSeq = (if roll then t.tokenSeq + 1 else t.tokenSeq) ∧ (placeToken roll d).mgt = d.mgt)) ∧
  (∀ s : State,
    (s.dev.str.waitFrom = none ∨ s.dev.str.starting = false → Becomes .startupWaitExpiry s s.dev) ∧
    (∀ w, s.dev.str.waitFrom = some w → s.dev.str.starting = true → s.dev.str.mode ≠ 0 → Ends .startupWaitExpiry s (fun d =>
      d.str.starting = false ∧ d.str.waitFrom = none ∧ d.str.state = .forming ∧ d.str.epoch = s.dev.str.highEpoch + 1 ∧
      d.now = (if Time.ge s.dev.now (w + BitVec.ofNat 48 (s.dev.str.startupWaitMs * 1000000)) then s.dev.now
        else w + BitVec.ofNat 48 (s.dev.str.startupWaitMs * 1000000))))) ∧
  (∀ (m : CtlMsg) (h r : Nat) (s : State) (t : Dev), Arrived isParams m (h, r) s.dev t →
    let e := jPut 6 0x0700 16 (.params h r) .nothing t
    (t.str.state = .rejoining → Becomes .paramsReceive s { e with str := { e.str with heartbeatUs := h, maxRttUs := r, pendParams := none } }) ∧
    (t.str.state ≠ .rejoining → Becomes .paramsReceive s { e with str := { e.str with pendParams := some (h, r) } }))

/-- R444, R446, Table 12-13: the string commands. STRING_MEMBERS' cursor is the index of a member, which is the model's choice (log 46). -/
def Obligations.StringCommands : Prop :=
  ∀ (ch : Nat) (r : Req) (s : State) (d : Dev), cmdWf ch r = true →
    let w := r.word 0
    let idle := d.jnl.replaying = none
    (Accepted spec0700 ch r s.dev d → idle →
      let w2 := r.word 2
      let node := fld w 19 0
      let inRange := 1 ≤ node ∧ node ≤ 0xFFFFE ∧ fld w 21 20 < 3 ∧ 10 ≤ fld w2 13 0 ∧ fld w2 13 0 ≤ 10000 ∧ 10 ≤ fld w2 42 32 ∧ fld w2 42 32 ≤ 2000 ∧
        1 ≤ fld w2 54 48 ∧ fld w2 54 48 ≤ 100 ∧ fld (r.word 3) 15 0 ≤ 60000
      let moves := node ≠ d.str.node ∨ fld w 21 20 ≠ d.str.mode ∨ r.word 1 ≠ d.str.stringId
      let retimes := fld w2 13 0 ≠ d.str.heartbeatUs ∨ fld w2 42 32 ≠ d.str.maxRttUs
      let ends := fun st => Becomes (.stringConfig ch r) s (answer (mkJob spec0700 ch r d) st [] d)
      (¬ inRange → ends .badArgument) ∧
      (inRange → moves → (∃ b, b < d.bundleCount ∧ (d.bundle b).state = .up) → ends .busy) ∧
      (inRange → moves → (∀ b, b < d.bundleCount → (d.bundle b).state ≠ .up) → ¬ retimes → ∀ e, Recorded spec0700 ch r 0 [] d e →
        Ends (.stringConfig ch r) s (fun t => t.str.node = node ∧ t.str.mode = fld w 21 20 ∧ t.str.stringId = r.word 1 ∧ t.str.members = [node] ∧
          t.str.lead = node ∧ (fld w 21 20 = 0 → t.str.state = .disabled) ∧
          (fld w 21 20 ≠ 0 → d.str.refMembers ≠ [] → t.str.state = .starting ∧ t.str.starting = true) ∧
          (fld w 21 20 ≠ 0 → d.str.refMembers = [] → t.str.state = .forming ∧ t.str.leadSide = true))) ∧
      (inRange → ¬ moves → retimes → d.nonLead = true → ends .stalePartition) ∧
      (inRange → ¬ moves → ¬ retimes → ∀ e, Recorded spec0700 ch r 0 [] d e → Becomes (.stringConfig ch r) s
        { e with str := { e.str with node := node, mode := fld w 21 20, keySlot := fld w 27 24, stringId := r.word 1, replayUs := fld w2 54 48,
                                     startupWaitMs := fld (r.word 3) 15 0 } }) ∧
      (inRange → ¬ moves → retimes → d.nonLead = false → d.str.mode ≠ 0 → ∀ e, Recorded spec0700 ch r 0 [] d e → Ends (.stringConfig ch r) s (fun t =>
        t.str.pendParams = some (fld w2 13 0, fld w2 42 32) ∧ t.str.state = .forming ∧ t.str.epoch = d.str.highEpoch + 1 ∧
        t.str.heartbeatUs = d.str.heartbeatUs ∧ t.str.maxRttUs = d.str.maxRttUs))) ∧
    (Accepted spec0701 ch r s.dev d → Becomes (.stringQuery ch r) s
      (answer (mkJob spec0701 ch r d) .ok [lnkStatus d, lnkEpoch d, lnkToken d, lnkRtt d] d)) ∧
    (Accepted spec0702 ch r s.dev d →
      let c := fld w 31 0
      let n := fld (r.word 2) 12 0
      let es := (d.str.members.drop c).take n
      (n = 0 ∨ 4096 < n ∨ fld (r.word 1) 2 0 ≠ 0 → Becomes (.stringMembers ch r) s (answer (mkJob spec0702 ch r d) .badArgument [] d)) ∧
      (∀ st, 1 ≤ n → n ≤ 4096 → fld (r.word 1) 2 0 = 0 → es ≠ [] → bufferFault .timeout d ch r = some st →
        Becomes (.stringMembers ch r) s (answer (mkJob spec0702 ch r d) st [] d)) ∧
      (1 ≤ n → n ≤ 4096 → fld (r.word 1) 2 0 = 0 → es = [] ∨ bufferFault .timeout d ch r = none → Becomes (.stringMembers ch r) s (answer (mkJob spec0702 ch r d) .ok
        [mk64 [if d.str.members.length ≤ c + n then 0 else c + n, at' es.length 32]]
        (bufferWrite ch (r.word 1) (wordsBytes (es.flatMap (memberWords d))) d)))) ∧
    (Accepted spec0703 ch r s.dev d → idle →
      let b := fld w 2 0
      let x := d.bundle b
      (d.bundleCount ≤ b → Becomes (.bundleAdmin ch r) s (answer (mkJob spec0703 ch r d) .badArgument [] d)) ∧
      (b < d.bundleCount → x.adminUp = bit w 8 → Becomes (.bundleAdmin ch r) s (answer (mkJob spec0703 ch r d) .alreadyComplete [] d)) ∧
      (b < d.bundleCount → x.adminUp = false → bit w 8 = true → ∀ e, Recorded spec0703 ch r b [] d e → Becomes (.bundleAdmin ch r) s
        (e.setBundle b { Bundle.reset with adminUp := true, state := .training, lanesOk := x.lanesOk })) ∧
      (b < d.bundleCount → x.adminUp = true → bit w 8 = false → ∀ e, Recorded spec0703 ch r b [] d e → Ends (.bundleAdmin ch r) s (fun t =>
        (t.bundle b).state = .down ∧ (t.bundle b).adminUp = false ∧
        (x.state = .up → t.mgt.faults.getLast?.map (fun f => (f.code, f.detail2)) = some (0x0701, mk64 [b, at' 4 4, at' x.peerNode 8]))))) ∧
    (Accepted spec0704 ch r s.dev d →
      let b := fld w 2 0
      (d.bundleCount ≤ b → Becomes (.bundleQuery ch r) s (answer (mkJob spec0704 ch r d) .badArgument [] d)) ∧
      (b < d.bundleCount → Becomes (.bundleQuery ch r) s (answer (mkJob spec0704 ch r d) .ok [lnkBundleState d b, lnkBundleTime d b] d))) ∧
    (Accepted spec0705 ch r s.dev d → idle →
      let f := (BitVec.ofNat 32 (fld w 31 0)).toInt
      let ends := fun st => Becomes (.stringTimeSteer ch r) s (answer (mkJob spec0705 ch r d) st [] d)
      (f < -100000 ∨ 100000 < f → ends .badArgument) ∧
      (-100000 ≤ f → f ≤ 100000 → d.isLead = false → ends .notPermitted) ∧
      (-100000 ≤ f → f ≤ 100000 → d.isLead = true → d.nonLead = true → ends .stalePartition) ∧
      (-100000 ≤ f → f ≤ 100000 → d.isLead = true → d.nonLead = false → ∀ e, Recorded spec0705 ch r 0 [] d e →
        Becomes (.stringTimeSteer ch r) s { e with str := { e.str with freqPpb := f } })) ∧
    (Accepted spec0706 ch r s.dev d → idle →
      ((∃ b, b < d.bundleCount ∧ (d.bundle b).state ≠ .down) → Becomes (.stringTimeSet ch r) s (answer (mkJob spec0706 ch r d) .busy [] d)) ∧
      ((∀ b, b < d.bundleCount → (d.bundle b).state = .down) → ∀ e, Recorded spec0706 ch r 0 [] d e →
        Ends (.stringTimeSet ch r) s (fun t => t = e.setTime t.now ∧ t.now = BitVec.ofNat 48 (fld w 47 0) ∧ t = { e with now := t.now, mgt := t.mgt })))

/-- R453 to R463, Table 13-2: the checks of a packet to be decrypted in their order, with the counter of the one that fails and no change of the SA;
what a packet that passes does to the window; on egress, the grounds on which a packet is dropped, the number that it takes, and that no number is
used before its block's record is durable; the length of the encrypted frame. -/
def Obligations.LineCipher : Prop :=
  (∀ s : State, s.dev.cry.decIn = [] → Becomes .lcpDecrypt s s.dev) ∧
  (∀ (p : Pkt) (rest : List Pkt) (n : Nat) (s : State), s.dev.cry.decIn = p :: rest → p.dest = .decrypt n → p.pipe < 2 →
    let d := applyBoundary .lcpPacket isl.LCP { s.dev with cry := { s.dev.cry with decIn := rest } }
    let t := saTouch n d
    let fails := fun c x e => Becomes .lcpDecrypt s (lcpFail c x p e)
    (d.sa n = none → fails .lcpDecFailSa none d) ∧
    (∀ x, d.sa n = some x →
      let mine := d.cry.lcpReady = true ∧ saOutbound x = false ∧ (saOwner x = 0 ∨ saOwner x = p.tag.slice.toNat) ∧ (d.slice (saOwner x)).keyLost = false
      let num := packetSeq x p
      (d.saReadable n = false → Becomes .lcpDecrypt s (count .lcpSaMiss 0 (dropPkt isl.LCP p d))) ∧
      (d.saReadable n = true →
        (¬ mine → fails .lcpDecFailSa (some x) t) ∧
        (mine → headerMatches d x p = false → fails .lcpDecFailHdr (some x) t) ∧
        (mine → headerMatches d x p = true → replayOk x num = false → fails .lcpReplay (some x) t) ∧
        (mine → headerMatches d x p = true → replayOk x num = true → opened x p num = none → fails .lcpDecFailIcv (some x) t) ∧
        (∀ u, mine → headerMatches d x p = true → replayOk x num = true → opened x p num = some u →
          (trailerOk x u = false → fails .lcpDecFailTrailer (some x) t) ∧
          (trailerOk x u = true → Ends .lcpDecrypt s (fun e => e.counter .lcpDecPkts p.pipe = d.counter .lcpDecPkts p.pipe + 1 ∧
            (∀ k, k ≠ n → e.sa k = d.sa k) ∧ ∃ y, e.sa n = some y ∧ y.seq = max x.seq num ∧ y.key = x.key ∧ y.w0 = x.w0 ∧
              (saWindow x ≠ 0 → replayOk y num = false))))))) ∧
  (∀ (c : Ctr) (x : Option Sa) (p : Pkt) (d : Dev), (lcpFail c x p d).cry = d.cry ∧
    (p.tag.pass ≠ 3 → lcpFail c x p d = count c 0 (post isl.LCP (pipeIsland p.pipe)
      { p with tag := p.tag.setFlag 9, ps := { p.ps with entryIdx := ((x.bind saEntry).orElse (fun _ => p.ps.entryIdx)) } } d))) ∧
  (∀ s : State, s.dev.cry.encIn = [] → Becomes .lcpEncrypt s s.dev) ∧
  (∀ (p : Pkt) (rest : List Pkt) (s : State), s.dev.cry.encIn = p :: rest →
    let d := applyBoundary .lcpPacket isl.LCP s.dev
    let gone := { d with cry := { d.cry with encIn := rest } }
    let drops := fun c => Becomes .lcpEncrypt s (count c 0 (traceStep isl.LCP 9 (Dest.ethPort p.dest) p gone))
    let bound := SMap.get none d.cry.bindings p.fromQueue
    (bound = none → drops .lcpSaMiss) ∧
    (∀ n, bound = some n →
      (d.sa n = none → drops .lcpSaMiss) ∧
      (∀ x, d.sa n = some x →
        let valid := d.cry.lcpReady = true ∧ x.exhausted = false ∧ saOutbound x = true ∧ x.seq ≤ saLast x ∧ d.saReadable n = true
        (¬ valid → drops .lcpSaMiss) ∧
        (valid → (d.slice (saOwner x)).keyLost = true → drops .lcpKeyLostDrop) ∧
        (valid → (d.slice (saOwner x)).keyLost = false → 16384 < sealedLen x p.bytes → drops .lcpTxTooLong) ∧
        (valid → (d.slice (saOwner x)).keyLost = false → sealedLen x p.bytes ≤ 16384 → saMacsec x = false → ipHeader p.bytes (saIpOffset x) = none →
          drops .lcpTxBadHdr) ∧
        (valid → (d.slice (saOwner x)).keyLost = false → sealedLen x p.bytes ≤ 16384 → saMacsec x = true ∨ ipHeader p.bytes (saIpOffset x) ≠ none →
          (x.seq < x.reserved → Ends .lcpEncrypt s (fun e => e.cry.encIn = rest ∧ (∀ k, k ≠ n → e.sa k = d.sa k) ∧
            ∃ y, e.sa n = some y ∧ y.seq = x.seq + 1 ∧ y.reserved = x.reserved ∧ y.key = x.key ∧
              (y.exhausted = true ↔ saLast x ≤ x.seq) ∧
              (saLast x ≤ x.seq → e.mgt.faults.getLast?.map (fun f => (f.code, f.detail2)) = some (0x0D01, BitVec.ofNat 64 n)))) ∧
          (x.reserved ≤ x.seq → x.reserving = true → Becomes .lcpEncrypt s d) ∧
          (∀ e, x.reserved ≤ x.seq → x.reserving = false →
            jTake 8 n 16 (.seqBlock false (x.reserved + 2 ^ 20)) (.seqBlock n false (x.reserved + 2 ^ 20)) d = some e →
            Becomes .lcpEncrypt s (e.setSa n (some { x with reserving := true }))) ∧
          (x.reserved ≤ x.seq → x.reserving = false →
            jTake 8 n 16 (.seqBlock false (x.reserved + 2 ^ 20)) (.seqBlock n false (x.reserved + 2 ^ 20)) d = none →
            Becomes .lcpEncrypt s (jnlRefused (recLines 16) d)))))) ∧
  (∀ (s : Dev) (n : Nat) (x : Sa) (num : Nat) (bs cs : List Byte), sealedFrame s n x num bs = some cs → cs.length = sealedLen x bs) ∧
  (∀ (n proto : Nat), (n + (espTrailer n proto).length) % 4 = 0 ∧ 2 ≤ (espTrailer n proto).length ∧ (espTrailer n proto).length ≤ 5)

/-- R467, R469, R470 to R477, Tables 13-3 to 13-5 and 13-7: when GCM work is refused; what a frame for a session does; how a connection fails with
everything outstanding on it; retransmissions, Keep Alive and the end of CLOSING; NVMe completions; the grounds on which a storage descriptor ends
at its start; the tweak of a data unit. -/
def Obligations.StorageEngine : Prop :=
  (∀ (q len aad iv : Nat) (s : State), q < 256 →
    let refused := fun (g : Nat) => Becomes (.gcmWorkRequest q len aad iv) s
      (logFault isl.STE 0xFF 0x0E03 0 (mk64 [lo 8 q, at' g 8]) 0 (count .steGcmRefused 0 s.dev))
    let opens := s.dev.cry.ste ≠ .service ∧ s.dev.cry.ste ≠ .failed
    (¬ opens → refused 0) ∧ (opens → 67108864 < len → refused 1) ∧ (opens → len ≤ 67108864 → 65536 < aad → refused 2) ∧
    (opens → len ≤ 67108864 → aad ≤ 65536 → iv ≠ 96 → refused 3) ∧
    (opens → len ≤ 67108864 → aad ≤ 65536 → iv = 96 → Becomes (.gcmWorkRequest q len aad iv) s s.dev)) ∧
  (∀ (g : StSegment) (s : State),
    (s.dev.cry.steIn = [] → Becomes (.storageSegmentReceive g) s s.dev) ∧
    (∀ p rest, s.dev.cry.steIn = p :: rest →
      let d := { s.dev with cry := { s.dev.cry with steIn := rest } }
      (connOf p d = none → Becomes (.storageSegmentReceive g) s (count .steRxNoConn 0 d)) ∧
      (∀ c, connOf p d = some c →
        let x := d.conn c
        (x.slice = p.tag.slice.toNat) ∧
        Becomes (.storageSegmentReceive .ack) s (d.setConn c { x with unacked := false, retries := 0 }) ∧
        (x.state = .connecting → Becomes (.storageSegmentReceive .ready) s (d.setConn c { x with state := .ready, unacked := false, retries := 0, aliveAt := d.now })) ∧
        (x.state ≠ .closing → Becomes (.storageSegmentReceive .rst) s (failConn c 0x8001 d) ∧ Becomes (.storageSegmentReceive .fin) s (failConn c 0x8001 d)) ∧
        (x.state = .closing → d.connOutstanding c = 0 → Becomes (.storageSegmentReceive .fin) s
          ((d.setConn c { x with finDone := true }).setConn c { Conn.closed with lastCause := x.lastCause })) ∧
        Becomes (.storageSegmentReceive .bad) s (failConn c 0x8003 d) ∧
        (∀ cid n m i, x.cmds.find? (fun m => m.cid == cid) = some m → cmdLive d c m = true → findItem (d.qp m.qp) m.index = some i →
          Ends (.storageSegmentReceive (.r2t cid n)) s (fun e => (findItem (e.qp m.qp) m.index).map WorkItem.passed =
            some (i.passed + ((i.cur.drop i.passed).take n).length)))))) ∧
  (∀ (c cause : Nat) (s : State), Wf.storageTransportFailure c cause = true → SMap.rising s.dev.cry.conns = true →
    let x := s.dev.conn c
    (x.state ≠ .connecting → x.state ≠ .ready → Becomes (.storageTransportFailure c cause) s s.dev) ∧
    (x.state = .connecting ∨ x.state = .ready → Ends (.storageTransportFailure c cause) s (fun d =>
      (d.conn c).state = .failed ∧ (d.conn c).lastCause = cause ∧ (d.conn c).cmds = [] ∧
      (∀ q i, i ∈ (s.dev.qp q).items → (s.dev.qp q).valid = true → (s.dev.qp q).typ = 2 → i.started = true → i.outcome = none → i.answered = false →
        stConn i.words = c →
        dOpcode i.words ≠ 0 → ∃ j ∈ (d.qp q).items, j.index = i.index ∧ j.outcome.map (fun o => (o.status, o.detail)) = some (8, cause)) ∧
      (x.admin = false → (∀ k, k ≠ c → d.conn k = s.dev.conn k) ∧ d.counter .steConnFail 0 = s.dev.counter .steConnFail 0 + 1 ∧
        d.mgt.faults.getLast?.map (fun f => (f.code, f.detail2)) = some (0x0E02, mk64 [c, at' x.slice 16, at' cause 32])) ∧
      (x.admin = true → ∀ k, k ≠ c → (s.dev.conn k).admin = false → (s.dev.conn k).session = c →
        (s.dev.conn k).state = .connecting ∨ (s.dev.conn k).state = .ready → (d.conn k).state = .failed ∧ (d.conn k).lastCause = 0x8004)))) ∧
  (∀ (c : Nat) (s : State), c < 16384 →
    let x := s.dev.conn c
    let d := applyBoundary .retransmission isl.STE s.dev
    let e := reach (x.sentAt + BitVec.ofNat 48 (1000 * d.regField isl.STE 0x010 17 8)) d
    let kept := reach (x.aliveAt + BitVec.ofNat 48 (500000 * s.dev.connKato c)) s.dev
    (x.unacked = false → Becomes (.tcpRetransmitTimeout c) s s.dev) ∧
    (x.unacked = true → d.regField isl.STE 0x010 3 0 ≤ x.retries → Becomes (.tcpRetransmitTimeout c) s (failConn c 0x8002 e)) ∧
    (x.unacked = true → x.retries < d.regField isl.STE 0x010 3 0 →
      Becomes (.tcpRetransmitTimeout c) s (sendSegment c 5 [] (e.setConn c { x with retries := x.retries + 1 }))) ∧
    (x.admin = true → x.state = .ready → Becomes (.keepAlive c) s (sendSegment c 3 [] (kept.setConn c { x with aliveAt := kept.now }))) ∧
    (x.admin = false ∨ x.state ≠ .ready → Becomes (.keepAlive c) s s.dev) ∧
    (x.state ≠ .closing → Becomes (.connectionCloseTimeout c) s s.dev) ∧
    (x.state = .closing → s.dev.connOutstanding c = 0 → Becomes (.connectionCloseTimeout c) s
      (((reach (x.closingAt + 100000000) s.dev).setConn c { x with finDone := true }).setConn c { Conn.closed with lastCause := x.lastCause }))) ∧
  (∀ (c cid status : Nat) (cqe : List Byte) (s : State), Wf.nvmeCompletion c cid status cqe = true →
    let x := s.dev.conn c
    let y := { x with cmds := x.cmds.filter (fun m => m.cid != cid) }
    let d := s.dev.setConn c y
    let after := fun e => Becomes (.nvmeCompletion c cid status cqe) s e
    x.state = .ready →
    (x.cmds.find? (fun m => m.cid == cid) = none → after (failConn c 0x8003 s.dev)) ∧
    (∀ m, x.cmds.find? (fun m => m.cid == cid) = some m →
      (cmdLive s.dev c m = false → after (count .steLateCqe 0 d)) ∧
      (∀ i, cmdLive s.dev c m = true → findItem (s.dev.qp m.qp) m.index = some i →
        let told := (s.dev.setQp m.qp (onItem (s.dev.qp m.qp) m.index (fun j => { j with answered := true }))).setConn c y
        let entry := writeBuffer m.qp m.index 0 (cqe.take 16) (told.setQp m.qp (onItem (told.qp m.qp) m.index (fun j => { j with passed := 16 })))
        (status = 0 → m.opcode ≠ 0x12 → after (goodItem m.qp m.index i.passed 0 0 told)) ∧
        (status = 0 → m.opcode = 0x12 → after (goodItem m.qp m.index 16 0 0 entry)) ∧
        (status ≠ 0 → m.opcode = 0x12 → after (endsWith m.qp m.index
          { status := 8, progress := 0, bytes := 16, frag := 0, detail := status, time := s.dev.now, rxFlags := 0 } entry)) ∧
        (status ≠ 0 → m.opcode ≠ 0x12 → Ends (.nvmeCompletion c cid status cqe) s (fun e => (e.conn c).cmds = y.cmds ∧
          ((findItem (e.qp m.qp) m.index).bind WorkItem.outcome).map (fun o => (o.status, o.progress, o.bytes, o.detail)) =
            some (8, (if m.opcode = 0x10 then 2 else 3), bytesDone i, status)))))) ∧
  (∀ (q index : Nat) (i : WorkItem) (d : Dev), findItem (d.qp q) index = some i →
    let sl := (d.qp q).slice
    (d.cry.ste = .failed → storageStart q index d = storageError q index 0x8007 d) ∧
    (d.cry.ste ≠ .failed → stEncrypt i.words = true → (d.slice sl).keyLost = true → storageStart q index d = endItem q index 7 d) ∧
    (d.cry.ste ≠ .failed → stEncrypt i.words = true → (d.slice sl).keyLost = false → d.stKey sl (stSlot i.words) = none →
      storageStart q index d = storageError q index 0 d) ∧
    (d.cry.ste ≠ .failed → stEncrypt i.words = false → (d.conn (stConn i.words)).state ≠ .ready → storageStart q index d = storageError q index 0x8006 d)) ∧
  (∀ (d : Dev) (sl u : Nat) (ws : List W64) (enc : Bool) (k : StKey) (bs : List Byte), stEncrypt ws = true → d.stKey sl (stSlot ws) = some k →
    bs ≠ [] → bs.length = k.duBytes → cryptUnits d sl ws enc u bs =
      Config.xts enc k.key1 k.key2 (BitVec.ofNat 128 (k.tweakBase.toNat + stSlba ws * (stLba ws / k.duBytes) + u)) bs)

/-- R451, R459, R462, R465, R467, R470 to R472, R479, R481, Table 13-11: the cipher and storage commands. The key bytes of a request are overwritten
before it is answered: `d` of LCP_SA_SET and STE_KEY_SET is the member after that. -/
def Obligations.CryptoCommands : Prop :=
  (∀ (ch : Nat) (r : Req) (d : Dev), r.host.writeOk = true → d.linkUsable (d.bufPort ch).1 (d.bufPort ch).2.1 = true →
    zeroPayload ch r d = emit (.hostWrite (d.bufPort ch).1 (d.bufPort ch).2.1 (d.bufPort ch).2.2 (r.inline.getD 0 0)
      (List.replicate r.payloadLen.toNat 0)) d) ∧
  (∀ (ch : Nat) (r : Req) (s : State) (d : Dev), cmdWf ch r = true → r.indirect = true → keysRead spec0800 ch r s.dev = true →
    Accepted spec0800 ch r (zeroPayload ch r s.dev) d → d.jnl.replaying = none →
    let w := r.word 0
    let w1 := r.word 1
    let n := fld w 19 0
    let owner := fld w 31 20
    let win := fld w1 44 32
    let held := (d.cry.sas.filter (fun e => e.1 != n && e.2.any (fun x => saOwner x == owner))).length
    let inRange := (bit w 32 = true → bit w 34 = true) ∧ (win = 0 ∨ (64 ≤ win ∧ win ≤ 4096 ∧ win % 64 = 0)) ∧
      (bit w 32 = false → bit w 33 = true → 14 ≤ fld w1 55 48) ∧ (d.slice owner).state ≠ .free
    let may := 4096 ≤ ch ∨ (ch = owner ∧ ∀ x, d.sa n = some x → saOwner x = owner)
    let keys := (d.slice owner).keyLost = false ∧ d.eraseHold = false
    let kept := saBound d n = false ∨ ∀ x, d.sa n = some x → saOutbound x = bit w 33
    let ends := fun st => Becomes (.lcpSaSet ch r) s (answer (mkJob spec0800 ch r d) st [] d)
    (¬ may → ends .notPermitted) ∧ (may → ¬ inRange → ends .badArgument) ∧ (inRange → may → ¬ keys → ends .keyLost) ∧
    (inRange → may → keys → ¬ kept → ends .busy) ∧
    (inRange → may → keys → kept → (d.slice owner).profile.securityAssocs ≤ held → ends .noResource) ∧
    (inRange → may → keys → kept → held < (d.slice owner).profile.securityAssocs → ∀ e, Recorded spec0800 ch r n [] d e →
      Ends (.lcpSaSet ch r) s (fun t => (∀ k, k ≠ n → t.sa k = d.sa k) ∧ owner ∈ t.cry.keks ∧ t.cry.cache = d.cry.cache.erase n ∧
        ∃ x, t.sa n = some x ∧ x.w0 = w ∧ x.w1 = w1 ∧ x.softLimit = r.word 4 ∧ x.key = (if bit w 34 then [r.word 7, r.word 8, r.word 9, r.word 10] else [r.word 7, r.word 8]) ∧
          x.exhausted = false ∧ (bit w 33 = true → x.seq = (r.word 2).toNat ∧ x.reserved = x.seq) ∧
          (bit w 33 = false → x.edge = (r.word 2).toNat ∧ x.accepted = [])))) ∧
  (∀ (ch : Nat) (r : Req) (s : State) (d : Dev), cmdWf ch r = true → r.indirect = true → keysRead spec0810 ch r s.dev = true →
    Accepted spec0810 ch r (zeroPayload ch r s.dev) d → d.jnl.replaying = none →
    let w := r.word 0
    let sl := fld w 11 0
    let slot := fld w 13 12
    let du := fld w 40 16
    let k1 := (r.words.drop 2).take 4
    let k2 := (r.words.drop 6).take 4
    let inRange := (d.slice sl).state ≠ .free ∧ (bit w 14 = true → du % 16 = 0 ∧ 16 ≤ du ∧ du ≤ 16777216 ∧ k1 ≠ k2 ∧ 80 ≤ r.payloadLen.toNat)
    let keys := (d.slice sl).keyLost = false ∧ d.eraseHold = false
    let ends := fun st => Becomes (.steKeySet ch r) s (answer (mkJob spec0810 ch r d) st [] d)
    (ch < 4096 → ch ≠ sl → ends .notPermitted) ∧ (4096 ≤ ch ∨ ch = sl → ¬ inRange → ends .badArgument) ∧
    (inRange → 4096 ≤ ch ∨ ch = sl → ¬ keys → ends .keyLost) ∧
    (inRange → 4096 ≤ ch ∨ ch = sl → keys → slotInUse d sl slot = true → ends .busy) ∧
    (inRange → 4096 ≤ ch ∨ ch = sl → keys → slotInUse d sl slot = false → ∀ e, Recorded spec0810 ch r (4 * sl + slot) [] d e →
      Ends (.steKeySet ch r) s (fun t => t.stKey sl slot = (if bit w 14 then some ⟨k1, k2, du, r.word 1⟩ else none) ∧
        (∀ a b, b < 4 → (a, b) ≠ (sl, slot) → t.stKey a b = d.stKey a b)))) ∧
  (∀ (ch : Nat) (r : Req) (s : State) (d : Dev), cmdWf ch r = true →
    let w := r.word 0
    let idle := d.jnl.replaying = none
    (Accepted spec0801 ch r s.dev d →
      let n := fld w 19 0
      let ends := fun st => Becomes (.lcpSaDelete ch r) s (answer (mkJob spec0801 ch r d) st [] d)
      (d.sa n = none → ends .alreadyComplete) ∧
      (∀ x, d.sa n = some x →
        (ch < 4096 → ch ≠ saOwner x → ends .notPermitted) ∧
        (4096 ≤ ch ∨ ch = saOwner x → saBound d n = true → ends .busy) ∧
        (4096 ≤ ch ∨ ch = saOwner x → saBound d n = false → ∀ e, Recorded spec0801 ch r n [] d e → Ends (.lcpSaDelete ch r) s (fun t =>
          t.sa n = none ∧ (∀ k, k ≠ n → t.sa k = d.sa k))))) ∧
    (Accepted spec0802 ch r s.dev d →
      let n := fld w 19 0
      (4096 ≤ ch ∨ (∃ x, d.sa n = some x ∧ saOwner x = ch) → Becomes (.lcpSaQuery ch r) s
        (answer (mkJob spec0802 ch r d) .ok [saStateWord d n, saSeqWord d n] d)) ∧
      (ch < 4096 → (∀ x, d.sa n = some x → saOwner x ≠ ch) → Becomes (.lcpSaQuery ch r) s (answer (mkJob spec0802 ch r d) .notPermitted [] d))) ∧
    (Accepted spec0803 ch r s.dev d →
      let q := fld w 15 0
      let n := fld w 35 16
      let fits := ∃ y, tqueue d.tmg.cfg q = some y ∧ y.port < 64 ∧
        (bit w 36 = true → ∃ x, d.sa n = some x ∧ saOutbound x = true ∧ (saOwner x = 0 ∨ saOwner x = y.slice))
      (¬ fits → Becomes (.lcpQueueBind ch r) s (answer (mkJob spec0803 ch r d) .badArgument [] d)) ∧
      (fits → ∀ e, Recorded spec0803 ch r q [] d e → Becomes (.lcpQueueBind ch r) s
        { e with cry := { e.cry with bindings := SMap.put none e.cry.bindings q (if bit w 36 then some n else none) } })) ∧
    (Accepted spec0811 ch r s.dev d → idle →
      let sl := fld w 11 0
      let n := fld w 18 12
      let h := fld (r.word 10) 7 0
      let b := fld (r.word 10) 15 8
      let inRange := r.indirect = true ∧ 1 ≤ n ∧ n ≤ 64 ∧ 536 ≤ fld (r.word 2) 63 48 ∧ fld (r.word 2) 63 48 ≤ 9000 ∧
        1000 ≤ fld (r.word 7) 15 0 ∧ fld (r.word 7) 15 0 ≤ 60000 ∧ h ≤ 223 ∧ b ≤ 223 ∧ 88 + h + b ≤ r.payloadLen.toNat ∧ (d.slice sl).state ≠ .free
      let ends := fun st => Becomes (.steSessionOpen ch r) s (answer (mkJob spec0811 ch r d) st [] d)
      (ch < 4096 → ch ≠ sl → ends .notPermitted) ∧ (4096 ≤ ch ∨ ch = sl → ¬ inRange → ends .badArgument) ∧
      (inRange → 4096 ≤ ch ∨ ch = sl →
        ((d.slice sl).profile.storageConns < connsOf d sl + n + 1 ∨ sessionConns d n = none → ends .noResource) ∧
        (∀ a f, connsOf d sl + n + 1 ≤ (d.slice sl).profile.storageConns → sessionConns d n = some (a, f) →
          (a < 16384 ∧ f + n ≤ 16384 ∧ (d.conn a).state = .closed ∧ (∀ i, i < n → (d.conn (f + i)).state = .closed ∧ f + i ≠ a)) ∧
          ∀ e, Recorded spec0811 ch r (a + 65536 * f) [mk64 [a, at' f 16]] d e → Ends (.steSessionOpen ch r) s (fun t =>
            (∀ c, (c = a ∨ (f ≤ c ∧ c < f + n)) → (t.conn c).state = .connecting ∧ (t.conn c).slice = sl ∧ (t.conn c).session = a ∧
              ((t.conn c).admin = true ↔ c = a)) ∧
            (∀ c, c ≠ a → ¬ (f ≤ c ∧ c < f + n) → t.conn c = d.conn c) ∧
            SMap.get none t.cry.sessions a = some ⟨r.words, n⟩)))) ∧
    (Accepted spec0812 ch r s.dev d →
      let a := fld w 13 0
      let ends := fun st => Becomes (.steSessionClose ch r) s (answer (mkJob spec0812 ch r d) st [] d)
      (SMap.get none d.cry.sessions a = none → ends .alreadyComplete) ∧
      (SMap.get none d.cry.sessions a ≠ none → ch < 4096 → ch ≠ (d.conn a).slice → ends .notPermitted) ∧
      (SMap.get none d.cry.sessions a ≠ none → 4096 ≤ ch ∨ ch = (d.conn a).slice → ∀ e, Recorded spec0812 ch r a [] d e →
        Ends (.steSessionClose ch r) s (fun t => SMap.get none t.cry.sessions a = none ∧
          (t.conn a).state ≠ .connecting ∧ (t.conn a).state ≠ .ready ∧ (t.conn a).state ≠ .failed))) ∧
    (Accepted spec0813 ch r s.dev d →
      let c := fld w 13 0
      (4096 ≤ ch ∨ ((d.conn c).state ≠ .closed ∧ (d.conn c).slice = ch) → Becomes (.steConnQuery ch r) s
        (answer (mkJob spec0813 ch r d) .ok [steConnWord d c] d)) ∧
      (ch < 4096 → (d.conn c).state = .closed ∨ (d.conn c).slice ≠ ch → Becomes (.steConnQuery ch r) s (answer (mkJob spec0813 ch r d) .notPermitted [] d))) ∧
    (Accepted spec0820 ch r s.dev d → idle →
      let sl := fld w 11 0
      ((d.slice sl).keyLost = false → Becomes (.cryptoSliceRearm ch r) s (answer (mkJob spec0820 ch r d) .alreadyComplete [] d)) ∧
      ((d.slice sl).keyLost = true → d.eraseHold = true → Becomes (.cryptoSliceRearm ch r) s (answer (mkJob spec0820 ch r d) .busy [] d)) ∧
      ((d.slice sl).keyLost = true → d.eraseHold = false → SMap.rising d.cry.sas = true → SMap.rising d.cry.keys = true →
        ∀ e, Recorded spec0820 ch r sl [] d e → Ends (.cryptoSliceRearm ch r) s (fun t =>
          (t.slice sl).keyLost = false ∧ sl ∈ t.cry.keks ∧ (∀ n x, t.sa n = some x → saOwner x ≠ sl ∧ d.sa n = some x) ∧
          (∀ n x, d.sa n = some x → saOwner x ≠ sl → t.sa n = some x) ∧ (∀ k, k < 4 → t.stKey sl k = none) ∧
          t.cry.bindings = d.cry.bindings ∧ t.cry.conns = d.cry.conns))) ∧
    (Accepted spec0821 ch r s.dev d →
      let ends := fun st => Becomes (.stePatchStage ch r) s (answer (mkJob spec0821 ch r d) st [] d)
      (r.indirect = false → ends .badArgument) ∧
      (r.indirect = true → Config.patchLevel (wordsBytes r.words) = none → ends .authFailed) ∧
      (∀ l, r.indirect = true → Config.patchLevel (wordsBytes r.words) = some l →
        (l.toNat ≤ d.cry.patchLevel.toNat → ends .badArgument) ∧
        (d.cry.patchLevel.toNat < l.toNat → ∀ e, Recorded spec0821 ch r 0 [BitVec.ofNat 64 l.toNat] d e →
          Becomes (.stePatchStage ch r) s { e with cry := { e.cry with staged := some l } }))))

/-- R486, R488 to R495, Table 14-1: which channel a line lies in; requests wait or are answered from the write queue; what a channel issues in a clock
and which read it chooses; activation counts; failed bursts, poisoned lines and their rebuilding; epochs, windows, retraining and temperature. That
a hot channel activates on no two clocks that follow one another is the model's choice (log 142). -/
def Obligations.MemoryChannels : Prop :=
  (∀ a b : Nat, lineChan a < 48 ∧ (a / 4 % 2 ^ 28 = b / 4 % 2 ^ 28 → lineChan a = lineChan b)) ∧
  (∀ (rq : Nat) (write : Bool) (line : Nat) (entry : Option Time) (s : State), Wf.memRequest rq line = true →
    let c := lineChan line
    let q := memReq rq write line entry
    let x := s.dev.memChan c
    let after := fun d => Becomes (.memRequest rq ⟨write, line, entry⟩) s d
    (q.requester = rq ∧ q.write = write ∧ q.addr = line ∧ q.entry = entry) ∧
    (write = true → 64 ≤ x.wq.length → after s.dev) ∧
    (write = true → x.wq.length < 64 → after (memClock c (s.dev.setMemChan c { x with wq := x.wq ++ [q] }))) ∧
    (write = false → (∃ w ∈ x.wq, w.addr = line) → after (memMeter q s.dev)) ∧
    (write = false → (∀ w ∈ x.wq, w.addr ≠ line) → after (memClock c (s.dev.setMemChan c { x with reads := x.reads ++ [q] })))) ∧
  (∀ (c : Nat) (d : Dev),
    let x := d.memChan c
    let runs := x.paused = false ∧ d.jnl.stopped = false
    let high := d.regField isl.MEM 0x008 14 8
    let low := d.regField isl.MEM 0x008 5 0
    let e := d.setMemChan c { x with rested := true }
    (∀ q, x.hot = true → x.rested = false → needsAct x q = true → passedOver d x q = true) ∧
    (¬ runs → memClock c d = e) ∧
    (runs → x.draining = true → ∀ q, chosenWrite d x = some q → q.write = true → q ∈ x.wq ∧ passedOver d x q = false ∧
      ((memClock c d).memChan c).issued = x.issued ++ [(q, 0)] ∧ ((memClock c d).memChan c).reads = x.reads ∧
      (((memClock c d).memChan c).draining = true ↔ low < ((memClock c d).memChan c).wq.length)) ∧
    (runs → x.draining = false → high ≤ x.wq.length → memClock c d = e.setMemChan c { x with rested := true, draining := true }) ∧
    (runs → x.draining = false → x.wq.length < high → x.reads ≠ [] → ∀ q, chosenRead d x = some q → memClock c d = issueFrom c q e ∧
      q ∈ x.reads ∧ passedOver d x q = false ∧
      (∀ p ∈ x.reads, passedOver d x p = false → SMap.get 0 x.served q.requester * chanWeight d x p.requester ≤
        SMap.get 0 x.served p.requester * chanWeight d x q.requester) ∧
      (needsAct x q = true → ∀ p ∈ x.reads, p.requester = q.requester → passedOver d x p = false → needsAct x p = true)) ∧
    (runs → x.draining = false → x.wq.length < high → x.reads = [] → ∀ q, chosenWrite d x = some q → memClock c d = issueFrom c q e)) ∧
  (∀ (cs : List RhCount) (q : MemReq) (now : Time) (limit : Nat),
    let inBank := fun (k : RhCount) => k.bank == q.bank
    let mine := fun (k : RhCount) => k.bank == q.bank && k.requester == q.requester
    let ds := (rhActivate cs q now limit).1
    let n := (rhActivate cs q now limit).2
    (∃ k ∈ ds, k.bank = q.bank ∧ k.requester = q.requester ∧ k.acts = n ∧ k.lastAct = now ∧ (n = limit → k.throttled = true)) ∧
    (∀ k, cs.find? mine = some k → n = k.acts + 1) ∧
    (cs.find? mine = none → (cs.filter inBank).length < 8 → n = 1) ∧
    (cs.find? mine = none → 8 ≤ (cs.filter inBank).length → ∃ k ∈ cs, k.bank = q.bank ∧ n = k.acts + 1 ∧ ∀ j ∈ cs, j.bank = q.bank → k.acts ≤ j.acts) ∧
    ((cs.filter inBank).length ≤ 8 → (ds.filter inBank).length ≤ 8) ∧ (∀ k ∈ cs, k.bank ≠ q.bank → k ∈ ds)) ∧
  (∀ (c : Nat) (ok : Bool) (s : State), c < 48 → (s.dev.memChan c).issued = [] → Becomes (.memBurstComplete c ok) s s.dev) ∧
  (∀ (c n : Nat) (q : MemReq) (rest : List (MemReq × Nat)) (s : State), c < 48 → (s.dev.memChan c).issued = (q, n) :: rest →
    let x := s.dev.memChan c
    let d := s.dev.setMemChan c { x with issued := rest }
    let e := memMeter q d
    (q.write = true → memRegion q.addr ≠ 4 → Becomes (.memBurstComplete c true) s
      (memClock c { e with mem := { e.mem with poisoned := e.mem.poisoned.filter (fun l => decide (l ≠ q.addr)) } })) ∧
    (q.write = false → memRegion q.addr = 2 → q.addr ∈ e.mem.poisoned → Becomes (.memBurstComplete c true) s (memClock c (count .memStagePoison 0 e))) ∧
    (q.write = false → memRegion q.addr ≠ 2 ∨ q.addr ∉ e.mem.poisoned → Becomes (.memBurstComplete c true) s (memClock c e)) ∧
    (q.write = true → memRegion q.addr = 4 → Becomes (.memBurstComplete c true) s (memClock c e)) ∧
    (n < 3 → Becomes (.memBurstComplete c false) s (emit (.memBurst c q.write q.addr)
      (count .memCrcRetry c (s.dev.setMemChan c { x with issued := (q, n + 1) :: rest, retries := x.retries + 1 })))) ∧
    (3 ≤ n → Becomes (.memBurstComplete c false) s (memClock c (memMeter q (poisonLine c q d))))) ∧
  (∀ (c : Nat) (q : MemReq) (d : Dev), q.addr ∈ (poisonLine c q d).mem.poisoned ∧ (∀ l ∈ d.mem.poisoned, l ∈ (poisonLine c q d).mem.poisoned) ∧
    ((poisonLine c q d).memChan c).poisonings = (d.memChan c).poisonings + 1 ∧
    (poisonLine c q d).mgt.faults.getLast?.map (fun f => (f.code, f.detail2, f.detail3)) =
      some (0x0F02, mk64 [c, at' (memRegion q.addr) 8], BitVec.ofNat 64 (64 * q.addr))) ∧
  (∀ line : Nat, let mib := 64 * line / 2 ^ 20
    (mib < 256 → memRegion line = 0) ∧ (256 ≤ mib → mib < 384 → memRegion line = 1) ∧ (384 ≤ mib → mib < 4480 → memRegion line = 2) ∧
    (4480 ≤ mib → mib < 12672 → memRegion line = 3) ∧ (12672 ≤ mib → memRegion line = 4)) ∧
  (∀ (g j : Nat) (s : State), Wf.lineRebuild g j = true →
    let line := 4 * g + j
    let room := (s.dev.memChan (lineChan line)).wq.length < 64
    let written := memRequest 4096 true line none s.dev
    (line ∈ s.dev.mem.poisoned → room → memRegion line = 3 → Becomes (.lineRebuild g j) s written) ∧
    (line ∈ s.dev.mem.poisoned → room → memRegion line = 1 → Becomes (.lineRebuild g j) s
      (logFault isl.LCP 0xFF 0x0D03 0 (BitVec.ofNat 64 ((64 * line - 256 * 1048576) / 128)) 0 written)) ∧
    (line ∉ s.dev.mem.poisoned ∨ ¬ room ∨ (memRegion line ≠ 1 ∧ memRegion line ≠ 3) → Becomes (.lineRebuild g j) s s.dev)) ∧
  (∀ s : State, Ends .arbitrationEpoch s (fun d => (∀ n, (d.slice n).pendMem = false ∧ (d.slice n).profile = (s.dev.slice n).profile) ∧
      ∀ c, (d.memChan c).served = [] ∧ (d.memChan c).reads = (s.dev.memChan c).reads ∧ (d.memChan c).wq = (s.dev.memChan c).wq ∧
        ∀ q ∈ (d.memChan c).reads, SMap.get 0 (d.memChan c).weights q.requester = requesterWeight d q.requester) ∧
    Ends .rhWindowEnd s (fun d => (∀ c, d.memChan c = { s.dev.memChan c with counts := [] }) ∧ d.mem.windowAt = d.now ∧
      d.now = (reach (s.dev.mem.windowAt + BitVec.ofNat 48 (1000 * s.dev.regField isl.MEM 0x010 25 16)) s.dev).now)) ∧
  (∀ (c : Nat) (s : State), c < 48 →
    let x := s.dev.memChan c
    let holds := (∃ e ∈ s.dev.mem.chans, e.2.paused = true) ∨ x.draining = true ∨ s.dev.jnl.stopped = true
    let t := reach (retrainDue s.dev c) s.dev
    let begun := { x with paused := true, triedAt := some t.now }
    let ns := s.dev.mem.retrainMs * 1000000
    let mine := s.dev.mem.intervalAt + BitVec.ofNat 48 (ns * c / 48)
    let ended := fun ok => count .memRetrains 0 (s.dev.setMemChan c { x with paused := false, retrainFailed := !ok })
    (holds → Becomes (.retrainingStart c) s s.dev) ∧
    (¬ holds → c ≠ 0 ∨ x.retrainFailed = true → Becomes (.retrainingStart c) s (t.setMemChan c begun)) ∧
    (¬ holds → c = 0 → x.retrainFailed = false → Becomes (.retrainingStart c) s
      ({ t with mem := { t.mem with retrainMs := s.dev.mem.nextRetrainMs, intervalAt := t.now } }.setMemChan c begun)) ∧
    (x.triedAt = none → retrainDue s.dev c = mine) ∧
    (∀ a, x.triedAt = some a → (x.retrainFailed = true → retrainDue s.dev c = a + BitVec.ofNat 48 (ns / 10)) ∧
      (x.retrainFailed = false → Time.ge a s.dev.mem.intervalAt = false → retrainDue s.dev c = mine) ∧
      (x.retrainFailed = false → Time.ge a s.dev.mem.intervalAt = true →
        retrainDue s.dev c = s.dev.mem.intervalAt + BitVec.ofNat 48 (ns * c / 48 + ns))) ∧
    (x.paused = false → ∀ ok, Becomes (.retrainingComplete c ok) s s.dev) ∧
    (x.paused = true → Becomes (.retrainingComplete c true) s (memClock c (ended true)) ∧
      Becomes (.retrainingComplete c false) s (memClock c (logFault isl.MEM 0xFF 0x0F03 0 (BitVec.ofNat 64 c) 0 (ended false))))) ∧
  (∀ (dev : Nat) (s : State), dev < 12 →
    Ends (.deviceOverTemperature dev) s (fun d => ∀ c, d.memChan c = if c / 4 = dev then { s.dev.memChan c with hot := true } else s.dev.memChan c) ∧
    Ends (.temperatureReportClear dev) s (fun d => ∀ c, d.memChan c = if c / 4 = dev then { s.dev.memChan c with hot := false } else s.dev.memChan c))

/-- R496, R497, R499 to R501: which records are taken, what follows a line that is written, a line that is retired, pacing, and the end of a compaction.
R494, R499, R500, R505, Table 14-7: the memory and journal commands. -/
def Obligations.CommitJournal : Prop :=
  ((∀ (j : Jnl) (typ n : Nat), Jnl.takes j typ n = true ↔ j.ready = true ∧ j.stopped = false ∧ n ≤ 16384 ∧
     (if typ ∈ [2, 3, 4, 5, 9, 10] then n ≤ Jnl.free j else n + 16 * 1048576 / 64 ≤ Jnl.free j)) ∧
   (∀ (typ subject : Nat) (ws : List W64) (s : State), Wf.journalRecordWrite typ subject ws = true →
     let n := (32 + 8 * ws.length + 16 + 63) / 64
     let d := s.dev
     (typ = 7 → Becomes (.journalRecordWrite typ subject ws) s (presentMeters d)) ∧
     (typ ≠ 7 → Jnl.takes d.jnl typ n = true →
       let r : JRec := { typ := typ, seq := d.jnl.nextSeq, time := d.now, subject := subject, lines := n, written := 0, body := .raw ws, then' := .nothing }
       Becomes (.journalRecordWrite typ subject ws) s { d with jnl := { d.jnl with inflight := d.jnl.inflight ++ [r], nextSeq := d.jnl.nextSeq + 1 } }) ∧
     (typ ∈ [2, 3, 4, 5, 9, 10] → Jnl.takes d.jnl typ n = false → Becomes (.journalRecordWrite typ subject ws) s d) ∧
     (typ ∈ [1, 6, 8] → Jnl.takes d.jnl typ n = false → d.jnl.ready = true → d.jnl.stopped = false →
       Ends (.journalRecordWrite typ subject ws) s (fun e => e.jnl.records = d.jnl.records ∧ e.jnl.inflight = d.jnl.inflight ∧
         e.jnl.exhausted = some (max (d.jnl.exhausted.getD 0) n) ∧
         (d.jnl.exhausted = none → e.mgt.faults.getLast?.map (fun f => (f.code, f.detail2)) = some (0x1101, BitVec.ofNat 64 (lo 9 d.liveMib))) ∧
         (d.jnl.exhausted ≠ none → e.mgt = d.mgt)))) ∧
   (∀ (ok worn : Bool) (s : State), s.dev.jnl.inflight = [] → Becomes (.journalLineWriteComplete ok worn) s s.dev) ∧
   (∀ (r : JRec) (rest : List JRec) (s : State), s.dev.jnl.inflight = r :: rest →
     let c := chargeLine (if r.typ = 10 then s.dev else paceLine s.dev)
     let d := count .jnlLines 0 (emit (.journalLine r.seq r.written) { c with jnl := { c.jnl with wear := c.jnl.wear + 1 } })
     let r1 := { r with written := r.written + 1 }
     let e := count .jnlRecords 0 { d with jnl := { d.jnl with inflight := rest, records := d.jnl.records ++ [r1], lastDurable := r.seq } }
     (d.jnl.inflight = r :: rest ∧ d.jnl.records = s.dev.jnl.records ∧ d.jnl.wear = s.dev.jnl.wear + 1) ∧
     (r.written + 1 < r.lines → Becomes (.journalLineWriteComplete true false) s { d with jnl := { d.jnl with inflight := r1 :: rest } }) ∧
     (r.lines ≤ r.written + 1 → s.dev.mgt.deviceReset = none →
       (r.then' = .nothing → Becomes (.journalLineWriteComplete true false) s e) ∧
       (∀ j st ws, r.then' = .answer j st ws → Becomes (.journalLineWriteComplete true false) s (answer j st ws e)) ∧
       (∀ n t up x, r.then' = .seqBlock n t up → e.sa n = some x →
         Becomes (.journalLineWriteComplete true false) s (e.setSa n (some { x with reserved := up, reserving := false })))) ∧
     (∀ ok worn, ok = false ∨ worn = true → Ends (.journalLineWriteComplete ok worn) s (fun t => t.jnl.inflight = r :: rest ∧
       t.jnl.records = s.dev.jnl.records ∧ t.jnl.retired = s.dev.jnl.retired + 1 ∧ t.jnl.spare = s.dev.jnl.spare - 1 ∧
       t.jnl.logLines = (if s.dev.jnl.spare = 0 then s.dev.jnl.logLines - 1 else s.dev.jnl.logLines) ∧
       t.counter .jnlRetired 0 = s.dev.counter .jnlRetired 0 + 1 ∧ t.mgt.faults.getLast?.map FaultRec.code = some 0x1104))) ∧
   (∀ d : Dev,
     (Jnl.creditAt d.jnl d.now = min (345600 * 1048576 * 10 ^ 9) (d.jnl.credit + Time.since d.now d.jnl.creditTime * (96 * 1048576))) ∧
     ((chargeLine d).jnl.credit = Jnl.creditAt d.jnl d.now - 64 * 10 ^ 9) ∧
     (64 * 10 ^ 9 ≤ Jnl.creditAt d.jnl d.now → paceLine d = d) ∧
     (Jnl.creditAt d.jnl d.now < 64 * 10 ^ 9 →
       (d.jnl.pacingLogged = none → (paceLine d).mgt.faults.getLast?.map FaultRec.code = some 0x1102) ∧
       (∀ t, d.jnl.pacingLogged = some t → Time.since d.now t < 3600 * 10 ^ 9 → (paceLine d).mgt = d.mgt))) ∧
   (∀ (j : Job) (n : Nat) (d : Dev), d.jnl.compacting = some n → (compacted j d).jnl.records = d.jnl.records.drop n ∧
     (compacted j d).jnl.compacting = none)) ∧
  (∀ (ch : Nat) (r : Req) (s : State) (d : Dev), cmdWf ch r = true →
     (Accepted spec0C00 ch r s.dev d → Becomes (.memQuery ch r) s
       (answer (mkJob spec0C00 ch r d) .ok [memStatus d, d.regShown isl.MEM 0x010, mk64 [lo 10 d.mem.retrainMs]] d)) ∧
     (Accepted spec0C01 ch r s.dev d →
       let n := fld (r.word 0) 9 0
       (n < 100 ∨ 1000 < n → Becomes (.memRetrainConfig ch r) s (answer (mkJob spec0C01 ch r d) .badArgument [] d)) ∧
       (100 ≤ n → n ≤ 1000 → (∀ e, Recorded spec0C01 ch r 0 [] d e → Becomes (.memRetrainConfig ch r) s
           { e with mem := { e.mem with nextRetrainMs := n } }) ∧
         (d.jnl.replaying = none → heldObject d 0x0C01 0 = true → Becomes (.memRetrainConfig ch r) s (answer (mkJob spec0C01 ch r d) .busy [] d)) ∧
         (d.jnl.replaying = none → heldObject d 0x0C01 0 = false → Jnl.takes d.jnl 6 (recLines r.payloadLen.toNat) = false → Becomes (.memRetrainConfig ch r) s
           (answer (mkJob spec0C01 ch r d) .noResource [] (jnlRefused (recLines r.payloadLen.toNat) d))))) ∧
     (Accepted spec0C02 ch r s.dev d →
       let c := fld (r.word 0) 5 0
       (48 ≤ c → Becomes (.memChannelQuery ch r) s (answer (mkJob spec0C02 ch r d) .badArgument [] d)) ∧
       (c < 48 → Becomes (.memChannelQuery ch r) s (answer (mkJob spec0C02 ch r d) .ok
         [memChState (d.memChan c), mk64 [(d.memChan c).retries.toNat, at' (d.memChan c).poisonings.toNat 32]] d))) ∧
     (Accepted spec0C10 ch r s.dev d → Becomes (.jnlQuery ch r) s
       (answer (mkJob spec0C10 ch r d) .ok [jnlStatus d, jnlHealth d, jnlRate d, BitVec.ofNat 64 d.jnl.lastDurable] d)) ∧
     (Accepted spec0C11 ch r s.dev d →
       let cs := checkpoints d
       let size := (cs.map (fun c => recLines c.2.1)).sum
       let fits := size ≤ Jnl.free d.jnl ∧ d.jnl.stopped = false ∧ ∀ c ∈ cs, recLines c.2.1 ≤ 16384
       (d.jnl.compacting ≠ none → Becomes (.jnlCompact ch r) s (answer (mkJob spec0C11 ch r d) .busy [] d)) ∧
       (d.jnl.compacting = none → ¬ fits →
         Becomes (.jnlCompact ch r) s (answer (mkJob spec0C11 ch r d) .noResource [] (jnlRefused size d)) ∧ (jnlRefused size d).jnl.records = d.jnl.records) ∧
       (d.jnl.compacting = none → fits → d.jnl.ready = true → cs ≠ [] → Ends (.jnlCompact ch r) s (fun t =>
         t.jnl.records = d.jnl.records ∧ t.jnl.compacting = some (d.jnl.records.length + d.jnl.inflight.length) ∧
         ∃ rs : List JRec, t.jnl.inflight = d.jnl.inflight ++ rs ∧ rs.map (fun x => (x.typ, x.subject, x.body)) = cs.map (fun c => (9, c.1, c.2.2)) ∧
           (rs.getLast?.map JRec.then' = some (.compacted (mkJob spec0C11 ch r d)))))))

/-- R464, R466, R467, R515, R516: an alarm is logged and counted; an erasing one leaves no data key, places every slice that held one in KEY_LOST and
ends its encrypted storage work, once for alarms within 1 µs; TRU_ZEROISE. That alarm source 6 is present for no longer than the command is the
model's choice (log 57). -/
def Obligations.AlarmsAndErasure : Prop :=
  let erased := fun (n : Nat) (s d : Dev) => d.cry.keks = [] ∧ d.cry.cache = [] ∧ d.cry.keys = [] ∧ d.tru.erased = some s.now ∧
    ((∀ sl, sl ∈ s.sliceList → s.slicePort sl < 4) → d.counter .truAlarms (n - 1) = s.counter .truAlarms (n - 1) + 1) ∧
    (∀ sl, sl ∈ s.sliceList → holdsKey s sl = true → (d.slice sl).keyLost = true ∧ ∀ q i, q ∈ s.qpsOf sl → i ∈ (s.qp q).items → (s.qp q).typ = 2 →
      WorkItem.live i = true → dOpcode i.words ≠ 0 → stEncrypt i.words = true →
      ∃ j ∈ (d.qp q).items, j.index = i.index ∧ j.outcome.map WorkOutcome.status = some 7) ∧
    d.mgt.faults.getLast?.map (fun f => (f.code, f.detail2)) = some (0x0D04, mk64 [lo 13 (s.sliceList.filter (holdsKey s)).length])
  (∀ (n : Nat) (s : State), 1 ≤ n → n ≤ 5 →
    let d := s.dev
    let held := d.boot.porHeld = true ∨ (n = 2 ∧ d.boot.powerFail = true) ∨ d.tru.active.getLsbD (n - 1) = true
    let logged := count .truAlarms (n - 1)
      (logFault isl.TRU 0xFF 0x1201 0 (mk64 [n]) 0 { d with tru := { d.tru with active := d.tru.active ||| BitVec.ofNat 6 (2 ^ (n - 1)) } })
    let recent := ∃ t, d.tru.erased = some t ∧ Time.since d.now t ≤ 1000
    (held → Becomes (.alarmRaised n) s d) ∧
    (¬ held → n = 5 ∨ recent → Becomes (.alarmRaised n) s logged) ∧
    (¬ held → n ≠ 5 → ¬ recent → Ends (.alarmRaised n) s (fun e => erased n d e ∧ e.tru.active.getLsbD (n - 1) = true)) ∧
    Becomes (.alarmCleared n) s { d with tru := { d.tru with active := d.tru.active &&& ~~~ (BitVec.ofNat 6 (2 ^ (n - 1))) } }) ∧
  (∀ (ch : Nat) (r : Req) (s : State) (d : Dev), cmdWf ch r = true → Accepted spec0B04 ch r s.dev d →
    (bit (r.word 0) 0 = false → Becomes (.truZeroise ch r) s (answer (mkJob spec0B04 ch r d) .badArgument [] d)) ∧
    (bit (r.word 0) 0 = true → (∀ t, d.tru.erased = some t → 1000 < Time.since d.now t) → ∃ e, erased 6 d e ∧ e.tru.active.getLsbD 5 = false ∧
      Becomes (.truZeroise ch r) s (answer (mkJob spec0B04 ch r d) .ok [] e))) ∧
  (∀ (d : Dev) (r : JRec) (j : Job) (st : Status) (ws : List W64), r ∈ d.jnl.inflight → r.then' = .answer j st ws →
    j.opcode = 0x0800 ∨ j.opcode = 0x0810 ∨ j.opcode = 0x0820 →
    ∃ x ∈ (eraseKeys d).jnl.inflight, x.seq = r.seq ∧ x.then' = .answer j .keyLost [])

/-- R510, R512 to R514, R527: SPDM requests and sessions; key slots are enrolled and revoked under the OWNER signature; what the trust queries answer.
The contents of SPDM messages are not the model's: `valid` says that a request is well formed and its checks pass. -/
def Obligations.IdentityAndKeys : Prop :=
  (∀ (path : Nat) (k : SpdmKind) (valid : Bool) (bs : List Byte) (s : State), path < 4 →
    let d := s.dev
    let after := fun e => Becomes (.spdmRequest path k valid bs) s e
    let sent := emit (.spdm path false (spdmContent d path k bs)) d
    let fails := emit (.spdm path true []) (count .truSpdmFail path d)
    (d.boot.porHeld = true → after d) ∧
    (d.boot.porHeld = false →
      (k = .version ∨ k = .capabilities ∨ k = .algorithms ∨ k = .digests ∨ k = .challenge → valid = true → after sent) ∧
      (k = .other ∨ (valid = false ∧ (k = .version ∨ k = .challenge ∨ k = .keyExchange ∨ k = .endSession)) → after fails) ∧
      (∀ n, k = .certificate n → (n = 0 → valid = true → after sent) ∧ (n ≠ 0 → after fails)) ∧
      (∀ n b, k = .measurements n b → (valid = true → n ≤ 6 ∨ n = 255 → after sent) ∧ (6 < n → n ≠ 255 → after fails)) ∧
      (k = .keyExchange → valid = true → after { sent with tru :=
        { d.tru with sessions := d.tru.sessions.filter (fun p => p != path), handshakes := d.tru.handshakes.filter (fun p => p != path) ++ [path] } }) ∧
      (∀ t, k = .finish t → valid = true → path ∈ d.tru.handshakes → Ends (.spdmRequest path k valid bs) s (fun e => path ∈ e.tru.sessions ∧
        path ∉ e.tru.handshakes ∧ e.counter .truSpdmSessions path = d.counter .truSpdmSessions path + 1)) ∧
      (∀ t, k = .finish t → path ∉ d.tru.handshakes → Ends (.spdmRequest path k valid bs) s (fun e => e.tru.sessions = d.tru.sessions ∧
        e.counter .truSpdmFail path = d.counter .truSpdmFail path + 1)) ∧
      (k = .endSession → valid = true → path ∈ d.tru.sessions → after { sent with tru := { d.tru with sessions := d.tru.sessions.filter (fun p => p != path) } }))) ∧
  (∀ (b : Nat) (t : BitVec 384) (valid : Bool) (bs : List Byte) (s : State) (e : Dev), b < 8 → s.dev.boot.porHeld = false → takeSpdm b s.dev = some e →
    (e.bundle b).state = .authenticating →
    (valid = false → Ends (.spdmRequest (4 + b) (.peerDone t) valid bs) s (fun d => (d.bundle b).state = .refused ∧ (d.bundle b).reason = 1)) ∧
    (valid = true → e.eraseHold = true → Ends (.spdmRequest (4 + b) (.peerDone t) valid bs) s (fun d => (d.bundle b).state = .refused ∧ (d.bundle b).reason = 3)) ∧
    (valid = true → e.eraseHold = false → Ends (.spdmRequest (4 + b) (.peerDone t) valid bs) s (fun d => (d.bundle b).state = .joining ∧
      (d.bundle b).transcript = t ∧ d.counter .truSpdmSessions (4 + b) = e.counter .truSpdmSessions (4 + b) + 1))) ∧
  (∀ (ch : Nat) (r : Req) (s : State) (d : Dev), cmdWf ch r = true → r.indirect = true → keysRead spec0B01 ch r s.dev = true →
    Accepted spec0B01 ch r (zeroPayload ch r s.dev) d →
    let bs := (wordsBytes r.words).take r.payloadLen.toNat
    let slot := fld (r.word 0) 3 0
    let purpose := fld (r.word 0) 9 8
    let first := d.tru.owned = false ∧ slot = 0
    let sigAt := 112 + (if purpose = 3 then 48 else 0)
    let pub := (bs.drop 16).take 96
    let priv := if purpose = 3 then (bs.drop 112).take 48 else []
    let shaped := ((purpose = 1 ∧ slot = 0) ∨ ((purpose = 2 ∨ purpose = 3) ∧ 1 ≤ slot)) ∧ r.word 1 = 0 ∧
      (r.payloadLen.toNat = sigAt + 96 ∨ (first ∧ r.payloadLen.toNat = sigAt)) ∧ Config.pointOk pub = true ∧ (purpose = 3 → Config.scalarOk priv pub = true)
    let signed := Config.ecdsaVerify (d.keySlot 0).pub (Config.sha384 (beBytes Config.unitSerial.toNat 8 ++ beBytes d.tru.enrolCounter.toNat 4 ++
      (bs.take sigAt).drop 8)) ((bs.drop sigAt).take 96) = true
    let free := (d.keySlot slot).purpose = 0 ∨ (d.tru.owned = true ∧ slot = 0)
    let ends := fun st => Becomes (.keyEnrol ch r) s (answer (mkJob spec0B01 ch r d) st [] d)
    (¬ shaped → ends .badArgument) ∧ (shaped → ¬ first → ¬ signed → ends .authFailed) ∧ (shaped → ¬ first → signed → ¬ free → ends .busy) ∧
    (shaped → first ∨ signed → free → ∃ e, Becomes (.keyEnrol ch r) s (answer (mkJob spec0B01 ch r d) .ok [] e) ∧
      e.keySlot slot = ⟨BitVec.ofNat 2 purpose, pub, priv⟩ ∧ (∀ k, k ≠ slot → e.keySlot k = d.keySlot k) ∧
      e.tru.enrolCounter = d.tru.enrolCounter + 1 ∧ (slot = 0 → e.tru.owned = true) ∧ (slot ≠ 0 → e.tru.owned = d.tru.owned) ∧ e.str = d.str)) ∧
  (∀ (ch : Nat) (r : Req) (s : State) (d : Dev), cmdWf ch r = true →
    (Accepted spec0B02 ch r s.dev d →
      let slot := fld (r.word 0) 3 0
      let signed := Config.ecdsaVerify (d.keySlot 0).pub (Config.sha384 (beBytes Config.unitSerial.toNat 8 ++ beBytes d.tru.enrolCounter.toNat 4 ++ []))
        (((wordsBytes r.words).drop 8).take 96) = true
      let ends := fun st => Becomes (.keyRevoke ch r) s (answer (mkJob spec0B02 ch r d) st [] d)
      (slot = 0 → ends .badArgument) ∧ (slot ≠ 0 → (d.keySlot slot).purpose = 0 → ends .alreadyComplete) ∧
      (slot ≠ 0 → (d.keySlot slot).purpose ≠ 0 → ¬ signed → ends .authFailed) ∧
      (slot ≠ 0 → (d.keySlot slot).purpose ≠ 0 → signed → ∃ e, Becomes (.keyRevoke ch r) s (answer (mkJob spec0B02 ch r d) .ok [] e) ∧
        e.keySlot slot = KeySlot.empty ∧ (∀ k, k ≠ slot → e.keySlot k = d.keySlot k) ∧ e.tru.enrolCounter = d.tru.enrolCounter + 1 ∧
        e.rules = d.rules ∧ e.str = d.str)) ∧
    (Accepted spec0B00 ch r s.dev d → ∃ w2 : W64, Becomes (.truQuery ch r) s (answer (mkJob spec0B00 ch r d) .ok [truStatus d, truAlarm d, w2] d) ∧
      (∀ k, k < 16 → fld w2 (2 * k + 1) (2 * k) = (d.keySlot k).purpose.toNat) ∧ (bit (truStatus d) 0 = d.tru.owned) ∧
      (∀ k, k < 16 → (bit (truStatus d) (16 + k) = true ↔ (d.keySlot k).purpose ≠ 0)) ∧ fld (truStatus d) 63 32 = d.tru.enrolCounter.toNat ∧
      fld (truAlarm d) 5 0 = d.tru.active.toNat ∧ bit (truAlarm d) 6 = d.eraseHold) ∧
    (Accepted spec0B03 ch r s.dev d →
      let n := Config.certChain.length
      (fld (r.word 0) 2 0 ≠ 0 ∨ fld (r.word 1) 15 0 < n → Becomes (.certRead ch r) s (answer (mkJob spec0B03 ch r d) .badArgument [] d)) ∧
      (∀ st, fld (r.word 0) 2 0 = 0 → n ≤ fld (r.word 1) 15 0 → Config.certChain ≠ [] → bufferFault .timeout d ch r = some st →
        Becomes (.certRead ch r) s (answer (mkJob spec0B03 ch r d) st [] d)) ∧
      (fld (r.word 0) 2 0 = 0 → n ≤ fld (r.word 1) 15 0 → Config.certChain = [] ∨ bufferFault .timeout d ch r = none → Becomes (.certRead ch r) s
        (answer (mkJob spec0B03 ch r d) .ok [mk64 [lo 16 n]] (bufferWrite ch (r.word 0) Config.certChain d)))))

/-- R517, R519 to R523: what a packet adds to its slice's meters and in which period; marks announced and placed; the close of a period and its record;
what the lead node learns. That a mark is placed only where two are known, and the spacing is of marks no later than the newest period, is the
model's choice (log 90). R520, R525, R527, Table 15-7: the metering commands, and the header of a METER record. METER_READ's cursor is the index of
an entry and the header counts the whole record's entries, which are the model's choices (log 58). -/
def Obligations.Metering : Prop :=
  ((∀ (sl m n : Nat) (t : Time) (d : Dev) (p q : OpenPeriod), d.mtr.opens = [p, q] →
     let add := fun (x : OpenPeriod) => { x with counts := SMap.put 0 x.counts (meterKey d sl m) (SMap.get 0 x.counts (meterKey d sl m) + BitVec.ofNat 64 n) }
     let reached := fun (x : OpenPeriod) => Time.ge t x.mark = true ∨ x.period = 0
     (reached p → meterAdd sl m n t d = { d with mtr := { d.mtr with opens := [add p, q] } }) ∧
     (¬ reached p → reached q → meterAdd sl m n t d = { d with mtr := { d.mtr with opens := [p, add q] } }) ∧
     (¬ reached p → ¬ reached q → meterAdd sl m n t d = count .mtrLate 0 { d with mtr := { d.mtr with opens := [add p, q] } })) ∧
   (∀ (sl base : Nat) (t : Tag) (d : Dev), (t.meterClass = 63 ∨ t.exempt = true → meterPacket sl base t d = d) ∧
     (t.meterClass ≠ 63 → t.exempt = false → meterPacket sl base t d =
       meterAdd sl (base + 4 + t.meterClass.toNat / 16) 1 t.entryTime (meterAdd sl (base + t.meterClass.toNat / 16) t.length.toNat t.entryTime d))) ∧
   (∀ s : State, nextMark s.dev = none → Becomes .candleMark s s.dev) ∧
   (∀ (n : BitVec 32) (t : Time) (placed : Bool) (s : State), nextMark s.dev = some (n, t, placed) →
     let m := s.dev.mtr
     (placed = false → announces s.dev = false → Becomes .candleMark s (let d := reach t s.dev
       { d with mtr := { m with opens := ⟨n, t, false, false, []⟩ :: m.opens, announced := m.announced.filter (fun e => Version.later e.1 n) } })) ∧
     (placed = true → Ends .candleMark s (fun d => d.mtr.opens = ⟨n, t, true, false, []⟩ :: m.opens ∧
       d.counter .mtrSelfMarks 0 = s.dev.counter .mtrSelfMarks 0 + 1 ∧ (announces s.dev = false → d.mtr.lastMarks.head? = some (n, t) ∧
         d.mgt.faults.getLast?.map (fun f => (f.code, f.detail2)) = some (0x1303, mk64 [n.toNat])))) ∧
     (placed = false → announces s.dev = true → Ends .candleMark s (fun d => d.mtr.opens = ⟨n, t, false, false, []⟩ :: m.opens ∧
       (n + 1, t + BitVec.ofNat 48 (m.periodS * 1000000000)) ∈ d.mtr.announced ∧ d.mtr.periodS = m.nextPeriodS ∧
       d.mtr.lastMarks.head? = some (n + 1, t + BitVec.ofNat 48 (m.periodS * 1000000000))))) ∧
   (∀ (d : Dev) (n k : BitVec 32) (t u : Time) (rest : List (BitVec 32 × Time)), d.mtr.announced = [] → d.mtr.lastMarks = (n, t) :: (k, u) :: rest →
     let newest := (d.mtr.opens.headD ⟨0, 0, false, false, []⟩).period
     Version.later n newest = false → Version.later k newest = false → nextMark d = some (newest + 1, t + (t - u), true)) ∧
   (∀ (d : Dev) (n : BitVec 32) (t : Time), (n, t) ∈ d.mtr.announced → n = (d.mtr.opens.headD ⟨0, 0, false, false, []⟩).period + 1 →
     ∃ u, (n, u) ∈ d.mtr.announced ∧ nextMark d = some (n, u, false)) ∧
   (∀ s : State, s.dev.mtr.opens.length ≤ 1 → Becomes .periodClose s s.dev) ∧
   (∀ (p q : OpenPeriod) (rest : List OpenPeriod) (s : State), s.dev.mtr.opens = rest ++ [q, p] →
     let m := s.dev.mtr
     let r : MeterRec := { period := p.period, lost := p.lost, selfMarked := p.selfMarked, mark := p.mark, next := q.mark, node := s.dev.str.node,
                           entries := if p.lost then [] else meterEntries p.counts }
     let due := q.mark + BitVec.ofNat 48 (s.dev.str.maxRttUs * 1000)
     (m.waiting = [] → m.lostQ = [] → Jnl.takes s.dev.jnl 7 (recLines (32 + 264 * r.entries.length)) = true → Ends .periodClose s (fun d =>
       d.now = (if Time.ge s.dev.now due then s.dev.now else due) ∧ d.mtr = { m with opens := rest ++ [q] } ∧
       ∃ x : JRec, d.jnl.inflight = s.dev.jnl.inflight ++ [x] ∧ x.typ = 7 ∧ x.subject = p.period.toNat ∧ x.body = .meter r)) ∧
     ((∀ n, Jnl.takes s.dev.jnl 7 n = false) → m.lostQ = [] →
       (m.waiting.length < 4 → Ends .periodClose s (fun d => d.mtr.waiting = m.waiting ++ [r] ∧ d.mtr.lostQ = [] ∧ d.mtr.opens = rest ++ [q] ∧
         d.mgt.faults.getLast?.map (fun f => (f.code, f.detail2)) = some (0x1302, mk64 [p.period.toNat]))) ∧
       (∀ old w, m.waiting = old :: w → w.length = 3 → Ends .periodClose s (fun d => d.mtr.waiting = w ++ [r] ∧
         d.mtr.lostQ = [{ old with lost := true, entries := [] }] ∧ d.counter .mtrLostPeriods 0 = s.dev.counter .mtrLostPeriods 0 + 1)))) ∧
   (∀ (m : CtlMsg) (n : BitVec 32) (t : Time) (s : State) (d : Dev), Arrived isCandle m (n, t) s.dev d →
     Ends .candleReceive s (fun e => e.mtr.opens = d.mtr.opens ∧ e.mtr.lastMarks.head? = some (n, t) ∧
       (Version.later n d.newestPeriod.period = true → (n, t) ∈ e.mtr.announced) ∧
       (Version.later n d.newestPeriod.period = false → e.mtr.announced = d.mtr.announced) ∧
       (∀ k u rest, d.mtr.lastMarks = (k, u) :: rest → n = k + 1 → e.mtr.periodS = Time.since t u / 1000000000))) ∧
   (∀ (m : CtlMsg) (n : BitVec 32) (s : State) (d : Dev), Arrived isCandleDone m n s.dev d →
     (d.isLead = false → Becomes .candleDoneReceive s d) ∧
     (d.isLead = true → Ends .candleDoneReceive s (fun e => (∀ k, SMap.get 0 e.mtr.doneBy k = if k = m.hdr.org then n.toNat + 1 else SMap.get 0 d.mtr.doneBy k) ∧
       ((∃ k ∈ d.str.members, SMap.get 0 e.mtr.doneBy k = 0) → e.mtr.stringDone = d.mtr.stringDone) ∧
       (d.str.members ≠ [] → (∀ k ∈ d.str.members, SMap.get 0 e.mtr.doneBy k ≠ 0) → ∃ low, (∃ k ∈ d.str.members, SMap.get 0 e.mtr.doneBy k = low + 1) ∧
         (∀ k ∈ d.str.members, low + 1 ≤ SMap.get 0 e.mtr.doneBy k) ∧ e.mtr.stringDone = BitVec.ofNat 32 low))))) ∧
  ((∀ (ch : Nat) (r : Req) (s : State) (d : Dev), cmdWf ch r = true →
     let w := r.word 0
     let idle := d.jnl.replaying = none
     (Accepted spec0900 ch r s.dev d → idle →
       let p := fld w 11 0
       let first := (d.now.toNat / (p * 1000000000) + 1) * (p * 1000000000)
       let ends := fun st => Becomes (.meterConfig ch r) s (answer (mkJob spec0900 ch r d) st [] d)
       (p = 0 ∨ 3600 < p → ends .badArgument) ∧
       (1 ≤ p → p ≤ 3600 → d.nonLead = true → ends .stalePartition) ∧
       (1 ≤ p → p ≤ 3600 → d.nonLead = false → d.isLead = false → ends .notPermitted) ∧
       (1 ≤ p → p ≤ 3600 → d.nonLead = false → d.isLead = true →
         (nextMark d = none → ∀ e, Recorded spec0900 ch r 0 [mk64 [(d.newestPeriod.period + 1).toNat], mk64 [lo 48 first]] d e →
           Ends (.meterConfig ch r) s (fun t => t.mtr.periodS = p ∧ t.mtr.nextPeriodS = p ∧
             (d.newestPeriod.period + 1, BitVec.ofNat 48 first) ∈ t.mtr.announced ∧ t.mtr.opens = d.mtr.opens)) ∧
         (∀ n t b, nextMark d = some (n, t, b) →
           ∀ e, Recorded spec0900 ch r 0 [mk64 [(n + 1).toNat], mk64 [(t + BitVec.ofNat 48 (d.mtr.periodS * 1000000000)).toNat]] d e →
           Becomes (.meterConfig ch r) s { e with mtr := { e.mtr with nextPeriodS := p } }))) ∧
     (Accepted spec0901 ch r s.dev d → Becomes (.meterQuery ch r) s
       (answer (mkJob spec0901 ch r d) .ok [mtrStatus d, mtrNextMark d, mtrDone d, mtrOldest d] d)) ∧
     (Accepted spec0902 ch r s.dev d →
       let n := fld w 31 0
       let sl := fld w 43 32
       let k := fld (r.word 2) 12 0
       let c := fld (r.word 3) 12 0
       let shaped := 1 ≤ k ∧ k ≤ 4096 ∧ fld (r.word 1) 2 0 = 0
       let may := 4096 ≤ ch ∨ (bit w 44 = false ∧ sl = ch)
       let known := d.mtr.oldest.toNat ≤ n ∧ n ≤ d.newestPeriod.period.toNat
       let ends := fun st => Becomes (.meterRead ch r) s (answer (mkJob spec0902 ch r d) st [] d)
       (¬ shaped → ends .badArgument) ∧ (shaped → ¬ may → ends .notPermitted) ∧ (shaped → may → ¬ known → ends .badArgument) ∧
       (shaped → may → known → meterRecord d n = none → ends .busy) ∧
       (∀ x st, shaped → may → known → meterRecord d n = some x → bufferFault .timeout d ch r = some st → ends st) ∧
       (∀ x, shaped → may → known → meterRecord d n = some x → bufferFault .timeout d ch r = none →
         let es := x.entries.filter (fun e => bit w 44 || e.1 == sl)
         let part := (es.drop c).take k
         Becomes (.meterRead ch r) s (answer (mkJob spec0902 ch r d) .ok
           [mk64 [lo 13 (if c + part.length < es.length then c + part.length else 0), at' (lo 13 part.length) 16]]
           (bufferWrite ch (r.word 1) (wordsBytes (meterHeader x ++ part.flatMap (fun e => mk64 [lo 12 e.1, at' (lo 16 e.2.1) 16] :: e.2.2))) d)))) ∧
     (Accepted spec0903 ch r s.dev d → idle →
       let n := fld w 31 0
       let done := ∃ k, d.mtr.localDone = some k ∧ n ≤ k.toNat
       (¬ done → Becomes (.meterRelease ch r) s (answer (mkJob spec0903 ch r d) .badArgument [] d)) ∧
       (done → n < d.mtr.oldest.toNat → Becomes (.meterRelease ch r) s (answer (mkJob spec0903 ch r d) .alreadyComplete [] d)) ∧
       (done → d.mtr.oldest.toNat ≤ n → ∀ e, Recorded spec0903 ch r 0 [mk64 [lo 32 (n + 1)]] d e → Becomes (.meterRelease ch r) s
         { e with mtr := { e.mtr with oldest := BitVec.ofNat 32 (n + 1) } })) ∧
     (Accepted spec0904 ch r s.dev d →
       let sl := fld w 11 0
       (ch < 4096 → ch ≠ sl → Becomes (.meterLive ch r) s (answer (mkJob spec0904 ch r d) .notPermitted [] d)) ∧
       (4096 ≤ ch ∨ ch = sl → Becomes (.meterLive ch r) s (answer (mkJob spec0904 ch r d) .ok
         ((List.range 32).map (fun m => SMap.get 0 d.newestPeriod.counts (meterKey d sl m))) d)))) ∧
   (∀ x : MeterRec, x.entries.length < 2 ^ 16 → x.node < 2 ^ 20 → ∃ w0 w1 w2 w3 : W64, meterHeader x = [w0, w1, w2, w3] ∧
     fld w0 31 0 = x.period.toNat ∧ fld w0 47 32 = x.entries.length ∧ bit w0 48 = x.lost ∧ bit w0 49 = x.selfMarked ∧ fld w0 63 50 = 0 ∧
     w1.toNat = x.mark.toNat ∧ w2.toNat = x.next.toNat ∧ w3.toNat = x.node))

/-- R530, R532 to R534, R485, R102, R509, R547, R556, R557, R559, Table 16-1: the stages of start-up but replay, each from where the one before it left
off; FAILED; what a release of the power-on reset samples. A stage's command has no effect in any other stage. -/
def Obligations.StartUpStages : Prop :=
  (∀ (mgr i2c mv : Nat) (s : State), mgr < 4 → i2c < 4 → 650 ≤ mv → mv ≤ 750 →
    let p := if mgr = 3 then 0 else mgr
    (s.dev.boot.porHeld = false → Becomes (.powerOnResetRelease mgr i2c mv) s s.dev) ∧
    (s.dev.boot.porHeld = true → s.dev.boot.started = none → s.dev.boot.tripped = false → s.dev.boot.powerFail = false →
      Ends (.powerOnResetRelease mgr i2c mv) s (fun d => d.mgrPort = p ∧ d.boot.porHeld = false ∧ d.boot.i2cAddr = i2c ∧ d.boot.coreMv = mv ∧
        d.boot.stage = s.dev.boot.stage ∧ d.out = .avsTarget mv :: s.dev.out ∧ d.mgt.bindings = [(0, ⟨BitVec.ofNat 8 (8 + p), true⟩)] ∧
        d.boot.started = (if (s.dev.port p).perst then none else some s.dev.now)))) ∧
  (∀ s : State,
    let idle := fun c => Becomes c s s.dev
    let other := fun (k : Nat) => s.dev.boot.started = none ∨ s.dev.boot.stage ≠ k
    (other 0 → idle .romStage) ∧ (other 1 → ∀ a b, idle (.fwLoad a b)) ∧ (other 2 → ∀ rom fw ste, idle (.measureStage rom fw ste)) ∧
    (other 3 → ∀ tru jnl lcp ste, idle (.selfTest tru jnl lcp ste)) ∧ (other 4 → ∀ a b c e small, idle (.trainingStage a b c e small)) ∧
    (other 5 → ∀ bad, idle (.replayStage bad)) ∧ (other 6 → idle .rejoinStage) ∧ (other 7 → idle .readyStage)) ∧
  (∀ s : State, s.dev.boot.started ≠ none →
    let d := s.dev
    let at_ := fun (k : Nat) => d.boot.stage = k
    let rrsEnds := fun (e : Dev) => ∀ p, p < 3 → (e.port p).rrs = false
    let failed := fun (cause : Nat) (e : Dev) => e.boot.stage = 15 ∧ e.boot.cause = cause ∧ rrsEnds e ∧ e.mgt = d.mgt
    (at_ 0 → Ends .romStage s (fun e => e.boot.stage = 1 ∧ e.boot.spiBusy = true)) ∧
    (∀ a b : ImageRead, at_ 1 →
      let good := fun (x : ImageRead) => x.signed = true ∧ x.decrypts = true ∧ x.newEnough = true
      let taken := fun (x : ImageRead) (e : Dev) => e.boot.stage = 2 ∧ e.boot.version = x.version ∧ e.cry.ste = .test ∧ e.cry.imageVersion = x.steVersion ∧
        e.cry.patchLevel = d.cry.staged.getD d.cry.patchLevel ∧ e.cry.staged = none ∧ e.boot.spiBusy = false ∧ e.mgt = d.mgt
      (good a → Ends (.fwLoad a b) s (fun e => taken a e ∧ e.boot.imageB = false)) ∧
      (¬ good a → good b → Ends (.fwLoad a b) s (fun e => taken b e ∧ e.boot.imageB = true ∧
        e.boot.causeA = (if a.signed = true ∧ a.decrypts = true then 2 else 1))) ∧
      (¬ good a → ¬ good b → Ends (.fwLoad a b) s (fun e => ∃ c, failed c e ∧ e.boot.spiBusy = false ∧
        (a.signed = false ∨ a.decrypts = false → b.signed = false ∨ b.decrypts = false → c = 1) ∧
        (a.signed = true → a.decrypts = true → b.signed = true → b.decrypts = true → c = 2)))) ∧
    (∀ rom fw ste : BitVec 384, at_ 2 → Becomes (.measureStage rom fw ste) s { d with
      boot := { d.boot with stage := 3 }
      tru := { d.tru with meas := [rom, fw, ste, Config.sha384 (slotBytes d),
        Config.sha384 ([0x10] ++ beBytes (b2n d.tru.owned) 1 ++ beBytes (b2n d.tru.locked) 1), 0] } }) ∧
    (∀ (jnl : Bool) (lcp ste : Option Byte), at_ 3 →
      Ends (.selfTest false jnl lcp ste) s (failed 3) ∧ Ends (.selfTest true false lcp ste) s (failed 4) ∧
      Ends (.selfTest true true lcp ste) s (fun e => e.boot.stage = 4 ∧ rrsEnds e ∧ e.mgt.fwUp = true ∧ e.mgt.fwVersion = d.boot.version ∧
        e.cry.lcpReady = lcp.isNone ∧ e.cry.ste = (if ste = none then .recovery else .failed) ∧
        (∀ c id, (c, id) ∈ ([(240, 0x10), (241, 0x11), (242, 0x12), (243, 0x05)] : List (Nat × Byte)) →
          SMap.get ⟨0, false⟩ e.mgt.bindings c = (⟨id, true⟩ : Binding)) ∧
        (∀ t, lcp = some t → ste = none → e.mgt.faults.getLast?.map (fun f => (f.code, f.detail2)) = some (0x0D05, mk64 [t.toNat])) ∧
        (∀ t, ste = some t → e.mgt.faults.getLast?.map (fun f => (f.code, f.detail2)) = some (0x0E01, mk64 [t.toNat])) ∧
        (lcp = none → ste = none → d.boot.imageB = true →
          e.mgt.faults.getLast?.map (fun f => (f.code, f.detail2)) = some (0x1003, mk64 [lo 8 d.boot.causeA])))) ∧
    (∀ (f36 f32 f28 f24 : BitVec 48) (small : Bool), at_ 4 → d.boot.trainFailed = false →
      let locked := fun (k : Nat) => Becomes (.trainingStage f36 f32 f28 f24 small) s { d with
        boot := { d.boot with stage := 5 }
        mem := { d.mem with trained := true, speed := k, small := small, intervalAt := d.now, windowAt := d.now } }
      (f36 = 0 → locked 0) ∧ (f36 ≠ 0 → f32 = 0 → locked 1) ∧ (f36 ≠ 0 → f32 ≠ 0 → f28 = 0 → locked 2) ∧
      (f36 ≠ 0 → f32 ≠ 0 → f28 ≠ 0 → f24 = 0 → locked 3) ∧
      (f36 ≠ 0 → f32 ≠ 0 → f28 ≠ 0 → f24 ≠ 0 → Ends (.trainingStage f36 f32 f28 f24 small) s (fun e => e.boot.stage = 4 ∧ e.boot.trainFailed = true ∧
        e.boot.ready = d.boot.ready ∧ ∀ c, c < 48 → f24.getLsbD c = true → ∃ f ∈ e.mgt.faults, f.code = 0x0F01 ∧ f.detail2 = mk64 [c]))) ∧
    (at_ 4 → d.boot.trainFailed = true → ∀ f36 f32 f28 f24 small, Becomes (.trainingStage f36 f32 f28 f24 small) s d) ∧
    (at_ 6 → d.boot.entered = true →
      (d.str.mode = 0 ∨ d.str.state = .settled → Becomes .rejoinStage s { d with boot := { d.boot with stage := 7 } }) ∧
      (d.str.mode ≠ 0 → d.str.state ≠ .settled → Becomes .rejoinStage s d)) ∧
    (at_ 6 → d.boot.entered = false →
      let e := enterString { d with boot := { d.boot with entered := true } }
      (e.str.mode = 0 ∨ e.str.state = .settled → Becomes .rejoinStage s { e with boot := { e.boot with stage := 7 } }) ∧
      (e.str.mode ≠ 0 → e.str.state ≠ .settled → Becomes .rejoinStage s e)) ∧
    (∀ u, at_ 7 → d.boot.started = some u → d.boot.ready = false →
      Becomes .readyStage s { d with boot := { d.boot with ready := true, msToReady := Time.since d.now u / 1000000 } }) ∧
    (at_ 7 → d.boot.ready = true → Becomes .readyStage s d))

/-- R66, R453, R498, R503, R535, Table 16-1: stage 5 and what it makes of the records: all of them, or those before the one whose tag fails. -/
def Obligations.JournalReplay : Prop :=
  (∀ (bad : Option Nat) (s : State), s.dev.boot.started ≠ none → s.dev.boot.stage = 5 →
    let d := s.dev
    let served := fun (e : Dev) => e.boot.stage = 6 ∧ e.cry.ste = (if d.cry.ste = .recovery then .service else d.cry.ste)
    (d.mgt.fwUp = false → Becomes (.replayStage bad) s d) ∧
    (d.mgt.fwUp = true → d.jnl.ready = true → Ends (.replayStage bad) s (fun e => served e ∧ e.jnl = d.jnl ∧ e.rules = d.rules)) ∧
    (d.mgt.fwUp = true → d.jnl.ready = false →
      let good := match bad with
        | some n => d.jnl.records.take n
        | none => d.jnl.records
      Ends (.replayStage bad) s (fun e => e.boot.stage = 6 ∧ e.jnl.ready = true ∧ e.jnl.replaying = none ∧ e.jnl.records = good))) ∧
  (∀ (rs : List JRec) (n : Nat) (d : Dev),
    (∀ x, n + 1 < rs.length → rs[n]? = some x → (reportBad rs (some n) d).jnl.corrupt = true ∧
      (reportBad rs (some n) d).mgt.faults.getLast?.map (fun f => (f.code, f.detail2)) = some (0x1103, BitVec.ofNat 64 x.seq)) ∧
    (n + 1 = rs.length → reportBad rs (some n) d = count .jnlTorn 0 d)) ∧
  (∀ (j : Jnl) (r : JRec) (rest : List JRec), j.inflight = r :: rest → 0 < r.written → (Jnl.afterReset j).torn = true ∧ r.seq < (Jnl.afterReset j).nextSeq ∧
    j.lastDurable < (Jnl.afterReset j).nextSeq ∧ j.highSeq < (Jnl.afterReset j).nextSeq ∧ (Jnl.afterReset j).inflight = []) ∧
  (∀ (d : Dev) (r : JRec),
    let e := replayRecord d r
    let v := BitVec.ofNat 32 r.subject
    let k := versionSlot v
    (∀ t, r.body = .activate t → (d.slot k).state = .prepared → (d.slot k).version = v →
      (e.slot k).state = .active ∧ (e.slot k).version = v ∧ e.rules.tAct = t ∧ (∀ j, d.activeSlot = some j → j ≠ k → (e.slot j).state = .draining)) ∧
    (∀ t, r.body = .activate t → (d.slot k).state ≠ .prepared ∨ (d.slot k).version ≠ v → e.rules = d.rules) ∧
    (∀ up x, r.body = .seqBlock false up → d.sa r.subject = some x → e.sa r.subject = some { x with seq := up, reserved := up }) ∧
    (∀ up x, r.body = .seqBlock true up → d.sa r.subject = some x → e.sa r.subject = some { x with seq := up, edge := up + 2 ^ 20 }) ∧
    (∀ x ms lead, r.body = .epoch x ms lead → e.str.refMembers = ms ∧ e.str.refEpoch = x ∧ e.str.refLead = lead ∧ e.str.epoch = x) ∧
    (∀ x, r.body = .meter x → e.mtr.localDone = some x.period) ∧
    (∀ op ch ws f, r.body = .config op ch ws → op ≠ 0x0104 → op ≠ 0x0105 → replayTable.find? (fun y => y.1 == op) = some (op, f) →
      e = (f ch (recordReq ws) { d with jnl := { d.jnl with replaying := some r.subject } }).1) ∧
    (r.body = .powerFail → e.rules = d.rules ∧ e.slices = d.slices ∧ e.tmg = d.tmg ∧ e.cry = d.cry ∧ e.str = d.str))

/-- R540 to R542, Tables 16-3 and 16-4: a record that has arrived is written, overwrites the oldest ones in WRAP, and is discarded in STOP where only
unstreamed ones would give way; losses are counted and logged; which packets a tagging point marks. That streamed records give way in STOP is the
model's choice (log 93). R547, Table 16-8: the observation commands. That OBS_STREAM starts both totals again is the model's choice (log 94). R536,
R543 to R545, R566, Tables 16-2 and 16-5: a batch of records leaves for the host's ring, never further than its size ahead of what the host has
taken, or as a frame of at most 8,192 bytes of them; a write that fails ends streaming; the OBS tap; boundary scan. -/
def Obligations.Observation : Prop :=
  ((∀ s : State, s.dev.obs.arriving = [] → Becomes .traceRecordWrite s s.dev) ∧
   (∀ (r : TraceRec) (rest : List TraceRec) (s : State), s.dev.obs.arriving = r :: rest →
     let d := s.dev
     let o := d.obs
     let n := 8 * r.words.length
     let held := fun (l : List TraceRec) => (l.map (fun x => 8 * x.words.length)).sum
     (o.mode = 0 → Becomes .traceRecordWrite s { d with obs := { o with arriving := rest } }) ∧
     (o.mode ≠ 0 → held o.ring + n ≤ 2 ^ 26 → Becomes .traceRecordWrite s (count .obsTraceRecords 0 { d with obs :=
       { o with arriving := rest, ring := o.ring ++ [r], head := (o.head + n) % 2 ^ 26 } })) ∧
     (o.mode = 1 → 2 ^ 26 < held o.ring + n → n ≤ 2 ^ 26 → Ends .traceRecordWrite s (fun e => ∃ k, e.obs.ring = o.ring.drop k ++ [r] ∧ 1 ≤ k ∧
       held e.obs.ring ≤ 2 ^ 26 ∧ (∀ j, j < k → 2 ^ 26 < held (o.ring.drop j) + n) ∧ k ≤ o.ring.length ∧ e.obs.head = (o.head + n) % 2 ^ 26 ∧
       e.counter .obsTraceLost 0 = d.counter .obsTraceLost 0 + BitVec.ofNat 64 k ∧ e.counter .obsTraceRecords 0 = d.counter .obsTraceRecords 0 + 1)) ∧
     (o.mode = 2 → 2 ^ 26 < held (o.ring.drop o.streamed) + n → Ends .traceRecordWrite s (fun e => e.obs.ring = o.ring ∧ e.obs.head = o.head ∧
       e.obs.tail = o.tail ∧ e.counter .obsTraceLost 0 = d.counter .obsTraceLost 0 + 1 ∧ e.counter .obsTraceRecords 0 = d.counter .obsTraceRecords 0 ∧
       (o.lostLogged = none → e.obs.lostLogged = some d.now ∧
         e.mgt.faults.getLast?.map (fun f => (f.code, f.detail2)) = some (0x1401, mk64 [lo 32 (o.lostSince + 1)])) ∧
       (∀ t, o.lostLogged = some t → Time.since d.now t < 1000000000 → e.mgt = d.mgt ∧ e.obs.lostSince = o.lostSince + 1)))) ∧
   (∀ (kind source : Nat) (ws : List W64) (d : Dev),
     (d.obs.mode = 0 ∨ d.obs.sources.getLsbD source = false → traceRecord kind source ws d = d) ∧
     (d.obs.mode ≠ 0 → d.obs.sources.getLsbD source = true →
       traceRecord kind source ws d = { d with obs := { d.obs with arriving := d.obs.arriving ++ [⟨kind, ws⟩] } })) ∧
   (∀ (t : Nat) (p : Pkt) (d : Dev),
     let o := d.obs
     let skips := o.sampleN = 0 ∨ o.mode = 0 ∨ p.tag.exempt = true ∨ (o.sliceFilter = true ∧ p.tag.slice.toNat ≠ o.slice)
     let c := SMap.get 0 o.counted t + 1
     let q := (traceSample t p d).1
     let e := (traceSample t p d).2
     (skips → q = p ∧ e = d) ∧
     (¬ skips → c < o.sampleN → q = p ∧ SMap.get 0 e.obs.counted t = c ∧ e.obs.arriving = o.arriving) ∧
     (¬ skips → o.sampleN ≤ c → t < 8 → t ≠ 2 → SMap.get 0 o.lastId t < 4096 → q.tag.flag 0 = true ∧ q.bytes = p.bytes ∧
       SMap.get 0 e.obs.counted t = 0 ∧ q.tag.traceId.toNat / 4096 = ([1, 2, 0, 3, 4, 5, 6, 7] : List Nat).getD t 0 ∧
       1 ≤ q.tag.traceId.toNat % 4096 ∧ (SMap.get 0 o.lastId t < 4095 → q.tag.traceId.toNat % 4096 = SMap.get 0 o.lastId t + 1)))) ∧
  (∀ (ch : Nat) (r : Req) (s : State) (d : Dev), cmdWf ch r = true →
     let a := r.word 0
     let b := r.word 1
     (Accepted spec0A00 ch r s.dev d →
       (fld a 1 0 = 3 → Becomes (.obsTraceConfig ch r) s (answer (mkJob spec0A00 ch r d) .badArgument [] d)) ∧
       (fld a 1 0 ≠ 3 → Becomes (.obsTraceConfig ch r) s (answer (mkJob spec0A00 ch r d) .ok [] { d with obs := { d.obs with
         mode := fld a 1 0, sources := BitVec.ofNat 5 (fld a 12 8), sampleN := fld b 23 0, slice := fld b 43 32, sliceFilter := bit b 44 } }))) ∧
     (Accepted spec0A01 ch r s.dev d →
       let sl := fld a 11 0
       ((d.slice sl).state = .free → Becomes (.obsHeaderCapture ch r) s (answer (mkJob spec0A01 ch r d) .badArgument [] d)) ∧
       ((d.slice sl).state ≠ .free → ∃ l : List Nat, (∀ n, n ≠ sl → (n ∈ l ↔ n ∈ d.obs.headerCapture)) ∧ (sl ∈ l ↔ bit a 12 = true) ∧
         Becomes (.obsHeaderCapture ch r) s (answer (mkJob spec0A01 ch r d) .ok [] { d with obs := { d.obs with headerCapture := l } }))) ∧
     (Accepted spec0A02 ch r s.dev d →
       let log := fld a 12 8
       let sound := fld a 1 0 ≤ 2 ∧ (fld a 1 0 = 1 → 20 ≤ log ∧ log ≤ 30 ∧ b.toNat % 2 ^ log = 0 ∧ (r.word 2).toNat % 8 = 0)
       (¬ sound → Becomes (.obsStream ch r) s (answer (mkJob spec0A02 ch r d) .badArgument [] d)) ∧
       (sound → Becomes (.obsStream ch r) s (answer (mkJob spec0A02 ch r d) .ok [] { d with obs := { d.obs with
         streamTarget := fld a 1 0, streamWords := r.words.take 5, streamBytes := 0, consumed := 0 } }))) ∧
     (Accepted spec0A03 ch r s.dev d →
       let at_ := if fld a 25 0 = 0x3FFFFFF then d.obs.tail else fld a 25 0
       let held := fun (l : List TraceRec) => (l.map (fun x => 8 * x.words.length)).sum
       (fld b 2 0 ≠ 0 → Becomes (.obsTraceRead ch r) s (answer (mkJob spec0A03 ch r d) .badArgument [] d)) ∧
       ((∀ k, k ≤ d.obs.ring.length → (d.obs.tail + held (d.obs.ring.take k)) % 2 ^ 26 ≠ at_) → d.obs.tail < 2 ^ 26 →
         Becomes (.obsTraceRead ch r) s (answer (mkJob spec0A03 ch r d) .badArgument [] d)) ∧
       (∀ k, fld b 2 0 = 0 → d.obs.tail < 2 ^ 26 → k ≤ d.obs.ring.length → (d.obs.tail + held (d.obs.ring.take k)) % 2 ^ 26 = at_ →
         (∀ j, j < k → (d.obs.tail + held (d.obs.ring.take j)) % 2 ^ 26 ≠ at_) →
         ∃ part, part <+: d.obs.ring.drop k ∧ held part ≤ fld (r.word 2) 23 0 ∧
           (∀ x rest, d.obs.ring.drop k = part ++ x :: rest → fld (r.word 2) 23 0 < held part + 8 * x.words.length) ∧
           (∀ st, traceBytes part ≠ [] → bufferFault .timeout d ch r = some st →
             Becomes (.obsTraceRead ch r) s (answer (mkJob spec0A03 ch r d) st [] d)) ∧
           (traceBytes part = [] ∨ bufferFault .timeout d ch r = none → Becomes (.obsTraceRead ch r) s (answer (mkJob spec0A03 ch r d) .ok [mk64 [(at_ + held part) % 2 ^ 26, at' (lo 24 (held part)) 32]]
             (bufferWrite ch b (part.flatMap (fun x => wordsBytes x.words)) d))))) ∧
     (Accepted spec0A04 ch r s.dev d →
       (bit a 0 = d.obs.tapEnable → Becomes (.obsTapEnable ch r) s (answer (mkJob spec0A04 ch r d) .alreadyComplete [] d)) ∧
       (bit a 0 ≠ d.obs.tapEnable → Becomes (.obsTapEnable ch r) s
         (answer (mkJob spec0A04 ch r d) .ok [] { d with obs := { d.obs with tapEnable := bit a 0 } })))) ∧
  ((∀ (n : Nat) (bad : Option Nat) (s : State), (∀ c, bad = some c → c < 8) →
     let d := s.dev
     let o := d.obs
     let rs := (o.ring.drop o.streamed).take n
     let held := fun (l : List TraceRec) => (l.map (fun x => 8 * x.words.length)).sum
     let sent := fun (part : List TraceRec) => countBy .obsStreamBytes 0 (held part) { d with obs :=
       { o with streamed := o.streamed + part.length, streamBytes := o.streamBytes + held part } }
     let size := 2 ^ fld (o.streamWords.getD 0 0) 12 8
     let ahead := (o.streamBytes + 2 ^ 40 - o.consumed % 2 ^ 40) % 2 ^ 40
     (d.mgt.fwUp = false ∨ (o.streamTarget ≠ 1 ∧ o.streamTarget ≠ 2) → Becomes (.traceStream n bad) s d) ∧
     (d.mgt.fwUp = true → o.streamTarget = 1 → (∀ r ∈ o.ring, r.words ≠ []) → ∃ part, part <+: rs ∧ (part ≠ [] → ahead + held part ≤ size) ∧
       (∀ r rest, rs = part ++ r :: rest → size < ahead + held part + 8 * r.words.length) ∧
       (part = [] → Becomes (.traceStream n bad) s d) ∧
       (∀ c, part ≠ [] → bad = some c → Ends (.traceStream n bad) s (fun e => e.obs.streamTarget = 0 ∧ e.obs.ring = o.ring ∧ e.obs.streamed = o.streamed ∧
         e.mgt.faults.getLast?.map (fun f => (f.code, f.detail2)) = some (0x1402, mk64 [lo 3 c]))) ∧
       (part ≠ [] → bad = none → Ends (.traceStream n bad) s (fun e => e.obs = (sent part).obs ∧ e.ctr = (sent part).ctr ∧ e.mgt = d.mgt)) ∧
       (part ≠ [] → bad = none → d.linkUsable d.mgrPort false = true → o.streamBytes % size + held part ≤ size →
         Ends (.traceStream n bad) s (fun e => e.out =
           .hostWrite d.mgrPort false none (o.streamWords.getD 2 0) (wordsBytes [BitVec.ofNat 64 (o.streamBytes + held part)]) ::
           .hostWrite d.mgrPort false none (o.streamWords.getD 1 0 + BitVec.ofNat 64 (o.streamBytes % size)) (part.flatMap (fun r => wordsBytes r.words)) ::
           d.out))) ∧
     (d.mgt.fwUp = true → o.streamTarget = 2 → ∃ part, part <+: rs ∧ held part ≤ 8192 ∧ (∀ r rest, rs = part ++ r :: rest → 8192 < held part + 8 * r.words.length) ∧
       (part = [] → Becomes (.traceStream n bad) s d) ∧
       (part ≠ [] → Becomes (.traceStream n bad) s
         (tagAndQueue 4 0 75 d.now (streamHeader d ++ part.flatMap (fun r => wordsBytes r.words)) id (sent part))))) ∧
   (∀ (w : RegWrite) (s : State), Wf.obsStreamConsumedWrite w = true →
     (names w isl.OBS 0x010 = false → Becomes (.obsStreamConsumedWrite w) s s.dev) ∧
     (names w isl.OBS 0x010 = true → Becomes (.obsStreamConsumedWrite w) s (regWriteArrive w s.dev)) ∧
     (w.master = 1 → w.len = 8 → w.off = isl.OBS * 2048 + 0x010 →
       Becomes (.obsStreamConsumedWrite w) s { s.dev with obs := { s.dev.obs with consumed := w.value.toNat % 2 ^ 40 } })) ∧
   (∀ (op : Byte) (addr : BitVec 32) (n : Nat) (s : State), n ≤ 4096 → ∃ bs : List Byte, bs.length = n ∧
     (s.dev.obs.tapEnable = false → Becomes (.obsTapTransaction op addr n) s (emit (.tap bs) { s.dev with freeCtr := s.dev.freeCtr + 2 ^ 26 })) ∧
     (s.dev.obs.tapEnable = true → Becomes (.obsTapTransaction op addr n) s
       (emit (.tap bs) (count .obsTapReads 0 { s.dev with freeCtr := s.dev.freeCtr + 2 ^ 26 }))) ∧
     (s.dev.obs.tapEnable = false ∨ op ≠ 0x0B → bs = List.replicate n 0) ∧
     (s.dev.obs.tapEnable = true → op = 0x0B → ∀ k, k < n →
       let a := addr.toNat + k
       let i := (a - 0x40000000 + 2 ^ 26 - s.dev.obs.tail) % 2 ^ 26
       let ring := s.dev.obs.ring.flatMap (fun r => wordsBytes r.words)
       (a < 0x40000000 → bs.getD k 0 = bar4Byte s.dev a) ∧
       (0x40000000 ≤ a → a < 0x44000000 → i < ring.length → bs.getD k 0 = ring.getD i 0) ∧ (0x44000000 ≤ a → bs.getD k 0 = 0))) ∧
   (∀ d : Dev, (∀ p k, p < 64 → k < 8 → bar4Byte d (8 * (0x1A40 + p) + k) = (wordsBytes [d.counter .macRxFcs p]).getD k 0) ∧
     (∀ a, 0x50000 ≤ a → bar4Byte d a = 0)) ∧
   (∀ s : State,
     Becomes .idcode s (emit (.scanOut ((List.range 32).map (fun i => (0x14144D9B : Nat).testBit i))) { s.dev with obs := { s.dev.obs with scan := 0 } }) ∧
     (∀ pins, Becomes (.sampleTap pins) s (emit (.scanOut pins) { s.dev with obs := { s.dev.obs with scan := 1 } })) ∧
     (∀ code : BitVec 6, code ≠ 1 → code ≠ 2 →
       Becomes (.bypassTap code) s (emit (.scanOut [false]) { s.dev with obs := { s.dev.obs with scan := 2 } }))))

/-- R502, R530, R531, R554, R558, R559, R561, R562, R565: power-on reset, power failure and recovery, the VDD_CORE target, temperature, and the pulse
per second. That what a power failure stops is gone at once is the model's choice (log 91). -/
def Obligations.PowerAndTemperature : Prop :=
  let cleared := fun (s d : Dev) => d.slices = Dev.reset.slices ∧ d.rules = Dev.reset.rules ∧ d.qde = Dev.reset.qde ∧ d.obs = Dev.reset.obs ∧
    d.str = Dev.reset.str ∧ d.mem = Dev.reset.mem ∧ d.eth = Dev.reset.eth ∧ d.act = Dev.reset.act ∧ d.tmg = Dev.reset.tmg ∧ d.fabric = Dev.reset.fabric ∧
    d.ctr = Dev.reset.ctr ∧ d.now = Dev.reset.now ∧ d.cry.keys = [] ∧ d.cry.keks = s.cry.keks ∧ d.mgt.fwUp = false ∧
    (∀ p, p < 3 → (d.port p).linkA.up = false ∧ (d.port p).linkB.up = false ∧ (d.port p).perst = (s.port p).perst)
  let kept := fun (s d : Dev) => d.tru.owned = s.tru.owned ∧ d.tru.locked = s.tru.locked ∧ d.tru.slots = s.tru.slots ∧ d.tru.enrolCounter = s.tru.enrolCounter
  (∀ s : State, Ends .powerOnResetAssert s (fun d => cleared s.dev d ∧ kept s.dev d ∧ d.boot = { Boot.reset with coreMv := s.dev.boot.coreMv } ∧
    d.jnl.records = Jnl.kept s.dev.jnl ∧ d.tru.active = 0 ∧ d.tru.sessions = [])) ∧
  (∀ (torn : Bool) (s : State),
    let b := s.dev.boot
    let held := b.porHeld = true ∨ b.powerFail = true ∨ b.tripped = true
    (held → Becomes (.powerFail torn) s s.dev) ∧
    (¬ held → Ends (.powerFail torn) s (fun d => cleared s.dev d ∧ d.tru = s.dev.tru ∧ d.boot.powerFail = true ∧ d.boot.stage = 0 ∧ d.boot.started = none ∧
      d.boot.ready = false ∧ d.jnl.stopped = true ∧ d.jnl.ready = false ∧ d.jnl.inflight = [])) ∧
    (¬ held → s.dev.jnl.ready = true → s.dev.jnl.compacting = none → s.dev.jnl.inflight = [] → 0 < Jnl.free s.dev.jnl →
      Ends (.powerFail torn) s (fun d => ∃ r : JRec, r.typ = 10 ∧ d.jnl.records = s.dev.jnl.records ++ [r] ∧ d.jnl.lastDurable = r.seq ∧
        s.dev.jnl.lastDurable < r.seq ∧ s.dev.jnl.highSeq < r.seq)) ∧
    (¬ held → s.dev.jnl.ready = false → s.dev.jnl.compacting = none → s.dev.jnl.inflight = [] →
      Ends (.powerFail torn) s (fun d => d.jnl.records = s.dev.jnl.records ∧ d.jnl.lastDurable = s.dev.jnl.lastDurable))) ∧
  (∀ s : State,
    (s.dev.boot.powerFail = false → Becomes .powerFailRecovery s s.dev) ∧
    (s.dev.boot.powerFail = true → Ends .powerFailRecovery s (fun d => cleared s.dev d ∧ kept s.dev d ∧ d.boot.powerFail = false ∧
      d.boot.stage = 0 ∧ d.jnl.records = Jnl.kept s.dev.jnl ∧
      (s.dev.boot.porHeld = false → s.dev.boot.tripped = false → s.dev.mgrPort < 3 → (s.dev.port s.dev.mgrPort).perst = false → d.boot.started = some 0)))) ∧
  (∀ (mv : Nat) (s : State), 650 ≤ mv → mv ≤ 750 →
    let b := s.dev.boot
    let may := b.porHeld = false ∧ mv ≤ b.coreMv + 10 ∧ b.coreMv ≤ mv + 10 ∧ ∀ t, b.avsAt = some t → 100000 ≤ Time.since s.dev.now t
    (may → Becomes (.avsTargetAdjust mv) s (emit (.avsTarget mv) { s.dev with boot := { b with coreMv := mv, avsAt := some s.dev.now } })) ∧
    (¬ may → Becomes (.avsTargetAdjust mv) s s.dev)) ∧
  (∀ (t : Nat) (s : State),
    let b := s.dev.boot
    let falls := b.porHeld = false ∧ 100 ≤ t ∧ b.alert = false
    let rises := b.porHeld = false ∧ t ≤ 95 ∧ b.alert = true
    (falls → Becomes (.thermAlert t) s (emit (.pin "THERM_ALERT_N" false) { s.dev with boot := { b with alert := true } })) ∧
    (rises → Becomes (.thermAlert t) s (emit (.pin "THERM_ALERT_N" true) { s.dev with boot := { b with alert := false } })) ∧
    (¬ falls → ¬ rises → Becomes (.thermAlert t) s s.dev)) ∧
  (∀ s : State,
    (s.dev.boot.porHeld = true ∨ s.dev.boot.tripped = true → Becomes .thermTrip s s.dev) ∧
    (s.dev.boot.porHeld = false → s.dev.boot.tripped = false → Ends .thermTrip s (fun d => cleared s.dev d ∧ d.tru = s.dev.tru ∧ d.boot.tripped = true ∧
      d.boot.started = none ∧ d.out.head? = some (.pin "THERM_TRIP_N" false)))) ∧
  (∀ d : Dev, d.boot.tripped = true ∨ d.boot.powerFail = true ∨ d.boot.porHeld = true → tryStart d = d) ∧
  (∀ s : State,
    (s.dev.boot.porHeld = true → Becomes .ppsPulse s s.dev) ∧
    (s.dev.boot.porHeld = false → Ends .ppsPulse s (fun d => d.out = .pin "PPS_OUT" false :: .pin "PPS_OUT" true :: s.dev.out ∧
      ((s.dev.now.toNat / 10 ^ 9 + 1) * 10 ^ 9 < 2 ^ 48 → d.now = BitVec.ofNat 48 ((s.dev.now.toNat / 10 ^ 9 + 1) * 10 ^ 9)))))
end

