-- ==== Sys2Proof/Laws/Maps.lean ====
section
/-! SUPPORT. Sparse maps and byte memories: what a write leaves, and that it keeps the canonical form. -/
namespace Sys2Proof

variable {α : Type}

theorem SMap.get_filter_ne (d : α) (m : SMap α) (k j : Nat) :
    SMap.get d (m.filter (fun e => decide (e.1 ≠ k))) j = if j = k then d else SMap.get d m j := by
  induction m with
  | nil => simp [SMap.get]
  | cons e t ih =>
    obtain ⟨i, y⟩ := e
    by_cases hik : i = k
    · subst hik
      simp only [ne_eq, List.filter_cons, decide_not, decide_true, Bool.not_true, Bool.false_eq_true, if_false] at ih ⊢
      rw [ih]
      by_cases hj : j = i
      · simp [hj]
      · simp [hj, SMap.get, Ne.symm hj]
    · have : (decide (i ≠ k)) = true := by simp [hik]
      simp only [List.filter_cons, this, if_true, SMap.get]
      rw [ih]
      by_cases hj : i = j
      · subst hj; simp [hik]
      · simp [hj]

theorem SMap.get_ins (d : α) (m : SMap α) (k j : Nat) (x : α) :
    SMap.get d (SMap.ins k x m) j = if j = k then x else SMap.get d m j := by
  induction m with
  | nil =>
    by_cases h : j = k
    · simp [SMap.ins, SMap.get, h]
    · simp [SMap.ins, SMap.get, h, Ne.symm h]
  | cons e t ih =>
    obtain ⟨i, y⟩ := e
    unfold SMap.ins
    by_cases h1 : i < k
    · simp only [h1, if_true, SMap.get]
      by_cases hi : i = j
      · have : j ≠ k := by omega
        simp [hi, this]
      · simp [hi, ih]
    · by_cases h2 : i = k
      · subst h2
        by_cases hj : i = j
        · simp [SMap.get, hj]
        · simp [SMap.get, hj, Ne.symm hj]
      · by_cases hj : j = k
        · simp [h1, h2, SMap.get, hj]
        · simp [h1, h2, SMap.get, hj, Ne.symm hj]

/-- A write is read back at its key, and leaves every other key alone. -/
theorem SMap.get_put [DecidableEq α] (d : α) (m : SMap α) (k j : Nat) (x : α) :
    SMap.get d (SMap.put d m k x) j = if j = k then x else SMap.get d m j := by
  unfold SMap.put
  by_cases h : x = d
  · rw [if_pos h, SMap.get_filter_ne, h]
  · rw [if_neg h, SMap.get_ins]

@[simp] theorem SMap.get_put_self [DecidableEq α] (d : α) (m : SMap α) (k : Nat) (x : α) : SMap.get d (SMap.put d m k x) k = x := by
  simp [SMap.get_put]

theorem SMap.get_put_ne [DecidableEq α] (d : α) (m : SMap α) (k j : Nat) (x : α) (h : j ≠ k) :
    SMap.get d (SMap.put d m k x) j = SMap.get d m j := by
  simp [SMap.get_put, h]

/-- A write leaves every other key alone, whatever it reads as when it is unlisted. -/
theorem SMap.get_put_other [DecidableEq α] (d d' : α) (m : SMap α) (k j : Nat) (x : α) (h : j ≠ k) :
    SMap.get d' (SMap.put d m k x) j = SMap.get d' m j := by
  unfold SMap.put
  by_cases hx : x = d
  · rw [if_pos hx, SMap.get_filter_ne, if_neg h]
  · rw [if_neg hx, SMap.get_ins, if_neg h]

theorem SMap.all_ins (p : Nat × α → Bool) (m : SMap α) (k : Nat) (x : α) (hm : m.all p = true) (hx : p (k, x) = true) :
    (SMap.ins k x m).all p = true := by
  induction m with
  | nil => simp [SMap.ins, hx]
  | cons e t ih =>
    obtain ⟨i, y⟩ := e
    simp only [List.all_cons, Bool.and_eq_true] at hm
    unfold SMap.ins
    split
    · simp [hm.1, ih hm.2]
    · split
      · simp [hx, hm.2]
      · simp [hx, hm.1, hm.2]

theorem SMap.rising_ins (m : SMap α) (k : Nat) (x : α) (h : SMap.rising m = true) : SMap.rising (SMap.ins k x m) = true := by
  induction m with
  | nil => simp [SMap.ins, SMap.rising]
  | cons e t ih =>
    obtain ⟨i, y⟩ := e
    simp only [SMap.rising, Bool.and_eq_true] at h
    unfold SMap.ins
    split
    · next hik =>
      simp only [SMap.rising, Bool.and_eq_true]
      exact ⟨SMap.all_ins _ _ _ _ h.1 (by simpa using hik), ih h.2⟩
    · split
      · next hik => subst hik; simpa [SMap.rising] using h
      · next h1 h2 =>
        have hlt : k < i := by omega
        simp only [SMap.rising, Bool.and_eq_true, List.all_cons, decide_eq_true_eq]
        refine ⟨⟨hlt, ?_⟩, h⟩
        have h3 := h.1
        simp only [List.all_eq_true, decide_eq_true_eq] at h3 ⊢
        intro e he
        exact Nat.lt_trans hlt (h3 e he)

theorem SMap.rising_filter (p : Nat × α → Bool) (m : SMap α) (h : SMap.rising m = true) : SMap.rising (m.filter p) = true := by
  induction m with
  | nil => simp [SMap.rising]
  | cons e t ih =>
    obtain ⟨i, y⟩ := e
    simp only [SMap.rising, Bool.and_eq_true] at h
    rw [List.filter_cons]
    split
    · simp only [SMap.rising, Bool.and_eq_true]
      refine ⟨?_, ih h.2⟩
      have h1 := h.1
      simp only [List.all_eq_true, decide_eq_true_eq] at h1 ⊢
      intro e he
      exact h1 e ((List.mem_filter.mp he).1)
    · exact ih h.2

/-- A write keeps the canonical form. -/
theorem SMap.wf_put [DecidableEq α] (d : α) (m : SMap α) (k : Nat) (x : α) (h : SMap.wf d m = true) : SMap.wf d (SMap.put d m k x) = true := by
  unfold SMap.wf SMap.put at *
  simp only [Bool.and_eq_true] at h
  split
  · simp only [Bool.and_eq_true]
    refine ⟨SMap.rising_filter _ _ h.1, ?_⟩
    have h2 := h.2
    simp only [List.all_eq_true, decide_eq_true_eq] at h2 ⊢
    intro e he
    exact h2 e ((List.mem_filter.mp he).1)
  · next hx =>
    simp only [Bool.and_eq_true]
    exact ⟨SMap.rising_ins _ _ _ h.1, SMap.all_ins _ _ _ _ h.2 (by simp [hx])⟩

/-! ### Memories -/

theorem Memory.read_write (m : Memory) (a b : Nat) (x : Byte) : Memory.read (Memory.write m a x) b = if b = a then x else Memory.read m b :=
  SMap.get_put 0 m a b x

theorem Memory.wf_write (m : Memory) (a : Nat) (x : Byte) (h : Memory.wf m = true) : Memory.wf (Memory.write m a x) = true :=
  SMap.wf_put 0 m a x h

theorem Memory.wf_writeN (bs : List Byte) (m : Memory) (a : Nat) (h : Memory.wf m = true) : Memory.wf (Memory.writeN m a bs) = true := by
  induction bs generalizing m a with
  | nil => exact h
  | cons b t ih => exact ih _ _ (Memory.wf_write m a b h)

theorem Memory.read_writeN (bs : List Byte) (m : Memory) (a b : Nat) :
    Memory.read (Memory.writeN m a bs) b = if a ≤ b ∧ b < a + bs.length then bs.getD (b - a) 0 else Memory.read m b := by
  induction bs generalizing m a with
  | nil =>
    have h : ¬ (a ≤ b ∧ b < a + 0) := by omega
    simp only [Memory.writeN, List.length_nil]
    rw [if_neg h]
  | cons x t ih =>
    simp only [Memory.writeN, ih, Memory.read_write, List.length_cons]
    by_cases h : b = a
    · subst h
      have h1 : ¬ (b + 1 ≤ b ∧ b < b + 1 + t.length) := by omega
      have h2 : b ≤ b ∧ b < b + (t.length + 1) := by omega
      rw [if_neg h1, if_pos h2]
      simp
    · by_cases h1 : a + 1 ≤ b ∧ b < a + 1 + t.length
      · have h2 : a ≤ b ∧ b < a + (t.length + 1) := by omega
        obtain ⟨k, hk⟩ : ∃ k, b - a = k + 1 := ⟨b - a - 1, by omega⟩
        have hk2 : b - (a + 1) = k := by omega
        simp [h1, h2, hk, hk2]
      · have h2 : ¬ (a ≤ b ∧ b < a + (t.length + 1)) := by omega
        rw [if_neg h1, if_neg h2, if_neg h]

end Sys2Proof
end

