-- ==== Sys2Proof/Laws/State.lean ====
section
/-! SUPPORT. What each update of the member leaves as it was, and what it reads back. A conjunction is one rewrite rule for each field. -/
namespace Sys2Proof.Machine

@[simp] theorem State.on_dev (s : State) (f : Dev → Dev) : (s.on f).dev = f s.dev := rfl
@[simp] theorem State.on_pending (s : State) (f : Dev → Dev) : (s.on f).pending = s.pending := rfl

@[simp] theorem Dev.setPort_fields (s : Dev) (p : Nat) (x : HostPort) :
    (s.setPort p x).fabric = s.fabric ∧ (s.setPort p x).mgrPort = s.mgrPort ∧ (s.setPort p x).regs = s.regs ∧ (s.setPort p x).mgt = s.mgt ∧
    (s.setPort p x).slices = s.slices ∧ (s.setPort p x).rules = s.rules ∧ (s.setPort p x).qde = s.qde ∧ (s.setPort p x).obs = s.obs ∧
    (s.setPort p x).boot = s.boot ∧ (s.setPort p x).str = s.str ∧ (s.setPort p x).jnl = s.jnl ∧ (s.setPort p x).mem = s.mem ∧
    (s.setPort p x).mtr = s.mtr ∧ (s.setPort p x).tru = s.tru ∧ (s.setPort p x).cry = s.cry ∧ (s.setPort p x).eth = s.eth ∧
    (s.setPort p x).act = s.act ∧ (s.setPort p x).tmg = s.tmg ∧ (s.setPort p x).ctr = s.ctr ∧ (s.setPort p x).now = s.now ∧
    (s.setPort p x).freeCtr = s.freeCtr ∧ (s.setPort p x).out = s.out :=
  ⟨rfl, rfl, rfl, rfl, rfl, rfl, rfl, rfl, rfl, rfl, rfl, rfl, rfl, rfl, rfl, rfl, rfl, rfl, rfl, rfl, rfl, rfl⟩

theorem Dev.port_setPort (s : Dev) (p : Nat) (x : HostPort) (j : Nat) : (s.setPort p x).port j = if j = p then x else s.port j := by
  unfold Dev.port Dev.setPort
  exact SMap.get_put _ _ _ _ _

@[simp] theorem Dev.port_setPort_self (s : Dev) (p : Nat) (x : HostPort) : (s.setPort p x).port p = x := by rw [Dev.port_setPort, if_pos rfl]

@[simp] theorem Dev.setSlice_fields (s : Dev) (n : Nat) (x : Slice) :
    (s.setSlice n x).fabric = s.fabric ∧ (s.setSlice n x).ports = s.ports ∧ (s.setSlice n x).mgrPort = s.mgrPort ∧ (s.setSlice n x).regs = s.regs ∧
    (s.setSlice n x).mgt = s.mgt ∧ (s.setSlice n x).rules = s.rules ∧ (s.setSlice n x).qde = s.qde ∧ (s.setSlice n x).obs = s.obs ∧
    (s.setSlice n x).boot = s.boot ∧ (s.setSlice n x).str = s.str ∧ (s.setSlice n x).jnl = s.jnl ∧ (s.setSlice n x).mem = s.mem ∧
    (s.setSlice n x).mtr = s.mtr ∧ (s.setSlice n x).tru = s.tru ∧ (s.setSlice n x).cry = s.cry ∧ (s.setSlice n x).eth = s.eth ∧
    (s.setSlice n x).act = s.act ∧ (s.setSlice n x).tmg = s.tmg ∧ (s.setSlice n x).ctr = s.ctr ∧ (s.setSlice n x).now = s.now ∧
    (s.setSlice n x).freeCtr = s.freeCtr ∧ (s.setSlice n x).out = s.out :=
  ⟨rfl, rfl, rfl, rfl, rfl, rfl, rfl, rfl, rfl, rfl, rfl, rfl, rfl, rfl, rfl, rfl, rfl, rfl, rfl, rfl, rfl, rfl⟩

theorem slice_get_put (m : SMap Slice) (n j : Nat) (x : Slice) :
    SMap.get (sliceDefault j) (SMap.put (sliceDefault n) m n x) j = if j = n then x else SMap.get (sliceDefault j) m j := by
  by_cases h : j = n
  · subst h; simp
  · rw [if_neg h]; exact SMap.get_put_other _ _ _ _ _ _ h

theorem Dev.slice_setSlice (s : Dev) (n : Nat) (x : Slice) (j : Nat) : (s.setSlice n x).slice j = if j = n then x else s.slice j := by
  unfold Dev.slice Dev.setSlice
  exact slice_get_put _ _ _ _

@[simp] theorem Dev.slice_setSlice_self (s : Dev) (n : Nat) (x : Slice) : (s.setSlice n x).slice n = x := by rw [Dev.slice_setSlice, if_pos rfl]

@[simp] theorem Dev.setVec_fields (s : Dev) (n v : Nat) (x : Vec) :
    (s.setVec n v x).fabric = s.fabric ∧ (s.setVec n v x).ports = s.ports ∧ (s.setVec n v x).mgrPort = s.mgrPort ∧ (s.setVec n v x).regs = s.regs ∧
    (s.setVec n v x).mgt = s.mgt ∧ (s.setVec n v x).rules = s.rules ∧ (s.setVec n v x).qde = s.qde ∧ (s.setVec n v x).obs = s.obs ∧
    (s.setVec n v x).boot = s.boot ∧ (s.setVec n v x).str = s.str ∧ (s.setVec n v x).jnl = s.jnl ∧ (s.setVec n v x).mem = s.mem ∧
    (s.setVec n v x).mtr = s.mtr ∧ (s.setVec n v x).tru = s.tru ∧ (s.setVec n v x).cry = s.cry ∧ (s.setVec n v x).eth = s.eth ∧
    (s.setVec n v x).act = s.act ∧ (s.setVec n v x).tmg = s.tmg ∧ (s.setVec n v x).ctr = s.ctr ∧ (s.setVec n v x).now = s.now ∧
    (s.setVec n v x).freeCtr = s.freeCtr ∧ (s.setVec n v x).out = s.out :=
  ⟨rfl, rfl, rfl, rfl, rfl, rfl, rfl, rfl, rfl, rfl, rfl, rfl, rfl, rfl, rfl, rfl, rfl, rfl, rfl, rfl, rfl, rfl⟩

@[simp] theorem Dev.setChan_fields (s : Dev) (c : Nat) (x : MbxChan) :
    (s.setChan c x).fabric = s.fabric ∧ (s.setChan c x).ports = s.ports ∧ (s.setChan c x).mgrPort = s.mgrPort ∧ (s.setChan c x).regs = s.regs ∧
    (s.setChan c x).slices = s.slices ∧ (s.setChan c x).rules = s.rules ∧ (s.setChan c x).qde = s.qde ∧ (s.setChan c x).obs = s.obs ∧
    (s.setChan c x).boot = s.boot ∧ (s.setChan c x).str = s.str ∧ (s.setChan c x).jnl = s.jnl ∧ (s.setChan c x).mem = s.mem ∧
    (s.setChan c x).mtr = s.mtr ∧ (s.setChan c x).tru = s.tru ∧ (s.setChan c x).cry = s.cry ∧ (s.setChan c x).eth = s.eth ∧
    (s.setChan c x).act = s.act ∧ (s.setChan c x).tmg = s.tmg ∧ (s.setChan c x).ctr = s.ctr ∧ (s.setChan c x).now = s.now ∧
    (s.setChan c x).freeCtr = s.freeCtr ∧ (s.setChan c x).out = s.out :=
  ⟨rfl, rfl, rfl, rfl, rfl, rfl, rfl, rfl, rfl, rfl, rfl, rfl, rfl, rfl, rfl, rfl, rfl, rfl, rfl, rfl, rfl, rfl⟩

theorem Dev.chan_setChan (s : Dev) (c : Nat) (x : MbxChan) (j : Nat) : (s.setChan c x).chan j = if j = c then x else s.chan j := by
  unfold Dev.chan Dev.setChan
  exact SMap.get_put _ _ _ _ _

@[simp] theorem Dev.chan_setChan_self (s : Dev) (c : Nat) (x : MbxChan) : (s.setChan c x).chan c = x := by rw [Dev.chan_setChan, if_pos rfl]

@[simp] theorem Dev.setSlot_fields (s : Dev) (k : Nat) (x : Slot) :
    (s.setSlot k x).fabric = s.fabric ∧ (s.setSlot k x).ports = s.ports ∧ (s.setSlot k x).mgrPort = s.mgrPort ∧ (s.setSlot k x).regs = s.regs ∧
    (s.setSlot k x).mgt = s.mgt ∧ (s.setSlot k x).slices = s.slices ∧ (s.setSlot k x).qde = s.qde ∧ (s.setSlot k x).obs = s.obs ∧
    (s.setSlot k x).boot = s.boot ∧ (s.setSlot k x).str = s.str ∧ (s.setSlot k x).jnl = s.jnl ∧ (s.setSlot k x).mem = s.mem ∧
    (s.setSlot k x).mtr = s.mtr ∧ (s.setSlot k x).tru = s.tru ∧ (s.setSlot k x).cry = s.cry ∧ (s.setSlot k x).eth = s.eth ∧
    (s.setSlot k x).act = s.act ∧ (s.setSlot k x).tmg = s.tmg ∧ (s.setSlot k x).ctr = s.ctr ∧ (s.setSlot k x).now = s.now ∧
    (s.setSlot k x).freeCtr = s.freeCtr ∧ (s.setSlot k x).out = s.out :=
  ⟨rfl, rfl, rfl, rfl, rfl, rfl, rfl, rfl, rfl, rfl, rfl, rfl, rfl, rfl, rfl, rfl, rfl, rfl, rfl, rfl, rfl, rfl⟩

theorem Dev.slot_setSlot (s : Dev) (k : Nat) (x : Slot) (j : Nat) : (s.setSlot k x).slot j = if j = k then x else s.slot j := by
  unfold Dev.slot Dev.setSlot
  exact SMap.get_put _ _ _ _ _

@[simp] theorem Dev.slot_setSlot_self (s : Dev) (k : Nat) (x : Slot) : (s.setSlot k x).slot k = x := by rw [Dev.slot_setSlot, if_pos rfl]

@[simp] theorem Dev.setPipe_fields (s : Dev) (k : Nat) (x : Pipeline) :
    (s.setPipe k x).fabric = s.fabric ∧ (s.setPipe k x).ports = s.ports ∧ (s.setPipe k x).mgrPort = s.mgrPort ∧ (s.setPipe k x).regs = s.regs ∧
    (s.setPipe k x).mgt = s.mgt ∧ (s.setPipe k x).slices = s.slices ∧ (s.setPipe k x).qde = s.qde ∧ (s.setPipe k x).obs = s.obs ∧
    (s.setPipe k x).boot = s.boot ∧ (s.setPipe k x).str = s.str ∧ (s.setPipe k x).jnl = s.jnl ∧ (s.setPipe k x).mem = s.mem ∧
    (s.setPipe k x).mtr = s.mtr ∧ (s.setPipe k x).tru = s.tru ∧ (s.setPipe k x).cry = s.cry ∧ (s.setPipe k x).eth = s.eth ∧
    (s.setPipe k x).act = s.act ∧ (s.setPipe k x).tmg = s.tmg ∧ (s.setPipe k x).ctr = s.ctr ∧ (s.setPipe k x).now = s.now ∧
    (s.setPipe k x).freeCtr = s.freeCtr ∧ (s.setPipe k x).out = s.out :=
  ⟨rfl, rfl, rfl, rfl, rfl, rfl, rfl, rfl, rfl, rfl, rfl, rfl, rfl, rfl, rfl, rfl, rfl, rfl, rfl, rfl, rfl, rfl⟩

theorem Dev.pipe_setPipe (s : Dev) (k : Nat) (x : Pipeline) (j : Nat) : (s.setPipe k x).pipe j = if j = k then x else s.pipe j := by
  unfold Dev.pipe Dev.setPipe
  exact SMap.get_put _ _ _ _ _

@[simp] theorem Dev.pipe_setPipe_self (s : Dev) (k : Nat) (x : Pipeline) : (s.setPipe k x).pipe k = x := by rw [Dev.pipe_setPipe, if_pos rfl]

@[simp] theorem Dev.setActInput_fields (s : Dev) (i : Nat) (l : List Pkt) :
    (s.setActInput i l).fabric = s.fabric ∧ (s.setActInput i l).ports = s.ports ∧ (s.setActInput i l).mgrPort = s.mgrPort ∧ (s.setActInput i l).regs = s.regs ∧
    (s.setActInput i l).mgt = s.mgt ∧ (s.setActInput i l).slices = s.slices ∧ (s.setActInput i l).rules = s.rules ∧ (s.setActInput i l).qde = s.qde ∧
    (s.setActInput i l).obs = s.obs ∧ (s.setActInput i l).boot = s.boot ∧ (s.setActInput i l).str = s.str ∧ (s.setActInput i l).jnl = s.jnl ∧
    (s.setActInput i l).mem = s.mem ∧ (s.setActInput i l).mtr = s.mtr ∧ (s.setActInput i l).tru = s.tru ∧ (s.setActInput i l).cry = s.cry ∧
    (s.setActInput i l).eth = s.eth ∧ (s.setActInput i l).tmg = s.tmg ∧ (s.setActInput i l).ctr = s.ctr ∧ (s.setActInput i l).now = s.now ∧
    (s.setActInput i l).freeCtr = s.freeCtr ∧ (s.setActInput i l).out = s.out :=
  ⟨rfl, rfl, rfl, rfl, rfl, rfl, rfl, rfl, rfl, rfl, rfl, rfl, rfl, rfl, rfl, rfl, rfl, rfl, rfl, rfl, rfl, rfl⟩

theorem Dev.actInput_setActInput (s : Dev) (i : Nat) (l : List Pkt) (j : Nat) : (s.setActInput i l).actInput j = if j = i then l else s.actInput j := by
  unfold Dev.actInput Dev.setActInput
  exact SMap.get_put _ _ _ _ _

@[simp] theorem Dev.actInput_setActInput_self (s : Dev) (i : Nat) (l : List Pkt) : (s.setActInput i l).actInput i = l := by rw [Dev.actInput_setActInput, if_pos rfl]

@[simp] theorem Dev.setSa_fields (s : Dev) (n : Nat) (x : Option Sa) :
    (s.setSa n x).fabric = s.fabric ∧ (s.setSa n x).ports = s.ports ∧ (s.setSa n x).mgrPort = s.mgrPort ∧ (s.setSa n x).regs = s.regs ∧
    (s.setSa n x).mgt = s.mgt ∧ (s.setSa n x).slices = s.slices ∧ (s.setSa n x).rules = s.rules ∧ (s.setSa n x).qde = s.qde ∧
    (s.setSa n x).obs = s.obs ∧ (s.setSa n x).boot = s.boot ∧ (s.setSa n x).str = s.str ∧ (s.setSa n x).jnl = s.jnl ∧
    (s.setSa n x).mem = s.mem ∧ (s.setSa n x).mtr = s.mtr ∧ (s.setSa n x).tru = s.tru ∧ (s.setSa n x).eth = s.eth ∧
    (s.setSa n x).act = s.act ∧ (s.setSa n x).tmg = s.tmg ∧ (s.setSa n x).ctr = s.ctr ∧ (s.setSa n x).now = s.now ∧
    (s.setSa n x).freeCtr = s.freeCtr ∧ (s.setSa n x).out = s.out :=
  ⟨rfl, rfl, rfl, rfl, rfl, rfl, rfl, rfl, rfl, rfl, rfl, rfl, rfl, rfl, rfl, rfl, rfl, rfl, rfl, rfl, rfl, rfl⟩

theorem Dev.sa_setSa (s : Dev) (n : Nat) (x : Option Sa) (j : Nat) : (s.setSa n x).sa j = if j = n then x else s.sa j := by
  unfold Dev.sa Dev.setSa
  exact SMap.get_put _ _ _ _ _

@[simp] theorem Dev.sa_setSa_self (s : Dev) (n : Nat) (x : Option Sa) : (s.setSa n x).sa n = x := by rw [Dev.sa_setSa, if_pos rfl]

@[simp] theorem Dev.setXchan_fields (s : Dev) (src dst : Nat) (c : Channel) :
    (s.setXchan src dst c).ports = s.ports ∧ (s.setXchan src dst c).mgrPort = s.mgrPort ∧ (s.setXchan src dst c).regs = s.regs ∧ (s.setXchan src dst c).mgt = s.mgt ∧
    (s.setXchan src dst c).slices = s.slices ∧ (s.setXchan src dst c).rules = s.rules ∧ (s.setXchan src dst c).qde = s.qde ∧ (s.setXchan src dst c).obs = s.obs ∧
    (s.setXchan src dst c).boot = s.boot ∧ (s.setXchan src dst c).str = s.str ∧ (s.setXchan src dst c).jnl = s.jnl ∧ (s.setXchan src dst c).mem = s.mem ∧
    (s.setXchan src dst c).mtr = s.mtr ∧ (s.setXchan src dst c).tru = s.tru ∧ (s.setXchan src dst c).cry = s.cry ∧ (s.setXchan src dst c).eth = s.eth ∧
    (s.setXchan src dst c).act = s.act ∧ (s.setXchan src dst c).tmg = s.tmg ∧ (s.setXchan src dst c).ctr = s.ctr ∧ (s.setXchan src dst c).now = s.now ∧
    (s.setXchan src dst c).freeCtr = s.freeCtr ∧ (s.setXchan src dst c).out = s.out :=
  ⟨rfl, rfl, rfl, rfl, rfl, rfl, rfl, rfl, rfl, rfl, rfl, rfl, rfl, rfl, rfl, rfl, rfl, rfl, rfl, rfl, rfl, rfl⟩

@[simp] theorem Dev.setBucket_fields (s : Dev) (d b : Nat) (x : Bucket) :
    (s.setBucket d b x).ports = s.ports ∧ (s.setBucket d b x).mgrPort = s.mgrPort ∧ (s.setBucket d b x).regs = s.regs ∧ (s.setBucket d b x).mgt = s.mgt ∧
    (s.setBucket d b x).slices = s.slices ∧ (s.setBucket d b x).rules = s.rules ∧ (s.setBucket d b x).qde = s.qde ∧ (s.setBucket d b x).obs = s.obs ∧
    (s.setBucket d b x).boot = s.boot ∧ (s.setBucket d b x).str = s.str ∧ (s.setBucket d b x).jnl = s.jnl ∧ (s.setBucket d b x).mem = s.mem ∧
    (s.setBucket d b x).mtr = s.mtr ∧ (s.setBucket d b x).tru = s.tru ∧ (s.setBucket d b x).cry = s.cry ∧ (s.setBucket d b x).eth = s.eth ∧
    (s.setBucket d b x).act = s.act ∧ (s.setBucket d b x).tmg = s.tmg ∧ (s.setBucket d b x).ctr = s.ctr ∧ (s.setBucket d b x).now = s.now ∧
    (s.setBucket d b x).freeCtr = s.freeCtr ∧ (s.setBucket d b x).out = s.out :=
  ⟨rfl, rfl, rfl, rfl, rfl, rfl, rfl, rfl, rfl, rfl, rfl, rfl, rfl, rfl, rfl, rfl, rfl, rfl, rfl, rfl, rfl, rfl⟩

@[simp] theorem Dev.setDistInbox_fields (s : Dev) (d : Nat) (l : List Pkt) :
    (s.setDistInbox d l).ports = s.ports ∧ (s.setDistInbox d l).mgrPort = s.mgrPort ∧ (s.setDistInbox d l).regs = s.regs ∧ (s.setDistInbox d l).mgt = s.mgt ∧
    (s.setDistInbox d l).slices = s.slices ∧ (s.setDistInbox d l).rules = s.rules ∧ (s.setDistInbox d l).qde = s.qde ∧ (s.setDistInbox d l).obs = s.obs ∧
    (s.setDistInbox d l).boot = s.boot ∧ (s.setDistInbox d l).str = s.str ∧ (s.setDistInbox d l).jnl = s.jnl ∧ (s.setDistInbox d l).mem = s.mem ∧
    (s.setDistInbox d l).mtr = s.mtr ∧ (s.setDistInbox d l).tru = s.tru ∧ (s.setDistInbox d l).cry = s.cry ∧ (s.setDistInbox d l).eth = s.eth ∧
    (s.setDistInbox d l).act = s.act ∧ (s.setDistInbox d l).tmg = s.tmg ∧ (s.setDistInbox d l).ctr = s.ctr ∧ (s.setDistInbox d l).now = s.now ∧
    (s.setDistInbox d l).freeCtr = s.freeCtr ∧ (s.setDistInbox d l).out = s.out :=
  ⟨rfl, rfl, rfl, rfl, rfl, rfl, rfl, rfl, rfl, rfl, rfl, rfl, rfl, rfl, rfl, rfl, rfl, rfl, rfl, rfl, rfl, rfl⟩

theorem Dev.distInbox_setDistInbox (s : Dev) (d : Nat) (l : List Pkt) (j : Nat) : (s.setDistInbox d l).distInbox j = if j = d then l else s.distInbox j := by
  unfold Dev.distInbox Dev.setDistInbox
  exact SMap.get_put _ _ _ _ _

@[simp] theorem Dev.distInbox_setDistInbox_self (s : Dev) (d : Nat) (l : List Pkt) : (s.setDistInbox d l).distInbox d = l := by rw [Dev.distInbox_setDistInbox, if_pos rfl]

@[simp] theorem Dev.setMemChan_fields (s : Dev) (c : Nat) (x : MemChan) :
    (s.setMemChan c x).fabric = s.fabric ∧ (s.setMemChan c x).ports = s.ports ∧ (s.setMemChan c x).mgrPort = s.mgrPort ∧ (s.setMemChan c x).regs = s.regs ∧
    (s.setMemChan c x).mgt = s.mgt ∧ (s.setMemChan c x).slices = s.slices ∧ (s.setMemChan c x).rules = s.rules ∧ (s.setMemChan c x).qde = s.qde ∧
    (s.setMemChan c x).obs = s.obs ∧ (s.setMemChan c x).boot = s.boot ∧ (s.setMemChan c x).str = s.str ∧ (s.setMemChan c x).jnl = s.jnl ∧
    (s.setMemChan c x).mtr = s.mtr ∧ (s.setMemChan c x).tru = s.tru ∧ (s.setMemChan c x).cry = s.cry ∧ (s.setMemChan c x).eth = s.eth ∧
    (s.setMemChan c x).act = s.act ∧ (s.setMemChan c x).tmg = s.tmg ∧ (s.setMemChan c x).ctr = s.ctr ∧ (s.setMemChan c x).now = s.now ∧
    (s.setMemChan c x).freeCtr = s.freeCtr ∧ (s.setMemChan c x).out = s.out :=
  ⟨rfl, rfl, rfl, rfl, rfl, rfl, rfl, rfl, rfl, rfl, rfl, rfl, rfl, rfl, rfl, rfl, rfl, rfl, rfl, rfl, rfl, rfl⟩

theorem Dev.memChan_setMemChan (s : Dev) (c : Nat) (x : MemChan) (j : Nat) : (s.setMemChan c x).memChan j = if j = c then x else s.memChan j := by
  unfold Dev.memChan Dev.setMemChan
  exact SMap.get_put _ _ _ _ _

@[simp] theorem Dev.memChan_setMemChan_self (s : Dev) (c : Nat) (x : MemChan) : (s.setMemChan c x).memChan c = x := by rw [Dev.memChan_setMemChan, if_pos rfl]

@[simp] theorem Dev.setQp_fields (s : Dev) (q : Nat) (x : QueuePair) :
    (s.setQp q x).fabric = s.fabric ∧ (s.setQp q x).ports = s.ports ∧ (s.setQp q x).mgrPort = s.mgrPort ∧ (s.setQp q x).regs = s.regs ∧
    (s.setQp q x).mgt = s.mgt ∧ (s.setQp q x).slices = s.slices ∧ (s.setQp q x).rules = s.rules ∧ (s.setQp q x).obs = s.obs ∧
    (s.setQp q x).boot = s.boot ∧ (s.setQp q x).str = s.str ∧ (s.setQp q x).jnl = s.jnl ∧ (s.setQp q x).mem = s.mem ∧
    (s.setQp q x).mtr = s.mtr ∧ (s.setQp q x).tru = s.tru ∧ (s.setQp q x).cry = s.cry ∧ (s.setQp q x).eth = s.eth ∧
    (s.setQp q x).act = s.act ∧ (s.setQp q x).tmg = s.tmg ∧ (s.setQp q x).ctr = s.ctr ∧ (s.setQp q x).now = s.now ∧
    (s.setQp q x).freeCtr = s.freeCtr ∧ (s.setQp q x).out = s.out :=
  ⟨rfl, rfl, rfl, rfl, rfl, rfl, rfl, rfl, rfl, rfl, rfl, rfl, rfl, rfl, rfl, rfl, rfl, rfl, rfl, rfl, rfl, rfl⟩

theorem Dev.qp_setQp (s : Dev) (q : Nat) (x : QueuePair) (j : Nat) : (s.setQp q x).qp j = if j = q then x else s.qp j := by
  unfold Dev.qp Dev.setQp
  exact SMap.get_put _ _ _ _ _

@[simp] theorem Dev.qp_setQp_self (s : Dev) (q : Nat) (x : QueuePair) : (s.setQp q x).qp q = x := by rw [Dev.qp_setQp, if_pos rfl]

@[simp] theorem Dev.setDma_fields (s : Dev) (c : Nat) (x : DmaChannel) :
    (s.setDma c x).fabric = s.fabric ∧ (s.setDma c x).ports = s.ports ∧ (s.setDma c x).mgrPort = s.mgrPort ∧ (s.setDma c x).regs = s.regs ∧
    (s.setDma c x).mgt = s.mgt ∧ (s.setDma c x).slices = s.slices ∧ (s.setDma c x).rules = s.rules ∧ (s.setDma c x).obs = s.obs ∧
    (s.setDma c x).boot = s.boot ∧ (s.setDma c x).str = s.str ∧ (s.setDma c x).jnl = s.jnl ∧ (s.setDma c x).mem = s.mem ∧
    (s.setDma c x).mtr = s.mtr ∧ (s.setDma c x).tru = s.tru ∧ (s.setDma c x).cry = s.cry ∧ (s.setDma c x).eth = s.eth ∧
    (s.setDma c x).act = s.act ∧ (s.setDma c x).tmg = s.tmg ∧ (s.setDma c x).ctr = s.ctr ∧ (s.setDma c x).now = s.now ∧
    (s.setDma c x).freeCtr = s.freeCtr ∧ (s.setDma c x).out = s.out :=
  ⟨rfl, rfl, rfl, rfl, rfl, rfl, rfl, rfl, rfl, rfl, rfl, rfl, rfl, rfl, rfl, rfl, rfl, rfl, rfl, rfl, rfl, rfl⟩

theorem Dev.dma_setDma (s : Dev) (c : Nat) (x : DmaChannel) (j : Nat) : (s.setDma c x).dma j = if j = c then x else s.dma j := by
  unfold Dev.dma Dev.setDma
  exact SMap.get_put _ _ _ _ _

@[simp] theorem Dev.dma_setDma_self (s : Dev) (c : Nat) (x : DmaChannel) : (s.setDma c x).dma c = x := by rw [Dev.dma_setDma, if_pos rfl]

@[simp] theorem Dev.setRegWord_fields (s : Dev) (i off : Nat) (x : RegWord) :
    (s.setRegWord i off x).fabric = s.fabric ∧ (s.setRegWord i off x).ports = s.ports ∧ (s.setRegWord i off x).mgrPort = s.mgrPort ∧ (s.setRegWord i off x).mgt = s.mgt ∧
    (s.setRegWord i off x).slices = s.slices ∧ (s.setRegWord i off x).rules = s.rules ∧ (s.setRegWord i off x).qde = s.qde ∧ (s.setRegWord i off x).obs = s.obs ∧
    (s.setRegWord i off x).boot = s.boot ∧ (s.setRegWord i off x).str = s.str ∧ (s.setRegWord i off x).jnl = s.jnl ∧ (s.setRegWord i off x).mem = s.mem ∧
    (s.setRegWord i off x).mtr = s.mtr ∧ (s.setRegWord i off x).tru = s.tru ∧ (s.setRegWord i off x).cry = s.cry ∧ (s.setRegWord i off x).eth = s.eth ∧
    (s.setRegWord i off x).act = s.act ∧ (s.setRegWord i off x).tmg = s.tmg ∧ (s.setRegWord i off x).ctr = s.ctr ∧ (s.setRegWord i off x).now = s.now ∧
    (s.setRegWord i off x).freeCtr = s.freeCtr ∧ (s.setRegWord i off x).out = s.out :=
  ⟨rfl, rfl, rfl, rfl, rfl, rfl, rfl, rfl, rfl, rfl, rfl, rfl, rfl, rfl, rfl, rfl, rfl, rfl, rfl, rfl, rfl, rfl⟩

@[simp] theorem Dev.setConn_fields (s : Dev) (c : Nat) (x : Conn) :
    (s.setConn c x).fabric = s.fabric ∧ (s.setConn c x).ports = s.ports ∧ (s.setConn c x).mgrPort = s.mgrPort ∧ (s.setConn c x).regs = s.regs ∧
    (s.setConn c x).mgt = s.mgt ∧ (s.setConn c x).slices = s.slices ∧ (s.setConn c x).rules = s.rules ∧ (s.setConn c x).qde = s.qde ∧
    (s.setConn c x).obs = s.obs ∧ (s.setConn c x).boot = s.boot ∧ (s.setConn c x).str = s.str ∧ (s.setConn c x).jnl = s.jnl ∧
    (s.setConn c x).mem = s.mem ∧ (s.setConn c x).mtr = s.mtr ∧ (s.setConn c x).tru = s.tru ∧ (s.setConn c x).eth = s.eth ∧
    (s.setConn c x).act = s.act ∧ (s.setConn c x).tmg = s.tmg ∧ (s.setConn c x).ctr = s.ctr ∧ (s.setConn c x).now = s.now ∧
    (s.setConn c x).freeCtr = s.freeCtr ∧ (s.setConn c x).out = s.out :=
  ⟨rfl, rfl, rfl, rfl, rfl, rfl, rfl, rfl, rfl, rfl, rfl, rfl, rfl, rfl, rfl, rfl, rfl, rfl, rfl, rfl, rfl, rfl⟩

theorem Dev.conn_setConn (s : Dev) (c : Nat) (x : Conn) (j : Nat) : (s.setConn c x).conn j = if j = c then x else s.conn j := by
  unfold Dev.conn Dev.setConn
  exact SMap.get_put _ _ _ _ _

@[simp] theorem Dev.conn_setConn_self (s : Dev) (c : Nat) (x : Conn) : (s.setConn c x).conn c = x := by rw [Dev.conn_setConn, if_pos rfl]

@[simp] theorem Dev.setPlaces_fields (s : Dev) (t : Nat) (x : TablePlaces) :
    (s.setPlaces t x).fabric = s.fabric ∧ (s.setPlaces t x).ports = s.ports ∧ (s.setPlaces t x).mgrPort = s.mgrPort ∧ (s.setPlaces t x).regs = s.regs ∧
    (s.setPlaces t x).mgt = s.mgt ∧ (s.setPlaces t x).slices = s.slices ∧ (s.setPlaces t x).qde = s.qde ∧ (s.setPlaces t x).obs = s.obs ∧
    (s.setPlaces t x).boot = s.boot ∧ (s.setPlaces t x).str = s.str ∧ (s.setPlaces t x).jnl = s.jnl ∧ (s.setPlaces t x).mem = s.mem ∧
    (s.setPlaces t x).mtr = s.mtr ∧ (s.setPlaces t x).tru = s.tru ∧ (s.setPlaces t x).cry = s.cry ∧ (s.setPlaces t x).eth = s.eth ∧
    (s.setPlaces t x).act = s.act ∧ (s.setPlaces t x).tmg = s.tmg ∧ (s.setPlaces t x).ctr = s.ctr ∧ (s.setPlaces t x).now = s.now ∧
    (s.setPlaces t x).freeCtr = s.freeCtr ∧ (s.setPlaces t x).out = s.out :=
  ⟨rfl, rfl, rfl, rfl, rfl, rfl, rfl, rfl, rfl, rfl, rfl, rfl, rfl, rfl, rfl, rfl, rfl, rfl, rfl, rfl, rfl, rfl⟩

theorem Dev.places_setPlaces (s : Dev) (t : Nat) (x : TablePlaces) (j : Nat) : (s.setPlaces t x).places j = if j = t then x else s.places j := by
  unfold Dev.places Dev.setPlaces
  exact SMap.get_put _ _ _ _ _

@[simp] theorem Dev.places_setPlaces_self (s : Dev) (t : Nat) (x : TablePlaces) : (s.setPlaces t x).places t = x := by rw [Dev.places_setPlaces, if_pos rfl]

@[simp] theorem Dev.setThread_fields (s : Dev) (t : Nat) (x : Thread) :
    (s.setThread t x).fabric = s.fabric ∧ (s.setThread t x).ports = s.ports ∧ (s.setThread t x).mgrPort = s.mgrPort ∧ (s.setThread t x).regs = s.regs ∧
    (s.setThread t x).mgt = s.mgt ∧ (s.setThread t x).slices = s.slices ∧ (s.setThread t x).rules = s.rules ∧ (s.setThread t x).qde = s.qde ∧
    (s.setThread t x).obs = s.obs ∧ (s.setThread t x).boot = s.boot ∧ (s.setThread t x).str = s.str ∧ (s.setThread t x).jnl = s.jnl ∧
    (s.setThread t x).mem = s.mem ∧ (s.setThread t x).mtr = s.mtr ∧ (s.setThread t x).tru = s.tru ∧ (s.setThread t x).cry = s.cry ∧
    (s.setThread t x).eth = s.eth ∧ (s.setThread t x).tmg = s.tmg ∧ (s.setThread t x).ctr = s.ctr ∧ (s.setThread t x).now = s.now ∧
    (s.setThread t x).freeCtr = s.freeCtr ∧ (s.setThread t x).out = s.out :=
  ⟨rfl, rfl, rfl, rfl, rfl, rfl, rfl, rfl, rfl, rfl, rfl, rfl, rfl, rfl, rfl, rfl, rfl, rfl, rfl, rfl, rfl, rfl⟩

theorem Dev.thread_setThread (s : Dev) (t : Nat) (x : Thread) (j : Nat) : (s.setThread t x).thread j = if j = t then x else s.thread j := by
  unfold Dev.thread Dev.setThread
  exact SMap.get_put _ _ _ _ _

@[simp] theorem Dev.thread_setThread_self (s : Dev) (t : Nat) (x : Thread) : (s.setThread t x).thread t = x := by rw [Dev.thread_setThread, if_pos rfl]

@[simp] theorem Dev.setGroup_fields (s : Dev) (g : Nat) (x : Option Group) :
    (s.setGroup g x).fabric = s.fabric ∧ (s.setGroup g x).ports = s.ports ∧ (s.setGroup g x).mgrPort = s.mgrPort ∧ (s.setGroup g x).regs = s.regs ∧
    (s.setGroup g x).mgt = s.mgt ∧ (s.setGroup g x).slices = s.slices ∧ (s.setGroup g x).rules = s.rules ∧ (s.setGroup g x).qde = s.qde ∧
    (s.setGroup g x).obs = s.obs ∧ (s.setGroup g x).boot = s.boot ∧ (s.setGroup g x).str = s.str ∧ (s.setGroup g x).jnl = s.jnl ∧
    (s.setGroup g x).mem = s.mem ∧ (s.setGroup g x).mtr = s.mtr ∧ (s.setGroup g x).tru = s.tru ∧ (s.setGroup g x).cry = s.cry ∧
    (s.setGroup g x).eth = s.eth ∧ (s.setGroup g x).tmg = s.tmg ∧ (s.setGroup g x).ctr = s.ctr ∧ (s.setGroup g x).now = s.now ∧
    (s.setGroup g x).freeCtr = s.freeCtr ∧ (s.setGroup g x).out = s.out :=
  ⟨rfl, rfl, rfl, rfl, rfl, rfl, rfl, rfl, rfl, rfl, rfl, rfl, rfl, rfl, rfl, rfl, rfl, rfl, rfl, rfl, rfl, rfl⟩

theorem Dev.group_setGroup (s : Dev) (g : Nat) (x : Option Group) (j : Nat) : (s.setGroup g x).group j = if j = g then x else s.group j := by
  unfold Dev.group Dev.setGroup
  exact SMap.get_put _ _ _ _ _

@[simp] theorem Dev.group_setGroup_self (s : Dev) (g : Nat) (x : Option Group) : (s.setGroup g x).group g = x := by rw [Dev.group_setGroup, if_pos rfl]

@[simp] theorem Dev.setSlotEntry_fields (s : Dev) (c e : Nat) (x : Option Nat) :
    (s.setSlotEntry c e x).fabric = s.fabric ∧ (s.setSlotEntry c e x).ports = s.ports ∧ (s.setSlotEntry c e x).mgrPort = s.mgrPort ∧ (s.setSlotEntry c e x).regs = s.regs ∧
    (s.setSlotEntry c e x).mgt = s.mgt ∧ (s.setSlotEntry c e x).slices = s.slices ∧ (s.setSlotEntry c e x).rules = s.rules ∧ (s.setSlotEntry c e x).qde = s.qde ∧
    (s.setSlotEntry c e x).obs = s.obs ∧ (s.setSlotEntry c e x).boot = s.boot ∧ (s.setSlotEntry c e x).str = s.str ∧ (s.setSlotEntry c e x).jnl = s.jnl ∧
    (s.setSlotEntry c e x).mem = s.mem ∧ (s.setSlotEntry c e x).mtr = s.mtr ∧ (s.setSlotEntry c e x).tru = s.tru ∧ (s.setSlotEntry c e x).cry = s.cry ∧
    (s.setSlotEntry c e x).eth = s.eth ∧ (s.setSlotEntry c e x).tmg = s.tmg ∧ (s.setSlotEntry c e x).ctr = s.ctr ∧ (s.setSlotEntry c e x).now = s.now ∧
    (s.setSlotEntry c e x).freeCtr = s.freeCtr ∧ (s.setSlotEntry c e x).out = s.out :=
  ⟨rfl, rfl, rfl, rfl, rfl, rfl, rfl, rfl, rfl, rfl, rfl, rfl, rfl, rfl, rfl, rfl, rfl, rfl, rfl, rfl, rfl, rfl⟩

@[simp] theorem Dev.setTq_fields (s : Dev) (q : Nat) (x : QueueRun) :
    (s.setTq q x).fabric = s.fabric ∧ (s.setTq q x).ports = s.ports ∧ (s.setTq q x).mgrPort = s.mgrPort ∧ (s.setTq q x).regs = s.regs ∧
    (s.setTq q x).mgt = s.mgt ∧ (s.setTq q x).slices = s.slices ∧ (s.setTq q x).rules = s.rules ∧ (s.setTq q x).qde = s.qde ∧
    (s.setTq q x).obs = s.obs ∧ (s.setTq q x).boot = s.boot ∧ (s.setTq q x).str = s.str ∧ (s.setTq q x).jnl = s.jnl ∧
    (s.setTq q x).mem = s.mem ∧ (s.setTq q x).mtr = s.mtr ∧ (s.setTq q x).tru = s.tru ∧ (s.setTq q x).cry = s.cry ∧
    (s.setTq q x).eth = s.eth ∧ (s.setTq q x).act = s.act ∧ (s.setTq q x).ctr = s.ctr ∧ (s.setTq q x).now = s.now ∧
    (s.setTq q x).freeCtr = s.freeCtr ∧ (s.setTq q x).out = s.out :=
  ⟨rfl, rfl, rfl, rfl, rfl, rfl, rfl, rfl, rfl, rfl, rfl, rfl, rfl, rfl, rfl, rfl, rfl, rfl, rfl, rfl, rfl, rfl⟩

theorem Dev.tq_setTq (s : Dev) (q : Nat) (x : QueueRun) (j : Nat) : (s.setTq q x).tq j = if j = q then x else s.tq j := by
  unfold Dev.tq Dev.setTq
  exact SMap.get_put _ _ _ _ _

@[simp] theorem Dev.tq_setTq_self (s : Dev) (q : Nat) (x : QueueRun) : (s.setTq q x).tq q = x := by rw [Dev.tq_setTq, if_pos rfl]

@[simp] theorem Dev.setTg_fields (s : Dev) (k : Nat) (x : NodeRun) :
    (s.setTg k x).fabric = s.fabric ∧ (s.setTg k x).ports = s.ports ∧ (s.setTg k x).mgrPort = s.mgrPort ∧ (s.setTg k x).regs = s.regs ∧
    (s.setTg k x).mgt = s.mgt ∧ (s.setTg k x).slices = s.slices ∧ (s.setTg k x).rules = s.rules ∧ (s.setTg k x).qde = s.qde ∧
    (s.setTg k x).obs = s.obs ∧ (s.setTg k x).boot = s.boot ∧ (s.setTg k x).str = s.str ∧ (s.setTg k x).jnl = s.jnl ∧
    (s.setTg k x).mem = s.mem ∧ (s.setTg k x).mtr = s.mtr ∧ (s.setTg k x).tru = s.tru ∧ (s.setTg k x).cry = s.cry ∧
    (s.setTg k x).eth = s.eth ∧ (s.setTg k x).act = s.act ∧ (s.setTg k x).ctr = s.ctr ∧ (s.setTg k x).now = s.now ∧
    (s.setTg k x).freeCtr = s.freeCtr ∧ (s.setTg k x).out = s.out :=
  ⟨rfl, rfl, rfl, rfl, rfl, rfl, rfl, rfl, rfl, rfl, rfl, rfl, rfl, rfl, rfl, rfl, rfl, rfl, rfl, rfl, rfl, rfl⟩

theorem Dev.tg_setTg (s : Dev) (k : Nat) (x : NodeRun) (j : Nat) : (s.setTg k x).tg j = if j = k then x else s.tg j := by
  unfold Dev.tg Dev.setTg
  exact SMap.get_put _ _ _ _ _

@[simp] theorem Dev.tg_setTg_self (s : Dev) (k : Nat) (x : NodeRun) : (s.setTg k x).tg k = x := by rw [Dev.tg_setTg, if_pos rfl]

@[simp] theorem Dev.setTn_fields (s : Dev) (k : Nat) (x : NodeRun) :
    (s.setTn k x).fabric = s.fabric ∧ (s.setTn k x).ports = s.ports ∧ (s.setTn k x).mgrPort = s.mgrPort ∧ (s.setTn k x).regs = s.regs ∧
    (s.setTn k x).mgt = s.mgt ∧ (s.setTn k x).slices = s.slices ∧ (s.setTn k x).rules = s.rules ∧ (s.setTn k x).qde = s.qde ∧
    (s.setTn k x).obs = s.obs ∧ (s.setTn k x).boot = s.boot ∧ (s.setTn k x).str = s.str ∧ (s.setTn k x).jnl = s.jnl ∧
    (s.setTn k x).mem = s.mem ∧ (s.setTn k x).mtr = s.mtr ∧ (s.setTn k x).tru = s.tru ∧ (s.setTn k x).cry = s.cry ∧
    (s.setTn k x).eth = s.eth ∧ (s.setTn k x).act = s.act ∧ (s.setTn k x).ctr = s.ctr ∧ (s.setTn k x).now = s.now ∧
    (s.setTn k x).freeCtr = s.freeCtr ∧ (s.setTn k x).out = s.out :=
  ⟨rfl, rfl, rfl, rfl, rfl, rfl, rfl, rfl, rfl, rfl, rfl, rfl, rfl, rfl, rfl, rfl, rfl, rfl, rfl, rfl, rfl, rfl⟩

theorem Dev.tn_setTn (s : Dev) (k : Nat) (x : NodeRun) (j : Nat) : (s.setTn k x).tn j = if j = k then x else s.tn j := by
  unfold Dev.tn Dev.setTn
  exact SMap.get_put _ _ _ _ _

@[simp] theorem Dev.tn_setTn_self (s : Dev) (k : Nat) (x : NodeRun) : (s.setTn k x).tn k = x := by rw [Dev.tn_setTn, if_pos rfl]

@[simp] theorem Dev.setTp_fields (s : Dev) (p : Nat) (x : PortRun) :
    (s.setTp p x).fabric = s.fabric ∧ (s.setTp p x).ports = s.ports ∧ (s.setTp p x).mgrPort = s.mgrPort ∧ (s.setTp p x).regs = s.regs ∧
    (s.setTp p x).mgt = s.mgt ∧ (s.setTp p x).slices = s.slices ∧ (s.setTp p x).rules = s.rules ∧ (s.setTp p x).qde = s.qde ∧
    (s.setTp p x).obs = s.obs ∧ (s.setTp p x).boot = s.boot ∧ (s.setTp p x).str = s.str ∧ (s.setTp p x).jnl = s.jnl ∧
    (s.setTp p x).mem = s.mem ∧ (s.setTp p x).mtr = s.mtr ∧ (s.setTp p x).tru = s.tru ∧ (s.setTp p x).cry = s.cry ∧
    (s.setTp p x).eth = s.eth ∧ (s.setTp p x).act = s.act ∧ (s.setTp p x).ctr = s.ctr ∧ (s.setTp p x).now = s.now ∧
    (s.setTp p x).freeCtr = s.freeCtr ∧ (s.setTp p x).out = s.out :=
  ⟨rfl, rfl, rfl, rfl, rfl, rfl, rfl, rfl, rfl, rfl, rfl, rfl, rfl, rfl, rfl, rfl, rfl, rfl, rfl, rfl, rfl, rfl⟩

theorem Dev.tp_setTp (s : Dev) (p : Nat) (x : PortRun) (j : Nat) : (s.setTp p x).tp j = if j = p then x else s.tp j := by
  unfold Dev.tp Dev.setTp
  exact SMap.get_put _ _ _ _ _

@[simp] theorem Dev.tp_setTp_self (s : Dev) (p : Nat) (x : PortRun) : (s.setTp p x).tp p = x := by rw [Dev.tp_setTp, if_pos rfl]

@[simp] theorem Dev.setMeterRun_fields (s : Dev) (n : Nat) (x : Option MeterRun) :
    (s.setMeterRun n x).fabric = s.fabric ∧ (s.setMeterRun n x).ports = s.ports ∧ (s.setMeterRun n x).mgrPort = s.mgrPort ∧ (s.setMeterRun n x).regs = s.regs ∧
    (s.setMeterRun n x).mgt = s.mgt ∧ (s.setMeterRun n x).slices = s.slices ∧ (s.setMeterRun n x).rules = s.rules ∧ (s.setMeterRun n x).qde = s.qde ∧
    (s.setMeterRun n x).obs = s.obs ∧ (s.setMeterRun n x).boot = s.boot ∧ (s.setMeterRun n x).str = s.str ∧ (s.setMeterRun n x).jnl = s.jnl ∧
    (s.setMeterRun n x).mem = s.mem ∧ (s.setMeterRun n x).mtr = s.mtr ∧ (s.setMeterRun n x).tru = s.tru ∧ (s.setMeterRun n x).cry = s.cry ∧
    (s.setMeterRun n x).eth = s.eth ∧ (s.setMeterRun n x).act = s.act ∧ (s.setMeterRun n x).ctr = s.ctr ∧ (s.setMeterRun n x).now = s.now ∧
    (s.setMeterRun n x).freeCtr = s.freeCtr ∧ (s.setMeterRun n x).out = s.out :=
  ⟨rfl, rfl, rfl, rfl, rfl, rfl, rfl, rfl, rfl, rfl, rfl, rfl, rfl, rfl, rfl, rfl, rfl, rfl, rfl, rfl, rfl, rfl⟩

@[simp] theorem Dev.setKeySlot_fields (s : Dev) (k : Nat) (x : KeySlot) :
    (s.setKeySlot k x).fabric = s.fabric ∧ (s.setKeySlot k x).ports = s.ports ∧ (s.setKeySlot k x).mgrPort = s.mgrPort ∧ (s.setKeySlot k x).regs = s.regs ∧
    (s.setKeySlot k x).mgt = s.mgt ∧ (s.setKeySlot k x).slices = s.slices ∧ (s.setKeySlot k x).rules = s.rules ∧ (s.setKeySlot k x).qde = s.qde ∧
    (s.setKeySlot k x).obs = s.obs ∧ (s.setKeySlot k x).boot = s.boot ∧ (s.setKeySlot k x).str = s.str ∧ (s.setKeySlot k x).jnl = s.jnl ∧
    (s.setKeySlot k x).mem = s.mem ∧ (s.setKeySlot k x).mtr = s.mtr ∧ (s.setKeySlot k x).cry = s.cry ∧ (s.setKeySlot k x).eth = s.eth ∧
    (s.setKeySlot k x).act = s.act ∧ (s.setKeySlot k x).tmg = s.tmg ∧ (s.setKeySlot k x).ctr = s.ctr ∧ (s.setKeySlot k x).now = s.now ∧
    (s.setKeySlot k x).freeCtr = s.freeCtr ∧ (s.setKeySlot k x).out = s.out :=
  ⟨rfl, rfl, rfl, rfl, rfl, rfl, rfl, rfl, rfl, rfl, rfl, rfl, rfl, rfl, rfl, rfl, rfl, rfl, rfl, rfl, rfl, rfl⟩

theorem Dev.keySlot_setKeySlot (s : Dev) (k : Nat) (x : KeySlot) (j : Nat) : (s.setKeySlot k x).keySlot j = if j = k then x else s.keySlot j := by
  unfold Dev.keySlot Dev.setKeySlot
  exact SMap.get_put _ _ _ _ _

@[simp] theorem Dev.keySlot_setKeySlot_self (s : Dev) (k : Nat) (x : KeySlot) : (s.setKeySlot k x).keySlot k = x := by rw [Dev.keySlot_setKeySlot, if_pos rfl]

@[simp] theorem Dev.setBundle_fields (s : Dev) (b : Nat) (x : Bundle) :
    (s.setBundle b x).fabric = s.fabric ∧ (s.setBundle b x).ports = s.ports ∧ (s.setBundle b x).mgrPort = s.mgrPort ∧ (s.setBundle b x).regs = s.regs ∧
    (s.setBundle b x).mgt = s.mgt ∧ (s.setBundle b x).slices = s.slices ∧ (s.setBundle b x).rules = s.rules ∧ (s.setBundle b x).qde = s.qde ∧
    (s.setBundle b x).obs = s.obs ∧ (s.setBundle b x).boot = s.boot ∧ (s.setBundle b x).jnl = s.jnl ∧ (s.setBundle b x).mem = s.mem ∧
    (s.setBundle b x).mtr = s.mtr ∧ (s.setBundle b x).tru = s.tru ∧ (s.setBundle b x).cry = s.cry ∧ (s.setBundle b x).eth = s.eth ∧
    (s.setBundle b x).act = s.act ∧ (s.setBundle b x).tmg = s.tmg ∧ (s.setBundle b x).ctr = s.ctr ∧ (s.setBundle b x).now = s.now ∧
    (s.setBundle b x).freeCtr = s.freeCtr ∧ (s.setBundle b x).out = s.out :=
  ⟨rfl, rfl, rfl, rfl, rfl, rfl, rfl, rfl, rfl, rfl, rfl, rfl, rfl, rfl, rfl, rfl, rfl, rfl, rfl, rfl, rfl, rfl⟩

theorem Dev.bundle_setBundle (s : Dev) (b : Nat) (x : Bundle) (j : Nat) : (s.setBundle b x).bundle j = if j = b then x else s.bundle j := by
  unfold Dev.bundle Dev.setBundle
  exact SMap.get_put _ _ _ _ _

@[simp] theorem Dev.bundle_setBundle_self (s : Dev) (b : Nat) (x : Bundle) : (s.setBundle b x).bundle b = x := by rw [Dev.bundle_setBundle, if_pos rfl]

@[simp] theorem Dev.setEport_fields (s : Dev) (p : Nat) (x : EthPort) :
    (s.setEport p x).fabric = s.fabric ∧ (s.setEport p x).ports = s.ports ∧ (s.setEport p x).mgrPort = s.mgrPort ∧ (s.setEport p x).regs = s.regs ∧
    (s.setEport p x).mgt = s.mgt ∧ (s.setEport p x).slices = s.slices ∧ (s.setEport p x).rules = s.rules ∧ (s.setEport p x).qde = s.qde ∧
    (s.setEport p x).obs = s.obs ∧ (s.setEport p x).boot = s.boot ∧ (s.setEport p x).str = s.str ∧ (s.setEport p x).jnl = s.jnl ∧
    (s.setEport p x).mem = s.mem ∧ (s.setEport p x).mtr = s.mtr ∧ (s.setEport p x).tru = s.tru ∧ (s.setEport p x).cry = s.cry ∧
    (s.setEport p x).act = s.act ∧ (s.setEport p x).tmg = s.tmg ∧ (s.setEport p x).ctr = s.ctr ∧ (s.setEport p x).now = s.now ∧
    (s.setEport p x).freeCtr = s.freeCtr ∧ (s.setEport p x).out = s.out :=
  ⟨rfl, rfl, rfl, rfl, rfl, rfl, rfl, rfl, rfl, rfl, rfl, rfl, rfl, rfl, rfl, rfl, rfl, rfl, rfl, rfl, rfl, rfl⟩

theorem Dev.eport_setEport (s : Dev) (p : Nat) (x : EthPort) (j : Nat) : (s.setEport p x).eport j = if j = p then x else s.eport j := by
  unfold Dev.eport Dev.setEport
  exact SMap.get_put _ _ _ _ _

@[simp] theorem Dev.eport_setEport_self (s : Dev) (p : Nat) (x : EthPort) : (s.setEport p x).eport p = x := by rw [Dev.eport_setEport, if_pos rfl]

@[simp] theorem Dev.setSem_fields (s : Dev) (k m : Nat) :
    (s.setSem k m).fabric = s.fabric ∧ (s.setSem k m).ports = s.ports ∧ (s.setSem k m).mgrPort = s.mgrPort ∧ (s.setSem k m).regs = s.regs ∧
    (s.setSem k m).slices = s.slices ∧ (s.setSem k m).rules = s.rules ∧ (s.setSem k m).qde = s.qde ∧ (s.setSem k m).obs = s.obs ∧
    (s.setSem k m).boot = s.boot ∧ (s.setSem k m).str = s.str ∧ (s.setSem k m).jnl = s.jnl ∧ (s.setSem k m).mem = s.mem ∧
    (s.setSem k m).mtr = s.mtr ∧ (s.setSem k m).tru = s.tru ∧ (s.setSem k m).cry = s.cry ∧ (s.setSem k m).eth = s.eth ∧
    (s.setSem k m).act = s.act ∧ (s.setSem k m).tmg = s.tmg ∧ (s.setSem k m).ctr = s.ctr ∧ (s.setSem k m).now = s.now ∧
    (s.setSem k m).freeCtr = s.freeCtr ∧ (s.setSem k m).out = s.out :=
  ⟨rfl, rfl, rfl, rfl, rfl, rfl, rfl, rfl, rfl, rfl, rfl, rfl, rfl, rfl, rfl, rfl, rfl, rfl, rfl, rfl, rfl, rfl⟩

@[simp] theorem emit_fields (s : Dev) (o : Out) :
    (emit o s).fabric = s.fabric ∧ (emit o s).ports = s.ports ∧ (emit o s).mgrPort = s.mgrPort ∧ (emit o s).regs = s.regs ∧
    (emit o s).mgt = s.mgt ∧ (emit o s).slices = s.slices ∧ (emit o s).rules = s.rules ∧ (emit o s).qde = s.qde ∧
    (emit o s).obs = s.obs ∧ (emit o s).boot = s.boot ∧ (emit o s).str = s.str ∧ (emit o s).jnl = s.jnl ∧
    (emit o s).mem = s.mem ∧ (emit o s).mtr = s.mtr ∧ (emit o s).tru = s.tru ∧ (emit o s).cry = s.cry ∧
    (emit o s).eth = s.eth ∧ (emit o s).act = s.act ∧ (emit o s).tmg = s.tmg ∧ (emit o s).ctr = s.ctr ∧
    (emit o s).now = s.now ∧ (emit o s).freeCtr = s.freeCtr :=
  ⟨rfl, rfl, rfl, rfl, rfl, rfl, rfl, rfl, rfl, rfl, rfl, rfl, rfl, rfl, rfl, rfl, rfl, rfl, rfl, rfl, rfl, rfl⟩

@[simp] theorem countBy_fields (s : Dev) (c : Ctr) (inst n : Nat) :
    (countBy c inst n s).fabric = s.fabric ∧ (countBy c inst n s).ports = s.ports ∧ (countBy c inst n s).mgrPort = s.mgrPort ∧ (countBy c inst n s).regs = s.regs ∧
    (countBy c inst n s).mgt = s.mgt ∧ (countBy c inst n s).slices = s.slices ∧ (countBy c inst n s).rules = s.rules ∧ (countBy c inst n s).qde = s.qde ∧
    (countBy c inst n s).obs = s.obs ∧ (countBy c inst n s).boot = s.boot ∧ (countBy c inst n s).str = s.str ∧ (countBy c inst n s).jnl = s.jnl ∧
    (countBy c inst n s).mem = s.mem ∧ (countBy c inst n s).mtr = s.mtr ∧ (countBy c inst n s).tru = s.tru ∧ (countBy c inst n s).cry = s.cry ∧
    (countBy c inst n s).eth = s.eth ∧ (countBy c inst n s).act = s.act ∧ (countBy c inst n s).tmg = s.tmg ∧ (countBy c inst n s).now = s.now ∧
    (countBy c inst n s).freeCtr = s.freeCtr ∧ (countBy c inst n s).out = s.out :=
  ⟨rfl, rfl, rfl, rfl, rfl, rfl, rfl, rfl, rfl, rfl, rfl, rfl, rfl, rfl, rfl, rfl, rfl, rfl, rfl, rfl, rfl, rfl⟩

@[simp] theorem count_fields (s : Dev) (c : Ctr) (inst : Nat) :
    (count c inst s).fabric = s.fabric ∧ (count c inst s).ports = s.ports ∧ (count c inst s).mgrPort = s.mgrPort ∧ (count c inst s).regs = s.regs ∧
    (count c inst s).mgt = s.mgt ∧ (count c inst s).slices = s.slices ∧ (count c inst s).rules = s.rules ∧ (count c inst s).qde = s.qde ∧
    (count c inst s).obs = s.obs ∧ (count c inst s).boot = s.boot ∧ (count c inst s).str = s.str ∧ (count c inst s).jnl = s.jnl ∧
    (count c inst s).mem = s.mem ∧ (count c inst s).mtr = s.mtr ∧ (count c inst s).tru = s.tru ∧ (count c inst s).cry = s.cry ∧
    (count c inst s).eth = s.eth ∧ (count c inst s).act = s.act ∧ (count c inst s).tmg = s.tmg ∧ (count c inst s).now = s.now ∧
    (count c inst s).freeCtr = s.freeCtr ∧ (count c inst s).out = s.out :=
  ⟨rfl, rfl, rfl, rfl, rfl, rfl, rfl, rfl, rfl, rfl, rfl, rfl, rfl, rfl, rfl, rfl, rfl, rfl, rfl, rfl, rfl, rfl⟩

theorem Ctr.key_inj {c c' : Ctr} {i i' : Nat} (hi : i < 65536) (hi' : i' < 65536) : Ctr.key c i = Ctr.key c' i' ↔ c = c' ∧ i = i' := by
  constructor
  · intro h
    unfold Ctr.key at h
    have h1 : c.ctorIdx = c'.ctorIdx := by omega
    have h2 : i = i' := by omega
    refine ⟨?_, h2⟩
    have h3 := congrArg Ctr.ofNat h1
    rwa [Ctr.ofNat_ctorIdx, Ctr.ofNat_ctorIdx] at h3
  · rintro ⟨rfl, rfl⟩; rfl

/-- Counting moves one counter. -/
theorem counter_countBy (c : Ctr) (inst n : Nat) (s : Dev) (j : Nat) :
    SMap.get 0 (countBy c inst n s).ctr j = if j = Ctr.key c inst then s.counter c inst + BitVec.ofNat 64 n else SMap.get 0 s.ctr j :=
  SMap.get_put _ _ _ _ _

end Sys2Proof.Machine
end

