-- ==== Sys2Proof/Laws/Commands.lean ====
section
/-! SUPPORT. What the shared operations of the commands do, once: a request that is accepted, a control message that is acted on, and what
`Becomes` asks of a meaning. -/
namespace Sys2Proof.Machine

/-- A meaning that is `ran` completes with its function's member. -/
theorem ran_becomes {w : Bool} {f : Dev → Dev} {s : State} (h : w = true) : ran w f s = .next { s with dev := f s.dev } := by
  simp [ran, h, State.on]

theorem Becomes.of_eq {c : Instr} {s : State} {d e : Dev} (h : Becomes c s d) (he : d = e) : Becomes c s e := he ▸ h

theorem Becomes.ends {c : Instr} {s : State} {d : Dev} {p : Dev → Prop} (h : Becomes c s d) (hp : p d) : Ends c s p := ⟨d, h, hp⟩

/-- A command row executes where it is its channel's turn. -/
theorem onChannel_turn {ch : Nat} {f : Dev → Dev} {s : Dev} (h : s.turnOf ch = true) : onChannel ch f s = f (served ch s) := by
  simp [onChannel, h]

/-- An accepted request is the command's own part, answered where that part answers. -/
theorem command_accepted {sp : CmdSpec} {ch : Nat} {r : Req} {body : Dev → Dev × Reply} {s d : Dev} (h : Accepted sp ch r s d) :
    onChannel ch (command sp ch r body) s =
      match body d with
      | (e, some (st, ws)) => answer (mkJob sp ch r d) st ws e
      | (e, none) => e := by
  obtain ⟨h1, h2, rfl, h4⟩ := h
  rw [onChannel_turn h1]
  unfold command
  rw [h2]
  simp only [h4] <;> rfl

/-- An accepted request whose own part answers. -/
theorem command_answers {sp : CmdSpec} {ch : Nat} {r : Req} {body : Dev → Dev × Reply} {s d e : Dev} {st : Status} {ws : List W64}
    (h : Accepted sp ch r s d) (hb : body d = (e, some (st, ws))) :
    onChannel ch (command sp ch r body) s = answer (mkJob sp ch r d) st ws e := by
  rw [command_accepted h, hb]

/-- An accepted request that goes on as a job. -/
theorem command_runs_on {sp : CmdSpec} {ch : Nat} {r : Req} {body : Dev → Dev × Reply} {s d e : Dev}
    (h : Accepted sp ch r s d) (hb : body d = (e, none)) : onChannel ch (command sp ch r body) s = e := by
  rw [command_accepted h, hb]

/-- A configuration command whose record is taken goes on as a job. -/
theorem configured_recorded {sp : CmdSpec} {ch : Nat} {r : Req} {sub : Nat} {f : Dev → Dev} {ws : List W64} {d e : Dev}
    (h : Recorded sp ch r sub ws d e) : configured sp ch r sub f ws d = (f e, none) := by
  unfold configured
  simp only [h.1, h.2.1, h.2.2, Option.isSome_none, Bool.false_eq_true, if_false]

theorem findIdxFrom_append {α : Type} (p : α → Bool) (pre post : List α) (m : α) (i : Nat) (h1 : ∀ y ∈ pre, p y = false) (h2 : p m = true) :
    findIdxFrom p i (pre ++ m :: post) = some (i + pre.length, m) := by
  induction pre generalizing i with
  | nil => simp [findIdxFrom, h2]
  | cons y t ih =>
    have hy : p y = false := h1 y (by simp)
    have ht : ∀ z ∈ t, p z = false := fun z hz => h1 z (by simp [hz])
    simp only [List.cons_append, findIdxFrom, hy, Bool.false_eq_true, if_false, ih (i + 1) ht, List.length_cons]
    congr 2
    omega

/-- A message that has arrived is acted on. -/
theorem takeMsg_arrived {α : Type} {p : CtlBody → Option α} {f : CtlMsg → α → Dev → Dev} {m : CtlMsg} {x : α} {s t : Dev}
    (h : Arrived p m x s t) : takeMsg p f s = f m x t := by
  obtain ⟨pre, post, h1, h2, h3, h4, h5, h6, rfl⟩ := h
  have hf := findIdxFrom_append (fun m => (p m.body).isSome) pre post m 0 (fun y hy => by simp [h2 y hy]) (by simp [h3])
  have he : (pre ++ m :: post).eraseIdx (0 + pre.length) = pre ++ post := by simp [List.eraseIdx_append]
  have hs : s.str.seen.find? (fun e => e.1 == m.hdr.org && e.2.1 == m.hdr.msgSeq) = none := by
    simp only [List.find?_eq_none, Bool.and_eq_true, beq_iff_eq, not_and]
    exact fun e he h => h6 e he h
  unfold takeMsg
  rw [h1, hf]
  simp only [he, h3, h4, h5, hs, Bool.false_eq_true, if_false]

/-- A message of KIND LINK is acted on. -/
theorem takeMsg_link {α : Type} {p : CtlBody → Option α} {f : CtlMsg → α → Dev → Dev} {m : CtlMsg} {x : α} {s t : Dev}
    (h : LinkArrived p m x s t) : takeMsg p f s = f m x t := by
  obtain ⟨pre, post, h1, h2, h3, h4, rfl⟩ := h
  have hf := findIdxFrom_append (fun m => (p m.body).isSome) pre post m 0 (fun y hy => by simp [h2 y hy]) (by simp [h3])
  have he : (pre ++ m :: post).eraseIdx (0 + pre.length) = pre ++ post := by simp [List.eraseIdx_append]
  unfold takeMsg
  rw [h1, hf]
  simp only [he, h3, h4, if_true]

end Sys2Proof.Machine
end

