-- ==== Sys2Proof/Laws/Exec.lean ====
section
/-! SUPPORT. Each command, once: what it leaves of the member when it is well formed. -/
namespace Sys2Proof.Machine

theorem becomes_crossingBlockReceive (src dst : Nat) (b : Block) (s : State) (h : Wf.crossingBlockReceive src dst b = true) : Becomes (.crossingBlockReceive src dst b) s ((crossingBlockReceive src dst b) s.dev) := ran_becomes h
theorem becomes_blockAcknowledgement (src dst : Nat) (seq : BitVec 7) (s : State) (h : Wf.blockAcknowledgement src dst seq = true) : Becomes (.blockAcknowledgement src dst seq) s ((blockAcknowledgement src dst seq) s.dev) := ran_becomes h
theorem becomes_blockRefusal (src dst : Nat) (seq : BitVec 7) (s : State) (h : Wf.blockRefusal src dst seq = true) : Becomes (.blockRefusal src dst seq) s ((resend src dst seq) s.dev) := ran_becomes h
theorem becomes_crossingAckTimeout (src dst : Nat) (seq : BitVec 7) (s : State) (h : Wf.crossingAckTimeout src dst seq = true) : Becomes (.crossingAckTimeout src dst seq) s ((resend src dst seq) s.dev) := ran_becomes h
theorem becomes_creditReturn (src dst : Nat) (s : State) (h : Wf.creditReturn src dst = true) : Becomes (.creditReturn src dst) s ((creditTaken src dst) s.dev) := ran_becomes h
theorem becomes_distributorSend (d : Nat) (s : State) (h : Wf.distributorSend d = true) : Becomes (.distributorSend d) s ((distributorSend d) s.dev) := ran_becomes h
theorem becomes_bucketInFlightEnd (d b : Nat) (s : State) (h : Wf.bucketInFlightEnd d b = true) : Becomes (.bucketInFlightEnd d b) s ((bucketInFlightEnd d b) s.dev) := ran_becomes h
theorem becomes_pipelineMarkedSlow (k : Nat) (s : State) (h : Wf.pipelineMarkedSlow k = true) : Becomes (.pipelineMarkedSlow k) s ((pipelineMarkedSlow k) s.dev) := ran_becomes h
theorem becomes_slowMarkCleared (k : Nat) (s : State) (h : Wf.slowMarkCleared k = true) : Becomes (.slowMarkCleared k) s ((slowMarkCleared k) s.dev) := ran_becomes h
theorem becomes_distCfgWrite (w : RegWrite) (s : State) (h : Wf.distCfgWrite w = true) : Becomes (.distCfgWrite w) s ((distCfgWrite w) s.dev) := ran_becomes h
theorem becomes_versionQuery (ch : Nat) (r : Req) (s : State) (h : Wf.versionQuery ch r = true) : Becomes (.versionQuery ch r) s ((onChannel ch (cmdVersionQuery ch r)) s.dev) := ran_becomes h
theorem becomes_versionBuildBegin (ch : Nat) (r : Req) (s : State) (h : Wf.versionBuildBegin ch r = true) : Becomes (.versionBuildBegin ch r) s ((onChannel ch (cmdVersionBuildBegin ch r)) s.dev) := ran_becomes h
theorem becomes_versionCommit (ch : Nat) (r : Req) (s : State) (h : Wf.versionCommit ch r = true) : Becomes (.versionCommit ch r) s ((onChannel ch (cmdVersionCommit ch r)) s.dev) := ran_becomes h
theorem becomes_versionBuildAbort (ch : Nat) (r : Req) (s : State) (h : Wf.versionBuildAbort ch r = true) : Becomes (.versionBuildAbort ch r) s ((onChannel ch (cmdVersionBuildAbort ch r)) s.dev) := ran_becomes h
theorem becomes_queueRecoveryRead (ch : Nat) (r : Req) (s : State) (h : Wf.queueRecoveryRead ch r = true) : Becomes (.queueRecoveryRead ch r) s ((onChannel ch (cmdQueueRecoveryRead ch r)) s.dev) := ran_becomes h
theorem becomes_tokenReqReceive (s : State) (h : Wf.tokenReqReceive = true) : Becomes .tokenReqReceive s (tokenReqReceive s.dev) := ran_becomes h
theorem becomes_tokenGrantReceive (s : State) (h : Wf.tokenGrantReceive = true) : Becomes .tokenGrantReceive s (tokenGrantReceive s.dev) := ran_becomes h
theorem becomes_tokenReleaseReceive (s : State) (h : Wf.tokenReleaseReceive = true) : Becomes .tokenReleaseReceive s (tokenReleaseReceive s.dev) := ran_becomes h
theorem becomes_prepareDataReceive (s : State) (h : Wf.prepareDataReceive = true) : Becomes .prepareDataReceive s (prepareDataReceive s.dev) := ran_becomes h
theorem becomes_prepareEndReceive (s : State) (h : Wf.prepareEndReceive = true) : Becomes .prepareEndReceive s (prepareEndReceive s.dev) := ran_becomes h
theorem becomes_prepareAckReceive (s : State) (h : Wf.prepareAckReceive = true) : Becomes .prepareAckReceive s (prepareAckReceive s.dev) := ran_becomes h
theorem becomes_prepareWithdrawReceive (s : State) (h : Wf.prepareWithdrawReceive = true) : Becomes .prepareWithdrawReceive s (prepareWithdrawReceive s.dev) := ran_becomes h
theorem becomes_activateReceive (s : State) (h : Wf.activateReceive = true) : Becomes .activateReceive s (activateReceive s.dev) := ran_becomes h
theorem becomes_activation (s : State) (h : Wf.activation = true) : Becomes .activation s (activation s.dev) := ran_becomes h
theorem becomes_activateAckReceive (s : State) (h : Wf.activateAckReceive = true) : Becomes .activateAckReceive s (activateAckReceive s.dev) := ran_becomes h
theorem becomes_retireReceive (s : State) (h : Wf.retireReceive = true) : Becomes .retireReceive s (retireReceive s.dev) := ran_becomes h
theorem becomes_versionDrainStart (slot : Nat) (s : State) (h : Wf.versionDrainStart slot = true) : Becomes (.versionDrainStart slot) s ((drainStart slot) s.dev) := ran_becomes h
theorem becomes_drainMarkerPass (unit slot : Nat) (s : State) (h : Wf.drainMarkerPass unit slot = true) : Becomes (.drainMarkerPass unit slot) s ((drainPass unit slot) s.dev) := ran_becomes h
theorem becomes_drainDoneReceive (s : State) (h : Wf.drainDoneReceive = true) : Becomes .drainDoneReceive s (drainDoneReceive s.dev) := ran_becomes h
theorem becomes_slotFreeReceive (s : State) (h : Wf.slotFreeReceive = true) : Becomes .slotFreeReceive s (slotFreeReceive s.dev) := ran_becomes h
theorem becomes_pullReqReceive (s : State) (h : Wf.pullReqReceive = true) : Becomes .pullReqReceive s (pullReqReceive s.dev) := ran_becomes h
theorem becomes_pullDataReceive (s : State) (h : Wf.pullDataReceive = true) : Becomes .pullDataReceive s (pullDataReceive s.dev) := ran_becomes h
theorem becomes_perstAssert (port : Nat) (s : State) (h : Wf.perstAssert port = true) : Becomes (.perstAssert port) s ((perstAssert port) s.dev) := ran_becomes h
theorem becomes_perstDeassert (port : Nat) (strap : Bool) (s : State) (h : Wf.perstDeassert port strap = true) : Becomes (.perstDeassert port strap) s ((perstDeassert port strap) s.dev) := ran_becomes h
theorem becomes_linkDown (port : Nat) (half : Bool) (s : State) (h : Wf.linkDown port half = true) : Becomes (.linkDown port half) s ((linkDown port half) s.dev) := ran_becomes h
theorem becomes_linkUp (port : Nat) (half : Bool) (speed : BitVec 3) (flit : Bool) (width : BitVec 5) (s : State) (h : Wf.linkUp port half speed flit width = true) : Becomes (.linkUp port half speed flit width) s ((linkUp port half speed flit width) s.dev) := ran_becomes h
theorem becomes_d3hotEntry (port : Nat) (half : Bool) (s : State) (h : Wf.d3hotEntry port half = true) : Becomes (.d3hotEntry port half) s ((d3hotEntry port half) s.dev) := ran_becomes h
theorem becomes_d0Return (port : Nat) (half : Bool) (s : State) (h : Wf.d0Return port half = true) : Becomes (.d0Return port half) s ((d0Return port half) s.dev) := ran_becomes h
theorem becomes_configurationRequest (port : Nat) (half : Bool) (q : CfgReq) (s : State) (h : Wf.configurationRequest port half q = true) : Becomes (.configurationRequest port half q) s ((configurationRequest port half q) s.dev) := ran_becomes h
theorem becomes_bar4Write (port off : Nat) (s : State) (h : Wf.bar4Write port off = true) : Becomes (.bar4Write port off) s ((bar4Write port off) s.dev) := ran_becomes h
theorem becomes_registerWrite (w : RegWrite) (ws : List RegWrite) (rs : List HostRead) (s : State) (h : Wf.registerWrite w (sameClock ws rs) = true) : Becomes (.registerWrite ⟨w, ws, rs⟩) s ((registerWrite w (sameClock ws rs)) s.dev) := ran_becomes h
theorem becomes_setAliasWrite (w : RegWrite) (s : State) (h : Wf.setAliasWrite w = true) : Becomes (.setAliasWrite w) s ((viewWrite 1 w) s.dev) := ran_becomes h
theorem becomes_clearAliasWrite (w : RegWrite) (s : State) (h : Wf.clearAliasWrite w = true) : Becomes (.clearAliasWrite w) s ((viewWrite 2 w) s.dev) := ran_becomes h
theorem becomes_toggleAliasWrite (w : RegWrite) (s : State) (h : Wf.toggleAliasWrite w = true) : Becomes (.toggleAliasWrite w) s ((viewWrite 3 w) s.dev) := ran_becomes h
theorem becomes_writeAcknowledge (port island : Nat) (s : State) (h : Wf.writeAcknowledge port island = true) : Becomes (.writeAcknowledge port island) s ((ackWrite port island) s.dev) := ran_becomes h
theorem becomes_lowWordRead (r : HostRead) (ws : List RegWrite) (rs : List HostRead) (s : State) (h : Wf.lowWordRead r (sameClock ws rs) = true) : Becomes (.lowWordRead r ws rs) s ((lowWordRead r (sameClock ws rs)) s.dev) := ran_becomes h
theorem becomes_registerStallTimeout (port island off : Nat) (write : Bool) (s : State) (h : Wf.registerStallTimeout port island off write = true) : Becomes (.registerStallTimeout port island off write) s ((endStall port island off write) s.dev) := ran_becomes h
theorem becomes_doorbellHoldTimeout (port : Nat) (s : State) (h : Wf.doorbellHoldTimeout port = true) : Becomes (.doorbellHoldTimeout port) s ((endDoorbellHold port) s.dev) := ran_becomes h
theorem becomes_mbxRequestWrite (m : Nat) (half : Bool) (ch off : Nat) (bs : List Byte) (s : State) (h : Wf.mbxRequestWrite m half ch off bs = true) : Becomes (.mbxRequestWrite m half ch off bs) s ((chanArrive m half ch off bs.length (.region m half ch off bs)) s.dev) := ran_becomes h
theorem becomes_postRequest (m : Nat) (half : Bool) (ch : Nat) (withTaken : Bool) (s : State) (h : Wf.postRequest m half ch withTaken = true) : Becomes (.postRequest m half ch withTaken) s ((chanArrive m half ch 0x80 8 (.doorbell m half ch true withTaken)) s.dev) := ran_becomes h
theorem becomes_taken (m : Nat) (half : Bool) (ch : Nat) (s : State) (h : Wf.taken m half ch = true) : Becomes (.taken m half ch) s ((chanArrive m half ch 0x80 8 (.doorbell m half ch false true)) s.dev) := ran_becomes h
theorem becomes_requestTake (ch : Nat) (host : HostIO) (s : State) (h : Wf.requestTake ch host = true) : Becomes (.requestTake ch host) s ((requestTake ch host) s.dev) := ran_becomes h
theorem becomes_mailboxResponseTimeout (ch : Nat) (s : State) (h : Wf.mailboxResponseTimeout ch = true) : Becomes (.mailboxResponseTimeout ch) s ((responseTimeout ch) s.dev) := ran_becomes h
theorem becomes_mgtBindWrite (w : RegWrite) (s : State) (h : Wf.mgtBindWrite w = true) : Becomes (.mgtBindWrite w) s ((mgtBindWrite w) s.dev) := ran_becomes h
theorem becomes_bindLock (w : RegWrite) (s : State) (h : Wf.bindLock w = true) : Becomes (.bindLock w) s ((bindLock w) s.dev) := ran_becomes h
theorem becomes_firmwareWatchdog (pc : W64) (s : State) (h : Wf.firmwareWatchdog pc = true) : Becomes (.firmwareWatchdog pc) s ((firmwareWatchdog pc) s.dev) := ran_becomes h
theorem becomes_firmwareRestartComplete (version : BitVec 32) (s : State) (h : Wf.firmwareRestartComplete version = true) : Becomes (.firmwareRestartComplete version) s ((firmwareRestart version) s.dev) := ran_becomes h
theorem becomes_semaphoreRead (ms : List (Nat × Bool)) (k : Nat) (s : State) (h : Wf.semaphoreRead ms k = true) : Becomes (.semaphoreRead ms k) s ((semRead ms k) s.dev) := ran_becomes h
theorem becomes_semaphoreRelease (m k : Nat) (value : W64) (viaAlias : Bool) (s : State) (h : Wf.semaphoreRelease m k value viaAlias = true) : Becomes (.semaphoreRelease m k value viaAlias) s ((semRelease m k value viaAlias) s.dev) := ran_becomes h
theorem becomes_deviceInfo (ch : Nat) (r : Req) (s : State) (h : Wf.deviceInfo ch r = true) : Becomes (.deviceInfo ch r) s ((onChannel ch (cmdDeviceInfo ch r)) s.dev) := ran_becomes h
theorem becomes_readyStatus (ch : Nat) (r : Req) (s : State) (h : Wf.readyStatus ch r = true) : Becomes (.readyStatus ch r) s ((onChannel ch (cmdReadyStatus ch r)) s.dev) := ran_becomes h
theorem becomes_channelConfig (ch : Nat) (r : Req) (s : State) (h : Wf.channelConfig ch r = true) : Becomes (.channelConfig ch r) s ((onChannel ch (cmdChannelConfig ch r)) s.dev) := ran_becomes h
theorem becomes_cmdResult (ch : Nat) (r : Req) (s : State) (h : Wf.cmdResult ch r = true) : Becomes (.cmdResult ch r) s ((onChannel ch (cmdCmdResult ch r)) s.dev) := ran_becomes h
theorem becomes_watchdogConfig (ch : Nat) (r : Req) (s : State) (h : Wf.watchdogConfig ch r = true) : Becomes (.watchdogConfig ch r) s ((onChannel ch (cmdWatchdogConfig ch r)) s.dev) := ran_becomes h
theorem becomes_faultLogRead (ch : Nat) (r : Req) (s : State) (h : Wf.faultLogRead ch r = true) : Becomes (.faultLogRead ch r) s ((onChannel ch (cmdFaultLogRead ch r)) s.dev) := ran_becomes h
theorem becomes_semForceRelease (ch : Nat) (r : Req) (s : State) (h : Wf.semForceRelease ch r = true) : Becomes (.semForceRelease ch r) s ((onChannel ch (cmdSemForceRelease ch r)) s.dev) := ran_becomes h
theorem becomes_deviceReset (ch : Nat) (r : Req) (s : State) (h : Wf.deviceReset ch r = true) : Becomes (.deviceReset ch r) s ((onChannel ch (cmdDeviceReset ch r)) s.dev) := ran_becomes h
theorem becomes_deviceResetExecute (s : State) (h : Wf.deviceResetExecute = true) : Becomes .deviceResetExecute s (deviceResetExecute s.dev) := ran_becomes h
theorem becomes_sliceCreate (ch : Nat) (r : Req) (s : State) (h : Wf.sliceCreate ch r = true) : Becomes (.sliceCreate ch r) s ((onChannel ch (cmdSliceCreate ch r)) s.dev) := ran_becomes h
theorem becomes_sliceResize (ch : Nat) (r : Req) (s : State) (h : Wf.sliceResize ch r = true) : Becomes (.sliceResize ch r) s ((onChannel ch (cmdSliceResize ch r)) s.dev) := ran_becomes h
theorem becomes_sliceQuery (ch : Nat) (r : Req) (s : State) (h : Wf.sliceQuery ch r = true) : Becomes (.sliceQuery ch r) s ((onChannel ch (cmdSliceQuery ch r)) s.dev) := ran_becomes h
theorem becomes_sliceQuiesce (ch : Nat) (r : Req) (s : State) (h : Wf.sliceQuiesce ch r = true) : Becomes (.sliceQuiesce ch r) s ((onChannel ch (cmdSliceQuiesce ch r)) s.dev) := ran_becomes h
theorem becomes_sliceReset (ch : Nat) (r : Req) (s : State) (h : Wf.sliceReset ch r = true) : Becomes (.sliceReset ch r) s ((onChannel ch (cmdSliceReset ch r)) s.dev) := ran_becomes h
theorem becomes_sliceDestroy (ch : Nat) (r : Req) (s : State) (h : Wf.sliceDestroy ch r = true) : Becomes (.sliceDestroy ch r) s ((onChannel ch (cmdSliceDestroy ch r)) s.dev) := ran_becomes h
theorem becomes_sliceDrainMarkerPass (unit sl : Nat) (s : State) (h : Wf.sliceDrainMarkerPass unit sl = true) : Becomes (.sliceDrainMarkerPass unit sl) s ((sliceDrainPass unit sl) s.dev) := ran_becomes h
theorem becomes_quiesceDrained (sl : Nat) (s : State) (h : Wf.quiesceDrained sl = true) : Becomes (.quiesceDrained sl) s ((quiesceDrained sl) s.dev) := ran_becomes h
theorem becomes_quiesceTimeout (sl : Nat) (s : State) (h : Wf.quiesceTimeout sl = true) : Becomes (.quiesceTimeout sl) s ((quiesceTimeout sl) s.dev) := ran_becomes h
theorem becomes_vectorSet (ch : Nat) (r : Req) (s : State) (h : Wf.vectorSet ch r = true) : Becomes (.vectorSet ch r) s ((onChannel ch (cmdVectorSet ch r)) s.dev) := ran_becomes h
theorem becomes_vectorCoalesce (ch : Nat) (r : Req) (s : State) (h : Wf.vectorCoalesce ch r = true) : Becomes (.vectorCoalesce ch r) s ((onChannel ch (cmdVectorCoalesce ch r)) s.dev) := ran_becomes h
theorem becomes_eventMap (ch : Nat) (r : Req) (s : State) (h : Wf.eventMap ch r = true) : Becomes (.eventMap ch r) s ((onChannel ch (cmdEventMap ch r)) s.dev) := ran_becomes h
theorem becomes_vectorMask (port : Nat) (half : Bool) (sl v len : Nat) (s : State) (h : Wf.vectorMask port half sl v len = true) : Becomes (.vectorMask port half sl v len) s ((vectorControl port half sl v len true) s.dev) := ran_becomes h
theorem becomes_vectorUnmask (port : Nat) (half : Bool) (sl v len : Nat) (s : State) (h : Wf.vectorUnmask port half sl v len = true) : Becomes (.vectorUnmask port half sl v len) s ((vectorControl port half sl v len false) s.dev) := ran_becomes h
theorem becomes_vectorDelayExpiry (sl v : Nat) (s : State) (h : Wf.vectorDelayExpiry sl v = true) : Becomes (.vectorDelayExpiry sl v) s ((delayExpiry sl v) s.dev) := ran_becomes h
theorem becomes_msixUnmask (port : Nat) (half : Bool) (entry : Option Nat) (s : State) (h : Wf.msixUnmask port half entry = true) : Becomes (.msixUnmask port half entry) s ((msixUnmask port half entry) s.dev) := ran_becomes h
theorem becomes_producerDoorbell (port : Nat) (half : Bool) (sl off len : Nat) (ws : List W64) (s : State) (h : Wf.producerDoorbell port half sl off len ws = true) : Becomes (.producerDoorbell port half sl off len ws) s ((doorbellWrite port half sl off len ws) s.dev) := ran_becomes h
theorem becomes_completionConsumerDoorbell (port : Nat) (half : Bool) (sl off len : Nat) (ws : List W64) (s : State) (h : Wf.completionConsumerDoorbell port half sl off len ws = true) : Becomes (.completionConsumerDoorbell port half sl off len ws) s ((doorbellWrite port half sl (0x40 + off) len ws) s.dev) := ran_becomes h
theorem becomes_invalidateDoorbell (port : Nat) (half : Bool) (sl off len : Nat) (ws : List W64) (s : State) (h : Wf.invalidateDoorbell port half sl off len ws = true) : Becomes (.invalidateDoorbell port half sl off len ws) s ((doorbellWrite port half sl (0x80 + off) len ws) s.dev) := ran_becomes h
theorem becomes_descriptorFetch (chan : Nat) (s : State) (h : Wf.descriptorFetch chan = true) : Becomes (.descriptorFetch chan) s ((descriptorFetch chan) s.dev) := ran_becomes h
theorem becomes_descriptorFetchComplete (qp : Nat) (ds : List (List W64)) (s : State) (h : Wf.descriptorFetchComplete qp ds = true) : Becomes (.descriptorFetchComplete qp ds) s ((fetchComplete qp ds) s.dev) := ran_becomes h
theorem becomes_descriptorFetchTimeout (qp : Nat) (s : State) (h : Wf.descriptorFetchTimeout qp = true) : Becomes (.descriptorFetchTimeout qp) s ((descriptorFetchTimeout qp) s.dev) := ran_becomes h
theorem becomes_descriptorStart (chan : Nat) (s : State) (h : Wf.descriptorStart chan = true) : Becomes (.descriptorStart chan) s ((descriptorStart chan) s.dev) := ran_becomes h
theorem becomes_dmaReadComplete (qp index : Nat) (what : ReadWhat) (res : ReadResult) (s : State) (h : Wf.dmaReadComplete qp index what res = true) : Becomes (.dmaReadComplete qp index what res) s ((dmaReadComplete qp index what res) s.dev) := ran_becomes h
theorem becomes_pcieCompletionTimeout (qp index : Nat) (what : ReadWhat) (s : State) (h : Wf.pcieCompletionTimeout qp index what = true) : Becomes (.pcieCompletionTimeout qp index what) s ((completionTimeout qp index what) s.dev) := ran_becomes h
theorem becomes_fenceReadComplete (qp index : Nat) (res : ReadResult) (s : State) (h : Wf.fenceReadComplete qp index res = true) : Becomes (.fenceReadComplete qp index res) s ((fenceComplete qp index res) s.dev) := ran_becomes h
theorem becomes_translationComplete (qp index : Nat) (what : ReadWhat) (page : Option AtsPage) (s : State) (h : Wf.translationComplete qp index what page = true) : Becomes (.translationComplete qp index what page) s ((translationComplete qp index what page) s.dev) := ran_becomes h
theorem becomes_atsInvalidation (port : Nat) (pasid : Option (BitVec 20)) (page log2 tag : Nat) (s : State) (h : Wf.atsInvalidation port pasid page log2 tag = true) : Becomes (.atsInvalidation port pasid page log2 tag) s ((atsInvalidation port pasid page log2 tag) s.dev) := ran_becomes h
theorem becomes_atsInvalidationComplete (port tag : Nat) (s : State) (h : Wf.atsInvalidationComplete port tag = true) : Becomes (.atsInvalidationComplete port tag) s ((atsInvalidationComplete port tag) s.dev) := ran_becomes h
theorem becomes_rxFrameArrival (s : State) (h : Wf.rxFrameArrival = true) : Becomes .rxFrameArrival s (rxFrameArrival s.dev) := ran_becomes h
theorem becomes_completionRecordWrite (qp : Nat) (s : State) (h : Wf.completionRecordWrite qp = true) : Becomes (.completionRecordWrite qp) s ((completionRecordWrite qp) s.dev) := ran_becomes h
theorem becomes_queueCreate (ch : Nat) (r : Req) (s : State) (h : Wf.queueCreate ch r = true) : Becomes (.queueCreate ch r) s ((onChannel ch (cmdQueueCreate ch r)) s.dev) := ran_becomes h
theorem becomes_queueDestroy (ch : Nat) (r : Req) (s : State) (h : Wf.queueDestroy ch r = true) : Becomes (.queueDestroy ch r) s ((onChannel ch (cmdQueueDestroy ch r)) s.dev) := ran_becomes h
theorem becomes_queueQuery (ch : Nat) (r : Req) (s : State) (h : Wf.queueQuery ch r = true) : Becomes (.queueQuery ch r) s ((onChannel ch (cmdQueueQuery ch r)) s.dev) := ran_becomes h
theorem becomes_queueModify (ch : Nat) (r : Req) (s : State) (h : Wf.queueModify ch r = true) : Becomes (.queueModify ch r) s ((onChannel ch (cmdQueueModify ch r)) s.dev) := ran_becomes h
theorem becomes_queueRestart (ch : Nat) (r : Req) (s : State) (h : Wf.queueRestart ch r = true) : Becomes (.queueRestart ch r) s ((onChannel ch (cmdQueueRestart ch r)) s.dev) := ran_becomes h
theorem becomes_queueAbort (ch : Nat) (r : Req) (s : State) (h : Wf.queueAbort ch r = true) : Becomes (.queueAbort ch r) s ((onChannel ch (cmdQueueAbort ch r)) s.dev) := ran_becomes h
theorem becomes_dmaCfgWrite (w : RegWrite) (s : State) (h : Wf.dmaCfgWrite w = true) : Becomes (.dmaCfgWrite w) s ((dmaCfgWriteCmd w) s.dev) := ran_becomes h
theorem becomes_portOctetMode (ch : Nat) (r : Req) (s : State) (h : Wf.portOctetMode ch r = true) : Becomes (.portOctetMode ch r) s ((onChannel ch (cmdPortOctetMode ch r)) s.dev) := ran_becomes h
theorem becomes_portConfig (ch : Nat) (r : Req) (s : State) (h : Wf.portConfig ch r = true) : Becomes (.portConfig ch r) s ((onChannel ch (cmdPortConfig ch r)) s.dev) := ran_becomes h
theorem becomes_portQuery (ch : Nat) (r : Req) (s : State) (h : Wf.portQuery ch r = true) : Becomes (.portQuery ch r) s ((onChannel ch (cmdPortQuery ch r)) s.dev) := ran_becomes h
theorem becomes_portTxTimestamps (ch : Nat) (r : Req) (s : State) (h : Wf.portTxTimestamps ch r = true) : Becomes (.portTxTimestamps ch r) s ((onChannel ch (cmdPortTxTimestamps ch r)) s.dev) := ran_becomes h
theorem becomes_portLanePolarity (ch : Nat) (r : Req) (s : State) (h : Wf.portLanePolarity ch r = true) : Becomes (.portLanePolarity ch r) s ((onChannel ch (cmdPortLanePolarity ch r)) s.dev) := ran_becomes h
theorem becomes_autonegotiationEnd (port : Nat) (ok : Bool) (s : State) (h : Wf.autonegotiationEnd port ok = true) : Becomes (.autonegotiationEnd port ok) s ((autonegotiationEnd port ok) s.dev) := ran_becomes h
theorem becomes_trainingEnd (port : Nat) (ok : Bool) (s : State) (h : Wf.trainingEnd port ok = true) : Becomes (.trainingEnd port ok) s ((trainingEnd port ok) s.dev) := ran_becomes h
theorem becomes_lockAchieved (port : Nat) (s : State) (h : Wf.lockAchieved port = true) : Becomes (.lockAchieved port) s ((lockAchieved port) s.dev) := ran_becomes h
theorem becomes_lockTimeout (port : Nat) (s : State) (h : Wf.lockTimeout port = true) : Becomes (.lockTimeout port) s ((lockTimeout port) s.dev) := ran_becomes h
theorem becomes_linkLost (port lane : Nat) (s : State) (h : Wf.linkLost port lane = true) : Becomes (.linkLost port lane) s ((linkLost port lane) s.dev) := ran_becomes h
theorem becomes_ethFrameReceived (port : Nat) (bs : List Byte) (sfd : Time) (code preamble fcs : Bool) (fec : List (Nat × Bool)) (s : State) (h : Wf.ethFrameReceived port bs sfd code preamble fcs fec = true) : Becomes (.ethFrameReceived port bs sfd code preamble fcs fec) s ((ethFrameReceived port bs sfd code preamble fcs fec) s.dev) := ran_becomes h
theorem becomes_ethFrameToDistributor (port : Nat) (s : State) (h : Wf.ethFrameToDistributor port = true) : Becomes (.ethFrameToDistributor port) s ((frameToDistributor port) s.dev) := ran_becomes h
theorem becomes_pauseFrameReceived (port : Nat) (pfc : Bool) (mask : Byte) (quanta : List Nat) (s : State) (h : Wf.pauseFrameReceived port pfc mask quanta = true) : Becomes (.pauseFrameReceived port pfc mask quanta) s ((pauseReceived port pfc mask quanta) s.dev) := ran_becomes h
theorem becomes_pauseExpiry (port prio : Nat) (s : State) (h : Wf.pauseExpiry port prio = true) : Becomes (.pauseExpiry port prio) s ((pauseExpiry port prio) s.dev) := ran_becomes h
theorem becomes_pauseRefresh (port : Nat) (s : State) (h : Wf.pauseRefresh port = true) : Becomes (.pauseRefresh port) s ((pauseRefresh port) s.dev) := ran_becomes h
theorem becomes_frameTransmit (port : Nat) (begun : Bool) (s : State) (h : Wf.frameTransmit port begun = true) : Becomes (.frameTransmit port begun) s ((frameTransmit port begun) s.dev) := ran_becomes h
theorem becomes_parserPass (pipe : Nat) (errs : List (Nat × Bool)) (s : State) (h : Wf.parserPass pipe errs = true) : Becomes (.parserPass pipe errs) s ((parserPass pipe errs) s.dev) := ran_becomes h
theorem becomes_csWordRewrite (pipe word : Nat) (ok : Bool) (s : State) (h : Wf.csWordRewrite pipe word ok = true) : Becomes (.csWordRewrite pipe word ok) s ((csWordRewrite pipe word ok) s.dev) := ran_becomes h
theorem becomes_scrubRound (pipe : Nat) (errs : List (Nat × Bool)) (s : State) (h : Wf.scrubRound pipe errs = true) : Becomes (.scrubRound pipe errs) s ((scrubRound pipe errs) s.dev) := ran_becomes h
theorem becomes_parserImageLoad (ch : Nat) (r : Req) (s : State) (h : Wf.parserImageLoad ch r = true) : Becomes (.parserImageLoad ch r) s ((onChannel ch (cmdParserImageLoad ch r)) s.dev) := ran_becomes h
theorem becomes_parserImagePatch (ch : Nat) (r : Req) (s : State) (h : Wf.parserImagePatch ch r = true) : Becomes (.parserImagePatch ch r) s ((onChannel ch (cmdParserImagePatch ch r)) s.dev) := ran_becomes h
theorem becomes_parserPolicy (ch : Nat) (r : Req) (s : State) (h : Wf.parserPolicy ch r = true) : Becomes (.parserPolicy ch r) s ((onChannel ch (cmdParserPolicy ch r)) s.dev) := ran_becomes h
theorem becomes_parserQuery (ch : Nat) (r : Req) (s : State) (h : Wf.parserQuery ch r = true) : Becomes (.parserQuery ch r) s ((onChannel ch (cmdParserQuery ch r)) s.dev) := ran_becomes h
theorem becomes_parserPolicyQuery (ch : Nat) (r : Req) (s : State) (h : Wf.parserPolicyQuery ch r = true) : Becomes (.parserPolicyQuery ch r) s ((onChannel ch (cmdParserPolicyQuery ch r)) s.dev) := ran_becomes h
theorem becomes_classification (pipe : Nat) (ue : Option (Nat × Nat)) (s : State) (h : Wf.classification pipe ue = true) : Becomes (.classification ⟨pipe, ue⟩) s ((classification pipe ue) s.dev) := ran_becomes h
theorem becomes_extTableReadResponse (pipe : Nat) (poisoned : Bool) (s : State) (h : Wf.extTableReadResponse pipe poisoned = true) : Becomes (.extTableReadResponse pipe poisoned) s ((extTableResponse pipe poisoned) s.dev) := ran_becomes h
theorem becomes_lineRebuild (granule line : Nat) (s : State) (h : Wf.lineRebuild granule line = true) : Becomes (.lineRebuild granule line) s ((lineRebuild (4 * granule + line)) s.dev) := ran_becomes h
theorem becomes_learnEvent (pipe : Nat) (s : State) (h : Wf.learnEvent pipe = true) : Becomes (.learnEvent pipe) s ((learnEvent pipe) s.dev) := ran_becomes h
theorem becomes_flapHoldEnd (pipe segment : Nat) (mac : BitVec 48) (s : State) (h : Wf.flapHoldEnd pipe segment mac = true) : Becomes (.flapHoldEnd pipe segment mac) s ((flapHoldEnd pipe segment mac) s.dev) := ran_becomes h
theorem becomes_ageingScan (s : State) (h : Wf.ageingScan = true) : Becomes .ageingScan s (ageingScan s.dev) := ran_becomes h
theorem becomes_entrySweep (ext : Bool) (s : State) (h : Wf.entrySweep ext = true) : Becomes (.entrySweep ext) s ((entrySweep ext) s.dev) := ran_becomes h
theorem becomes_tableDefine (ch : Nat) (r : Req) (s : State) (h : Wf.tableDefine ch r = true) : Becomes (.tableDefine ch r) s ((onChannel ch (cmdTableDefine ch r)) s.dev) := ran_becomes h
theorem becomes_keyProfile (ch : Nat) (r : Req) (s : State) (h : Wf.keyProfile ch r = true) : Becomes (.keyProfile ch r) s ((onChannel ch (cmdKeyProfile ch r)) s.dev) := ran_becomes h
theorem becomes_planSet (ch : Nat) (r : Req) (s : State) (h : Wf.planSet ch r = true) : Becomes (.planSet ch r) s ((onChannel ch (cmdPlanSet ch r)) s.dev) := ran_becomes h
theorem becomes_tableInsert (ch : Nat) (r : Req) (s : State) (h : Wf.tableInsert ch r = true) : Becomes (.tableInsert ch r) s ((onChannel ch (cmdTableInsert ch r)) s.dev) := ran_becomes h
theorem becomes_tableDelete (ch : Nat) (r : Req) (s : State) (h : Wf.tableDelete ch r = true) : Becomes (.tableDelete ch r) s ((onChannel ch (cmdTableDelete ch r)) s.dev) := ran_becomes h
theorem becomes_tableLookup (ch : Nat) (r : Req) (s : State) (h : Wf.tableLookup ch r = true) : Becomes (.tableLookup ch r) s ((onChannel ch (cmdTableLookup ch r)) s.dev) := ran_becomes h
theorem becomes_segmentSet (ch : Nat) (r : Req) (s : State) (h : Wf.segmentSet ch r = true) : Becomes (.segmentSet ch r) s ((onChannel ch (cmdSegmentSet ch r)) s.dev) := ran_becomes h
theorem becomes_portBind (ch : Nat) (r : Req) (s : State) (h : Wf.portBind ch r = true) : Becomes (.portBind ch r) s ((onChannel ch (cmdPortBind ch r)) s.dev) := ran_becomes h
theorem becomes_l2Static (ch : Nat) (r : Req) (s : State) (h : Wf.l2Static ch r = true) : Becomes (.l2Static ch r) s ((onChannel ch (cmdL2Static ch r)) s.dev) := ran_becomes h
theorem becomes_routeSet (ch : Nat) (r : Req) (s : State) (h : Wf.routeSet ch r = true) : Becomes (.routeSet ch r) s ((onChannel ch (cmdRouteSet ch r)) s.dev) := ran_becomes h
theorem becomes_l2Read (ch : Nat) (r : Req) (s : State) (h : Wf.l2Read ch r = true) : Becomes (.l2Read ch r) s ((onChannel ch (cmdL2Read ch r)) s.dev) := ran_becomes h
theorem becomes_l2Flush (ch : Nat) (r : Req) (s : State) (h : Wf.l2Flush ch r = true) : Becomes (.l2Flush ch r) s ((onChannel ch (cmdL2Flush ch r)) s.dev) := ran_becomes h
theorem becomes_programDispatch (island : Nat) (s : State) (h : Wf.programDispatch island = true) : Becomes (.programDispatch island) s ((programDispatch island) s.dev) := ran_becomes h
theorem becomes_alu (t : Nat) (dst s1 s2 : BitVec 5) (func : BitVec 11) (s : State) (h : Wf.alu t dst s1 s2 func = true) : Becomes (.alu t dst s1 s2 func) s ((alu t dst s1 s2 func) s.dev) := ran_becomes h
theorem becomes_addi (t : Nat) (dst s1 : BitVec 5) (imm : BitVec 16) (s : State) (h : Wf.addi t dst s1 imm = true) : Becomes (.addi t dst s1 imm) s ((addi t dst s1 imm) s.dev) := ran_becomes h
theorem becomes_andi (t : Nat) (dst s1 : BitVec 5) (imm : BitVec 16) (s : State) (h : Wf.andi t dst s1 imm = true) : Becomes (.andi t dst s1 imm) s ((andi t dst s1 imm) s.dev) := ran_becomes h
theorem becomes_ori (t : Nat) (dst s1 : BitVec 5) (imm : BitVec 16) (s : State) (h : Wf.ori t dst s1 imm = true) : Becomes (.ori t dst s1 imm) s ((ori t dst s1 imm) s.dev) := ran_becomes h
theorem becomes_xori (t : Nat) (dst s1 : BitVec 5) (imm : BitVec 16) (s : State) (h : Wf.xori t dst s1 imm = true) : Becomes (.xori t dst s1 imm) s ((xori t dst s1 imm) s.dev) := ran_becomes h
theorem becomes_shi (t : Nat) (dst s1 : BitVec 5) (imm : BitVec 16) (s : State) (h : Wf.shi t dst s1 imm = true) : Becomes (.shi t dst s1 imm) s ((shi t dst s1 imm) s.dev) := ran_becomes h
theorem becomes_movz (t : Nat) (dst s1 : BitVec 5) (imm : BitVec 16) (s : State) (h : Wf.movz t dst s1 imm = true) : Becomes (.movz t dst s1 imm) s ((movz t dst s1 imm) s.dev) := ran_becomes h
theorem becomes_movk (t : Nat) (dst s1 : BitVec 5) (imm : BitVec 16) (s : State) (h : Wf.movk t dst s1 imm = true) : Becomes (.movk t dst s1 imm) s ((movk t dst s1 imm) s.dev) := ran_becomes h
theorem becomes_slti (t : Nat) (dst s1 : BitVec 5) (imm : BitVec 16) (s : State) (h : Wf.slti t dst s1 imm = true) : Becomes (.slti t dst s1 imm) s ((slti t dst s1 imm) s.dev) := ran_becomes h
theorem becomes_sltiu (t : Nat) (dst s1 : BitVec 5) (imm : BitVec 16) (s : State) (h : Wf.sltiu t dst s1 imm = true) : Becomes (.sltiu t dst s1 imm) s ((sltiu t dst s1 imm) s.dev) := ran_becomes h
theorem becomes_extField (t : Nat) (dst s1 : BitVec 5) (imm : BitVec 16) (s : State) (h : Wf.extField t dst s1 imm = true) : Becomes (.extField t dst s1 imm) s ((extField t dst s1 imm) s.dev) := ran_becomes h
theorem becomes_insField (t : Nat) (dst s1 : BitVec 5) (imm : BitVec 16) (s : State) (h : Wf.insField t dst s1 imm = true) : Becomes (.insField t dst s1 imm) s ((insField t dst s1 imm) s.dev) := ran_becomes h
theorem becomes_beq (t : Nat) (s1 s2 : BitVec 5) (off : BitVec 16) (s : State) (h : Wf.beq t s1 s2 off = true) : Becomes (.beq t s1 s2 off) s ((issue t (encI 0x10 s1 s2 off) (branch 0x10 t s1 s2 off)) s.dev) := ran_becomes h
theorem becomes_bne (t : Nat) (s1 s2 : BitVec 5) (off : BitVec 16) (s : State) (h : Wf.bne t s1 s2 off = true) : Becomes (.bne t s1 s2 off) s ((issue t (encI 0x11 s1 s2 off) (branch 0x11 t s1 s2 off)) s.dev) := ran_becomes h
theorem becomes_blt (t : Nat) (s1 s2 : BitVec 5) (off : BitVec 16) (s : State) (h : Wf.blt t s1 s2 off = true) : Becomes (.blt t s1 s2 off) s ((issue t (encI 0x12 s1 s2 off) (branch 0x12 t s1 s2 off)) s.dev) := ran_becomes h
theorem becomes_bge (t : Nat) (s1 s2 : BitVec 5) (off : BitVec 16) (s : State) (h : Wf.bge t s1 s2 off = true) : Becomes (.bge t s1 s2 off) s ((issue t (encI 0x13 s1 s2 off) (branch 0x13 t s1 s2 off)) s.dev) := ran_becomes h
theorem becomes_bltu (t : Nat) (s1 s2 : BitVec 5) (off : BitVec 16) (s : State) (h : Wf.bltu t s1 s2 off = true) : Becomes (.bltu t s1 s2 off) s ((issue t (encI 0x14 s1 s2 off) (branch 0x14 t s1 s2 off)) s.dev) := ran_becomes h
theorem becomes_bgeu (t : Nat) (s1 s2 : BitVec 5) (off : BitVec 16) (s : State) (h : Wf.bgeu t s1 s2 off = true) : Becomes (.bgeu t s1 s2 off) s ((issue t (encI 0x15 s1 s2 off) (branch 0x15 t s1 s2 off)) s.dev) := ran_becomes h
theorem becomes_jal (t : Nat) (dst : BitVec 5) (off : BitVec 21) (s : State) (h : Wf.jal t dst off = true) : Becomes (.jal t dst off) s ((jal t dst off) s.dev) := ran_becomes h
theorem becomes_jalr (t : Nat) (dst s1 : BitVec 5) (imm : BitVec 16) (s : State) (h : Wf.jalr t dst s1 imm = true) : Becomes (.jalr t dst s1 imm) s ((issue t (encI 0x17 dst s1 imm) (jalr t dst s1 imm)) s.dev) := ran_becomes h
theorem becomes_wfe (t : Nat) (dst s1 : BitVec 5) (imm : BitVec 16) (s : State) (h : Wf.wfe t dst s1 imm = true) : Becomes (.wfe t dst s1 imm) s ((issue t (encI 0x34 dst s1 imm) (wfe t dst imm)) s.dev) := ran_becomes h
theorem becomes_eventWake (t : Nat) (s : State) (h : Wf.eventWake t = true) : Becomes (.eventWake t) s ((wakeIf t) s.dev) := ran_becomes h
theorem becomes_evtr (t : Nat) (dst s1 : BitVec 5) (imm : BitVec 16) (s : State) (h : Wf.evtr t dst s1 imm = true) : Becomes (.evtr t dst s1 imm) s ((issue t (encI 0x35 dst s1 imm) (evtr t dst imm)) s.dev) := ran_becomes h
theorem becomes_timeRead (t : Nat) (dst s1 : BitVec 5) (imm : BitVec 16) (s : State) (h : Wf.timeRead t dst s1 imm = true) : Becomes (.timeRead t dst s1 imm) s ((timeRead t dst s1 imm) s.dev) := ran_becomes h
theorem becomes_trapInstr (t : Nat) (dst s1 : BitVec 5) (imm : BitVec 16) (s : State) (h : Wf.trapInstr t dst s1 imm = true) : Becomes (.trapInstr t dst s1 imm) s ((issue t (encI 0x37 dst s1 imm) (threadFault t 16 imm.toNat)) s.dev) := ran_becomes h
theorem becomes_ldl (t : Nat) (dst s1 : BitVec 5) (imm : BitVec 16) (s : State) (h : Wf.ldl t dst s1 imm = true) : Becomes (.ldl t dst s1 imm) s ((issue t (encI 0x18 dst s1 imm) (ldl t dst s1 imm)) s.dev) := ran_becomes h
theorem becomes_stl (t : Nat) (dst s1 : BitVec 5) (imm : BitVec 16) (s : State) (h : Wf.stl t dst s1 imm = true) : Becomes (.stl t dst s1 imm) s ((issue t (encI 0x19 dst s1 imm) (stl t dst s1 imm)) s.dev) := ran_becomes h
theorem becomes_pld (t : Nat) (dst s1 : BitVec 5) (imm : BitVec 16) (s : State) (h : Wf.pld t dst s1 imm = true) : Becomes (.pld t dst s1 imm) s ((issue t (encI 0x1A dst s1 imm) (pld t dst s1 imm)) s.dev) := ran_becomes h
theorem becomes_pst (t : Nat) (dst s1 : BitVec 5) (imm : BitVec 16) (s : State) (h : Wf.pst t dst s1 imm = true) : Becomes (.pst t dst s1 imm) s ((issue t (encI 0x1B dst s1 imm) (pst t dst s1 imm)) s.dev) := ran_becomes h
theorem becomes_ctr (t : Nat) (dst s1 : BitVec 5) (imm : BitVec 16) (s : State) (h : Wf.ctr t dst s1 imm = true) : Becomes (.ctr t dst s1 imm) s ((issue t (encI 0x1C dst s1 imm) (onHeld t (retire t dst 0) (fun p => retire t dst (ctrValue p (imm.toNat % 128))))) s.dev) := ran_becomes h
theorem becomes_tagr (t : Nat) (dst s1 : BitVec 5) (imm : BitVec 16) (s : State) (h : Wf.tagr t dst s1 imm = true) : Becomes (.tagr t dst s1 imm) s ((issue t (encI 0x1D dst s1 imm) (tagr t dst (imm.toNat % 16))) s.dev) := ran_becomes h
theorem becomes_tagw (t : Nat) (dst s1 : BitVec 5) (imm : BitVec 16) (s : State) (h : Wf.tagw t dst s1 imm = true) : Becomes (.tagw t dst s1 imm) s ((issue t (encI 0x1E dst s1 imm) (tagw t s1 (imm.toNat % 16))) s.dev) := ran_becomes h
theorem becomes_phead (t : Nat) (dst s1 : BitVec 5) (imm : BitVec 16) (s : State) (h : Wf.phead t dst s1 imm = true) : Becomes (.phead t dst s1 imm) s ((issue t (encI 0x1F dst s1 imm) (phead t imm.toInt)) s.dev) := ran_becomes h
theorem becomes_plen (t : Nat) (dst s1 : BitVec 5) (imm : BitVec 16) (s : State) (h : Wf.plen t dst s1 imm = true) : Becomes (.plen t dst s1 imm) s ((plenCmd t dst s1 imm) s.dev) := ran_becomes h
theorem becomes_pktget (t : Nat) (dst s1 : BitVec 5) (imm : BitVec 16) (s : State) (h : Wf.pktget t dst s1 imm = true) : Becomes (.pktget t dst s1 imm) s ((issue t (encI 0x21 dst s1 imm) (pktget t dst)) s.dev) := ran_becomes h
theorem becomes_pktout (t : Nat) (dst s1 : BitVec 5) (imm : BitVec 16) (s : State) (h : Wf.pktout t dst s1 imm = true) : Becomes (.pktout t dst s1 imm) s ((pktoutCmd t dst s1 imm) s.dev) := ran_becomes h
theorem becomes_pktnew (t : Nat) (dst s1 s2 : BitVec 5) (func : BitVec 11) (s : State) (h : Wf.pktnew t dst s1 s2 func = true) : Becomes (.pktnew t dst s1 s2 func) s ((pktnewCmd t dst s1 s2 func) s.dev) := ran_becomes h
theorem becomes_tlk (t : Nat) (dst s1 : BitVec 5) (imm : BitVec 16) (s : State) (h : Wf.tlk t dst s1 imm = true) : Becomes (.tlk t dst s1 imm) s ((issue t (encI 0x28 dst s1 imm) (tlk t dst s1 (imm.toNat % 16))) s.dev) := ran_becomes h
theorem becomes_sld (t : Nat) (dst s1 : BitVec 5) (imm : BitVec 16) (s : State) (h : Wf.sld t dst s1 imm = true) : Becomes (.sld t dst s1 imm) s ((issue t (encI 0x29 dst s1 imm) (sld t dst s1 imm)) s.dev) := ran_becomes h
theorem becomes_sst (t : Nat) (dst s1 : BitVec 5) (imm : BitVec 16) (s : State) (h : Wf.sst t dst s1 imm = true) : Becomes (.sst t dst s1 imm) s ((issue t (encI 0x2A dst s1 imm) (sst t dst s1 imm)) s.dev) := ran_becomes h
theorem becomes_satom (t : Nat) (dst s1 s2 : BitVec 5) (func : BitVec 11) (s : State) (h : Wf.satom t dst s1 s2 func = true) : Becomes (.satom t dst s1 s2 func) s ((issue t (encA 0x2B dst s1 s2 func) (satom t dst s1 s2 func.toNat)) s.dev) := ran_becomes h
theorem becomes_fence (t : Nat) (dst s1 : BitVec 5) (imm : BitVec 16) (s : State) (h : Wf.fence t dst s1 imm = true) : Becomes (.fence t dst s1 imm) s ((issue t (encI 0x2C dst s1 imm) (toNext t)) s.dev) := ran_becomes h
theorem becomes_stateAccessResponse (t : Nat) (poisoned : Bool) (s : State) (h : Wf.stateAccessResponse t poisoned = true) : Becomes (.stateAccessResponse t poisoned) s ((stateResponse t poisoned) s.dev) := ran_becomes h
theorem becomes_chsend (t : Nat) (dst s1 : BitVec 5) (imm : BitVec 16) (s : State) (h : Wf.chsend t dst s1 imm = true) : Becomes (.chsend t dst s1 imm) s ((issue t (encI 0x30 dst s1 imm) (chsend t dst s1 imm)) s.dev) := ran_becomes h
theorem becomes_chrecv (t : Nat) (dst s1 : BitVec 5) (imm : BitVec 16) (s : State) (h : Wf.chrecv t dst s1 imm = true) : Becomes (.chrecv t dst s1 imm) s ((issue t (encI 0x31 dst s1 imm) (chrecv t dst imm)) s.dev) := ran_becomes h
theorem becomes_groupTick (group : Nat) (s : State) (h : Wf.groupTick group = true) : Becomes (.groupTick group) s ((groupTick group) s.dev) := ran_becomes h
theorem becomes_quiescentDeadlock (core : Nat) (s : State) (h : Wf.quiescentDeadlock core = true) : Becomes (.quiescentDeadlock core) s ((quiescentDeadlock core) s.dev) := ran_becomes h
theorem becomes_packetBudgetExpiry (t : Nat) (s : State) (h : Wf.packetBudgetExpiry t = true) : Becomes (.packetBudgetExpiry t) s ((packetBudgetExpiry t) s.dev) := ran_becomes h
theorem becomes_actImageLoad (ch : Nat) (r : Req) (s : State) (h : Wf.actImageLoad ch r = true) : Becomes (.actImageLoad ch r) s ((onChannel ch (cmdActImageLoad ch r)) s.dev) := ran_becomes h
theorem becomes_actImageUnload (ch : Nat) (r : Req) (s : State) (h : Wf.actImageUnload ch r = true) : Becomes (.actImageUnload ch r) s ((onChannel ch (cmdActImageUnload ch r)) s.dev) := ran_becomes h
theorem becomes_actGroupSet (ch : Nat) (r : Req) (s : State) (h : Wf.actGroupSet ch r = true) : Becomes (.actGroupSet ch r) s ((onChannel ch (cmdActGroupSet ch r)) s.dev) := ran_becomes h
theorem becomes_actGroupQuery (ch : Nat) (r : Req) (s : State) (h : Wf.actGroupQuery ch r = true) : Becomes (.actGroupQuery ch r) s ((onChannel ch (cmdActGroupQuery ch r)) s.dev) := ran_becomes h
theorem becomes_actProgramBind (ch : Nat) (r : Req) (s : State) (h : Wf.actProgramBind ch r = true) : Becomes (.actProgramBind ch r) s ((onChannel ch (cmdActProgramBind ch r)) s.dev) := ran_becomes h
theorem becomes_actSignal (ch : Nat) (r : Req) (s : State) (h : Wf.actSignal ch r = true) : Becomes (.actSignal ch r) s ((onChannel ch (cmdActSignal ch r)) s.dev) := ran_becomes h
theorem becomes_actBindQuery (ch : Nat) (r : Req) (s : State) (h : Wf.actBindQuery ch r = true) : Becomes (.actBindQuery ch r) s ((onChannel ch (cmdActBindQuery ch r)) s.dev) := ran_becomes h
theorem becomes_tmgEnqueue (lost : Bool) (s : State) (h : Wf.tmgEnqueue lost = true) : Becomes (.tmgEnqueue lost) s ((tmgEnqueue lost) s.dev) := ran_becomes h
theorem becomes_dequeue (port : Nat) (ue : Option Nat) (s : State) (h : Wf.dequeue port ue = true) : Becomes (.dequeue port ue) s ((dequeue port ue) s.dev) := ran_becomes h
theorem becomes_schedulerPeriod (s : State) (h : Wf.schedulerPeriod = true) : Becomes .schedulerPeriod s (schedulerPeriod s.dev) := ran_becomes h
theorem becomes_queueDepthSample (s : State) (h : Wf.queueDepthSample = true) : Becomes .queueDepthSample s (queueDepthSample s.dev) := ran_becomes h
theorem becomes_tmgPortSet (ch : Nat) (r : Req) (s : State) (h : Wf.tmgPortSet ch r = true) : Becomes (.tmgPortSet ch r) s ((onChannel ch (cmdTmgPortSet ch r)) s.dev) := ran_becomes h
theorem becomes_tmgGroupSet (ch : Nat) (r : Req) (s : State) (h : Wf.tmgGroupSet ch r = true) : Becomes (.tmgGroupSet ch r) s ((onChannel ch (cmdTmgGroupSet ch r)) s.dev) := ran_becomes h
theorem becomes_tmgSliceNodeSet (ch : Nat) (r : Req) (s : State) (h : Wf.tmgSliceNodeSet ch r = true) : Becomes (.tmgSliceNodeSet ch r) s ((onChannel ch (cmdTmgSliceNodeSet ch r)) s.dev) := ran_becomes h
theorem becomes_tmgSliceLimit (ch : Nat) (r : Req) (s : State) (h : Wf.tmgSliceLimit ch r = true) : Becomes (.tmgSliceLimit ch r) s ((onChannel ch (cmdTmgSliceLimit ch r)) s.dev) := ran_becomes h
theorem becomes_tmgQueueSet (ch : Nat) (r : Req) (s : State) (h : Wf.tmgQueueSet ch r = true) : Becomes (.tmgQueueSet ch r) s ((onChannel ch (cmdTmgQueueSet ch r)) s.dev) := ran_becomes h
theorem becomes_tmgQueueStats (ch : Nat) (r : Req) (s : State) (h : Wf.tmgQueueStats ch r = true) : Becomes (.tmgQueueStats ch r) s ((onChannel ch (cmdTmgQueueStats ch r)) s.dev) := ran_becomes h
theorem becomes_tmgPolicerSet (ch : Nat) (r : Req) (s : State) (h : Wf.tmgPolicerSet ch r = true) : Becomes (.tmgPolicerSet ch r) s ((onChannel ch (cmdTmgPolicerSet ch r)) s.dev) := ran_becomes h
theorem becomes_tmgPolicerStats (ch : Nat) (r : Req) (s : State) (h : Wf.tmgPolicerStats ch r = true) : Becomes (.tmgPolicerStats ch r) s ((onChannel ch (cmdTmgPolicerStats ch r)) s.dev) := ran_becomes h
theorem becomes_tmgFloodListSet (ch : Nat) (r : Req) (s : State) (h : Wf.tmgFloodListSet ch r = true) : Becomes (.tmgFloodListSet ch r) s ((onChannel ch (cmdTmgFloodListSet ch r)) s.dev) := ran_becomes h
theorem becomes_tmgMirrorSet (ch : Nat) (r : Req) (s : State) (h : Wf.tmgMirrorSet ch r = true) : Becomes (.tmgMirrorSet ch r) s ((onChannel ch (cmdTmgMirrorSet ch r)) s.dev) := ran_becomes h
theorem becomes_linkBlockReceive (bundle : Nat) (bs : List Byte) (s : State) (h : Wf.linkBlockReceive bundle bs = true) : Becomes (.linkBlockReceive bundle bs) s ((linkBlockReceive bundle bs) s.dev) := ran_becomes h
theorem becomes_lanternReplayTimeout (bundle : Nat) (s : State) (h : Wf.lanternReplayTimeout bundle = true) : Becomes (.lanternReplayTimeout bundle) s ((lanternReplayTimeout bundle) s.dev) := ran_becomes h
theorem becomes_lanternFrameReceive (bundle : Nat) (s : State) (h : Wf.lanternFrameReceive bundle = true) : Becomes (.lanternFrameReceive bundle) s ((lanternFrameReceive bundle) s.dev) := ran_becomes h
theorem becomes_lanternFrameTransmit (bundle : Nat) (s : State) (h : Wf.lanternFrameTransmit bundle = true) : Becomes (.lanternFrameTransmit bundle) s ((lanternFrameTransmit bundle) s.dev) := ran_becomes h
theorem becomes_bundleMarkedSlow (bundle : Nat) (s : State) (h : Wf.bundleMarkedSlow bundle = true) : Becomes (.bundleMarkedSlow bundle) s ((bundleMarkedSlow bundle) s.dev) := ran_becomes h
theorem becomes_slowMarkClear (bundle : Nat) (s : State) (h : Wf.slowMarkClear bundle = true) : Becomes (.slowMarkClear bundle) s ((slowMarkClear bundle) s.dev) := ran_becomes h
theorem becomes_linkStateReceive (s : State) (h : Wf.linkStateReceive = true) : Becomes .linkStateReceive s (linkStateReceive s.dev) := ran_becomes h
theorem becomes_rerouteDiscard (node : Nat) (s : State) (h : Wf.rerouteDiscard node = true) : Becomes (.rerouteDiscard node) s ((rerouteDiscard node) s.dev) := ran_becomes h
theorem becomes_shedEvaluation (bundle u u10 : Nat) (s : State) (h : Wf.shedEvaluation bundle u u10 = true) : Becomes (.shedEvaluation bundle u u10) s ((shedEvaluation bundle u u10) s.dev) := ran_becomes h
theorem becomes_laneReceive (s : State) (h : Wf.laneReceive = true) : Becomes .laneReceive s (laneReceive s.dev) := ran_becomes h
theorem becomes_widthChange (bundle : Nat) (s : State) (h : Wf.widthChange bundle = true) : Becomes (.widthChange bundle) s ((widthChange bundle) s.dev) := ran_becomes h
theorem becomes_laneLockLoss (bundle lane : Nat) (s : State) (h : Wf.laneLockLoss bundle lane = true) : Becomes (.laneLockLoss bundle lane) s ((laneLockLoss bundle lane) s.dev) := ran_becomes h
theorem becomes_controlResendTimeout (s : State) (h : Wf.controlResendTimeout = true) : Becomes .controlResendTimeout s (controlResend s.dev) := ran_becomes h
theorem becomes_bundleLock (bundle : Nat) (lanes : BitVec 16) (peer : Nat) (s : State) (h : Wf.bundleLock bundle lanes peer = true) : Becomes (.bundleLock bundle lanes peer) s ((bundleLock bundle lanes peer) s.dev) := ran_becomes h
theorem becomes_joinReceive (s : State) (h : Wf.joinReceive = true) : Becomes .joinReceive s (joinReceiveCmd s.dev) := ran_becomes h
theorem becomes_joinRetry (bundle : Nat) (s : State) (h : Wf.joinRetry bundle = true) : Becomes (.joinRetry bundle) s ((joinRetry bundle) s.dev) := ran_becomes h
theorem becomes_heartbeatSend (bundle : Nat) (s : State) (h : Wf.heartbeatSend bundle = true) : Becomes (.heartbeatSend bundle) s ((heartbeatSend bundle) s.dev) := ran_becomes h
theorem becomes_heartbeatReceive (s : State) (h : Wf.heartbeatReceive = true) : Becomes .heartbeatReceive s (heartbeatReceiveCmd s.dev) := ran_becomes h
theorem becomes_heartbeatTimeout (bundle : Nat) (s : State) (h : Wf.heartbeatTimeout bundle = true) : Becomes (.heartbeatTimeout bundle) s ((heartbeatTimeout bundle) s.dev) := ran_becomes h
theorem becomes_reformReceive (s : State) (h : Wf.reformReceive = true) : Becomes .reformReceive s (reformReceive s.dev) := ran_becomes h
theorem becomes_topoReceive (s : State) (h : Wf.topoReceive = true) : Becomes .topoReceive s (topoReceive s.dev) := ran_becomes h
theorem becomes_reformationEnd (s : State) (h : Wf.reformationEnd = true) : Becomes .reformationEnd s (reformationEnd s.dev) := ran_becomes h
theorem becomes_startupWaitExpiry (s : State) (h : Wf.startupWaitExpiry = true) : Becomes .startupWaitExpiry s (startupWaitExpiry s.dev) := ran_becomes h
theorem becomes_paramsReceive (s : State) (h : Wf.paramsReceive = true) : Becomes .paramsReceive s (paramsReceiveCmd s.dev) := ran_becomes h
theorem becomes_stringConfig (ch : Nat) (r : Req) (s : State) (h : Wf.stringConfig ch r = true) : Becomes (.stringConfig ch r) s ((onChannel ch (cmdStringConfig ch r)) s.dev) := ran_becomes h
theorem becomes_stringQuery (ch : Nat) (r : Req) (s : State) (h : Wf.stringQuery ch r = true) : Becomes (.stringQuery ch r) s ((onChannel ch (cmdStringQuery ch r)) s.dev) := ran_becomes h
theorem becomes_stringMembers (ch : Nat) (r : Req) (s : State) (h : Wf.stringMembers ch r = true) : Becomes (.stringMembers ch r) s ((onChannel ch (cmdStringMembers ch r)) s.dev) := ran_becomes h
theorem becomes_bundleAdmin (ch : Nat) (r : Req) (s : State) (h : Wf.bundleAdmin ch r = true) : Becomes (.bundleAdmin ch r) s ((onChannel ch (cmdBundleAdmin ch r)) s.dev) := ran_becomes h
theorem becomes_bundleQuery (ch : Nat) (r : Req) (s : State) (h : Wf.bundleQuery ch r = true) : Becomes (.bundleQuery ch r) s ((onChannel ch (cmdBundleQuery ch r)) s.dev) := ran_becomes h
theorem becomes_stringTimeSteer (ch : Nat) (r : Req) (s : State) (h : Wf.stringTimeSteer ch r = true) : Becomes (.stringTimeSteer ch r) s ((onChannel ch (cmdStringTimeSteer ch r)) s.dev) := ran_becomes h
theorem becomes_stringTimeSet (ch : Nat) (r : Req) (s : State) (h : Wf.stringTimeSet ch r = true) : Becomes (.stringTimeSet ch r) s ((onChannel ch (cmdStringTimeSet ch r)) s.dev) := ran_becomes h
theorem becomes_lcpDecrypt (s : State) (h : Wf.lcpDecrypt = true) : Becomes .lcpDecrypt s (lcpDecrypt s.dev) := ran_becomes h
theorem becomes_lcpEncrypt (s : State) (h : Wf.lcpEncrypt = true) : Becomes .lcpEncrypt s (lcpEncrypt s.dev) := ran_becomes h
theorem becomes_gcmWorkRequest (requester len aad iv : Nat) (s : State) (h : Wf.gcmWorkRequest requester len aad iv = true) : Becomes (.gcmWorkRequest requester len aad iv) s ((gcmWorkRequest requester len aad iv) s.dev) := ran_becomes h
theorem becomes_storageSegmentReceive (seg : StSegment) (s : State) (h : Wf.storageSegmentReceive seg = true) : Becomes (.storageSegmentReceive seg) s ((segmentReceive seg) s.dev) := ran_becomes h
theorem becomes_nvmeCompletion (conn cid status : Nat) (cqe : List Byte) (s : State) (h : Wf.nvmeCompletion conn cid status cqe = true) : Becomes (.nvmeCompletion conn cid status cqe) s ((nvmeCompletion conn cid status cqe) s.dev) := ran_becomes h
theorem becomes_storageTransportFailure (conn cause : Nat) (s : State) (h : Wf.storageTransportFailure conn cause = true) : Becomes (.storageTransportFailure conn cause) s ((failConn conn cause) s.dev) := ran_becomes h
theorem becomes_tcpRetransmitTimeout (conn : Nat) (s : State) (h : Wf.tcpRetransmitTimeout conn = true) : Becomes (.tcpRetransmitTimeout conn) s ((tcpTimeout conn) s.dev) := ran_becomes h
theorem becomes_keepAlive (conn : Nat) (s : State) (h : Wf.keepAlive conn = true) : Becomes (.keepAlive conn) s ((keepAlive conn) s.dev) := ran_becomes h
theorem becomes_connectionCloseTimeout (conn : Nat) (s : State) (h : Wf.connectionCloseTimeout conn = true) : Becomes (.connectionCloseTimeout conn) s ((connectionCloseTimeout conn) s.dev) := ran_becomes h
theorem becomes_lcpSaSet (ch : Nat) (r : Req) (s : State) (h : Wf.lcpSaSet ch r = true) : Becomes (.lcpSaSet ch r) s ((onChannel ch (cmdLcpSaSet ch r)) s.dev) := ran_becomes h
theorem becomes_lcpSaDelete (ch : Nat) (r : Req) (s : State) (h : Wf.lcpSaDelete ch r = true) : Becomes (.lcpSaDelete ch r) s ((onChannel ch (cmdLcpSaDelete ch r)) s.dev) := ran_becomes h
theorem becomes_lcpSaQuery (ch : Nat) (r : Req) (s : State) (h : Wf.lcpSaQuery ch r = true) : Becomes (.lcpSaQuery ch r) s ((onChannel ch (cmdLcpSaQuery ch r)) s.dev) := ran_becomes h
theorem becomes_lcpQueueBind (ch : Nat) (r : Req) (s : State) (h : Wf.lcpQueueBind ch r = true) : Becomes (.lcpQueueBind ch r) s ((onChannel ch (cmdLcpQueueBind ch r)) s.dev) := ran_becomes h
theorem becomes_steKeySet (ch : Nat) (r : Req) (s : State) (h : Wf.steKeySet ch r = true) : Becomes (.steKeySet ch r) s ((onChannel ch (cmdSteKeySet ch r)) s.dev) := ran_becomes h
theorem becomes_steSessionOpen (ch : Nat) (r : Req) (s : State) (h : Wf.steSessionOpen ch r = true) : Becomes (.steSessionOpen ch r) s ((onChannel ch (cmdSteSessionOpen ch r)) s.dev) := ran_becomes h
theorem becomes_steSessionClose (ch : Nat) (r : Req) (s : State) (h : Wf.steSessionClose ch r = true) : Becomes (.steSessionClose ch r) s ((onChannel ch (cmdSteSessionClose ch r)) s.dev) := ran_becomes h
theorem becomes_steConnQuery (ch : Nat) (r : Req) (s : State) (h : Wf.steConnQuery ch r = true) : Becomes (.steConnQuery ch r) s ((onChannel ch (cmdSteConnQuery ch r)) s.dev) := ran_becomes h
theorem becomes_cryptoSliceRearm (ch : Nat) (r : Req) (s : State) (h : Wf.cryptoSliceRearm ch r = true) : Becomes (.cryptoSliceRearm ch r) s ((onChannel ch (cmdCryptoSliceRearm ch r)) s.dev) := ran_becomes h
theorem becomes_stePatchStage (ch : Nat) (r : Req) (s : State) (h : Wf.stePatchStage ch r = true) : Becomes (.stePatchStage ch r) s ((onChannel ch (cmdStePatchStage ch r)) s.dev) := ran_becomes h
theorem becomes_memRequest (requester : Nat) (q : LineAccess) (s : State) (h : Wf.memRequest requester q.line = true) : Becomes (.memRequest requester q) s ((memRequest requester q.write q.line q.entry) s.dev) := ran_becomes h
theorem becomes_memBurstComplete (chan : Nat) (ok : Bool) (s : State) (h : Wf.memBurstComplete chan ok = true) : Becomes (.memBurstComplete chan ok) s ((memBurstComplete chan ok) s.dev) := ran_becomes h
theorem becomes_arbitrationEpoch (s : State) (h : Wf.arbitrationEpoch = true) : Becomes .arbitrationEpoch s (arbitrationEpoch s.dev) := ran_becomes h
theorem becomes_rhWindowEnd (s : State) (h : Wf.rhWindowEnd = true) : Becomes .rhWindowEnd s (rhWindowEnd s.dev) := ran_becomes h
theorem becomes_retrainingStart (chan : Nat) (s : State) (h : Wf.retrainingStart chan = true) : Becomes (.retrainingStart chan) s ((retrainingStart chan) s.dev) := ran_becomes h
theorem becomes_retrainingComplete (chan : Nat) (ok : Bool) (s : State) (h : Wf.retrainingComplete chan ok = true) : Becomes (.retrainingComplete chan ok) s ((retrainingComplete chan ok) s.dev) := ran_becomes h
theorem becomes_deviceOverTemperature (dev : Nat) (s : State) (h : Wf.deviceOverTemperature dev = true) : Becomes (.deviceOverTemperature dev) s ((setHot dev true) s.dev) := ran_becomes h
theorem becomes_journalRecordWrite (typ subject : Nat) (ws : List W64) (s : State) (h : Wf.journalRecordWrite typ subject ws = true) : Becomes (.journalRecordWrite typ subject ws) s ((journalRecordWrite typ subject ws) s.dev) := ran_becomes h
theorem becomes_journalLineWriteComplete (ok overLimit : Bool) (s : State) (h : Wf.journalLineWriteComplete ok overLimit = true) : Becomes (.journalLineWriteComplete ok overLimit) s ((lineWriteComplete ok overLimit) s.dev) := ran_becomes h
theorem becomes_memQuery (ch : Nat) (r : Req) (s : State) (h : Wf.memQuery ch r = true) : Becomes (.memQuery ch r) s ((onChannel ch (cmdMemQuery ch r)) s.dev) := ran_becomes h
theorem becomes_memRetrainConfig (ch : Nat) (r : Req) (s : State) (h : Wf.memRetrainConfig ch r = true) : Becomes (.memRetrainConfig ch r) s ((onChannel ch (cmdMemRetrainConfig ch r)) s.dev) := ran_becomes h
theorem becomes_memChannelQuery (ch : Nat) (r : Req) (s : State) (h : Wf.memChannelQuery ch r = true) : Becomes (.memChannelQuery ch r) s ((onChannel ch (cmdMemChannelQuery ch r)) s.dev) := ran_becomes h
theorem becomes_jnlQuery (ch : Nat) (r : Req) (s : State) (h : Wf.jnlQuery ch r = true) : Becomes (.jnlQuery ch r) s ((onChannel ch (cmdJnlQuery ch r)) s.dev) := ran_becomes h
theorem becomes_jnlCompact (ch : Nat) (r : Req) (s : State) (h : Wf.jnlCompact ch r = true) : Becomes (.jnlCompact ch r) s ((onChannel ch (cmdJnlCompact ch r)) s.dev) := ran_becomes h
theorem becomes_powerFail (torn : Bool) (s : State) (h : Wf.powerFail torn = true) : Becomes (.powerFail torn) s ((powerFail torn) s.dev) := ran_becomes h
theorem becomes_powerFailRecovery (s : State) (h : Wf.powerFailRecovery = true) : Becomes .powerFailRecovery s (powerFailRecovery s.dev) := ran_becomes h
theorem becomes_spdmRequest (path : Nat) (kind : SpdmKind) (valid : Bool) (bs : List Byte) (s : State) (h : Wf.spdmRequest path kind valid bs = true) : Becomes (.spdmRequest path kind valid bs) s ((spdmRequest path kind valid bs) s.dev) := ran_becomes h
theorem becomes_alarmRaised (source : Nat) (s : State) (h : Wf.alarmRaised source = true) : Becomes (.alarmRaised source) s ((alarmRaised source) s.dev) := ran_becomes h
theorem becomes_alarmCleared (source : Nat) (s : State) (h : Wf.alarmCleared source = true) : Becomes (.alarmCleared source) s ((fun (s : Dev) => { s with tru := { s.tru with active := s.tru.active &&& ~~~alarmBit source } }) s.dev) := ran_becomes h
theorem becomes_candleMark (s : State) (h : Wf.candleMark = true) : Becomes .candleMark s (candleMark s.dev) := ran_becomes h
theorem becomes_periodClose (s : State) (h : Wf.periodClose = true) : Becomes .periodClose s (periodClose s.dev) := ran_becomes h
theorem becomes_candleReceive (s : State) (h : Wf.candleReceive = true) : Becomes .candleReceive s (candleReceiveCmd s.dev) := ran_becomes h
theorem becomes_candleDoneReceive (s : State) (h : Wf.candleDoneReceive = true) : Becomes .candleDoneReceive s (candleDoneReceive s.dev) := ran_becomes h
theorem becomes_meterConfig (ch : Nat) (r : Req) (s : State) (h : Wf.meterConfig ch r = true) : Becomes (.meterConfig ch r) s ((onChannel ch (cmdMeterConfig ch r)) s.dev) := ran_becomes h
theorem becomes_meterQuery (ch : Nat) (r : Req) (s : State) (h : Wf.meterQuery ch r = true) : Becomes (.meterQuery ch r) s ((onChannel ch (cmdMeterQuery ch r)) s.dev) := ran_becomes h
theorem becomes_meterRead (ch : Nat) (r : Req) (s : State) (h : Wf.meterRead ch r = true) : Becomes (.meterRead ch r) s ((onChannel ch (cmdMeterRead ch r)) s.dev) := ran_becomes h
theorem becomes_meterRelease (ch : Nat) (r : Req) (s : State) (h : Wf.meterRelease ch r = true) : Becomes (.meterRelease ch r) s ((onChannel ch (cmdMeterRelease ch r)) s.dev) := ran_becomes h
theorem becomes_meterLive (ch : Nat) (r : Req) (s : State) (h : Wf.meterLive ch r = true) : Becomes (.meterLive ch r) s ((onChannel ch (cmdMeterLive ch r)) s.dev) := ran_becomes h
theorem becomes_truQuery (ch : Nat) (r : Req) (s : State) (h : Wf.truQuery ch r = true) : Becomes (.truQuery ch r) s ((onChannel ch (cmdTruQuery ch r)) s.dev) := ran_becomes h
theorem becomes_keyEnrol (ch : Nat) (r : Req) (s : State) (h : Wf.keyEnrol ch r = true) : Becomes (.keyEnrol ch r) s ((onChannel ch (cmdKeyEnrol ch r)) s.dev) := ran_becomes h
theorem becomes_keyRevoke (ch : Nat) (r : Req) (s : State) (h : Wf.keyRevoke ch r = true) : Becomes (.keyRevoke ch r) s ((onChannel ch (cmdKeyRevoke ch r)) s.dev) := ran_becomes h
theorem becomes_certRead (ch : Nat) (r : Req) (s : State) (h : Wf.certRead ch r = true) : Becomes (.certRead ch r) s ((onChannel ch (cmdCertRead ch r)) s.dev) := ran_becomes h
theorem becomes_truZeroise (ch : Nat) (r : Req) (s : State) (h : Wf.truZeroise ch r = true) : Becomes (.truZeroise ch r) s ((onChannel ch (cmdTruZeroise ch r)) s.dev) := ran_becomes h
theorem becomes_powerOnResetRelease (mgr i2c mv : Nat) (s : State) (h : Wf.powerOnResetRelease mgr i2c mv = true) : Becomes (.powerOnResetRelease mgr i2c mv) s ((porRelease mgr i2c mv) s.dev) := ran_becomes h
theorem becomes_romStage (s : State) (h : Wf.romStage = true) : Becomes .romStage s (romStage s.dev) := ran_becomes h
theorem becomes_fwLoad (a b : ImageRead) (s : State) (h : Wf.fwLoad a b = true) : Becomes (.fwLoad a b) s ((fwLoad a b) s.dev) := ran_becomes h
theorem becomes_measureStage (rom fw ste : BitVec 384) (s : State) (h : Wf.measureStage rom fw ste = true) : Becomes (.measureStage rom fw ste) s ((measure rom fw ste) s.dev) := ran_becomes h
theorem becomes_selfTest (tru jnl : Bool) (lcp ste : Option Byte) (s : State) (h : Wf.selfTest tru jnl lcp ste = true) : Becomes (.selfTest tru jnl lcp ste) s ((selfTest tru jnl lcp ste) s.dev) := ran_becomes h
theorem becomes_trainingStage (f36 f32 f28 f24 : BitVec 48) (small : Bool) (s : State) (h : Wf.trainingStage f36 f32 f28 f24 small = true) : Becomes (.trainingStage f36 f32 f28 f24 small) s ((training [f36, f32, f28, f24] small) s.dev) := ran_becomes h
theorem becomes_replayStage (bad : Option Nat) (s : State) (h : Wf.replayStage bad = true) : Becomes (.replayStage bad) s ((replay bad) s.dev) := ran_becomes h
theorem becomes_rejoinStage (s : State) (h : Wf.rejoinStage = true) : Becomes .rejoinStage s (rejoin s.dev) := ran_becomes h
theorem becomes_readyStage (s : State) (h : Wf.readyStage = true) : Becomes .readyStage s (readyNow s.dev) := ran_becomes h
theorem becomes_traceRecordWrite (s : State) (h : Wf.traceRecordWrite = true) : Becomes .traceRecordWrite s (traceRecordWrite s.dev) := ran_becomes h
theorem becomes_traceStream (n : Nat) (bad : Option Nat) (s : State) (h : Wf.traceStream n bad = true) : Becomes (.traceStream n bad) s ((traceStream n bad) s.dev) := ran_becomes h
theorem becomes_obsStreamConsumedWrite (w : RegWrite) (s : State) (h : Wf.obsStreamConsumedWrite w = true) : Becomes (.obsStreamConsumedWrite w) s ((obsStreamConsumedWrite w) s.dev) := ran_becomes h
theorem becomes_obsTapTransaction (op : Byte) (addr : BitVec 32) (n : Nat) (s : State) (h : Wf.obsTapTransaction op addr n = true) : Becomes (.obsTapTransaction op addr n) s ((tapTransaction op addr n) s.dev) := ran_becomes h
theorem becomes_idcode (s : State) (h : Wf.idcode = true) : Becomes .idcode s ((scanSelect 0 (bitsOf 32 0x14144D9B)) s.dev) := ran_becomes h
theorem becomes_sampleTap (pins : List Bool) (s : State) (h : Wf.sampleTap pins = true) : Becomes (.sampleTap pins) s ((scanSelect 1 pins) s.dev) := ran_becomes h
theorem becomes_bypassTap (code : BitVec 6) (s : State) (h : Wf.bypassTap code = true) : Becomes (.bypassTap code) s ((scanSelect 2 [false]) s.dev) := ran_becomes h
theorem becomes_obsTraceConfig (ch : Nat) (r : Req) (s : State) (h : Wf.obsTraceConfig ch r = true) : Becomes (.obsTraceConfig ch r) s ((onChannel ch (cmdObsTraceConfig ch r)) s.dev) := ran_becomes h
theorem becomes_obsHeaderCapture (ch : Nat) (r : Req) (s : State) (h : Wf.obsHeaderCapture ch r = true) : Becomes (.obsHeaderCapture ch r) s ((onChannel ch (cmdObsHeaderCapture ch r)) s.dev) := ran_becomes h
theorem becomes_obsStream (ch : Nat) (r : Req) (s : State) (h : Wf.obsStream ch r = true) : Becomes (.obsStream ch r) s ((onChannel ch (cmdObsStream ch r)) s.dev) := ran_becomes h
theorem becomes_obsTraceRead (ch : Nat) (r : Req) (s : State) (h : Wf.obsTraceRead ch r = true) : Becomes (.obsTraceRead ch r) s ((onChannel ch (cmdObsTraceRead ch r)) s.dev) := ran_becomes h
theorem becomes_obsTapEnable (ch : Nat) (r : Req) (s : State) (h : Wf.obsTapEnable ch r = true) : Becomes (.obsTapEnable ch r) s ((onChannel ch (cmdObsTapEnable ch r)) s.dev) := ran_becomes h
theorem becomes_avsTargetAdjust (mv : Nat) (s : State) (h : Wf.avsTargetAdjust mv = true) : Becomes (.avsTargetAdjust mv) s ((avsAdjust mv) s.dev) := ran_becomes h
theorem becomes_thermAlert (celsius : Nat) (s : State) (h : Wf.thermAlert celsius = true) : Becomes (.thermAlert celsius) s ((thermAlert celsius) s.dev) := ran_becomes h
theorem becomes_thermTrip (s : State) (h : Wf.thermTrip = true) : Becomes .thermTrip s (thermTrip s.dev) := ran_becomes h
theorem becomes_powerOnResetAssert (s : State) (h : Wf.powerOnResetAssert = true) : Becomes .powerOnResetAssert s (powerOnResetAssert s.dev) := ran_becomes h
theorem becomes_temperatureReportClear (dev : Nat) (s : State) (h : Wf.temperatureReportClear dev = true) : Becomes (.temperatureReportClear dev) s ((setHot dev false) s.dev) := ran_becomes h
theorem becomes_ppsPulse (s : State) (h : Wf.ppsPulse = true) : Becomes .ppsPulse s (ppsPulse s.dev) := ran_becomes h
theorem becomes_threadCyclesCharge (t : Nat) (s : State) (h : Wf.threadCyclesCharge t = true) : Becomes (.threadCyclesCharge t) s ((threadCyclesCharge t) s.dev) := ran_becomes h

end Sys2Proof.Machine
end

