-- ==== Sys2Proof/Tests/Slice0.lean ====
section
/-! SUPPORT. The tests: ill-formed commands that are refused, command words written out from the tables, one step on small states, and
for every statement states and operands that meet its hypotheses. -/
set_option Elab.async false
namespace Sys2Proof.Tests
open Machine

/-- A state with nothing waiting. -/
def st (d : Dev) : State := { dev := d, pending := [] }

/-- A member in service: link of port 0 up, firmware up, journal and start-up ready. -/
def up : Dev :=
  { Dev.reset with
    ports := [(0, { HostPort.reset with perst := false, rrs := false, linkA := { HostLink.reset with up := true } })],
    mgt := { Mgt.reset with fwUp := true, fwVersion := 0x01000000 },
    jnl := { Jnl.reset with ready := true },
    boot := { Boot.reset with stage := 7, ready := true, porHeld := false, started := some 0 },
    mem := { Mem.reset with trained := true } }

/-- A request with these payload words, inline. -/
def rq (ws : List W64) : Req :=
  { seq := 1, indirect := false, retry := false, flagsRsv := false, payloadLen := BitVec.ofNat 16 (8 * ws.length),
    inline := ws ++ List.replicate (7 - ws.length) 0, host := ⟨true, true, true, []⟩ }

/-- A request with these payload words in a host buffer at 0x1000, of capacity 4,096. -/
def rqi (ws : List W64) : Req :=
  { seq := 1, indirect := true, retry := false, flagsRsv := false, payloadLen := BitVec.ofNat 16 (8 * ws.length),
    inline := [0x1000, 4096, 0, 0, 0, 0, 0], host := ⟨true, true, true, ws⟩ }

/-- The member once a request has been taken on a channel. -/
def tkc (ch : Nat) (sp : CmdSpec) (r : Req) (d : Dev) : Dev := takeRequest ch sp.opcode r.seq (served ch d)

/-- The member once a request has been taken on the first manager channel. -/
def tk (sp : CmdSpec) (r : Req) (d : Dev) : Dev := tkc 4096 sp r d

/-- A command under way. -/
def job (sp : CmdSpec) (ch : Nat) (r : Req) : Job := mkJob sp ch r up

theorem arrived_front {α : Type} {p : CtlBody → Option α} {m : CtlMsg} {x : α} {s t : Dev} (h1 : s.str.ctlIn = m :: s.str.ctlIn.tail)
    (h2 : p m.body = some x) (h3 : CtlBody.isLink m.body = false) (h4 : epochOlder m.hdr.epoch s.str.epoch = false)
    (h5 : ∀ e ∈ s.str.seen, e.1 = m.hdr.org → e.2.1 ≠ m.hdr.msgSeq)
    (h6 : t = { s with str := { s.str with ctlIn := s.str.ctlIn.tail, seen := (m.hdr.org, m.hdr.msgSeq, none) :: s.str.seen } }) : Arrived p m x s t :=
  ⟨[], s.str.ctlIn.tail, h1, fun _ h => absurd h List.not_mem_nil, h2, h3, h4, h5, h6⟩

theorem linkArrived_front {α : Type} {p : CtlBody → Option α} {m : CtlMsg} {x : α} {s t : Dev} (h1 : s.str.ctlIn = m :: s.str.ctlIn.tail)
    (h2 : p m.body = some x) (h3 : CtlBody.isLink m.body = true)
    (h6 : t = { s with str := { s.str with ctlIn := s.str.ctlIn.tail } }) : LinkArrived p m x s t :=
  ⟨[], s.str.ctlIn.tail, h1, fun _ h => absurd h List.not_mem_nil, h2, h3, h6⟩

/-- The member with instruction `w` at thread `t`'s PC. -/
def patchCode (t : Nat) (w : BitVec 32) (d : Dev) : Dev :=
  match d.threadGroup t with
  | none => d
  | some g => { d with act := { d.act with images := SMap.put none d.act.images g.handle (some { slice := g.slice, imageId := ((d.actImage g.handle).map ActImage.imageId).getD 0, entry := 0, code := ((List.replicate (d.thread t).pc 0 ++ [w]) ++ List.replicate 20 0) }) } }

def recd (sp : CmdSpec) (ch : Nat) (r : Req) (subject : Nat) (ws : List W64) (d : Dev) : Dev :=
  (jTake 6 subject r.payloadLen.toNat (.config sp.opcode ch r.words) (.answer (mkJob sp ch r d) .ok ws) d).getD d

def ctlAt {α : Type} (p : CtlBody → Option α) (s : Dev) : Option CtlMsg := s.str.ctlIn.find? (fun y => (p y.body).isSome)

def arr {α : Type} (_ : CtlBody → Option α) (s : Dev) : Dev :=
  match s.str.ctlIn with
  | [] => s
  | m :: rest => { s with str := { s.str with ctlIn := rest, seen := (m.hdr.org, m.hdr.msgSeq, none) :: s.str.seen } }

def larr {α : Type} (_ : CtlBody → Option α) (s : Dev) : Dev := { s with str := { s.str with ctlIn := s.str.ctlIn.tail } }

/-! ### Ill-formed commands -/

/-- For each check of a command's operands an operand just beyond it, which the check refuses. -/
theorem test_ill_formed0 : ∀ c ∈ ([
  .crossingBlockReceive 18 0 { data := List.replicate 64 1, sop := true, eop := false, validBytes := 0, kind := .packet, poison := false, seq := 0, crc := 0 },
  .crossingBlockReceive 0 18 { data := List.replicate 64 1, sop := true, eop := false, validBytes := 0, kind := .packet, poison := false, seq := 0, crc := 0 },
  .crossingBlockReceive 0 0 { data := [1], sop := true, eop := false, validBytes := 0, kind := .packet, poison := false, seq := 0, crc := 0 },
  .blockAcknowledgement 18 0 0,
  .creditReturn 0 18,
  .distributorSend 8,
  .bucketInFlightEnd 8 0,
  .bucketInFlightEnd 0 4096,
  .pipelineMarkedSlow 8,
  .distCfgWrite ⟨0, false, 0, 4, 0⟩,
  .distCfgWrite ⟨5, false, 0, 4, 0⟩,
  .distCfgWrite ⟨11, false, 0, 4, 0⟩,
  .versionQuery 4352 (rq [1]),
  .versionQuery 4096 { rq [1] with inline := [] },
  .versionDrainStart 8,
  .drainMarkerPass 17 0,
  .drainMarkerPass 0 8,
  .perstAssert 3,
  .bar4Write 3 0,
  .bar4Write 0 (2 ^ 26),
  .writeAcknowledge 3 0,
  .writeAcknowledge 0 18,
  .lowWordRead ⟨0, false, 0, 0, 8⟩ [] [],
  .lowWordRead ⟨6, false, 0, 0, 8⟩ [] [],
  .lowWordRead ⟨11, false, 0, 0, 8⟩ [] [],
  .lowWordRead ⟨31, false, 0, 0, 8⟩ [] [],
  .lowWordRead ⟨8, false, 3, 0, 8⟩ [] [],
  .lowWordRead ⟨8, false, 0, 0, 0⟩ [] [],
  .lowWordRead ⟨8, false, 0, 2 ^ 26 - 7, 8⟩ [] [],
  .lowWordRead ⟨8, false, 1, 2 ^ 28 - 7, 8⟩ [] []] : List Instr), c.wf = false := by decide +kernel

/-- For each check of a command's operands an operand just beyond it, which the check refuses. -/
theorem test_ill_formed1 : ∀ c ∈ ([
  .lowWordRead ⟨1, false, 1, 0, 8⟩ [] [],
  .lowWordRead ⟨8, false, 0, 0, 8⟩ [] [⟨8, false, 3, 0, 8⟩],
  .lowWordRead ⟨8, false, 0, 0, 8⟩ [⟨11, false, 0, 4, 0⟩] [],
  .registerWrite ⟨⟨0, false, 0, 4, 0⟩, [], []⟩,
  .registerWrite ⟨⟨8, false, 0, 4, 0⟩, [⟨5, false, 0, 4, 0⟩], []⟩,
  .configurationRequest 3 false (.read 0),
  .configurationRequest 0 false (.writeBar 6 0),
  .configurationRequest 0 false (.read 64),
  .configurationRequest 0 false (.read 2),
  .registerStallTimeout 3 0 0 true,
  .registerStallTimeout 0 18 0 true,
  .registerStallTimeout 0 0 (2 ^ 26) true,
  .mbxRequestWrite 96 true 0 0 [1],
  .mbxRequestWrite 8 true 4352 0 [1],
  .mbxRequestWrite 8 true 0 4096 [1],
  .mbxRequestWrite 8 true 4096 256 [1],
  .mbxRequestWrite 8 true 0 0 [],
  .semaphoreRead [(8, false)] 128,
  .semaphoreRead [(8, false), (19, false)] 0,
  .semaphoreRead [] 0,
  .semaphoreRelease 31 0 0 false,
  .semaphoreRelease 8 128 0 false,
  .sliceDrainMarkerPass 17 0,
  .sliceDrainMarkerPass 0 4096,
  .quiesceDrained 4096,
  .vectorMask 3 true 0 0 0,
  .vectorMask 0 true 4096 0 0,
  .vectorMask 0 true 0 64 0,
  .vectorDelayExpiry 4096 0,
  .vectorDelayExpiry 0 64] : List Instr), c.wf = false := by decide +kernel

/-- For each check of a command's operands an operand just beyond it, which the check refuses. -/
theorem test_ill_formed2 : ∀ c ∈ ([
  .producerDoorbell 3 true 0 0 8 [0],
  .producerDoorbell 0 true 4096 0 8 [0],
  .producerDoorbell 0 true 0 65536 8 [0],
  .completionConsumerDoorbell 0 true 0 64 8 [0],
  .producerDoorbell 0 true 0 0 0 [],
  .producerDoorbell 0 true 0 0 65 (List.replicate 8 0),
  .producerDoorbell 0 true 0 0 8 [],
  .descriptorFetch 96,
  .descriptorFetchComplete (2 ^ 18) [],
  .descriptorFetchComplete 0 [[1]],
  .descriptorFetchTimeout (2 ^ 18),
  .translationComplete (2 ^ 18) 0 .data none,
  .translationComplete 0 0 .data (some ⟨11, true, true⟩),
  .translationComplete 0 0 .data (some ⟨31, true, true⟩),
  .atsInvalidation 3 none 0 12 0,
  .atsInvalidation 0 none 0 11 0,
  .autonegotiationEnd 64 true,
  .linkLost 64 0,
  .linkLost 0 8,
  .ethFrameReceived 64 [] 0 true true true [],
  .ethFrameReceived 0 [] 0 true true true [(64, true)],
  .pauseFrameReceived 64 true 0 (List.replicate 8 0),
  .pauseFrameReceived 0 true 0 [],
  .pauseFrameReceived 0 true 0 (List.replicate 8 65536),
  .pauseExpiry 64 0,
  .pauseExpiry 0 8,
  .parserPass 8 [],
  .parserPass 0 [(4096, true)],
  .csWordRewrite 8 0 true,
  .csWordRewrite 0 4096 true] : List Instr), c.wf = false := by decide +kernel

/-- For each check of a command's operands an operand just beyond it, which the check refuses. -/
theorem test_ill_formed3 : ∀ c ∈ ([
  .classification ⟨8, none⟩,
  .classification ⟨0, some (16, 0)⟩,
  .lineRebuild (2 ^ 28) 0,
  .lineRebuild 0 4,
  .programDispatch 2,
  .alu 512 0 0 0 0,
  .groupTick 1024,
  .quiescentDeadlock 64,
  .dequeue 76 none,
  .dequeue 0 (some 786432),
  .linkBlockReceive 8 (List.replicate 268 0),
  .linkBlockReceive 0 [],
  .lanternReplayTimeout 8,
  .rerouteDiscard (2 ^ 20),
  .shedEvaluation 8 0 0,
  .shedEvaluation 0 101 0,
  .shedEvaluation 0 0 101,
  .laneLockLoss 8 0,
  .laneLockLoss 0 16,
  .bundleLock 8 0 0,
  .bundleLock 0 0 8,
  .gcmWorkRequest 256 0 0 0,
  .nvmeCompletion 16384 0 0 [],
  .nvmeCompletion 0 0 32768 [],
  .storageTransportFailure 16384 0x8001,
  .storageTransportFailure 0 0x8000,
  .storageTransportFailure 0 0x8005,
  .tcpRetransmitTimeout 16384,
  .memRequest 4097 ⟨true, 0, none⟩,
  .memRequest 0 ⟨true, 2 ^ 30, none⟩] : List Instr), c.wf = false := by decide +kernel

/-- For each check of a command's operands an operand just beyond it, which the check refuses. -/
theorem test_ill_formed4 : ∀ c ∈ ([
  .deviceOverTemperature 12,
  .journalRecordWrite 0 0 [],
  .journalRecordWrite 11 0 [],
  .spdmRequest 12 .version true [],
  .alarmRaised 0,
  .alarmRaised 6,
  .powerOnResetRelease 4 0 700,
  .powerOnResetRelease 0 4 700,
  .powerOnResetRelease 0 0 649,
  .powerOnResetRelease 0 0 751,
  .traceStream 0 (some 8),
  .obsTapTransaction 0 0 4097,
  .bypassTap 1,
  .bypassTap 2,
  .avsTargetAdjust 649,
  .avsTargetAdjust 751] : List Instr), c.wf = false := by decide +kernel

/-- A command with an ill-formed operand is refused under that name. -/
theorem test_ill_formed_refused : exec (.pipelineMarkedSlow 8) (st Dev.reset) = .refused .illFormed := rfl

/-! ### Words of the tables -/

/-- Table 10-18: WFE, SATOM CAS, SATOM ADD and PKTOUT FORWARD. -/
theorem test_table_10_18 : encI 0x34 1 0 0x0001 = 0xD0200001 ∧ encA 0x2B 11 4 0 2 = 0xAD640002 ∧ encA 0x2B 0 12 13 0 = 0xAC0C6800 ∧
    encI 0x22 0 14 0x0001 = 0x880E0001 := by decide +kernel

/-- The words of an instruction image carry two instructions each, the low half first (R350). -/
theorem test_image_code : imageCode [0xAD640002D0200001] = [0xD0200001, 0xAD640002] := by decide +kernel

/-- The example after Table 9-10: the entry returned at step 4 (words 0, 1 and 3, without the pipelines). -/
theorem test_l2_read_entry :
    let l : Learned := ⟨0x0140, 0x025A10003C07, 0x48, 0x00201, 37, 0x09A41, 0, 0x068C61714003, [], false, 0⟩
    (learnedWords Dev.reset l).take 3 = [0x0140025A10003C07, 0x0000000250020148, 0x0000068C61714003] := by decide +kernel

/-! ### Threads that can issue -/

/-- A thread at instruction `w` of an image. -/
def atWord (w : BitVec 32) : Dev :=
  { Dev.reset with act := { Dev.reset.act with
    images := [(2, some { slice := 0, imageId := 7, entry := 0, code := [w] })]
    groups := [(7, some ⟨0, 2, [9], [], [], 100, 1, 1000000, 0, [], [], []⟩)]
    threads := [(9, { Thread.free with state := .ready, group := 7, pc := 0 })] } }

/-- Every instruction with a legal encoding is some thread's next one in some state. -/
theorem witness_Issues (w : BitVec 32) (h : illegalInstr w = false) : Issues 9 w (atWord w) :=
  ⟨by decide, rfl, h, _, rfl, rfl⟩

/-- Words of every opcode are legal, and an undefined opcode is not. -/
theorem test_legal_words :
    ([0x00, 0x23, 0x2B].all (fun op => !illegalInstr (encA op 1 2 3 0)) &&
      ([1, 2, 3, 4, 5, 6, 7, 8, 9, 0x0A, 0x0B, 0x10, 0x11, 0x12, 0x13, 0x14, 0x15, 0x17, 0x18, 0x19, 0x1A, 0x1B, 0x1C, 0x1D, 0x1E, 0x1F, 0x20, 0x21, 0x22,
        0x28, 0x29, 0x2A, 0x2C, 0x30, 0x31, 0x34, 0x35, 0x36, 0x37].all (fun op => !illegalInstr (encI op 1 0 0))) &&
      !illegalInstr (encJ 0x16 1 5) && illegalInstr (encI 0x3F 0 0 0)) = true := by decide +kernel

/-! ### The queue -/

/-- A command waits in front of a queue of well-formed ones; and nothing waits right after reset. -/
theorem witness_FrontCommandRuns : (∃ (c : Instr) (rest : List Instr) (s : State), s.pending = c :: rest) ∧ (∃ s : State, s.pending = []) :=
  ⟨⟨.idcode, [.ppsPulse], { dev := Dev.reset, pending := [.idcode, .ppsPulse] }, rfl⟩, ⟨State.reset, rfl⟩⟩

theorem witness_QueuesRunThrough : (∃ c : Instr, c.wf = true) ∧ (∃ c : Instr, c.wf = false) ∧
    (∃ s t : State, s.fit ∧ step s = .next t) ∧ (∃ s : State, s.fit ∧ s.pending ≠ []) :=
  ⟨⟨.idcode, rfl⟩, ⟨.pipelineMarkedSlow 8, by decide⟩, ⟨State.reset, _, by decide +kernel, rfl⟩,
    ⟨{ dev := Dev.reset, pending := [.idcode, .alarmRaised 5] }, by decide +kernel, by decide⟩⟩

theorem test_reset_idle : State.reset.pending = [] := rfl

/-- The front command is taken, the others wait on. -/
theorem test_front_first : (match step { dev := Dev.reset, pending := [.idcode, .ppsPulse] } with
    | .next s => decide (s.pending = [.ppsPulse])
    | _ => false) = true := by decide +kernel

/-! ### States that meet the statements' hypotheses -/

namespace StateAtResetW

/-- States and operands that meet the hypotheses of `Obligations.StateAtReset`, one part for each of its 6 cases that have hypotheses. -/
theorem witness_StateAtReset :
    (∃ k, 1 ≤ k ∧ k < 8) ∧
    (∃ n, n ≠ 0) ∧
    (∃ m : Nat, ∃ i, m < 96 ∧ i < 18) ∧
    (∃ m : Nat, ∃ p, m < 96 ∧ p < 3) ∧
    (∃ m : Nat, ∃ p, ∃ off, m < 96 ∧ p < 3 ∧ off ∈ [0x008, 0x010, 0x018, 0x020, 0x028]) ∧
    (∃ m : Nat, ∃ e, m < 96 ∧ e ∈ ([(5, 0x038, 1 + 20 * 2 ^ 8 + 70 * 2 ^ 16 + 100 * 2 ^ 32), (5, 0x040, 3 + 2 ^ 8), (5, 0x048, 20), (6, 0x008, 1 + 100 * 2 ^ 16), (6, 0x120, 256), (6, 0x200, 3), (7, 0x200, 3), (6, 0x700, 1 + 50 * 2 ^ 16), (6, 0x710, 48 + 16 * 2 ^ 8 + 100 * 2 ^ 16), (8, 0x008, 16), (9, 0x008, 16), (10, 0x040, 7), (10, 0x048, 256 + 2 ^ 16), (11, 0x008, 4500), (12, 0x010, 8 + 200 * 2 ^ 8), (14, 0x008, 16 + 48 * 2 ^ 8), (14, 0x010, 512 + 64 * 2 ^ 16 + 1000 * 2 ^ 32), (16, 0x010, 1)] : List (Nat × Nat × Nat))) := by
  refine ⟨?_, ?_, ?_, ?_, ?_, ?_⟩
  · exact ⟨(7), by decide +kernel⟩
  · let n := 4095
    exact ⟨n, by decide +kernel⟩
  · let m : Nat := 95
    exact ⟨m, (17), by decide +kernel⟩
  · let m : Nat := 95
    exact ⟨m, (2), by decide +kernel⟩
  · let m : Nat := 95
    exact ⟨m, (2), (0x28), by decide +kernel⟩
  · let m : Nat := 95
    exact ⟨m, (((14, 0x010, 512 + 64 * 2 ^ 16 + 1000 * 2 ^ 32) : Nat × Nat × Nat)), by decide +kernel⟩

end StateAtResetW

namespace TagsAndFramesReadBackW

def lf0 : LFrame := { dest := 2 ^ 20 - 1, kind := 1, hops := 8191, tag := newTag up 4095 79 0 [], body := [1, 2, 3], from' := some (1, 0) }

/-- States and operands that meet the hypotheses of `Obligations.TagsAndFramesReadBack`, one part for each of its 3 cases that have hypotheses. -/
theorem witness_TagsAndFramesReadBack :
    (∃ f : LFrame, ∃ vc1 : Bool, f.dest < 2 ^ 20 ∧ f.kind ≤ 5 ∧ f.hops < 2 ^ 13 ∧ vc1 = decide (f.kind < 2)) ∧
    (∃ f : LFrame, ∃ vc1 : Bool, f.dest < 2 ^ 20 ∧ f.kind ≤ 5 ∧ f.hops < 2 ^ 13 ∧ vc1 ≠ decide (f.kind < 2)) ∧
    (∃ f : LFrame, ∃ g : LFrame, f.dest < 2 ^ 20 ∧ f.kind ≤ 5 ∧ f.hops < 2 ^ 13 ∧ g.dest < 2 ^ 20 ∧ g.kind ≤ 5 ∧ g.hops < 2 ^ 13 ∧ f.bytes = g.bytes) := by
  refine ⟨?_, ?_, ?_⟩
  · let f : LFrame := lf0
    let vc1 : Bool := true
    exact ⟨f, vc1, by decide +kernel⟩
  · let f : LFrame := lf0
    let vc1 : Bool := false
    exact ⟨f, vc1, by decide +kernel⟩
  · let f : LFrame := lf0
    let g : LFrame := { lf0 with from' := none }
    exact ⟨f, g, by decide +kernel⟩

end TagsAndFramesReadBackW

namespace JournalSequenceW

def rec1 (q t : Nat) : JRec := { typ := 6, seq := q, time := 0, subject := 0, lines := 2, written := 1, body := .raw [], then' := .nothing }
def jj : Jnl := { Jnl.reset with ready := true, records := [rec1 1 0, rec1 3 0], lastDurable := 3, inflight := [rec1 5 0, rec1 6 0], nextSeq := 7, highSeq := 4 }
def dj : Dev := { up with jnl := jj }

/-- States and operands that meet the hypotheses of `Obligations.JournalSequence`, one part for each of its 7 cases that have hypotheses. -/
theorem witness_JournalSequence :
    (∃ typ : Nat, ∃ subject : Nat, ∃ len : Nat, ∃ body : JBody, ∃ next : JThen, ∃ d : Dev, ∃ e : Dev, Jnl.ordered d.jnl ∧ jTake typ subject len body next d = some e) ∧
    (∃ s : State, Jnl.ordered s.dev.jnl ∧ s.dev.mgt.deviceReset = none ∧ ((∀ r ∈ s.dev.jnl.inflight, r.then' = .nothing))) ∧
    (∃ j : Jnl, Jnl.ordered j) ∧
    (∃ s : State, Jnl.ordered s.dev.jnl) ∧
    (∃ j : Jnl, Jnl.ordered j) ∧
    (∃ j : Jnl, ∃ r, Jnl.ordered j ∧ r ∈ j.records) ∧
    (∃ j : Jnl, ∃ r, ∃ rest, Jnl.ordered j ∧ j.inflight = r :: rest ∧ 0 < r.written) := by
  refine ⟨?_, ?_, ?_, ?_, ?_, ?_, ?_⟩
  · let typ : Nat := 6
    let subject : Nat := 1
    let len : Nat := 8
    let body : JBody := .raw []
    let next : JThen := .nothing
    let d : Dev := dj
    let e : Dev := (jTake 6 1 8 (.raw []) .nothing dj).getD up
    exact ⟨typ, subject, len, body, next, d, e, by delta Jnl.ordered; decide +kernel⟩
  · let ok : Bool := true
    let worn : Bool := false
    let s : State := st dj
    exact ⟨s, by delta Jnl.ordered; decide +kernel⟩
  · let n : Nat := 1
    let j : Jnl := jj
    exact ⟨j, by delta Jnl.ordered; decide +kernel⟩
  · let torn : Bool := true
    let s : State := st dj
    exact ⟨s, by delta Jnl.ordered; decide +kernel⟩
  · let j : Jnl := jj
    exact ⟨j, by delta Jnl.ordered; decide +kernel⟩
  · let j : Jnl := jj
    exact ⟨j, (rec1 3 0), by delta Jnl.ordered; decide +kernel⟩
  · let j : Jnl := jj
    exact ⟨j, (rec1 5 0), ([rec1 6 0]), by delta Jnl.ordered; decide +kernel⟩

end JournalSequenceW

namespace ObservationChangesNothingW

/-- States and operands that meet the hypotheses of `Obligations.ObservationChangesNothing`, one part for each of its 3 cases that have hypotheses. -/
theorem witness_ObservationChangesNothing :
    (∃ bad : Option Nat, ∃ s : State, ((∀ c, bad = some c → c < 8)) ∧ s.dev.obs.streamTarget ≠ 2) ∧
    (∃ n : Nat, n ≤ 4096) ∧
    (∃ c : Instr, (c = .idcode ∨ (∃ pins, c = .sampleTap pins) ∨ (∃ code : BitVec 6, code ≠ 1 ∧ code ≠ 2 ∧ c = .bypassTap code))) := by
  refine ⟨?_, ?_, ?_⟩
  · let n : Nat := 4
    let bad : Option Nat := some 3
    let s : State := st up
    exact ⟨bad, s, by decide +kernel⟩
  · let op : Byte := 0x0B
    let addr : BitVec 32 := 0x40000000
    let n : Nat := 8
    let s : State := st up
    exact ⟨n, by decide +kernel⟩
  · let c : Instr := .bypassTap 3
    let s : State := st up
    refine ⟨c, ?_⟩
    exact Or.inr (Or.inr ⟨3, by decide, by decide, rfl⟩)

end ObservationChangesNothingW

namespace CrossingsW

def blk (q : BitVec 7) : Block := { data := List.replicate 64 1, sop := true, eop := false, validBytes := 0, kind := .packet, poison := false, seq := q, crc := 0 }
theorem numbered_good (b : Block) (q : BitVec 7) : (Block.numbered b q).crc = (Block.numbered b q).goodCrc := rfl
def ch1 : Channel := { Channel.reset with unacked := [⟨blk 3, 1⟩, ⟨blk 4, 2⟩, ⟨blk 5, 0⟩], sendSeq := 6, fifo := 2, expSeq := 4 }
def dx (c : Channel) : Dev := up.setXchan 13 10 c

/-- States and operands that meet the hypotheses of `Obligations.Crossings`, one part for each of its 9 cases that have hypotheses. -/
theorem witness_Crossings :
    (∃ src : Nat, ∃ dst : Nat, ∃ seq : BitVec 7, Wf.blockAcknowledgement src dst seq = true) ∧
    (∃ src : Nat, ∃ dst : Nat, ∃ seq : BitVec 7, ∃ s : State, ∃ pre : List Unacked, ∃ post : List Unacked, ∃ u : Unacked, Wf.blockRefusal src dst seq = true ∧ (s.dev.xchan src dst).unacked = pre ++ u :: post ∧ u.block.seq = seq ∧ ((∀ x ∈ pre, x.block.seq ≠ seq)) ∧ u.resends < 3) ∧
    (∃ src : Nat, ∃ dst : Nat, ∃ seq : BitVec 7, ∃ s : State, ∃ pre : List Unacked, ∃ post : List Unacked, ∃ u : Unacked, Wf.blockRefusal src dst seq = true ∧ (s.dev.xchan src dst).unacked = pre ++ u :: post ∧ u.block.seq = seq ∧ ((∀ x ∈ pre, x.block.seq ≠ seq)) ∧ 3 ≤ u.resends ∧ u.block.poison = false) ∧
    (∃ src : Nat, ∃ dst : Nat, ∃ s : State, Wf.creditReturn src dst = true ∧ 3 ≤ src ∧ dst ≠ isl.PIPA ∧ dst ≠ isl.PIPB ∧ 0 < (s.dev.xchan src dst).fifo ∧ (let c := s.dev.xchan src dst; c.queue = [])) ∧
    (∃ src : Nat, ∃ dst : Nat, ∃ s : State, ∃ b, ∃ rest, Wf.creditReturn src dst = true ∧ 3 ≤ src ∧ dst ≠ isl.PIPA ∧ dst ≠ isl.PIPB ∧ 0 < (s.dev.xchan src dst).fifo ∧ (let c := s.dev.xchan src dst; c.queue = b :: rest)) ∧
    (∃ t : Tag, ∃ bs : List Byte, ∃ b, b ∈ packetBlocks t bs) ∧
    (∃ src : Nat, ∃ dst : Nat, ∃ b : Block, ∃ s : State, Wf.crossingBlockReceive src dst b = true ∧ (let c := s.dev.xchan src dst; b.crc = b.goodCrc ∧ b.seq = c.expSeq ∧ b.kind = .packet ∧ b.eop = false ∧ b.poison = false)) ∧
    (∃ src : Nat, ∃ dst : Nat, ∃ b : Block, ∃ s : State, Wf.crossingBlockReceive src dst b = true ∧ (let c := s.dev.xchan src dst; (¬ (b.crc = b.goodCrc ∧ b.seq = c.expSeq)) ∧ ((c.discarding = false ∨ b.seq = c.expSeq)))) ∧
    (∃ src : Nat, ∃ dst : Nat, ∃ b : Block, ∃ s : State, Wf.crossingBlockReceive src dst b = true ∧ (let c := s.dev.xchan src dst; b.seq ≠ c.expSeq ∧ c.discarding = true)) := by
  refine ⟨?_, ?_, ?_, ?_, ?_, ?_, ?_, ?_, ?_⟩
  · let src : Nat := 13
    let dst : Nat := 10
    let seq : BitVec 7 := 4
    let s : State := st (dx ch1)
    exact ⟨src, dst, seq, by decide +kernel⟩
  · let src : Nat := 13
    let dst : Nat := 10
    let seq : BitVec 7 := 4
    let s : State := st (dx ch1)
    let pre : List Unacked := [⟨blk 3, 1⟩]
    let post : List Unacked := [⟨blk 5, 0⟩]
    let u : Unacked := ⟨blk 4, 2⟩
    exact ⟨src, dst, seq, s, pre, post, u, by decide +kernel⟩
  · let src : Nat := 13
    let dst : Nat := 10
    let seq : BitVec 7 := 4
    let s : State := st (dx { ch1 with unacked := [⟨blk 3, 1⟩, ⟨blk 4, 3⟩, ⟨blk 5, 0⟩] })
    let pre : List Unacked := [⟨blk 3, 1⟩]
    let post : List Unacked := [⟨blk 5, 0⟩]
    let u : Unacked := ⟨blk 4, 3⟩
    exact ⟨src, dst, seq, s, pre, post, u, by decide +kernel⟩
  · let src : Nat := 13
    let dst : Nat := 10
    let s : State := st (dx ch1)
    exact ⟨src, dst, s, by decide +kernel⟩
  · let src : Nat := 13
    let dst : Nat := 10
    let s : State := st (dx { ch1 with queue := [blk 0, blk 0] })
    exact ⟨src, dst, s, (blk 0), ([blk 0]), by decide +kernel⟩
  · let t : Tag := newTag up 3 7 0 [1]
    let bs : List Byte := [1]
    have h : packetBlocks t bs ≠ [] := by decide +kernel
    exact ⟨t, bs, _, List.head_mem h⟩
  · let src : Nat := 13
    let dst : Nat := 10
    let b : Block := Block.numbered (blk 0) 4
    let s : State := st (dx { ch1 with queue := [blk 0, blk 0] })
    refine ⟨src, dst, b, s, ?_⟩
    exact ⟨by decide +kernel, numbered_good _ _, by decide +kernel⟩
  · let src : Nat := 13
    let dst : Nat := 10
    let b : Block := blk 9
    let s : State := st (dx { ch1 with queue := [blk 0, blk 0] })
    refine ⟨src, dst, b, s, ?_⟩
    exact ⟨by decide +kernel, (fun h => absurd h.2 (by decide +kernel)), by decide +kernel⟩
  · let src : Nat := 13
    let dst : Nat := 10
    let b : Block := blk 9
    let s : State := st (dx { ch1 with discarding := true })
    exact ⟨src, dst, b, s, by decide +kernel⟩

end CrossingsW

namespace DistributorsW

def pk (sl : BitVec 12) (bs : List Byte) : Pkt := Pkt.fresh (newTag up sl 0 0 bs) bs
def dd (f : Fabric → Fabric) : State := st { up with fabric := f up.fabric }

/-- States and operands that meet the hypotheses of `Obligations.Distributors`, one part for each of its 10 cases that have hypotheses. -/
theorem witness_Distributors :
    (∃ n : Nat, ∃ p : Pkt, ∃ rest : List Pkt, ∃ s : State, Wf.distributorSend n = true ∧ s.dev.distInbox n = p :: rest ∧ p.tag.flag 1 = false ∧ (let b := p.tag.flowHash.toNat % 4096; let x := s.dev.bucket n b; x.target = x.pipeline)) ∧
    (∃ n : Nat, ∃ b : Nat, ∃ s : State, Wf.bucketInFlightEnd n b = true ∧ (n, b) ∈ s.dev.fabric.ended ∧ (let x := s.dev.bucket n b; 0 < x.inflight ∧ (let less := { x with inflight := x.inflight - 1 }; moveDue s.dev less = false))) ∧
    (∃ n : Nat, ∃ b : Nat, ∃ s : State, Wf.bucketInFlightEnd n b = true ∧ (n, b) ∈ s.dev.fabric.ended ∧ (let x := s.dev.bucket n b; 0 < x.inflight ∧ x.held = [] ∧ x.inflight = 1 ∧ x.target ≠ x.pipeline ∧ 2 ≤ s.dev.healthy.length ∧ s.dev.flowletGap ≤ Time.since s.dev.now x.lastSeen)) ∧
    (∃ n : Nat, ∃ b : Nat, ∃ s : State, Wf.bucketInFlightEnd n b = true ∧ (n, b) ∈ s.dev.fabric.ended ∧ (let x := s.dev.bucket n b; 0 < x.inflight ∧ x.held ≠ [] ∧ x.inflight = 1 ∧ x.target ≠ x.pipeline)) ∧
    (∃ w : RegWrite, Wf.distCfgWrite w = true ∧ w.master < 8 ∧ w.off = 0x3700 ∧ w.len = 8 ∧ (let gap := fld w.value 25 16; (1 ≤ gap ∧ gap ≤ 1000))) ∧
    (∃ w : RegWrite, Wf.distCfgWrite w = true ∧ w.master < 8 ∧ w.off = 0x3700 ∧ w.len = 8 ∧ (let gap := fld w.value 25 16; (¬ (1 ≤ gap ∧ gap ≤ 1000)))) ∧
    (∃ k : Nat, ∃ s : State, Wf.pipelineMarkedSlow k = true ∧ boundDue .fifoSample isl.PIPA s.dev = false ∧ (let high := s.dev.regField isl.PIPA 0x710 5 0; s.dev.regField isl.PIPA 0x700 0 0 = 1 ∧ s.dev.fabric.slow.getLsbD k = false ∧ high ≤ s.dev.fill k ∧ (s.dev.healthy.filter (fun j => j != k)).length ≥ 2)) ∧
    (∃ k : Nat, ∃ s : State, Wf.pipelineMarkedSlow k = true ∧ boundDue .fifoSample isl.PIPA s.dev = false ∧ (let low := s.dev.regField isl.PIPA 0x710 13 8; s.dev.fabric.slow.getLsbD k = true ∧ s.dev.fill k ≤ low)) ∧
    (∃ k : Nat, ∃ s : State, Wf.pipelineMarkedSlow k = true ∧ boundDue .fifoSample isl.PIPA s.dev = false ∧ (let high := s.dev.regField isl.PIPA 0x710 5 0; s.dev.fill k < high)) ∧
    (∃ k : Nat, ∃ s : State, Wf.pipelineMarkedSlow k = true ∧ boundDue .fifoSample isl.PIPA s.dev = false ∧ (let low := s.dev.regField isl.PIPA 0x710 13 8; low < s.dev.fill k)) := by
  refine ⟨?_, ?_, ?_, ?_, ?_, ?_, ?_, ?_, ?_, ?_⟩
  · let n : Nat := 3
    let p : Pkt := pk 5 [1]
    let rest : List Pkt := [pk 6 [2]]
    let s : State := st (up.setDistInbox 3 [pk 5 [1], pk 6 [2]])
    exact ⟨n, p, rest, s, by decide +kernel⟩
  · let n : Nat := 7
    let b : Nat := 4095
    let s : State := dd (fun f => { f with ended := [(7, 4095)], buckets := [(32767, { Bucket.home 4095 with inflight := 1 })] })
    exact ⟨n, b, s, by decide +kernel⟩
  · let n : Nat := 7
    let b : Nat := 4095
    let s : State := st ((fun d : Dev => { d with now := 1000000000, fabric := { d.fabric with ended := [(7, 4095)], buckets := [(32767, { Bucket.home 4095 with inflight := 1, target := 2 })] } }) up)
    let d := { s.dev with fabric := { s.dev.fabric with ended := s.dev.fabric.ended.erase (n, b) } }
    exact ⟨n, b, s, by decide +kernel⟩
  · let n : Nat := 7
    let b : Nat := 4095
    let s : State := dd (fun f => { f with ended := [(7, 4095)], buckets := [(32767, { Bucket.home 4095 with inflight := 1, held := [pk 5 [1]], target := 2 })] })
    exact ⟨n, b, s, by decide +kernel⟩
  · let w : RegWrite := ⟨1, false, 0x3700, 8, 1000 * 65536⟩
    let s : State := st up
    exact ⟨w, by decide +kernel⟩
  · let w : RegWrite := ⟨1, false, 0x3700, 8, 1001 * 65536⟩
    let s : State := st up
    exact ⟨w, by decide +kernel⟩
  · let k : Nat := 7
    let s : State := st (up.setPipe 7 { Pipeline.reset with input := List.replicate 48 (pk 5 [1]) })
    exact ⟨k, s, by decide +kernel⟩
  · let k : Nat := 7
    let s : State := dd (fun f => { f with slow := 0x80, buckets := [(7, { Bucket.home 7 with pipeline := 2, target := 2 })] })
    exact ⟨k, s, by decide +kernel⟩
  · let k : Nat := 3
    let s : State := st up
    exact ⟨k, s, by decide +kernel⟩
  · let k : Nat := 7
    let s : State := st (up.setPipe 7 { Pipeline.reset with input := List.replicate 48 (pk 5 [1]) })
    exact ⟨k, s, by decide +kernel⟩

end DistributorsW

namespace BuildsAndVersionQueryW

def us (f : StringSt → StringSt) : Dev := { up with str := f up.str }
def us' (f : StringSt → StringSt) (d : Dev) : Dev := { d with str := f d.str }
def nl : Dev := us (fun x => { x with partition := 2 })
def bld (v : Version) : Slot := { Slot.free with state := .building, version := v }
def drg (v : Version) : Slot := { Slot.free with state := .draining, version := v }

/-- States and operands that meet the hypotheses of `Obligations.BuildsAndVersionQuery`, one part for each of its 11 cases that have hypotheses. -/
theorem witness_BuildsAndVersionQuery :
    (∃ ch : Nat, ∃ r : Req, ∃ s : State, ∃ d : Dev, Wf.versionQuery ch r = true ∧ Accepted spec0500 ch r s.dev d) ∧
    (∃ ch : Nat, ∃ r : Req, ∃ s : State, ∃ d : Dev, cmdWf ch r = true ∧ d.nonLead = true ∧ Accepted spec0501 ch r s.dev d) ∧
    (∃ ch : Nat, ∃ r : Req, ∃ s : State, ∃ d : Dev, cmdWf ch r = true ∧ Accepted spec0501 ch r s.dev d ∧ (let base : Version := BitVec.ofNat 32 (fld (r.word 0) 31 0); let v := base + 1; let k := v.toNat % 8; d.nonLead = false ∧ ((d.activeSlot = none ∨ d.activeVersion ≠ base ∨ d.slotIn .building ≠ none ∨ d.slotIn .prepared ≠ none ∨ (d.slot k).state ≠ .draining ∧ d.str.held ≠ none)))) ∧
    (∃ ch : Nat, ∃ r : Req, ∃ s : State, ∃ d : Dev, ∃ a, cmdWf ch r = true ∧ Accepted spec0501 ch r s.dev d ∧ (let base : Version := BitVec.ofNat 32 (fld (r.word 0) 31 0); let v := base + 1; let k := v.toNat % 8; d.nonLead = false ∧ d.activeSlot = some a ∧ (d.slot a).version = base ∧ d.slotIn .building = none ∧ d.slotIn .prepared = none ∧ (d.slot k).state = .draining ∧ (bit (r.word 0) 32 = false ∨ d.str.buildWait ≠ none))) ∧
    (∃ ch : Nat, ∃ r : Req, ∃ s : State, ∃ d : Dev, ∃ a, cmdWf ch r = true ∧ Accepted spec0501 ch r s.dev d ∧ (let base : Version := BitVec.ofNat 32 (fld (r.word 0) 31 0); let v := base + 1; let k := v.toNat % 8; d.nonLead = false ∧ d.activeSlot = some a ∧ (d.slot a).version = base ∧ d.slotIn .building = none ∧ d.slotIn .prepared = none ∧ (d.slot k).state = .draining ∧ bit (r.word 0) 32 = true ∧ d.str.buildWait = none)) ∧
    (∃ ch : Nat, ∃ r : Req, ∃ s : State, ∃ d : Dev, ∃ a, cmdWf ch r = true ∧ Accepted spec0501 ch r s.dev d ∧ (let base : Version := BitVec.ofNat 32 (fld (r.word 0) 31 0); let v := base + 1; let k := v.toNat % 8; d.nonLead = false ∧ d.activeSlot = some a ∧ (d.slot a).version = base ∧ d.slotIn .building = none ∧ d.slotIn .prepared = none ∧ (d.slot k).state ≠ .draining ∧ d.str.held = none)) ∧
    (∃ ch : Nat, ∃ r : Req, ∃ s : State, ∃ d : Dev, cmdWf ch r = true ∧ Accepted spec0503 ch r s.dev d ∧ (let v : Version := BitVec.ofNat 32 (fld (r.word 0) 31 0); d.buildSlot v = none ∧ d.committing v = false)) ∧
    (∃ ch : Nat, ∃ r : Req, ∃ s : State, ∃ d : Dev, cmdWf ch r = true ∧ Accepted spec0503 ch r s.dev d ∧ (let v : Version := BitVec.ofNat 32 (fld (r.word 0) 31 0); d.committing v = true)) ∧
    (∃ ch : Nat, ∃ r : Req, ∃ s : State, ∃ d : Dev, ∃ k, cmdWf ch r = true ∧ Accepted spec0503 ch r s.dev d ∧ (let v : Version := BitVec.ofNat 32 (fld (r.word 0) 31 0); d.buildSlot v = some k ∧ d.committing v = false)) ∧
    (∃ ch : Nat, ∃ r : Req, ∃ s : State, ∃ d : Dev, ∃ k, cmdWf ch r = true ∧ Accepted spec0503 ch r s.dev d ∧ (let v : Version := BitVec.ofNat 32 (fld (r.word 0) 31 0); d.buildSlot v = some k ∧ d.committing v = false ∧ d.str.held = none)) ∧
    (∃ ch : Nat, ∃ r : Req, ∃ s : State, ∃ d : Dev, ∃ k, ∃ j, cmdWf ch r = true ∧ Accepted spec0503 ch r s.dev d ∧ (let v : Version := BitVec.ofNat 32 (fld (r.word 0) 31 0); d.buildSlot v = some k ∧ d.committing v = false ∧ j ≠ k)) := by
  refine ⟨?_, ?_, ?_, ?_, ?_, ?_, ?_, ?_, ?_, ?_, ?_⟩
  · let ch : Nat := 4096
    let r : Req := rqi []
    let s : State := st up
    let d : Dev := tk spec0500 r s.dev
    exact ⟨ch, r, s, d, by decide +kernel, ⟨(by decide +kernel), (by decide +kernel), rfl, (by decide +kernel)⟩⟩
  · let ch : Nat := 4096
    let r : Req := rq [0]
    let s : State := st nl
    let d : Dev := tk spec0501 r s.dev
    exact ⟨ch, r, s, d, by decide +kernel, by decide +kernel, ⟨(by decide +kernel), (by decide +kernel), rfl, (by decide +kernel)⟩⟩
  · let ch : Nat := 4096
    let r : Req := rq [3]
    let s : State := st up
    let d : Dev := tk spec0501 r s.dev
    exact ⟨ch, r, s, d, by decide +kernel, ⟨(by decide +kernel), (by decide +kernel), rfl, (by decide +kernel)⟩, by decide +kernel⟩
  · let ch : Nat := 4096
    let r : Req := rq [0]
    let s : State := st (up.setSlot 1 (drg 7))
    let d : Dev := tk spec0501 r s.dev
    exact ⟨ch, r, s, d, (0), by decide +kernel, ⟨(by decide +kernel), (by decide +kernel), rfl, (by decide +kernel)⟩, by decide +kernel⟩
  · let ch : Nat := 4096
    let r : Req := rq [0x100000000]
    let s : State := st (up.setSlot 1 (drg 7))
    let d : Dev := tk spec0501 r s.dev
    exact ⟨ch, r, s, d, (0), by decide +kernel, ⟨(by decide +kernel), (by decide +kernel), rfl, (by decide +kernel)⟩, by decide +kernel⟩
  · let ch : Nat := 4096
    let r : Req := rq [0]
    let s : State := st up
    let d : Dev := tk spec0501 r s.dev
    exact ⟨ch, r, s, d, (0), by decide +kernel, ⟨(by decide +kernel), (by decide +kernel), rfl, (by decide +kernel)⟩, by decide +kernel⟩
  · let ch : Nat := 4096
    let r : Req := rq [1]
    let s : State := st up
    let d : Dev := tk spec0503 r s.dev
    exact ⟨ch, r, s, d, by decide +kernel, ⟨(by decide +kernel), (by decide +kernel), rfl, (by decide +kernel)⟩, by decide +kernel⟩
  · let ch : Nat := 4096
    let r : Req := rq [1]
    let s : State := st (us (fun x => {x with commit := some { version := 1, stage := .token, acked := [], latest := 0, failed := none, tAct := 0, rollForward := false, job := none } }))
    let d : Dev := tk spec0503 r s.dev
    exact ⟨ch, r, s, d, by decide +kernel, ⟨(by decide +kernel), (by decide +kernel), rfl, (by decide +kernel)⟩, by decide +kernel⟩
  · let ch : Nat := 4096
    let r : Req := rq [1]
    let s : State := st (up.setSlot 1 (bld 1))
    let d : Dev := tk spec0503 r s.dev
    exact ⟨ch, r, s, d, (1), by decide +kernel, ⟨(by decide +kernel), (by decide +kernel), rfl, (by decide +kernel)⟩, by decide +kernel⟩
  · let ch : Nat := 4096
    let r : Req := rq [1]
    let s : State := st (up.setSlot 1 (bld 1))
    let d : Dev := tk spec0503 r s.dev
    exact ⟨ch, r, s, d, (1), by decide +kernel, ⟨(by decide +kernel), (by decide +kernel), rfl, (by decide +kernel)⟩, by decide +kernel⟩
  · let ch : Nat := 4096
    let r : Req := rq [1]
    let s : State := st (up.setSlot 1 (bld 1))
    let d : Dev := tk spec0503 r s.dev
    exact ⟨ch, r, s, d, (1), (2), by decide +kernel, ⟨(by decide +kernel), (by decide +kernel), rfl, (by decide +kernel)⟩, by decide +kernel⟩

end BuildsAndVersionQueryW

namespace CommitsAndTheTokenW

def us (f : StringSt → StringSt) : Dev := { up with str := f up.str }
def bld (v : Version) : Slot := { Slot.free with state := .building, version := v }
def cm (v : Version) (st : CommitStage) : Commit := { version := v, stage := st, acked := [], latest := 0, failed := none, tAct := 0, rollForward := false, job := none }
def onStr (f : StringSt → StringSt) (d : Dev) : Dev := { d with str := f d.str }
def b1 : Dev := up.setSlot 1 (bld 1)
def lead5 : StringSt → StringSt := fun x => { x with node := 3, lead := 5, state := .settled, members := [3, 5] }
def msg (b : CtlBody) : CtlMsg := { bundle := 2, hdr := ⟨5, 0, 9⟩, body := b }
def img : Image := { imageId := 1, patch := 0, keySlot := 2, baseSeg := 0, words := [], entries := [], entryValid := 0, digest := 0, raw := [] }

/-- States and operands that meet the hypotheses of `Obligations.CommitsAndTheToken`, one part for each of its 17 cases that have hypotheses; in 4 parts a hypothesis is left out that rests on an opaque value of Config or on a table too large to evaluate. -/
theorem witness_CommitsAndTheToken :
    (∃ ch : Nat, ∃ r : Req, ∃ s : State, ∃ d : Dev, Wf.versionCommit ch r = true ∧ d.nonLead = true ∧ Accepted spec0502 ch r s.dev d) ∧
    (∃ ch : Nat, ∃ r : Req, ∃ s : State, ∃ d : Dev, ∃ a, Wf.versionCommit ch r = true ∧ Accepted spec0502 ch r s.dev d ∧ (let v : Version := BitVec.ofNat 32 (fld (r.word 0) 31 0); d.nonLead = false ∧ d.activeSlot = some a ∧ (d.slot a).version = v)) ∧
    (∃ ch : Nat, ∃ r : Req, ∃ s : State, ∃ d : Dev, Wf.versionCommit ch r = true ∧ Accepted spec0502 ch r s.dev d ∧ (let v : Version := BitVec.ofNat 32 (fld (r.word 0) 31 0); d.nonLead = false ∧ (¬ (d.activeSlot.isSome = true ∧ d.activeVersion = v)) ∧ d.buildSlot v = none ∧ d.committing v = false)) ∧
    (∃ ch : Nat, ∃ r : Req, ∃ s : State, ∃ d : Dev, Wf.versionCommit ch r = true ∧ Accepted spec0502 ch r s.dev d ∧ (let v : Version := BitVec.ofNat 32 (fld (r.word 0) 31 0); d.nonLead = false ∧ (¬ (d.activeSlot.isSome = true ∧ d.activeVersion = v)) ∧ d.buildSlot v = none ∧ d.committing v = true)) ∧
    (∃ ch : Nat, ∃ r : Req, ∃ s : State, ∃ d : Dev, ∃ k, Wf.versionCommit ch r = true ∧ Accepted spec0502 ch r s.dev d ∧ (let v : Version := BitVec.ofNat 32 (fld (r.word 0) 31 0); d.nonLead = false ∧ (¬ (d.activeSlot.isSome = true ∧ d.activeVersion = v)) ∧ d.buildSlot v = some k ∧ (let executes := (∃ c, d.str.commit = some c ∧ c.job ≠ none) ∨ d.str.nextCommit ≠ none ∨ d.str.jobWait ≠ none; (executes ∨ d.str.starting = true)))) ∧
    (∃ ch : Nat, ∃ r : Req, ∃ s : State, ∃ d : Dev, ∃ k, Wf.versionCommit ch r = true ∧ Accepted spec0502 ch r s.dev d ∧ (let v : Version := BitVec.ofNat 32 (fld (r.word 0) 31 0); d.nonLead = false ∧ (¬ (d.activeSlot.isSome = true ∧ d.activeVersion = v)) ∧ d.buildSlot v = some k ∧ (let executes := (∃ c, d.str.commit = some c ∧ c.job ≠ none) ∨ d.str.nextCommit ≠ none ∨ d.str.jobWait ≠ none; ¬ executes ∧ d.str.starting = false ∧ buildConsistent d k = false))) ∧
    (∃ ch : Nat, ∃ r : Req, ∃ s : State, ∃ d : Dev, ∃ k, Wf.versionCommit ch r = true ∧ Accepted spec0502 ch r s.dev d ∧ (let v : Version := BitVec.ofNat 32 (fld (r.word 0) 31 0); d.nonLead = false ∧ (¬ (d.activeSlot.isSome = true ∧ d.activeVersion = v)) ∧ d.buildSlot v = some k ∧ (let executes := (∃ c, d.str.commit = some c ∧ c.job ≠ none) ∨ d.str.nextCommit ≠ none ∨ d.str.jobWait ≠ none; ¬ executes ∧ d.str.starting = false ∧ buildConsistent d k = true ∧ buildAuthentic d k = false))) ∧
    (∃ ch : Nat, ∃ r : Req, ∃ s : State, ∃ d : Dev, ∃ k, Wf.versionCommit ch r = true ∧ Accepted spec0502 ch r s.dev d ∧ (let v : Version := BitVec.ofNat 32 (fld (r.word 0) 31 0); d.nonLead = false ∧ (¬ (d.activeSlot.isSome = true ∧ d.activeVersion = v)) ∧ d.buildSlot v = some k ∧ (let executes := (∃ c, d.str.commit = some c ∧ c.job ≠ none) ∨ d.str.nextCommit ≠ none ∨ d.str.jobWait ≠ none; ¬ executes ∧ d.str.starting = false ∧ buildConsistent d k = true ∧ buildAuthentic d k = true ∧ buildFits d k = false))) ∧
    (∃ ch : Nat, ∃ r : Req, ∃ s : State, ∃ d : Dev, ∃ k, Wf.versionCommit ch r = true ∧ Accepted spec0502 ch r s.dev d ∧ (let v : Version := BitVec.ofNat 32 (fld (r.word 0) 31 0); d.nonLead = false ∧ (¬ (d.activeSlot.isSome = true ∧ d.activeVersion = v)) ∧ d.buildSlot v = some k ∧ (let executes := (∃ c, d.str.commit = some c ∧ c.job ≠ none) ∨ d.str.nextCommit ≠ none ∨ d.str.jobWait ≠ none; ¬ executes ∧ d.str.starting = false ∧ buildConsistent d k = true ∧ buildAuthentic d k = true ∧ buildFits d k = true ∧ Jnl.takes d.jnl 1 (buildLines d) = false))) ∧
    (∃ ch : Nat, ∃ r : Req, ∃ s : State, ∃ d : Dev, ∃ k, Wf.versionCommit ch r = true ∧ Accepted spec0502 ch r s.dev d ∧ (let v : Version := BitVec.ofNat 32 (fld (r.word 0) 31 0); d.nonLead = false ∧ (¬ (d.activeSlot.isSome = true ∧ d.activeVersion = v)) ∧ d.buildSlot v = some k ∧ (let executes := (∃ c, d.str.commit = some c ∧ c.job ≠ none) ∨ d.str.nextCommit ≠ none ∨ d.str.jobWait ≠ none; ¬ executes ∧ d.str.starting = false ∧ buildConsistent d k = true ∧ buildAuthentic d k = true ∧ d.str.commit = none))) ∧
    (∃ ch : Nat, ∃ r : Req, ∃ s : State, ∃ d : Dev, ∃ k, Wf.versionCommit ch r = true ∧ Accepted spec0502 ch r s.dev d ∧ (let v : Version := BitVec.ofNat 32 (fld (r.word 0) 31 0); d.nonLead = false ∧ (¬ (d.activeSlot.isSome = true ∧ d.activeVersion = v)) ∧ d.buildSlot v = some k ∧ (let executes := (∃ c, d.str.commit = some c ∧ c.job ≠ none) ∨ d.str.nextCommit ≠ none ∨ d.str.jobWait ≠ none; ¬ executes ∧ d.str.starting = false ∧ buildConsistent d k = true ∧ buildAuthentic d k = true ∧ buildFits d k = true ∧ d.str.commit = none ∧ d.isLead = false ∧ d.str.tokenAsked = false))) ∧
    (∃ ch : Nat, ∃ r : Req, ∃ s : State, ∃ d : Dev, ∃ k, Wf.versionCommit ch r = true ∧ Accepted spec0502 ch r s.dev d ∧ (let v : Version := BitVec.ofNat 32 (fld (r.word 0) 31 0); d.nonLead = false ∧ (¬ (d.activeSlot.isSome = true ∧ d.activeVersion = v)) ∧ d.buildSlot v = some k ∧ (let executes := (∃ c, d.str.commit = some c ∧ c.job ≠ none) ∨ d.str.nextCommit ≠ none ∨ d.str.jobWait ≠ none; ¬ executes ∧ d.str.starting = false ∧ buildConsistent d k = true ∧ buildAuthentic d k = true ∧ d.str.commit ≠ none))) ∧
    (∃ m : CtlMsg, ∃ s : State, ∃ t : Dev, t.isLead = true ∧ t.str.tokenQueue.any (fun h => h.org == m.hdr.org) = false ∧ (t.nonLead = true ∨ t.str.holder ≠ none) ∧ Arrived isTokenReq m () s.dev t) ∧
    (∃ m : CtlMsg, ∃ s : State, ∃ t : Dev, t.isLead = true ∧ t.str.tokenQueue.any (fun h => h.org == m.hdr.org) = false ∧ t.nonLead = false ∧ t.str.holder = none ∧ t.str.tokenQueue = [] ∧ m.hdr.org ≠ t.str.node ∧ Arrived isTokenReq m () s.dev t) ∧
    (∃ m : CtlMsg, ∃ q : BitVec 32, ∃ s : State, ∃ t : Dev, t.isLead = false ∧ t.str.commit = none ∧ Arrived isTokenGrant m q s.dev t) ∧
    (∃ m : CtlMsg, ∃ q : BitVec 32, ∃ s : State, ∃ t : Dev, ∃ c, t.isLead = false ∧ Arrived isTokenGrant m q s.dev t ∧ t.str.commit = some c ∧ c.stage = .token) ∧
    (∃ m : CtlMsg, ∃ q : BitVec 32, ∃ s : State, ∃ t : Dev, t.str.holder = some m.hdr.org ∧ t.isLead = true ∧ t.str.tokenQueue = [] ∧ Arrived isTokenRelease m q s.dev t) := by
  refine ⟨?_, ?_, ?_, ?_, ?_, ?_, ?_, ?_, ?_, ?_, ?_, ?_, ?_, ?_, ?_, ?_, ?_⟩
  · let ch : Nat := 4096
    let r : Req := rq [1]
    let s : State := st (us (fun x => {x with partition := 2}))
    let d : Dev := tk spec0502 r s.dev
    exact ⟨ch, r, s, d, by decide +kernel, by decide +kernel, ⟨(by decide +kernel), (by decide +kernel), rfl, (by decide +kernel)⟩⟩
  · let ch : Nat := 4096
    let r : Req := rq [0]
    let s : State := st up
    let d : Dev := tk spec0502 r s.dev
    exact ⟨ch, r, s, d, (0), by decide +kernel, ⟨(by decide +kernel), (by decide +kernel), rfl, (by decide +kernel)⟩, by decide +kernel⟩
  · let ch : Nat := 4096
    let r : Req := rq [1]
    let s : State := st up
    let d : Dev := tk spec0502 r s.dev
    exact ⟨ch, r, s, d, by decide +kernel, ⟨(by decide +kernel), (by decide +kernel), rfl, (by decide +kernel)⟩, by decide +kernel⟩
  · let ch : Nat := 4096
    let r : Req := rq [1]
    let s : State := st (us (fun x => {x with commit := some (cm 1 .prepare)}))
    let d : Dev := tk spec0502 r s.dev
    exact ⟨ch, r, s, d, by decide +kernel, ⟨(by decide +kernel), (by decide +kernel), rfl, (by decide +kernel)⟩, by decide +kernel⟩
  · let ch : Nat := 4096
    let r : Req := rq [1]
    let s : State := st (onStr (fun x => {x with commit := some { cm 9 .prepare with job := some (job spec0502 4097 (rq [])) }}) b1)
    let d : Dev := tk spec0502 r s.dev
    exact ⟨ch, r, s, d, (1), by decide +kernel, ⟨(by decide +kernel), (by decide +kernel), rfl, (by decide +kernel)⟩, by decide +kernel⟩
  · let ch : Nat := 4096
    let r : Req := rq [1]
    let s : State := st (b1.setSlot 1 { bld 1 with rules := { RuleSet.empty with profiles := [(0, ⟨3, [1]⟩)] } })
    let d : Dev := tk spec0502 r s.dev
    exact ⟨ch, r, s, d, (1), by decide +kernel, ⟨(by decide +kernel), (by decide +kernel), rfl, (by decide +kernel)⟩, by decide +kernel⟩
  · let ch : Nat := 4096
    let r : Req := rq [1]
    let s : State := st (up.setSlot 1 { bld 1 with rules := { RuleSet.empty with image := some img } })
    let d : Dev := tk spec0502 r s.dev
    exact ⟨ch, r, s, d, (1), by decide +kernel, ⟨(by decide +kernel), (by decide +kernel), rfl, (by decide +kernel)⟩, by decide +kernel⟩
  · let ch : Nat := 4096
    let r : Req := rq [1]
    let s : State := st (((onStr (fun x => { x with mode := 2 }) b1).setBundle 1 { Bundle.reset with state := .up, free := some ⟨[], 0, 0⟩ }).setPlaces 3 { TablePlaces.empty with onchip := [(0, some ⟨[7], ⟨1, 0⟩, 1, 0, true⟩)] })
    let d : Dev := tk spec0502 r s.dev
    exact ⟨ch, r, s, d, (1), by decide +kernel, ⟨(by decide +kernel), (by decide +kernel), rfl, (by decide +kernel)⟩, by decide +kernel⟩
  · let ch : Nat := 4096
    let r : Req := rq [1]
    let s : State := st { b1 with jnl := { b1.jnl with stopped := true } }
    let d : Dev := tk spec0502 r s.dev
    exact ⟨ch, r, s, d, (1), by decide +kernel, ⟨(by decide +kernel), (by decide +kernel), rfl, (by decide +kernel)⟩, by decide +kernel⟩
  · let ch : Nat := 4096
    let r : Req := rq [1]
    let s : State := st b1
    let d : Dev := tk spec0502 r s.dev
    exact ⟨ch, r, s, d, (1), by decide +kernel, ⟨(by decide +kernel), (by decide +kernel), rfl, (by decide +kernel)⟩, by decide +kernel⟩
  · let ch : Nat := 4096
    let r : Req := rq [1]
    let s : State := st (onStr lead5 b1)
    let d : Dev := tk spec0502 r s.dev
    exact ⟨ch, r, s, d, (1), by decide +kernel, ⟨(by decide +kernel), (by decide +kernel), rfl, (by decide +kernel)⟩, by decide +kernel⟩
  · let ch : Nat := 4096
    let r : Req := rq [1]
    let s : State := st (onStr (fun x => {x with commit := some (cm 9 .activate)}) b1)
    let d : Dev := tk spec0502 r s.dev
    exact ⟨ch, r, s, d, (1), by decide +kernel, ⟨(by decide +kernel), (by decide +kernel), rfl, (by decide +kernel)⟩, by decide +kernel⟩
  · let m : CtlMsg := msg .tokenReq
    let s : State := st (us (fun x => { x with holder := some 4, ctlIn := [msg .tokenReq] }))
    let t : Dev := arr isTokenReq s.dev
    refine ⟨m, s, t, by decide +kernel, by decide +kernel, by decide +kernel, ?_⟩
    · refine arrived_front ?_ rfl ?_ ?_ ?_ ?_ <;> decide +kernel
  · let m : CtlMsg := msg .tokenReq
    let s : State := st (us (fun x => { x with ctlIn := [msg .tokenReq] }))
    let t : Dev := arr isTokenReq s.dev
    refine ⟨m, s, t, by decide +kernel, by decide +kernel, by decide +kernel, by decide +kernel, by decide +kernel, by decide +kernel, ?_⟩
    · refine arrived_front ?_ rfl ?_ ?_ ?_ ?_ <;> decide +kernel
  · let m : CtlMsg := msg (.tokenGrant 7)
    let q : BitVec 32 := 7
    let s : State := st (us (fun x => { lead5 x with ctlIn := [msg (.tokenGrant 7)] }))
    let t : Dev := arr isTokenGrant s.dev
    refine ⟨m, q, s, t, by decide +kernel, by decide +kernel, ?_⟩
    · refine arrived_front ?_ rfl ?_ ?_ ?_ ?_ <;> decide +kernel
  · let m : CtlMsg := msg (.tokenGrant 7)
    let q : BitVec 32 := 7
    let s : State := st (onStr (fun x => { lead5 x with commit := some (cm 1 .token), ctlIn := [msg (.tokenGrant 7)] }) b1)
    let t : Dev := arr isTokenGrant s.dev
    let c := cm 1 .token
    refine ⟨m, q, s, t, c, by decide +kernel, ?_, by decide +kernel⟩
    · refine arrived_front ?_ rfl ?_ ?_ ?_ ?_ <;> decide +kernel
  · let m : CtlMsg := msg (.tokenRelease 7)
    let q : BitVec 32 := 7
    let s : State := st (us (fun x => { x with holder := some 5, ctlIn := [msg (.tokenRelease 7)] }))
    let t : Dev := arr isTokenRelease s.dev
    refine ⟨m, q, s, t, by decide +kernel, by decide +kernel, by decide +kernel, ?_⟩
    · refine arrived_front ?_ rfl ?_ ?_ ?_ ?_ <;> decide +kernel

end CommitsAndTheTokenW

namespace PreparesAndPullsW

def us (f : StringSt → StringSt) : Dev := { up with str := f up.str }
def bld (v : Version) : Slot := { Slot.free with state := .building, version := v }
def cm (v : Version) (st : CommitStage) : Commit := { version := v, stage := st, acked := [], latest := 0, failed := none, tAct := 0, rollForward := false, job := none }
def onStr (f : StringSt → StringSt) (d : Dev) : Dev := { d with str := f d.str }
def two : StringSt → StringSt := fun x => { x with node := 3, lead := 5, state := .settled, members := [3, 5] }
def msg (b : CtlBody) : CtlMsg := { bundle := 2, hdr := ⟨5, 0, 9⟩, body := b }
def wIn (b : CtlBody) (d : Dev) : Dev := onStr (fun x => { x with ctlIn := [msg b] }) d
def P : CtlBody := .prepareEnd 1 1 (Config.sha384 [7])
def asm1 : Dev := us (fun x => { two x with assembly := some ⟨1, [(0, [7])]⟩ })
def s11 : State := st (wIn (.pullEnd 1 1 (Config.sha384 [7])) asm1)

/-- States and operands that meet the hypotheses of `Obligations.PreparesAndPulls`, one part for each of its 16 cases that have hypotheses; in 2 parts a hypothesis is left out that rests on an opaque value of Config or on a table too large to evaluate. -/
theorem witness_PreparesAndPulls :
    (∃ m : CtlMsg, ∃ v : Version, ∃ i : Nat, ∃ bs : List Byte, ∃ s : State, ∃ t : Dev, t.str.assembly = none ∧ Arrived isPrepareData m (v, i, bs) s.dev t) ∧
    (∃ m : CtlMsg, ∃ v : Version, ∃ i : Nat, ∃ bs : List Byte, ∃ s : State, ∃ t : Dev, ∃ segs, t.str.assembly = some ⟨v, segs⟩ ∧ Arrived isPrepareData m (v, i, bs) s.dev t) ∧
    (∃ m : CtlMsg, ∃ v : Version, ∃ n : Nat, ∃ dg : BitVec 384, ∃ cs : List Change, ∃ s : State, ∃ t : Dev, assembled t v n dg = some cs ∧ (¬ ((t.slot (v.toNat % 8)).processes = true ∧ (t.slot (v.toNat % 8)).version = v)) ∧ Arrived isPrepareEnd m (v, n, dg) s.dev t) ∧
    (∃ m : CtlMsg, ∃ v : Version, ∃ n : Nat, ∃ dg : BitVec 384, ∃ cs : List Change, ∃ s : State, ∃ t : Dev, assembled t v n dg = some cs ∧ (¬ ((t.slot (v.toNat % 8)).processes = true ∧ (t.slot (v.toNat % 8)).version = v)) ∧ (t.str.starting = true ∨ t.str.state = .rejoining) ∧ Arrived isPrepareEnd m (v, n, dg) s.dev t) ∧
    (∃ m : CtlMsg, ∃ v : Version, ∃ n : Nat, ∃ dg : BitVec 384, ∃ cs : List Change, ∃ s : State, ∃ t : Dev, assembled t v n dg = some cs ∧ (¬ ((t.slot (v.toNat % 8)).processes = true ∧ (t.slot (v.toNat % 8)).version = v)) ∧ t.slotIn .building = none ∧ (t.slot (v.toNat % 8)).state ≠ .free ∧ Arrived isPrepareEnd m (v, n, dg) s.dev t) ∧
    (∃ m : CtlMsg, ∃ v : Version, ∃ n : Nat, ∃ dg : BitVec 384, ∃ cs : List Change, ∃ s : State, ∃ t : Dev, assembled t v n dg = some cs ∧ (¬ ((t.slot (v.toNat % 8)).processes = true ∧ (t.slot (v.toNat % 8)).version = v)) ∧ Arrived isPrepareEnd m (v, n, dg) s.dev t ∧ t.str.starting = false ∧ t.str.state ≠ .rejoining ∧ t.slotIn .building = none ∧ (t.slot (v.toNat % 8)).state = .free ∧ (t.jnl.inflight.any (fun r => r.typ == 1 && r.subject == v.toNat)) = false) ∧
    (∃ m : CtlMsg, ∃ v : Version, ∃ s : State, ∃ t : Dev, ∃ h, t.str.held = some h ∧ h.version = v ∧ (t.slot (v.toNat % 8)).state ≠ .prepared ∧ Arrived isPrepareWithdraw m v s.dev t) ∧
    (∃ m : CtlMsg, ∃ v : Version, ∃ s : State, ∃ t : Dev, t.str.held = none ∧ (t.slot (v.toNat % 8)).state = .prepared ∧ (t.slot (v.toNat % 8)).version = v ∧ t.str.jobWait = none ∧ Arrived isPrepareWithdraw m v s.dev t) ∧
    (∃ m : CtlMsg, ∃ v : Version, ∃ c : Commit, ∃ s : State, ∃ t : Dev, t.str.commit = some c ∧ c.version = v ∧ c.stage = .prepare ∧ c.failed = none ∧ Arrived isPrepareAck m (v, 0) s.dev t ∧ (let g := gotReply (fun b => match b with | .prepareData w .. => w == v | .prepareEnd w .. => w == v | _ => false) m.hdr.org t; let acked := m.hdr.org :: c.acked.filter (fun n => decide (n ≠ m.hdr.org)); g.str.members.all (fun n => acked.contains n) = false)) ∧
    (∃ m : CtlMsg, ∃ v : Version, ∃ c : Commit, ∃ s : State, ∃ t : Dev, t.str.commit = some c ∧ c.version = v ∧ c.stage = .prepare ∧ c.failed = none ∧ Arrived isPrepareAck m (v, 0) s.dev t ∧ (let g := gotReply (fun b => match b with | .prepareData w .. => w == v | .prepareEnd w .. => w == v | _ => false) m.hdr.org t; let acked := m.hdr.org :: c.acked.filter (fun n => decide (n ≠ m.hdr.org)); g.str.members.all (fun n => acked.contains n) = true)) ∧
    (∃ m : CtlMsg, ∃ v : Version, ∃ n : Nat, ∃ s : State, ∃ t : Dev, (¬ ((t.slot (v.toNat % 8)).processes = true ∧ (t.slot (v.toNat % 8)).version = v)) ∧ Arrived isPullReq m (v, n) s.dev t) ∧
    (∃ m : CtlMsg, ∃ v : Version, ∃ n : Nat, ∃ s : State, ∃ t : Dev, (t.slot (v.toNat % 8)).processes = true ∧ (t.slot (v.toNat % 8)).version = v ∧ Arrived isPullReq m (v, n) s.dev t) ∧
    (∃ m : CtlMsg, ∃ v : Version, ∃ i : Nat, ∃ bs : List Byte, ∃ s : State, ∃ t : Dev, t.str.assembly = none ∧ Arrived isPullData m (.pullData v i bs) s.dev t) ∧
    (∃ m : CtlMsg, ∃ v : Version, ∃ n : Nat, ∃ dg : BitVec 384, ∃ cs : List Change, ∃ s : State, ∃ t : Dev, assembled t v n dg = some cs ∧ Arrived isPullData m (.pullEnd v n dg) s.dev t) ∧
    (∃ v : Version, ∃ t : Dev, t.slotIn .building = none ∧ (t.slot (v.toNat % 8)).state = .free) ∧
    (∃ v : Version, ∃ t : Dev, t.slotIn .building = none ∧ (t.slot (v.toNat % 8)).state ≠ .free) := by
  refine ⟨?_, ?_, ?_, ?_, ?_, ?_, ?_, ?_, ?_, ?_, ?_, ?_, ?_, ?_, ?_, ?_⟩
  · let m : CtlMsg := msg (.prepareData 1 0 [7])
    let v : Version := 1
    let i : Nat := 0
    let bs : List Byte := [7]
    let s : State := st (wIn m.body (us two))
    let t : Dev := arr isPrepareData s.dev
    refine ⟨m, v, i, bs, s, t, by decide +kernel, ?_⟩
    · refine arrived_front ?_ rfl ?_ ?_ ?_ ?_ <;> decide +kernel
  · let m : CtlMsg := msg (.prepareData 1 0 [7])
    let v : Version := 1
    let i : Nat := 0
    let bs : List Byte := [7]
    let s : State := st (wIn m.body asm1)
    let t : Dev := arr isPrepareData s.dev
    refine ⟨m, v, i, bs, s, t, ([(0, [7])]), by decide +kernel, ?_⟩
    · refine arrived_front ?_ rfl ?_ ?_ ?_ ?_ <;> decide +kernel
  · let m : CtlMsg := msg P
    let v : Version := 1
    let n : Nat := 1
    let dg : BitVec 384 := Config.sha384 [7]
    let cs : List Change := Config.recordChanges [7]
    let s : State := st (wIn P asm1)
    let t : Dev := arr isPrepareEnd s.dev
    refine ⟨m, v, n, dg, cs, s, t, ?_⟩
    refine ⟨show (if Config.sha384 [7] = Config.sha384 [7] then some (Config.recordChanges [7]) else none) = _ from if_pos rfl, by decide +kernel, ?_⟩
    refine arrived_front rfl rfl rfl ?_ ?_ rfl <;> decide +kernel
  · let m : CtlMsg := msg P
    let v : Version := 1
    let n : Nat := 1
    let dg : BitVec 384 := Config.sha384 [7]
    let cs : List Change := Config.recordChanges [7]
    let s : State := st (wIn P (onStr (fun x => { x with state := .rejoining }) asm1))
    let t : Dev := arr isPrepareEnd s.dev
    refine ⟨m, v, n, dg, cs, s, t, ?_⟩
    refine ⟨show (if Config.sha384 [7] = Config.sha384 [7] then some (Config.recordChanges [7]) else none) = _ from if_pos rfl, by decide +kernel, by decide +kernel, ?_⟩
    refine arrived_front rfl rfl rfl ?_ ?_ rfl <;> decide +kernel
  · let m : CtlMsg := msg P
    let v : Version := 1
    let n : Nat := 1
    let dg : BitVec 384 := Config.sha384 [7]
    let cs : List Change := Config.recordChanges [7]
    let s : State := st (wIn P (asm1.setSlot 1 { bld 9 with state := .draining }))
    let t : Dev := arr isPrepareEnd s.dev
    refine ⟨m, v, n, dg, cs, s, t, ?_⟩
    refine ⟨show (if Config.sha384 [7] = Config.sha384 [7] then some (Config.recordChanges [7]) else none) = _ from if_pos rfl, by decide +kernel, by decide +kernel, by decide +kernel, ?_⟩
    refine arrived_front rfl rfl rfl ?_ ?_ rfl <;> decide +kernel
  · let m : CtlMsg := msg P
    let v : Version := 1
    let n : Nat := 1
    let dg : BitVec 384 := Config.sha384 [7]
    let cs : List Change := Config.recordChanges [7]
    let s : State := st (wIn P asm1)
    let t : Dev := arr isPrepareEnd s.dev
    refine ⟨m, v, n, dg, cs, s, t, ?_⟩
    refine ⟨show (if Config.sha384 [7] = Config.sha384 [7] then some (Config.recordChanges [7]) else none) = _ from if_pos rfl, by decide +kernel, ?_, by decide +kernel⟩
    refine arrived_front rfl rfl rfl ?_ ?_ rfl <;> decide +kernel
  · let m : CtlMsg := msg (.prepareWithdraw 1)
    let v : Version := 1
    let s : State := st (wIn m.body (us (fun x => { two x with held := some ⟨1, [], 5, ⟨5, 0, 9⟩⟩ })))
    let t : Dev := arr isPrepareWithdraw s.dev
    refine ⟨m, v, s, t, (⟨1, [], 5, m.hdr⟩), by decide +kernel, by decide +kernel, by decide +kernel, ?_⟩
    · refine arrived_front ?_ rfl ?_ ?_ ?_ ?_ <;> decide +kernel
  · let m : CtlMsg := msg (.prepareWithdraw 1)
    let v : Version := 1
    let s : State := st (wIn m.body ((us two).setSlot 1 { bld 1 with state := .prepared }))
    let t : Dev := arr isPrepareWithdraw s.dev
    refine ⟨m, v, s, t, by decide +kernel, by decide +kernel, by decide +kernel, by decide +kernel, ?_⟩
    · refine arrived_front ?_ rfl ?_ ?_ ?_ ?_ <;> decide +kernel
  · let m : CtlMsg := msg (.prepareAck 1 0)
    let v : Version := 1
    let c : Commit := cm 1 .prepare
    let s : State := st (wIn m.body (us (fun x => { x with members := [0, 5], commit := some c })))
    let t : Dev := arr isPrepareAck s.dev
    refine ⟨m, v, c, s, t, by decide +kernel, by decide +kernel, by decide +kernel, by decide +kernel, ?_, by decide +kernel⟩
    · refine arrived_front ?_ rfl ?_ ?_ ?_ ?_ <;> decide +kernel
  · let m : CtlMsg := msg (.prepareAck 1 0)
    let v : Version := 1
    let c : Commit := { cm 1 .prepare with acked := [0] }
    let s : State := st (wIn m.body (us (fun x => { x with members := [0, 5], commit := some c })))
    let t : Dev := arr isPrepareAck s.dev
    let acked := m.hdr.org :: c.acked.filter (fun n => decide (n ≠ m.hdr.org))
    refine ⟨m, v, c, s, t, by decide +kernel, by decide +kernel, by decide +kernel, by decide +kernel, ?_, by decide +kernel⟩
    · refine arrived_front ?_ rfl ?_ ?_ ?_ ?_ <;> decide +kernel
  · let m : CtlMsg := msg (.pullReq 1 0)
    let v : Version := 1
    let n : Nat := 0
    let s : State := st (wIn m.body up)
    let t : Dev := arr isPullReq s.dev
    refine ⟨m, v, n, s, t, by decide +kernel, ?_⟩
    · refine arrived_front ?_ rfl ?_ ?_ ?_ ?_ <;> decide +kernel
  · let m : CtlMsg := msg (.pullReq 0 0)
    let v : Version := 0
    let n : Nat := 0
    let s : State := st (wIn m.body up)
    let t : Dev := arr isPullReq s.dev
    refine ⟨m, v, n, s, t, by decide +kernel, by decide +kernel, ?_⟩
    · refine arrived_front ?_ rfl ?_ ?_ ?_ ?_ <;> decide +kernel
  · let m : CtlMsg := msg (.pullData 1 0 [7])
    let v : Version := 1
    let i : Nat := 0
    let bs : List Byte := [7]
    let s : State := st (wIn m.body up)
    let t : Dev := arr isPullData s.dev
    refine ⟨m, v, i, bs, s, t, by decide +kernel, ?_⟩
    · refine arrived_front ?_ rfl ?_ ?_ ?_ ?_ <;> decide +kernel
  · let m : CtlMsg := msg (.pullEnd 1 1 (Config.sha384 [7]))
    let v : Version := 1
    let n : Nat := 1
    let dg : BitVec 384 := Config.sha384 [7]
    let cs : List Change := Config.recordChanges [7]
    let e : Dev := (jTake 1 v.toNat (Config.recordBytes cs).length (.prepare cs true) (.prepared v) (clearFor 1 (arr isPullData s11.dev))).getD up
    let s : State := s11
    let t : Dev := arr isPullData s.dev
    refine ⟨m, v, n, dg, cs, s, t, ?_⟩
    refine ⟨show (if Config.sha384 [7] = Config.sha384 [7] then some (Config.recordChanges [7]) else none) = _ from if_pos rfl, ?_⟩
    refine arrived_front rfl rfl rfl ?_ ?_ rfl <;> decide +kernel
  · let v : Version := 1
    let t : Dev := up
    exact ⟨v, t, by decide +kernel⟩
  · let v : Version := 1
    let t : Dev := up.setSlot 1 { bld 9 with state := .draining }
    exact ⟨v, t, by decide +kernel⟩

end PreparesAndPullsW

namespace ActivationAndRetirementW

def us (f : StringSt → StringSt) : Dev := { up with str := f up.str }
def cm (v : Version) (st : CommitStage) : Commit := { version := v, stage := st, acked := [], latest := 0, failed := none, tAct := 0, rollForward := false, job := none }
def onStr (f : StringSt → StringSt) (d : Dev) : Dev := { d with str := f d.str }
def two : StringSt → StringSt := fun x => { x with node := 3, lead := 5, state := .settled, members := [3, 5] }
def msg (b : CtlBody) : CtlMsg := { bundle := 2, hdr := ⟨5, 0, 9⟩, body := b }
def wIn (b : CtlBody) (d : Dev) : Dev := onStr (fun x => { x with ctlIn := [msg b] }) d
def sl (v : Version) (st : SlotState) : Slot := { Slot.free with state := st, version := v }
def mk : Marker := ⟨false, 1, 1, 100, 0⟩
def dr : Dev := up.setSlot 1 { sl 1 .draining with tDrain := some 100 }
def marks (u : Nat) : Dev := { dr with fabric := { dr.fabric with markers := (feeders u).map (fun v => (u, v, mk)) } }

/-- States and operands that meet the hypotheses of `Obligations.ActivationAndRetirement`, one part for each of its 25 cases that have hypotheses. -/
theorem witness_ActivationAndRetirement :
    (∃ m : CtlMsg, ∃ v : Version, ∃ at_ : Time, ∃ s : State, ∃ t : Dev, t.activeSlot.isSome = true ∧ t.activeVersion = v ∧ Arrived isActivate m (v, at_) s.dev t) ∧
    (∃ m : CtlMsg, ∃ v : Version, ∃ at_ : Time, ∃ s : State, ∃ t : Dev, (¬ (t.activeSlot.isSome = true ∧ t.activeVersion = v)) ∧ Time.ge t.now at_ = false ∧ Arrived isActivate m (v, at_) s.dev t) ∧
    (∃ m : CtlMsg, ∃ v : Version, ∃ at_ : Time, ∃ s : State, ∃ t : Dev, (¬ (t.activeSlot.isSome = true ∧ t.activeVersion = v)) ∧ Time.ge t.now at_ = true ∧ Arrived isActivate m (v, at_) s.dev t) ∧
    (∃ m : CtlMsg, ∃ v : Version, ∃ at_ : Time, ∃ s : State, ∃ t : Dev, ∃ x, Arrived isActivate m (v, at_) s.dev t ∧ (let w := { t with str := { t.str with toActivate := some ⟨v, at_, some m.hdr, false, none⟩ } }; jTake 3 v.toNat 8 (.activate at_) (.activated v at_) w = some x)) ∧
    (∃ s : State, ((∀ y ∈ s.dev.str.ctlIn, isActivate y.body = none))) ∧
    (∃ s : State, (s.dev.str.toActivate = none ∨ (∃ a, s.dev.str.toActivate = some a ∧ a.done ≠ none))) ∧
    (∃ a : PendAct, ∃ j : Nat, ∃ s : State, s.dev.str.toActivate = some a ∧ a.done = none ∧ a.durable = false ∧ (s.dev.slot (a.version.toNat % 8)).state = .prepared ∧ (s.dev.slot (a.version.toNat % 8)).version = a.version ∧ s.dev.activeSlot = some j ∧ s.dev.str.adopt = none ∧ s.dev.str.jobWait = none) ∧
    (∃ m : CtlMsg, ∃ v : Version, ∃ u : Time, ∃ c : Commit, ∃ s : State, ∃ t : Dev, t.str.commit = some c ∧ c.version = v ∧ c.stage = .activate ∧ t.str.toRetire = [] ∧ Arrived isActivateAck m (v, u) s.dev t ∧ (let g := gotReply (fun b => match b with | .activate w _ => w == v | _ => false) m.hdr.org t; let acked := m.hdr.org :: c.acked.filter (fun n => decide (n ≠ m.hdr.org)); g.str.members.all (fun n => acked.contains n) = false)) ∧
    (∃ m : CtlMsg, ∃ v : Version, ∃ u : Time, ∃ c : Commit, ∃ s : State, ∃ t : Dev, t.str.commit = some c ∧ c.version = v ∧ c.stage = .activate ∧ t.str.toRetire = [] ∧ Arrived isActivateAck m (v, u) s.dev t ∧ (let g := gotReply (fun b => match b with | .activate w _ => w == v | _ => false) m.hdr.org t; let acked := m.hdr.org :: c.acked.filter (fun n => decide (n ≠ m.hdr.org)); g.str.members.all (fun n => acked.contains n) = true)) ∧
    (∃ m : CtlMsg, ∃ v : Version, ∃ u : Time, ∃ s : State, ∃ t : Dev, t.str.commit = none ∧ t.str.toRetire = [] ∧ Arrived isActivateAck m (v, u) s.dev t) ∧
    (∃ m : CtlMsg, ∃ k : Nat, ∃ u : Time, ∃ s : State, ∃ t : Dev, (t.slot k).state = .draining ∧ Arrived isRetire m (k, false, u) s.dev t) ∧
    (∃ m : CtlMsg, ∃ k : Nat, ∃ u : Time, ∃ s : State, ∃ t : Dev, (t.slot k).state = .draining ∧ Arrived isRetire m (k, true, u) s.dev t) ∧
    (∃ m : CtlMsg, ∃ k : Nat, ∃ force : Bool, ∃ u : Time, ∃ s : State, ∃ t : Dev, (t.slot k).state ≠ .draining ∧ t.str.adopt = none ∧ Arrived isRetire m (k, force, u) s.dev t) ∧
    (∃ k : Nat, ∃ u : Time, ∃ s : State, Wf.versionDrainStart k = true ∧ (s.dev.slot k).tDrain = some u ∧ (s.dev.slot k).state = .draining ∧ (s.dev.slot k).drainStarted = false) ∧
    (∃ k : Nat, ∃ s : State, Wf.versionDrainStart k = true ∧ (((s.dev.slot k).tDrain = none ∨ (s.dev.slot k).state ≠ .draining ∨ (s.dev.slot k).drainStarted = true))) ∧
    (∃ u : Nat, ∃ k : Nat, ∃ m : Marker, ∃ s : State, Wf.drainMarkerPass u k = true ∧ heldMarker s.dev u false k = some m ∧ (holdsMarkers s.dev u m = false ∨ unitClear s.dev u (fun t => t.vslot.toNat == k) = false)) ∧
    (∃ u : Nat, ∃ k : Nat, ∃ m : Marker, ∃ s : State, Wf.drainMarkerPass u k = true ∧ heldMarker s.dev u false k = some m ∧ holdsMarkers s.dev u m = true ∧ unitClear s.dev u (fun t => t.vslot.toNat == k) = true ∧ (let d := passMarker u m s.dev; let last := allReported d m = true ∧ (s.dev.slot k).state = .draining ∧ (s.dev.slot k).drainDone = false; ¬ last)) ∧
    (∃ u : Nat, ∃ k : Nat, ∃ m : Marker, ∃ s : State, Wf.drainMarkerPass u k = true ∧ heldMarker s.dev u false k = some m ∧ holdsMarkers s.dev u m = true ∧ unitClear s.dev u (fun t => t.vslot.toNat == k) = true ∧ (let d := passMarker u m s.dev; let last := allReported d m = true ∧ (s.dev.slot k).state = .draining ∧ (s.dev.slot k).drainDone = false; last)) ∧
    (∃ u : Nat, ∃ k : Nat, ∃ s : State, Wf.drainMarkerPass u k = true ∧ heldMarker s.dev u false k = none) ∧
    (∃ m : CtlMsg, ∃ k : Nat, ∃ s : State, ∃ t : Dev, t.isLead = true ∧ Arrived isDrainDone m k s.dev t ∧ (let got := if (SMap.get [] t.str.drained k).contains m.hdr.org then SMap.get [] t.str.drained k else m.hdr.org :: SMap.get [] t.str.drained k; t.str.members.all (fun n => got.contains n) = false)) ∧
    (∃ m : CtlMsg, ∃ k : Nat, ∃ s : State, ∃ t : Dev, t.isLead = true ∧ Arrived isDrainDone m k s.dev t ∧ (let got := if (SMap.get [] t.str.drained k).contains m.hdr.org then SMap.get [] t.str.drained k else m.hdr.org :: SMap.get [] t.str.drained k; t.str.members.all (fun n => got.contains n) = true)) ∧
    (∃ m : CtlMsg, ∃ k : Nat, ∃ s : State, ∃ t : Dev, t.isLead = false ∧ Arrived isDrainDone m k s.dev t) ∧
    (∃ m : CtlMsg, ∃ k : Nat, ∃ s : State, ∃ t : Dev, (t.slot k).state ≠ .draining ∧ Arrived isSlotFree m k s.dev t) ∧
    (∃ m : CtlMsg, ∃ k : Nat, ∃ s : State, ∃ t : Dev, (t.slot k).state = .draining ∧ Arrived isSlotFree m k s.dev t) ∧
    (∃ m : CtlMsg, ∃ k : Nat, ∃ s : State, ∃ t : Dev, (t.slot k).state = .draining ∧ t.str.held = none ∧ t.str.buildWait = none ∧ Arrived isSlotFree m k s.dev t) := by
  refine ⟨?_, ?_, ?_, ?_, ?_, ?_, ?_, ?_, ?_, ?_, ?_, ?_, ?_, ?_, ?_, ?_, ?_, ?_, ?_, ?_, ?_, ?_, ?_, ?_, ?_⟩
  · let m : CtlMsg := msg (.activate 0 500)
    let v : Version := 0
    let at_ : Time := 500
    let s : State := st (wIn m.body (us two))
    let t : Dev := arr isActivate s.dev
    refine ⟨m, v, at_, s, t, by decide +kernel, by decide +kernel, ?_⟩
    · refine arrived_front ?_ rfl ?_ ?_ ?_ ?_ <;> decide +kernel
  · let m : CtlMsg := msg (.activate 1 500)
    let v : Version := 1
    let at_ : Time := 500
    let s : State := st (wIn m.body (us two))
    let t : Dev := arr isActivate s.dev
    refine ⟨m, v, at_, s, t, by decide +kernel, by decide +kernel, ?_⟩
    · refine arrived_front ?_ rfl ?_ ?_ ?_ ?_ <;> decide +kernel
  · let m : CtlMsg := msg (.activate 1 500)
    let v : Version := 1
    let at_ : Time := 500
    let s : State := st { wIn m.body (us two) with now := 600 }
    let t : Dev := arr isActivate s.dev
    refine ⟨m, v, at_, s, t, by decide +kernel, by decide +kernel, ?_⟩
    · refine arrived_front ?_ rfl ?_ ?_ ?_ ?_ <;> decide +kernel
  · let m : CtlMsg := msg (.activate 1 500)
    let v : Version := 1
    let at_ : Time := 500
    let s : State := st (wIn m.body (us two))
    let t : Dev := arr isActivate s.dev
    let x := (jTake 3 v.toNat 8 (.activate at_) (.activated v at_) { t with str := { t.str with toActivate := some ⟨v, at_, some m.hdr, false, none⟩ } }).getD up
    refine ⟨m, v, at_, s, t, x, ?_, by decide +kernel⟩
    · refine arrived_front ?_ rfl ?_ ?_ ?_ ?_ <;> decide +kernel
  · let s : State := st up
    exact ⟨s, by decide +kernel⟩
  · let s : State := st up
    exact ⟨s, by decide +kernel⟩
  · let a : PendAct := ⟨1, 500, none, false, none⟩
    let j : Nat := 0
    let s : State := st ((us (fun x => { two x with toActivate := some a })).setSlot 1 (sl 1 .prepared))
    exact ⟨a, j, s, by decide +kernel⟩
  · let m : CtlMsg := msg (.activateAck 1 77)
    let v : Version := 1
    let u : Time := 77
    let c : Commit := cm 1 .activate
    let s : State := st (wIn m.body (us (fun x => { x with members := [0, 5], commit := some c })))
    let t : Dev := arr isActivateAck s.dev
    refine ⟨m, v, u, c, s, t, by decide +kernel, by decide +kernel, by decide +kernel, by decide +kernel, ?_, by decide +kernel⟩
    · refine arrived_front ?_ rfl ?_ ?_ ?_ ?_ <;> decide +kernel
  · let m : CtlMsg := msg (.activateAck 1 77)
    let v : Version := 1
    let u : Time := 77
    let c : Commit := { cm 1 .activate with acked := [0] }
    let s : State := st (wIn m.body (us (fun x => { x with members := [0, 5], commit := some c })))
    let t : Dev := arr isActivateAck s.dev
    let acked := m.hdr.org :: c.acked.filter (fun n => decide (n ≠ m.hdr.org))
    refine ⟨m, v, u, c, s, t, by decide +kernel, by decide +kernel, by decide +kernel, by decide +kernel, ?_, by decide +kernel⟩
    · refine arrived_front ?_ rfl ?_ ?_ ?_ ?_ <;> decide +kernel
  · let m : CtlMsg := msg (.activateAck 1 77)
    let v : Version := 1
    let u : Time := 77
    let s : State := st (wIn m.body up)
    let t : Dev := arr isActivateAck s.dev
    refine ⟨m, v, u, s, t, by decide +kernel, by decide +kernel, ?_⟩
    · refine arrived_front ?_ rfl ?_ ?_ ?_ ?_ <;> decide +kernel
  · let m : CtlMsg := msg (.retire 1 false 77)
    let k : Nat := 1
    let u : Time := 77
    let s : State := st (wIn m.body (us two |>.setSlot 1 (sl 1 .draining)))
    let t : Dev := arr isRetire s.dev
    refine ⟨m, k, u, s, t, by decide +kernel, ?_⟩
    · refine arrived_front ?_ rfl ?_ ?_ ?_ ?_ <;> decide +kernel
  · let m : CtlMsg := msg (.retire 1 true 77)
    let k : Nat := 1
    let u : Time := 77
    let s : State := st (wIn m.body (us two |>.setSlot 1 (sl 1 .draining)))
    let t : Dev := arr isRetire s.dev
    refine ⟨m, k, u, s, t, by decide +kernel, ?_⟩
    · refine arrived_front ?_ rfl ?_ ?_ ?_ ?_ <;> decide +kernel
  · let m : CtlMsg := msg (.retire 2 true 77)
    let k : Nat := 2
    let force : Bool := true
    let u : Time := 77
    let s : State := st (wIn m.body (us two))
    let t : Dev := arr isRetire s.dev
    refine ⟨m, k, force, u, s, t, by decide +kernel, by decide +kernel, ?_⟩
    · refine arrived_front ?_ rfl ?_ ?_ ?_ ?_ <;> decide +kernel
  · let k : Nat := 1
    let u : Time := 100
    let s : State := st dr
    exact ⟨k, u, s, by decide +kernel⟩
  · let k : Nat := 1
    let s : State := st up
    exact ⟨k, s, by decide +kernel⟩
  · let u : Nat := 9
    let k : Nat := 1
    let m : Marker := mk
    let s : State := st { dr with fabric := { dr.fabric with markers := [(9, 1, mk)] } }
    exact ⟨u, k, m, s, by decide +kernel⟩
  · let u : Nat := 13
    let k : Nat := 1
    let m : Marker := mk
    let s : State := st (marks 13)
    exact ⟨u, k, m, s, by decide +kernel⟩
  · let u : Nat := 13
    let k : Nat := 1
    let m : Marker := mk
    let s : State := st { marks 13 with fabric := { (marks 13).fabric with passed := [11, 12, 14, 15, 16].map (fun i => (i, mk)) } }
    exact ⟨u, k, m, s, by decide +kernel⟩
  · let u : Nat := 13
    let k : Nat := 1
    let s : State := st up
    exact ⟨u, k, s, by decide +kernel⟩
  · let m : CtlMsg := msg (.drainDone 1)
    let k : Nat := 1
    let s : State := st (wIn m.body (us (fun x => { x with members := [0, 5] }) |>.setSlot 1 (sl 1 .draining)))
    let t : Dev := arr isDrainDone s.dev
    refine ⟨m, k, s, t, by decide +kernel, ?_, by decide +kernel⟩
    · refine arrived_front ?_ rfl ?_ ?_ ?_ ?_ <;> decide +kernel
  · let m : CtlMsg := msg (.drainDone 1)
    let k : Nat := 1
    let s : State := st (wIn m.body (us (fun x => { x with members := [0, 5], drained := [(1, [0])] }) |>.setSlot 1 (sl 1 .draining)))
    let t : Dev := arr isDrainDone s.dev
    refine ⟨m, k, s, t, by decide +kernel, ?_, by decide +kernel⟩
    · refine arrived_front ?_ rfl ?_ ?_ ?_ ?_ <;> decide +kernel
  · let m : CtlMsg := msg (.drainDone 1)
    let k : Nat := 1
    let s : State := st (wIn m.body (us two))
    let t : Dev := arr isDrainDone s.dev
    refine ⟨m, k, s, t, by decide +kernel, ?_⟩
    · refine arrived_front ?_ rfl ?_ ?_ ?_ ?_ <;> decide +kernel
  · let m : CtlMsg := msg (.slotFree 1)
    let k : Nat := 1
    let s : State := st (wIn m.body (us two))
    let t : Dev := arr isSlotFree s.dev
    refine ⟨m, k, s, t, by decide +kernel, ?_⟩
    · refine arrived_front ?_ rfl ?_ ?_ ?_ ?_ <;> decide +kernel
  · let m : CtlMsg := msg (.slotFree 1)
    let k : Nat := 1
    let s : State := st (wIn m.body (us two |>.setSlot 1 (sl 1 .draining)))
    let t : Dev := arr isSlotFree s.dev
    refine ⟨m, k, s, t, by decide +kernel, ?_⟩
    · refine arrived_front ?_ rfl ?_ ?_ ?_ ?_ <;> decide +kernel
  · let m : CtlMsg := msg (.slotFree 1)
    let k : Nat := 1
    let s : State := st (wIn m.body (us two |>.setSlot 1 (sl 1 .draining)))
    let t : Dev := arr isSlotFree s.dev
    refine ⟨m, k, s, t, by decide +kernel, by decide +kernel, by decide +kernel, ?_⟩
    · refine arrived_front ?_ rfl ?_ ?_ ?_ ?_ <;> decide +kernel

end ActivationAndRetirementW

namespace PortsAndLinksW

def hp : HostPort := up.port 0
def wp (p : Nat) (h : HostPort) (d : Dev) : Dev := d.setPort p h
def two : Dev := up.setPort 1 { hp with bifurcated := true, linkB := hp.linkA }
def dwn : Dev := up.setPort 0 { hp with perst := true, linkA := HostLink.reset }

/-- States and operands that meet the hypotheses of `Obligations.PortsAndLinks`, one part for each of its 17 cases that have hypotheses. -/
theorem witness_PortsAndLinks :
    (∃ p : Nat, ∃ s : State, Wf.perstAssert p = true ∧ (s.dev.port p).perst = false ∧ p = s.dev.mgrPort) ∧
    (∃ p : Nat, ∃ s : State, Wf.perstAssert p = true ∧ (s.dev.port p).perst = false ∧ p ≠ s.dev.mgrPort ∧ (s.dev.port p).bifurcated = false) ∧
    (∃ p : Nat, ∃ s : State, Wf.perstAssert p = true ∧ (s.dev.port p).perst = false ∧ p ≠ s.dev.mgrPort ∧ (s.dev.port p).bifurcated = true) ∧
    (∃ p : Nat, ∃ strap : Bool, ∃ s : State, Wf.perstDeassert p strap = true ∧ (s.dev.port p).perst = true ∧ p ≠ s.dev.mgrPort ∧ s.dev.boot.started ≠ none) ∧
    (∃ p : Nat, ∃ strap : Bool, ∃ s : State, Wf.perstDeassert p strap = true ∧ (s.dev.port p).perst = true ∧ p = s.dev.mgrPort ∧ s.dev.boot.started = none ∧ s.dev.boot.porHeld = false ∧ s.dev.boot.tripped = false ∧ s.dev.boot.powerFail = false) ∧
    (∃ p : Nat, ∃ half : Bool, ∃ s : State, Wf.linkDown p half = true ∧ ((s.dev.port p).link half).up = true) ∧
    (∃ p : Nat, ∃ half : Bool, ∃ s : State, Wf.linkDown p half = true ∧ ((s.dev.port p).link half).up = false) ∧
    (∃ p : Nat, ∃ half : Bool, ∃ speed : BitVec 3, ∃ flit : Bool, ∃ width : BitVec 5, ∃ s : State, Wf.linkUp p half speed flit width = true ∧ (s.dev.port p).perst = false ∧ s.dev.boot.powerFail = false ∧ s.dev.boot.tripped = false ∧ ((half = true → (s.dev.port p).bifurcated = true)) ∧ 1 ≤ speed.toNat ∧ speed.toNat ≤ 6 ∧ 1 ≤ width.toNat ∧ width.toNat ≤ (if (s.dev.port p).bifurcated then 8 else 16) ∧ (s.dev.slice 0).state ≠ .quiesced) ∧
    (∃ p : Nat, ∃ half : Bool, ∃ s : State, Wf.d3hotEntry p half = true ∧ ((s.dev.port p).link half).usable = true) ∧
    (∃ p : Nat, ∃ half : Bool, ∃ s : State, Wf.d0Return p half = true ∧ ((s.dev.port p).link half).d3hot = true ∧ (s.dev.slice 0).state ≠ .quiesced) ∧
    (∃ p : Nat, ∃ half : Bool, ∃ q : CfgReq, ∃ s : State, Wf.configurationRequest p half q = true ∧ ((s.dev.port p).link half).up = true ∧ (s.dev.port p).perst = false ∧ ((half = true → (s.dev.port p).bifurcated = true)) ∧ (s.dev.port p).rrs = true) ∧
    (∃ p : Nat, ∃ half : Bool, ∃ q : CfgReq, ∃ s : State, Wf.configurationRequest p half q = true ∧ ((s.dev.port p).link half).up = true ∧ (s.dev.port p).perst = false ∧ ((half = true → (s.dev.port p).bifurcated = true)) ∧ (s.dev.port p).rrs = false ∧ q = .read 0) ∧
    (∃ p : Nat, ∃ half : Bool, ∃ q : CfgReq, ∃ s : State, ∃ c, Wf.configurationRequest p half q = true ∧ ((s.dev.port p).link half).up = true ∧ (s.dev.port p).perst = false ∧ ((half = true → (s.dev.port p).bifurcated = true)) ∧ (s.dev.port p).rrs = false ∧ q = .writeDevCtl2 c) ∧
    (∃ p : Nat, ∃ half : Bool, ∃ q : CfgReq, ∃ s : State, ∃ n, ∃ v, Wf.configurationRequest p half q = true ∧ ((s.dev.port p).link half).up = true ∧ (s.dev.port p).perst = false ∧ ((half = true → (s.dev.port p).bifurcated = true)) ∧ (s.dev.port p).rrs = false ∧ q = .writeBar n v) ∧
    (∃ p : Nat, ∃ half : Bool, ∃ q : CfgReq, ∃ s : State, Wf.configurationRequest p half q = true ∧ ((s.dev.port p).link half).up = true ∧ (s.dev.port p).perst = false ∧ ((half = true → (s.dev.port p).bifurcated = true)) ∧ (s.dev.port p).rrs = false) ∧
    (∃ p : Nat, ∃ off : Nat, ∃ s : State, Wf.bar4Write p off = true ∧ (s.dev.port p).rrs = false ∧ ((s.dev.port p).link false).usable = true ∧ ((s.dev.port p).held.isSome = true ∨ (s.dev.port p).dbHeld.isSome = true)) ∧
    (∃ p : Nat, ∃ off : Nat, ∃ s : State, Wf.bar4Write p off = true ∧ (s.dev.port p).rrs = false ∧ ((s.dev.port p).link false).usable = true ∧ (s.dev.port p).held = none ∧ (s.dev.port p).dbHeld = none) := by
  refine ⟨?_, ?_, ?_, ?_, ?_, ?_, ?_, ?_, ?_, ?_, ?_, ?_, ?_, ?_, ?_, ?_, ?_⟩
  · let p : Nat := 0
    let s : State := st up
    exact ⟨p, s, by decide +kernel⟩
  · let p : Nat := 1
    let s : State := st (two.setPort 1 { hp with bifurcated := false })
    exact ⟨p, s, by decide +kernel⟩
  · let p : Nat := 1
    let s : State := st two
    exact ⟨p, s, by decide +kernel⟩
  · let p : Nat := 1
    let strap : Bool := true
    let s : State := st up
    exact ⟨p, strap, s, by decide +kernel⟩
  · let p : Nat := 0
    let strap : Bool := true
    let s : State := st { dwn with boot := { Boot.reset with porHeld := false } }
    exact ⟨p, strap, s, by decide +kernel⟩
  · let p : Nat := 1
    let half : Bool := true
    let s : State := st two
    exact ⟨p, half, s, by decide +kernel⟩
  · let p : Nat := 1
    let half : Bool := true
    let s : State := st (two.setPort 1 { two.port 1 with linkB := HostLink.reset })
    exact ⟨p, half, s, by decide +kernel⟩
  · let p : Nat := 1
    let half : Bool := true
    let speed : BitVec 3 := 6
    let flit : Bool := true
    let width : BitVec 5 := 8
    let s : State := st (two.setPort 1 { two.port 1 with linkB := HostLink.reset })
    exact ⟨p, half, speed, flit, width, s, by decide +kernel⟩
  · let p : Nat := 1
    let half : Bool := true
    let s : State := st two
    exact ⟨p, half, s, by decide +kernel⟩
  · let p : Nat := 1
    let half : Bool := true
    let s : State := st (two.setPort 1 { two.port 1 with linkB := { hp.linkA with d3hot := true } })
    exact ⟨p, half, s, by decide +kernel⟩
  · let p : Nat := 1
    let half : Bool := true
    let q : CfgReq := .read 0
    let s : State := st (two.setPort 1 { two.port 1 with rrs := true })
    exact ⟨p, half, q, s, by decide +kernel⟩
  · let p : Nat := 1
    let half : Bool := true
    let q : CfgReq := .read 0
    let s : State := st two
    exact ⟨p, half, q, s, by decide +kernel⟩
  · let p : Nat := 1
    let half : Bool := true
    let q : CfgReq := .writeDevCtl2 5
    let s : State := st two
    exact ⟨p, half, q, s, (5), by decide +kernel⟩
  · let p : Nat := 1
    let half : Bool := true
    let q : CfgReq := .writeBar 0 0x12345678
    let s : State := st two
    let n := 0
    exact ⟨p, half, q, s, n, (0x12345678), by decide +kernel⟩
  · let p : Nat := 1
    let half : Bool := true
    let q : CfgReq := .readCap false 5 0
    let s : State := st two
    exact ⟨p, half, q, s, by decide +kernel⟩
  · let p : Nat := 0
    let off : Nat := 0x1238
    let s : State := st (up.setPort 0 { hp with held := some (2, .reg ⟨8, false, 0x1008, 8, 1⟩) })
    exact ⟨p, off, s, by decide +kernel⟩
  · let p : Nat := 1
    let off : Nat := 0x1238
    let s : State := st two
    exact ⟨p, off, s, by decide +kernel⟩

end PortsAndLinksW

namespace RegisterWritePathW

def W (off len : Nat) : RegWrite := ⟨8, false, off, len, 0x5A⟩
def up1 : Dev := up.setPort 1 (up.port 0)
def hp := up.port 0

/-- States and operands that meet the hypotheses of `Obligations.RegisterWritePath`, one part for each of its 14 cases that have hypotheses. -/
theorem witness_RegisterWritePath :
    (∃ w : RegWrite, ∃ ws : List RegWrite, ∃ rs : List HostRead, Wf.registerWrite w (sameClock ws rs) = true ∧ (w.off < 0x10000 ∨ 0x40000 ≤ w.off)) ∧
    (∃ r : HostRead, ∃ ws : List RegWrite, ∃ rs : List HostRead, Wf.lowWordRead r (sameClock ws rs) = true) ∧
    (∃ w : RegWrite, ∃ p : Nat, ∃ s : State, Wf.registerWrite w [] = true ∧ w.master = p + 8 ∧ ((s.dev.port p).link w.half).usable = true ∧ (s.dev.port p).rrs = false ∧ (s.dev.port p).held = none ∧ (s.dev.port p).dbHeld = none ∧ w.off < 0x10000 ∧ (w.len ≠ 8 ∨ w.off % 8 ≠ 0)) ∧
    (∃ w : RegWrite, ∃ p : Nat, ∃ s : State, Wf.registerWrite w [] = true ∧ w.master = p + 8 ∧ ((s.dev.port p).link w.half).usable = true ∧ (s.dev.port p).rrs = false ∧ (s.dev.port p).held = none ∧ (s.dev.port p).dbHeld = none ∧ w.off < 0x10000 ∧ w.len = 8 ∧ w.off % 8 = 0 ∧ p ≠ s.dev.mgrPort) ∧
    (∃ w : RegWrite, ∃ p : Nat, ∃ s : State, Wf.registerWrite w [] = true ∧ w.master = p + 8 ∧ ((s.dev.port p).link w.half).usable = true ∧ (s.dev.port p).rrs = false ∧ (s.dev.port p).held = none ∧ (s.dev.port p).dbHeld = none ∧ w.off < 0x10000 ∧ w.len = 8 ∧ w.off % 8 = 0 ∧ p = s.dev.mgrPort ∧ 0x9000 ≤ w.off) ∧
    (∃ w : RegWrite, ∃ p : Nat, ∃ s : State, Wf.registerWrite w [] = true ∧ w.master = p + 8 ∧ ((s.dev.port p).link w.half).usable = true ∧ (s.dev.port p).rrs = false ∧ (s.dev.port p).held = none ∧ (s.dev.port p).dbHeld = none ∧ w.off < 0x10000 ∧ w.len = 8 ∧ w.off % 8 = 0 ∧ p = s.dev.mgrPort ∧ w.off < 0x9000 ∧ w.off / 2048 ≠ p ∧ (s.dev.port p).xbusy.getLsbD (w.off / 2048) = false) ∧
    (∃ w : RegWrite, ∃ p : Nat, ∃ s : State, Wf.registerWrite w [] = true ∧ w.master = p + 8 ∧ ((s.dev.port p).link w.half).usable = true ∧ (s.dev.port p).rrs = false ∧ (s.dev.port p).held = none ∧ (s.dev.port p).dbHeld = none ∧ w.off < 0x10000 ∧ w.len = 8 ∧ w.off % 8 = 0 ∧ p = s.dev.mgrPort ∧ w.off < 0x9000 ∧ w.off / 2048 ≠ p ∧ (s.dev.port p).xbusy.getLsbD (w.off / 2048) = true) ∧
    (∃ p : Nat, ∃ k : Nat, ∃ s : State, Wf.writeAcknowledge p k = true ∧ (s.dev.port p).xbusy.getLsbD k = true ∧ (s.dev.port p).held = none) ∧
    (∃ p : Nat, ∃ k : Nat, ∃ s : State, Wf.writeAcknowledge p k = true ∧ (s.dev.port p).xbusy.getLsbD k = true ∧ (s.dev.port p).held = none ∧ (s.dev.port p).reads = []) ∧
    (∃ p : Nat, ∃ k : Nat, ∃ s : State, ∃ w, Wf.writeAcknowledge p k = true ∧ (s.dev.port p).xbusy.getLsbD k = true ∧ (s.dev.port p).held = some (k, .reg w)) ∧
    (∃ p : Nat, ∃ k : Nat, ∃ s : State, ∃ h, Wf.writeAcknowledge p k = true ∧ (s.dev.port p).xbusy.getLsbD k = true ∧ (s.dev.port p).held = some (k, h)) ∧
    (∃ p : Nat, ∃ k : Nat, ∃ off : Nat, ∃ w : RegWrite, ∃ s : State, Wf.registerStallTimeout p k off true = true ∧ (s.dev.port p).held = some (k, .reg w)) ∧
    (∃ p : Nat, ∃ k : Nat, ∃ off : Nat, ∃ s : State, Wf.registerStallTimeout p k off false = true ∧ (s.dev.port p).rrs = false ∧ ((s.dev.port p).link false).usable = true) ∧
    (∃ p : Nat, ∃ off : Nat, ∃ len : Nat, ∃ half : Bool, ∃ ws : List W64, ∃ s : State, Wf.doorbellHoldTimeout p = true ∧ (s.dev.port p).dbHeld = some (half, off, len, ws)) := by
  refine ⟨?_, ?_, ?_, ?_, ?_, ?_, ?_, ?_, ?_, ?_, ?_, ?_, ?_, ?_⟩
  · let w : RegWrite := ⟨8, false, 0x1008, 8, 5⟩
    let ws : List RegWrite := []
    let rs : List HostRead := [{ master := 3, half := false, bar := 0, off := 0, len := 8 }]
    let s : State := st up
    exact ⟨w, ws, rs, by decide +kernel⟩
  · let r : HostRead := { master := 8, half := false, bar := 0, off := 0x3120, len := 8 }
    let ws : List RegWrite := [⟨3, false, 0x7820, 8, 0⟩]
    let rs : List HostRead := []
    let s : State := st up
    exact ⟨r, ws, rs, by decide +kernel⟩
  · let w : RegWrite := W 0x1002 4
    let p : Nat := 0
    let s : State := st up
    exact ⟨w, p, s, by decide +kernel⟩
  · let w : RegWrite := ⟨9, false, 0x1000, 8, 5⟩
    let p : Nat := 1
    let s : State := st up1
    exact ⟨w, p, s, by decide +kernel⟩
  · let w : RegWrite := W 0x9000 8
    let p : Nat := 0
    let s : State := st up
    exact ⟨w, p, s, by decide +kernel⟩
  · let w : RegWrite := W 0x1008 8
    let p : Nat := 0
    let s : State := st up
    exact ⟨w, p, s, by decide +kernel⟩
  · let w : RegWrite := W 0x1008 8
    let p : Nat := 0
    let s : State := st (up.setPort 0 { hp with xbusy := 4 })
    exact ⟨w, p, s, by decide +kernel⟩
  · let p : Nat := 0
    let k : Nat := 2
    let s : State := st (up.setPort 0 { hp with xbusy := 4 })
    exact ⟨p, k, s, by decide +kernel⟩
  · let p : Nat := 0
    let k : Nat := 2
    let s : State := st (up.setPort 0 { hp with xbusy := 4 })
    exact ⟨p, k, s, by decide +kernel⟩
  · let p : Nat := 0
    let k : Nat := 2
    let s : State := st (up.setPort 0 { hp with xbusy := 4, held := some (2, .reg (W 0x1008 8)) })
    exact ⟨p, k, s, (W 0x1008 8), by decide +kernel⟩
  · let p : Nat := 0
    let k : Nat := 2
    let s : State := st (up.setPort 0 { hp with xbusy := 4, held := some (2, .reg (W 0x1008 8)) })
    exact ⟨p, k, s, (.reg (W 0x1008 8)), by decide +kernel⟩
  · let p : Nat := 0
    let k : Nat := 2
    let off : Nat := 0x1008
    let w : RegWrite := W 0x1008 8
    let s : State := st (up.setPort 0 { hp with xbusy := 4, held := some (2, .reg (W 0x1008 8)) })
    exact ⟨p, k, off, w, s, by decide +kernel⟩
  · let p : Nat := 0
    let k : Nat := 2
    let off : Nat := 0x1008
    let s : State := st up
    exact ⟨p, k, off, s, by decide +kernel⟩
  · let p : Nat := 0
    let off : Nat := 0x400000
    let len : Nat := 16
    let half : Bool := false
    let ws : List W64 := [1,2]
    let s : State := st (up.setPort 0 { hp with dbHeld := some (false, 0x400000, 16, [1,2]) })
    exact ⟨p, off, len, half, ws, s, by decide +kernel⟩

end RegisterWritePathW

namespace RegisterFieldsW

def F1 : WField := { hi := 5, lo := 0, bound := .fifoSample, min := 0, max := 63 }
def F0 : WField := { hi := 4, lo := 2, bound := .atOnce, min := 0, max := 7 }
def X : RegWord := { value := 0x3F0055, pend := 0x11, pendMask := 0x13 }

/-- States and operands that meet the hypotheses of `Obligations.RegisterFields`, one part for each of its 7 cases that have hypotheses. -/
theorem witness_RegisterFields :
    (∃ f : WField, ∃ k : Nat, f.lo ≤ f.hi ∧ f.hi < 64 ∧ k < 64 ∧ f.bound = .atOnce) ∧
    (∃ f : WField, ∃ k : Nat, f.lo ≤ f.hi ∧ f.hi < 64 ∧ k < 64 ∧ f.bound ≠ .atOnce) ∧
    (∃ i : Nat, ∃ kind : Nat, ∃ off : Nat, ∃ v : W64, ∃ r : WReg, ∃ w : RegWrite, ((kind = 1 ∨ kind = 2 ∨ kind = 3)) ∧ w.master = 1 ∧ w.len = 8 ∧ w.off = kind * 65536 + i * 2048 + off ∧ i < 18 ∧ off < 2048 ∧ off % 8 = 0 ∧ w.value = v ∧ i ≠ isl.MGT ∧ wreg i off = some r ∧ ((i = isl.QDE → off ≠ 0x208)) ∧ ((i = isl.OBS → off ≠ 0x010)) ∧ ((i = isl.PIPA → off < 0x700))) ∧
    (∃ i : Nat, ∃ kind : Nat, ∃ off : Nat, ∃ v : W64, ∃ r : WReg, ∃ w : RegWrite, ∃ s : State, ((kind = 1 ∨ kind = 2 ∨ kind = 3)) ∧ w.master = 1 ∧ w.len = 8 ∧ w.off = kind * 65536 + i * 2048 + off ∧ i < 18 ∧ off < 2048 ∧ off % 8 = 0 ∧ w.value = v ∧ i ≠ isl.MGT ∧ wreg i off = some r ∧ ((i = isl.QDE → off ≠ 0x208)) ∧ ((i = isl.OBS → off ≠ 0x010)) ∧ ((i = isl.PIPA → off < 0x700)) ∧ (let cur := s.dev.regShown i off; let word : W64 := if kind = 1 then cur ||| v else if kind = 2 then cur &&& ~~~v else cur ^^^ v; let hit := { r with fields := r.fields.filter (fun f => v &&& f.mask != 0) }; ((∀ f ∈ hit.fields, f.inRange word = true)) ∧ i ≠ isl.MEM)) ∧
    (∃ b : Boundary, ∃ i : Nat, ∃ s : Dev, i < 18 ∧ boundDue b i s = false) ∧
    (∃ b : Boundary, ∃ i : Nat, ∃ s : Dev, i < 18 ∧ boundDue b i s = true) ∧
    (∃ b : Boundary, ∃ i : Nat, ∃ s : Dev, ∃ r, ∃ k, i < 18 ∧ boundDue b i s = true ∧ r ∈ islandRegs i ∧ k < 64) := by
  refine ⟨?_, ?_, ?_, ?_, ?_, ?_, ?_⟩
  · let f : WField := F0
    let w : W64 := 0xFFFF
    let x : RegWord := X
    let k : Nat := 3
    exact ⟨f, k, by decide +kernel⟩
  · let f : WField := F1
    let w : W64 := 0xFFFF
    let x : RegWord := X
    let k : Nat := 5
    exact ⟨f, k, by decide +kernel⟩
  · let i : Nat := 6
    let kind : Nat := 1
    let off : Nat := 0x200
    let v : W64 := 1
    let r : WReg := (wreg 6 0x200).getD ⟨0,0,[]⟩
    let w : RegWrite := ⟨1, false, 65536 + 6 * 2048 + 0x200, 8, 1⟩
    let s : State := st up
    exact ⟨i, kind, off, v, r, w, by decide +kernel⟩
  · let i : Nat := 6
    let kind : Nat := 3
    let off : Nat := 0x200
    let v : W64 := 3
    let r : WReg := (wreg 6 0x200).getD ⟨0,0,[]⟩
    let w : RegWrite := ⟨1, false, 3 * 65536 + 6 * 2048 + 0x200, 8, 3⟩
    let s : State := st up
    exact ⟨i, kind, off, v, r, w, s, by decide +kernel⟩
  · let b : Boundary := .insertion
    let i : Nat := 6
    let s : Dev := up
    exact ⟨b, i, s, by decide +kernel⟩
  · let b : Boundary := .insertion
    let i : Nat := 6
    let s : Dev := up.setRegWord 6 0x120 { value := 256, pend := 0x20, pendMask := 0x7F }
    exact ⟨b, i, s, by decide +kernel⟩
  · let b : Boundary := .insertion
    let i : Nat := 6
    let s : Dev := up.setRegWord 6 0x120 { value := 256, pend := 0x20, pendMask := 0x7F }
    exact ⟨b, i, s, ((wreg 6 0x120).getD ⟨0,0,[]⟩), (5), by decide +kernel⟩

end RegisterFieldsW

namespace RegisterReadsW

/-- States and operands that meet the hypotheses of `Obligations.RegisterReads`, one part for each of its 14 cases that have hypotheses. -/
theorem witness_RegisterReads :
    (∃ r : HostRead, ∃ v : Nat, ∃ i : Nat, ∃ off : Nat, ∃ s : State, Wf.lowWordRead r [] = true ∧ r.bar = 0 ∧ r.off = v * 65536 + i * 2048 + off ∧ v < 4 ∧ i < 18 ∧ off < 2048 ∧ i ≠ isl.MGT ∧ (let p := r.master - 8; let host := 8 ≤ r.master ∧ r.master ≤ 10; ((host → ((s.dev.port p).link r.half).usable = true ∧ (s.dev.port p).rrs = false ∧ readWaits s.dev p r = false)) ∧ r.len = 8 ∧ off % 8 = 0 ∧ lowWord i off = false)) ∧
    (∃ r : HostRead, ∃ v : Nat, ∃ i : Nat, ∃ off : Nat, ∃ s : State, Wf.lowWordRead r [] = true ∧ r.bar = 0 ∧ r.off = v * 65536 + i * 2048 + off ∧ v < 4 ∧ i < 18 ∧ off < 2048 ∧ i ≠ isl.MGT ∧ (let p := r.master - 8; let host := 8 ≤ r.master ∧ r.master ≤ 10; ((host → ((s.dev.port p).link r.half).usable = true ∧ (s.dev.port p).rrs = false ∧ readWaits s.dev p r = false)) ∧ r.len = 4 ∧ off % 8 = 0)) ∧
    (∃ r : HostRead, ∃ v : Nat, ∃ i : Nat, ∃ off : Nat, ∃ s : State, Wf.lowWordRead r [] = true ∧ r.bar = 0 ∧ r.off = v * 65536 + i * 2048 + off ∧ v < 4 ∧ i < 18 ∧ off < 2048 ∧ i ≠ isl.MGT ∧ (let p := r.master - 8; let host := 8 ≤ r.master ∧ r.master ≤ 10; ((host → ((s.dev.port p).link r.half).usable = true ∧ (s.dev.port p).rrs = false ∧ readWaits s.dev p r = false)) ∧ r.len = 4 ∧ off % 8 = 4)) ∧
    (∃ r : HostRead, ∃ v : Nat, ∃ i : Nat, ∃ off : Nat, ∃ s : State, Wf.lowWordRead r [] = true ∧ r.bar = 0 ∧ r.off = v * 65536 + i * 2048 + off ∧ v < 4 ∧ i < 18 ∧ off < 2048 ∧ i ≠ isl.MGT ∧ (let p := r.master - 8; let host := 8 ≤ r.master ∧ r.master ≤ 10; ((host → ((s.dev.port p).link r.half).usable = true ∧ (s.dev.port p).rrs = false ∧ readWaits s.dev p r = false)) ∧ r.len = 8 ∧ off % 8 = 0 ∧ lowWord i off = true)) ∧
    (∃ i : Nat, ∃ off : Nat, lowWord i off = true) ∧
    (∃ m : Nat, ∃ i : Nat, ∃ o : Nat, ∃ v : W64, ∃ d : Dev, SMap.get none d.regs.shadows (32 * m + i) = some (o, v)) ∧
    (∃ r : HostRead, ∃ s : State, Wf.lowWordRead r [] = true ∧ 8 ≤ r.master ∧ r.master ≤ 10 ∧ (let p := r.master - 8; (((s.dev.port p).link r.half).usable = false ∨ (s.dev.port p).rrs = true))) ∧
    (∃ r : HostRead, ∃ s : State, Wf.lowWordRead r [] = true ∧ 8 ≤ r.master ∧ r.master ≤ 10 ∧ (let p := r.master - 8; ((s.dev.port p).link r.half).usable = true ∧ (s.dev.port p).rrs = false ∧ readWrongPort s.dev p r = true)) ∧
    (∃ r : HostRead, ∃ s : State, Wf.lowWordRead r [] = true ∧ 8 ≤ r.master ∧ r.master ≤ 10 ∧ (let p := r.master - 8; ((s.dev.port p).link r.half).usable = true ∧ (s.dev.port p).rrs = false ∧ r.bar = 1 ∧ pageServed s.dev p r.half (r.off / 65536) = false)) ∧
    (∃ r : HostRead, ∃ s : State, Wf.lowWordRead r [] = true ∧ 8 ≤ r.master ∧ r.master ≤ 10 ∧ (let p := r.master - 8; ((s.dev.port p).link r.half).usable = true ∧ (s.dev.port p).rrs = false ∧ readWrongPort s.dev p r = false ∧ readShape r = false)) ∧
    (∃ r : HostRead, ∃ s : State, Wf.lowWordRead r [] = true ∧ 8 ≤ r.master ∧ r.master ≤ 10 ∧ (let p := r.master - 8; ((s.dev.port p).link r.half).usable = true ∧ (s.dev.port p).rrs = false ∧ readWrongPort s.dev p r = false ∧ readShape r = true ∧ readWaits s.dev p r = true)) ∧
    (∃ r : HostRead, ∃ s : State, Wf.lowWordRead r [] = true ∧ 8 ≤ r.master ∧ r.master ≤ 10 ∧ (let p := r.master - 8; ((s.dev.port p).link r.half).usable = true ∧ (s.dev.port p).rrs = false ∧ readWrongPort s.dev p r = false ∧ readShape r = true ∧ readWaits s.dev p r = false)) ∧
    (∃ r : HostRead, ∃ s : State, ∃ i, ∃ h, Wf.lowWordRead r [] = true ∧ 8 ≤ r.master ∧ r.master ≤ 10 ∧ (let p := r.master - 8; ((s.dev.port p).link r.half).usable = true ∧ (s.dev.port p).rrs = false ∧ r.bar = 0 ∧ r.off < 0x40000 ∧ (s.dev.port p).held = some (i, h) ∧ i ≠ p ∧ r.off % 65536 < 0x9000 ∧ r.off % 65536 / 2048 = i)) ∧
    (∃ r : HostRead, ∃ s : State, Wf.lowWordRead r [] = true ∧ 8 ≤ r.master ∧ r.master ≤ 10 ∧ (let p := r.master - 8; ((s.dev.port p).link r.half).usable = true ∧ (s.dev.port p).rrs = false ∧ r.bar = 0 ∧ r.off < 0x40000 ∧ 0x9000 ≤ r.off % 65536 ∧ regShape r.off r.len = true)) := by
  refine ⟨?_, ?_, ?_, ?_, ?_, ?_, ?_, ?_, ?_, ?_, ?_, ?_, ?_, ?_⟩
  · let r : HostRead := { master := 8, half := false, bar := 0, off := 65536 + 6 * 2048 + 0x120, len := 8 }
    let v : Nat := 1
    let i : Nat := 6
    let off : Nat := 0x120
    let s : State := st up
    exact ⟨r, v, i, off, s, by decide +kernel⟩
  · let r : HostRead := { master := 8, half := false, bar := 0, off := 65536 + 6 * 2048 + 0x120, len := 4 }
    let v : Nat := 1
    let i : Nat := 6
    let off : Nat := 0x120
    let s : State := st up
    exact ⟨r, v, i, off, s, by decide +kernel⟩
  · let r : HostRead := { master := 8, half := false, bar := 0, off := 65536 + 6 * 2048 + 0x124, len := 4 }
    let v : Nat := 1
    let i : Nat := 6
    let off : Nat := 0x124
    let s : State := st up
    exact ⟨r, v, i, off, s, by decide +kernel⟩
  · let r : HostRead := { master := 8, half := false, bar := 0, off := 0x10, len := 8 }
    let v : Nat := 0
    let i : Nat := 0
    let off : Nat := 0x010
    let s : State := st up
    exact ⟨r, v, i, off, s, by decide +kernel⟩
  · let m : Nat := 8
    let i : Nat := 0
    let off : Nat := 0x10
    let d : Dev := up
    exact ⟨i, off, by decide +kernel⟩
  · let m : Nat := 8
    let i : Nat := 0
    let off : Nat := 0x10
    let o : Nat := 0x108
    let v : W64 := 77
    let d : Dev := { up with regs := { up.regs with shadows := [(32 * 8 + 0, some (0x108, 77))] } }
    exact ⟨m, i, o, v, d, by decide +kernel⟩
  · let r : HostRead := { master := 8, half := false, bar := 0, off := 0x10, len := 8 }
    let s : State := st (up.setPort 0 { up.port 0 with rrs := true })
    exact ⟨r, s, by decide +kernel⟩
  · let r : HostRead := { master := 8, half := false, bar := 1, off := 5 * 65536 + 8, len := 4 }
    let s : State := st up
    exact ⟨r, s, by decide +kernel⟩
  · let r : HostRead := { master := 8, half := false, bar := 1, off := 5 * 65536 + 8, len := 4 }
    let s : State := st up
    exact ⟨r, s, by decide +kernel⟩
  · let r : HostRead := { master := 8, half := false, bar := 0, off := 0x10, len := 5 }
    let s : State := st up
    exact ⟨r, s, by decide +kernel⟩
  · let r : HostRead := { master := 8, half := false, bar := 0, off := 13 * 2048, len := 8 }
    let s : State := st (up.setPort 0 { up.port 0 with held := some (13, .reg ⟨8, false, 13*2048, 8, 1⟩) })
    exact ⟨r, s, by decide +kernel⟩
  · let r : HostRead := { master := 8, half := false, bar := 0, off := 13 * 2048, len := 8 }
    let s : State := st up
    exact ⟨r, s, by decide +kernel⟩
  · let r : HostRead := { master := 8, half := false, bar := 0, off := 13 * 2048, len := 8 }
    let s : State := st (up.setPort 0 { up.port 0 with held := some (13, .reg ⟨8, false, 13*2048, 8, 1⟩) })
    exact ⟨r, s, (13), (.reg ⟨8, false, 13*2048, 8, 1⟩), by decide +kernel⟩
  · let r : HostRead := { master := 8, half := false, bar := 0, off := 0x9010, len := 8 }
    let s : State := st up
    exact ⟨r, s, by decide +kernel⟩

end RegisterReadsW

namespace MailboxesW

def C0 : MbxChan := MbxChan.reset
def ws : List W64 := [0x0001000005000000 + 0x0500, 0,0,0,0,0,0,0]
def cd (c : MbxChan) : Dev := up.setChan 4096 c
def frame (op : W64) : List W64 := [op ||| (1 <<< 16), 0,0,0,0,0,0,0]
def H0 : HistEntry := ⟨4, 0x500, 1, .ok, false, []⟩
def jb : Job := { job spec0500 4096 (rq []) with no := 4 }
def ex (c : MbxChan) : MbxChan := { c with executing := true, current := some ⟨4, 0x500, 1⟩, running := [4], history := [⟨2, 3, 9, .ok, true, [5]⟩, H0] }

/-- States and operands that meet the hypotheses of `Obligations.Mailboxes`, one part for each of its 19 cases that have hypotheses. -/
theorem witness_Mailboxes :
    (∃ m : Nat, ∃ ch : Nat, ∃ half : Bool, ∃ s : State, ∃ t : Dev, ∃ off, ∃ bs : List Byte, mbxMasterWf m = true ∧ ch < 4352 ∧ (((m < 8 ∨ 10 < m) ∧ t = s.dev ∨ (8 ≤ m ∧ m ≤ 10 ∧ (4096 ≤ ch ∨ pageServed s.dev (m - 8) half ch = true) ∧ ((s.dev.port (m - 8)).link half).usable = true ∧ (s.dev.port (m - 8)).rrs = false ∧ (s.dev.port (m - 8)).held = none ∧ (s.dev.port (m - 8)).dbHeld = none ∧ (s.dev.port (m - 8)).xbusy.getLsbD 15 = false ∧ t = s.dev.setPort (m - 8) { s.dev.port (m - 8) with xbusy := (s.dev.port (m - 8)).xbusy ||| BitVec.ofNat 18 (2 ^ 15) }))) ∧ 0 < bs.length ∧ off < 0x40 ∧ off % 4 = 0 ∧ bs.length % 4 = 0 ∧ off + bs.length ≤ 64 ∧ t.sender ch ≠ some m) ∧
    (∃ m : Nat, ∃ ch : Nat, ∃ half : Bool, ∃ s : State, ∃ t : Dev, ∃ off, ∃ bs : List Byte, mbxMasterWf m = true ∧ ch < 4352 ∧ (((m < 8 ∨ 10 < m) ∧ t = s.dev ∨ (8 ≤ m ∧ m ≤ 10 ∧ (4096 ≤ ch ∨ pageServed s.dev (m - 8) half ch = true) ∧ ((s.dev.port (m - 8)).link half).usable = true ∧ (s.dev.port (m - 8)).rrs = false ∧ (s.dev.port (m - 8)).held = none ∧ (s.dev.port (m - 8)).dbHeld = none ∧ (s.dev.port (m - 8)).xbusy.getLsbD 15 = false ∧ t = s.dev.setPort (m - 8) { s.dev.port (m - 8) with xbusy := (s.dev.port (m - 8)).xbusy ||| BitVec.ofNat 18 (2 ^ 15) }))) ∧ (let c := t.chan ch; 0 < bs.length ∧ off < 0x40 ∧ off % 4 = 0 ∧ bs.length % 4 = 0 ∧ off + bs.length ≤ 64 ∧ t.sender ch = some m ∧ c.full = false)) ∧
    (∃ m : Nat, ∃ ch : Nat, ∃ half : Bool, ∃ s : State, ∃ t : Dev, ∃ off, ∃ bs : List Byte, mbxMasterWf m = true ∧ ch < 4352 ∧ (((m < 8 ∨ 10 < m) ∧ t = s.dev ∨ (8 ≤ m ∧ m ≤ 10 ∧ (4096 ≤ ch ∨ pageServed s.dev (m - 8) half ch = true) ∧ ((s.dev.port (m - 8)).link half).usable = true ∧ (s.dev.port (m - 8)).rrs = false ∧ (s.dev.port (m - 8)).held = none ∧ (s.dev.port (m - 8)).dbHeld = none ∧ (s.dev.port (m - 8)).xbusy.getLsbD 15 = false ∧ t = s.dev.setPort (m - 8) { s.dev.port (m - 8) with xbusy := (s.dev.port (m - 8)).xbusy ||| BitVec.ofNat 18 (2 ^ 15) }))) ∧ (let c := t.chan ch; 0 < bs.length ∧ off < 0x40 ∧ off % 4 = 0 ∧ bs.length % 4 = 0 ∧ off + bs.length ≤ 64 ∧ t.sender ch = some m ∧ c.full = true)) ∧
    (∃ m : Nat, ∃ ch : Nat, ∃ half : Bool, ∃ s : State, ∃ t : Dev, mbxMasterWf m = true ∧ ch < 4352 ∧ (((m < 8 ∨ 10 < m) ∧ t = s.dev ∨ (8 ≤ m ∧ m ≤ 10 ∧ (4096 ≤ ch ∨ pageServed s.dev (m - 8) half ch = true) ∧ ((s.dev.port (m - 8)).link half).usable = true ∧ (s.dev.port (m - 8)).rrs = false ∧ (s.dev.port (m - 8)).held = none ∧ (s.dev.port (m - 8)).dbHeld = none ∧ (s.dev.port (m - 8)).xbusy.getLsbD 15 = false ∧ t = s.dev.setPort (m - 8) { s.dev.port (m - 8) with xbusy := (s.dev.port (m - 8)).xbusy ||| BitVec.ofNat 18 (2 ^ 15) }))) ∧ (let c := t.chan ch; t.sender ch = some m ∧ c.full = true)) ∧
    (∃ m : Nat, ∃ ch : Nat, ∃ half : Bool, ∃ s : State, ∃ t : Dev, mbxMasterWf m = true ∧ ch < 4352 ∧ (((m < 8 ∨ 10 < m) ∧ t = s.dev ∨ (8 ≤ m ∧ m ≤ 10 ∧ (4096 ≤ ch ∨ pageServed s.dev (m - 8) half ch = true) ∧ ((s.dev.port (m - 8)).link half).usable = true ∧ (s.dev.port (m - 8)).rrs = false ∧ (s.dev.port (m - 8)).held = none ∧ (s.dev.port (m - 8)).dbHeld = none ∧ (s.dev.port (m - 8)).xbusy.getLsbD 15 = false ∧ t = s.dev.setPort (m - 8) { s.dev.port (m - 8) with xbusy := (s.dev.port (m - 8)).xbusy ||| BitVec.ofNat 18 (2 ^ 15) }))) ∧ (let c := t.chan ch; t.sender ch = some m ∧ c.full = false)) ∧
    (∃ m : Nat, ∃ ch : Nat, ∃ half : Bool, ∃ s : State, ∃ t : Dev, mbxMasterWf m = true ∧ ch < 4352 ∧ (((m < 8 ∨ 10 < m) ∧ t = s.dev ∨ (8 ≤ m ∧ m ≤ 10 ∧ (4096 ≤ ch ∨ pageServed s.dev (m - 8) half ch = true) ∧ ((s.dev.port (m - 8)).link half).usable = true ∧ (s.dev.port (m - 8)).rrs = false ∧ (s.dev.port (m - 8)).held = none ∧ (s.dev.port (m - 8)).dbHeld = none ∧ (s.dev.port (m - 8)).xbusy.getLsbD 15 = false ∧ t = s.dev.setPort (m - 8) { s.dev.port (m - 8) with xbusy := (s.dev.port (m - 8)).xbusy ||| BitVec.ofNat 18 (2 ^ 15) }))) ∧ t.sender ch = some m) ∧
    (∃ m : Nat, ∃ ch : Nat, ∃ half : Bool, ∃ s : State, ∃ t : Dev, mbxMasterWf m = true ∧ ch < 4352 ∧ (((m < 8 ∨ 10 < m) ∧ t = s.dev ∨ (8 ≤ m ∧ m ≤ 10 ∧ (4096 ≤ ch ∨ pageServed s.dev (m - 8) half ch = true) ∧ ((s.dev.port (m - 8)).link half).usable = true ∧ (s.dev.port (m - 8)).rrs = false ∧ (s.dev.port (m - 8)).held = none ∧ (s.dev.port (m - 8)).dbHeld = none ∧ (s.dev.port (m - 8)).xbusy.getLsbD 15 = false ∧ t = s.dev.setPort (m - 8) { s.dev.port (m - 8) with xbusy := (s.dev.port (m - 8)).xbusy ||| BitVec.ofNat 18 (2 ^ 15) })))) ∧
    (∃ m : Nat, ∃ ch : Nat, ∃ off : Nat, ∃ half : Bool, ∃ bs : List Byte, ∃ s : State, Wf.mbxRequestWrite m half ch off bs = true ∧ 8 ≤ m ∧ m ≤ 10 ∧ ((s.dev.port (m - 8)).link half).usable = true ∧ (s.dev.port (m - 8)).rrs = false ∧ (s.dev.port (m - 8)).held = none ∧ (s.dev.port (m - 8)).dbHeld = none ∧ (let p := m - 8; ch < 4096 ∧ pageServed s.dev p half ch = false)) ∧
    (∃ m : Nat, ∃ ch : Nat, ∃ off : Nat, ∃ half : Bool, ∃ bs : List Byte, ∃ s : State, Wf.mbxRequestWrite m half ch off bs = true ∧ 8 ≤ m ∧ m ≤ 10 ∧ ((s.dev.port (m - 8)).link half).usable = true ∧ (s.dev.port (m - 8)).rrs = false ∧ (s.dev.port (m - 8)).held = none ∧ (s.dev.port (m - 8)).dbHeld = none ∧ (let p := m - 8; (4096 ≤ ch ∨ pageServed s.dev p half ch = true) ∧ 0x100 ≤ off)) ∧
    (∃ m : Nat, ∃ ch : Nat, ∃ off : Nat, ∃ half : Bool, ∃ bs : List Byte, ∃ s : State, Wf.mbxRequestWrite m half ch off bs = true ∧ 8 ≤ m ∧ m ≤ 10 ∧ ((s.dev.port (m - 8)).link half).usable = true ∧ (s.dev.port (m - 8)).rrs = false ∧ (s.dev.port (m - 8)).held = none ∧ (s.dev.port (m - 8)).dbHeld = none ∧ (let p := m - 8; (4096 ≤ ch ∨ pageServed s.dev p half ch = true) ∧ off < 0x80 ∧ (¬ (off % 4 = 0 ∧ bs.length % 4 = 0 ∧ off % 64 + bs.length ≤ 64)))) ∧
    (∃ ch : Nat, ∃ host : HostIO, ∃ s : State, Wf.requestTake ch host = true ∧ servedNext s.dev ≠ some ch) ∧
    (∃ ch : Nat, ∃ host : HostIO, ∃ s : State, Wf.requestTake ch host = true ∧ servedNext s.dev = some ch) ∧
    (∃ ch : Nat, ∃ host : HostIO, ∃ s : State, ∃ n, Wf.requestTake ch host = true ∧ servedNext s.dev = some ch ∧ ch < 4096 ∧ 4096 ≤ n ∧ n ∈ s.dev.mgt.chans.map Prod.fst) ∧
    (∃ ch : Nat, ∃ host : HostIO, ∃ s : State, ∃ f, Wf.requestTake ch host = true ∧ (let c := s.dev.chan ch; let op := fld (c.captured.getD 0 0) 15 0; servedNext s.dev = some ch ∧ (op, f) ∈ commandTable)) ∧
    (∃ ch : Nat, ∃ host : HostIO, ∃ s : State, Wf.requestTake ch host = true ∧ (let c := s.dev.chan ch; let op := fld (c.captured.getD 0 0) 15 0; servedNext s.dev = some ch ∧ ((∀ e ∈ commandTable, e.1 ≠ op)))) ∧
    (∃ j : Job, ∃ ws : List W64, (j.indirect = false ∨ ws = []) ∧ ws.length ≤ 7 ∧ j.ch < 4352) ∧
    (∃ j : Job, ∃ ws : List W64, ∃ k, (j.indirect = false ∨ ws = []) ∧ ws.length ≤ 7 ∧ j.ch < 4352 ∧ k ≠ j.ch) ∧
    (∃ j : Job, ∃ ws : List W64, ∃ d : Dev, (j.indirect = false ∨ ws = []) ∧ ws.length ≤ 7 ∧ j.ch < 4352 ∧ (let c := d.chan j.ch; c.executing = true ∧ c.current = some ⟨j.no, j.opcode, j.seq⟩)) ∧
    (∃ j : Job, ∃ ws : List W64, ∃ d : Dev, (j.indirect = false ∨ ws = []) ∧ ws.length ≤ 7 ∧ j.ch < 4352 ∧ (let c := d.chan j.ch; (¬ (c.executing = true ∧ c.current = some ⟨j.no, j.opcode, j.seq⟩)))) := by
  refine ⟨?_, ?_, ?_, ?_, ?_, ?_, ?_, ?_, ?_, ?_, ?_, ?_, ?_, ?_, ?_, ?_, ?_, ?_, ?_⟩
  · let m : Nat := 3
    let ch : Nat := 4097
    let half : Bool := false
    let s : State := st up
    let t : Dev := s.dev
    let bs : List Byte := [1,2,3,4]
    exact ⟨m, ch, half, s, t, (0), bs, by decide +kernel⟩
  · let m : Nat := 8
    let ch : Nat := 4096
    let half : Bool := false
    let s : State := st up
    let t : Dev := s.dev.setPort (m - 8) { s.dev.port (m - 8) with xbusy := (s.dev.port (m - 8)).xbusy ||| BitVec.ofNat 18 (2 ^ 15) }
    let bs : List Byte := [1,2,3,4]
    exact ⟨m, ch, half, s, t, (60), bs, by decide +kernel⟩
  · let m : Nat := 8
    let ch : Nat := 4096
    let half : Bool := false
    let s : State := st (cd { C0 with full := true })
    let t : Dev := s.dev.setPort (m - 8) { s.dev.port (m - 8) with xbusy := (s.dev.port (m - 8)).xbusy ||| BitVec.ofNat 18 (2 ^ 15) }
    let bs : List Byte := [1,2,3,4]
    exact ⟨m, ch, half, s, t, (60), bs, by decide +kernel⟩
  · let m : Nat := 8
    let ch : Nat := 4096
    let half : Bool := false
    let s : State := st (cd { C0 with full := true })
    let t : Dev := s.dev.setPort (m - 8) { s.dev.port (m - 8) with xbusy := (s.dev.port (m - 8)).xbusy ||| BitVec.ofNat 18 (2 ^ 15) }
    let both : Bool := true
    exact ⟨m, ch, half, s, t, by decide +kernel⟩
  · let m : Nat := 8
    let ch : Nat := 4096
    let half : Bool := false
    let s : State := st (cd { C0 with request := frame 0x500 })
    let t : Dev := s.dev.setPort (m - 8) { s.dev.port (m - 8) with xbusy := (s.dev.port (m - 8)).xbusy ||| BitVec.ofNat 18 (2 ^ 15) }
    let both : Bool := true
    exact ⟨m, ch, half, s, t, by decide +kernel⟩
  · let m : Nat := 8
    let ch : Nat := 4096
    let half : Bool := false
    let s : State := st (cd { C0 with request := frame 0x500 })
    let t : Dev := s.dev.setPort (m - 8) { s.dev.port (m - 8) with xbusy := (s.dev.port (m - 8)).xbusy ||| BitVec.ofNat 18 (2 ^ 15) }
    exact ⟨m, ch, half, s, t, by decide +kernel⟩
  · let m : Nat := 8
    let ch : Nat := 4096
    let half : Bool := false
    let s : State := st (cd { C0 with request := frame 0x500 })
    let t : Dev := s.dev.setPort (m - 8) { s.dev.port (m - 8) with xbusy := (s.dev.port (m - 8)).xbusy ||| BitVec.ofNat 18 (2 ^ 15) }
    exact ⟨m, ch, half, s, t, by decide +kernel⟩
  · let m : Nat := 8
    let ch : Nat := 5
    let off : Nat := 0
    let half : Bool := false
    let bs : List Byte := [1,2,3,4]
    let s : State := st up
    exact ⟨m, ch, off, half, bs, s, by decide +kernel⟩
  · let m : Nat := 8
    let ch : Nat := 3
    let off : Nat := 0x100
    let half : Bool := false
    let bs : List Byte := [1,2,3,4]
    let s : State := st (up.setSlice 3 { Slice.free with state := .active })
    exact ⟨m, ch, off, half, bs, s, by decide +kernel⟩
  · let m : Nat := 8
    let ch : Nat := 3
    let off : Nat := 2
    let half : Bool := false
    let bs : List Byte := [1,2,3,4]
    let s : State := st (up.setSlice 3 { Slice.free with state := .active })
    exact ⟨m, ch, off, half, bs, s, by decide +kernel⟩
  · let ch : Nat := 4097
    let host : HostIO := ⟨true,true,true,[]⟩
    let s : State := st up
    exact ⟨ch, host, s, by decide +kernel⟩
  · let ch : Nat := 4096
    let host : HostIO := ⟨true,true,true,[]⟩
    let s : State := st (cd { C0 with captured := frame 0x500, full := true })
    exact ⟨ch, host, s, by decide +kernel⟩
  · let ch : Nat := 3
    let host : HostIO := ⟨true,true,true,[]⟩
    let s : State := st ((up.setSlice 3 { Slice.free with state := .active }).setChan 3 { C0 with captured := frame 0x500, full := true } |>.setChan 4096 { C0 with timerMs := 11 })
    let n := 4096
    exact ⟨ch, host, s, n, by decide +kernel⟩
  · let ch : Nat := 4096
    let host : HostIO := ⟨true,true,true,[]⟩
    let s : State := st (cd { C0 with captured := frame 0x500, full := true })
    refine ⟨ch, host, s, (cmdVersionQuery), ?_⟩
    refine ⟨by decide +kernel, by decide +kernel, ?_⟩
    suffices h : fld ((s.dev.chan ch).captured.getD 0 0) 15 0 = 0x500 by
      show (fld ((s.dev.chan ch).captured.getD 0 0) 15 0, cmdVersionQuery) ∈ commandTable
      rw [h]; exact List.mem_of_find?_eq_some (p := fun e => e.1 == 0x500) rfl
    decide +kernel
  · let ch : Nat := 4096
    let host : HostIO := ⟨true,true,true,[]⟩
    let s : State := st (cd { C0 with captured := frame 0x499, full := true })
    refine ⟨ch, host, s, ?_⟩
    exact by decide +kernel
  · let j : Job := jb
    let st : Status := .ok
    let ws : List W64 := [5, 6]
    let d : Dev := cd (ex C0)
    exact ⟨j, ws, by decide +kernel⟩
  · let j : Job := jb
    let st : Status := .ok
    let ws : List W64 := [5, 6]
    let d : Dev := cd (ex C0)
    exact ⟨j, ws, (7), by decide +kernel⟩
  · let j : Job := jb
    let st : Status := .ok
    let ws : List W64 := [5, 6]
    let d : Dev := cd (ex C0)
    exact ⟨j, ws, d, by decide +kernel⟩
  · let j : Job := jb
    let st : Status := .ok
    let ws : List W64 := [5, 6]
    let d : Dev := cd { ex C0 with current := some ⟨5, 0x500, 2⟩ }
    exact ⟨j, ws, d, by decide +kernel⟩

end MailboxesW

namespace LamplighterTimersW

def C0 : MbxChan := MbxChan.reset
def H0 : HistEntry := ⟨4, 0x500, 1, .ok, false, []⟩
def ex (c : MbxChan) : MbxChan := { c with executing := true, current := some ⟨4, 0x500, 1⟩, running := [4], deadline := 500, history := [⟨2, 3, 9, .ok, true, [5]⟩, H0] }
def cd (c : MbxChan) : Dev := up.setChan 4096 c
def jb : Job := job spec0500 4096 (rq [])
def rs (d : Dev) : Dev := { d with mgt := { d.mgt with deviceReset := some (jb, some 700) } }

/-- States and operands that meet the hypotheses of `Obligations.LamplighterTimers`, one part for each of its 10 cases that have hypotheses. -/
theorem witness_LamplighterTimers :
    (∃ ch : Nat, ∃ no : Nat, ∃ op : Nat, ∃ seq : BitVec 16, ∃ s : State, Wf.mailboxResponseTimeout ch = true ∧ (s.dev.chan ch).executing = true ∧ (s.dev.chan ch).current = some ⟨no, op, seq⟩) ∧
    (∃ pc : W64, ∃ s : State, Wf.firmwareWatchdog pc = true ∧ s.dev.mgt.fwUp = true) ∧
    (∃ v : BitVec 32, ∃ s : State, Wf.firmwareRestartComplete v = true ∧ s.dev.mgt.fwUp = false ∧ 4 ≤ s.dev.boot.stage ∧ s.dev.boot.stage ≤ 7 ∧ s.dev.boot.powerFail = false ∧ s.dev.jnl.inflight ≠ []) ∧
    (∃ v : BitVec 32, ∃ s : State, Wf.firmwareRestartComplete v = true ∧ s.dev.mgt.fwUp = false ∧ 4 ≤ s.dev.boot.stage ∧ s.dev.boot.stage ≤ 7 ∧ s.dev.boot.powerFail = false ∧ s.dev.jnl.inflight = []) ∧
    (∃ v : BitVec 32, ∃ s : State, Wf.firmwareRestartComplete v = true ∧ s.dev.mgt.fwUp = false ∧ 4 ≤ s.dev.boot.stage ∧ s.dev.boot.stage ≤ 7 ∧ s.dev.boot.powerFail = false ∧ s.dev.jnl.inflight = [] ∧ s.dev.mgt.chans = [] ∧ s.dev.mgt.deviceReset = none ∧ s.dev.str.nextCommit = none ∧ s.dev.str.commit = none ∧ s.dev.str.jobWait = none ∧ s.dev.str.buildWait = none ∧ ((∀ n ∈ s.dev.sliceList, (s.dev.slice n).quiesce.job = none ∧ (s.dev.slice n).quiesce.why ≠ .deviceReset)) ∧ ((∀ q, (s.dev.qp q).aborts = []))) ∧
    (∃ ch : Nat, ∃ d : Dev, (d.chan ch).executing = false) ∧
    (∃ j : Job, ∃ u : Time, ∃ s : State, Wf.deviceResetExecute = true ∧ s.dev.mgt.deviceReset = some (j, some u) ∧ (s.dev.chan j.ch).empty = true) ∧
    (∃ j : Job, ∃ u : Time, ∃ s : State, Wf.deviceResetExecute = true ∧ s.dev.mgt.deviceReset = some (j, some u) ∧ (s.dev.chan j.ch).empty = false) ∧
    (∃ j : Job, ∃ u : Time, ∃ s : State, Wf.deviceResetExecute = true ∧ s.dev.mgt.deviceReset = some (j, some u)) ∧
    (∃ j : Job, ∃ u : Time, ∃ s : State, ∃ p, Wf.deviceResetExecute = true ∧ s.dev.mgt.deviceReset = some (j, some u) ∧ p < 3) := by
  refine ⟨?_, ?_, ?_, ?_, ?_, ?_, ?_, ?_, ?_, ?_⟩
  · let ch : Nat := 4096
    let no : Nat := 4
    let op : Nat := 0x500
    let seq : BitVec 16 := 1
    let s : State := st (cd (ex C0))
    exact ⟨ch, no, op, seq, s, by decide +kernel⟩
  · let pc : W64 := 0x1234
    let s : State := st (cd (ex C0))
    exact ⟨pc, s, by decide +kernel⟩
  · let v : BitVec 32 := 77
    let s : State := st { up with jnl := { up.jnl with inflight := [{ seq := 1, typ := 5, subject := 0, time := 0, body := .slotFree, lines := 1, written := 0, then' := .nothing }] }, mgt := { Mgt.reset with fwUp := false }, boot := { Boot.reset with stage := 4, spiBusy := true } }
    exact ⟨v, s, by decide +kernel⟩
  · let v : BitVec 32 := 77
    let s : State := st { up with mgt := { Mgt.reset with fwUp := false, chans := [(4096, ex C0)] }, boot := { Boot.reset with stage := 4, spiBusy := true } }
    exact ⟨v, s, by decide +kernel⟩
  · let v : BitVec 32 := 77
    let s : State := st { up with mgt := { Mgt.reset with fwUp := false }, boot := { Boot.reset with stage := 4, spiBusy := true } }
    refine ⟨v, s, ?_⟩
    exact ⟨by decide +kernel, by decide +kernel, by decide +kernel, by decide +kernel, by decide +kernel, by decide +kernel, by decide +kernel, by decide +kernel, by decide +kernel, by decide +kernel, by decide +kernel, by decide +kernel, by decide +kernel, (fun q => rfl)⟩
  · let ch : Nat := 4096
    let d : Dev := cd { C0 with history := [H0] }
    exact ⟨ch, d, by decide +kernel⟩
  · let j : Job := jb
    let u : Time := 700
    let s : State := st (rs up)
    exact ⟨j, u, s, by decide +kernel⟩
  · let j : Job := jb
    let u : Time := 700
    let s : State := st (rs (cd { C0 with empty := false }))
    exact ⟨j, u, s, by decide +kernel⟩
  · let j : Job := jb
    let u : Time := 700
    let s : State := st (rs (cd { C0 with empty := false }))
    exact ⟨j, u, s, by decide +kernel⟩
  · let j : Job := jb
    let u : Time := 700
    let s : State := st (rs (cd { C0 with empty := false }))
    exact ⟨j, u, s, (0), by decide +kernel⟩

end LamplighterTimersW

namespace BindingsAndSemaphoresW

def W (off : Nat) (v : W64) : RegWrite := ⟨1, false, off, 8, v⟩

/-- States and operands that meet the hypotheses of `Obligations.BindingsAndSemaphores`, one part for each of its 9 cases that have hypotheses. -/
theorem witness_BindingsAndSemaphores :
    (∃ w : RegWrite, ∃ s : State, w.master = 1 ∧ w.len = 8 ∧ w.off = 15 * 2048 + 0x020 ∧ (let m := fld w.value 7 0; let c := s.dev.chan (4096 + m); (s.dev.mgt.bindLock = true ∨ m = 0 ∨ 240 ≤ m ∨ fld w.value 23 16 ≠ 1 ∨ c.full = true ∨ c.empty = false ∨ c.executing = true))) ∧
    (∃ w : RegWrite, ∃ s : State, w.master = 1 ∧ w.len = 8 ∧ w.off = 15 * 2048 + 0x020 ∧ (let m := fld w.value 7 0; let c := s.dev.chan (4096 + m); s.dev.mgt.bindLock = false ∧ 1 ≤ m ∧ m < 240 ∧ fld w.value 23 16 = 1 ∧ c.full = false ∧ c.empty = true ∧ c.executing = false)) ∧
    (∃ w : RegWrite, w.master = 1 ∧ w.len = 8 ∧ w.off = 15 * 2048 + 0x028) ∧
    (∃ ms : List (Nat × Bool), ∃ pre : List (Nat × Bool), ∃ post : List (Nat × Bool), ∃ a : Nat × Bool, ∃ k : Nat, ∃ s : State, ms = pre ++ a :: post ∧ Wf.semaphoreRead ms k = true ∧ ms.Pairwise (fun x y => x.1 < y.1) ∧ ((∀ e ∈ ms, semArrives s.dev k e = true)) ∧ ((∀ e ∈ pre, mayAcquire s.dev e.1 = false)) ∧ mayAcquire s.dev a.1 = true ∧ s.dev.semOwner k = 0) ∧
    (∃ ms : List (Nat × Bool), ∃ k : Nat, ∃ o : Nat, ∃ s : State, Wf.semaphoreRead ms k = true ∧ ms.Pairwise (fun x y => x.1 < y.1) ∧ ((∀ e ∈ ms, semArrives s.dev k e = true)) ∧ s.dev.semOwner k = o ∧ ((0 < o ∨ ∀ e ∈ ms, mayAcquire s.dev e.1 = false))) ∧
    (∃ m : Nat, ∃ half : Bool, ∃ k : Nat, ∃ s : State, Wf.semaphoreRead [(m, half)] k = true ∧ 8 ≤ m ∧ m ≤ 10 ∧ ((s.dev.port (m - 8)).link half).usable = false) ∧
    (∃ m : Nat, ∃ k : Nat, ∃ v : W64, ∃ viaAlias : Bool, ∃ s : State, Wf.semaphoreRelease m k v viaAlias = true ∧ (m < 8 ∨ 10 < m) ∧ s.dev.semOwner k = m ∧ fld v 7 0 = 0 ∧ viaAlias = false) ∧
    (∃ m : Nat, ∃ k : Nat, ∃ v : W64, ∃ viaAlias : Bool, ∃ s : State, Wf.semaphoreRelease m k v viaAlias = true ∧ (m < 8 ∨ 10 < m) ∧ (¬ (s.dev.semOwner k = m ∧ fld v 7 0 = 0 ∧ viaAlias = false))) ∧
    (∃ m : Nat, ∃ k : Nat, ∃ v : W64, ∃ viaAlias : Bool, Wf.semaphoreRelease m k v viaAlias = true ∧ 8 ≤ m ∧ m ≤ 10) := by
  refine ⟨?_, ?_, ?_, ?_, ?_, ?_, ?_, ?_, ?_⟩
  · let w : RegWrite := W (15 * 2048 + 0x020) 0x01010D00
    let s : State := st up
    exact ⟨w, s, by decide +kernel⟩
  · let w : RegWrite := W (15 * 2048 + 0x020) 0x01010D05
    let s : State := st up
    exact ⟨w, s, by decide +kernel⟩
  · let w : RegWrite := W (15 * 2048 + 0x028) 1
    let s : State := st up
    exact ⟨w, by decide +kernel⟩
  · let ms : List (Nat × Bool) := [(3, false), (18, false)]
    let pre : List (Nat × Bool) := []
    let post : List (Nat × Bool) := [(18, false)]
    let a : Nat × Bool := (3, false)
    let k : Nat := 127
    let s : State := st up
    exact ⟨ms, pre, post, a, k, s, by decide +kernel⟩
  · let ms : List (Nat × Bool) := [(3, false), (18, false)]
    let k : Nat := 127
    let o : Nat := 9
    let s : State := st (up.setSem 127 9)
    exact ⟨ms, k, o, s, by decide +kernel⟩
  · let m : Nat := 9
    let half : Bool := false
    let k : Nat := 127
    let s : State := st up
    exact ⟨m, half, k, s, by decide +kernel⟩
  · let m : Nat := 3
    let k : Nat := 127
    let v : W64 := 0
    let viaAlias : Bool := false
    let s : State := st (up.setSem 127 3)
    exact ⟨m, k, v, viaAlias, s, by decide +kernel⟩
  · let m : Nat := 3
    let k : Nat := 127
    let v : W64 := 1
    let viaAlias : Bool := false
    let s : State := st (up.setSem 127 3)
    exact ⟨m, k, v, viaAlias, s, by decide +kernel⟩
  · let m : Nat := 8
    let k : Nat := 127
    let v : W64 := 1
    let viaAlias : Bool := true
    let s : State := st up
    exact ⟨m, k, v, viaAlias, by decide +kernel⟩

end BindingsAndSemaphoresW

namespace GeneralCommandsW

def C0 : MbxChan := MbxChan.reset
def dv (n : BitVec 32) (fs : List FaultRec) : Dev := { up with mgt := { up.mgt with nextIndex := n, faults := fs } }
def fr (i : BitVec 32) : FaultRec := ⟨5, 1, 2, 3, 4, i, 6, 7⟩
def X : MbxChan := { C0 with history := [⟨2, 0x502, 9, .busy, true, []⟩] }

/-- States and operands that meet the hypotheses of `Obligations.GeneralCommands`, one part for each of its 16 cases that have hypotheses. -/
theorem witness_GeneralCommands :
    (∃ ch : Nat, ∃ r : Req, ∃ s : State, ∃ d : Dev, cmdWf ch r = true ∧ Accepted spec0000 ch r s.dev d) ∧
    (∃ ch : Nat, ∃ r : Req, ∃ s : State, ∃ d : Dev, cmdWf ch r = true ∧ Accepted spec0001 ch r s.dev d) ∧
    (∃ ch : Nat, ∃ r : Req, ∃ s : State, ∃ d : Dev, cmdWf ch r = true ∧ Accepted spec0002 ch r s.dev d ∧ (let n := fld (r.word 0) 12 0; let ms := fld (r.word 0) 22 16; n < 4352 ∧ 1 ≤ ms ∧ ms ≤ 100 ∧ (n = ch ∨ (4096 ≤ ch ∧ d.isInternal ch = false)))) ∧
    (∃ ch : Nat, ∃ r : Req, ∃ s : State, ∃ d : Dev, cmdWf ch r = true ∧ Accepted spec0002 ch r s.dev d ∧ (let n := fld (r.word 0) 12 0; let ms := fld (r.word 0) 22 16; (4352 ≤ n ∨ ms = 0 ∨ 100 < ms))) ∧
    (∃ ch : Nat, ∃ r : Req, ∃ s : State, ∃ d : Dev, cmdWf ch r = true ∧ Accepted spec0002 ch r s.dev d ∧ (let n := fld (r.word 0) 12 0; let ms := fld (r.word 0) 22 16; n < 4096 ∧ 1 ≤ ms ∧ ms ≤ 100 ∧ ch < 4096 ∧ n ≠ ch)) ∧
    (∃ ch : Nat, ∃ r : Req, ∃ s : State, ∃ d : Dev, ∃ h, cmdWf ch r = true ∧ (d.chan ch).history.find? (fun x => x.seq == BitVec.ofNat 16 (fld (r.word 0) 15 0)) = some h ∧ fld (r.word 0) 28 16 = ch ∧ Accepted spec0003 ch r s.dev d) ∧
    (∃ ch : Nat, ∃ r : Req, ∃ s : State, ∃ d : Dev, cmdWf ch r = true ∧ Accepted spec0004 ch r s.dev d ∧ (let ms := fld (r.word 0) 13 0; 10 ≤ ms ∧ ms ≤ 10000)) ∧
    (∃ ch : Nat, ∃ r : Req, ∃ s : State, ∃ d : Dev, cmdWf ch r = true ∧ Accepted spec0004 ch r s.dev d ∧ (let ms := fld (r.word 0) 13 0; (ms < 10 ∨ 10000 < ms))) ∧
    (∃ ch : Nat, ∃ r : Req, ∃ s : State, ∃ d : Dev, cmdWf ch r = true ∧ Accepted spec0005 ch r s.dev d ∧ (let first : BitVec 32 := BitVec.ofNat 32 (fld (r.word 0) 31 0); let n := fld (r.word 2) 10 0; let dist := (d.mgt.nextIndex - first).toNat; 1 ≤ n ∧ n ≤ 1024 ∧ fld (r.word 1) 2 0 = 0 ∧ (dist = 0 ∨ 2 ^ 31 ≤ dist))) ∧
    (∃ ch : Nat, ∃ r : Req, ∃ s : State, ∃ d : Dev, cmdWf ch r = true ∧ Accepted spec0005 ch r s.dev d ∧ (let first : BitVec 32 := BitVec.ofNat 32 (fld (r.word 0) 31 0); let n := fld (r.word 2) 10 0; let dist := (d.mgt.nextIndex - first).toNat; 1 ≤ n ∧ n ≤ 1024 ∧ fld (r.word 1) 2 0 = 0 ∧ 0 < dist ∧ dist < 2 ^ 31 ∧ (let k := if dist ≤ d.mgt.faults.length then dist else d.mgt.faults.length; let rs := (d.mgt.faults.drop (d.mgt.faults.length - k)).take n; (rs = [] ∨ bufferFault .timeout d ch r = none)))) ∧
    (∃ ch : Nat, ∃ r : Req, ∃ s : State, ∃ d : Dev, cmdWf ch r = true ∧ Accepted spec0005 ch r s.dev d ∧ (let first : BitVec 32 := BitVec.ofNat 32 (fld (r.word 0) 31 0); let n := fld (r.word 2) 10 0; let dist := (d.mgt.nextIndex - first).toNat; 1 ≤ n ∧ n ≤ 1024 ∧ fld (r.word 1) 2 0 = 0 ∧ 0 < dist ∧ dist < 2 ^ 31 ∧ (let k := if dist ≤ d.mgt.faults.length then dist else d.mgt.faults.length; let rs := (d.mgt.faults.drop (d.mgt.faults.length - k)).take n; rs ≠ [] ∧ bufferFault .timeout d ch r ≠ none))) ∧
    (∃ ch : Nat, ∃ r : Req, ∃ s : State, ∃ d : Dev, cmdWf ch r = true ∧ Accepted spec0006 ch r s.dev d ∧ (let k := fld (r.word 0) 6 0; d.semOwner k = 0)) ∧
    (∃ ch : Nat, ∃ r : Req, ∃ s : State, ∃ d : Dev, cmdWf ch r = true ∧ Accepted spec0006 ch r s.dev d ∧ (let k := fld (r.word 0) 6 0; d.semOwner k ≠ 0)) ∧
    (∃ ch : Nat, ∃ r : Req, ∃ s : State, ∃ d : Dev, cmdWf ch r = true ∧ bit (r.word 0) 0 = false ∧ Accepted spec0007 ch r s.dev d) ∧
    (∃ ch : Nat, ∃ r : Req, ∃ s : State, ∃ d : Dev, cmdWf ch r = true ∧ bit (r.word 0) 0 = true ∧ d.mgt.deviceReset ≠ none ∧ Accepted spec0007 ch r s.dev d) ∧
    (∃ ch : Nat, ∃ r : Req, ∃ s : State, ∃ d : Dev, cmdWf ch r = true ∧ bit (r.word 0) 0 = true ∧ d.mgt.deviceReset = none ∧ Accepted spec0007 ch r s.dev d) := by
  refine ⟨?_, ?_, ?_, ?_, ?_, ?_, ?_, ?_, ?_, ?_, ?_, ?_, ?_, ?_, ?_, ?_⟩
  · let ch : Nat := 4096
    let r : Req := rq []
    let s : State := st up
    let d : Dev := tk spec0000 r s.dev
    exact ⟨ch, r, s, d, by decide +kernel, ⟨(by decide +kernel), (by decide +kernel), rfl, (by decide +kernel)⟩⟩
  · let ch : Nat := 4096
    let r : Req := rq []
    let s : State := st up
    let d : Dev := tk spec0001 r s.dev
    exact ⟨ch, r, s, d, by decide +kernel, ⟨(by decide +kernel), (by decide +kernel), rfl, (by decide +kernel)⟩⟩
  · let ch : Nat := 4096
    let r : Req := rq [5 + 100 * 65536]
    let s : State := st up
    let d : Dev := tk spec0002 r s.dev
    exact ⟨ch, r, s, d, by decide +kernel, ⟨(by decide +kernel), (by decide +kernel), rfl, (by decide +kernel)⟩, by decide +kernel⟩
  · let ch : Nat := 4096
    let r : Req := rq [4352 + 10 * 65536]
    let s : State := st up
    let d : Dev := tk spec0002 r s.dev
    exact ⟨ch, r, s, d, by decide +kernel, ⟨(by decide +kernel), (by decide +kernel), rfl, (by decide +kernel)⟩, by decide +kernel⟩
  · let ch : Nat := 3
    let r : Req := rq [5 + 100 * 65536]
    let s : State := st ((up.setSlice 3 { Slice.free with state := .active }))
    let d : Dev := tkc 3 spec0002 r s.dev
    exact ⟨ch, r, s, d, by decide +kernel, ⟨(by decide +kernel), (by decide +kernel), rfl, (by decide +kernel)⟩, by decide +kernel⟩
  · let ch : Nat := 4096
    let r : Req := rq [9 + 4096 * 65536]
    let s : State := st (up.setChan 4096 X)
    let d : Dev := tk spec0003 r s.dev
    exact ⟨ch, r, s, d, (⟨2, 0x502, 9, .busy, true, []⟩), by decide +kernel, by decide +kernel, by decide +kernel, ⟨(by decide +kernel), (by decide +kernel), rfl, (by decide +kernel)⟩⟩
  · let ch : Nat := 4096
    let r : Req := rq [500]
    let s : State := st up
    let d : Dev := tk spec0004 r s.dev
    exact ⟨ch, r, s, d, by decide +kernel, ⟨(by decide +kernel), (by decide +kernel), rfl, (by decide +kernel)⟩, by decide +kernel⟩
  · let ch : Nat := 4096
    let r : Req := rq [9]
    let s : State := st up
    let d : Dev := tk spec0004 r s.dev
    exact ⟨ch, r, s, d, by decide +kernel, ⟨(by decide +kernel), (by decide +kernel), rfl, (by decide +kernel)⟩, by decide +kernel⟩
  · let ch : Nat := 4096
    let r : Req := rqi [7, 0, 3]
    let s : State := st (dv 5 [])
    let d : Dev := tk spec0005 r s.dev
    exact ⟨ch, r, s, d, by decide +kernel, ⟨(by decide +kernel), (by decide +kernel), rfl, (by decide +kernel)⟩, by decide +kernel⟩
  · let ch : Nat := 4096
    let r : Req := rqi [3, 0, 2]
    let s : State := st (dv 5 [fr 3, fr 4])
    let d : Dev := tk spec0005 r s.dev
    exact ⟨ch, r, s, d, by decide +kernel, ⟨(by decide +kernel), (by decide +kernel), rfl, (by decide +kernel)⟩, by decide +kernel⟩
  · let ch : Nat := 4096
    let r : Req := { rqi [3, 0, 2] with host := ⟨true, true, false, [3, 0, 2]⟩ }
    let s : State := st (dv 5 [fr 3, fr 4])
    let d : Dev := tk spec0005 r s.dev
    exact ⟨ch, r, s, d, by decide +kernel, ⟨(by decide +kernel), (by decide +kernel), rfl, (by decide +kernel)⟩, by decide +kernel⟩
  · let ch : Nat := 4096
    let r : Req := rq [127]
    let s : State := st (dv 5 [fr 3, fr 4])
    let d : Dev := tk spec0006 r s.dev
    exact ⟨ch, r, s, d, by decide +kernel, ⟨(by decide +kernel), (by decide +kernel), rfl, (by decide +kernel)⟩, by decide +kernel⟩
  · let ch : Nat := 4096
    let r : Req := rq [127]
    let s : State := st (up.setSem 127 9)
    let d : Dev := tk spec0006 r s.dev
    exact ⟨ch, r, s, d, by decide +kernel, ⟨(by decide +kernel), (by decide +kernel), rfl, (by decide +kernel)⟩, by decide +kernel⟩
  · let ch : Nat := 4096
    let r : Req := rq [0]
    let s : State := st up
    let d : Dev := tk spec0007 r s.dev
    exact ⟨ch, r, s, d, by decide +kernel, by decide +kernel, ⟨(by decide +kernel), (by decide +kernel), rfl, (by decide +kernel)⟩⟩
  · let ch : Nat := 4096
    let r : Req := rq [1]
    let s : State := st { up with mgt := { up.mgt with deviceReset := some (job spec0007 4099 (rq []), none) } }
    let d : Dev := tk spec0007 r s.dev
    exact ⟨ch, r, s, d, by decide +kernel, by decide +kernel, by decide +kernel, ⟨(by decide +kernel), (by decide +kernel), rfl, (by decide +kernel)⟩⟩
  · let ch : Nat := 4096
    let r : Req := rq [1]
    let s : State := st up
    let d : Dev := tk spec0007 r s.dev
    exact ⟨ch, r, s, d, by decide +kernel, by decide +kernel, by decide +kernel, ⟨(by decide +kernel), (by decide +kernel), rfl, (by decide +kernel)⟩⟩

end GeneralCommandsW

namespace SliceCreateResizeQueryW

def P1 : List W64 := [16 + 8 * 65536 + (8 <<< 32) + (4 <<< 48), 4 + (2 <<< 32) + (2 <<< 48) + (3 <<< 56), 50 + 20 * 65536]
def cr (sl port : W64) (p : List W64) : Req := rq ((sl + port * 4096 + (77 <<< 20)) :: p)
def ac : Slice := { Slice.free with state := .active, pasid := 5, profile := profileOf (cr 3 0 P1) }
def one (x : Slice) : Dev := up.setSlice 3 x
def bigS : Slice := { ac with pasid := 6, profile := { ac.profile with queuePairs := 262140 } }

/-- States and operands that meet the hypotheses of `Obligations.SliceCreateResizeQuery`, one part for each of its 10 cases that have hypotheses. -/
theorem witness_SliceCreateResizeQuery :
    (∃ ch : Nat, ∃ r : Req, ∃ s : State, ∃ d : Dev, cmdWf ch r = true ∧ Accepted spec0100 ch r s.dev d ∧ (let w := r.word 0; let sl := fld w 11 0; let p := profileOf r; d.jnl.replaying = none ∧ (let port := fld w 13 12; let half := bit w 14; let c1 := profileOk p = true ∧ sl ≠ 0 ∧ port < 3 ∧ (half = true → (d.port port).bifurcated = true); ¬ c1))) ∧
    (∃ ch : Nat, ∃ r : Req, ∃ s : State, ∃ d : Dev, cmdWf ch r = true ∧ Accepted spec0100 ch r s.dev d ∧ (let w := r.word 0; let sl := fld w 11 0; let x := d.slice sl; let p := profileOf r; d.jnl.replaying = none ∧ (let port := fld w 13 12; let half := bit w 14; let c1 := profileOk p = true ∧ sl ≠ 0 ∧ port < 3 ∧ (half = true → (d.port port).bifurcated = true); let c2 := x.state = .free ∧ sliceBusy d sl = false ∧ d.mgt.deviceReset = none ∧ ((d.port port).link half).up = true; c1 ∧ ¬ c2))) ∧
    (∃ ch : Nat, ∃ r : Req, ∃ s : State, ∃ d : Dev, cmdWf ch r = true ∧ Accepted spec0100 ch r s.dev d ∧ (let w := r.word 0; let sl := fld w 11 0; let x := d.slice sl; let p := profileOf r; d.jnl.replaying = none ∧ (let port := fld w 13 12; let half := bit w 14; let pasid : BitVec 20 := BitVec.ofNat 20 (fld w 39 20); let c1 := profileOk p = true ∧ sl ≠ 0 ∧ port < 3 ∧ (half = true → (d.port port).bifurcated = true); let c2 := x.state = .free ∧ sliceBusy d sl = false ∧ d.mgt.deviceReset = none ∧ ((d.port port).link half).up = true; c1 ∧ c2 ∧ bindingUsed d port half pasid = true))) ∧
    (∃ ch : Nat, ∃ r : Req, ∃ s : State, ∃ d : Dev, cmdWf ch r = true ∧ Accepted spec0100 ch r s.dev d ∧ (let w := r.word 0; let sl := fld w 11 0; let x := d.slice sl; let p := profileOf r; d.jnl.replaying = none ∧ (let port := fld w 13 12; let half := bit w 14; let pasid : BitVec 20 := BitVec.ofNat 20 (fld w 39 20); let c1 := profileOk p = true ∧ sl ≠ 0 ∧ port < 3 ∧ (half = true → (d.port port).bifurcated = true); let c2 := x.state = .free ∧ sliceBusy d sl = false ∧ d.mgt.deviceReset = none ∧ ((d.port port).link half).up = true; c1 ∧ c2 ∧ bindingUsed d port half pasid = false ∧ poolsCover d sl p = false))) ∧
    (∃ ch : Nat, ∃ r : Req, ∃ s : State, ∃ d : Dev, ∃ e, cmdWf ch r = true ∧ Accepted spec0100 ch r s.dev d ∧ (let w := r.word 0; let sl := fld w 11 0; let x := d.slice sl; let p := profileOf r; d.jnl.replaying = none ∧ (let port := fld w 13 12; let half := bit w 14; let pasid : BitVec 20 := BitVec.ofNat 20 (fld w 39 20); let c1 := profileOk p = true ∧ sl ≠ 0 ∧ port < 3 ∧ (half = true → (d.port port).bifurcated = true); let c2 := x.state = .free ∧ sliceBusy d sl = false ∧ d.mgt.deviceReset = none ∧ ((d.port port).link half).up = true; c1 ∧ c2 ∧ bindingUsed d port half pasid = false ∧ poolsCover d sl p = true ∧ Recorded spec0100 ch r sl [] d e))) ∧
    (∃ ch : Nat, ∃ r : Req, ∃ s : State, ∃ d : Dev, cmdWf ch r = true ∧ Accepted spec0101 ch r s.dev d ∧ (let w := r.word 0; let sl := fld w 11 0; let x := d.slice sl; let p := profileOf r; d.jnl.replaying = none ∧ (let c1 := x.state ≠ .free ∧ profileOk p = true; ¬ c1))) ∧
    (∃ ch : Nat, ∃ r : Req, ∃ s : State, ∃ d : Dev, cmdWf ch r = true ∧ Accepted spec0101 ch r s.dev d ∧ (let w := r.word 0; let sl := fld w 11 0; let x := d.slice sl; let p := profileOf r; d.jnl.replaying = none ∧ (let c1 := x.state ≠ .free ∧ profileOk p = true; let c2 := x.state ≠ .quiescing ∧ x.state ≠ .forcing ∧ x.state ≠ .resetting ∧ coversUse d sl p = true ∧ sliceBusy d sl = false ∧ d.mgt.deviceReset = none; c1 ∧ ¬ c2))) ∧
    (∃ ch : Nat, ∃ r : Req, ∃ s : State, ∃ d : Dev, cmdWf ch r = true ∧ Accepted spec0101 ch r s.dev d ∧ (let w := r.word 0; let sl := fld w 11 0; let x := d.slice sl; let p := profileOf r; d.jnl.replaying = none ∧ (let c1 := x.state ≠ .free ∧ profileOk p = true; let c2 := x.state ≠ .quiescing ∧ x.state ≠ .forcing ∧ x.state ≠ .resetting ∧ coversUse d sl p = true ∧ sliceBusy d sl = false ∧ d.mgt.deviceReset = none; let c3 := poolsCover d sl p = true ∧ (p.threadSlots ≤ x.profile.threadSlots ∨ slotsCover d sl p.threadSlots = true); c1 ∧ c2 ∧ ¬ c3))) ∧
    (∃ ch : Nat, ∃ r : Req, ∃ s : State, ∃ d : Dev, ∃ e, cmdWf ch r = true ∧ Accepted spec0101 ch r s.dev d ∧ (let w := r.word 0; let sl := fld w 11 0; let x := d.slice sl; let p := profileOf r; d.jnl.replaying = none ∧ (let c1 := x.state ≠ .free ∧ profileOk p = true; let c2 := x.state ≠ .quiescing ∧ x.state ≠ .forcing ∧ x.state ≠ .resetting ∧ coversUse d sl p = true ∧ sliceBusy d sl = false ∧ d.mgt.deviceReset = none; let c3 := poolsCover d sl p = true ∧ (p.threadSlots ≤ x.profile.threadSlots ∨ slotsCover d sl p.threadSlots = true); c1 ∧ c2 ∧ c3 ∧ Recorded spec0101 ch r sl [] d e))) ∧
    (∃ ch : Nat, ∃ r : Req, ∃ s : State, ∃ d : Dev, cmdWf ch r = true ∧ Accepted spec0102 ch r s.dev d ∧ (let w := r.word 0; let sl := fld w 11 0; let x := d.slice sl; ((4096 ≤ ch ∨ ch = sl)) ∧ x.state ≠ .free ∧ d.slicePort sl < 3)) := by
  refine ⟨?_, ?_, ?_, ?_, ?_, ?_, ?_, ?_, ?_, ?_⟩
  · let ch : Nat := 4096
    let r : Req := cr 3 3 P1
    let s : State := st up
    let d : Dev := tk spec0100 r s.dev
    exact ⟨ch, r, s, d, by decide +kernel, ⟨(by decide +kernel), (by decide +kernel), rfl, (by decide +kernel)⟩, by decide +kernel⟩
  · let ch : Nat := 4096
    let r : Req := cr 3 1 P1
    let s : State := st up
    let d : Dev := tk spec0100 r s.dev
    exact ⟨ch, r, s, d, by decide +kernel, ⟨(by decide +kernel), (by decide +kernel), rfl, (by decide +kernel)⟩, by decide +kernel⟩
  · let ch : Nat := 4096
    let r : Req := cr 3 0 P1
    let s : State := st (up.setSlice 4 { ac with pasid := 77 })
    let d : Dev := tk spec0100 r s.dev
    let w := r.word 0
    let pasid : BitVec 20 := BitVec.ofNat 20 (fld w 39 20)
    exact ⟨ch, r, s, d, by decide +kernel, ⟨(by decide +kernel), (by decide +kernel), rfl, (by decide +kernel)⟩, by decide +kernel⟩
  · let ch : Nat := 4096
    let r : Req := cr 3 0 P1
    let s : State := st (up.setSlice 4 bigS)
    let d : Dev := tk spec0100 r s.dev
    exact ⟨ch, r, s, d, by decide +kernel, ⟨(by decide +kernel), (by decide +kernel), rfl, (by decide +kernel)⟩, by decide +kernel⟩
  · let ch : Nat := 4096
    let r : Req := cr 3 0 P1
    let s : State := st up
    let d : Dev := tk spec0100 r s.dev
    exact ⟨ch, r, s, d, (recd spec0100 ch r 3 [] d), by decide +kernel, ⟨(by decide +kernel), (by decide +kernel), rfl, (by decide +kernel)⟩, by delta Recorded; decide +kernel⟩
  · let ch : Nat := 4096
    let r : Req := rq ([3] ++ P1)
    let s : State := st up
    let d : Dev := tk spec0101 r s.dev
    exact ⟨ch, r, s, d, by decide +kernel, ⟨(by decide +kernel), (by decide +kernel), rfl, (by decide +kernel)⟩, by decide +kernel⟩
  · let ch : Nat := 4096
    let r : Req := rq ([3] ++ P1)
    let s : State := st (one { ac with state := .resetting })
    let d : Dev := tk spec0101 r s.dev
    exact ⟨ch, r, s, d, by decide +kernel, ⟨(by decide +kernel), (by decide +kernel), rfl, (by decide +kernel)⟩, by decide +kernel⟩
  · let ch : Nat := 4096
    let r : Req := rq ([3] ++ P1)
    let s : State := st (one ac |>.setSlice 4 bigS)
    let d : Dev := tk spec0101 r s.dev
    exact ⟨ch, r, s, d, by decide +kernel, ⟨(by decide +kernel), (by decide +kernel), rfl, (by decide +kernel)⟩, by decide +kernel⟩
  · let ch : Nat := 4096
    let r : Req := rq ([3] ++ P1)
    let s : State := st (one { ac with profile := { ac.profile with weight := 7, vectors := 20 } } |>.setVec 3 9 { Vec.reset with address := 8, data := 7 })
    let d : Dev := tk spec0101 r s.dev
    exact ⟨ch, r, s, d, (recd spec0101 ch r 3 [] d), by decide +kernel, ⟨(by decide +kernel), (by decide +kernel), rfl, (by decide +kernel)⟩, by delta Recorded; decide +kernel⟩
  · let ch : Nat := 4096
    let r : Req := rqi [3]
    let s : State := st (one ac)
    let d : Dev := tk spec0102 r s.dev
    exact ⟨ch, r, s, d, by decide +kernel, ⟨(by decide +kernel), (by decide +kernel), rfl, (by decide +kernel)⟩, by decide +kernel⟩

end SliceCreateResizeQueryW

namespace QuiesceW

def ac : Slice := { Slice.free with state := .active, pasid := 5, profile := { Profile.slice0 with queuePairs := 16, vectors := 8 } }
def one (x : Slice) : Dev := up.setSlice 3 x
def q0 : Quiesce := { Quiesce.none with step := 3, start := 5, timeoutMs := 10, job := some (job spec0103 4096 (rq [])) }
def mk : Marker := ⟨true, 3, 0, 5, 0⟩
def mks (u : Nat) (x : Slice) : Dev := { one x with fabric := { up.fabric with markers := (feeders u).map (fun v => (u, v, mk)) } }
def qg (st : SliceState) (q : Quiesce) : Slice := { ac with state := st, quiesce := q }

/-- States and operands that meet the hypotheses of `Obligations.Quiesce`, one part for each of its 28 cases that have hypotheses. -/
theorem witness_Quiesce :
    (∃ ch : Nat, ∃ r : Req, ∃ s : State, ∃ d : Dev, cmdWf ch r = true ∧ Accepted spec0103 ch r s.dev d ∧ (let w := r.word 0; let sl := fld w 11 0; let x := d.slice sl; (sl = 0 ∨ x.state = .free ∨ 1000 < fld w 25 16))) ∧
    (∃ ch : Nat, ∃ r : Req, ∃ s : State, ∃ d : Dev, cmdWf ch r = true ∧ Accepted spec0103 ch r s.dev d ∧ (let w := r.word 0; let sl := fld w 11 0; let x := d.slice sl; sl ≠ 0 ∧ x.state ≠ .free ∧ fld w 25 16 ≤ 1000 ∧ sliceIdle d sl = false)) ∧
    (∃ ch : Nat, ∃ r : Req, ∃ s : State, ∃ d : Dev, cmdWf ch r = true ∧ Accepted spec0103 ch r s.dev d ∧ (let w := r.word 0; let sl := fld w 11 0; let x := d.slice sl; sl ≠ 0 ∧ fld w 25 16 ≤ 1000 ∧ sliceIdle d sl = true ∧ x.state = .quiesced)) ∧
    (∃ ch : Nat, ∃ r : Req, ∃ s : State, ∃ d : Dev, cmdWf ch r = true ∧ Accepted spec0103 ch r s.dev d ∧ (let w := r.word 0; let sl := fld w 11 0; let x := d.slice sl; sl ≠ 0 ∧ fld w 25 16 ≤ 1000 ∧ sliceIdle d sl = true ∧ (x.state = .active ∨ x.state = .halted))) ∧
    (∃ ch : Nat, ∃ r : Req, ∃ s : State, ∃ d : Dev, cmdWf ch r = true ∧ Accepted spec0104 ch r s.dev d ∧ (let w := r.word 0; let sl := fld w 11 0; (sl = 0 ∨ (ch < 4096 ∧ ch ≠ sl)))) ∧
    (∃ ch : Nat, ∃ r : Req, ∃ s : State, ∃ d : Dev, cmdWf ch r = true ∧ Accepted spec0104 ch r s.dev d ∧ (let w := r.word 0; let sl := fld w 11 0; let x := d.slice sl; sl ≠ 0 ∧ ((4096 ≤ ch ∨ ch = sl)) ∧ x.state ≠ .free ∧ fld w 25 16 ≤ 1000 ∧ sliceIdle d sl = false)) ∧
    (∃ ch : Nat, ∃ r : Req, ∃ s : State, ∃ d : Dev, cmdWf ch r = true ∧ Accepted spec0104 ch r s.dev d ∧ (let w := r.word 0; let sl := fld w 11 0; let x := d.slice sl; sl ≠ 0 ∧ ((4096 ≤ ch ∨ ch = sl)) ∧ x.state ≠ .free ∧ fld w 25 16 ≤ 1000 ∧ sliceIdle d sl = true ∧ Jnl.takes d.jnl 6 (recLines 32) = false)) ∧
    (∃ ch : Nat, ∃ r : Req, ∃ s : State, ∃ d : Dev, cmdWf ch r = true ∧ Accepted spec0104 ch r s.dev d ∧ (let w := r.word 0; let sl := fld w 11 0; let x := d.slice sl; sl ≠ 0 ∧ ((4096 ≤ ch ∨ ch = sl)) ∧ x.state ≠ .free ∧ fld w 25 16 ≤ 1000 ∧ sliceIdle d sl = true ∧ Jnl.takes d.jnl 6 (recLines 32) = true ∧ (x.state = .active ∨ x.state = .halted))) ∧
    (∃ ch : Nat, ∃ r : Req, ∃ s : State, ∃ d : Dev, cmdWf ch r = true ∧ Accepted spec0104 ch r s.dev d ∧ (let w := r.word 0; let sl := fld w 11 0; let x := d.slice sl; sl ≠ 0 ∧ ((4096 ≤ ch ∨ ch = sl)) ∧ x.state ≠ .free ∧ fld w 25 16 ≤ 1000 ∧ sliceIdle d sl = true ∧ Jnl.takes d.jnl 6 (recLines 32) = true ∧ x.state = .quiesced)) ∧
    (∃ ch : Nat, ∃ r : Req, ∃ s : State, ∃ d : Dev, cmdWf ch r = true ∧ Accepted spec0105 ch r s.dev d ∧ (let w := r.word 0; let sl := fld w 11 0; sl = 0)) ∧
    (∃ ch : Nat, ∃ r : Req, ∃ s : State, ∃ d : Dev, cmdWf ch r = true ∧ Accepted spec0105 ch r s.dev d ∧ (let w := r.word 0; let sl := fld w 11 0; let x := d.slice sl; sl ≠ 0 ∧ x.state ≠ .free ∧ fld w 25 16 ≤ 1000 ∧ sliceIdle d sl = true ∧ Jnl.takes d.jnl 6 (recLines 32) = false)) ∧
    (∃ ch : Nat, ∃ r : Req, ∃ s : State, ∃ d : Dev, cmdWf ch r = true ∧ Accepted spec0105 ch r s.dev d ∧ (let w := r.word 0; let sl := fld w 11 0; let x := d.slice sl; sl ≠ 0 ∧ x.state ≠ .free ∧ fld w 25 16 ≤ 1000 ∧ sliceIdle d sl = true ∧ Jnl.takes d.jnl 6 (recLines 32) = true ∧ (x.state = .active ∨ x.state = .halted))) ∧
    (∃ ch : Nat, ∃ r : Req, ∃ s : State, ∃ d : Dev, cmdWf ch r = true ∧ Accepted spec0105 ch r s.dev d ∧ (let w := r.word 0; let sl := fld w 11 0; let x := d.slice sl; sl ≠ 0 ∧ x.state ≠ .free ∧ fld w 25 16 ≤ 1000 ∧ sliceIdle d sl = true ∧ Jnl.takes d.jnl 6 (recLines 32) = true ∧ x.state = .quiesced)) ∧
    (∃ u : Nat, ∃ sl : Nat, ∃ s : State, ∃ m, Wf.sliceDrainMarkerPass u sl = true ∧ (s.dev.slice sl).quiesce.qdeMarked = true ∧ heldMarker s.dev u true sl = some m ∧ holdsMarkers s.dev u m = true ∧ unitClear s.dev u (fun t => t.slice.toNat == sl) = true) ∧
    (∃ u : Nat, ∃ sl : Nat, ∃ s : State, ∃ m, Wf.sliceDrainMarkerPass u sl = true ∧ (s.dev.slice sl).quiesce.qdeMarked = true ∧ heldMarker s.dev u true sl = some m ∧ ((holdsMarkers s.dev u m = false ∨ unitClear s.dev u (fun t => t.slice.toNat == sl) = false))) ∧
    (∃ sl : Nat, ∃ s : State, Wf.quiesceDrained sl = true ∧ (let x := s.dev.slice sl; x.state = .quiescing ∧ x.quiesce.step < 4 ∧ quiesceSettled s.dev sl = false)) ∧
    (∃ sl : Nat, ∃ s : State, Wf.quiesceDrained sl = true ∧ (let x := s.dev.slice sl; (x.state = .forcing ∨ x.state = .quiescing ∧ quiesceSettled s.dev sl = true) ∧ x.quiesce.step < 4)) ∧
    (∃ sl : Nat, ∃ s : State, Wf.quiesceDrained sl = true ∧ (let x := s.dev.slice sl; (x.state = .forcing ∨ x.state = .quiescing) ∧ 4 ≤ x.quiesce.step ∧ sl ∈ s.dev.tmg.out ∧ s.dev.mgt.deviceReset = none)) ∧
    (∃ sl : Nat, ∃ s : State, Wf.quiesceDrained sl = true ∧ (let x := s.dev.slice sl; (x.state = .forcing ∨ x.state = .quiescing) ∧ 4 ≤ x.quiesce.step ∧ sl ∉ s.dev.tmg.out)) ∧
    (∃ sl : Nat, ∃ d : Dev, ∃ j, sl ≠ 0 ∧ (d.slice sl).quiesce.why = .quiesce ∧ (d.slice sl).quiesce.job = some j ∧ j.indirect = false) ∧
    (∃ sl : Nat, ∃ d : Dev, ∃ j, sl ≠ 0 ∧ (d.slice sl).quiesce.why = .quiesce ∧ (d.slice sl).quiesce.job = some j ∧ j.indirect = false ∧ (d.chan j.ch).executing = true ∧ (d.chan j.ch).current = some ⟨j.no, j.opcode, j.seq⟩) ∧
    (∃ sl : Nat, ∃ s : State, Wf.quiesceTimeout sl = true ∧ (let x := s.dev.slice sl; x.state ≠ .quiescing)) ∧
    (∃ sl : Nat, ∃ s : State, Wf.quiesceTimeout sl = true ∧ (let x := s.dev.slice sl; x.state = .quiescing ∧ x.quiesce.forced = false)) ∧
    (∃ sl : Nat, sl < 4096) ∧
    (∃ sl : Nat, ∃ d : Dev, ∃ q, sl < 4096 ∧ q ∉ d.qpsOf sl) ∧
    (∃ sl : Nat, ∃ v, sl < 4096 ∧ v < 64) ∧
    (∃ sl : Nat, ∃ settings : Bool, sl < 4096 ∧ settings = true) ∧
    (∃ sl : Nat, ∃ settings : Bool, sl < 4096 ∧ settings = false) := by
  refine ⟨?_, ?_, ?_, ?_, ?_, ?_, ?_, ?_, ?_, ?_, ?_, ?_, ?_, ?_, ?_, ?_, ?_, ?_, ?_, ?_, ?_, ?_, ?_, ?_, ?_, ?_, ?_, ?_⟩
  · let ch : Nat := 4096
    let r : Req := rq [0]
    let s : State := st up
    let d : Dev := tk spec0103 r s.dev
    exact ⟨ch, r, s, d, by decide +kernel, ⟨(by decide +kernel), (by decide +kernel), rfl, (by decide +kernel)⟩, by decide +kernel⟩
  · let ch : Nat := 4096
    let r : Req := rq [3 + 1000 * 65536]
    let s : State := st (one (qg .quiescing q0))
    let d : Dev := tk spec0103 r s.dev
    exact ⟨ch, r, s, d, by decide +kernel, ⟨(by decide +kernel), (by decide +kernel), rfl, (by decide +kernel)⟩, by decide +kernel⟩
  · let ch : Nat := 4096
    let r : Req := rq [3 + 1000 * 65536]
    let s : State := st (one { ac with state := .quiesced })
    let d : Dev := tk spec0103 r s.dev
    exact ⟨ch, r, s, d, by decide +kernel, ⟨(by decide +kernel), (by decide +kernel), rfl, (by decide +kernel)⟩, by decide +kernel⟩
  · let ch : Nat := 4096
    let r : Req := rq [3 + 1000 * 65536]
    let s : State := st (one ac)
    let d : Dev := tk spec0103 r s.dev
    exact ⟨ch, r, s, d, by decide +kernel, ⟨(by decide +kernel), (by decide +kernel), rfl, (by decide +kernel)⟩, by decide +kernel⟩
  · let ch : Nat := 4096
    let r : Req := rq [0]
    let s : State := st (one ac)
    let d : Dev := tk spec0104 r s.dev
    exact ⟨ch, r, s, d, by decide +kernel, ⟨(by decide +kernel), (by decide +kernel), rfl, (by decide +kernel)⟩, by decide +kernel⟩
  · let ch : Nat := 4096
    let r : Req := rq [3]
    let s : State := st (one (qg .quiescing q0))
    let d : Dev := tk spec0104 r s.dev
    exact ⟨ch, r, s, d, by decide +kernel, ⟨(by decide +kernel), (by decide +kernel), rfl, (by decide +kernel)⟩, by decide +kernel⟩
  · let ch : Nat := 4096
    let r : Req := rq [3]
    let s : State := st { one ac with jnl := { up.jnl with stopped := true } }
    let d : Dev := tk spec0104 r s.dev
    exact ⟨ch, r, s, d, by decide +kernel, ⟨(by decide +kernel), (by decide +kernel), rfl, (by decide +kernel)⟩, by decide +kernel⟩
  · let ch : Nat := 3
    let r : Req := rqi [3 + 20 * 65536]
    let s : State := st (one ac)
    let d : Dev := tkc 3 spec0104 r s.dev
    exact ⟨ch, r, s, d, by decide +kernel, ⟨(by decide +kernel), (by decide +kernel), rfl, (by decide +kernel)⟩, by decide +kernel⟩
  · let ch : Nat := 4096
    let r : Req := rq [3]
    let s : State := st (one { ac with state := .quiesced })
    let d : Dev := tk spec0104 r s.dev
    exact ⟨ch, r, s, d, by decide +kernel, ⟨(by decide +kernel), (by decide +kernel), rfl, (by decide +kernel)⟩, by decide +kernel⟩
  · let ch : Nat := 4096
    let r : Req := rq [0]
    let s : State := st (one { ac with state := .quiesced })
    let d : Dev := tk spec0105 r s.dev
    exact ⟨ch, r, s, d, by decide +kernel, ⟨(by decide +kernel), (by decide +kernel), rfl, (by decide +kernel)⟩, by decide +kernel⟩
  · let ch : Nat := 4096
    let r : Req := rq [3]
    let s : State := st { one ac with jnl := { up.jnl with stopped := true } }
    let d : Dev := tk spec0105 r s.dev
    exact ⟨ch, r, s, d, by decide +kernel, ⟨(by decide +kernel), (by decide +kernel), rfl, (by decide +kernel)⟩, by decide +kernel⟩
  · let ch : Nat := 4096
    let r : Req := rq [3]
    let s : State := st (one { ac with state := .halted })
    let d : Dev := tk spec0105 r s.dev
    exact ⟨ch, r, s, d, by decide +kernel, ⟨(by decide +kernel), (by decide +kernel), rfl, (by decide +kernel)⟩, by decide +kernel⟩
  · let ch : Nat := 4096
    let r : Req := rq [3]
    let s : State := st (one { ac with state := .quiesced })
    let d : Dev := tk spec0105 r s.dev
    exact ⟨ch, r, s, d, by decide +kernel, ⟨(by decide +kernel), (by decide +kernel), rfl, (by decide +kernel)⟩, by decide +kernel⟩
  · let u : Nat := 13
    let sl : Nat := 3
    let s : State := st (mks 13 (qg .quiescing { q0 with qdeMarked := true }))
    exact ⟨u, sl, s, (mk), by decide +kernel⟩
  · let u : Nat := 13
    let sl : Nat := 3
    let s : State := st (one (qg .quiescing { q0 with qdeMarked := true }) |> fun d => { d with fabric := { d.fabric with markers := [(13, 99, mk)] } })
    exact ⟨u, sl, s, (mk), by decide +kernel⟩
  · let sl : Nat := 3
    let s : State := st (one (qg .quiescing { q0 with step := 0 }))
    exact ⟨sl, s, by decide +kernel⟩
  · let sl : Nat := 3
    let s : State := st (one (qg .forcing q0))
    exact ⟨sl, s, by decide +kernel⟩
  · let sl : Nat := 3
    let s : State := st ((one (qg .forcing { q0 with step := 6 })) |> fun d => { d with tmg := { d.tmg with out := [3] } })
    exact ⟨sl, s, by decide +kernel⟩
  · let sl : Nat := 3
    let s : State := st ((one (qg .forcing { q0 with step := 6 })))
    exact ⟨sl, s, by decide +kernel⟩
  · let sl : Nat := 3
    let d : Dev := one (qg .forcing { q0 with step := 6 })
    exact ⟨sl, d, (job spec0103 4096 (rq [])), by decide +kernel⟩
  · let sl : Nat := 3
    let d : Dev := tk spec0103 (rq []) (one (qg .forcing { q0 with step := 6, withdrawn := 9, job := some { job spec0103 4096 (rq []) with no := 1 } }))
    exact ⟨sl, d, ({ job spec0103 4096 (rq []) with no := 1 }), by decide +kernel⟩
  · let sl : Nat := 3
    let s : State := st (one ac)
    exact ⟨sl, s, by decide +kernel⟩
  · let sl : Nat := 3
    let s : State := st (one (qg .quiescing q0))
    exact ⟨sl, s, by decide +kernel⟩
  · let sl : Nat := 3
    let settings : Bool := true
    let d : Dev := ((one (qg .resetting q0)).setQp 9 { QueuePair.none with valid := true, slice := 3 }).setVec 3 5 { Vec.reset with mask := false, countMax := 4, address := 16 }
    exact ⟨sl, by decide +kernel⟩
  · let sl : Nat := 3
    let settings : Bool := true
    let d : Dev := ((one (qg .resetting q0)).setQp 9 { QueuePair.none with valid := true, slice := 3 }).setVec 3 5 { Vec.reset with mask := false, countMax := 4, address := 16 }
    exact ⟨sl, d, (10), by decide +kernel⟩
  · let sl : Nat := 3
    let settings : Bool := true
    let d : Dev := ((one (qg .resetting q0)).setQp 9 { QueuePair.none with valid := true, slice := 3 }).setVec 3 5 { Vec.reset with mask := false, countMax := 4, address := 16 }
    exact ⟨sl, (5), by decide +kernel⟩
  · let sl : Nat := 3
    let settings : Bool := true
    let d : Dev := ((one (qg .resetting q0)).setQp 9 { QueuePair.none with valid := true, slice := 3 }).setVec 3 5 { Vec.reset with mask := false, countMax := 4, address := 16 }
    exact ⟨sl, settings, by decide +kernel⟩
  · let sl : Nat := 3
    let settings : Bool := false
    let d : Dev := ((one (qg .resetting q0)).setQp 9 { QueuePair.none with valid := true, slice := 3 }).setVec 3 5 { Vec.reset with mask := false, countMax := 4, address := 16 }
    exact ⟨sl, settings, by decide +kernel⟩

end QuiesceW

namespace InterruptsW

def ac : Slice := { Slice.free with state := .active, pasid := 5, profile := { Profile.slice0 with queuePairs := 16, vectors := 8 } }
def one : Dev := up.setSlice 3 ac
def hp := up.port 0
def lk (f : HostLink → HostLink) : Dev := up.setPort 0 { hp with linkA := f { hp.linkA with msixEnable := true } }

/-- States and operands that meet the hypotheses of `Obligations.Interrupts`, one part for each of its 24 cases that have hypotheses. -/
theorem witness_Interrupts :
    (∃ ch : Nat, ∃ r : Req, ∃ s : State, ∃ d : Dev, cmdWf ch r = true ∧ d.mgt.deviceReset = none ∧ Accepted spec0110 ch r s.dev d ∧ (let w := r.word 0; let sl := fld w 11 0; let v := fld w 21 16; ((d.slice sl).profile.vectors ≤ v ∨ fld (r.word 1) 1 0 ≠ 0))) ∧
    (∃ ch : Nat, ∃ r : Req, ∃ s : State, ∃ d : Dev, cmdWf ch r = true ∧ d.mgt.deviceReset = none ∧ Accepted spec0110 ch r s.dev d ∧ (let w := r.word 0; let sl := fld w 11 0; let v := fld w 21 16; v < (d.slice sl).profile.vectors ∧ fld (r.word 1) 1 0 = 0 ∧ sliceBusy d sl = true)) ∧
    (∃ ch : Nat, ∃ r : Req, ∃ s : State, ∃ d : Dev, ∃ e : Dev, cmdWf ch r = true ∧ d.mgt.deviceReset = none ∧ Accepted spec0110 ch r s.dev d ∧ (let w := r.word 0; let sl := fld w 11 0; let v := fld w 21 16; v < (d.slice sl).profile.vectors ∧ fld (r.word 1) 1 0 = 0 ∧ sliceBusy d sl = false ∧ Recorded spec0110 ch r (64 * sl + v) [] d e)) ∧
    (∃ ch : Nat, ∃ r : Req, ∃ s : State, ∃ d : Dev, cmdWf ch r = true ∧ d.mgt.deviceReset = none ∧ Accepted spec0111 ch r s.dev d ∧ (let w := r.word 0; let sl := fld w 11 0; ch < 4096 ∧ ch ≠ sl)) ∧
    (∃ ch : Nat, ∃ r : Req, ∃ s : State, ∃ d : Dev, cmdWf ch r = true ∧ d.mgt.deviceReset = none ∧ Accepted spec0111 ch r s.dev d ∧ (let w := r.word 0; let sl := fld w 11 0; let v := fld w 21 16; ((4096 ≤ ch ∨ ch = sl)) ∧ ((d.slice sl).profile.vectors ≤ v ∨ fld w 40 32 = 0 ∨ 256 < fld w 40 32))) ∧
    (∃ ch : Nat, ∃ r : Req, ∃ s : State, ∃ d : Dev, cmdWf ch r = true ∧ d.mgt.deviceReset = none ∧ Accepted spec0111 ch r s.dev d ∧ (let w := r.word 0; let sl := fld w 11 0; let v := fld w 21 16; ((4096 ≤ ch ∨ ch = sl)) ∧ v < (d.slice sl).profile.vectors ∧ 1 ≤ fld w 40 32 ∧ fld w 40 32 ≤ 256 ∧ sliceBusy d sl = true)) ∧
    (∃ ch : Nat, ∃ r : Req, ∃ s : State, ∃ d : Dev, ∃ e : Dev, cmdWf ch r = true ∧ d.mgt.deviceReset = none ∧ Accepted spec0111 ch r s.dev d ∧ (let w := r.word 0; let sl := fld w 11 0; let v := fld w 21 16; ((4096 ≤ ch ∨ ch = sl)) ∧ v < (d.slice sl).profile.vectors ∧ 1 ≤ fld w 40 32 ∧ fld w 40 32 ≤ 256 ∧ sliceBusy d sl = false ∧ Recorded spec0111 ch r (64 * sl + v) [] d e)) ∧
    (∃ ch : Nat, ∃ r : Req, ∃ s : State, ∃ d : Dev, cmdWf ch r = true ∧ d.mgt.deviceReset = none ∧ Accepted spec0112 ch r s.dev d ∧ (let w := r.word 0; let sl := fld w 11 0; ch < 4096 ∧ ch ≠ sl)) ∧
    (∃ ch : Nat, ∃ r : Req, ∃ s : State, ∃ d : Dev, cmdWf ch r = true ∧ d.mgt.deviceReset = none ∧ Accepted spec0112 ch r s.dev d ∧ (let w := r.word 0; let sl := fld w 11 0; let vs := [fld (r.word 1) 7 0, fld (r.word 1) 15 8, fld (r.word 1) 23 16, fld (r.word 1) 31 24]; ((4096 ≤ ch ∨ ch = sl)) ∧ (d.slice sl).state ≠ .free ∧ ((∃ b ∈ vs, b ≠ 255 ∧ (d.slice sl).profile.vectors ≤ b)))) ∧
    (∃ ch : Nat, ∃ r : Req, ∃ s : State, ∃ d : Dev, cmdWf ch r = true ∧ d.mgt.deviceReset = none ∧ Accepted spec0112 ch r s.dev d ∧ (let w := r.word 0; let sl := fld w 11 0; let vs := [fld (r.word 1) 7 0, fld (r.word 1) 15 8, fld (r.word 1) 23 16, fld (r.word 1) 31 24]; ((4096 ≤ ch ∨ ch = sl)) ∧ (d.slice sl).state ≠ .free ∧ ((∀ b ∈ vs, b = 255 ∨ b < (d.slice sl).profile.vectors)) ∧ sliceBusy d sl = true)) ∧
    (∃ ch : Nat, ∃ r : Req, ∃ s : State, ∃ d : Dev, ∃ e : Dev, cmdWf ch r = true ∧ d.mgt.deviceReset = none ∧ Accepted spec0112 ch r s.dev d ∧ (let w := r.word 0; let sl := fld w 11 0; let vs := [fld (r.word 1) 7 0, fld (r.word 1) 15 8, fld (r.word 1) 23 16, fld (r.word 1) 31 24]; ((4096 ≤ ch ∨ ch = sl)) ∧ (d.slice sl).state ≠ .free ∧ ((∀ b ∈ vs, b = 255 ∨ b < (d.slice sl).profile.vectors)) ∧ sliceBusy d sl = false ∧ Recorded spec0112 ch r sl [] d e)) ∧
    (∃ p : Nat, ∃ sl : Nat, ∃ v : Nat, ∃ half : Bool, ∃ s : State, Wf.vectorMask p half sl v 8 = true ∧ s.dev.linkUsable p half = true ∧ pageServed s.dev p half sl = true ∧ (s.dev.port p).dbHeld = none ∧ (s.dev.port p).held = none ∧ 0 < (s.dev.port p).dbCredits ∧ v < (s.dev.slice sl).profile.vectors) ∧
    (∃ p : Nat, ∃ sl : Nat, ∃ v : Nat, ∃ half : Bool, ∃ s : State, Wf.vectorMask p half sl v 8 = true ∧ s.dev.linkUsable p half = true ∧ pageServed s.dev p half sl = true ∧ (s.dev.port p).dbHeld = none ∧ (s.dev.port p).held = none ∧ 0 < (s.dev.port p).dbCredits ∧ (s.dev.slice sl).profile.vectors ≤ v) ∧
    (∃ sl : Nat, ∃ v : Nat, ∃ s : State, Wf.vectorDelayExpiry sl v = true ∧ (s.dev.vec sl v).pending = 0) ∧
    (∃ sl : Nat, ∃ v : Nat, ∃ s : State, Wf.vectorDelayExpiry sl v = true ∧ 0 < (s.dev.vec sl v).pending) ∧
    (∃ sl : Nat, ∃ v : Nat, ∃ d : Dev, (let x := d.vec sl v; let due := x.mask = false ∧ 0 < x.pending ∧ (x.countMax ≤ x.pending ∨ x.delayUs * 1000 ≤ Time.since d.now x.first) ∧ x.address ≠ 0; ¬ due)) ∧
    (∃ sl : Nat, ∃ v : Nat, ∃ d : Dev, (let x := d.vec sl v; let due := x.mask = false ∧ 0 < x.pending ∧ (x.countMax ≤ x.pending ∨ x.delayUs * 1000 ≤ Time.since d.now x.first) ∧ x.address ≠ 0; due ∧ d.linkUsable (d.slicePort sl) (d.slice sl).half = true)) ∧
    (∃ p : Nat, ∃ e : Nat, ∃ half : Bool, ∃ d : Dev, e < 64 ∧ (let l := (d.port p).link half; l.msixEnable = false)) ∧
    (∃ p : Nat, ∃ e : Nat, ∃ half : Bool, ∃ d : Dev, e < 64 ∧ (let l := (d.port p).link half; l.msixEnable = true ∧ (l.msixFuncMask = true ∨ l.msixMask.getLsbD e = true))) ∧
    (∃ p : Nat, ∃ e : Nat, ∃ half : Bool, ∃ d : Dev, e < 64 ∧ (let l := (d.port p).link half; l.msixEnable = true ∧ l.msixFuncMask = false ∧ l.msixMask.getLsbD e = false ∧ l.usable = true)) ∧
    (∃ p : Nat, ∃ e : Nat, ∃ d : Dev, e < 64 ∧ (d.port p).bifurcated = true ∧ (d.port p).linkA.up = false) ∧
    (∃ p : Nat, ∃ e : Nat, ∃ d : Dev, e < 64 ∧ ((d.port p).bifurcated = false ∨ (d.port p).linkA.up = true)) ∧
    (∃ p : Nat, ∃ e : Nat, ∃ half : Bool, ∃ s : State, Wf.msixUnmask p half (some e) = true ∧ (let l := (s.dev.port p).link half; l.msixEnable = true ∧ l.msixFuncMask = false ∧ ((∀ i, i < 64 → l.msixPending.getLsbD i = true → i = e)) ∧ l.msixPending.getLsbD e = true)) ∧
    (∃ p : Nat, ∃ half : Bool, ∃ s : State, Wf.msixUnmask p half none = true ∧ (let l := (s.dev.port p).link half; l.msixEnable = false)) := by
  refine ⟨?_, ?_, ?_, ?_, ?_, ?_, ?_, ?_, ?_, ?_, ?_, ?_, ?_, ?_, ?_, ?_, ?_, ?_, ?_, ?_, ?_, ?_, ?_, ?_⟩
  · let ch : Nat := 4096
    let r : Req := rq [3 + 8 * 65536, 0xFEE00000, 5]
    let s : State := st one
    let d : Dev := tk spec0110 r s.dev
    let e : Dev := up
    exact ⟨ch, r, s, d, by decide +kernel, by decide +kernel, ⟨(by decide +kernel), (by decide +kernel), rfl, (by decide +kernel)⟩, by decide +kernel⟩
  · let ch : Nat := 4096
    let r : Req := rq [3 + 7 * 65536, 0xFEE00000, 5]
    let s : State := st (one.setSlice 3 { ac with quiesce := { Quiesce.none with job := some (job spec0103 4096 (rq [])) } })
    let d : Dev := tk spec0110 r s.dev
    let e : Dev := up
    exact ⟨ch, r, s, d, by decide +kernel, by decide +kernel, ⟨(by decide +kernel), (by decide +kernel), rfl, (by decide +kernel)⟩, by decide +kernel⟩
  · let ch : Nat := 4096
    let r : Req := rq [3 + 7 * 65536, 0xFEE00000, 5]
    let s : State := st one
    let d : Dev := tk spec0110 r s.dev
    let e : Dev := recd spec0110 ch r (64 * 3 + 7) [] d
    exact ⟨ch, r, s, d, e, by decide +kernel, by decide +kernel, ⟨(by decide +kernel), (by decide +kernel), rfl, (by decide +kernel)⟩, by delta Recorded; decide +kernel⟩
  · let ch : Nat := 4
    let r : Req := rq [3 + 7 * 65536 + (256 <<< 32)]
    let s : State := st (up.setSlice 4 ac)
    let d : Dev := tkc 4 spec0111 r s.dev
    let e : Dev := up
    exact ⟨ch, r, s, d, by decide +kernel, by decide +kernel, ⟨(by decide +kernel), (by decide +kernel), rfl, (by decide +kernel)⟩, by decide +kernel⟩
  · let ch : Nat := 4096
    let r : Req := rq [3 + 7 * 65536]
    let s : State := st one
    let d : Dev := tk spec0111 r s.dev
    let e : Dev := recd spec0110 ch r (64 * 3 + 7) [] d
    exact ⟨ch, r, s, d, by decide +kernel, by decide +kernel, ⟨(by decide +kernel), (by decide +kernel), rfl, (by decide +kernel)⟩, by decide +kernel⟩
  · let ch : Nat := 4096
    let r : Req := rq [3 + 7 * 65536 + (256 <<< 32)]
    let s : State := st (one.setSlice 3 { ac with quiesce := { Quiesce.none with job := some (job spec0103 4096 (rq [])) } })
    let d : Dev := tk spec0111 r s.dev
    let e : Dev := up
    exact ⟨ch, r, s, d, by decide +kernel, by decide +kernel, ⟨(by decide +kernel), (by decide +kernel), rfl, (by decide +kernel)⟩, by decide +kernel⟩
  · let ch : Nat := 4096
    let r : Req := rq [3 + 7 * 65536 + (256 <<< 32)]
    let s : State := st one
    let d : Dev := tk spec0111 r s.dev
    let e : Dev := recd spec0111 ch r (64 * 3 + 7) [] d
    exact ⟨ch, r, s, d, e, by decide +kernel, by decide +kernel, ⟨(by decide +kernel), (by decide +kernel), rfl, (by decide +kernel)⟩, by delta Recorded; decide +kernel⟩
  · let ch : Nat := 4
    let r : Req := rq [3, 0xFFFF0107]
    let s : State := st (up.setSlice 4 ac)
    let d : Dev := tkc 4 spec0112 r s.dev
    let e : Dev := up
    exact ⟨ch, r, s, d, by decide +kernel, by decide +kernel, ⟨(by decide +kernel), (by decide +kernel), rfl, (by decide +kernel)⟩, by decide +kernel⟩
  · let ch : Nat := 4096
    let r : Req := rq [3, 0xFFFFFF08]
    let s : State := st one
    let d : Dev := tk spec0112 r s.dev
    let e : Dev := recd spec0111 ch r (64 * 3 + 7) [] d
    exact ⟨ch, r, s, d, by decide +kernel, by decide +kernel, ⟨(by decide +kernel), (by decide +kernel), rfl, (by decide +kernel)⟩, by decide +kernel⟩
  · let ch : Nat := 4096
    let r : Req := rq [3, 0xFFFF0107]
    let s : State := st (one.setSlice 3 { ac with quiesce := { Quiesce.none with job := some (job spec0103 4096 (rq [])) } })
    let d : Dev := tk spec0112 r s.dev
    let e : Dev := up
    exact ⟨ch, r, s, d, by decide +kernel, by decide +kernel, ⟨(by decide +kernel), (by decide +kernel), rfl, (by decide +kernel)⟩, by decide +kernel⟩
  · let ch : Nat := 4096
    let r : Req := rq [3, 0xFFFF0107]
    let s : State := st one
    let d : Dev := tk spec0112 r s.dev
    let e : Dev := recd spec0112 ch r 3 [] d
    exact ⟨ch, r, s, d, e, by decide +kernel, by decide +kernel, ⟨(by decide +kernel), (by decide +kernel), rfl, (by decide +kernel)⟩, by delta Recorded; decide +kernel⟩
  · let p : Nat := 0
    let sl : Nat := 3
    let v : Nat := 7
    let half : Bool := false
    let s : State := st one
    exact ⟨p, sl, v, half, s, by decide +kernel⟩
  · let p : Nat := 0
    let sl : Nat := 3
    let v : Nat := 8
    let half : Bool := false
    let s : State := st one
    exact ⟨p, sl, v, half, s, by decide +kernel⟩
  · let sl : Nat := 3
    let v : Nat := 7
    let s : State := st one
    exact ⟨sl, v, s, by decide +kernel⟩
  · let sl : Nat := 3
    let v : Nat := 7
    let s : State := st (one.setVec 3 7 ⟨0xFEE00000, 5, false, 4, 10, 1, 2000⟩)
    exact ⟨sl, v, s, by decide +kernel⟩
  · let sl : Nat := 3
    let v : Nat := 7
    let d : Dev := one
    exact ⟨sl, v, d, by decide +kernel⟩
  · let sl : Nat := 3
    let v : Nat := 7
    let d : Dev := one.setVec 3 7 ⟨0xFEE00000, 5, false, 4, 10, 4, 0⟩
    exact ⟨sl, v, d, by decide +kernel⟩
  · let p : Nat := 0
    let e : Nat := 63
    let half : Bool := false
    let d : Dev := up
    exact ⟨p, e, half, d, by decide +kernel⟩
  · let p : Nat := 0
    let e : Nat := 63
    let half : Bool := false
    let d : Dev := lk id
    exact ⟨p, e, half, d, by decide +kernel⟩
  · let p : Nat := 0
    let e : Nat := 63
    let half : Bool := false
    let d : Dev := lk (fun l => { l with msixMask := 0 })
    let l := (d.port p).link half
    exact ⟨p, e, half, d, by decide +kernel⟩
  · let p : Nat := 0
    let e : Nat := 63
    let half : Bool := false
    let d : Dev := up.setPort 0 { hp with bifurcated := true, linkA := HostLink.reset, linkB := hp.linkA }
    exact ⟨p, e, d, by decide +kernel⟩
  · let p : Nat := 0
    let e : Nat := 63
    let half : Bool := false
    let d : Dev := up
    exact ⟨p, e, d, by decide +kernel⟩
  · let p : Nat := 0
    let e : Nat := 5
    let half : Bool := false
    let s : State := st (lk (fun l => { l with msixPending := 32 }))
    let l := (s.dev.port p).link half
    exact ⟨p, e, half, s, by decide +kernel⟩
  · let p : Nat := 0
    let half : Bool := false
    let s : State := st up
    exact ⟨p, half, s, by decide +kernel⟩

end InterruptsW

namespace DoorbellsAndDescriptorsW

def ac : Slice := { Slice.free with state := .active, pasid := 5, profile := { Profile.slice0 with queuePairs := 16, vectors := 8 } }
def one : Dev := up.setSlice 3 ac
def atc : SMap (List AtcEntry) := [(0, [⟨some 5, 12, 0x100, true, true⟩, ⟨some 5, 12, 0x200, true, true⟩, ⟨some 5, 12, 0x300, true, true⟩])]
def q0 : QueuePair := { QueuePair.none with valid := true, slice := 3, k := 4, channel := 2, prefetch := 4, workAddr := 0x100000, cqAddr := 0x200000 }
def Q (x : QueuePair) : Dev := { one with qde := { one.qde with atc := atc } }.setQp 9 x
def snd : List W64 := [1 + (77 <<< 32), 0x300000, 64, 0, 0, 0, 0, 0]
def it (i : Nat) (ws : List W64) : WorkItem := { newItem i with words := ws, cached := true }
def pk (sl : BitVec 12) (bs : List Byte) : Pkt := Pkt.fresh (newTag up sl 0 0 bs) bs
def D (i : W64) : W64 := 9 + (i <<< 32) + (1 <<< 63)
def busyQ : QueuePair := { q0 with producer := 5, consumer := 0, items := [it 0 snd, { it 1 snd with started := true }], cqConsumer := 0 }
def uq : QueuePair := { q0 with producer := 5, consumer := 3, cqConsumer := 0 }
def fq : QueuePair := { q0 with producer := 5, fetching := [⟨0, 1, [], 0⟩], items := [newItem 0] }
def rd (i : Nat) (what : ReadWhat) (a : W64) (len : Nat) (gone : Bool) : QdeReq := { no := 1, qp := 9, index := i, what := what, port := 0, half := false, pasid := some 5, addr := a, len := len, time := 0, gone := gone }
def wr (z : QdeReq) (d : Dev) : Dev := { d with qde := { d.qde with reqs := [z] } }
def dn (d : Dev) : Dev := d.setPort 0 { d.port 0 with linkA := HostLink.reset }

/-- States and operands that meet the hypotheses of `Obligations.DoorbellsAndDescriptors`, one part for each of its 32 cases that have hypotheses. -/
theorem witness_DoorbellsAndDescriptors :
    (∃ p : Nat, ∃ sl : Nat, ∃ off : Nat, ∃ half : Bool, ∃ s : State, p < 3 ∧ sl < 4096 ∧ off < 64 ∧ s.dev.linkUsable p half = true ∧ pageServed s.dev p half sl = true ∧ (s.dev.port p).dbHeld = none ∧ (s.dev.port p).held = none ∧ 0 < (s.dev.port p).dbCredits ∧ off % 8 ≠ 0) ∧
    (∃ p : Nat, ∃ sl : Nat, ∃ off : Nat, ∃ half : Bool, ∃ w : W64, ∃ s : State, p < 3 ∧ sl < 4096 ∧ off < 64 ∧ s.dev.linkUsable p half = true ∧ pageServed s.dev p half sl = true ∧ (s.dev.port p).dbHeld = none ∧ (s.dev.port p).held = none ∧ 0 < (s.dev.port p).dbCredits ∧ off % 8 = 0 ∧ bit w 63 = false) ∧
    (∃ p : Nat, ∃ sl : Nat, ∃ off : Nat, ∃ half : Bool, ∃ w : W64, ∃ s : State, p < 3 ∧ sl < 4096 ∧ off < 64 ∧ s.dev.linkUsable p half = true ∧ pageServed s.dev p half sl = true ∧ (s.dev.port p).dbHeld = none ∧ (s.dev.port p).held = none ∧ 0 < (s.dev.port p).dbCredits ∧ (let q := fld w 17 0; let x := s.dev.qp q; off % 8 = 0 ∧ bit w 63 = true ∧ (x.valid = false ∨ x.slice ≠ sl ∨ fld w 31 18 ≠ 0 ∨ fld w 62 49 ≠ 0))) ∧
    (∃ p : Nat, ∃ sl : Nat, ∃ off : Nat, ∃ half : Bool, ∃ w : W64, ∃ s : State, p < 3 ∧ sl < 4096 ∧ off < 64 ∧ s.dev.linkUsable p half = true ∧ pageServed s.dev p half sl = true ∧ (s.dev.port p).dbHeld = none ∧ (s.dev.port p).held = none ∧ 0 < (s.dev.port p).dbCredits ∧ (let q := fld w 17 0; let x := s.dev.qp q; off % 8 = 0 ∧ bit w 63 = true ∧ (x.valid = false ∨ x.slice ≠ sl ∨ fld w 31 18 ≠ 0 ∨ fld w 51 49 ≠ 0 ∨ fld w 62 56 ≠ 0))) ∧
    (∃ p : Nat, ∃ sl : Nat, ∃ off : Nat, ∃ half : Bool, ∃ w : W64, ∃ s : State, p < 3 ∧ sl < 4096 ∧ off < 64 ∧ s.dev.linkUsable p half = true ∧ pageServed s.dev p half sl = true ∧ (s.dev.port p).dbHeld = none ∧ (s.dev.port p).held = none ∧ 0 < (s.dev.port p).dbCredits ∧ (let q := fld w 17 0; let x := s.dev.qp q; let idx := fld w 48 32; off % 8 = 0 ∧ bit w 63 = true ∧ x.valid = true ∧ x.slice = sl ∧ (s.dev.slice sl).state = .active ∧ fld w 31 18 = 0 ∧ fld w 62 49 = 0 ∧ 2 ^ (x.k + 1) ≤ idx)) ∧
    (∃ p : Nat, ∃ sl : Nat, ∃ off : Nat, ∃ half : Bool, ∃ w : W64, ∃ s : State, p < 3 ∧ sl < 4096 ∧ off < 64 ∧ s.dev.linkUsable p half = true ∧ pageServed s.dev p half sl = true ∧ (s.dev.port p).dbHeld = none ∧ (s.dev.port p).held = none ∧ 0 < (s.dev.port p).dbCredits ∧ (let q := fld w 17 0; let x := s.dev.qp q; let idx := fld w 48 32; off % 8 = 0 ∧ bit w 63 = true ∧ x.valid = true ∧ x.slice = sl ∧ (s.dev.slice sl).state = .active ∧ fld w 31 18 = 0 ∧ fld w 62 49 = 0 ∧ idx < 2 ^ (x.k + 1) ∧ x.consumer < 2 ^ (x.k + 1) ∧ 2 ^ x.k < (idx + 2 ^ (x.k + 1) - x.consumer) % 2 ^ (x.k + 1))) ∧
    (∃ p : Nat, ∃ sl : Nat, ∃ off : Nat, ∃ half : Bool, ∃ w : W64, ∃ s : State, p < 3 ∧ sl < 4096 ∧ off < 64 ∧ s.dev.linkUsable p half = true ∧ pageServed s.dev p half sl = true ∧ (s.dev.port p).dbHeld = none ∧ (s.dev.port p).held = none ∧ 0 < (s.dev.port p).dbCredits ∧ (let q := fld w 17 0; let x := s.dev.qp q; let idx := fld w 48 32; off % 8 = 0 ∧ bit w 63 = true ∧ x.valid = true ∧ x.slice = sl ∧ (s.dev.slice sl).state = .active ∧ fld w 31 18 = 0 ∧ fld w 62 49 = 0 ∧ idx < 2 ^ (x.k + 1) ∧ x.consumer < 2 ^ (x.k + 1) ∧ (idx + 2 ^ (x.k + 1) - x.consumer) % 2 ^ (x.k + 1) ≤ 2 ^ x.k)) ∧
    (∃ p : Nat, ∃ sl : Nat, ∃ off : Nat, ∃ half : Bool, ∃ w : W64, ∃ s : State, p < 3 ∧ sl < 4096 ∧ off < 64 ∧ s.dev.linkUsable p half = true ∧ pageServed s.dev p half sl = true ∧ (s.dev.port p).dbHeld = none ∧ (s.dev.port p).held = none ∧ 0 < (s.dev.port p).dbCredits ∧ (let q := fld w 17 0; let x := s.dev.qp q; let idx := fld w 48 32; off % 8 = 0 ∧ bit w 63 = true ∧ x.valid = true ∧ x.slice = sl ∧ (s.dev.slice sl).state = .active ∧ fld w 31 18 = 0 ∧ fld w 62 49 = 0 ∧ idx < 2 ^ (x.k + 1) ∧ unread x < qpDiff x idx x.cqConsumer)) ∧
    (∃ p : Nat, ∃ sl : Nat, ∃ off : Nat, ∃ half : Bool, ∃ w : W64, ∃ s : State, p < 3 ∧ sl < 4096 ∧ off < 64 ∧ s.dev.linkUsable p half = true ∧ pageServed s.dev p half sl = true ∧ (s.dev.port p).dbHeld = none ∧ (s.dev.port p).held = none ∧ 0 < (s.dev.port p).dbCredits ∧ (let q := fld w 17 0; let x := s.dev.qp q; let idx := fld w 48 32; off % 8 = 0 ∧ bit w 63 = true ∧ x.valid = true ∧ x.slice = sl ∧ (s.dev.slice sl).state = .active ∧ fld w 31 18 = 0 ∧ fld w 62 49 = 0 ∧ idx < 2 ^ (x.k + 1) ∧ qpDiff x idx x.cqConsumer ≤ unread x)) ∧
    (∃ p : Nat, ∃ sl : Nat, ∃ off : Nat, ∃ half : Bool, ∃ w : W64, ∃ s : State, p < 3 ∧ sl < 4096 ∧ off < 64 ∧ s.dev.linkUsable p half = true ∧ pageServed s.dev p half sl = true ∧ (s.dev.port p).dbHeld = none ∧ (s.dev.port p).held = none ∧ 0 < (s.dev.port p).dbCredits ∧ (let q := fld w 17 0; let x := s.dev.qp q; let idx := fld w 48 32; off % 8 = 0 ∧ bit w 63 = true ∧ x.valid = true ∧ x.slice = sl ∧ (s.dev.slice sl).state = .active ∧ fld w 31 18 = 0 ∧ fld w 51 49 = 0 ∧ fld w 62 56 = 0 ∧ 2 ^ (x.k + 1) ≤ idx)) ∧
    (∃ p : Nat, ∃ sl : Nat, ∃ off : Nat, ∃ half : Bool, ∃ w : W64, ∃ s : State, p < 3 ∧ sl < 4096 ∧ off < 64 ∧ s.dev.linkUsable p half = true ∧ pageServed s.dev p half sl = true ∧ (s.dev.port p).dbHeld = none ∧ (s.dev.port p).held = none ∧ 0 < (s.dev.port p).dbCredits ∧ (let q := fld w 17 0; let x := s.dev.qp q; let idx := fld w 48 32; let n := fld w 55 52 + 1; off % 8 = 0 ∧ bit w 63 = true ∧ x.valid = true ∧ x.slice = sl ∧ (s.dev.slice sl).state = .active ∧ fld w 31 18 = 0 ∧ fld w 51 49 = 0 ∧ fld w 62 56 = 0 ∧ idx < 2 ^ (x.k + 1) ∧ ((∃ e ∈ ringRun x idx n, outstanding x ≤ qpDiff x e x.consumer)))) ∧
    (∃ p : Nat, ∃ sl : Nat, ∃ off : Nat, ∃ half : Bool, ∃ w : W64, ∃ s : State, p < 3 ∧ sl < 4096 ∧ off < 64 ∧ s.dev.linkUsable p half = true ∧ pageServed s.dev p half sl = true ∧ (s.dev.port p).dbHeld = none ∧ (s.dev.port p).held = none ∧ 0 < (s.dev.port p).dbCredits ∧ (let q := fld w 17 0; let x := s.dev.qp q; let idx := fld w 48 32; let n := fld w 55 52 + 1; off % 8 = 0 ∧ bit w 63 = true ∧ x.valid = true ∧ x.slice = sl ∧ (s.dev.slice sl).state = .active ∧ fld w 31 18 = 0 ∧ fld w 51 49 = 0 ∧ fld w 62 56 = 0 ∧ idx < 2 ^ (x.k + 1) ∧ ((∀ e ∈ ringRun x idx n, qpDiff x e x.consumer < outstanding x)) ∧ (x.items.map WorkItem.index).Nodup)) ∧
    (∃ c : Nat, ∃ s : State, c < 96 ∧ fetchChoice c s.dev = none) ∧
    (∃ c : Nat, ∃ s : State, ∃ q, ∃ i, ∃ n, ∃ fresh, c < 96 ∧ fetchChoice c s.dev = some (q, i, n, fresh)) ∧
    (∃ c : Nat, ∃ s : State, ∃ q, ∃ i, ∃ n, ∃ fresh, c < 96 ∧ fetchChoice c s.dev = some (q, i, n, fresh) ∧ fresh = true) ∧
    (∃ c : Nat, ∃ s : State, ∃ q, ∃ i, ∃ n, ∃ fresh, c < 96 ∧ fetchChoice c s.dev = some (q, i, n, fresh) ∧ (let x := s.dev.qp q; fresh = true ∧ x.aborts = [])) ∧
    (∃ c : Nat, ∃ s : State, ∃ q, ∃ i, ∃ n, ∃ fresh, ∃ e, c < 96 ∧ fetchChoice c s.dev = some (q, i, n, fresh) ∧ (let x := s.dev.qp q; let a := x.workAddr + BitVec.ofNat 64 (64 * (i % 2 ^ x.k)); let found := s.dev.atcFind (qpPort s.dev q).1 (qpPort s.dev q).2.2 a; qpUsable s.dev q = true ∧ found = some e ∧ e.read = true)) ∧
    (∃ c : Nat, ∃ s : State, ∃ q, ∃ i, ∃ n, ∃ fresh, c < 96 ∧ fetchChoice c s.dev = some (q, i, n, fresh) ∧ (let x := s.dev.qp q; let a := x.workAddr + BitVec.ofNat 64 (64 * (i % 2 ^ x.k)); let found := s.dev.atcFind (qpPort s.dev q).1 (qpPort s.dev q).2.2 a; qpUsable s.dev q = true ∧ found = none)) ∧
    (∃ c : Nat, ∃ s : State, ∃ q, ∃ i, ∃ n, ∃ fresh, ∃ e, c < 96 ∧ fetchChoice c s.dev = some (q, i, n, fresh) ∧ (let x := s.dev.qp q; let a := x.workAddr + BitVec.ofNat 64 (64 * (i % 2 ^ x.k)); let found := s.dev.atcFind (qpPort s.dev q).1 (qpPort s.dev q).2.2 a; qpUsable s.dev q = true ∧ found = some e ∧ e.read = false)) ∧
    (∃ c : Nat, ∃ s : State, ∃ q, ∃ i, ∃ n, ∃ fresh, c < 96 ∧ fetchChoice c s.dev = some (q, i, n, fresh) ∧ qpUsable s.dev q = false) ∧
    (∃ q : Nat, ∃ i : Nat, ∃ ws : List W64, ∃ tm : Time, ∃ rest : List Fetch, ∃ z : QdeReq, ∃ s : State, Wf.descriptorFetchComplete q [ws] = true ∧ (s.dev.qp q).fetching = Fetch.mk i 1 [] tm :: rest ∧ i < qpMod (s.dev.qp q) ∧ s.dev.reqOf q i .fetch (fun r => r.gone && r.len == 64) = some z) ∧
    (∃ q : Nat, ∃ i : Nat, ∃ ws : List W64, ∃ it : WorkItem, ∃ d : Dev, findItem (d.qp q) i = some it ∧ WorkItem.fetched it = false ∧ (d.qp q).aborts = [] ∧ (d.slice (d.qp q).slice).state = .active ∧ malformedReason d (d.qp q) ws = none) ∧
    (∃ q : Nat, ∃ i : Nat, ∃ ws : List W64, ∃ it : WorkItem, ∃ d : Dev, ∃ reason, findItem (d.qp q) i = some it ∧ WorkItem.fetched it = false ∧ (d.qp q).aborts = [] ∧ (d.slice (d.qp q).slice).state = .active ∧ malformedReason d (d.qp q) ws = some reason) ∧
    (∃ q : Nat, ∃ i : Nat, ∃ ws : List W64, ∃ it : WorkItem, ∃ d : Dev, ∃ reason, ∃ n, findItem (d.qp q) i = some it ∧ WorkItem.fetched it = false ∧ (d.qp q).aborts = [] ∧ (d.slice (d.qp q).slice).state = .active ∧ malformedReason d (d.qp q) ws = some reason ∧ n ≠ (d.qp q).slice) ∧
    (∃ q : Nat, ∃ f : Fetch, ∃ rest : List Fetch, ∃ s : State, q < 2 ^ 18 ∧ (s.dev.qp q).fetching = f :: rest) ∧
    (∃ q : Nat, ∃ i : Nat, ∃ f : Fetch, ∃ z : QdeReq, ∃ s : State, q < 2 ^ 18 ∧ (s.dev.qp q).fetching.find? (fun f => f.first == i) = some f ∧ s.dev.reqOf q i .fetch (fun r => r.gone) = some z ∧ z.len = 64 * f.n) ∧
    (∃ q : Nat, ∃ i : Nat, ∃ f : Fetch, ∃ z : QdeReq, ∃ s : State, q < 2 ^ 18 ∧ (s.dev.qp q).fetching.find? (fun f => f.first == i) = some f ∧ s.dev.reqOf q i .fetch (fun r => !r.gone) = some z ∧ qpUsable s.dev q = true) ∧
    (∃ q : Nat, ∃ i : Nat, ∃ f : Fetch, ∃ z : QdeReq, ∃ s : State, q < 2 ^ 18 ∧ (s.dev.qp q).fetching.find? (fun f => f.first == i) = some f ∧ s.dev.reqOf q i .fetch (fun r => !r.gone) = some z ∧ qpUsable s.dev q = false) ∧
    (∃ q : Nat, ∃ i : Nat, ∃ f : Fetch, ∃ z : QdeReq, ∃ s : State, q < 2 ^ 18 ∧ (s.dev.qp q).fetching.find? (fun f => f.first == i) = some f ∧ s.dev.reqOf q i .fetch (fun _ => true) = some z) ∧
    (∃ q : Nat, ∃ d : Dev, (d.qp q).fetchError = true) ∧
    (∃ q : Nat, ∃ d : Dev, (d.qp q).fetchError = false) ∧
    (∃ q : Nat, ∃ d : Dev, ∃ j, (d.qp q).fetchError = false ∧ j ≠ q) := by
  refine ⟨?_, ?_, ?_, ?_, ?_, ?_, ?_, ?_, ?_, ?_, ?_, ?_, ?_, ?_, ?_, ?_, ?_, ?_, ?_, ?_, ?_, ?_, ?_, ?_, ?_, ?_, ?_, ?_, ?_, ?_, ?_, ?_⟩
  · let p : Nat := 0
    let sl : Nat := 3
    let off : Nat := 60
    let half : Bool := false
    let w : W64 := D 1
    let s : State := st (Q q0)
    exact ⟨p, sl, off, half, s, by decide +kernel⟩
  · let p : Nat := 0
    let sl : Nat := 3
    let off : Nat := 56
    let half : Bool := false
    let w : W64 := 9 + (1 <<< 32)
    let s : State := st (Q q0)
    exact ⟨p, sl, off, half, w, s, by decide +kernel⟩
  · let p : Nat := 0
    let sl : Nat := 3
    let off : Nat := 56
    let half : Bool := false
    let w : W64 := D 1 + (1 <<< 18)
    let s : State := st (Q q0)
    exact ⟨p, sl, off, half, w, s, by decide +kernel⟩
  · let p : Nat := 0
    let sl : Nat := 3
    let off : Nat := 56
    let half : Bool := false
    let w : W64 := D 1 + (1 <<< 56)
    let s : State := st (Q q0)
    exact ⟨p, sl, off, half, w, s, by decide +kernel⟩
  · let p : Nat := 0
    let sl : Nat := 3
    let off : Nat := 56
    let half : Bool := false
    let w : W64 := D 32
    let s : State := st (Q q0)
    exact ⟨p, sl, off, half, w, s, by decide +kernel⟩
  · let p : Nat := 0
    let sl : Nat := 3
    let off : Nat := 56
    let half : Bool := false
    let w : W64 := D 31
    let s : State := st (Q busyQ)
    exact ⟨p, sl, off, half, w, s, by decide +kernel⟩
  · let p : Nat := 0
    let sl : Nat := 3
    let off : Nat := 56
    let half : Bool := false
    let w : W64 := D 16
    let s : State := st (Q busyQ)
    exact ⟨p, sl, off, half, w, s, by decide +kernel⟩
  · let p : Nat := 0
    let sl : Nat := 3
    let off : Nat := 56
    let half : Bool := false
    let w : W64 := D 4
    let s : State := st (Q uq)
    exact ⟨p, sl, off, half, w, s, by decide +kernel⟩
  · let p : Nat := 0
    let sl : Nat := 3
    let off : Nat := 56
    let half : Bool := false
    let w : W64 := D 3
    let s : State := st (Q uq)
    exact ⟨p, sl, off, half, w, s, by decide +kernel⟩
  · let p : Nat := 0
    let sl : Nat := 3
    let off : Nat := 56
    let half : Bool := false
    let w : W64 := D 32
    let s : State := st (Q uq)
    exact ⟨p, sl, off, half, w, s, by decide +kernel⟩
  · let p : Nat := 0
    let sl : Nat := 3
    let off : Nat := 56
    let half : Bool := false
    let w : W64 := D 3 + (2 <<< 52)
    let s : State := st (Q busyQ)
    exact ⟨p, sl, off, half, w, s, by decide +kernel⟩
  · let p : Nat := 0
    let sl : Nat := 3
    let off : Nat := 56
    let half : Bool := false
    let w : W64 := D 0 + (2 <<< 52)
    let s : State := st (Q busyQ)
    exact ⟨p, sl, off, half, w, s, by decide +kernel⟩
  · let c : Nat := 2
    let s : State := st (Q q0)
    exact ⟨c, s, by decide +kernel⟩
  · let c : Nat := 2
    let s : State := st (Q { q0 with producer := 5, marked := true })
    let n := 4
    exact ⟨c, s, (9), (0), n, (true), by decide +kernel⟩
  · let c : Nat := 2
    let s : State := st (Q { q0 with producer := 5, marked := true })
    let n := 4
    exact ⟨c, s, (9), (0), n, (true), by decide +kernel⟩
  · let c : Nat := 2
    let s : State := st { (Q { q0 with producer := 5, marked := true, workAddr := 0x500000 }) with qde := { (Q { q0 with producer := 5, marked := true, workAddr := 0x500000 }).qde with atc := [(0, [⟨some 5, 12, 0x500, false, true⟩])] } }
    let n := 4
    exact ⟨c, s, (9), (0), n, (true), by decide +kernel⟩
  · let c : Nat := 2
    let s : State := st (Q { q0 with producer := 5, marked := true })
    let n := 4
    exact ⟨c, s, (9), (0), n, (true), (⟨some 5, 12, 0x100, true, true⟩), by decide +kernel⟩
  · let c : Nat := 2
    let s : State := st (Q { q0 with producer := 5, marked := true, workAddr := 0x400000 })
    let n := 4
    exact ⟨c, s, (9), (0), n, (true), by decide +kernel⟩
  · let c : Nat := 2
    let s : State := st { (Q { q0 with producer := 5, marked := true, workAddr := 0x500000 }) with qde := { (Q { q0 with producer := 5, marked := true, workAddr := 0x500000 }).qde with atc := [(0, [⟨some 5, 12, 0x500, false, true⟩])] } }
    let n := 4
    exact ⟨c, s, (9), (0), n, (true), (⟨some 5, 12, 0x500, false, true⟩), by decide +kernel⟩
  · let c : Nat := 2
    let s : State := st (dn (Q { q0 with producer := 5, marked := true }))
    let n := 4
    exact ⟨c, s, (9), (0), n, (true), by decide +kernel⟩
  · let q : Nat := 9
    let i : Nat := 0
    let ws : List W64 := snd
    let tm : Time := 0
    let rest : List Fetch := []
    let z : QdeReq := rd 0 .fetch 0x100000 64 true
    let s : State := st (wr (rd 0 .fetch 0x100000 64 true) (Q fq))
    exact ⟨q, i, ws, tm, rest, z, s, by decide +kernel⟩
  · let q : Nat := 9
    let i : Nat := 0
    let ws : List W64 := snd
    let it : WorkItem := newItem 0
    let d : Dev := Q fq
    exact ⟨q, i, ws, it, d, by decide +kernel⟩
  · let q : Nat := 9
    let i : Nat := 0
    let ws : List W64 := [99]
    let it : WorkItem := newItem 0
    let d : Dev := Q fq
    exact ⟨q, i, ws, it, d, (1), by decide +kernel⟩
  · let q : Nat := 9
    let i : Nat := 0
    let ws : List W64 := [99]
    let it : WorkItem := newItem 0
    let d : Dev := Q fq
    let n := 0
    exact ⟨q, i, ws, it, d, (1), n, by decide +kernel⟩
  · let q : Nat := 9
    let f : Fetch := ⟨0, 1, [], 0⟩
    let rest : List Fetch := []
    let s : State := st (Q fq)
    exact ⟨q, f, rest, s, by decide +kernel⟩
  · let q : Nat := 9
    let i : Nat := 0
    let f : Fetch := ⟨0, 1, [], 0⟩
    let z : QdeReq := rd 0 .fetch 0x100000 64 true
    let s : State := st (wr (rd 0 .fetch 0x100000 64 true) (Q fq))
    exact ⟨q, i, f, z, s, by decide +kernel⟩
  · let q : Nat := 9
    let i : Nat := 0
    let f : Fetch := ⟨0, 1, [], 0⟩
    let z : QdeReq := rd 0 .fetch 0x100000 64 false
    let s : State := st (wr (rd 0 .fetch 0x100000 64 false) (Q fq))
    exact ⟨q, i, f, z, s, by decide +kernel⟩
  · let q : Nat := 9
    let i : Nat := 0
    let f : Fetch := ⟨0, 1, [], 0⟩
    let z : QdeReq := rd 0 .fetch 0x100000 64 false
    let s : State := st (wr (rd 0 .fetch 0x100000 64 false) (dn (Q fq)))
    exact ⟨q, i, f, z, s, by decide +kernel⟩
  · let q : Nat := 9
    let i : Nat := 0
    let f : Fetch := ⟨0, 1, [], 0⟩
    let z : QdeReq := rd 0 .fetch 0x100000 64 true
    let s : State := st (wr (rd 0 .fetch 0x100000 64 true) (Q fq))
    exact ⟨q, i, f, z, s, by decide +kernel⟩
  · let q : Nat := 9
    let i : Nat := 0
    let cause : Nat := 4
    let d : Dev := Q { fq with fetchError := true }
    exact ⟨q, d, by decide +kernel⟩
  · let q : Nat := 9
    let i : Nat := 0
    let cause : Nat := 4
    let d : Dev := Q fq
    exact ⟨q, d, by decide +kernel⟩
  · let q : Nat := 9
    let i : Nat := 0
    let cause : Nat := 4
    let d : Dev := Q fq
    exact ⟨q, d, (8), by decide +kernel⟩

end DoorbellsAndDescriptorsW

namespace DescriptorWorkW

def ac : Slice := { Slice.free with state := .active, pasid := 5, profile := { Profile.slice0 with queuePairs := 16, vectors := 8 } }
def one : Dev := up.setSlice 3 ac
def atc : SMap (List AtcEntry) := [(0, [⟨some 5, 12, 0x100, true, true⟩, ⟨some 5, 12, 0x200, true, true⟩, ⟨some 5, 12, 0x300, true, true⟩])]
def q0 : QueuePair := { QueuePair.none with valid := true, slice := 3, k := 4, channel := 2, prefetch := 4, workAddr := 0x100000, cqAddr := 0x200000 }
def Q (x : QueuePair) : Dev := { one with qde := { one.qde with atc := atc } }.setQp 9 x
def snd : List W64 := [1 + (77 <<< 32), 0x300000, 64, 0, 0, 0, 0, 0]
def mkIt (i : Nat) (ws : List W64) : WorkItem := { newItem i with words := ws, cached := true }
def pk (sl : BitVec 12) (bs : List Byte) : Pkt := Pkt.fresh (newTag up sl 0 0 bs) bs
def st1 (x : WorkItem) : WorkItem := { x with started := true, cached := false }
def rr : ReadReq := { addr := 0x300000, len := 4, left := 4, eof := true, table := false }
def ob : WorkOutcome := ⟨1, 0, 64, 0, 0, 5, 0⟩
def rxq : QueuePair := { q0 with typ := 1, producer := 5, consumer := 0 }
def rp : Pkt := { pk 3 [1,2,3,4] with tag := { (pk 3 [1]).tag with queue := 9 } }
def rd (i : Nat) (what : ReadWhat) (a : W64) (len : Nat) (gone : Bool) : QdeReq := { no := 1, qp := 9, index := i, what := what, port := 0, half := false, pasid := some 5, addr := a, len := len, time := 0, gone := gone }
def wr (z : QdeReq) (d : Dev) : Dev := { d with qde := { d.qde with reqs := [z] } }
def dn (d : Dev) : Dev := d.setPort 0 { d.port 0 with linkA := HostLink.reset }
def R (x : QueuePair) : State := st { Q x with qde := { (Q x).qde with rxIn := [rp] } }
def rbuf : List W64 := [2 + (77 <<< 32), 0x300000, 4, 0, 0, 0, 0, 0]

/-- States and operands that meet the hypotheses of `Obligations.DescriptorWork`, one part for each of its 35 cases that have hypotheses. -/
theorem witness_DescriptorWork :
    (∃ c : Nat, ∃ s : State, c < 96 ∧ (let e := (s.dev.qpsOn c).foldl issueReady (resumeSends c s.dev); startChoice e c = none)) ∧
    (∃ c : Nat, ∃ s : State, ∃ q, ∃ i, c < 96 ∧ (let e := (s.dev.qpsOn c).foldl issueReady (resumeSends c s.dev); startChoice e c = some (q, i))) ∧
    (∃ c : Nat, ∃ s : State, ∃ q, ∃ i, c < 96 ∧ (let e := (s.dev.qpsOn c).foldl issueReady (resumeSends c s.dev); startChoice e c = some (q, i) ∧ (let x := e.qp q; x.typ = 1))) ∧
    (∃ c : Nat, ∃ s : State, ∃ q, ∃ i, ∃ j, c < 96 ∧ (let e := (s.dev.qpsOn c).foldl issueReady (resumeSends c s.dev); startChoice e c = some (q, i) ∧ (let x := e.qp q; x.typ = 0 ∧ j ∈ x.items ∧ j.started = true))) ∧
    (∃ c : Nat, ∃ s : State, ∃ q, ∃ i, c < 96 ∧ (let e := (s.dev.qpsOn c).foldl issueReady (resumeSends c s.dev); startChoice e c = some (q, i) ∧ (let x := e.qp q; x.typ ≠ 1 ∧ dOpcode i.words = 0 ∧ findItem x i.index = some i ∧ i.fencing = none ∧ i.writes = []))) ∧
    (∃ c : Nat, ∃ s : State, ∃ q, ∃ i, c < 96 ∧ (let e := (s.dev.qpsOn c).foldl issueReady (resumeSends c s.dev); startChoice e c = some (q, i) ∧ (let x := e.qp q; x.typ = 0 ∧ dOpcode i.words ≠ 0))) ∧
    (∃ c : Nat, ∃ s : State, ∃ q, ∃ i, c < 96 ∧ (let e := (s.dev.qpsOn c).foldl issueReady (resumeSends c s.dev); startChoice e c = some (q, i) ∧ (let x := e.qp q; x.typ ≠ 0 ∧ x.typ ≠ 1 ∧ dOpcode i.words ≠ 0))) ∧
    (∃ q : Nat, ∃ i : Nat, ∃ cause : Nat, ∃ r : ReadReq, ∃ it : WorkItem, ∃ z : QdeReq, ∃ s : State, ∃ res : ReadResult, q < 2 ^ 18 ∧ findItem (s.dev.qp q) i = some it ∧ it.req = some r ∧ r.table = false ∧ s.dev.reqOf q i .data (fun z => z.gone) = some z ∧ ((res = .unsupported ∧ cause = 1 ∨ res = .completerAbort ∧ cause = 4 ∨ res = .poisoned ∧ cause = 6))) ∧
    (∃ q : Nat, ∃ i : Nat, ∃ r : ReadReq, ∃ it : WorkItem, ∃ z : QdeReq, ∃ s : State, q < 2 ^ 18 ∧ findItem (s.dev.qp q) i = some it ∧ it.req = some r ∧ r.table = false ∧ s.dev.reqOf q i .data (fun _ => true) = some z) ∧
    (∃ q : Nat, ∃ i : Nat, ∃ r : ReadReq, ∃ it : WorkItem, ∃ z : QdeReq, ∃ s : State, q < 2 ^ 18 ∧ findItem (s.dev.qp q) i = some it ∧ it.req = some r ∧ r.table = false ∧ s.dev.reqOf q i .data (fun z => !z.gone) = some z ∧ qpUsable s.dev q = true) ∧
    (∃ q : Nat, ∃ i : Nat, ∃ r : ReadReq, ∃ it : WorkItem, ∃ z : QdeReq, ∃ s : State, q < 2 ^ 18 ∧ findItem (s.dev.qp q) i = some it ∧ it.req = some r ∧ r.table = false ∧ s.dev.reqOf q i .data (fun z => !z.gone) = some z ∧ qpUsable s.dev q = false) ∧
    (∃ q : Nat, ∃ i : Nat, ∃ r : ReadReq, ∃ it : WorkItem, ∃ z : QdeReq, ∃ s : State, ∃ g : AtsPage, q < 2 ^ 18 ∧ findItem (s.dev.qp q) i = some it ∧ it.req = some r ∧ r.table = false ∧ s.dev.reqOf q i .data (fun z => !z.gone) = some z ∧ qpUsable s.dev q = true ∧ 12 ≤ g.log2 ∧ g.log2 ≤ 30 ∧ g.read = true) ∧
    (∃ q : Nat, ∃ i : Nat, ∃ r : ReadReq, ∃ it : WorkItem, ∃ z : QdeReq, ∃ s : State, ∃ bs : List Byte, q < 2 ^ 18 ∧ findItem (s.dev.qp q) i = some it ∧ it.req = some r ∧ r.table = false ∧ s.dev.reqOf q i .data (fun z => z.gone && bs.length == z.len) = some z ∧ (s.dev.qp q).typ = 0) ∧
    (∃ q : Nat, ∃ i : Nat, ∃ d : Dev, ∃ it : WorkItem, ∃ n, findItem (d.qp q) i = some it ∧ it.outcome = none ∧ n ≠ q) ∧
    (∃ q : Nat, ∃ i : Nat, ∃ d : Dev, ∃ it : WorkItem, findItem (d.qp q) i = some it ∧ it.outcome = none) ∧
    (∃ it : WorkItem, it.outcome ≠ none) ∧
    (∃ it : WorkItem, it.outcome = none) ∧
    (∃ q : Nat, ∃ i : Nat, ∃ it : WorkItem, ∃ o : WorkOutcome, ∃ z : QdeReq, ∃ s : State, q < 2 ^ 18 ∧ findItem (s.dev.qp q) i = some it ∧ it.fencing = some o ∧ it.outcome = none ∧ s.dev.reqOf q i .fence (fun z => z.gone) = some z) ∧
    (∃ q : Nat, ∃ i : Nat, ∃ it : WorkItem, ∃ o : WorkOutcome, ∃ z : QdeReq, ∃ s : State, ∃ res : ReadResult, ∃ cause, q < 2 ^ 18 ∧ findItem (s.dev.qp q) i = some it ∧ it.fencing = some o ∧ it.outcome = none ∧ s.dev.reqOf q i .fence (fun z => z.gone) = some z ∧ ((res = .unsupported ∧ cause = 1 ∨ res = .completerAbort ∧ cause = 4 ∨ res = .poisoned ∧ cause = 6))) ∧
    (∃ q : Nat, ∃ it : WorkItem, ∃ o : WorkOutcome, ∃ s : State, q < 2 ^ 18 ∧ (s.dev.qp q).valid = true ∧ (s.dev.qp q).recordRefused = false ∧ (s.dev.slice (s.dev.qp q).slice).state = .active ∧ recordReady (s.dev.qp q) = some (it, o) ∧ qpUsable s.dev q = true) ∧
    (∃ q : Nat, ∃ it : WorkItem, ∃ o : WorkOutcome, ∃ s : State, ∃ e, q < 2 ^ 18 ∧ (s.dev.qp q).valid = true ∧ (s.dev.qp q).recordRefused = false ∧ (s.dev.slice (s.dev.qp q).slice).state = .active ∧ recordReady (s.dev.qp q) = some (it, o) ∧ qpUsable s.dev q = true ∧ (let x := s.dev.qp q; let a := cqSlotAddr x it.index; let found := s.dev.atcFind (qpPort s.dev q).1 (qpPort s.dev q).2.2 a; found = some e ∧ e.write = true)) ∧
    (∃ q : Nat, ∃ it : WorkItem, ∃ o : WorkOutcome, ∃ s : State, ∃ e, q < 2 ^ 18 ∧ (s.dev.qp q).valid = true ∧ (s.dev.qp q).recordRefused = false ∧ (s.dev.slice (s.dev.qp q).slice).state = .active ∧ recordReady (s.dev.qp q) = some (it, o) ∧ qpUsable s.dev q = true ∧ (let x := s.dev.qp q; let a := cqSlotAddr x it.index; let found := s.dev.atcFind (qpPort s.dev q).1 (qpPort s.dev q).2.2 a; found = some e ∧ e.write = false)) ∧
    (∃ q : Nat, ∃ it : WorkItem, ∃ o : WorkOutcome, ∃ s : State, q < 2 ^ 18 ∧ (s.dev.qp q).valid = true ∧ (s.dev.qp q).recordRefused = false ∧ (s.dev.slice (s.dev.qp q).slice).state = .active ∧ recordReady (s.dev.qp q) = some (it, o) ∧ qpUsable s.dev q = true ∧ (let x := s.dev.qp q; let a := cqSlotAddr x it.index; let found := s.dev.atcFind (qpPort s.dev q).1 (qpPort s.dev q).2.2 a; found = none ∧ s.dev.reqOf q it.index .ring (fun _ => true) = none)) ∧
    (∃ p : Nat, ∃ page : Nat, ∃ log2 : Nat, ∃ tag : Nat, ∃ pasid : Option (BitVec 20), Wf.atsInvalidation p pasid page log2 tag = true) ∧
    (∃ p : Nat, ∃ page : Nat, ∃ log2 : Nat, ∃ tag : Nat, ∃ pasid : Option (BitVec 20), ∃ s : State, ∃ v, Wf.atsInvalidation p pasid page log2 tag = true ∧ s.dev.qde.invals.find? (fun v => v.port == p && v.tag == tag) = some v ∧ (inFlightUnder s.dev v = true ∨ s.dev.portUsable p = false)) ∧
    (∃ p : Nat, ∃ page : Nat, ∃ log2 : Nat, ∃ tag : Nat, ∃ pasid : Option (BitVec 20), ∃ s : State, ∃ v, Wf.atsInvalidation p pasid page log2 tag = true ∧ s.dev.qde.invals.find? (fun v => v.port == p && v.tag == tag) = some v ∧ inFlightUnder s.dev v = false ∧ s.dev.portUsable p = true) ∧
    (∃ p : Pkt, ∃ rest : List Pkt, ∃ s : State, s.dev.qde.rxIn = p :: rest ∧ p.tag.flag 0 = false ∧ (let q := p.tag.queue.toNat; let x := s.dev.qp q; (x.valid = false ∨ x.typ ≠ 1))) ∧
    (∃ p : Pkt, ∃ rest : List Pkt, ∃ s : State, s.dev.qde.rxIn = p :: rest ∧ p.tag.flag 0 = false ∧ (let q := p.tag.queue.toNat; let x := s.dev.qp q; x.valid = true ∧ x.typ = 1 ∧ (s.dev.slice x.slice).state ≠ .active)) ∧
    (∃ p : Pkt, ∃ rest : List Pkt, ∃ s : State, s.dev.qde.rxIn = p :: rest ∧ p.tag.flag 0 = false ∧ (let q := p.tag.queue.toNat; let x := s.dev.qp q; x.valid = true ∧ x.typ = 1 ∧ (s.dev.slice x.slice).state = .active ∧ nextUnused x = none ∧ unfetched x = 0)) ∧
    (∃ p : Pkt, ∃ rest : List Pkt, ∃ s : State, s.dev.qde.rxIn = p :: rest ∧ p.tag.flag 0 = false ∧ (let t := { s.dev with qde := { s.dev.qde with rxIn := rest } }; let q := p.tag.queue.toNat; let x := s.dev.qp q; x.valid = true ∧ x.typ = 1 ∧ (s.dev.slice x.slice).state = .active ∧ nextUnused x = none ∧ 0 < unfetched x ∧ x.staging.length < 4 ∧ t.stagedBytes (rxPort p) + p.bytes.length ≤ 2097152)) ∧
    (∃ p : Pkt, ∃ rest : List Pkt, ∃ s : State, s.dev.qde.rxIn = p :: rest ∧ p.tag.flag 0 = false ∧ (let q := p.tag.queue.toNat; let x := s.dev.qp q; x.valid = true ∧ x.typ = 1 ∧ (s.dev.slice x.slice).state = .active ∧ nextUnused x = none ∧ 0 < unfetched x ∧ 4 ≤ x.staging.length)) ∧
    (∃ p : Pkt, ∃ rest : List Pkt, ∃ s : State, ∃ i, s.dev.qde.rxIn = p :: rest ∧ p.tag.flag 0 = false ∧ (let t := { s.dev with qde := { s.dev.qde with rxIn := rest } }; let q := p.tag.queue.toNat; let x := s.dev.qp q; x.valid = true ∧ x.typ = 1 ∧ (s.dev.slice x.slice).state = .active ∧ nextUnused x = some i ∧ ((i.cached = false ∨ 8 ≤ s.dev.dmaBusy x.channel ∨ x.staging ≠ [])) ∧ x.staging.length < 4 ∧ t.stagedBytes (rxPort p) + p.bytes.length ≤ 2097152)) ∧
    (∃ p : Pkt, ∃ rest : List Pkt, ∃ s : State, ∃ i, s.dev.qde.rxIn = p :: rest ∧ p.tag.flag 0 = false ∧ (let t := { s.dev with qde := { s.dev.qde with rxIn := rest } }; let q := p.tag.queue.toNat; let x := s.dev.qp q; x.valid = true ∧ x.typ = 1 ∧ (s.dev.slice x.slice).state = .active ∧ nextUnused x = some i ∧ ((i.cached = false ∨ 8 ≤ s.dev.dmaBusy x.channel ∨ x.staging ≠ [])) ∧ (4 ≤ x.staging.length ∨ 2097152 < t.stagedBytes (rxPort p) + p.bytes.length))) ∧
    (∃ p : Pkt, ∃ rest : List Pkt, ∃ s : State, ∃ i, s.dev.qde.rxIn = p :: rest ∧ p.tag.flag 0 = false ∧ (let q := p.tag.queue.toNat; let x := s.dev.qp q; x.valid = true ∧ x.typ = 1 ∧ (s.dev.slice x.slice).state = .active ∧ nextUnused x = some i ∧ i.cached = true ∧ s.dev.dmaBusy x.channel < 8 ∧ x.staging = [] ∧ dIndirect i.words = false ∧ dLength i.words < p.bytes.length)) ∧
    (∃ p : Pkt, ∃ rest : List Pkt, ∃ s : State, ∃ i, s.dev.qde.rxIn = p :: rest ∧ p.tag.flag 0 = false ∧ (let q := p.tag.queue.toNat; let x := s.dev.qp q; x.valid = true ∧ x.typ = 1 ∧ (s.dev.slice x.slice).state = .active ∧ nextUnused x = some i ∧ i.cached = true ∧ s.dev.dmaBusy x.channel < 8 ∧ x.staging = [] ∧ dIndirect i.words = false ∧ p.bytes.length ≤ dLength i.words)) := by
  refine ⟨?_, ?_, ?_, ?_, ?_, ?_, ?_, ?_, ?_, ?_, ?_, ?_, ?_, ?_, ?_, ?_, ?_, ?_, ?_, ?_, ?_, ?_, ?_, ?_, ?_, ?_, ?_, ?_, ?_, ?_, ?_, ?_, ?_, ?_, ?_⟩
  · let c : Nat := 2
    let s : State := st ((List.range 8).foldl (fun d n => d.setQp (20 + n) { q0 with producer := 5, items := [st1 (mkIt 0 snd)] }) (Q q0))
    exact ⟨c, s, by decide +kernel⟩
  · let c : Nat := 2
    let s : State := st (Q { q0 with producer := 1, items := [mkIt 0 [0]] })
    exact ⟨c, s, (9), (mkIt 0 [0]), by decide +kernel⟩
  · let c : Nat := 2
    let s : State := st (Q { rxq with items := [mkIt 0 rbuf], staging := [rp] })
    exact ⟨c, s, (9), (mkIt 0 rbuf), by decide +kernel⟩
  · let c : Nat := 2
    let s : State := st (Q { q0 with producer := 2, items := [{ st1 (mkIt 0 snd) with outcome := some ob }, mkIt 1 [0]] })
    exact ⟨c, s, (9), (mkIt 1 [0]), ({ st1 (mkIt 0 snd) with outcome := some ob }), by decide +kernel⟩
  · let c : Nat := 2
    let s : State := st (Q { q0 with producer := 1, items := [mkIt 0 [0]] })
    exact ⟨c, s, (9), (mkIt 0 [0]), by decide +kernel⟩
  · let c : Nat := 2
    let s : State := st (Q { q0 with producer := 1, items := [mkIt 0 snd] })
    exact ⟨c, s, (9), (mkIt 0 snd), by decide +kernel⟩
  · let c : Nat := 2
    let s : State := st { (Q { q0 with typ := 2, producer := 1, items := [mkIt 0 snd] }) with cry := { up.cry with ste := .failed } }
    exact ⟨c, s, (9), (mkIt 0 snd), by decide +kernel⟩
  · let q : Nat := 9
    let i : Nat := 0
    let cause : Nat := 1
    let r : ReadReq := rr
    let it : WorkItem := { st1 (mkIt 0 snd) with req := some rr }
    let z : QdeReq := rd 0 .data 0x300000 4 true
    let s : State := st (wr (rd 0 .data 0x300000 4 true) (Q { q0 with producer := 1, items := [{ st1 (mkIt 0 snd) with req := some rr }] }))
    let res : ReadResult := .unsupported
    exact ⟨q, i, cause, r, it, z, s, res, by decide +kernel⟩
  · let q : Nat := 9
    let i : Nat := 0
    let cause : Nat := 1
    let r : ReadReq := rr
    let it : WorkItem := { st1 (mkIt 0 snd) with req := some rr }
    let z : QdeReq := rd 0 .data 0x300000 4 true
    let s : State := st (wr (rd 0 .data 0x300000 4 true) (Q { q0 with producer := 1, items := [{ st1 (mkIt 0 snd) with req := some rr }] }))
    exact ⟨q, i, r, it, z, s, by decide +kernel⟩
  · let q : Nat := 9
    let i : Nat := 0
    let cause : Nat := 1
    let r : ReadReq := rr
    let it : WorkItem := { st1 (mkIt 0 snd) with req := some rr }
    let z : QdeReq := rd 0 .data 0x300000 4 false
    let s : State := st (wr (rd 0 .data 0x300000 4 false) (Q { q0 with producer := 1, items := [{ st1 (mkIt 0 snd) with req := some rr }] }))
    exact ⟨q, i, r, it, z, s, by decide +kernel⟩
  · let q : Nat := 9
    let i : Nat := 0
    let cause : Nat := 1
    let r : ReadReq := rr
    let it : WorkItem := { st1 (mkIt 0 snd) with req := some rr }
    let z : QdeReq := rd 0 .data 0x300000 4 false
    let s : State := st (wr (rd 0 .data 0x300000 4 false) (dn (Q { q0 with producer := 1, items := [{ st1 (mkIt 0 snd) with req := some rr }] })))
    exact ⟨q, i, r, it, z, s, by decide +kernel⟩
  · let q : Nat := 9
    let i : Nat := 0
    let cause : Nat := 1
    let r : ReadReq := rr
    let it : WorkItem := { st1 (mkIt 0 snd) with req := some rr }
    let z : QdeReq := rd 0 .data 0x300000 4 false
    let s : State := st (wr (rd 0 .data 0x300000 4 false) (Q { q0 with producer := 1, items := [{ st1 (mkIt 0 snd) with req := some rr }] }))
    let g : AtsPage := ⟨12, true, true⟩
    exact ⟨q, i, r, it, z, s, g, by decide +kernel⟩
  · let q : Nat := 9
    let i : Nat := 0
    let cause : Nat := 1
    let r : ReadReq := rr
    let it : WorkItem := { st1 (mkIt 0 snd) with req := some rr }
    let z : QdeReq := rd 0 .data 0x300000 4 true
    let s : State := st (wr (rd 0 .data 0x300000 4 true) (Q { q0 with producer := 1, items := [{ st1 (mkIt 0 snd) with req := some rr }] }))
    let bs : List Byte := [1,2,3,4]
    exact ⟨q, i, r, it, z, s, bs, by decide +kernel⟩
  · let q : Nat := 9
    let i : Nat := 0
    let cause : Nat := 1
    let d : Dev := Q { q0 with producer := 1, items := [{ st1 (mkIt 0 snd) with req := some rr }] }
    let it : WorkItem := { st1 (mkIt 0 snd) with req := some rr }
    let n := 8
    exact ⟨q, i, d, it, n, by decide +kernel⟩
  · let q : Nat := 9
    let i : Nat := 0
    let cause : Nat := 1
    let d : Dev := Q { q0 with producer := 1, items := [{ st1 (mkIt 0 snd) with req := some rr }] }
    let it : WorkItem := { st1 (mkIt 0 snd) with req := some rr }
    exact ⟨q, i, d, it, by decide +kernel⟩
  · let o : WorkOutcome := ob
    let it : WorkItem := { mkIt 0 snd with outcome := some ob }
    exact ⟨it, by decide +kernel⟩
  · let o : WorkOutcome := ob
    let it : WorkItem := mkIt 0 snd
    exact ⟨it, by decide +kernel⟩
  · let q : Nat := 9
    let i : Nat := 0
    let it : WorkItem := { mkIt 0 snd with fencing := some ob }
    let o : WorkOutcome := ob
    let z : QdeReq := rd 0 .fence 0x300000 1 true
    let bs : List Byte := [1]
    let s : State := st (wr (rd 0 .fence 0x300000 1 true) (Q { q0 with producer := 1, items := [{ mkIt 0 snd with fencing := some ob }] }))
    exact ⟨q, i, it, o, z, s, by decide +kernel⟩
  · let q : Nat := 9
    let i : Nat := 0
    let it : WorkItem := { mkIt 0 snd with fencing := some ob }
    let o : WorkOutcome := ob
    let z : QdeReq := rd 0 .fence 0x300000 1 true
    let bs : List Byte := [1]
    let s : State := st (wr (rd 0 .fence 0x300000 1 true) (Q { q0 with producer := 1, items := [{ mkIt 0 snd with fencing := some ob }] }))
    let res : ReadResult := .poisoned
    exact ⟨q, i, it, o, z, s, res, (6), by decide +kernel⟩
  · let q : Nat := 9
    let it : WorkItem := { mkIt 0 snd with outcome := some ob }
    let o : WorkOutcome := ob
    let s : State := st (Q { q0 with producer := 1, items := [{ mkIt 0 snd with outcome := some ob }] })
    exact ⟨q, it, o, s, by decide +kernel⟩
  · let q : Nat := 9
    let it : WorkItem := { mkIt 0 snd with outcome := some ob }
    let o : WorkOutcome := ob
    let s : State := st (Q { q0 with producer := 1, items := [{ mkIt 0 snd with outcome := some ob }] })
    exact ⟨q, it, o, s, (⟨some 5, 12, 0x200, true, true⟩), by decide +kernel⟩
  · let q : Nat := 9
    let it : WorkItem := { mkIt 0 snd with outcome := some ob }
    let o : WorkOutcome := ob
    let s : State := st { (Q { q0 with producer := 1, items := [{ mkIt 0 snd with outcome := some ob }] }) with qde := { (Q { q0 with producer := 1, items := [{ mkIt 0 snd with outcome := some ob }] }).qde with atc := [(0, [⟨some 5, 12, 0x200, true, false⟩])] } }
    exact ⟨q, it, o, s, (⟨some 5, 12, 0x200, true, false⟩), by decide +kernel⟩
  · let q : Nat := 9
    let it : WorkItem := { mkIt 0 snd with outcome := some ob }
    let o : WorkOutcome := ob
    let s : State := st (Q { q0 with producer := 1, cqAddr := 0x900000, items := [{ mkIt 0 snd with outcome := some ob }] })
    exact ⟨q, it, o, s, by decide +kernel⟩
  · let p : Nat := 0
    let page : Nat := 0x100
    let log2 : Nat := 12
    let tag : Nat := 3
    let pasid : Option (BitVec 20) := some 5
    let s : State := st { Q q0 with qde := { (Q q0).qde with invals := [⟨0, 3, some 5, 0x300, 12, 4⟩] } }
    exact ⟨p, page, log2, tag, pasid, by decide +kernel⟩
  · let p : Nat := 0
    let page : Nat := 0x100
    let log2 : Nat := 12
    let tag : Nat := 3
    let pasid : Option (BitVec 20) := some 5
    let s : State := st (wr (rd 0 .data 0x300000 4 true) { Q q0 with qde := { (Q q0).qde with invals := [⟨0, 3, some 5, 0x300, 12, 4⟩] } })
    exact ⟨p, page, log2, tag, pasid, s, (⟨0, 3, some 5, 0x300, 12, 4⟩), by decide +kernel⟩
  · let p : Nat := 0
    let page : Nat := 0x100
    let log2 : Nat := 12
    let tag : Nat := 3
    let pasid : Option (BitVec 20) := some 5
    let s : State := st (wr (rd 0 .data 0x400000 4 true) { Q q0 with qde := { (Q q0).qde with invals := [⟨0, 3, some 5, 0x300, 12, 4⟩] } })
    exact ⟨p, page, log2, tag, pasid, s, (⟨0, 3, some 5, 0x300, 12, 4⟩), by decide +kernel⟩
  · let p : Pkt := rp
    let rest : List Pkt := []
    let s : State := R q0
    exact ⟨p, rest, s, by decide +kernel⟩
  · let p : Pkt := rp
    let rest : List Pkt := []
    let s : State := st { ((Q rxq).setSlice 3 { ac with state := .quiescing }) with qde := { (Q rxq).qde with rxIn := [rp] } }
    exact ⟨p, rest, s, by decide +kernel⟩
  · let p : Pkt := rp
    let rest : List Pkt := []
    let s : State := R { rxq with producer := 0 }
    exact ⟨p, rest, s, by decide +kernel⟩
  · let p : Pkt := rp
    let rest : List Pkt := []
    let s : State := R rxq
    exact ⟨p, rest, s, by decide +kernel⟩
  · let p : Pkt := rp
    let rest : List Pkt := []
    let s : State := R { rxq with staging := [rp, rp, rp, rp] }
    exact ⟨p, rest, s, by decide +kernel⟩
  · let p : Pkt := rp
    let rest : List Pkt := []
    let s : State := R { rxq with items := [newItem 0] }
    exact ⟨p, rest, s, (newItem 0), by decide +kernel⟩
  · let p : Pkt := rp
    let rest : List Pkt := []
    let s : State := R { rxq with items := [mkIt 0 rbuf], staging := [rp, rp, rp, rp] }
    exact ⟨p, rest, s, (mkIt 0 rbuf), by decide +kernel⟩
  · let p : Pkt := rp
    let rest : List Pkt := []
    let s : State := R { rxq with items := [mkIt 0 [2 + (77 <<< 32), 0x300000, 3, 0, 0, 0, 0, 0]] }
    exact ⟨p, rest, s, (mkIt 0 [2 + (77 <<< 32), 0x300000, 3, 0, 0, 0, 0, 0]), by decide +kernel⟩
  · let p : Pkt := rp
    let rest : List Pkt := []
    let s : State := R { rxq with items := [mkIt 0 rbuf] }
    exact ⟨p, rest, s, (mkIt 0 rbuf), by decide +kernel⟩

end DescriptorWorkW

namespace QueueCommandsW

def ac : Slice := { Slice.free with state := .active, pasid := 5, profile := { Profile.slice0 with queuePairs := 16, vectors := 8 } }
def one : Dev := up.setSlice 3 ac
def atc : SMap (List AtcEntry) := [(0, [⟨some 5, 12, 0x100, true, true⟩, ⟨some 5, 12, 0x200, true, true⟩, ⟨some 5, 12, 0x300, true, true⟩])]
def q0 : QueuePair := { QueuePair.none with valid := true, slice := 3, k := 4, channel := 2, prefetch := 4, workAddr := 0x100000, cqAddr := 0x200000 }
def Q (x : QueuePair) : Dev := { one with qde := { one.qde with atc := atc } }.setQp 9 x
def snd : List W64 := [1 + (77 <<< 32), 0x300000, 64, 0, 0, 0, 0, 0]
def it (i : Nat) (ws : List W64) : WorkItem := { newItem i with words := ws, cached := true }
def pk (sl : BitVec 12) (bs : List Byte) : Pkt := Pkt.fresh (newTag up sl 0 0 bs) bs
def A : W64 := 3 + (4 <<< 16) + (2 <<< 24) + (7 <<< 32) + (4 <<< 44)
def crt : Req := rq [A, 0x100000, 0x200000, 100]
def ob : WorkOutcome := ⟨1, 0, 64, 0, 0, 5, 0⟩
def small : Slice := { ac with profile := { ac.profile with queuePairs := 0 } }
def work : QueuePair := { q0 with producer := 2, items := [it 0 snd] }

/-- States and operands that meet the hypotheses of `Obligations.QueueCommands`, one part for each of its 35 cases that have hypotheses. -/
theorem witness_QueueCommands :
    (∃ ch : Nat, ∃ r : Req, ∃ s : State, ∃ d : Dev, cmdWf ch r = true ∧ Accepted spec0200 ch r s.dev d ∧ (let w := r.word 0; d.jnl.replaying = none ∧ (let sl := fld w 11 0; ch < 4096 ∧ ch ≠ sl))) ∧
    (∃ ch : Nat, ∃ r : Req, ∃ s : State, ∃ d : Dev, cmdWf ch r = true ∧ Accepted spec0200 ch r s.dev d ∧ (let w := r.word 0; d.jnl.replaying = none ∧ (let sl := fld w 11 0; let chan := fld w 31 24; let argsOk := fld w 13 12 < 3 ∧ 4 ≤ fld w 20 16 ∧ fld w 20 16 ≤ 16 ∧ (chan < 32 ∨ chan = 255) ∧ vectorOk d sl (fld w 39 32) = true ∧ 1 ≤ fld w 48 44 ∧ fld w 48 44 ≤ 16 ∧ fld (r.word 1) 11 0 = 0 ∧ fld (r.word 2) 11 0 = 0 ∧ fetchTimeoutOk (fld (r.word 3) 16 0) = true ∧ (bit w 14 = true → fld w 13 12 = 1 ∧ d.exceptionQueue sl = none); ((4096 ≤ ch ∨ ch = sl)) ∧ ¬ argsOk))) ∧
    (∃ ch : Nat, ∃ r : Req, ∃ s : State, ∃ d : Dev, cmdWf ch r = true ∧ Accepted spec0200 ch r s.dev d ∧ (let w := r.word 0; d.jnl.replaying = none ∧ (let sl := fld w 11 0; let chan := fld w 31 24; let argsOk := fld w 13 12 < 3 ∧ 4 ≤ fld w 20 16 ∧ fld w 20 16 ≤ 16 ∧ (chan < 32 ∨ chan = 255) ∧ vectorOk d sl (fld w 39 32) = true ∧ 1 ≤ fld w 48 44 ∧ fld w 48 44 ≤ 16 ∧ fld (r.word 1) 11 0 = 0 ∧ fld (r.word 2) 11 0 = 0 ∧ fetchTimeoutOk (fld (r.word 3) 16 0) = true ∧ (bit w 14 = true → fld w 13 12 = 1 ∧ d.exceptionQueue sl = none); argsOk ∧ ((4096 ≤ ch ∨ ch = sl)) ∧ (d.slice sl).state ≠ .active))) ∧
    (∃ ch : Nat, ∃ r : Req, ∃ s : State, ∃ d : Dev, cmdWf ch r = true ∧ Accepted spec0200 ch r s.dev d ∧ (let w := r.word 0; d.jnl.replaying = none ∧ (let sl := fld w 11 0; let chan := fld w 31 24; let argsOk := fld w 13 12 < 3 ∧ 4 ≤ fld w 20 16 ∧ fld w 20 16 ≤ 16 ∧ (chan < 32 ∨ chan = 255) ∧ vectorOk d sl (fld w 39 32) = true ∧ 1 ≤ fld w 48 44 ∧ fld w 48 44 ≤ 16 ∧ fld (r.word 1) 11 0 = 0 ∧ fld (r.word 2) 11 0 = 0 ∧ fetchTimeoutOk (fld (r.word 3) 16 0) = true ∧ (bit w 14 = true → fld w 13 12 = 1 ∧ d.exceptionQueue sl = none); argsOk ∧ ((4096 ≤ ch ∨ ch = sl)) ∧ (d.slice sl).state = .active ∧ (d.slice sl).profile.queuePairs ≤ (d.qpsOf sl).length))) ∧
    (∃ ch : Nat, ∃ r : Req, ∃ s : State, ∃ d : Dev, ∃ e, cmdWf ch r = true ∧ Accepted spec0200 ch r s.dev d ∧ (let w := r.word 0; d.jnl.replaying = none ∧ (let sl := fld w 11 0; let chan := fld w 31 24; let argsOk := fld w 13 12 < 3 ∧ 4 ≤ fld w 20 16 ∧ fld w 20 16 ≤ 16 ∧ (chan < 32 ∨ chan = 255) ∧ vectorOk d sl (fld w 39 32) = true ∧ 1 ≤ fld w 48 44 ∧ fld w 48 44 ≤ 16 ∧ fld (r.word 1) 11 0 = 0 ∧ fld (r.word 2) 11 0 = 0 ∧ fetchTimeoutOk (fld (r.word 3) 16 0) = true ∧ (bit w 14 = true → fld w 13 12 = 1 ∧ d.exceptionQueue sl = none); let n := lowestFree ((d.qde.pairs.filter (fun e => e.2.valid)).map (fun e => e.1)); argsOk ∧ ((4096 ≤ ch ∨ ch = sl)) ∧ (d.slice sl).state = .active ∧ (d.qpsOf sl).length < (d.slice sl).profile.queuePairs ∧ Recorded spec0200 ch r n [BitVec.ofNat 64 n] d e))) ∧
    (∃ ch : Nat, ∃ r : Req, ∃ s : State, ∃ d : Dev, cmdWf ch r = true ∧ Accepted spec0201 ch r s.dev d ∧ (let w := r.word 0; let q := fld w 17 0; let x := d.qp q; x.valid = false)) ∧
    (∃ ch : Nat, ∃ r : Req, ∃ s : State, ∃ d : Dev, cmdWf ch r = true ∧ Accepted spec0201 ch r s.dev d ∧ (let w := r.word 0; let q := fld w 17 0; let x := d.qp q; let mine := 4096 ≤ ch ∨ ch = x.slice; x.valid = true ∧ ¬ mine)) ∧
    (∃ ch : Nat, ∃ r : Req, ∃ s : State, ∃ d : Dev, cmdWf ch r = true ∧ Accepted spec0201 ch r s.dev d ∧ (let w := r.word 0; let q := fld w 17 0; let x := d.qp q; let mine := 4096 ≤ ch ∨ ch = x.slice; x.valid = true ∧ mine ∧ (d.slice x.slice).state = .active ∧ ((x.producer ≠ x.consumer ∨ x.items ≠ [])))) ∧
    (∃ ch : Nat, ∃ r : Req, ∃ s : State, ∃ d : Dev, ∃ e, cmdWf ch r = true ∧ Accepted spec0201 ch r s.dev d ∧ (let w := r.word 0; let q := fld w 17 0; let x := d.qp q; let mine := 4096 ≤ ch ∨ ch = x.slice; x.valid = true ∧ mine ∧ (((d.slice x.slice).state ≠ .active ∨ (x.producer = x.consumer ∧ x.items = []))) ∧ Recorded spec0201 ch r q [] d e)) ∧
    (∃ ch : Nat, ∃ r : Req, ∃ s : State, ∃ d : Dev, cmdWf ch r = true ∧ Accepted spec0202 ch r s.dev d ∧ (let w := r.word 0; let q := fld w 17 0; let x := d.qp q; x.valid = false)) ∧
    (∃ ch : Nat, ∃ r : Req, ∃ s : State, ∃ d : Dev, cmdWf ch r = true ∧ Accepted spec0202 ch r s.dev d ∧ (let w := r.word 0; let q := fld w 17 0; let x := d.qp q; let mine := 4096 ≤ ch ∨ ch = x.slice; x.valid = true ∧ mine)) ∧
    (∃ ch : Nat, ∃ r : Req, ∃ s : State, ∃ d : Dev, cmdWf ch r = true ∧ Accepted spec0202 ch r s.dev d ∧ (let w := r.word 0; let q := fld w 17 0; let x := d.qp q; let mine := 4096 ≤ ch ∨ ch = x.slice; x.valid = true ∧ ¬ mine)) ∧
    (∃ ch : Nat, ∃ r : Req, ∃ s : State, ∃ d : Dev, cmdWf ch r = true ∧ Accepted spec0203 ch r s.dev d ∧ (let w := r.word 0; let q := fld w 17 0; let x := d.qp q; let argsOk := x.valid = true ∧ vectorOk d x.slice (fld w 39 32) = true ∧ 1 ≤ fld w 48 44 ∧ fld w 48 44 ≤ 16 ∧ fetchTimeoutOk (fld (r.word 1) 16 0) = true; ¬ argsOk)) ∧
    (∃ ch : Nat, ∃ r : Req, ∃ s : State, ∃ d : Dev, cmdWf ch r = true ∧ Accepted spec0203 ch r s.dev d ∧ (let w := r.word 0; let q := fld w 17 0; let x := d.qp q; let mine := 4096 ≤ ch ∨ ch = x.slice; let argsOk := x.valid = true ∧ vectorOk d x.slice (fld w 39 32) = true ∧ 1 ≤ fld w 48 44 ∧ fld w 48 44 ≤ 16 ∧ fetchTimeoutOk (fld (r.word 1) 16 0) = true; argsOk ∧ ¬ mine)) ∧
    (∃ ch : Nat, ∃ r : Req, ∃ s : State, ∃ d : Dev, cmdWf ch r = true ∧ Accepted spec0203 ch r s.dev d ∧ (let w := r.word 0; let q := fld w 17 0; let x := d.qp q; let mine := 4096 ≤ ch ∨ ch = x.slice; let argsOk := x.valid = true ∧ vectorOk d x.slice (fld w 39 32) = true ∧ 1 ≤ fld w 48 44 ∧ fld w 48 44 ≤ 16 ∧ fetchTimeoutOk (fld (r.word 1) 16 0) = true; argsOk ∧ mine ∧ (d.slice x.slice).state ≠ .active)) ∧
    (∃ ch : Nat, ∃ r : Req, ∃ s : State, ∃ d : Dev, ∃ e, cmdWf ch r = true ∧ Accepted spec0203 ch r s.dev d ∧ (let w := r.word 0; let q := fld w 17 0; let x := d.qp q; let mine := 4096 ≤ ch ∨ ch = x.slice; let argsOk := x.valid = true ∧ vectorOk d x.slice (fld w 39 32) = true ∧ 1 ≤ fld w 48 44 ∧ fld w 48 44 ≤ 16 ∧ fetchTimeoutOk (fld (r.word 1) 16 0) = true; argsOk ∧ mine ∧ (d.slice x.slice).state = .active ∧ Recorded spec0203 ch r q [] d e)) ∧
    (∃ ch : Nat, ∃ r : Req, ∃ s : State, ∃ d : Dev, cmdWf ch r = true ∧ Accepted spec0204 ch r s.dev d ∧ (let w := r.word 0; let q := fld w 17 0; let x := d.qp q; x.valid = false)) ∧
    (∃ ch : Nat, ∃ r : Req, ∃ s : State, ∃ d : Dev, cmdWf ch r = true ∧ Accepted spec0204 ch r s.dev d ∧ (let w := r.word 0; let q := fld w 17 0; let x := d.qp q; let mine := 4096 ≤ ch ∨ ch = x.slice; x.valid = true ∧ ¬ mine)) ∧
    (∃ ch : Nat, ∃ r : Req, ∃ s : State, ∃ d : Dev, cmdWf ch r = true ∧ Accepted spec0204 ch r s.dev d ∧ (let w := r.word 0; let q := fld w 17 0; let x := d.qp q; let mine := 4096 ≤ ch ∨ ch = x.slice; x.valid = true ∧ mine ∧ (d.slice x.slice).state ≠ .active)) ∧
    (∃ ch : Nat, ∃ r : Req, ∃ s : State, ∃ d : Dev, cmdWf ch r = true ∧ Accepted spec0204 ch r s.dev d ∧ (let w := r.word 0; let q := fld w 17 0; let x := d.qp q; let mine := 4096 ≤ ch ∨ ch = x.slice; x.valid = true ∧ mine ∧ (d.slice x.slice).state = .active ∧ x.fetchError = false)) ∧
    (∃ ch : Nat, ∃ r : Req, ∃ s : State, ∃ d : Dev, cmdWf ch r = true ∧ Accepted spec0204 ch r s.dev d ∧ (let w := r.word 0; let q := fld w 17 0; let x := d.qp q; let mine := 4096 ≤ ch ∨ ch = x.slice; x.valid = true ∧ mine ∧ (d.slice x.slice).state = .active ∧ x.fetchError = true)) ∧
    (∃ ch : Nat, ∃ r : Req, ∃ s : State, ∃ d : Dev, cmdWf ch r = true ∧ Accepted spec0205 ch r s.dev d ∧ (let w := r.word 0; let q := fld w 17 0; let x := d.qp q; let idx := fld w 48 32; let posted := x.valid = true ∧ idx < 2 ^ (x.k + 1) ∧ qpDiff x idx x.consumer < outstanding x; ¬ posted)) ∧
    (∃ ch : Nat, ∃ r : Req, ∃ s : State, ∃ d : Dev, ∃ i, cmdWf ch r = true ∧ Accepted spec0205 ch r s.dev d ∧ (let w := r.word 0; let q := fld w 17 0; let x := d.qp q; let mine := 4096 ≤ ch ∨ ch = x.slice; let idx := fld w 48 32; let posted := x.valid = true ∧ idx < 2 ^ (x.k + 1) ∧ qpDiff x idx x.consumer < outstanding x; posted ∧ mine ∧ (d.slice x.slice).state = .active ∧ findItem x idx = some i ∧ WorkItem.fetched i = true ∧ dSeq i.words ≠ BitVec.ofNat 32 (fld (r.word 1) 31 0))) ∧
    (∃ ch : Nat, ∃ r : Req, ∃ s : State, ∃ d : Dev, ∃ i, cmdWf ch r = true ∧ Accepted spec0205 ch r s.dev d ∧ (let w := r.word 0; let q := fld w 17 0; let x := d.qp q; let mine := 4096 ≤ ch ∨ ch = x.slice; let idx := fld w 48 32; let posted := x.valid = true ∧ idx < 2 ^ (x.k + 1) ∧ qpDiff x idx x.consumer < outstanding x; posted ∧ mine ∧ (d.slice x.slice).state = .active ∧ findItem x idx = some i ∧ WorkItem.fetched i = true ∧ dSeq i.words = BitVec.ofNat 32 (fld (r.word 1) 31 0) ∧ i.outcome ≠ none)) ∧
    (∃ ch : Nat, ∃ r : Req, ∃ s : State, ∃ d : Dev, ∃ i, cmdWf ch r = true ∧ Accepted spec0205 ch r s.dev d ∧ (let w := r.word 0; let q := fld w 17 0; let x := d.qp q; let mine := 4096 ≤ ch ∨ ch = x.slice; let idx := fld w 48 32; let posted := x.valid = true ∧ idx < 2 ^ (x.k + 1) ∧ qpDiff x idx x.consumer < outstanding x; posted ∧ mine ∧ (d.slice x.slice).state = .active ∧ findItem x idx = some i ∧ WorkItem.fetched i = true ∧ dSeq i.words = BitVec.ofNat 32 (fld (r.word 1) 31 0) ∧ i.outcome = none)) ∧
    (∃ ch : Nat, ∃ r : Req, ∃ s : State, ∃ d : Dev, cmdWf ch r = true ∧ Accepted spec0205 ch r s.dev d ∧ (let w := r.word 0; let q := fld w 17 0; let x := d.qp q; let mine := 4096 ≤ ch ∨ ch = x.slice; let idx := fld w 48 32; let posted := x.valid = true ∧ idx < 2 ^ (x.k + 1) ∧ qpDiff x idx x.consumer < outstanding x; posted ∧ mine ∧ (d.slice x.slice).state = .active ∧ ((∀ i, findItem x idx = some i → WorkItem.fetched i = false)))) ∧
    (∃ ch : Nat, ∃ r : Req, ∃ s : State, ∃ d : Dev, cmdWf ch r = true ∧ Accepted spec0230 ch r s.dev d ∧ (let w := r.word 0; let q := fld w 17 0; let x := d.qp q; let reached := d.isInternal ch = false ∧ (4096 ≤ ch ∨ (x.valid = true ∧ ch = x.slice)); ¬ reached)) ∧
    (∃ ch : Nat, ∃ r : Req, ∃ s : State, ∃ d : Dev, cmdWf ch r = true ∧ Accepted spec0230 ch r s.dev d ∧ (let w := r.word 0; let q := fld w 17 0; let x := d.qp q; let reached := d.isInternal ch = false ∧ (4096 ≤ ch ∨ (x.valid = true ∧ ch = x.slice)); let argsOk := x.valid = true ∧ fld (r.word 1) 2 0 = 0 ∧ 2048 ≤ fld (r.word 2) 31 0; reached ∧ ¬ argsOk)) ∧
    (∃ ch : Nat, ∃ r : Req, ∃ s : State, ∃ d : Dev, cmdWf ch r = true ∧ Accepted spec0230 ch r s.dev d ∧ (let w := r.word 0; let q := fld w 17 0; let x := d.qp q; let reached := d.isInternal ch = false ∧ (4096 ≤ ch ∨ (x.valid = true ∧ ch = x.slice)); let argsOk := x.valid = true ∧ fld (r.word 1) 2 0 = 0 ∧ 2048 ≤ fld (r.word 2) 31 0; reached ∧ argsOk ∧ (d.slice x.slice).state = .active ∧ x.fetchError = false)) ∧
    (∃ ch : Nat, ∃ r : Req, ∃ s : State, ∃ d : Dev, cmdWf ch r = true ∧ Accepted spec0230 ch r s.dev d ∧ (let w := r.word 0; let q := fld w 17 0; let x := d.qp q; let reached := d.isInternal ch = false ∧ (4096 ≤ ch ∨ (x.valid = true ∧ ch = x.slice)); let argsOk := x.valid = true ∧ fld (r.word 1) 2 0 = 0 ∧ 2048 ≤ fld (r.word 2) 31 0; let es := (x.items.filter WorkItem.fetched).map (recoveryEntry d x); reached ∧ argsOk ∧ (((d.slice x.slice).state ≠ .active ∨ x.fetchError = true)) ∧ (es = [] ∨ bufferFault .notPermitted d ch r = none))) ∧
    (∃ ch : Nat, ∃ r : Req, ∃ s : State, ∃ d : Dev, ∃ st, cmdWf ch r = true ∧ Accepted spec0230 ch r s.dev d ∧ (let w := r.word 0; let q := fld w 17 0; let x := d.qp q; let reached := d.isInternal ch = false ∧ (4096 ≤ ch ∨ (x.valid = true ∧ ch = x.slice)); let argsOk := x.valid = true ∧ fld (r.word 1) 2 0 = 0 ∧ 2048 ≤ fld (r.word 2) 31 0; let es := (x.items.filter WorkItem.fetched).map (recoveryEntry d x); reached ∧ argsOk ∧ (((d.slice x.slice).state ≠ .active ∨ x.fetchError = true)) ∧ es ≠ [] ∧ bufferFault .notPermitted d ch r = some st)) ∧
    (∃ w : RegWrite, w.master = 1 ∧ w.len = 8 ∧ w.off = 13 * 2048 + 0x208 ∧ (let low := fld w.value 7 0; let high := fld w.value 15 8; (¬ (low ≤ 127 ∧ low + 1 ≤ high ∧ high ≤ 128)))) ∧
    (∃ w : RegWrite, w.master = 1 ∧ w.len = 8 ∧ w.off = 13 * 2048 + 0x208 ∧ (let low := fld w.value 7 0; let high := fld w.value 15 8; low ≤ 127 ∧ low + 1 ≤ high ∧ high ≤ 128)) ∧
    (∃ w : RegWrite, ∃ s : State, w.master = 1 ∧ w.len = 8 ∧ w.off = 13 * 2048 + 0x208 ∧ (let c := s.dev.regField isl.QDE 0x200 6 0; let low := fld w.value 7 0; let high := fld w.value 15 8; low ≤ 127 ∧ low + 1 ≤ high ∧ high ≤ 128 ∧ (let e := s.dev.setDma c { s.dev.dma c with pendLow := some low, pendHigh := some high }; e.dmaFill c ≤ low))) ∧
    (∃ w : RegWrite, ∃ s : State, w.master = 1 ∧ w.len = 8 ∧ w.off = 13 * 2048 + 0x208 ∧ (let c := s.dev.regField isl.QDE 0x200 6 0; let low := fld w.value 7 0; let high := fld w.value 15 8; low ≤ 127 ∧ low + 1 ≤ high ∧ high ≤ 128 ∧ (let e := s.dev.setDma c { s.dev.dma c with pendLow := some low, pendHigh := some high }; low < e.dmaFill c ∧ high ≤ e.dmaFill c))) := by
  refine ⟨?_, ?_, ?_, ?_, ?_, ?_, ?_, ?_, ?_, ?_, ?_, ?_, ?_, ?_, ?_, ?_, ?_, ?_, ?_, ?_, ?_, ?_, ?_, ?_, ?_, ?_, ?_, ?_, ?_, ?_, ?_, ?_, ?_, ?_, ?_⟩
  · let ch : Nat := 4
    let r : Req := crt
    let s : State := st (one.setSlice 4 ac)
    let d : Dev := tkc 4 spec0200 r s.dev
    exact ⟨ch, r, s, d, by decide +kernel, ⟨(by decide +kernel), (by decide +kernel), rfl, (by decide +kernel)⟩, by decide +kernel⟩
  · let ch : Nat := 4096
    let r : Req := rq [A, 0x100001, 0x200000, 100]
    let s : State := st one
    let d : Dev := tk spec0200 r s.dev
    exact ⟨ch, r, s, d, by decide +kernel, ⟨(by decide +kernel), (by decide +kernel), rfl, (by decide +kernel)⟩, by decide +kernel⟩
  · let ch : Nat := 4096
    let r : Req := crt
    let s : State := st (up.setSlice 3 { ac with state := .halted })
    let d : Dev := tk spec0200 r s.dev
    exact ⟨ch, r, s, d, by decide +kernel, ⟨(by decide +kernel), (by decide +kernel), rfl, (by decide +kernel)⟩, by decide +kernel⟩
  · let ch : Nat := 4096
    let r : Req := crt
    let s : State := st (up.setSlice 3 small)
    let d : Dev := tk spec0200 r s.dev
    exact ⟨ch, r, s, d, by decide +kernel, ⟨(by decide +kernel), (by decide +kernel), rfl, (by decide +kernel)⟩, by decide +kernel⟩
  · let ch : Nat := 4096
    let r : Req := crt
    let s : State := st (Q q0)
    let d : Dev := tk spec0200 r s.dev
    exact ⟨ch, r, s, d, (recd spec0200 ch r 0 [0] d), by decide +kernel, ⟨(by decide +kernel), (by decide +kernel), rfl, (by decide +kernel)⟩, by delta Recorded; decide +kernel⟩
  · let ch : Nat := 4096
    let r : Req := rq [8]
    let s : State := st (Q q0)
    let d : Dev := tk spec0201 r s.dev
    exact ⟨ch, r, s, d, by decide +kernel, ⟨(by decide +kernel), (by decide +kernel), rfl, (by decide +kernel)⟩, by decide +kernel⟩
  · let ch : Nat := 4
    let r : Req := rq [9]
    let s : State := st ((Q q0).setSlice 4 ac)
    let d : Dev := tkc 4 spec0201 r s.dev
    exact ⟨ch, r, s, d, by decide +kernel, ⟨(by decide +kernel), (by decide +kernel), rfl, (by decide +kernel)⟩, by decide +kernel⟩
  · let ch : Nat := 4096
    let r : Req := rq [9]
    let s : State := st (Q work)
    let d : Dev := tk spec0201 r s.dev
    exact ⟨ch, r, s, d, by decide +kernel, ⟨(by decide +kernel), (by decide +kernel), rfl, (by decide +kernel)⟩, by decide +kernel⟩
  · let ch : Nat := 4096
    let r : Req := rq [9]
    let s : State := st (Q q0)
    let d : Dev := tk spec0201 r s.dev
    exact ⟨ch, r, s, d, (recd spec0201 ch r 9 [] d), by decide +kernel, ⟨(by decide +kernel), (by decide +kernel), rfl, (by decide +kernel)⟩, by delta Recorded; decide +kernel⟩
  · let ch : Nat := 4096
    let r : Req := rqi [8]
    let s : State := st (Q q0)
    let d : Dev := tk spec0202 r s.dev
    exact ⟨ch, r, s, d, by decide +kernel, ⟨(by decide +kernel), (by decide +kernel), rfl, (by decide +kernel)⟩, by decide +kernel⟩
  · let ch : Nat := 4096
    let r : Req := rqi [9]
    let s : State := st (Q q0)
    let d : Dev := tk spec0202 r s.dev
    exact ⟨ch, r, s, d, by decide +kernel, ⟨(by decide +kernel), (by decide +kernel), rfl, (by decide +kernel)⟩, by decide +kernel⟩
  · let ch : Nat := 4
    let r : Req := rqi [9]
    let s : State := st ((Q q0).setSlice 4 ac)
    let d : Dev := tkc 4 spec0202 r s.dev
    exact ⟨ch, r, s, d, by decide +kernel, ⟨(by decide +kernel), (by decide +kernel), rfl, (by decide +kernel)⟩, by decide +kernel⟩
  · let ch : Nat := 4096
    let r : Req := rq [9 + (7 <<< 32) + (1 <<< 40), 100]
    let s : State := st (Q q0)
    let d : Dev := tk spec0203 r s.dev
    exact ⟨ch, r, s, d, by decide +kernel, ⟨(by decide +kernel), (by decide +kernel), rfl, (by decide +kernel)⟩, by decide +kernel⟩
  · let ch : Nat := 4
    let r : Req := rq [9 + (7 <<< 32) + (1 <<< 40) + (16 <<< 44), 100]
    let s : State := st ((Q q0).setSlice 4 ac)
    let d : Dev := tkc 4 spec0203 r s.dev
    exact ⟨ch, r, s, d, by decide +kernel, ⟨(by decide +kernel), (by decide +kernel), rfl, (by decide +kernel)⟩, by decide +kernel⟩
  · let ch : Nat := 4096
    let r : Req := rq [9 + (7 <<< 32) + (1 <<< 40) + (16 <<< 44), 100]
    let s : State := st ((Q q0).setSlice 3 { ac with state := .halted })
    let d : Dev := tk spec0203 r s.dev
    exact ⟨ch, r, s, d, by decide +kernel, ⟨(by decide +kernel), (by decide +kernel), rfl, (by decide +kernel)⟩, by decide +kernel⟩
  · let ch : Nat := 4096
    let r : Req := rq [9 + (7 <<< 32) + (1 <<< 40) + (16 <<< 44), 100]
    let s : State := st (Q q0)
    let d : Dev := tk spec0203 r s.dev
    exact ⟨ch, r, s, d, (recd spec0203 ch r 9 [] d), by decide +kernel, ⟨(by decide +kernel), (by decide +kernel), rfl, (by decide +kernel)⟩, by delta Recorded; decide +kernel⟩
  · let ch : Nat := 4096
    let r : Req := rq [8]
    let s : State := st (Q q0)
    let d : Dev := tk spec0204 r s.dev
    exact ⟨ch, r, s, d, by decide +kernel, ⟨(by decide +kernel), (by decide +kernel), rfl, (by decide +kernel)⟩, by decide +kernel⟩
  · let ch : Nat := 4
    let r : Req := rq [9]
    let s : State := st ((Q q0).setSlice 4 ac)
    let d : Dev := tkc 4 spec0204 r s.dev
    exact ⟨ch, r, s, d, by decide +kernel, ⟨(by decide +kernel), (by decide +kernel), rfl, (by decide +kernel)⟩, by decide +kernel⟩
  · let ch : Nat := 4096
    let r : Req := rq [9]
    let s : State := st ((Q q0).setSlice 3 { ac with state := .halted })
    let d : Dev := tk spec0204 r s.dev
    exact ⟨ch, r, s, d, by decide +kernel, ⟨(by decide +kernel), (by decide +kernel), rfl, (by decide +kernel)⟩, by decide +kernel⟩
  · let ch : Nat := 4096
    let r : Req := rq [9]
    let s : State := st (Q q0)
    let d : Dev := tk spec0204 r s.dev
    exact ⟨ch, r, s, d, by decide +kernel, ⟨(by decide +kernel), (by decide +kernel), rfl, (by decide +kernel)⟩, by decide +kernel⟩
  · let ch : Nat := 4096
    let r : Req := rq [9]
    let s : State := st (Q { q0 with fetchError := true })
    let d : Dev := tk spec0204 r s.dev
    exact ⟨ch, r, s, d, by decide +kernel, ⟨(by decide +kernel), (by decide +kernel), rfl, (by decide +kernel)⟩, by decide +kernel⟩
  · let ch : Nat := 4096
    let r : Req := rq [9, 78]
    let s : State := st (Q q0)
    let d : Dev := tk spec0205 r s.dev
    exact ⟨ch, r, s, d, by decide +kernel, ⟨(by decide +kernel), (by decide +kernel), rfl, (by decide +kernel)⟩, by decide +kernel⟩
  · let ch : Nat := 4096
    let r : Req := rq [9, 78]
    let s : State := st (Q work)
    let d : Dev := tk spec0205 r s.dev
    exact ⟨ch, r, s, d, (QueueCommandsW.it 0 snd), by decide +kernel, ⟨(by decide +kernel), (by decide +kernel), rfl, (by decide +kernel)⟩, by decide +kernel⟩
  · let ch : Nat := 4096
    let r : Req := rq [9, 77]
    let s : State := st (Q { work with items := [{ QueueCommandsW.it 0 snd with outcome := some ob }] })
    let d : Dev := tk spec0205 r s.dev
    exact ⟨ch, r, s, d, ({ QueueCommandsW.it 0 snd with outcome := some ob }), by decide +kernel, ⟨(by decide +kernel), (by decide +kernel), rfl, (by decide +kernel)⟩, by decide +kernel⟩
  · let ch : Nat := 4096
    let r : Req := rq [9, 77]
    let s : State := st (Q work)
    let d : Dev := tk spec0205 r s.dev
    exact ⟨ch, r, s, d, (QueueCommandsW.it 0 snd), by decide +kernel, ⟨(by decide +kernel), (by decide +kernel), rfl, (by decide +kernel)⟩, by decide +kernel⟩
  · let ch : Nat := 4096
    let r : Req := rq [9 + (1 <<< 32), 77]
    let s : State := st (Q work)
    let d : Dev := tk spec0205 r s.dev
    exact ⟨ch, r, s, d, by decide +kernel, ⟨(by decide +kernel), (by decide +kernel), rfl, (by decide +kernel)⟩, by decide +kernel⟩
  · let ch : Nat := 4
    let r : Req := rqi [9, 0x5000, 4096]
    let s : State := st ((Q q0).setSlice 4 ac)
    let d : Dev := tkc 4 spec0230 r s.dev
    exact ⟨ch, r, s, d, by decide +kernel, ⟨(by decide +kernel), (by decide +kernel), rfl, (by decide +kernel)⟩, by decide +kernel⟩
  · let ch : Nat := 4096
    let r : Req := rqi [9, 0x5001, 4096]
    let s : State := st (Q work)
    let d : Dev := tk spec0230 r s.dev
    exact ⟨ch, r, s, d, by decide +kernel, ⟨(by decide +kernel), (by decide +kernel), rfl, (by decide +kernel)⟩, by decide +kernel⟩
  · let ch : Nat := 4096
    let r : Req := rqi [9, 0x5000, 4096]
    let s : State := st (Q work)
    let d : Dev := tk spec0230 r s.dev
    exact ⟨ch, r, s, d, by decide +kernel, ⟨(by decide +kernel), (by decide +kernel), rfl, (by decide +kernel)⟩, by decide +kernel⟩
  · let ch : Nat := 4096
    let r : Req := rqi [9, 0x5000, 4096]
    let s : State := st (Q { work with fetchError := true })
    let d : Dev := tk spec0230 r s.dev
    exact ⟨ch, r, s, d, by decide +kernel, ⟨(by decide +kernel), (by decide +kernel), rfl, (by decide +kernel)⟩, by decide +kernel⟩
  · let ch : Nat := 4096
    let r : Req := { rq [9, 0x5000, 4096] with host := ⟨false, true, true, []⟩ }
    let s : State := st (Q { work with fetchError := true })
    let d : Dev := tk spec0230 r s.dev
    let st := Status.notPermitted
    exact ⟨ch, r, s, d, st, by decide +kernel, ⟨(by decide +kernel), (by decide +kernel), rfl, (by decide +kernel)⟩, by decide +kernel⟩
  · let w : RegWrite := ⟨1, false, 13 * 2048 + 0x208, 8, 5 + 5 * 256⟩
    let s : State := st (Q work)
    exact ⟨w, by decide +kernel⟩
  · let w : RegWrite := ⟨1, false, 13 * 2048 + 0x208, 8, 5 + 128 * 256⟩
    let s : State := st (Q work)
    exact ⟨w, by decide +kernel⟩
  · let w : RegWrite := ⟨1, false, 13 * 2048 + 0x208, 8, 5 + 128 * 256⟩
    let s : State := st (Q work)
    exact ⟨w, s, by decide +kernel⟩
  · let w : RegWrite := ⟨1, false, 13 * 2048 + 0x208, 8, 0 + 1 * 256⟩
    let s : State := st (Q { work with channel := 0, items := [it 0 snd, it 1 snd] })
    exact ⟨w, s, by decide +kernel⟩

end QueueCommandsW

namespace EthernetPortsW

def ac : Slice := { Slice.free with state := .active, pasid := 5, profile := { Profile.slice0 with queuePairs := 16, vectors := 8 } }
def one : Dev := up.setSlice 3 ac
def atc : SMap (List AtcEntry) := [(0, [⟨some 5, 12, 0x100, true, true⟩, ⟨some 5, 12, 0x200, true, true⟩, ⟨some 5, 12, 0x300, true, true⟩])]
def q0 : QueuePair := { QueuePair.none with valid := true, slice := 3, k := 4, channel := 2, prefetch := 4, workAddr := 0x100000, cqAddr := 0x200000 }
def Q (x : QueuePair) : Dev := { one with qde := { one.qde with atc := atc } }.setQp 9 x
def snd : List W64 := [1 + (77 <<< 32), 0x300000, 64, 0, 0, 0, 0, 0]
def it (i : Nat) (ws : List W64) : WorkItem := { newItem i with words := ws, cached := true }
def pk (sl : BitVec 12) (bs : List Byte) : Pkt := Pkt.fresh (newTag up sl 0 0 bs) bs
def ep (s : PortState) : EthPort := { newPort 8 2 with state := s }
def E (x : EthPort) : Dev := { one with eth := { one.eth with modes := [(1, 2)] } }.setEport 8 x
def inf (op : Nat) (w : W64) (d : Dev) : Dev := { d with jnl := { d.jnl with inflight := [{ typ := 6, seq := 1, time := 0, subject := 1, lines := 1, written := 0, body := .config op 4096 [w], then' := .nothing }], nextSeq := 2 } }

/-- States and operands that meet the hypotheses of `Obligations.EthernetPorts`, one part for each of its 25 cases that have hypotheses. -/
theorem witness_EthernetPorts :
    (∃ p : Nat, ∃ lane : Nat, ∃ s : State, p < 64 ∧ lane < 8 ∧ (let x := s.dev.eport p; x.state = .negotiating)) ∧
    (∃ p : Nat, ∃ lane : Nat, ∃ s : State, p < 64 ∧ lane < 8 ∧ (let x := s.dev.eport p; x.state = .training)) ∧
    (∃ p : Nat, ∃ lane : Nat, ∃ s : State, p < 64 ∧ lane < 8 ∧ (let x := s.dev.eport p; x.state = .locking)) ∧
    (∃ p : Nat, ∃ lane : Nat, ∃ s : State, p < 64 ∧ lane < 8 ∧ (let x := s.dev.eport p; x.state = .up)) ∧
    (∃ p : Nat, ∃ lane : Nat, ∃ s : State, p < 64 ∧ lane < 8 ∧ (let x := s.dev.eport p; x.state ≠ .negotiating)) ∧
    (∃ p : Nat, ∃ lane : Nat, ∃ s : State, p < 64 ∧ lane < 8 ∧ (let x := s.dev.eport p; x.state ≠ .training)) ∧
    (∃ p : Nat, ∃ lane : Nat, ∃ s : State, p < 64 ∧ lane < 8 ∧ (let x := s.dev.eport p; x.state ≠ .locking)) ∧
    (∃ p : Nat, ∃ lane : Nat, ∃ s : State, p < 64 ∧ lane < 8 ∧ (let x := s.dev.eport p; x.state ≠ .up)) ∧
    (∃ ch : Nat, ∃ r : Req, ∃ s : State, ∃ d : Dev, cmdWf ch r = true ∧ Accepted spec0300 ch r s.dev d ∧ (let w := r.word 0; let m := fld w 11 8; 8 < m)) ∧
    (∃ ch : Nat, ∃ r : Req, ∃ s : State, ∃ d : Dev, cmdWf ch r = true ∧ Accepted spec0300 ch r s.dev d ∧ (let w := r.word 0; let o := fld w 2 0; let m := fld w 11 8; m ≤ 8 ∧ octetBusy d o = true)) ∧
    (∃ ch : Nat, ∃ r : Req, ∃ s : State, ∃ d : Dev, cmdWf ch r = true ∧ Accepted spec0300 ch r s.dev d ∧ (let w := r.word 0; let o := fld w 2 0; let m := fld w 11 8; m ≤ 8 ∧ octetBusy d o = false ∧ m = d.octetMode o)) ∧
    (∃ ch : Nat, ∃ r : Req, ∃ s : State, ∃ d : Dev, ∃ e, cmdWf ch r = true ∧ Accepted spec0300 ch r s.dev d ∧ (let w := r.word 0; let o := fld w 2 0; let m := fld w 11 8; m ≤ 8 ∧ octetBusy d o = false ∧ m ≠ d.octetMode o ∧ Recorded spec0300 ch r o [] d e)) ∧
    (∃ ch : Nat, ∃ r : Req, ∃ s : State, ∃ d : Dev, cmdWf ch r = true ∧ Accepted spec0301 ch r s.dev d ∧ (let w := r.word 0; let p := fld w 5 0; portCfgOk d p w (r.word 1) = false)) ∧
    (∃ ch : Nat, ∃ r : Req, ∃ s : State, ∃ d : Dev, cmdWf ch r = true ∧ Accepted spec0301 ch r s.dev d ∧ (let w := r.word 0; let p := fld w 5 0; portCfgOk d p w (r.word 1) = true ∧ octetBusy d (p / 8) = true)) ∧
    (∃ ch : Nat, ∃ r : Req, ∃ s : State, ∃ d : Dev, ∃ e, cmdWf ch r = true ∧ Accepted spec0301 ch r s.dev d ∧ (let w := r.word 0; let p := fld w 5 0; portCfgOk d p w (r.word 1) = true ∧ octetBusy d (p / 8) = false ∧ Recorded spec0301 ch r p [] d e)) ∧
    (∃ ch : Nat, ∃ r : Req, ∃ s : State, ∃ d : Dev, cmdWf ch r = true ∧ Accepted spec0302 ch r s.dev d ∧ (let w := r.word 0; let p := fld w 5 0; (d.eport p).state ≠ .none ∧ octetBusy d (p / 8) = true)) ∧
    (∃ ch : Nat, ∃ r : Req, ∃ s : State, ∃ d : Dev, cmdWf ch r = true ∧ Accepted spec0302 ch r s.dev d ∧ (let w := r.word 0; let p := fld w 5 0; (d.eport p).state ≠ .none ∧ octetBusy d (p / 8) = false)) ∧
    (∃ ch : Nat, ∃ r : Req, ∃ s : State, ∃ d : Dev, cmdWf ch r = true ∧ Accepted spec0302 ch r s.dev d ∧ (let w := r.word 0; let p := fld w 5 0; (d.eport p).state = .none)) ∧
    (∃ ch : Nat, ∃ r : Req, ∃ s : State, ∃ d : Dev, cmdWf ch r = true ∧ Accepted spec0303 ch r s.dev d ∧ (let w := r.word 0; let p := fld w 5 0; let x := d.eport p; (x.state = .none ∨ fld (r.word 1) 2 0 ≠ 0))) ∧
    (∃ ch : Nat, ∃ r : Req, ∃ s : State, ∃ d : Dev, cmdWf ch r = true ∧ Accepted spec0303 ch r s.dev d ∧ (let w := r.word 0; let p := fld w 5 0; let x := d.eport p; x.state ≠ .none ∧ fld (r.word 1) 2 0 = 0 ∧ octetBusy d (p / 8) = true)) ∧
    (∃ ch : Nat, ∃ r : Req, ∃ s : State, ∃ d : Dev, cmdWf ch r = true ∧ Accepted spec0303 ch r s.dev d ∧ (let w := r.word 0; let p := fld w 5 0; let x := d.eport p; x.state ≠ .none ∧ fld (r.word 1) 2 0 = 0 ∧ octetBusy d (p / 8) = false ∧ bufferFault .timeout d ch r = none)) ∧
    (∃ ch : Nat, ∃ r : Req, ∃ s : State, ∃ d : Dev, ∃ st, cmdWf ch r = true ∧ Accepted spec0303 ch r s.dev d ∧ (let w := r.word 0; let p := fld w 5 0; let x := d.eport p; x.state ≠ .none ∧ fld (r.word 1) 2 0 = 0 ∧ octetBusy d (p / 8) = false ∧ bufferFault .timeout d ch r = some st ∧ x.tsFifo = [])) ∧
    (∃ ch : Nat, ∃ r : Req, ∃ s : State, ∃ d : Dev, ∃ st, cmdWf ch r = true ∧ Accepted spec0303 ch r s.dev d ∧ (let w := r.word 0; let p := fld w 5 0; let x := d.eport p; x.state ≠ .none ∧ fld (r.word 1) 2 0 = 0 ∧ octetBusy d (p / 8) = false ∧ bufferFault .timeout d ch r = some st ∧ x.tsFifo ≠ [])) ∧
    (∃ ch : Nat, ∃ r : Req, ∃ s : State, ∃ d : Dev, cmdWf ch r = true ∧ Accepted spec0304 ch r s.dev d ∧ (let w := r.word 0; octetBusy d (fld w 2 0) = true)) ∧
    (∃ ch : Nat, ∃ r : Req, ∃ s : State, ∃ d : Dev, ∃ e, cmdWf ch r = true ∧ Accepted spec0304 ch r s.dev d ∧ (let w := r.word 0; octetBusy d (fld w 2 0) = false ∧ Recorded spec0304 ch r (fld w 2 0) [] d e)) := by
  refine ⟨?_, ?_, ?_, ?_, ?_, ?_, ?_, ?_, ?_, ?_, ?_, ?_, ?_, ?_, ?_, ?_, ?_, ?_, ?_, ?_, ?_, ?_, ?_, ?_, ?_⟩
  · let p : Nat := 8
    let lane : Nat := 0
    let s : State := st (E (ep .negotiating))
    exact ⟨p, lane, s, by decide +kernel⟩
  · let p : Nat := 8
    let lane : Nat := 0
    let s : State := st (E (ep .training))
    exact ⟨p, lane, s, by decide +kernel⟩
  · let p : Nat := 8
    let lane : Nat := 0
    let s : State := st (E (ep .locking))
    exact ⟨p, lane, s, by decide +kernel⟩
  · let p : Nat := 8
    let lane : Nat := 0
    let s : State := st (E (ep .up))
    exact ⟨p, lane, s, by decide +kernel⟩
  · let p : Nat := 8
    let lane : Nat := 0
    let s : State := st (E (ep .up))
    exact ⟨p, lane, s, by decide +kernel⟩
  · let p : Nat := 8
    let lane : Nat := 0
    let s : State := st (E (ep .up))
    exact ⟨p, lane, s, by decide +kernel⟩
  · let p : Nat := 8
    let lane : Nat := 0
    let s : State := st (E (ep .up))
    exact ⟨p, lane, s, by decide +kernel⟩
  · let p : Nat := 8
    let lane : Nat := 0
    let s : State := st (E (ep .locking))
    exact ⟨p, lane, s, by decide +kernel⟩
  · let ch : Nat := 4096
    let r : Req := rq [1 + (9 <<< 8)]
    let s : State := st up
    let d : Dev := tk spec0300 r s.dev
    exact ⟨ch, r, s, d, by decide +kernel, ⟨(by decide +kernel), (by decide +kernel), rfl, (by decide +kernel)⟩, by decide +kernel⟩
  · let ch : Nat := 4096
    let r : Req := rq [1 + (8 <<< 8)]
    let s : State := st (inf 0x301 8 up)
    let d : Dev := tk spec0300 r s.dev
    exact ⟨ch, r, s, d, by decide +kernel, ⟨(by decide +kernel), (by decide +kernel), rfl, (by decide +kernel)⟩, by decide +kernel⟩
  · let ch : Nat := 4096
    let r : Req := rq [1 + (2 <<< 8)]
    let s : State := st (E (ep .up))
    let d : Dev := tk spec0300 r s.dev
    exact ⟨ch, r, s, d, by decide +kernel, ⟨(by decide +kernel), (by decide +kernel), rfl, (by decide +kernel)⟩, by decide +kernel⟩
  · let ch : Nat := 4096
    let r : Req := rq [1 + (3 <<< 8)]
    let s : State := st (E (ep .up))
    let d : Dev := tk spec0300 r s.dev
    exact ⟨ch, r, s, d, (recd spec0300 ch r 1 [] d), by decide +kernel, ⟨(by decide +kernel), (by decide +kernel), rfl, (by decide +kernel)⟩, by delta Recorded; decide +kernel⟩
  · let ch : Nat := 4096
    let r : Req := rq [8 + (3 <<< 9), 1518]
    let s : State := st (E (ep .up))
    let d : Dev := tk spec0301 r s.dev
    exact ⟨ch, r, s, d, by decide +kernel, ⟨(by decide +kernel), (by decide +kernel), rfl, (by decide +kernel)⟩, by decide +kernel⟩
  · let ch : Nat := 4096
    let r : Req := rq [(newPort 8 2).w0 + 0x100, 16388 + (16 <<< 32)]
    let s : State := st (inf 0x301 8 (E (ep .up)))
    let d : Dev := tk spec0301 r s.dev
    exact ⟨ch, r, s, d, by decide +kernel, ⟨(by decide +kernel), (by decide +kernel), rfl, (by decide +kernel)⟩, by decide +kernel⟩
  · let ch : Nat := 4096
    let r : Req := rq [(newPort 8 2).w0 + 0x100, 16388 + (16 <<< 32)]
    let s : State := st (E (ep .up))
    let d : Dev := tk spec0301 r s.dev
    exact ⟨ch, r, s, d, (recd spec0301 ch r 8 [] d), by decide +kernel, ⟨(by decide +kernel), (by decide +kernel), rfl, (by decide +kernel)⟩, by delta Recorded; decide +kernel⟩
  · let ch : Nat := 4096
    let r : Req := rq [8]
    let s : State := st (inf 0x301 8 (E (ep .up)))
    let d : Dev := tk spec0302 r s.dev
    exact ⟨ch, r, s, d, by decide +kernel, ⟨(by decide +kernel), (by decide +kernel), rfl, (by decide +kernel)⟩, by decide +kernel⟩
  · let ch : Nat := 4096
    let r : Req := rq [8]
    let s : State := st (E (ep .up))
    let d : Dev := tk spec0302 r s.dev
    exact ⟨ch, r, s, d, by decide +kernel, ⟨(by decide +kernel), (by decide +kernel), rfl, (by decide +kernel)⟩, by decide +kernel⟩
  · let ch : Nat := 4096
    let r : Req := rq [9]
    let s : State := st (E (ep .up))
    let d : Dev := tk spec0302 r s.dev
    exact ⟨ch, r, s, d, by decide +kernel, ⟨(by decide +kernel), (by decide +kernel), rfl, (by decide +kernel)⟩, by decide +kernel⟩
  · let ch : Nat := 4096
    let r : Req := rqi [8 + (2 <<< 8), 0x2001]
    let s : State := st (E (ep .up))
    let d : Dev := tk spec0303 r s.dev
    exact ⟨ch, r, s, d, by decide +kernel, ⟨(by decide +kernel), (by decide +kernel), rfl, (by decide +kernel)⟩, by decide +kernel⟩
  · let ch : Nat := 4096
    let r : Req := rqi [8 + (2 <<< 8), 0x2000]
    let s : State := st (inf 0x301 8 (E (ep .up)))
    let d : Dev := tk spec0303 r s.dev
    exact ⟨ch, r, s, d, by decide +kernel, ⟨(by decide +kernel), (by decide +kernel), rfl, (by decide +kernel)⟩, by decide +kernel⟩
  · let ch : Nat := 4096
    let r : Req := rqi [8 + (2 <<< 8), 0x2000]
    let s : State := st (E { ep .up with tsFifo := [(1, 2), (3, 4), (5, 6)] })
    let d : Dev := tk spec0303 r s.dev
    exact ⟨ch, r, s, d, by decide +kernel, ⟨(by decide +kernel), (by decide +kernel), rfl, (by decide +kernel)⟩, by decide +kernel⟩
  · let ch : Nat := 4096
    let r : Req := { rq [8 + (2 <<< 8), 0x2000] with host := ⟨true, true, false, []⟩ }
    let s : State := st (E (ep .up))
    let d : Dev := tk spec0303 r s.dev
    let st := Status.timeout
    exact ⟨ch, r, s, d, st, by decide +kernel, ⟨(by decide +kernel), (by decide +kernel), rfl, (by decide +kernel)⟩, by decide +kernel⟩
  · let ch : Nat := 4096
    let r : Req := { rq [8 + (2 <<< 8), 0x2000] with host := ⟨true, true, false, []⟩ }
    let s : State := st (E { ep .up with tsFifo := [(1, 2), (3, 4), (5, 6)] })
    let d : Dev := tk spec0303 r s.dev
    let st := Status.timeout
    exact ⟨ch, r, s, d, st, by decide +kernel, ⟨(by decide +kernel), (by decide +kernel), rfl, (by decide +kernel)⟩, by decide +kernel⟩
  · let ch : Nat := 4096
    let r : Req := rq [1 + (0xFFFF <<< 8)]
    let s : State := st (inf 0x301 8 (E (ep .up)))
    let d : Dev := tk spec0304 r s.dev
    exact ⟨ch, r, s, d, by decide +kernel, ⟨(by decide +kernel), (by decide +kernel), rfl, (by decide +kernel)⟩, by decide +kernel⟩
  · let ch : Nat := 4096
    let r : Req := rq [1 + (0xFFFF <<< 8)]
    let s : State := st (E (ep .up))
    let d : Dev := tk spec0304 r s.dev
    exact ⟨ch, r, s, d, (recd spec0304 ch r 1 [] d), by decide +kernel, ⟨(by decide +kernel), (by decide +kernel), rfl, (by decide +kernel)⟩, by delta Recorded; decide +kernel⟩

end EthernetPortsW

namespace FramesAndPausesW

def bk : Block := { data := List.replicate 64 1, sop := true, eop := false, validBytes := 0, kind := .packet, poison := false, seq := 0, crc := 0 }
def ac : Slice := { Slice.free with state := .active, pasid := 5, profile := { Profile.slice0 with queuePairs := 16, vectors := 8 } }
def one : Dev := up.setSlice 3 ac
def atc : SMap (List AtcEntry) := [(0, [⟨some 5, 12, 0x100, true, true⟩, ⟨some 5, 12, 0x200, true, true⟩, ⟨some 5, 12, 0x300, true, true⟩])]
def q0 : QueuePair := { QueuePair.none with valid := true, slice := 3, k := 4, channel := 2, prefetch := 4, workAddr := 0x100000, cqAddr := 0x200000 }
def Q (x : QueuePair) : Dev := { one with qde := { one.qde with atc := atc } }.setQp 9 x
def snd : List W64 := [1 + (77 <<< 32), 0x300000, 64, 0, 0, 0, 0, 0]
def it (i : Nat) (ws : List W64) : WorkItem := { newItem i with words := ws, cached := true }
def pk (sl : BitVec 12) (bs : List Byte) : Pkt := Pkt.fresh (newTag up sl 0 0 bs) bs
def ep (f : Nat) : EthPort := { newPort 8 2 with state := .up, w0 := (newPort 8 2).w0 + (BitVec.ofNat 64 f <<< 14) + (0xFF <<< 24) }
def E (x : EthPort) : Dev := { one with eth := { one.eth with modes := [(1, 2)] } }.setEport 8 x
def fr (n : Nat) : List Byte := [1,2,3,4,5,6,7,8,9,10,11,12,0x08,0x00] ++ List.replicate (n - 14) 0x45
def cf : List Byte := [1,2,3,4,5,6,7,8,9,10,11,12,0x88,0x08,0,9] ++ List.replicate 44 0
def full : EthPort := { ep 0 with rx := List.replicate 60 (5, fr 9000) }
def tp (n : Nat) : Pkt := pk 3 (fr n)
theorem fr_length (n : Nat) (h : 14 ≤ n) : (fr n).length = n := by rw [fr, List.length_append, List.length_replicate]; show 14 + (n - 14) = n; omega
theorem padded_length (bs : List Byte) : bs.length ≤ (padded bs).length := by rw [padded, List.length_append]; omega

/-- States and operands that meet the hypotheses of `Obligations.FramesAndPauses`, one part for each of its 21 cases that have hypotheses. -/
theorem witness_FramesAndPauses :
    (∃ p : Nat, ∃ bs : List Byte, ∃ sfd : Time, ∃ code : Bool, ∃ preamble : Bool, ∃ fcs : Bool, ∃ s : State, p < 64 ∧ Wf.ethFrameReceived p bs sfd code preamble fcs [] = true ∧ (let x := s.dev.eport p; x.state ≠ .up)) ∧
    (∃ p : Nat, ∃ bs : List Byte, ∃ sfd : Time, ∃ code : Bool, ∃ preamble : Bool, ∃ fcs : Bool, ∃ s : State, p < 64 ∧ Wf.ethFrameReceived p bs sfd code preamble fcs [] = true ∧ (let x := s.dev.eport p; x.state = .up ∧ (code = true ∨ preamble = true))) ∧
    (∃ p : Nat, ∃ bs : List Byte, ∃ sfd : Time, ∃ code : Bool, ∃ preamble : Bool, ∃ fcs : Bool, ∃ s : State, p < 64 ∧ Wf.ethFrameReceived p bs sfd code preamble fcs [] = true ∧ (let x := s.dev.eport p; let n := bs.length + 4; x.state = .up ∧ code = false ∧ preamble = false ∧ n < 64)) ∧
    (∃ p : Nat, ∃ bs : List Byte, ∃ sfd : Time, ∃ code : Bool, ∃ preamble : Bool, ∃ fcs : Bool, ∃ s : State, p < 64 ∧ Wf.ethFrameReceived p bs sfd code preamble fcs [] = true ∧ (let x := s.dev.eport p; let n := bs.length + 4; x.state = .up ∧ code = false ∧ preamble = false ∧ 64 ≤ n ∧ cfgMaxFrame x < n)) ∧
    (∃ p : Nat, ∃ bs : List Byte, ∃ sfd : Time, ∃ code : Bool, ∃ preamble : Bool, ∃ fcs : Bool, ∃ s : State, p < 64 ∧ Wf.ethFrameReceived p bs sfd code preamble fcs [] = true ∧ (let x := s.dev.eport p; let n := bs.length + 4; x.state = .up ∧ code = false ∧ preamble = false ∧ 64 ≤ n ∧ n ≤ cfgMaxFrame x ∧ fcs = true)) ∧
    (∃ p : Nat, ∃ bs : List Byte, ∃ sfd : Time, ∃ code : Bool, ∃ preamble : Bool, ∃ fcs : Bool, ∃ s : State, p < 64 ∧ Wf.ethFrameReceived p bs sfd code preamble fcs [] = true ∧ (let x := s.dev.eport p; let n := bs.length + 4; x.state = .up ∧ code = false ∧ preamble = false ∧ 64 ≤ n ∧ n ≤ cfgMaxFrame x ∧ fcs = false ∧ be16 bs 12 = 0x8808 ∧ controlKind x bs = none)) ∧
    (∃ p : Nat, ∃ bs : List Byte, ∃ sfd : Time, ∃ code : Bool, ∃ preamble : Bool, ∃ fcs : Bool, ∃ s : State, p < 64 ∧ Wf.ethFrameReceived p bs sfd code preamble fcs [] = true ∧ (let x := s.dev.eport p; let n := bs.length + 4; x.state = .up ∧ code = false ∧ preamble = false ∧ 64 ≤ n ∧ n ≤ cfgMaxFrame x ∧ fcs = false ∧ be16 bs 12 ≠ 0x8808 ∧ s.dev.rxCells p < rxFill x + rxCellsOf bs)) ∧
    (∃ p : Nat, ∃ bs : List Byte, ∃ sfd : Time, ∃ code : Bool, ∃ preamble : Bool, ∃ fcs : Bool, ∃ s : State, p < 64 ∧ Wf.ethFrameReceived p bs sfd code preamble fcs [] = true ∧ (let x := s.dev.eport p; let n := bs.length + 4; x.state = .up ∧ code = false ∧ preamble = false ∧ 64 ≤ n ∧ n ≤ cfgMaxFrame x ∧ fcs = false ∧ be16 bs 12 ≠ 0x8808 ∧ rxFill x + rxCellsOf bs ≤ s.dev.rxCells p)) ∧
    (∃ p : Nat, ∃ sfd : Time, ∃ bs : List Byte, ∃ rest : List (Time × List Byte), ∃ s : State, p < 64 ∧ (s.dev.eport p).rx = (sfd, bs) :: rest ∧ (let d := if p < 32 then 0 else 1; let sl := BitVec.ofNat 12 (defaultSlice s.dev p bs); let ok := distAccepts s.dev d (flowHash sl bs) ((bs.length + 32 + 255) / 256); let x := s.dev.eport p; let full := bucketFull s.dev d (flowHash sl bs) ((bs.length + 32 + 255) / 256); ok = false ∧ (x.rxRefused = true ∨ full = false))) ∧
    (∃ p : Nat, ∃ sfd : Time, ∃ bs : List Byte, ∃ rest : List (Time × List Byte), ∃ s : State, p < 64 ∧ (s.dev.eport p).rx = (sfd, bs) :: rest ∧ (let d := if p < 32 then 0 else 1; let sl := BitVec.ofNat 12 (defaultSlice s.dev p bs); let ok := distAccepts s.dev d (flowHash sl bs) ((bs.length + 32 + 255) / 256); let x := s.dev.eport p; let full := bucketFull s.dev d (flowHash sl bs) ((bs.length + 32 + 255) / 256); ok = false ∧ x.rxRefused = false ∧ full = true)) ∧
    (∃ p : Nat, ∃ sfd : Time, ∃ bs : List Byte, ∃ rest : List (Time × List Byte), ∃ s : State, p < 64 ∧ (s.dev.eport p).rx = (sfd, bs) :: rest ∧ (let d := if p < 32 then 0 else 1; let sl := BitVec.ofNat 12 (defaultSlice s.dev p bs); let ok := distAccepts s.dev d (flowHash sl bs) ((bs.length + 32 + 255) / 256); ok = true)) ∧
    (∃ p : Nat, ∃ k : Nat, ∃ qs : List Nat, ∃ s : State, Wf.pauseFrameReceived p false 0 qs = true ∧ k < 8 ∧ (s.dev.eport p).state = .up ∧ cfgFlow (s.dev.eport p) = 1) ∧
    (∃ p : Nat, ∃ k : Nat, ∃ s : State, p < 64 ∧ k < 8 ∧ (s.dev.eport p).pausedByPeer.getLsbD k = true) ∧
    (∃ p : Nat, ∃ k : Nat, ∃ s : State, p < 64 ∧ k < 8 ∧ (s.dev.eport p).pausedByPeer.getLsbD k = false) ∧
    (∃ p : Nat, ∃ s : State, p < 64 ∧ (let m := (s.dev.eport p).pausingPeer; m = 0)) ∧
    (∃ p : Nat, ∃ s : State, p < 64 ∧ (let m := (s.dev.eport p).pausingPeer; m ≠ 0)) ∧
    (∃ p : Nat, ∃ k : Pkt, ∃ rest : List Pkt, ∃ s : State, p < 64 ∧ (s.dev.eport p).tx = k :: rest ∧ k.tag.flag 0 = false) ∧
    (∃ p : Nat, ∃ k : Pkt, ∃ rest : List Pkt, ∃ s : State, p < 64 ∧ (s.dev.eport p).tx = k :: rest ∧ k.tag.flag 0 = false ∧ (let x := s.dev.eport p; x.state ≠ .up)) ∧
    (∃ p : Nat, ∃ k : Pkt, ∃ rest : List Pkt, ∃ s : State, p < 64 ∧ (s.dev.eport p).tx = k :: rest ∧ k.tag.flag 0 = false ∧ (let x := s.dev.eport p; x.state = .up ∧ k.poisoned = true)) ∧
    (∃ p : Nat, ∃ k : Pkt, ∃ rest : List Pkt, ∃ s : State, p < 64 ∧ (s.dev.eport p).tx = k :: rest ∧ k.tag.flag 0 = false ∧ (let x := s.dev.eport p; let bs := padded k.bytes; x.state = .up ∧ k.poisoned = false ∧ cfgMaxFrame x < bs.length + 4)) ∧
    (∃ p : Nat, ∃ k : Pkt, ∃ rest : List Pkt, ∃ s : State, p < 64 ∧ (s.dev.eport p).tx = k :: rest ∧ k.tag.flag 0 = false ∧ (let x := s.dev.eport p; let bs := padded k.bytes; x.state = .up ∧ k.poisoned = false ∧ bs.length + 4 ≤ cfgMaxFrame x ∧ cfgPtp x = 0)) := by
  refine ⟨?_, ?_, ?_, ?_, ?_, ?_, ?_, ?_, ?_, ?_, ?_, ?_, ?_, ?_, ?_, ?_, ?_, ?_, ?_, ?_, ?_⟩
  · let p : Nat := 8
    let bs : List Byte := fr 60
    let sfd : Time := 100
    let code : Bool := false
    let preamble : Bool := false
    let fcs : Bool := false
    let s : State := st (E { ep 0 with state := .locking })
    exact ⟨p, bs, sfd, code, preamble, fcs, s, by decide +kernel⟩
  · let p : Nat := 8
    let bs : List Byte := fr 60
    let sfd : Time := 100
    let code : Bool := true
    let preamble : Bool := false
    let fcs : Bool := false
    let s : State := st (E (ep 0))
    exact ⟨p, bs, sfd, code, preamble, fcs, s, by decide +kernel⟩
  · let p : Nat := 8
    let bs : List Byte := fr 59
    let sfd : Time := 100
    let code : Bool := false
    let preamble : Bool := false
    let fcs : Bool := false
    let s : State := st (E (ep 0))
    exact ⟨p, bs, sfd, code, preamble, fcs, s, by decide +kernel⟩
  · let p : Nat := 8
    let bs : List Byte := fr 9213
    let sfd : Time := 100
    let code : Bool := false
    let preamble : Bool := false
    let fcs : Bool := false
    let s : State := st (E (ep 0))
    exact ⟨p, bs, sfd, code, preamble, fcs, s, by decide +kernel⟩
  · let p : Nat := 8
    let bs : List Byte := fr 9212
    let sfd : Time := 100
    let code : Bool := false
    let preamble : Bool := false
    let fcs : Bool := true
    let s : State := st (E (ep 0))
    exact ⟨p, bs, sfd, code, preamble, fcs, s, by decide +kernel⟩
  · let p : Nat := 8
    let bs : List Byte := cf
    let sfd : Time := 100
    let code : Bool := false
    let preamble : Bool := false
    let fcs : Bool := false
    let s : State := st (E (ep 0))
    exact ⟨p, bs, sfd, code, preamble, fcs, s, by decide +kernel⟩
  · let p : Nat := 8
    let bs : List Byte := fr 9000
    let sfd : Time := 100
    let code : Bool := false
    let preamble : Bool := false
    let fcs : Bool := false
    let s : State := st (E full)
    exact ⟨p, bs, sfd, code, preamble, fcs, s, by decide +kernel⟩
  · let p : Nat := 8
    let bs : List Byte := fr 9000
    let sfd : Time := 100
    let code : Bool := false
    let preamble : Bool := false
    let fcs : Bool := false
    let s : State := st (E (ep 0))
    exact ⟨p, bs, sfd, code, preamble, fcs, s, by decide +kernel⟩
  · let p : Nat := 8
    let sfd : Time := 100
    let bs : List Byte := fr 60
    let rest : List (Time × List Byte) := []
    let s : State := st ((E { ep 0 with rx := [(100, fr 60)] }).setXchan (distIsland 0) (pipeIsland ((flowHash 0 (fr 60)).toNat % 8)) { Channel.reset with queue := [bk] })
    exact ⟨p, sfd, bs, rest, s, by decide +kernel⟩
  · let p : Nat := 8
    let sfd : Time := 100
    let bs : List Byte := fr 60
    let rest : List (Time × List Byte) := []
    let s : State := st { ((E { ep 0 with rx := [(100, fr 60)] }).setBucket 0 ((flowHash 0 (fr 60)).toNat % 4096) { Bucket.home ((flowHash 0 (fr 60)).toNat % 4096) with target := ((flowHash 0 (fr 60)).toNat % 8 + 1) % 8, inflight := 2, held := [tp 9000, tp 9000] }) with now := 100000000000 }
    exact ⟨p, sfd, bs, rest, s, by decide +kernel⟩
  · let p : Nat := 8
    let sfd : Time := 100
    let bs : List Byte := fr 60
    let rest : List (Time × List Byte) := []
    let s : State := st (E { ep 0 with rx := [(100, fr 60)] })
    exact ⟨p, sfd, bs, rest, s, by decide +kernel⟩
  · let p : Nat := 8
    let k : Nat := 7
    let qs : List Nat := [5,0,0,0,0,0,0,0]
    let s : State := st (E (ep 1))
    exact ⟨p, k, qs, s, by decide +kernel⟩
  · let p : Nat := 8
    let k : Nat := 7
    let s : State := st (E { ep 2 with pausedByPeer := 0x80 })
    exact ⟨p, k, s, by decide +kernel⟩
  · let p : Nat := 8
    let k : Nat := 7
    let s : State := st (E (ep 2))
    exact ⟨p, k, s, by decide +kernel⟩
  · let p : Nat := 8
    let s : State := st (E (ep 2))
    exact ⟨p, s, by decide +kernel⟩
  · let p : Nat := 8
    let s : State := st (E { ep 2 with pausingPeer := 0x81 })
    exact ⟨p, s, by decide +kernel⟩
  · let p : Nat := 8
    let begun : Bool := true
    let k : Pkt := tp 40
    let rest : List Pkt := []
    let s : State := st (E { ep 0 with tx := [tp 40] })
    exact ⟨p, k, rest, s, by decide +kernel⟩
  · let p : Nat := 8
    let begun : Bool := true
    let k : Pkt := tp 40
    let rest : List Pkt := []
    let s : State := st (E { ep 0 with tx := [tp 40], state := .locking })
    exact ⟨p, k, rest, s, by decide +kernel⟩
  · let p : Nat := 8
    let begun : Bool := true
    let k : Pkt := { tp 40 with poisoned := true }
    let rest : List Pkt := []
    let s : State := st (E { ep 0 with tx := [{ tp 40 with poisoned := true }] })
    exact ⟨p, k, rest, s, by decide +kernel⟩
  · let p : Nat := 8
    let begun : Bool := true
    let k : Pkt := tp 9213
    let rest : List Pkt := []
    let s : State := st (E { ep 0 with tx := [tp 9213] })
    refine ⟨p, k, rest, s, ?_⟩
    refine ⟨by decide, rfl, by decide +kernel, rfl, by decide +kernel, ?_⟩
    have h := padded_length k.bytes
    have h2 : k.bytes.length = 9213 := fr_length 9213 (by decide)
    have h3 : cfgMaxFrame (s.dev.eport p) ≤ 9216 := by decide +kernel
    show _ < _ + 4
    omega
  · let p : Nat := 8
    let begun : Bool := true
    let k : Pkt := tp 40
    let rest : List Pkt := []
    let s : State := st (E { ep 0 with tx := [tp 40] })
    exact ⟨p, k, rest, s, by decide +kernel⟩

end FramesAndPausesW

namespace ParserAndControlStoresW

def ac : Slice := { Slice.free with state := .active, pasid := 5, profile := { Profile.slice0 with queuePairs := 16, vectors := 8 } }
def one : Dev := up.setSlice 3 ac
def atc : SMap (List AtcEntry) := [(0, [⟨some 5, 12, 0x100, true, true⟩, ⟨some 5, 12, 0x200, true, true⟩, ⟨some 5, 12, 0x300, true, true⟩])]
def q0 : QueuePair := { QueuePair.none with valid := true, slice := 3, k := 4, channel := 2, prefetch := 4, workAddr := 0x100000, cqAddr := 0x200000 }
def Q (x : QueuePair) : Dev := { one with qde := { one.qde with atc := atc } }.setQp 9 x
def snd : List W64 := [1 + (77 <<< 32), 0x300000, 64, 0, 0, 0, 0, 0]
def it (i : Nat) (ws : List W64) : WorkItem := { newItem i with words := ws, cached := true }
def pk (sl : BitVec 12) (bs : List Byte) : Pkt := Pkt.fresh (newTag up sl 0 0 bs) bs
def F (hi lo v : Nat) : BitVec 256 := BitVec.ofNat 256 (v * 2 ^ lo)
def W0 : BitVec 256 := F 255 244 7 + F 129 123 14 + F 102 102 1 + F 95 92 3 + F 91 86 5 + F 68 68 1 + F 67 60 9 + F 43 40 1 + F 39 36 3
def WL : BitVec 256 := W0 + F 59 59 1 + F 44 44 1 + F 52 45 4 + F 58 53 2
def ps0 : PipeState := (pk 3 [1]).ps
def X0 : PassState := ⟨{ ps0 with stack := [(3, 0)], scratch := 2 }, 10, 0⟩
def fr (n : Nat) : List Byte := [1,2,3,4,5,6,7,8,9,10,11,12,0x00,0x20] ++ List.replicate (n - 14) 0
def P0 : Pkt := pk 3 (fr 200)
def out1 (w : BitVec 256) : PassState := match runWord w P0 0 0 X0 with | .inr (y, _) => y | _ => X0
def im : Image := { imageId := 1, patch := 0, keySlot := 2, baseSeg := 3, words := List.replicate 8 W0 ++ [F 35 35 1], entries := [0], entryValid := 1, digest := 0, raw := [] }
def imE (w : BitVec 256) : Image := { im with words := [w] }
def R (im : Image) (errs : List (Nat × Bool)) (p : Pkt) := runPass im [] errs p 0 24 0 X0
def PD (x : Pipeline) : State := st (one.setPipe 3 x)

/-- States and operands that meet the hypotheses of `Obligations.ParserAndControlStores`, one part for each of its 22 cases that have hypotheses. -/
theorem witness_ParserAndControlStores :
    (∃ p : Pkt, p.tag.pass = 0) ∧
    (∃ w : BitVec 256, ∃ p : Pkt, ∃ ws : Nat, ∃ pc : Nat, ∃ next : Nat, ∃ x : PassState, ∃ y : PassState, runWord w p ws pc x = .inr (y, next)) ∧
    (∃ w : BitVec 256, ∃ p : Pkt, ∃ ws : Nat, ∃ pc : Nat, ∃ next : Nat, ∃ x : PassState, ∃ y : PassState, runWord w p ws pc x = .inr (y, next) ∧ mw w 68 68 = 1) ∧
    (∃ w : BitVec 256, ∃ p : Pkt, ∃ ws : Nat, ∃ pc : Nat, ∃ next : Nat, ∃ x : PassState, ∃ y : PassState, runWord w p ws pc x = .inr (y, next) ∧ mw w 59 59 = 1 ∧ mw w 44 44 = 1) ∧
    (∃ w : BitVec 256, ∃ p : Pkt, ∃ ws : Nat, ∃ x : PassState, windowEnd ws < ws + x.cursor + Nat.max (mwAdvance w p (ws + x.cursor) (windowEnd ws)) (mwFurthest w)) ∧
    (∃ im : Image, ∃ bad : List Nat, ∃ errs : List (Nat × Bool), ∃ p : Pkt, ∃ ws : Nat, ∃ n : Nat, ∃ pc : Nat, ∃ x : PassState, ∃ y : PassState, ∃ e : PassEnd, runPass im bad errs p ws n pc x = (e, y) ∧ ws + x.cursor ≤ windowEnd ws ∧ x.ps.stack.length ≤ 12) ∧
    (∃ im : Image, ∃ bad : List Nat, ∃ errs : List (Nat × Bool), ∃ p : Pkt, ∃ ws : Nat, ∃ n : Nat, ∃ pc : Nat, ∃ x : PassState, ∃ y : PassState, ∃ e : PassEnd, ∃ a, ∃ sp, runPass im bad errs p ws n pc x = (e, y) ∧ ws + x.cursor ≤ windowEnd ws ∧ x.ps.stack.length ≤ 12 ∧ e = .again a sp) ∧
    (∃ im : Image, ∃ bad : List Nat, ∃ errs : List (Nat × Bool), ∃ p : Pkt, ∃ ws : Nat, ∃ n : Nat, ∃ pc : Nat, ∃ x : PassState, ∃ y : PassState, ∃ e : PassEnd, ∃ f, ∃ a, runPass im bad errs p ws n pc x = (e, y) ∧ ws + x.cursor ≤ windowEnd ws ∧ x.ps.stack.length ≤ 12 ∧ e = .flagged f a) ∧
    (∃ im : Image, ∃ bad : List Nat, ∃ errs : List (Nat × Bool), ∃ p : Pkt, ∃ ws : Nat, ∃ n : Nat, ∃ pc : Nat, ∃ x : PassState, ∃ y : PassState, ∃ e : PassEnd, ∃ a, runPass im bad errs p ws n pc x = (e, y) ∧ ws + x.cursor ≤ windowEnd ws ∧ x.ps.stack.length ≤ 12 ∧ e = .lost a) ∧
    (∃ k : Nat, ∃ errs : List (Nat × Bool), ∃ s : State, ∃ d : Dev, ∃ p : Pkt, ∃ returned : Bool, Wf.parserPass k errs = true ∧ arbiter k s.dev = some (p, returned, d) ∧ p.marker = none ∧ p.tag.flag 2 = true) ∧
    (∃ k : Nat, ∃ errs : List (Nat × Bool), ∃ s : State, ∃ d : Dev, ∃ p : Pkt, ∃ returned : Bool, Wf.parserPass k errs = true ∧ arbiter k s.dev = some (p, returned, d) ∧ p.marker = none ∧ p.tag.flag 2 = false ∧ returned = true ∧ p.tag.pass = 3) ∧
    (∃ k : Nat, ∃ errs : List (Nat × Bool), ∃ s : State, ∃ d : Dev, ∃ p : Pkt, ∃ returned : Bool, Wf.parserPass k errs = true ∧ arbiter k s.dev = some (p, returned, d) ∧ p.marker = none ∧ p.tag.flag 2 = false ∧ (¬ (returned = true ∧ p.tag.pass = 3))) ∧
    (∃ k : Nat, ∃ errs : List (Nat × Bool), ∃ s : State, Wf.parserPass k errs = true ∧ arbiter k s.dev = none) ∧
    (∃ k : Nat, ∃ d : Dev, ∃ p, ∃ q, (d.pipe k).recirc = p :: q) ∧
    (∃ k : Nat, ∃ d : Dev, ∃ p, ∃ q, (d.pipe k).recirc = [] ∧ (d.pipe k).returns = p :: q) ∧
    (∃ k : Nat, ∃ d : Dev, ∃ p, ∃ q, (d.pipe k).recirc = [] ∧ (d.pipe k).returns = [] ∧ (d.pipe k).input = p :: q) ∧
    (∃ a : Nat, ∃ p : Pkt, ∃ im : Image, ∃ x : PassState, a = 256 * im.baseSeg ∧ x.corrected = 0 ∧ p.tag.flag 0 = false) ∧
    (∃ k : Nat, ∃ a : Nat, ∃ p : Pkt, ∃ im : Image, ∃ x : PassState, ∃ j, a = 256 * im.baseSeg ∧ x.corrected = 0 ∧ p.tag.flag 0 = false ∧ j ≠ k) ∧
    (∃ k : Nat, ∃ a : Nat, ∃ s : State, Wf.csWordRewrite k a true = true ∧ (s.dev.pipe k).badWords.contains a = true) ∧
    (∃ k : Nat, ∃ a : Nat, ∃ ok : Bool, ∃ s : State, Wf.csWordRewrite k a ok = true ∧ (s.dev.pipe k).badWords.contains a = false) ∧
    (∃ k : Nat, ∃ errs : List (Nat × Bool), ∃ s : State, Wf.scrubRound k errs = true ∧ (let t := applyBoundary .scrubRound (pipeIsland k) s.dev; t.regField (pipeIsland k) 0x008 0 0 = 0)) ∧
    (∃ k : Nat, ∃ errs : List (Nat × Bool), ∃ s : State, Wf.scrubRound k errs = true ∧ (let t := applyBoundary .scrubRound (pipeIsland k) s.dev; t.regField (pipeIsland k) 0x008 0 0 = 1)) := by
  refine ⟨?_, ?_, ?_, ?_, ?_, ?_, ?_, ?_, ?_, ?_, ?_, ?_, ?_, ?_, ?_, ?_, ?_, ?_, ?_, ?_, ?_, ?_⟩
  · let p : Pkt := P0
    exact ⟨p, by decide +kernel⟩
  · let w : BitVec 256 := W0
    let p : Pkt := P0
    let ws : Nat := 0
    let pc : Nat := 0
    let next : Nat := 7
    let x : PassState := X0
    let y : PassState := out1 W0
    exact ⟨w, p, ws, pc, next, x, y, by decide +kernel⟩
  · let w : BitVec 256 := W0
    let p : Pkt := P0
    let ws : Nat := 0
    let pc : Nat := 0
    let next : Nat := 7
    let x : PassState := X0
    let y : PassState := out1 W0
    exact ⟨w, p, ws, pc, next, x, y, by decide +kernel⟩
  · let w : BitVec 256 := WL
    let p : Pkt := P0
    let ws : Nat := 0
    let pc : Nat := 0
    let next : Nat := 7
    let x : PassState := X0
    let y : PassState := out1 WL
    exact ⟨w, p, ws, pc, next, x, y, by decide +kernel⟩
  · let w : BitVec 256 := W0 + F 129 123 50
    let p : Pkt := P0
    let ws : Nat := 0
    let pc : Nat := 0
    let x : PassState := { X0 with cursor := 10 }
    exact ⟨w, p, ws, x, by decide +kernel⟩
  · let im : Image := ParserAndControlStoresW.im
    let bad : List Nat := []
    let errs : List (Nat × Bool) := []
    let p : Pkt := P0
    let ws : Nat := 0
    let n : Nat := 24
    let pc : Nat := 0
    let x : PassState := X0
    let y : PassState := (R ParserAndControlStoresW.im [] P0).2
    let e : PassEnd := (R ParserAndControlStoresW.im [] P0).1
    exact ⟨im, bad, errs, p, ws, n, pc, x, y, e, by decide +kernel⟩
  · let im : Image := imE (F 35 35 1 + F 34 33 1 + F 255 244 5)
    let bad : List Nat := []
    let errs : List (Nat × Bool) := []
    let p : Pkt := { P0 with tag := { P0.tag with pass := 2 } }
    let ws : Nat := 0
    let n : Nat := 24
    let pc : Nat := 0
    let x : PassState := X0
    let y : PassState := (R (imE (F 35 35 1 + F 34 33 1 + F 255 244 5)) [] { P0 with tag := { P0.tag with pass := 2 } }).2
    let e : PassEnd := (R (imE (F 35 35 1 + F 34 33 1 + F 255 244 5)) [] { P0 with tag := { P0.tag with pass := 2 } }).1
    exact ⟨im, bad, errs, p, ws, n, pc, x, y, e, (5), (false), by decide +kernel⟩
  · let im : Image := imE (F 35 35 1 + F 34 33 3)
    let bad : List Nat := []
    let errs : List (Nat × Bool) := []
    let p : Pkt := P0
    let ws : Nat := 0
    let n : Nat := 24
    let pc : Nat := 0
    let x : PassState := X0
    let y : PassState := (R (imE (F 35 35 1 + F 34 33 3)) [] P0).2
    let e : PassEnd := (R (imE (F 35 35 1 + F 34 33 3)) [] P0).1
    exact ⟨im, bad, errs, p, ws, n, pc, x, y, e, (5), (0), by decide +kernel⟩
  · let im : Image := imE W0
    let bad : List Nat := []
    let errs : List (Nat × Bool) := [(768, true)]
    let p : Pkt := P0
    let ws : Nat := 0
    let n : Nat := 24
    let pc : Nat := 0
    let x : PassState := X0
    let y : PassState := (R (imE W0) [(768, true)] P0).2
    let e : PassEnd := (R (imE W0) [(768, true)] P0).1
    exact ⟨im, bad, errs, p, ws, n, pc, x, y, e, (0), by decide +kernel⟩
  · let k : Nat := 3
    let errs : List (Nat × Bool) := []
    let s : State := PD { Pipeline.reset with input := [{ P0 with tag := { P0.tag with flags := 4 } }] }
    let d : Dev := one.setPipe 3 Pipeline.reset
    let p : Pkt := { P0 with tag := { P0.tag with flags := 4 } }
    let returned : Bool := false
    exact ⟨k, errs, s, d, p, returned, by decide +kernel⟩
  · let k : Nat := 3
    let errs : List (Nat × Bool) := []
    let s : State := PD { Pipeline.reset with returns := [{ P0 with tag := { P0.tag with pass := 3 } }] }
    let d : Dev := one.setPipe 3 Pipeline.reset
    let p : Pkt := { P0 with tag := { P0.tag with pass := 3 } }
    let returned : Bool := true
    exact ⟨k, errs, s, d, p, returned, by decide +kernel⟩
  · let k : Nat := 3
    let errs : List (Nat × Bool) := []
    let s : State := PD { Pipeline.reset with returns := [P0] }
    let d : Dev := one.setPipe 3 Pipeline.reset
    let p : Pkt := P0
    let returned : Bool := true
    exact ⟨k, errs, s, d, p, returned, by decide +kernel⟩
  · let k : Nat := 3
    let errs : List (Nat × Bool) := []
    let s : State := PD { Pipeline.reset with parsed := [P0] }
    exact ⟨k, errs, s, by decide +kernel⟩
  · let k : Nat := 3
    let d : Dev := one.setPipe 3 { Pipeline.reset with recirc := [P0], returns := [P0], input := [P0] }
    exact ⟨k, d, (P0), ([]), by decide +kernel⟩
  · let k : Nat := 3
    let d : Dev := one.setPipe 3 { Pipeline.reset with returns := [P0], input := [P0] }
    exact ⟨k, d, (P0), ([]), by decide +kernel⟩
  · let k : Nat := 3
    let d : Dev := one.setPipe 3 { Pipeline.reset with input := [P0] }
    exact ⟨k, d, (P0), ([]), by decide +kernel⟩
  · let k : Nat := 3
    let a : Nat := 768
    let p : Pkt := P0
    let im : Image := ParserAndControlStoresW.im
    let x : PassState := { X0 with corrected := 0 }
    let d : Dev := one
    exact ⟨a, p, im, x, by decide +kernel⟩
  · let k : Nat := 3
    let a : Nat := 768
    let p : Pkt := P0
    let im : Image := ParserAndControlStoresW.im
    let x : PassState := { X0 with corrected := 0 }
    let d : Dev := one
    exact ⟨k, a, p, im, x, (4), by decide +kernel⟩
  · let k : Nat := 3
    let a : Nat := 770
    let s : State := PD { Pipeline.reset with badWords := [770, 5] }
    exact ⟨k, a, s, by decide +kernel⟩
  · let k : Nat := 3
    let a : Nat := 770
    let ok : Bool := true
    let s : State := PD { Pipeline.reset with badWords := [5] }
    exact ⟨k, a, ok, s, by decide +kernel⟩
  · let k : Nat := 3
    let errs : List (Nat × Bool) := [(3, false), (9, false)]
    let s : State := st (one.setRegWord 6 8 { value := 0x640000, pend := 0, pendMask := 0 })
    exact ⟨k, errs, s, by decide +kernel⟩
  · let k : Nat := 3
    let errs : List (Nat × Bool) := [(3, false), (9, false)]
    let s : State := st one
    exact ⟨k, errs, s, by decide +kernel⟩

end ParserAndControlStoresW

namespace ParserCommandsW

def bld : Slot := { Slot.free with state := .building, version := 1 }
def B (f : Slot → Slot) : Dev := up.setSlot 1 (f bld)
def raw1 : List W64 := [0x0001000150524731, 5, 0, 0, 0, 1, 0, 0] ++ [0x800000000, 0, 0, 0] ++ List.replicate 12 7
def raw2 : List W64 := raw1.take 12 ++ List.replicate 12 0x0101010101010101
def keyed (d : Dev) : Dev := { d with tru := { d.tru with slots := [(0, { KeySlot.empty with purpose := 2, pub := [4] })] } }
def fullCs : Dev := (B id).setSlot 0 { up.slot 0 with rules := { RuleSet.empty with image := some { imageAt raw2 0 with words := List.replicate 4096 0, digest := 0 } } }
def ld (raw : List W64) : Req := rqi (1 :: raw)
def big (r : Req) : Req := { r with inline := [0x1000, 65536, 0, 0, 0, 0, 0] }
def im : Image := { imageAt raw1 0 with digest := 0 }
theorem some_getD {α : Type} {x : Option α} {d : α} (h : x.isSome = true) : x = some (x.getD d) := by
  cases x <;> first | rfl | cases h
theorem answered {x : Dev × Option (Status × List W64)} (h : x.2.isSome = true) : x = (x.1, some ((x.2.getD (.ok, [])).1, (x.2.getD (.ok, [])).2)) := by
  obtain ⟨e, _ | ⟨a, b⟩⟩ := x
  · cases h
  · rfl
def pt (first n lev : W64) : Req := big (rqi (1 :: (first + (n <<< 4) + (lev <<< 16)) :: List.replicate (1024 * n.toNat + 12) 0))

/-- States and operands that meet the hypotheses of `Obligations.ParserCommands`, one part for each of its 18 cases that have hypotheses; in 3 parts a hypothesis is left out that rests on an opaque value of Config or on a table too large to evaluate. -/
theorem witness_ParserCommands :
    (∃ ch : Nat, ∃ r : Req, ∃ s : State, ∃ d : Dev, cmdWf ch r = true ∧ r.indirect = false ∧ Accepted spec0400 ch r s.dev d) ∧
    (∃ ch : Nat, ∃ r : Req, ∃ s : State, ∃ d : Dev, cmdWf ch r = true ∧ Accepted spec0400 ch r s.dev d ∧ (let v := reqVersion r; r.indirect = true ∧ d.buildSlot v = none ∧ d.committing v = false)) ∧
    (∃ ch : Nat, ∃ r : Req, ∃ s : State, ∃ d : Dev, cmdWf ch r = true ∧ Accepted spec0400 ch r s.dev d ∧ (let v := reqVersion r; r.indirect = true ∧ d.committing v = true)) ∧
    (∃ ch : Nat, ∃ r : Req, ∃ s : State, ∃ d : Dev, ∃ k : Nat, ∃ reason, ∃ w, cmdWf ch r = true ∧ Accepted spec0400 ch r s.dev d ∧ (let v := reqVersion r; r.indirect = true ∧ Builds v k d ∧ (let raw := r.words.drop 1; imageReason raw (r.payloadLen.toNat - 8) = some (reason, w)))) ∧
    (∃ ch : Nat, ∃ r : Req, ∃ s : State, ∃ d : Dev, ∃ k : Nat, cmdWf ch r = true ∧ Accepted spec0400 ch r s.dev d ∧ (let v := reqVersion r; r.indirect = true ∧ Builds v k d ∧ (let raw := r.words.drop 1; imageReason raw (r.payloadLen.toNat - 8) = none ∧ imageAuth d raw = false))) ∧
    (∃ ch : Nat, ∃ r : Req, ∃ s : State, ∃ d : Dev, ∃ k : Nat, cmdWf ch r = true ∧ Accepted spec0400 ch r s.dev d ∧ (let v := reqVersion r; r.indirect = true ∧ Builds v k d ∧ (let raw := r.words.drop 1; imageReason raw (r.payloadLen.toNat - 8) = none ∧ Jnl.takes d.jnl 1 (recLines r.payloadLen.toNat) = false))) ∧
    (∃ ch : Nat, ∃ r : Req, ∃ s : State, ∃ d : Dev, ∃ k : Nat, cmdWf ch r = true ∧ Accepted spec0400 ch r s.dev d ∧ (let v := reqVersion r; r.indirect = true ∧ Builds v k d ∧ (let raw := r.words.drop 1; imageReason raw (r.payloadLen.toNat - 8) = none ∧ Jnl.takes d.jnl 1 (recLines r.payloadLen.toNat) = true ∧ placeImage k raw d = none))) ∧
    (∃ ch : Nat, ∃ r : Req, ∃ s : State, ∃ d : Dev, ∃ k : Nat, ∃ e, cmdWf ch r = true ∧ Accepted spec0400 ch r s.dev d ∧ (let v := reqVersion r; r.indirect = true ∧ Builds v k d ∧ (let raw := r.words.drop 1; imageReason raw (r.payloadLen.toNat - 8) = none ∧ Jnl.takes d.jnl 1 (recLines r.payloadLen.toNat) = true ∧ placeImage k raw d = some e ∧ e.buildSlot v = some k))) ∧
    (∃ ch : Nat, ∃ r : Req, ∃ s : State, ∃ d : Dev, ∃ k : Nat, cmdWf ch r = true ∧ Accepted spec0401 ch r s.dev d ∧ (let v := reqVersion r; r.indirect = true ∧ Builds v k d ∧ (let n := fld (r.word 1) 8 4; 1 ≤ n ∧ n ≤ 16 ∧ r.payloadLen.toNat = 16 + 8192 * n + 96 ∧ (d.slot k).rules.image = none))) ∧
    (∃ ch : Nat, ∃ r : Req, ∃ s : State, ∃ d : Dev, ∃ k : Nat, ∃ im, cmdWf ch r = true ∧ Accepted spec0401 ch r s.dev d ∧ (let v := reqVersion r; r.indirect = true ∧ Builds v k d ∧ (let first := fld (r.word 1) 3 0; let n := fld (r.word 1) 8 4; let level := fld (r.word 1) 23 16; 1 ≤ n ∧ n ≤ 16 ∧ r.payloadLen.toNat = 16 + 8192 * n + 96 ∧ (d.slot k).rules.image = some im ∧ (Image.segs im < first + n ∨ level ≤ im.patch.toNat)))) ∧
    (∃ ch : Nat, ∃ r : Req, ∃ s : State, ∃ d : Dev, ∃ k : Nat, ∃ im, ∃ e, ∃ st, ∃ ws, cmdWf ch r = true ∧ Accepted spec0401 ch r s.dev d ∧ (let v := reqVersion r; r.indirect = true ∧ Builds v k d ∧ (let first := fld (r.word 1) 3 0; let n := fld (r.word 1) 8 4; let level := fld (r.word 1) 23 16; 1 ≤ n ∧ n ≤ 16 ∧ r.payloadLen.toNat = 16 + 8192 * n + 96 ∧ (d.slot k).rules.image = some im ∧ first + n ≤ Image.segs im ∧ im.patch.toNat < level ∧ loadImage v (patchedRaw im first n level (r.words.drop 2)) (8 * (patchedRaw im first n level (r.words.drop 2)).length) r d = (e, some (st, ws))))) ∧
    (∃ ch : Nat, ∃ r : Req, ∃ s : State, ∃ d : Dev, ∃ k : Nat, cmdWf ch r = true ∧ Accepted spec0402 ch r s.dev d ∧ (let v := reqVersion r; Builds v k d ∧ (let inc := fld (r.word 1) 17 16; let mal := fld (r.word 1) 19 18; (inc = 3 ∨ mal = 3)))) ∧
    (∃ ch : Nat, ∃ r : Req, ∃ s : State, ∃ d : Dev, ∃ k : Nat, cmdWf ch r = true ∧ Accepted spec0402 ch r s.dev d ∧ (let v := reqVersion r; Builds v k d ∧ (let inc := fld (r.word 1) 17 16; let mal := fld (r.word 1) 19 18; inc ≠ 3 ∧ mal ≠ 3))) ∧
    (∃ ch : Nat, ∃ r : Req, ∃ s : State, ∃ d : Dev, cmdWf ch r = true ∧ Accepted spec0403 ch r s.dev d ∧ (let j := fld (r.word 0) 2 0; (d.slot j).state = .free)) ∧
    (∃ ch : Nat, ∃ r : Req, ∃ s : State, ∃ d : Dev, cmdWf ch r = true ∧ Accepted spec0403 ch r s.dev d ∧ (let j := fld (r.word 0) 2 0; (d.slot j).state ≠ .free)) ∧
    (∃ ch : Nat, ∃ r : Req, ∃ s : State, ∃ d : Dev, cmdWf ch r = true ∧ Accepted spec0404 ch r s.dev d ∧ (let sl := fld (r.word 0) 11 0; let j := fld (r.word 0) 14 12; (d.slot j).state = .free ∧ (4096 ≤ ch ∨ ch = sl))) ∧
    (∃ ch : Nat, ∃ r : Req, ∃ s : State, ∃ d : Dev, cmdWf ch r = true ∧ Accepted spec0404 ch r s.dev d ∧ (let sl := fld (r.word 0) 11 0; ch < 4096 ∧ ch ≠ sl)) ∧
    (∃ ch : Nat, ∃ r : Req, ∃ s : State, ∃ d : Dev, cmdWf ch r = true ∧ Accepted spec0404 ch r s.dev d ∧ (let sl := fld (r.word 0) 11 0; let j := fld (r.word 0) 14 12; (d.slot j).state ≠ .free ∧ (4096 ≤ ch ∨ ch = sl))) := by
  refine ⟨?_, ?_, ?_, ?_, ?_, ?_, ?_, ?_, ?_, ?_, ?_, ?_, ?_, ?_, ?_, ?_, ?_, ?_⟩
  · let ch : Nat := 4096
    let r : Req := rq [1]
    let s : State := st (B id)
    let d : Dev := tk spec0400 r s.dev
    let k : Nat := 1
    exact ⟨ch, r, s, d, by decide +kernel, by decide +kernel, ⟨(by decide +kernel), (by decide +kernel), rfl, (by decide +kernel)⟩⟩
  · let ch : Nat := 4096
    let r : Req := ld raw1
    let s : State := st up
    let d : Dev := tk spec0400 r s.dev
    let k : Nat := 1
    exact ⟨ch, r, s, d, by decide +kernel, ⟨(by decide +kernel), (by decide +kernel), rfl, (by decide +kernel)⟩, by decide +kernel⟩
  · let ch : Nat := 4096
    let r : Req := ld raw1
    let s : State := st { up with str := { up.str with commit := some { version := 1, stage := .token, acked := [], latest := 0, failed := none, tAct := 0, rollForward := false, job := none } } }
    let d : Dev := tk spec0400 r s.dev
    let k : Nat := 1
    exact ⟨ch, r, s, d, by decide +kernel, ⟨(by decide +kernel), (by decide +kernel), rfl, (by decide +kernel)⟩, by decide +kernel⟩
  · let ch : Nat := 4096
    let r : Req := ld (raw1.set 5 2)
    let s : State := st (B id)
    let d : Dev := tk spec0400 r s.dev
    let k : Nat := 1
    exact ⟨ch, r, s, d, k, (7), (0), by decide +kernel, ⟨(by decide +kernel), (by decide +kernel), rfl, (by decide +kernel)⟩, by delta Builds; decide +kernel⟩
  · let ch : Nat := 4096
    let r : Req := ld raw1
    let s : State := st (B id)
    let d : Dev := tk spec0400 r s.dev
    let k : Nat := 1
    exact ⟨ch, r, s, d, k, by decide +kernel, ⟨(by decide +kernel), (by decide +kernel), rfl, (by decide +kernel)⟩, by delta Builds; decide +kernel⟩
  · let ch : Nat := 4096
    let r : Req := ld raw2
    let s : State := st { keyed (B id) with jnl := { up.jnl with stopped := true } }
    let d : Dev := tk spec0400 r s.dev
    let k : Nat := 1
    exact ⟨ch, r, s, d, k, by decide +kernel, ⟨(by decide +kernel), (by decide +kernel), rfl, (by decide +kernel)⟩, by delta Builds; decide +kernel⟩
  · let ch : Nat := 4096
    let r : Req := ld raw2
    let s : State := st (keyed fullCs)
    let d : Dev := tk spec0400 r s.dev
    let k : Nat := 1
    exact ⟨ch, r, s, d, k, by decide +kernel, ⟨(by decide +kernel), (by decide +kernel), rfl, (by decide +kernel)⟩, by delta Builds; decide +kernel⟩
  · let ch : Nat := 4096
    let r : Req := ld raw2
    let s : State := st (keyed (B id))
    let d : Dev := tk spec0400 r s.dev
    let k : Nat := 1
    refine ⟨ch, r, s, d, k, ((placeImage k (r.words.drop 1) d).getD up), ?_⟩
    refine ⟨by decide +kernel, ⟨by decide +kernel, by decide +kernel, rfl, by decide +kernel⟩, by decide +kernel, ?_, by decide +kernel, by decide +kernel, some_getD (by decide +kernel), by decide +kernel⟩
    delta Builds
    decide +kernel
  · let ch : Nat := 4096
    let r : Req := pt 0 1 1
    let s : State := st (B id)
    let d : Dev := tk spec0401 r s.dev
    let k : Nat := 1
    exact ⟨ch, r, s, d, k, by decide +kernel, ⟨(by decide +kernel), (by decide +kernel), rfl, (by decide +kernel)⟩, by delta Builds; decide +kernel⟩
  · let ch : Nat := 4096
    let r : Req := pt 1 1 1
    let s : State := st (B (fun x => { x with rules := { x.rules with image := some ParserCommandsW.im } }))
    let d : Dev := tk spec0401 r s.dev
    let k : Nat := 1
    exact ⟨ch, r, s, d, k, (ParserCommandsW.im), by decide +kernel, ⟨(by decide +kernel), (by decide +kernel), rfl, (by decide +kernel)⟩, by delta Builds; decide +kernel⟩
  · let ch : Nat := 4096
    let r : Req := pt 0 1 1
    let s : State := st (B (fun x => { x with rules := { x.rules with image := some ParserCommandsW.im } }))
    let d : Dev := tk spec0401 r s.dev
    let k : Nat := 1
    let im := ParserCommandsW.im
    let st := ((loadImage 1 (patchedRaw im 0 1 1 (r.words.drop 2)) (8 * (patchedRaw im 0 1 1 (r.words.drop 2)).length) r d).2.getD (.ok, [])).1
    exact ⟨ch, r, s, d, k, im, ((loadImage 1 (patchedRaw im 0 1 1 (r.words.drop 2)) (8 * (patchedRaw im 0 1 1 (r.words.drop 2)).length) r d).1), st, (((loadImage 1 (patchedRaw im 0 1 1 (r.words.drop 2)) (8 * (patchedRaw im 0 1 1 (r.words.drop 2)).length) r d).2.getD (.ok, [])).2), by decide +kernel, ⟨(by decide +kernel), (by decide +kernel), rfl, (by decide +kernel)⟩, by delta Builds; decide +kernel⟩
  · let ch : Nat := 4096
    let r : Req := rq [1, 3 + (3 <<< 16)]
    let s : State := st (B id)
    let d : Dev := tk spec0402 r s.dev
    let k : Nat := 1
    exact ⟨ch, r, s, d, k, by decide +kernel, ⟨(by decide +kernel), (by decide +kernel), rfl, (by decide +kernel)⟩, by delta Builds; decide +kernel⟩
  · let ch : Nat := 4096
    let r : Req := rq [1, 3 + (1 <<< 16) + (2 <<< 18)]
    let s : State := st (B id)
    let d : Dev := tk spec0402 r s.dev
    let k : Nat := 1
    exact ⟨ch, r, s, d, k, by decide +kernel, ⟨(by decide +kernel), (by decide +kernel), rfl, (by decide +kernel)⟩, by delta Builds; decide +kernel⟩
  · let ch : Nat := 4096
    let r : Req := rqi [7]
    let s : State := st up
    let d : Dev := tk spec0403 r s.dev
    let k : Nat := 1
    exact ⟨ch, r, s, d, by decide +kernel, ⟨(by decide +kernel), (by decide +kernel), rfl, (by decide +kernel)⟩, by decide +kernel⟩
  · let ch : Nat := 4096
    let r : Req := rqi [0]
    let s : State := st up
    let d : Dev := tk spec0403 r s.dev
    let k : Nat := 1
    exact ⟨ch, r, s, d, by decide +kernel, ⟨(by decide +kernel), (by decide +kernel), rfl, (by decide +kernel)⟩, by decide +kernel⟩
  · let ch : Nat := 4096
    let r : Req := rq [3 + (7 <<< 12)]
    let s : State := st up
    let d : Dev := tk spec0404 r s.dev
    let k : Nat := 1
    exact ⟨ch, r, s, d, by decide +kernel, ⟨(by decide +kernel), (by decide +kernel), rfl, (by decide +kernel)⟩, by decide +kernel⟩
  · let ch : Nat := 4
    let r : Req := rq [3]
    let s : State := st (up.setSlice 4 { Slice.free with state := .active })
    let d : Dev := tkc 4 spec0404 r s.dev
    let k : Nat := 1
    exact ⟨ch, r, s, d, by decide +kernel, ⟨(by decide +kernel), (by decide +kernel), rfl, (by decide +kernel)⟩, by decide +kernel⟩
  · let ch : Nat := 3
    let r : Req := rq [3]
    let s : State := st (up.setSlice 3 { Slice.free with state := .active })
    let d : Dev := tkc 3 spec0404 r s.dev
    let k : Nat := 1
    exact ⟨ch, r, s, d, by decide +kernel, ⟨(by decide +kernel), (by decide +kernel), rfl, (by decide +kernel)⟩, by decide +kernel⟩

end ParserCommandsW

namespace VersionedTablesW

def tdf (e : Nat) : TableDef := ⟨1, 8192, e⟩
def onK (k : Nat) (e : Nat) (d : Dev) : Dev := onRules k (fun r => { r with tables := SMap.put TableDef.none r.tables 3 (tdf e), profiles := [(0, ⟨3, [66]⟩)], plans := [(0, ⟨true, [0], ⟨9, 0⟩⟩)], segments := [(5, ⟨true, 5 + (1 <<< 16) + (3 <<< 17), 2 + (10 <<< 16) + (2 <<< 28) + (100 <<< 32)⟩)] }) d
def D0 : Dev := onK 0 0 up
def bld1 (e : Nat) : Dev := (onK 0 e up).setSlot 1 { ((onK 0 e up).slot 0) with state := .building, version := 1 }
def A1 : Action := ⟨1 + (5 <<< 22), 0⟩
def pe (k t : Nat) (key : List Byte) (a : Action) (d : Dev) : Dev := (putEntry k t key a d).getD up
def frm : List Byte := [2,2,3,4,5,6,6,8,9,10,11,12,0x08,0x00] ++ List.replicate 60 0x45
def pk : Pkt := Pkt.fresh (newTag up 3 7 0 frm) frm
def bp : Pkt := { pk with ps := { pk.ps with bound := true, segment := some 5 } }
def X2 : TablePlaces := { TablePlaces.empty with onchip := [(0, some ⟨[7], ⟨2, 0⟩, 0, 1, false⟩), (1, some ⟨[7], A1, 1, 0, true⟩)], ext := [(5, some ⟨[8], A1, 1, 0, true⟩)] }
def E2 : Dev := let d := bld1 10; { d with rules := { d.rules with tables := [(3, X2)] } }
theorem E2_rising (u : Nat) : SMap.rising (E2.places u).onchip = true ∧ SMap.rising (E2.places u).ext = true := by
  have h : E2.places u = if 3 = u then X2 else TablePlaces.empty := rfl
  rw [h]; split <;> decide +kernel
def rt (i : Nat) (len : Nat) (sl : BitVec 8) : Nat × Option Route := (i, some ⟨false, 1, BitVec.ofNat 128 0x0A000000, len, sl, ⟨1, 0⟩⟩)
def R0 : Dev := { up with rules := { up.rules with routes := [rt 0 24 3, rt 1 8 1, rt 2 0 2] } }
def r1 : Route := ⟨false, 1, BitVec.ofNat 128 0x0A000000, 8, 1, ⟨1, 0⟩⟩

/-- States and operands that meet the hypotheses of `Obligations.VersionedTables`, one part for each of its 9 cases that have hypotheses. -/
theorem witness_VersionedTables :
    (∃ s : Dev, ∃ k : Nat, ∃ t : Nat, ∃ v : Version, ∃ closed : List Byte, k < 8 ∧ ((∀ u, SMap.rising (s.places u).onchip = true ∧ SMap.rising (s.places u).ext = true)) ∧ Version.later v (s.slot k).version = true ∧ ((∀ m ∈ [(s.places t).onchip, (s.places t).ext, (s.places t).stash], ∀ e ∈ SMap.entries m, Entry.is closed v e.2 = true → e.2.isOpen = true))) ∧
    (∃ s : Dev, ∃ k : Nat, ∃ v : Version, k < 8 ∧ ((∀ u, SMap.rising (s.places u).onchip = true ∧ SMap.rising (s.places u).ext = true)) ∧ Version.later v (s.slot k).version = true) ∧
    (∃ s : Dev, ∃ k : Nat, k < 8 ∧ ((∀ u, SMap.rising (s.places u).onchip = true ∧ SMap.rising (s.places u).ext = true)) ∧ (s.slot k).state ≠ .free) ∧
    (∃ s : Dev, ∃ k : Nat, k < 8 ∧ ((∀ u, SMap.rising (s.places u).onchip = true ∧ SMap.rising (s.places u).ext = true))) ∧
    (∃ k : Nat, k < 8) ∧
    (∃ s : Dev, ∃ v6 : Bool, ∃ vrf : Nat, ∃ a : BitVec 128, ∃ k : Nat, ∃ r, k < 8 ∧ lpmLookup s k v6 vrf a = some r) ∧
    (∃ s : Dev, ∃ v6 : Bool, ∃ vrf : Nat, ∃ a : BitVec 128, ∃ k : Nat, ∃ r, ∃ e, k < 8 ∧ (let fits : Route → Prop := fun r => r.v6 = v6 ∧ r.vrf.toNat = vrf ∧ r.slots.getLsbD k = true ∧ prefixMatch r a = true; lpmLookup s k v6 vrf a = some r ∧ ((SMap.entries s.rules.routes).Pairwise (fun x y => x.2.v6 = y.2.v6 → y.2.len ≤ x.2.len)) ∧ e ∈ SMap.entries s.rules.routes ∧ fits e.2)) ∧
    (∃ k : Nat, ∃ b, k < 8 ∧ b < 8 ∧ b ≠ k) ∧
    (∃ k : Nat, ∃ b, k < 8 ∧ b < 8 ∧ b ≠ k) := by
  refine ⟨?_, ?_, ?_, ?_, ?_, ?_, ?_, ?_, ?_⟩
  · let s : Dev := E2
    let k : Nat := 0
    let t : Nat := 3
    let key : List Byte := [7]
    let v : Version := 1
    let closed : List Byte := [7]
    refine ⟨s, k, t, v, closed, ?_⟩
    exact ⟨by decide +kernel, E2_rising, by decide +kernel⟩
  · let s : Dev := E2
    let k : Nat := 0
    let t : Nat := 3
    let key : List Byte := [7]
    let v : Version := 1
    refine ⟨s, k, v, ?_⟩
    exact ⟨by decide +kernel, E2_rising, by decide +kernel⟩
  · let s : Dev := E2
    let k : Nat := 1
    let t : Nat := 3
    let key : List Byte := [7]
    refine ⟨s, k, ?_⟩
    exact ⟨by decide +kernel, E2_rising, by decide +kernel⟩
  · let s : Dev := E2
    let k : Nat := 1
    let t : Nat := 3
    let key : List Byte := [7]
    refine ⟨s, k, ?_⟩
    exact ⟨by decide +kernel, E2_rising⟩
  · let s : Dev := R0
    let v6 : Bool := false
    let vrf : Nat := 1
    let a : BitVec 128 := BitVec.ofNat 128 0x0A010203
    let k : Nat := 0
    exact ⟨k, by decide +kernel⟩
  · let s : Dev := R0
    let v6 : Bool := false
    let vrf : Nat := 1
    let a : BitVec 128 := BitVec.ofNat 128 0x0A010203
    let k : Nat := 0
    exact ⟨s, v6, vrf, a, k, (r1), by decide +kernel⟩
  · let s : Dev := R0
    let v6 : Bool := false
    let vrf : Nat := 1
    let a : BitVec 128 := BitVec.ofNat 128 0x0A010203
    let k : Nat := 0
    exact ⟨s, v6, vrf, a, k, (r1), ((1, r1)), by decide +kernel⟩
  · let s : Dev := R0
    let v6 : Bool := false
    let vrf : Nat := 1
    let a : BitVec 128 := BitVec.ofNat 128 0x0A010203
    let k : Nat := 0
    exact ⟨k, (1), by decide +kernel⟩
  · let s : Dev := R0
    let v6 : Bool := false
    let vrf : Nat := 1
    let a : BitVec 128 := BitVec.ofNat 128 0x0A010203
    let k : Nat := 0
    exact ⟨k, (1), by decide +kernel⟩

end VersionedTablesW

namespace ClassificationW

def tdf (e : Nat) : TableDef := ⟨1, 8192, e⟩
def onK (k : Nat) (e : Nat) (d : Dev) : Dev := onRules k (fun r => { r with tables := SMap.put TableDef.none r.tables 3 (tdf e), profiles := [(0, ⟨3, [66]⟩)], plans := [(0, ⟨true, [0], ⟨9, 0⟩⟩)], segments := [(5, ⟨true, 5 + (1 <<< 16) + (3 <<< 17), 2 + (10 <<< 16) + (2 <<< 28) + (100 <<< 32)⟩)] }) d
def D0 : Dev := onK 0 0 up
def bld1 (e : Nat) : Dev := (onK 0 e up).setSlot 1 { ((onK 0 e up).slot 0) with state := .building, version := 1 }
def A1 : Action := ⟨1 + (5 <<< 22), 0⟩
def pe (k t : Nat) (key : List Byte) (a : Action) (d : Dev) : Dev := (putEntry k t key a d).getD up
def frm : List Byte := [2,2,3,4,5,6,6,8,9,10,11,12,0x08,0x00] ++ List.replicate 60 0x45
def pk : Pkt := Pkt.fresh (newTag up 3 7 0 frm) frm
def bp : Pkt := { pk with ps := { pk.ps with bound := true, segment := some 5 } }
def PD (x : Pipeline) (d : Dev) : State := st (d.setPipe 3 x)
def hitD : Dev := pe 0 3 [7] A1 D0
def okv (x : Except Halt Verdict) : Verdict := match x with | .ok v => v | .error _ => ⟨bp, none, none, ⟨0,0,0,[]⟩⟩
def haltv (x : Except Halt Verdict) : Halt := match x with | .ok _ => .waits 0 0 [] | .error e => e
theorem ok_of {x : Except Halt Verdict} (h : (match x with | .ok _ => true | _ => false) = true) : x = .ok (okv x) := by
  cases x <;> first | rfl | cases h
theorem badPlace_one {s : Dev} {t : Nat} {d : TableDef} {key : List Byte} {p : Nat} (h : d.onchip / 8 = 1) (hp : [0, 1, 2, 3, 4, 5, 6, 7].find? (fun p => s.rules.badEntries.any (fun e => e.1 == t && e.2.1 == p)) = some p) : badPlace s t d key = some p := by
  simp only [badPlace, onchipPlaces, placesOf, h, Nat.mod_one]
  exact hp
def wTab : Halt → Nat | .waits t _ _ => t | .lost t _ _ => t
def wSl : Halt → Nat | .waits _ sl _ => sl | .lost .. => 0
def wLines : Halt → List Nat | .waits _ _ l => l | .lost .. => []
theorem waits_of {x : Except Halt Verdict} (h : (match x with | .error (.waits ..) => true | _ => false) = true) : x = .error (.waits (wTab (haltv x)) (wSl (haltv x)) (wLines (haltv x))) := by
  rcases x with (_ | _) | _ <;> first | rfl | cases h
def extD : Dev := pe 0 3 [9] A1 (onK 0 10 up)
def fullBucket : Pipeline := { Pipeline.reset with parsed := [bp, bp] }
def extE : Dev := let d := onK 0 10 up; { d with rules := { d.rules with tables := [(3, { TablePlaces.empty with ext := [(77, some { key := [9], act := A1, vfrom := 0, vto := 0, isOpen := true })] })] } }
def ext1 : Dev := let d := onK 0 1 up; { d with rules := { d.rules with tables := [(3, { TablePlaces.empty with ext := [(77, some { key := [9], act := A1, vfrom := 0, vto := 0, isOpen := true })] })] } }
def lostD : Dev := onRules 0 (fun r => { r with tables := SMap.put TableDef.none r.tables 3 ⟨1, 8, 0⟩ }) { D0 with rules := { D0.rules with badEntries := [(3, 0, up.now)] } }
theorem lost_run {s : Dev} {k : Nat} {p : Pkt} {n i m : Nat} {ms : List Nat} {x : KeyProfile} (hb : p.ps.bound = true) (hq : p.ps.plan = none)
    (hv : (SMap.get Plan.none (s.slot p.tag.vslot.toNat).rules.plans (segPlan (slotSegment s p.tag.vslot.toNat (p.ps.segment.getD 0)))).valid = true)
    (hs : (SMap.get Plan.none (s.slot p.tag.vslot.toNat).rules.plans (segPlan (slotSegment s p.tag.vslot.toNat (p.ps.segment.getD 0)))).steps = m :: ms)
    (hx : SMap.get KeyProfile.none (s.slot p.tag.vslot.toNat).rules.profiles m = x)
    (hl : ∀ key, badPlace s x.table (RuleSet.tableDef (s.rules' p.tag.vslot.toNat) x.table) key = some i) :
    classifyRun s k p n = .error (.lost x.table i ⟨n, 1, 0, []⟩) := by
  simp [classifyRun, hb, planOn, hq, hv, hs, planSteps, hx, look, hl]
def P1 : Pipeline := { Pipeline.reset with parsed := [bp] }
def Q1 : Pipeline := { Pipeline.reset with waiting := [⟨3, 0, bp⟩] }
def portUp : Dev := { up with eth := { up.eth with modes := [(0, 8)], ports := [(5, newPort 5 8)] } }

/-- States and operands that meet the hypotheses of `Obligations.Classification`, one part for each of its 21 cases that have hypotheses. -/
theorem witness_Classification :
    (∃ k : Nat, ∃ s : State, ∃ pre : List Pkt, ∃ p : Pkt, ∃ post : List Pkt, Wf.classification k none = true ∧ (s.dev.pipe k).parsed = pre ++ p :: post ∧ ((∀ q ∈ pre, bucketWaits (s.dev.pipe k) q = true)) ∧ bucketWaits (s.dev.pipe k) p = false) ∧
    (∃ k : Nat, ∃ s : State, Wf.classification k none = true ∧ ((∀ q ∈ (s.dev.pipe k).parsed, bucketWaits (s.dev.pipe k) q = true))) ∧
    (∃ k : Nat, ∃ t : Nat, ∃ i : Nat, ∃ s : State, ∃ d : Dev, Wf.classification k (some (t, i)) = true ∧ Becomes (.classification ⟨k, none⟩) { s with dev := meetBadEntry t i s.dev } d) ∧
    (∃ k : Nat, ∃ p : Pkt, ∃ n : Nat, ∃ d : Dev, ∃ v, k < 8 ∧ classifyRun d k p n = .ok v) ∧
    (∃ k : Nat, ∃ p : Pkt, ∃ n : Nat, ∃ d : Dev, ∃ t, ∃ sl, ∃ lines, k < 8 ∧ classifyRun d k p n = .error (.waits t sl lines)) ∧
    (∃ k : Nat, ∃ p : Pkt, ∃ n : Nat, ∃ d : Dev, ∃ t, ∃ sl, ∃ lines, ∃ j, k < 8 ∧ classifyRun d k p n = .error (.waits t sl lines) ∧ j ≠ k) ∧
    (∃ k : Nat, ∃ p : Pkt, ∃ n : Nat, ∃ d : Dev, ∃ t, ∃ i, ∃ c, k < 8 ∧ classifyRun d k p n = .error (.lost t i c)) ∧
    (∃ k : Nat, ∃ p : Pkt, ∃ n : Nat, ∃ d : Dev, ∃ t, ∃ i, ∃ c, k < 8 ∧ classifyRun d k p n = .error (.lost t i c)) ∧
    (∃ k : Nat, ∃ s : State, ∃ w : WaitRead, ∃ rest : List WaitRead, Wf.extTableReadResponse k false = true ∧ (s.dev.pipe k).waiting = w :: rest) ∧
    (∃ s : Dev, ∃ a : Action, a.kind = 1 ∧ s.egressOk a.egress = true) ∧
    (∃ s : Dev, ∃ a : Action, a.kind = 1 ∧ s.egressOk a.egress = false) ∧
    (∃ s : Dev, ∃ a : Action, a.kind = 2 ∧ a.node = s.str.node) ∧
    (∃ s : Dev, ∃ a : Action, a.kind = 2 ∧ a.node ≠ s.str.node) ∧
    (∃ a : Action, a.kind = 5) ∧
    (∃ a : Action, a.kind = 6) ∧
    (∃ a : Action, a.kind = 9) ∧
    (∃ a : Action, a.kind = 10) ∧
    (∃ p : Pkt, p.tag.pass = 3) ∧
    (∃ p : Pkt, p.tag.pass ≠ 3) ∧
    (∃ s : Dev, ∃ k : Nat, ∃ p : Pkt, ∃ reads : Nat, ∃ v : Verdict, classifyRun s k p reads = .ok v) ∧
    (∃ s : Dev, ∃ k : Nat, ∃ p : Pkt, ∃ reads : Nat, ∃ v : Verdict, classifyRun s k p reads = .ok v ∧ (72 ≤ p.tag.ingress.toNat ∨ p.ps.bound = true)) := by
  refine ⟨?_, ?_, ?_, ?_, ?_, ?_, ?_, ?_, ?_, ?_, ?_, ?_, ?_, ?_, ?_, ?_, ?_, ?_, ?_, ?_, ?_⟩
  · let k : Nat := 3
    let s : State := PD P1 D0
    let pre : List Pkt := []
    let p : Pkt := bp
    let post : List Pkt := []
    exact ⟨k, s, pre, p, post, by decide +kernel⟩
  · let k : Nat := 3
    let s : State := PD Pipeline.reset D0
    exact ⟨k, s, by decide +kernel⟩
  · let k : Nat := 3
    let t : Nat := 3
    let i : Nat := 5
    let s : State := PD P1 D0
    let d : Dev := Sys2Proof.Machine.classification 3 none (meetBadEntry 3 5 s.dev)
    refine ⟨k, t, i, s, d, ?_⟩
    exact ⟨by decide +kernel, becomes_classification _ _ _ (by decide +kernel)⟩
  · let k : Nat := 3
    let p : Pkt := bp
    let n : Nat := 0
    let d : Dev := D0
    refine ⟨k, p, n, d, (okv (classifyRun d k p n)), ?_⟩
    exact ⟨by decide +kernel, ok_of (by decide +kernel)⟩
  · let k : Nat := 3
    let p : Pkt := bp
    let n : Nat := 0
    let d : Dev := extE
    refine ⟨k, p, n, d, (wTab (haltv (classifyRun d k p n))), (wSl (haltv (classifyRun d k p n))), (wLines (haltv (classifyRun d k p n))), ?_⟩
    exact ⟨by decide +kernel, waits_of (by decide +kernel)⟩
  · let k : Nat := 3
    let p : Pkt := bp
    let n : Nat := 0
    let d : Dev := extE
    refine ⟨k, p, n, d, (wTab (haltv (classifyRun d k p n))), (wSl (haltv (classifyRun d k p n))), (wLines (haltv (classifyRun d k p n))), (4), ?_⟩
    exact ⟨by decide +kernel, waits_of (by decide +kernel), by decide +kernel⟩
  · let k : Nat := 3
    let p : Pkt := bp
    let n : Nat := 0
    let d : Dev := lostD
    refine ⟨k, p, n, d, (3), (0), ((⟨0, 1, 0, []⟩ : Cx)), ?_⟩
    refine ⟨by decide +kernel, lost_run (s := lostD) (p := bp) (x := ⟨3, [66]⟩) (m := 0) (ms := []) rfl rfl ?_ ?_ ?_ (fun key => badPlace_one ?_ ?_)⟩ <;> decide +kernel
  · let k : Nat := 3
    let p : Pkt := bp
    let n : Nat := 0
    let d : Dev := lostD
    refine ⟨k, p, n, d, (3), (0), ((⟨0, 1, 0, []⟩ : Cx)), ?_⟩
    refine ⟨by decide +kernel, lost_run (s := lostD) (p := bp) (x := ⟨3, [66]⟩) (m := 0) (ms := []) rfl rfl ?_ ?_ ?_ (fun key => badPlace_one ?_ ?_)⟩ <;> decide +kernel
  · let k : Nat := 3
    let s : State := PD Q1 D0
    let w : WaitRead := ⟨3, 0, bp⟩
    let rest : List WaitRead := []
    exact ⟨k, s, w, rest, by decide +kernel⟩
  · let s : Dev := portUp
    let a : Action := ⟨1 + (5 <<< 22), 0⟩
    let p : Pkt := bp
    let c : Cx := ⟨0,0,0,[]⟩
    exact ⟨s, a, by decide +kernel⟩
  · let s : Dev := up
    let a : Action := ⟨1 + (5 <<< 22), 0⟩
    let p : Pkt := bp
    let c : Cx := ⟨0,0,0,[]⟩
    exact ⟨s, a, by decide +kernel⟩
  · let s : Dev := up
    let a : Action := ⟨2, 0⟩
    let p : Pkt := bp
    let c : Cx := ⟨0,0,0,[]⟩
    exact ⟨s, a, by decide +kernel⟩
  · let s : Dev := up
    let a : Action := ⟨2, 1 <<< 44⟩
    let p : Pkt := bp
    let c : Cx := ⟨0,0,0,[]⟩
    exact ⟨s, a, by decide +kernel⟩
  · let s : Dev := up
    let a : Action := ⟨5, 77 <<< 17⟩
    let p : Pkt := bp
    let c : Cx := ⟨0,0,0,[]⟩
    exact ⟨a, by decide +kernel⟩
  · let s : Dev := up
    let a : Action := ⟨6 + (3 <<< 50) + (9 <<< 58) + (1 <<< 62), 0⟩
    let p : Pkt := bp
    let c : Cx := ⟨0,0,0,[]⟩
    exact ⟨a, by decide +kernel⟩
  · let s : Dev := up
    let a : Action := ⟨9, 0⟩
    let p : Pkt := bp
    let c : Cx := ⟨0,0,0,[]⟩
    exact ⟨a, by decide +kernel⟩
  · let s : Dev := up
    let a : Action := ⟨10, 0⟩
    let p : Pkt := bp
    let c : Cx := ⟨0,0,0,[]⟩
    exact ⟨a, by decide +kernel⟩
  · let k : Nat := 3
    let s : Dev := up
    let p : Pkt := { bp with tag := { bp.tag with pass := 3 } }
    exact ⟨p, by decide +kernel⟩
  · let k : Nat := 3
    let s : Dev := up
    let p : Pkt := bp
    exact ⟨p, by decide +kernel⟩
  · let s : Dev := D0
    let k : Nat := 3
    let p : Pkt := bp
    let reads : Nat := 0
    let v : Verdict := okv (classifyRun s k p reads)
    refine ⟨s, k, p, reads, v, ?_⟩
    exact ok_of (by decide +kernel)
  · let s : Dev := D0
    let k : Nat := 3
    let p : Pkt := bp
    let reads : Nat := 0
    let v : Verdict := okv (classifyRun s k p reads)
    refine ⟨s, k, p, reads, v, ?_⟩
    exact ⟨ok_of (by decide +kernel), by decide +kernel⟩

end ClassificationW

namespace LearnedEntriesW

def tdf (e : Nat) : TableDef := ⟨1, 8192, e⟩
def onK (k : Nat) (e : Nat) (d : Dev) : Dev := onRules k (fun r => { r with tables := SMap.put TableDef.none r.tables 3 (tdf e), profiles := [(0, ⟨3, [66]⟩)], plans := [(0, ⟨true, [0], ⟨9, 0⟩⟩)], segments := [(5, ⟨true, 5 + (1 <<< 16) + (3 <<< 17), 2 + (10 <<< 16) + (2 <<< 28) + (100 <<< 32)⟩)] }) d
def D0 : Dev := onK 0 0 up
def bld1 (e : Nat) : Dev := (onK 0 e up).setSlot 1 { ((onK 0 e up).slot 0) with state := .building, version := 1 }
def A1 : Action := ⟨1 + (5 <<< 22), 0⟩
def pe (k t : Nat) (key : List Byte) (a : Action) (d : Dev) : Dev := (putEntry k t key a d).getD up
def frm : List Byte := [2,2,3,4,5,6,6,8,9,10,11,12,0x08,0x00] ++ List.replicate 60 0x45
def pk : Pkt := Pkt.fresh (newTag up 3 7 0 frm) frm
def bp : Pkt := { pk with ps := { pk.ps with bound := true, segment := some 5 } }
def mac : BitVec 48 := 0x020203040506
def ev : LearnEvent := { segment := 5, mac := mac, port := 2, node := 0, slice := 3, rxQpBase := 0, rxQpLog2 := 0, time := 900, vslot := 0 }
def le : Learned := { segment := 5, mac := mac, port := 2, node := 0, slice := 3, rxQpBase := 0, rxQpLog2 := 0, lastTime := 100, moves := [], flapping := false, holdEnd := 0 }
def other (m : Nat) : Learned := { le with mac := BitVec.ofNat 48 m, port := 2 }
def Ls (ls : List Learned) : Pipeline := { Pipeline.reset with learnQ := [ev], learned := ls.zipIdx.map (fun e => (e.2, some e.1)) }
def LD (ls : List Learned) : State := st ({ D0 with now := 1000 }.setPipe 3 (Ls ls))
def noSeg : State := st (up.setPipe 3 (Ls []))
def l2 (d : Dev) : Dev := d.setPipe 3 (Ls [le, other 77, { other 78 with flapping := true, holdEnd := 9000 }])

/-- States and operands that meet the hypotheses of `Obligations.LearnedEntries`, one part for each of its 20 cases that have hypotheses. -/
theorem witness_LearnedEntries :
    (∃ k : Nat, ∃ s : State, ∃ e : LearnEvent, ∃ rest : List LearnEvent, Wf.learnEvent k = true ∧ (s.dev.pipe k).learnQ = e :: rest ∧ (let d := s.dev.setPipe k { s.dev.pipe k with learnQ := rest }; let x := slotSegment d e.vslot.toNat e.segment; x.valid = false)) ∧
    (∃ k : Nat, ∃ s : State, ∃ e : LearnEvent, ∃ rest : List LearnEvent, Wf.learnEvent k = true ∧ (s.dev.pipe k).learnQ = e :: rest ∧ (let d := s.dev.setPipe k { s.dev.pipe k with learnQ := rest }; let x := slotSegment d e.vslot.toNat e.segment; let full := segTenant x = true ∧ segLimit x ≤ learnedUse d k e.segment e.port; x.valid = true ∧ learnedAt d k e.segment e.mac.toNat = none ∧ full)) ∧
    (∃ k : Nat, ∃ s : State, ∃ e : LearnEvent, ∃ rest : List LearnEvent, Wf.learnEvent k = true ∧ (s.dev.pipe k).learnQ = e :: rest ∧ (let d := s.dev.setPipe k { s.dev.pipe k with learnQ := rest }; let x := slotSegment d e.vslot.toNat e.segment; let full := segTenant x = true ∧ segLimit x ≤ learnedUse d k e.segment e.port; x.valid = true ∧ learnedAt d k e.segment e.mac.toNat = none ∧ ¬ full)) ∧
    (∃ k : Nat, ∃ s : State, ∃ e : LearnEvent, ∃ rest : List LearnEvent, ∃ l, Wf.learnEvent k = true ∧ (s.dev.pipe k).learnQ = e :: rest ∧ (let d := s.dev.setPipe k { s.dev.pipe k with learnQ := rest }; let x := slotSegment d e.vslot.toNat e.segment; let place : Place := ⟨e.port, e.node, e.slice, e.rxQpBase, e.rxQpLog2⟩; x.valid = true ∧ learnedAt d k e.segment e.mac.toNat = some l ∧ ((l.flapping = true → Time.ge d.now l.holdEnd = false)) ∧ learnedPlace l = place)) ∧
    (∃ k : Nat, ∃ s : State, ∃ e : LearnEvent, ∃ rest : List LearnEvent, ∃ l, Wf.learnEvent k = true ∧ (s.dev.pipe k).learnQ = e :: rest ∧ (let d := s.dev.setPipe k { s.dev.pipe k with learnQ := rest }; let x := slotSegment d e.vslot.toNat e.segment; let place : Place := ⟨e.port, e.node, e.slice, e.rxQpBase, e.rxQpLog2⟩; let full := segTenant x = true ∧ segLimit x ≤ learnedUse d k e.segment e.port; x.valid = true ∧ learnedAt d k e.segment e.mac.toNat = some l ∧ ((l.flapping = true → Time.ge d.now l.holdEnd = false)) ∧ learnedPlace l ≠ place ∧ full)) ∧
    (∃ k : Nat, ∃ s : State, ∃ e : LearnEvent, ∃ rest : List LearnEvent, ∃ l, Wf.learnEvent k = true ∧ (s.dev.pipe k).learnQ = e :: rest ∧ (let d := s.dev.setPipe k { s.dev.pipe k with learnQ := rest }; let x := slotSegment d e.vslot.toNat e.segment; let place : Place := ⟨e.port, e.node, e.slice, e.rxQpBase, e.rxQpLog2⟩; let full := segTenant x = true ∧ segLimit x ≤ learnedUse d k e.segment e.port; x.valid = true ∧ learnedAt d k e.segment e.mac.toNat = some l ∧ ((l.flapping = true → Time.ge d.now l.holdEnd = false)) ∧ learnedPlace l ≠ place ∧ ¬ full ∧ l.flapping = true)) ∧
    (∃ k : Nat, ∃ s : State, ∃ e : LearnEvent, ∃ rest : List LearnEvent, ∃ l, Wf.learnEvent k = true ∧ (s.dev.pipe k).learnQ = e :: rest ∧ (let d := s.dev.setPipe k { s.dev.pipe k with learnQ := rest }; let x := slotSegment d e.vslot.toNat e.segment; let place : Place := ⟨e.port, e.node, e.slice, e.rxQpBase, e.rxQpLog2⟩; let full := segTenant x = true ∧ segLimit x ≤ learnedUse d k e.segment e.port; x.valid = true ∧ learnedAt d k e.segment e.mac.toNat = some l ∧ ((l.flapping = true → Time.ge d.now l.holdEnd = false)) ∧ learnedPlace l ≠ place ∧ ¬ full ∧ l.flapping = false ∧ (let recent := l.moves.filter (fun t => decide (Time.since d.now t ≤ segWindow x * 1000000)); recent.length < segMoves x))) ∧
    (∃ k : Nat, ∃ s : State, ∃ e : LearnEvent, ∃ rest : List LearnEvent, ∃ l, Wf.learnEvent k = true ∧ (s.dev.pipe k).learnQ = e :: rest ∧ (let d := s.dev.setPipe k { s.dev.pipe k with learnQ := rest }; let x := slotSegment d e.vslot.toNat e.segment; let place : Place := ⟨e.port, e.node, e.slice, e.rxQpBase, e.rxQpLog2⟩; let full := segTenant x = true ∧ segLimit x ≤ learnedUse d k e.segment e.port; x.valid = true ∧ learnedAt d k e.segment e.mac.toNat = some l ∧ ((l.flapping = true → Time.ge d.now l.holdEnd = false)) ∧ learnedPlace l ≠ place ∧ ¬ full ∧ l.flapping = false ∧ (let recent := l.moves.filter (fun t => decide (Time.since d.now t ≤ segWindow x * 1000000)); segMoves x ≤ recent.length))) ∧
    (∃ k : Nat, ∃ s : State, Wf.learnEvent k = true ∧ (s.dev.pipe k).learnQ = []) ∧
    (∃ k : Nat, ∃ seg : Nat, ∃ mac : BitVec 48, ∃ s : State, ∃ l, Wf.flapHoldEnd k seg mac = true ∧ learnedAt s.dev k seg mac.toNat = some l ∧ l.flapping = true) ∧
    (∃ k : Nat, ∃ seg : Nat, ∃ mac : BitVec 48, ∃ s : State, Wf.flapHoldEnd k seg mac = true ∧ ((∀ l, learnedAt s.dev k seg mac.toNat = some l → l.flapping = false))) ∧
    (Wf.ageingScan = true) ∧
    (∃ ch : Nat, ∃ r : Req, ∃ s : State, ∃ d : Dev, cmdWf ch r = true ∧ Accepted spec0521 ch r s.dev d) ∧
    (∃ a : Learned, ∃ b : Learned, a.lastTime = b.lastTime ∧ a.port < b.port) ∧
    (∃ a : Learned, ∃ b : Learned, a.lastTime = b.lastTime ∧ a.port = b.port ∧ a.node < b.node) ∧
    (∃ a : Learned, ∃ b : Learned, Time.later a.lastTime b.lastTime = true) ∧
    (∃ ch : Nat, ∃ r : Req, ∃ s : State, ∃ d : Dev, cmdWf ch r = true ∧ Accepted spec0520 ch r s.dev d ∧ (let n := fld (r.word 3) 12 0; (n = 0 ∨ 4096 < n ∨ fld (r.word 2) 2 0 ≠ 0))) ∧
    (∃ ch : Nat, ∃ r : Req, ∃ s : State, ∃ d : Dev, cmdWf ch r = true ∧ Accepted spec0520 ch r s.dev d ∧ (let n := fld (r.word 3) 12 0; 1 ≤ n ∧ n ≤ 4096 ∧ fld (r.word 2) 2 0 = 0 ∧ bit (r.word 0) 17 = false ∧ bufferFault .timeout d ch r = none)) ∧
    (∃ ch : Nat, ∃ r : Req, ∃ s : State, ∃ d : Dev, ∃ st, cmdWf ch r = true ∧ Accepted spec0520 ch r s.dev d ∧ (let n := fld (r.word 3) 12 0; 1 ≤ n ∧ n ≤ 4096 ∧ fld (r.word 2) 2 0 = 0 ∧ bit (r.word 0) 17 = false ∧ (let all := mergedView ((ownLearned d).filter (fun l => bit (r.word 0) 16 || l.segment == fld (r.word 0) 15 0)); let es := (all.drop (fld (r.word 1) 31 0)).take n; bufferFault .timeout d ch r = some st ∧ es = []))) ∧
    (∃ ch : Nat, ∃ r : Req, ∃ s : State, ∃ d : Dev, ∃ st, cmdWf ch r = true ∧ Accepted spec0520 ch r s.dev d ∧ (let n := fld (r.word 3) 12 0; 1 ≤ n ∧ n ≤ 4096 ∧ fld (r.word 2) 2 0 = 0 ∧ bit (r.word 0) 17 = false ∧ (let all := mergedView ((ownLearned d).filter (fun l => bit (r.word 0) 16 || l.segment == fld (r.word 0) 15 0)); let es := (all.drop (fld (r.word 1) 31 0)).take n; bufferFault .timeout d ch r = some st ∧ es ≠ []))) := by
  refine ⟨?_, ?_, ?_, ?_, ?_, ?_, ?_, ?_, ?_, ?_, ?_, ?_, ?_, ?_, ?_, ?_, ?_, ?_, ?_, ?_⟩
  · let k : Nat := 3
    let s : State := noSeg
    let e : LearnEvent := ev
    let rest : List LearnEvent := []
    exact ⟨k, s, e, rest, by decide +kernel⟩
  · let k : Nat := 3
    let s : State := LD [other 1, other 2]
    let e : LearnEvent := ev
    let rest : List LearnEvent := []
    exact ⟨k, s, e, rest, by decide +kernel⟩
  · let k : Nat := 3
    let s : State := LD []
    let e : LearnEvent := ev
    let rest : List LearnEvent := []
    exact ⟨k, s, e, rest, by decide +kernel⟩
  · let k : Nat := 3
    let s : State := LD [le]
    let e : LearnEvent := ev
    let rest : List LearnEvent := []
    exact ⟨k, s, e, rest, (le), by decide +kernel⟩
  · let k : Nat := 3
    let s : State := LD [{ le with port := 9 }, other 1, other 2]
    let e : LearnEvent := ev
    let rest : List LearnEvent := []
    exact ⟨k, s, e, rest, ({ le with port := 9 }), by decide +kernel⟩
  · let k : Nat := 3
    let s : State := LD [{ le with port := 9, flapping := true, holdEnd := 5000 }]
    let e : LearnEvent := ev
    let rest : List LearnEvent := []
    exact ⟨k, s, e, rest, ({ le with port := 9, flapping := true, holdEnd := 5000 }), by decide +kernel⟩
  · let k : Nat := 3
    let s : State := LD [{ le with port := 9, moves := [50] }]
    let e : LearnEvent := ev
    let rest : List LearnEvent := []
    exact ⟨k, s, e, rest, ({ le with port := 9, moves := [50] }), by decide +kernel⟩
  · let k : Nat := 3
    let s : State := LD [{ le with port := 9, moves := [50, 60] }]
    let e : LearnEvent := ev
    let rest : List LearnEvent := []
    exact ⟨k, s, e, rest, ({ le with port := 9, moves := [50, 60] }), by decide +kernel⟩
  · let k : Nat := 3
    let s : State := st up
    exact ⟨k, s, by decide +kernel⟩
  · let k : Nat := 3
    let seg : Nat := 5
    let mac : BitVec 48 := LearnedEntriesW.mac
    let s : State := LD [{ le with flapping := true, holdEnd := 5000 }]
    exact ⟨k, seg, mac, s, ({ le with flapping := true, holdEnd := 5000 }), by decide +kernel⟩
  · let k : Nat := 3
    let seg : Nat := 5
    let mac : BitVec 48 := LearnedEntriesW.mac
    let s : State := LD [le]
    exact ⟨k, seg, mac, s, by decide +kernel⟩
  · let s : State := st ({ l2 D0 with now := 20000000000 })
    exact by decide +kernel
  · let ch : Nat := 4096
    let r : Req := rq [5]
    let s : State := st (l2 D0)
    let d : Dev := tk spec0521 r s.dev
    exact ⟨ch, r, s, d, by decide +kernel, ⟨(by decide +kernel), (by decide +kernel), rfl, (by decide +kernel)⟩⟩
  · let a : Learned := { le with port := 1 }
    let b : Learned := le
    exact ⟨a, b, by decide +kernel⟩
  · let a : Learned := { le with node := 0 }
    let b : Learned := { le with node := 3 }
    exact ⟨a, b, by decide +kernel⟩
  · let a : Learned := { le with lastTime := 101 }
    let b : Learned := le
    exact ⟨a, b, by decide +kernel⟩
  · let ch : Nat := 4096
    let r : Req := rqi [5, 0, 0x3000, 4097]
    let s : State := st (l2 D0)
    let d : Dev := tk spec0520 r s.dev
    exact ⟨ch, r, s, d, by decide +kernel, ⟨(by decide +kernel), (by decide +kernel), rfl, (by decide +kernel)⟩, by decide +kernel⟩
  · let ch : Nat := 4096
    let r : Req := rqi [5, 0, 0x3000, 2]
    let s : State := st (l2 D0)
    let d : Dev := tk spec0520 r s.dev
    exact ⟨ch, r, s, d, by decide +kernel, ⟨(by decide +kernel), (by decide +kernel), rfl, (by decide +kernel)⟩, by decide +kernel⟩
  · let ch : Nat := 4096
    let r : Req := { rqi [9, 0, 0x3000, 2] with host := ⟨true, true, false, [9, 0, 0x3000, 2]⟩ }
    let s : State := st (l2 D0)
    let d : Dev := tk spec0520 r s.dev
    let st := (bufferFault .timeout d ch r).getD .ok
    exact ⟨ch, r, s, d, st, by decide +kernel, ⟨(by decide +kernel), (by decide +kernel), rfl, (by decide +kernel)⟩, by decide +kernel⟩
  · let ch : Nat := 4096
    let r : Req := { rqi [5, 0, 0x3000, 2] with host := ⟨true, true, false, [5, 0, 0x3000, 2]⟩ }
    let s : State := st (l2 D0)
    let d : Dev := tk spec0520 r s.dev
    let st := (bufferFault .timeout d ch r).getD .ok
    exact ⟨ch, r, s, d, st, by decide +kernel, ⟨(by decide +kernel), (by decide +kernel), rfl, (by decide +kernel)⟩, by decide +kernel⟩

end LearnedEntriesW

namespace TableCommandsW

def tdf (e : Nat) : TableDef := ⟨1, 0, e⟩
def onK (k : Nat) (e : Nat) (d : Dev) : Dev := onRules k (fun r => { r with tables := SMap.put TableDef.none r.tables 3 (tdf e), profiles := [(0, ⟨3, [66]⟩)], plans := [(0, ⟨true, [0], ⟨9, 0⟩⟩)], segments := [(5, ⟨true, 5 + (1 <<< 16) + (3 <<< 17), 2 + (10 <<< 16) + (2 <<< 28) + (100 <<< 32)⟩)] }) d
def D0 : Dev := onK 0 0 up
def bld1 (e : Nat) : Dev := (onK 0 e up).setSlot 1 { ((onK 0 e up).slot 0) with state := .building, version := 1 }
def A1 : Action := ⟨1 + (5 <<< 22), 0⟩
def pe (k t : Nat) (key : List Byte) (a : Action) (d : Dev) : Dev := (putEntry k t key a d).getD up
def frm : List Byte := [2,2,3,4,5,6,6,8,9,10,11,12,0x08,0x00] ++ List.replicate 60 0x45
def pk : Pkt := Pkt.fresh (newTag up 3 7 0 frm) frm
def bp : Pkt := { pk with ps := { pk.ps with bound := true, segment := some 5 } }
def B : Dev := onRules 1 (fun r => { r with tables := SMap.put TableDef.none r.tables 14 ⟨7, 0, 0⟩ }) (bld1 0)
def cm : Commit := { version := 1, stage := .token, acked := [], latest := 0, failed := none, tAct := 0, rollForward := false, job := none }
def CD : Dev := { up with str := { up.str with commit := some cm } }
def fullB : Dev := { B with rules := { B.rules with tables := SMap.put TablePlaces.empty B.rules.tables 14 { TablePlaces.empty with stash := (List.range 64).map (fun i => (i, some { key := [1], act := A1, vfrom := 0, vto := 0, isOpen := true })) } } }
def BT : Dev := pe 1 3 [7] A1 B
def BR : Dev := (addRoute false 1 (BitVec.ofNat 128 0x0A000000) 8 ⟨9, 0⟩ 1 B).getD up

/-- States and operands that meet the hypotheses of `Obligations.TableCommands`, one part for each of its 34 cases that have hypotheses; in a part a hypothesis is left out that rests on an opaque value of Config or on a table too large to evaluate. -/
theorem witness_TableCommands :
    (∃ ch : Nat, ∃ r : Req, ∃ s : State, ∃ d : Dev, ∃ c : Instr, ∃ sp : CmdSpec, cmdWf ch r = true ∧ (c, sp) ∈ [(Instr.tableDefine ch r, spec0510), (.keyProfile ch r, spec0511), (.planSet ch r, spec0512), (.tableInsert ch r, spec0513), (.tableDelete ch r, spec0514), (.segmentSet ch r, spec0516), (.portBind ch r, spec0517), (.l2Static ch r, spec0518), (.routeSet ch r, spec0519)] ∧ d.buildSlot (reqVersion r) = none ∧ d.committing (reqVersion r) = false ∧ Accepted sp ch r s.dev d) ∧
    (∃ ch : Nat, ∃ r : Req, ∃ s : State, ∃ d : Dev, ∃ c : Instr, ∃ sp : CmdSpec, cmdWf ch r = true ∧ (c, sp) ∈ [(Instr.tableDefine ch r, spec0510), (.keyProfile ch r, spec0511), (.planSet ch r, spec0512), (.tableInsert ch r, spec0513), (.tableDelete ch r, spec0514), (.segmentSet ch r, spec0516), (.portBind ch r, spec0517), (.l2Static ch r, spec0518), (.routeSet ch r, spec0519)] ∧ d.committing (reqVersion r) = true ∧ Accepted sp ch r s.dev d) ∧
    (∃ ch : Nat, ∃ r : Req, ∃ s : State, ∃ d : Dev, ∃ k : Nat, cmdWf ch r = true ∧ Builds (reqVersion r) k d ∧ Accepted spec0510 ch r s.dev d ∧ (let t := fld (r.word 1) 3 0; let kb := fld (r.word 1) 9 4; let ext := fld (r.word 2) 4 0; (kb = 0 ∨ 40 < kb ∨ (ext ≠ 0 ∧ ext < 10) ∨ 27 < ext ∨ (t = 14 ∧ kb ≠ 7) ∨ (t = 15 ∧ kb ≠ 8)))) ∧
    (∃ ch : Nat, ∃ r : Req, ∃ s : State, ∃ d : Dev, ∃ k : Nat, cmdWf ch r = true ∧ Builds (reqVersion r) k d ∧ Accepted spec0510 ch r s.dev d ∧ (let v := reqVersion r; let t := fld (r.word 1) 3 0; let kb := fld (r.word 1) 9 4; let ext := fld (r.word 2) 4 0; 1 ≤ kb ∧ kb ≤ 40 ∧ (ext = 0 ∨ (10 ≤ ext ∧ ext ≤ 27)) ∧ ((t = 14 → kb = 7)) ∧ ((t = 15 → kb = 8)) ∧ tableHolds d v t = true)) ∧
    (∃ ch : Nat, ∃ r : Req, ∃ s : State, ∃ d : Dev, ∃ k : Nat, cmdWf ch r = true ∧ Builds (reqVersion r) k d ∧ Accepted spec0510 ch r s.dev d ∧ (let v := reqVersion r; let t := fld (r.word 1) 3 0; let kb := fld (r.word 1) 9 4; let ext := fld (r.word 2) 4 0; let df : TableDef := ⟨kb, fld (r.word 1) 54 32, ext⟩; 1 ≤ kb ∧ kb ≤ 40 ∧ (ext = 0 ∨ (10 ≤ ext ∧ ext ≤ 27)) ∧ ((t = 14 → kb = 7)) ∧ ((t = 15 → kb = 8)) ∧ tableHolds d v t = false ∧ totalsOk d v t df = false)) ∧
    (∃ ch : Nat, ∃ r : Req, ∃ s : State, ∃ d : Dev, ∃ k : Nat, cmdWf ch r = true ∧ Builds (reqVersion r) k d ∧ Accepted spec0510 ch r s.dev d ∧ (let v := reqVersion r; let t := fld (r.word 1) 3 0; let kb := fld (r.word 1) 9 4; let ext := fld (r.word 2) 4 0; let df : TableDef := ⟨kb, fld (r.word 1) 54 32, ext⟩; 1 ≤ kb ∧ kb ≤ 40 ∧ (ext = 0 ∨ (10 ≤ ext ∧ ext ≤ 27)) ∧ ((t = 14 → kb = 7)) ∧ ((t = 15 → kb = 8)) ∧ tableHolds d v t = false ∧ totalsOk d v t df = true)) ∧
    (∃ ch : Nat, ∃ r : Req, ∃ s : State, ∃ d : Dev, ∃ k : Nat, cmdWf ch r = true ∧ Builds (reqVersion r) k d ∧ Accepted spec0511 ch r s.dev d ∧ (let n := fld (r.word 1) 15 12; (n = 0 ∨ 10 < n ∨ 13 < fld (r.word 1) 11 8))) ∧
    (∃ ch : Nat, ∃ r : Req, ∃ s : State, ∃ d : Dev, ∃ k : Nat, cmdWf ch r = true ∧ Builds (reqVersion r) k d ∧ Accepted spec0511 ch r s.dev d ∧ (let n := fld (r.word 1) 15 12; let ps := (List.range n).map (fun i => BitVec.ofNat 16 (fld (r.word (2 + i / 4)) (16 * (i % 4) + 15) (16 * (i % 4)))); 1 ≤ n ∧ n ≤ 10 ∧ fld (r.word 1) 11 8 ≤ 13 ∧ ps.all pieceOk = true)) ∧
    (∃ ch : Nat, ∃ r : Req, ∃ s : State, ∃ d : Dev, ∃ k : Nat, cmdWf ch r = true ∧ Builds (reqVersion r) k d ∧ Accepted spec0512 ch r s.dev d ∧ (let n := fld (r.word 1) 10 8; let miss := actionAt r.words 2; (4 < n ∨ 10 < miss.kind ∨ miss.kind = 0))) ∧
    (∃ ch : Nat, ∃ r : Req, ∃ s : State, ∃ d : Dev, ∃ k : Nat, cmdWf ch r = true ∧ Builds (reqVersion r) k d ∧ Accepted spec0512 ch r s.dev d ∧ (let n := fld (r.word 1) 10 8; let miss := actionAt r.words 2; n ≤ 4 ∧ miss.kind ≤ 10 ∧ miss.kind ≠ 0 ∧ bit miss.a 63 = false)) ∧
    (∃ ch : Nat, ∃ r : Req, ∃ s : State, ∃ d : Dev, ∃ k : Nat, cmdWf ch r = true ∧ Builds (reqVersion r) k d ∧ bit (r.word 1) 16 = true ∧ segmentOk (r.word 1) (r.word 2) = false ∧ Accepted spec0516 ch r s.dev d) ∧
    (∃ ch : Nat, ∃ r : Req, ∃ s : State, ∃ d : Dev, ∃ k : Nat, cmdWf ch r = true ∧ Builds (reqVersion r) k d ∧ (bit (r.word 1) 16 = false ∨ segmentOk (r.word 1) (r.word 2) = true) ∧ Accepted spec0516 ch r s.dev d) ∧
    (∃ ch : Nat, ∃ r : Req, ∃ s : State, ∃ d : Dev, ∃ k : Nat, cmdWf ch r = true ∧ Builds (reqVersion r) k d ∧ Accepted spec0517 ch r s.dev d ∧ (let w := r.word 1; let port := fld w 27 20; (ingressOk port = false ∨ (port ≤ 71 ∧ fld w 39 28 ≠ 0) ∨ fld (r.word 2) 48 46 = 7))) ∧
    (∃ ch : Nat, ∃ r : Req, ∃ s : State, ∃ d : Dev, ∃ k : Nat, ∃ e, cmdWf ch r = true ∧ Builds (reqVersion r) k d ∧ Accepted spec0517 ch r s.dev d ∧ (let w := r.word 1; let port := fld w 27 20; let key := bindKey (fld w 19 0) port (fld w 39 28) (bit w 40) (fld w 52 41); ingressOk port = true ∧ ((port ≤ 71 → fld w 39 28 = 0)) ∧ fld (r.word 2) 48 46 ≤ 6 ∧ bit w 53 = true ∧ putEntry k 14 key ⟨r.word 2, 0⟩ d = some e)) ∧
    (∃ ch : Nat, ∃ r : Req, ∃ s : State, ∃ d : Dev, ∃ k : Nat, cmdWf ch r = true ∧ Builds (reqVersion r) k d ∧ Accepted spec0517 ch r s.dev d ∧ (let w := r.word 1; let port := fld w 27 20; let key := bindKey (fld w 19 0) port (fld w 39 28) (bit w 40) (fld w 52 41); ingressOk port = true ∧ ((port ≤ 71 → fld w 39 28 = 0)) ∧ fld (r.word 2) 48 46 ≤ 6 ∧ bit w 53 = true ∧ putEntry k 14 key ⟨r.word 2, 0⟩ d = none)) ∧
    (∃ ch : Nat, ∃ r : Req, ∃ s : State, ∃ d : Dev, ∃ k : Nat, cmdWf ch r = true ∧ Builds (reqVersion r) k d ∧ Accepted spec0517 ch r s.dev d ∧ (let w := r.word 1; let port := fld w 27 20; ingressOk port = true ∧ ((port ≤ 71 → fld w 39 28 = 0)) ∧ fld (r.word 2) 48 46 ≤ 6 ∧ bit w 53 = false)) ∧
    (∃ ch : Nat, ∃ r : Req, ∃ s : State, ∃ d : Dev, ∃ k : Nat, cmdWf ch r = true ∧ Builds (reqVersion r) k d ∧ Accepted spec0518 ch r s.dev d ∧ (let mac := fld (r.word 1) 47 0; isGroup mac = true)) ∧
    (∃ ch : Nat, ∃ r : Req, ∃ s : State, ∃ d : Dev, ∃ k : Nat, ∃ e, cmdWf ch r = true ∧ Builds (reqVersion r) k d ∧ Accepted spec0518 ch r s.dev d ∧ (let mac := fld (r.word 1) 47 0; let key := macKey (fld (r.word 1) 63 48) mac; isGroup mac = false ∧ bit (r.word 2) 28 = true ∧ putEntry k 15 key ⟨r.word 2, r.word 3⟩ d = some e)) ∧
    (∃ ch : Nat, ∃ r : Req, ∃ s : State, ∃ d : Dev, ∃ k : Nat, cmdWf ch r = true ∧ Builds (reqVersion r) k d ∧ Accepted spec0518 ch r s.dev d ∧ (let mac := fld (r.word 1) 47 0; isGroup mac = false ∧ bit (r.word 2) 28 = false)) ∧
    (∃ ch : Nat, ∃ r : Req, ∃ s : State, ∃ d : Dev, ∃ k : Nat, cmdWf ch r = true ∧ Builds (reqVersion r) k d ∧ Accepted spec0519 ch r s.dev d ∧ (let w := r.word 1; let v6 := bit w 12; let len := fld w 20 13; let a := actionAt r.words 4; routeOk v6 len (r.word 2) (r.word 3) (bit w 21) a = false)) ∧
    (∃ ch : Nat, ∃ r : Req, ∃ s : State, ∃ d : Dev, ∃ k : Nat, ∃ e, cmdWf ch r = true ∧ Builds (reqVersion r) k d ∧ Accepted spec0519 ch r s.dev d ∧ (let w := r.word 1; let v6 := bit w 12; let vrf := fld w 11 0; let len := fld w 20 13; let addr := BitVec.ofNat 128 (if v6 then (r.word 2).toNat * 2 ^ 64 + (r.word 3).toNat else (r.word 2).toNat); let a := actionAt r.words 4; routeOk v6 len (r.word 2) (r.word 3) (bit w 21) a = true ∧ bit w 21 = true ∧ addRoute v6 vrf addr len a k d = some e)) ∧
    (∃ ch : Nat, ∃ r : Req, ∃ s : State, ∃ d : Dev, ∃ k : Nat, cmdWf ch r = true ∧ Builds (reqVersion r) k d ∧ Accepted spec0519 ch r s.dev d ∧ (let w := r.word 1; let v6 := bit w 12; let len := fld w 20 13; let a := actionAt r.words 4; routeOk v6 len (r.word 2) (r.word 3) (bit w 21) a = true ∧ bit w 21 = true)) ∧
    (∃ ch : Nat, ∃ r : Req, ∃ s : State, ∃ d : Dev, ∃ k : Nat, cmdWf ch r = true ∧ Builds (reqVersion r) k d ∧ Accepted spec0519 ch r s.dev d ∧ (let w := r.word 1; let v6 := bit w 12; let vrf := fld w 11 0; let len := fld w 20 13; let addr := BitVec.ofNat 128 (if v6 then (r.word 2).toNat * 2 ^ 64 + (r.word 3).toNat else (r.word 2).toNat); let a := actionAt r.words 4; routeOk v6 len (r.word 2) (r.word 3) (bit w 21) a = true ∧ bit w 21 = false ∧ hasRoute d v6 vrf addr len k = false)) ∧
    (∃ ch : Nat, ∃ r : Req, ∃ s : State, ∃ d : Dev, ∃ k : Nat, cmdWf ch r = true ∧ Builds (reqVersion r) k d ∧ Accepted spec0519 ch r s.dev d ∧ (let w := r.word 1; let v6 := bit w 12; let vrf := fld w 11 0; let len := fld w 20 13; let addr := BitVec.ofNat 128 (if v6 then (r.word 2).toNat * 2 ^ 64 + (r.word 3).toNat else (r.word 2).toNat); let a := actionAt r.words 4; routeOk v6 len (r.word 2) (r.word 3) (bit w 21) a = true ∧ bit w 21 = false ∧ hasRoute d v6 vrf addr len k = true)) ∧
    (∃ ch : Nat, ∃ r : Req, ∃ s : State, ∃ d : Dev, ∃ k : Nat, cmdWf ch r = true ∧ Builds (reqVersion r) k d ∧ Accepted spec0513 ch r s.dev d ∧ (let t := fld (r.word 1) 3 0; let n := fld (r.word 1) 28 16; t ≤ 13 ∧ 1 ≤ n ∧ n ≤ 4096 ∧ (let kb := (RuleSet.tableDef (d.rules' k) t).keyBytes; (kb = 0 ∨ r.payloadLen.toNat ≠ 16 + n * (16 + 8 * keyWords kb) ∨ insertRecords kb n (r.words.drop 2) = none)))) ∧
    (∃ ch : Nat, ∃ r : Req, ∃ s : State, ∃ d : Dev, ∃ k : Nat, ∃ rs, ∃ e, ∃ m, ∃ f, cmdWf ch r = true ∧ Builds (reqVersion r) k d ∧ Accepted spec0513 ch r s.dev d ∧ (let v := reqVersion r; let t := fld (r.word 1) 3 0; let n := fld (r.word 1) 28 16; t ≤ 13 ∧ 1 ≤ n ∧ n ≤ 4096 ∧ (let kb := (RuleSet.tableDef (d.rules' k) t).keyBytes; kb ≠ 0 ∧ r.payloadLen.toNat = 16 + n * (16 + 8 * keyWords kb) ∧ insertRecords kb n (r.words.drop 2) = some rs ∧ insertAll v t (bit (r.word 1) 8) rs 0 d = (e, m, f)))) ∧
    (∃ ch : Nat, ∃ r : Req, ∃ s : State, ∃ d : Dev, ∃ k : Nat, ∃ key, cmdWf ch r = true ∧ Builds (reqVersion r) k d ∧ Accepted spec0514 ch r s.dev d ∧ (let t := fld (r.word 1) 3 0; t ≤ 13 ∧ reqKey r (RuleSet.tableDef (d.rules' k) t).keyBytes = some key ∧ findEntry d k t key = none)) ∧
    (∃ ch : Nat, ∃ r : Req, ∃ s : State, ∃ d : Dev, ∃ k : Nat, ∃ key, cmdWf ch r = true ∧ Builds (reqVersion r) k d ∧ Accepted spec0514 ch r s.dev d ∧ (let t := fld (r.word 1) 3 0; t ≤ 13 ∧ reqKey r (RuleSet.tableDef (d.rules' k) t).keyBytes = some key ∧ findEntry d k t key ≠ none)) ∧
    (∃ ch : Nat, ∃ r : Req, ∃ s : State, ∃ d : Dev, cmdWf ch r = true ∧ Accepted spec0515 ch r s.dev d ∧ (let k := fld (r.word 0) 2 0; (d.slot k).state = .free)) ∧
    (∃ ch : Nat, ∃ r : Req, ∃ s : State, ∃ d : Dev, ∃ key, cmdWf ch r = true ∧ Accepted spec0515 ch r s.dev d ∧ (let k := fld (r.word 0) 2 0; let t := fld (r.word 1) 3 0; (d.slot k).state ≠ .free ∧ reqKey r (RuleSet.tableDef (d.rules' k) t).keyBytes = some key ∧ findEntry d k t key = none)) ∧
    (∃ ch : Nat, ∃ r : Req, ∃ s : State, ∃ d : Dev, ∃ key, ∃ e, ∃ w, cmdWf ch r = true ∧ Accepted spec0515 ch r s.dev d ∧ (let k := fld (r.word 0) 2 0; let t := fld (r.word 1) 3 0; (d.slot k).state ≠ .free ∧ reqKey r (RuleSet.tableDef (d.rules' k) t).keyBytes = some key ∧ (lookup d k t key).hit = some (e, w))) ∧
    (∃ v : Version, ∃ t : Nat, ∃ k : Nat, ∃ replace : Bool, ∃ key : List Byte, ∃ s : Dev, s.buildSlot v = some k ∧ s.rules.buildRecord.length < buildMax ∧ findEntry s k t key ≠ none ∧ replace = false) ∧
    (∃ v : Version, ∃ t : Nat, ∃ k : Nat, ∃ replace : Bool, ∃ a : Action, ∃ key : List Byte, ∃ s : Dev, ∃ e, s.buildSlot v = some k ∧ s.rules.buildRecord.length < buildMax ∧ ((findEntry s k t key = none ∨ replace = true)) ∧ putEntry k t key a s = some e) ∧
    (∃ v : Version, ∃ t : Nat, ∃ k : Nat, ∃ replace : Bool, ∃ a : Action, ∃ key : List Byte, ∃ s : Dev, s.buildSlot v = some k ∧ s.rules.buildRecord.length < buildMax ∧ ((findEntry s k t key = none ∨ replace = true)) ∧ putEntry k t key a s = none) := by
  refine ⟨?_, ?_, ?_, ?_, ?_, ?_, ?_, ?_, ?_, ?_, ?_, ?_, ?_, ?_, ?_, ?_, ?_, ?_, ?_, ?_, ?_, ?_, ?_, ?_, ?_, ?_, ?_, ?_, ?_, ?_, ?_, ?_, ?_, ?_⟩
  · let ch : Nat := 4096
    let r : Req := rq [1, 3 + (1 <<< 4)]
    let s : State := st up
    let d : Dev := tk spec0510 r s.dev
    let c : Instr := Instr.tableDefine ch r
    let sp : CmdSpec := spec0510
    refine ⟨ch, r, s, d, c, sp, ?_⟩
    refine ⟨by decide +kernel, List.Mem.head _, by decide +kernel, by decide +kernel, ⟨by decide +kernel, by decide +kernel, rfl, by decide +kernel⟩⟩
  · let ch : Nat := 4096
    let r : Req := rq [1, 3 + (1 <<< 4)]
    let s : State := st CD
    let d : Dev := tk spec0510 r s.dev
    let c : Instr := Instr.tableDefine ch r
    let sp : CmdSpec := spec0510
    refine ⟨ch, r, s, d, c, sp, ?_⟩
    refine ⟨by decide +kernel, List.Mem.head _, by decide +kernel, ⟨by decide +kernel, by decide +kernel, rfl, by decide +kernel⟩⟩
  · let ch : Nat := 4096
    let r : Req := rq [1, 3 + (41 <<< 4)]
    let s : State := st B
    let d : Dev := tk spec0510 r s.dev
    let k : Nat := 1
    exact ⟨ch, r, s, d, k, by decide +kernel, by delta Builds; decide +kernel, ⟨(by decide +kernel), (by decide +kernel), rfl, (by decide +kernel)⟩, by decide +kernel⟩
  · let ch : Nat := 4096
    let r : Req := rq [1, 3 + (2 <<< 4) + (64 <<< 32), 10]
    let s : State := st BT
    let d : Dev := tk spec0510 r s.dev
    let k : Nat := 1
    exact ⟨ch, r, s, d, k, by decide +kernel, by delta Builds; decide +kernel, ⟨(by decide +kernel), (by decide +kernel), rfl, (by decide +kernel)⟩, by decide +kernel⟩
  · let ch : Nat := 4096
    let r : Req := rq [1, 4 + (2 <<< 4) + (0x7FFFFF <<< 32), 10]
    let s : State := st BT
    let d : Dev := tk spec0510 r s.dev
    let k : Nat := 1
    exact ⟨ch, r, s, d, k, by decide +kernel, by delta Builds; decide +kernel, ⟨(by decide +kernel), (by decide +kernel), rfl, (by decide +kernel)⟩, by decide +kernel⟩
  · let ch : Nat := 4096
    let r : Req := rq [1, 4 + (40 <<< 4) + (64 <<< 32), 10]
    let s : State := st BT
    let d : Dev := tk spec0510 r s.dev
    let k : Nat := 1
    exact ⟨ch, r, s, d, k, by decide +kernel, by delta Builds; decide +kernel, ⟨(by decide +kernel), (by decide +kernel), rfl, (by decide +kernel)⟩, by decide +kernel⟩
  · let ch : Nat := 4096
    let r : Req := rq [1, 5 + (14 <<< 8) + (10 <<< 12)]
    let s : State := st BT
    let d : Dev := tk spec0511 r s.dev
    let k : Nat := 1
    exact ⟨ch, r, s, d, k, by decide +kernel, by delta Builds; decide +kernel, ⟨(by decide +kernel), (by decide +kernel), rfl, (by decide +kernel)⟩, by decide +kernel⟩
  · let ch : Nat := 4096
    let r : Req := rq [1, 5 + (3 <<< 8) + (1 <<< 12), 66]
    let s : State := st BT
    let d : Dev := tk spec0511 r s.dev
    let k : Nat := 1
    exact ⟨ch, r, s, d, k, by decide +kernel, by delta Builds; decide +kernel, ⟨(by decide +kernel), (by decide +kernel), rfl, (by decide +kernel)⟩, by decide +kernel⟩
  · let ch : Nat := 4096
    let r : Req := rq [1, 2 + (5 <<< 8), 9, 0]
    let s : State := st BT
    let d : Dev := tk spec0512 r s.dev
    let k : Nat := 1
    exact ⟨ch, r, s, d, k, by decide +kernel, by delta Builds; decide +kernel, ⟨(by decide +kernel), (by decide +kernel), rfl, (by decide +kernel)⟩, by decide +kernel⟩
  · let ch : Nat := 4096
    let r : Req := rq [1, 2 + (1 <<< 8), 9, 0]
    let s : State := st BT
    let d : Dev := tk spec0512 r s.dev
    let k : Nat := 1
    exact ⟨ch, r, s, d, k, by decide +kernel, by delta Builds; decide +kernel, ⟨(by decide +kernel), (by decide +kernel), rfl, (by decide +kernel)⟩, by decide +kernel⟩
  · let ch : Nat := 4096
    let r : Req := rq [1, 5 + (1 <<< 16), 0]
    let s : State := st BT
    let d : Dev := tk spec0516 r s.dev
    let k : Nat := 1
    exact ⟨ch, r, s, d, k, by decide +kernel, by delta Builds; decide +kernel, by decide +kernel, by decide +kernel, ⟨(by decide +kernel), (by decide +kernel), rfl, (by decide +kernel)⟩⟩
  · let ch : Nat := 4096
    let r : Req := rq [1, 5, 0]
    let s : State := st BT
    let d : Dev := tk spec0516 r s.dev
    let k : Nat := 1
    exact ⟨ch, r, s, d, k, by decide +kernel, by delta Builds; decide +kernel, by decide +kernel, ⟨(by decide +kernel), (by decide +kernel), rfl, (by decide +kernel)⟩⟩
  · let ch : Nat := 4096
    let r : Req := rq [1, 5 + (2 <<< 20) + (1 <<< 28), 0]
    let s : State := st BT
    let d : Dev := tk spec0517 r s.dev
    let k : Nat := 1
    exact ⟨ch, r, s, d, k, by decide +kernel, by delta Builds; decide +kernel, ⟨(by decide +kernel), (by decide +kernel), rfl, (by decide +kernel)⟩, by decide +kernel⟩
  · let ch : Nat := 4096
    let r : Req := rq [1, 5 + (2 <<< 20) + (1 <<< 53), 5 + (3 <<< 16)]
    let s : State := st BT
    let d : Dev := tk spec0517 r s.dev
    let k : Nat := 1
    exact ⟨ch, r, s, d, k, (pe 1 14 (bindKey 5 2 0 false 0) ⟨r.word 2, 0⟩ d), by decide +kernel, by delta Builds; decide +kernel, ⟨(by decide +kernel), (by decide +kernel), rfl, (by decide +kernel)⟩, by decide +kernel⟩
  · let ch : Nat := 4096
    let r : Req := rq [1, 5 + (2 <<< 20) + (1 <<< 53), 5 + (3 <<< 16)]
    let s : State := st fullB
    let d : Dev := tk spec0517 r s.dev
    let k : Nat := 1
    exact ⟨ch, r, s, d, k, by decide +kernel, by delta Builds; decide +kernel, ⟨(by decide +kernel), (by decide +kernel), rfl, (by decide +kernel)⟩, by decide +kernel⟩
  · let ch : Nat := 4096
    let r : Req := rq [1, 5 + (2 <<< 20), 0]
    let s : State := st B
    let d : Dev := tk spec0517 r s.dev
    let k : Nat := 1
    exact ⟨ch, r, s, d, k, by decide +kernel, by delta Builds; decide +kernel, ⟨(by decide +kernel), (by decide +kernel), rfl, (by decide +kernel)⟩, by decide +kernel⟩
  · let ch : Nat := 4096
    let r : Req := rq [1, 0x0005010203040506, 0, 0]
    let s : State := st B
    let d : Dev := tk spec0518 r s.dev
    let k : Nat := 1
    exact ⟨ch, r, s, d, k, by decide +kernel, by delta Builds; decide +kernel, ⟨(by decide +kernel), (by decide +kernel), rfl, (by decide +kernel)⟩, by decide +kernel⟩
  · let ch : Nat := 4096
    let r : Req := rq [1, 0x0005020203040506, 2 + (1 <<< 28), 0]
    let s : State := st B
    let d : Dev := tk spec0518 r s.dev
    let k : Nat := 1
    exact ⟨ch, r, s, d, k, (pe 1 15 (macKey 5 0x020203040506) ⟨r.word 2, r.word 3⟩ d), by decide +kernel, by delta Builds; decide +kernel, ⟨(by decide +kernel), (by decide +kernel), rfl, (by decide +kernel)⟩, by decide +kernel⟩
  · let ch : Nat := 4096
    let r : Req := rq [1, 0x0005020203040506, 0, 0]
    let s : State := st B
    let d : Dev := tk spec0518 r s.dev
    let k : Nat := 1
    exact ⟨ch, r, s, d, k, by decide +kernel, by delta Builds; decide +kernel, ⟨(by decide +kernel), (by decide +kernel), rfl, (by decide +kernel)⟩, by decide +kernel⟩
  · let ch : Nat := 4096
    let r : Req := rq [1, 1 + (33 <<< 13), 0x0A000000, 0, 9, 0]
    let s : State := st B
    let d : Dev := tk spec0519 r s.dev
    let k : Nat := 1
    exact ⟨ch, r, s, d, k, by decide +kernel, by delta Builds; decide +kernel, ⟨(by decide +kernel), (by decide +kernel), rfl, (by decide +kernel)⟩, by decide +kernel⟩
  · let ch : Nat := 4096
    let r : Req := rq [1, 1 + (8 <<< 13) + (1 <<< 21), 0x0A000000, 0, 9, 0]
    let s : State := st B
    let d : Dev := tk spec0519 r s.dev
    let k : Nat := 1
    exact ⟨ch, r, s, d, k, ((addRoute false 1 (BitVec.ofNat 128 0x0A000000) 8 ⟨9, 0⟩ 1 d).getD up), by decide +kernel, by delta Builds; decide +kernel, ⟨(by decide +kernel), (by decide +kernel), rfl, (by decide +kernel)⟩, by decide +kernel⟩
  · let ch : Nat := 4096
    let r : Req := rq [1, 1 + (8 <<< 13) + (1 <<< 21), 0x0A000000, 0, 9, 0]
    let s : State := st B
    let d : Dev := tk spec0519 r s.dev
    let k : Nat := 1
    exact ⟨ch, r, s, d, k, by decide +kernel, by delta Builds; decide +kernel, ⟨(by decide +kernel), (by decide +kernel), rfl, (by decide +kernel)⟩, by decide +kernel⟩
  · let ch : Nat := 4096
    let r : Req := rq [1, 1 + (8 <<< 13), 0x0A000000, 0, 9, 0]
    let s : State := st B
    let d : Dev := tk spec0519 r s.dev
    let k : Nat := 1
    exact ⟨ch, r, s, d, k, by decide +kernel, by delta Builds; decide +kernel, ⟨(by decide +kernel), (by decide +kernel), rfl, (by decide +kernel)⟩, by decide +kernel⟩
  · let ch : Nat := 4096
    let r : Req := rq [1, 1 + (8 <<< 13), 0x0A000000, 0, 9, 0]
    let s : State := st BR
    let d : Dev := tk spec0519 r s.dev
    let k : Nat := 1
    exact ⟨ch, r, s, d, k, by decide +kernel, by delta Builds; decide +kernel, ⟨(by decide +kernel), (by decide +kernel), rfl, (by decide +kernel)⟩, by decide +kernel⟩
  · let ch : Nat := 4096
    let r : Req := rqi [1, 5 + (1 <<< 16), 9, 0, 7]
    let s : State := st B
    let d : Dev := tk spec0513 r s.dev
    let k : Nat := 1
    exact ⟨ch, r, s, d, k, by decide +kernel, by delta Builds; decide +kernel, ⟨(by decide +kernel), (by decide +kernel), rfl, (by decide +kernel)⟩, by decide +kernel⟩
  · let ch : Nat := 4096
    let r : Req := rqi [1, 3 + (1 <<< 16), 9, 0, 7]
    let s : State := st B
    let d : Dev := tk spec0513 r s.dev
    let k : Nat := 1
    exact ⟨ch, r, s, d, k, ((insertRecords 1 1 (r.words.drop 2)).getD []), ((insertAll 1 3 false ((insertRecords 1 1 (r.words.drop 2)).getD []) 0 d).1), ((insertAll 1 3 false ((insertRecords 1 1 (r.words.drop 2)).getD []) 0 d).2.1), ((insertAll 1 3 false ((insertRecords 1 1 (r.words.drop 2)).getD []) 0 d).2.2), by decide +kernel, by delta Builds; decide +kernel, ⟨(by decide +kernel), (by decide +kernel), rfl, (by decide +kernel)⟩, by decide +kernel⟩
  · let ch : Nat := 4096
    let r : Req := rq [1, 3, 8]
    let s : State := st BT
    let d : Dev := tk spec0514 r s.dev
    let k : Nat := 1
    exact ⟨ch, r, s, d, k, ([8]), by decide +kernel, by delta Builds; decide +kernel, ⟨(by decide +kernel), (by decide +kernel), rfl, (by decide +kernel)⟩, by decide +kernel⟩
  · let ch : Nat := 4096
    let r : Req := rq [1, 3, 7]
    let s : State := st BT
    let d : Dev := tk spec0514 r s.dev
    let k : Nat := 1
    exact ⟨ch, r, s, d, k, ([7]), by decide +kernel, by delta Builds; decide +kernel, ⟨(by decide +kernel), (by decide +kernel), rfl, (by decide +kernel)⟩, by decide +kernel⟩
  · let ch : Nat := 4096
    let r : Req := rqi [5, 3, 7]
    let s : State := st BT
    let d : Dev := tk spec0515 r s.dev
    exact ⟨ch, r, s, d, by decide +kernel, ⟨(by decide +kernel), (by decide +kernel), rfl, (by decide +kernel)⟩, by decide +kernel⟩
  · let ch : Nat := 4096
    let r : Req := rqi [1, 3, 8]
    let s : State := st BT
    let d : Dev := tk spec0515 r s.dev
    exact ⟨ch, r, s, d, ([8]), by decide +kernel, ⟨(by decide +kernel), (by decide +kernel), rfl, (by decide +kernel)⟩, by decide +kernel⟩
  · let ch : Nat := 4096
    let r : Req := rqi [1, 3, 7]
    let s : State := st BT
    let d : Dev := tk spec0515 r s.dev
    exact ⟨ch, r, s, d, ([7]), (((lookup d 1 3 [7]).hit.getD (⟨[], A1, 0, 0, false⟩, 9)).1), (((lookup d 1 3 [7]).hit.getD (⟨[], A1, 0, 0, false⟩, 9)).2), by decide +kernel, ⟨(by decide +kernel), (by decide +kernel), rfl, (by decide +kernel)⟩, by decide +kernel⟩
  · let v : Version := 1
    let t : Nat := 3
    let k : Nat := 1
    let replace : Bool := false
    let a : Action := A1
    let key : List Byte := [7]
    let rest : List (Action × List Byte) := []
    let n : Nat := 0
    let s : Dev := BT
    exact ⟨v, t, k, replace, key, s, by decide +kernel⟩
  · let v : Version := 1
    let t : Nat := 3
    let k : Nat := 1
    let replace : Bool := false
    let a : Action := A1
    let key : List Byte := [9]
    let rest : List (Action × List Byte) := []
    let n : Nat := 0
    let s : Dev := BT
    exact ⟨v, t, k, replace, a, key, s, (pe 1 3 [9] A1 BT), by decide +kernel⟩
  · let v : Version := 1
    let t : Nat := 14
    let k : Nat := 1
    let replace : Bool := false
    let a : Action := A1
    let key : List Byte := [1,2,3,4,5,6,7]
    let rest : List (Action × List Byte) := []
    let n : Nat := 0
    let s : Dev := fullB
    exact ⟨v, t, k, replace, a, key, s, by decide +kernel⟩

end TableCommandsW

namespace RegisterInstructionsW

def ac : Slice := { Slice.free with state := .active, pasid := 5, profile := { Profile.slice0 with queuePairs := 16, vectors := 8, threads := 8 } }
def frm : List Byte := [2,2,3,4,5,6,6,8,9,10,11,12,0x08,0x00] ++ List.replicate 60 0x45
def pk : Pkt := Pkt.fresh (newTag up 3 7 0 frm) frm
def grp : Group := { slice := 3, handle := 2, threads := [9, 10], leaving := [], map := [9, 10], tickUs := 100, stateMib := 1, maxCycles := 1000000, created := 0, mem := [(16, 5), (17, 1)], poisoned := [], cured := [] }
def img : ActImage := { slice := 3, imageId := 77, entry := 0, code := List.replicate 30 0 }
def th : Thread := { Thread.free with state := .ready, group := 7, pc := 5, g := [(1, 0x8000000000000005), (2, 3), (3, 0xFFFFFFFFFFFFFFFF), (4, 16), (5, 0xABCD), (6, 100), (7, 1), (8, 2)], scratch := [(8, 0xAA), (9, 0xBB)] }
def TD (x : Thread) : Dev := let d := up.setSlice 3 ac; { d with act := { d.act with images := [(2, some img)], groups := [(7, some grp)], threads := [(9, x), (10, { th with pc := 0 })] } }
def T (x : Thread) : State := st (TD x)

/-- States and operands that meet the hypotheses of `Obligations.RegisterInstructions`, one part for each of its 7 cases that have hypotheses. -/
theorem witness_RegisterInstructions :
    (∃ t : Nat, ∃ s1 : BitVec 5, ∃ s : State, (let a := s.dev.reg t s1; a ≠ 0)) ∧
    (∃ n, ∃ k, n < 64 ∧ k < 8) ∧
    (∃ h, ∃ n, h < 4 ∧ n < 64) ∧
    (∃ imm : BitVec 16, imm.toNat % 64 + imm.toNat / 64 % 64 < 64) ∧
    (∃ imm : BitVec 16, ∃ n, imm.toNat % 64 + imm.toNat / 64 % 64 < 64 ∧ n < 64) ∧
    (∃ dst : BitVec 5, ∃ r, r ≠ dst) ∧
    (∃ t : Nat, ∃ u, u ≠ t) := by
  refine ⟨?_, ?_, ?_, ?_, ?_, ?_, ?_⟩
  · let t : Nat := 9
    let dst : BitVec 5 := 5
    let s1 : BitVec 5 := 1
    let s2 : BitVec 5 := 3
    let func : BitVec 11 := 7
    let imm : BitVec 16 := 0xFFF3
    let s : State := T th
    exact ⟨t, s1, s, by decide +kernel⟩
  · let t : Nat := 9
    let dst : BitVec 5 := 5
    let s1 : BitVec 5 := 1
    let s2 : BitVec 5 := 3
    let func : BitVec 11 := 7
    let imm : BitVec 16 := 0xFFF3
    let s : State := T th
    let n := 13
    exact ⟨n, (3), by decide +kernel⟩
  · let t : Nat := 9
    let dst : BitVec 5 := 5
    let s1 : BitVec 5 := 1
    let s2 : BitVec 5 := 3
    let func : BitVec 11 := 7
    let imm : BitVec 16 := 0xFFF3
    let s : State := T th
    let n := 37
    exact ⟨(2), n, by decide +kernel⟩
  · let t : Nat := 9
    let dst : BitVec 5 := 5
    let s1 : BitVec 5 := 1
    let s2 : BitVec 5 := 3
    let func : BitVec 11 := 7
    let imm : BitVec 16 := BitVec.ofNat 16 (8 + 15 * 64)
    let s : State := T th
    exact ⟨imm, by decide +kernel⟩
  · let t : Nat := 9
    let dst : BitVec 5 := 5
    let s1 : BitVec 5 := 1
    let s2 : BitVec 5 := 3
    let func : BitVec 11 := 7
    let imm : BitVec 16 := BitVec.ofNat 16 (8 + 15 * 64)
    let s : State := T th
    let n := 12
    exact ⟨imm, n, by decide +kernel⟩
  · let t : Nat := 9
    let dst : BitVec 5 := 5
    let s1 : BitVec 5 := 1
    let s2 : BitVec 5 := 3
    let func : BitVec 11 := 7
    let imm : BitVec 16 := BitVec.ofNat 16 (8 + 15 * 64)
    let s : State := T th
    let d : Dev := TD th
    let x : W64 := 77
    exact ⟨dst, (3), by decide +kernel⟩
  · let t : Nat := 9
    let dst : BitVec 5 := 5
    let s1 : BitVec 5 := 1
    let s2 : BitVec 5 := 3
    let func : BitVec 11 := 7
    let imm : BitVec 16 := BitVec.ofNat 16 (8 + 15 * 64)
    let s : State := T th
    let d : Dev := TD th
    let x : W64 := 77
    exact ⟨t, (10), by decide +kernel⟩

end RegisterInstructionsW

namespace ControlInstructionsW

def ac : Slice := { Slice.free with state := .active, pasid := 5, profile := { Profile.slice0 with queuePairs := 16, vectors := 8, threads := 8 } }
def frm : List Byte := [2,2,3,4,5,6,6,8,9,10,11,12,0x08,0x00] ++ List.replicate 60 0x45
def pk : Pkt := Pkt.fresh (newTag up 3 7 0 frm) frm
def grp : Group := { slice := 3, handle := 2, threads := [9, 10], leaving := [], map := [9, 10], tickUs := 100, stateMib := 1, maxCycles := 1000000, created := 0, mem := [(16, 5), (17, 1)], poisoned := [], cured := [] }
def img : ActImage := { slice := 3, imageId := 77, entry := 0, code := List.replicate 30 0 }
def th : Thread := { Thread.free with state := .ready, group := 7, pc := 5, g := [(1, 0x8000000000000005), (2, 3), (3, 0xFFFFFFFFFFFFFFFF), (4, 16), (5, 0xABCD), (6, 100), (7, 1), (8, 2)], scratch := [(8, 0xAA), (9, 0xBB)] }
def TD (x : Thread) : Dev := let d := up.setSlice 3 ac; { d with act := { d.act with images := [(2, some img)], groups := [(7, some grp)], threads := [(9, x), (10, { th with pc := 0 })] } }
def T (x : Thread) : State := st (TD x)
def wt : Thread := { th with state := .waiting, waitMask := 8, waitDst := 4, latched := 8 }

/-- States and operands that meet the hypotheses of `Obligations.ControlInstructions`, one part for each of its 11 cases that have hypotheses. -/
theorem witness_ControlInstructions :
    (∃ t : Nat, ∃ s1 : BitVec 5, ∃ imm : BitVec 16, ∃ s : State, ∃ im, (let a := s.dev.reg t s1; s.dev.threadImage t = some im ∧ (a + imm.signExtend 64).toNat < im.code.length)) ∧
    (∃ t : Nat, ∃ s1 : BitVec 5, ∃ imm : BitVec 16, ∃ s : State, ∃ im, (let a := s.dev.reg t s1; s.dev.threadImage t = some im ∧ im.code.length ≤ (a + imm.signExtend 64).toNat)) ∧
    (∃ imm : BitVec 16, imm = 0) ∧
    (∃ t : Nat, ∃ imm : BitVec 16, ∃ s : State, (let e := eventWord s.dev t; e &&& imm ≠ 0)) ∧
    (∃ t : Nat, ∃ imm : BitVec 16, ∃ s : State, (let e := eventWord s.dev t; imm ≠ 0 ∧ e &&& imm = 0)) ∧
    (∃ t : Nat, ∃ s : State, (let e := eventWord s.dev t; t < 512 ∧ (s.dev.thread t).state = .waiting ∧ e &&& (s.dev.thread t).waitMask ≠ 0)) ∧
    (∃ t : Nat, ∃ s : State, (let e := eventWord s.dev t; t < 512 ∧ (s.dev.thread t).state = .waiting ∧ e &&& (s.dev.thread t).waitMask = 0)) ∧
    (∃ s : State, ∃ n, ∃ g, n < 1024 ∧ s.dev.group n = some g ∧ g.tickUs ≠ 0) ∧
    (∃ s : State, ∃ n, ∃ g, n < 1024 ∧ s.dev.group n = some g ∧ g.tickUs ≠ 0 ∧ g.tickUs ≤ 65535) ∧
    (∃ s : State, ∃ c, c < 64 ∧ deadlocked s.dev c = true) ∧
    (∃ s : State, ∃ c, c < 64 ∧ deadlocked s.dev c = false) := by
  refine ⟨?_, ?_, ?_, ?_, ?_, ?_, ?_, ?_, ?_, ?_, ?_⟩
  · let t : Nat := 9
    let dst : BitVec 5 := 5
    let s1 : BitVec 5 := 2
    let s2 : BitVec 5 := 3
    let imm : BitVec 16 := 3
    let off : BitVec 21 := 2
    let s : State := T { th with latched := 0x28 }
    exact ⟨t, s1, imm, s, (img), by decide +kernel⟩
  · let t : Nat := 9
    let dst : BitVec 5 := 5
    let s1 : BitVec 5 := 2
    let s2 : BitVec 5 := 3
    let imm : BitVec 16 := 300
    let off : BitVec 21 := 2
    let s : State := T { th with latched := 0x28 }
    exact ⟨t, s1, imm, s, (img), by decide +kernel⟩
  · let t : Nat := 9
    let dst : BitVec 5 := 5
    let s1 : BitVec 5 := 2
    let s2 : BitVec 5 := 3
    let imm : BitVec 16 := 0
    let off : BitVec 21 := 2
    let s : State := T { th with latched := 0x28 }
    exact ⟨imm, by decide +kernel⟩
  · let t : Nat := 9
    let dst : BitVec 5 := 5
    let s1 : BitVec 5 := 2
    let s2 : BitVec 5 := 3
    let imm : BitVec 16 := 8
    let off : BitVec 21 := 2
    let s : State := T { th with latched := 0x28 }
    exact ⟨t, imm, s, by decide +kernel⟩
  · let t : Nat := 9
    let dst : BitVec 5 := 5
    let s1 : BitVec 5 := 2
    let s2 : BitVec 5 := 3
    let imm : BitVec 16 := 2
    let off : BitVec 21 := 2
    let s : State := T { th with latched := 0x28 }
    exact ⟨t, imm, s, by decide +kernel⟩
  · let t : Nat := 9
    let dst : BitVec 5 := 5
    let s1 : BitVec 5 := 2
    let s2 : BitVec 5 := 3
    let imm : BitVec 16 := 2
    let off : BitVec 21 := 2
    let s : State := T wt
    exact ⟨t, s, by decide +kernel⟩
  · let t : Nat := 9
    let dst : BitVec 5 := 5
    let s1 : BitVec 5 := 2
    let s2 : BitVec 5 := 3
    let imm : BitVec 16 := 2
    let off : BitVec 21 := 2
    let s : State := T { wt with latched := 0 }
    exact ⟨t, s, by decide +kernel⟩
  · let t : Nat := 9
    let dst : BitVec 5 := 5
    let s1 : BitVec 5 := 2
    let s2 : BitVec 5 := 3
    let imm : BitVec 16 := 2
    let off : BitVec 21 := 2
    let s : State := T { wt with latched := 0 }
    let n := 7
    exact ⟨s, n, (grp), by decide +kernel⟩
  · let t : Nat := 9
    let dst : BitVec 5 := 5
    let s1 : BitVec 5 := 2
    let s2 : BitVec 5 := 3
    let imm : BitVec 16 := 2
    let off : BitVec 21 := 2
    let s : State := T th
    let n := 7
    exact ⟨s, n, (grp), by decide +kernel⟩
  · let t : Nat := 9
    let dst : BitVec 5 := 5
    let s1 : BitVec 5 := 2
    let s2 : BitVec 5 := 3
    let imm : BitVec 16 := 2
    let off : BitVec 21 := 2
    let s : State := st ((TD { wt with latched := 0 }).setThread 10 { wt with latched := 0 } |> fun d => { d with act := { d.act with groups := [(7, some { grp with tickUs := 0 })] } })
    exact ⟨s, (1), by decide +kernel⟩
  · let t : Nat := 9
    let dst : BitVec 5 := 5
    let s1 : BitVec 5 := 2
    let s2 : BitVec 5 := 3
    let imm : BitVec 16 := 2
    let off : BitVec 21 := 2
    let s : State := T th
    exact ⟨s, (1), by decide +kernel⟩

end ControlInstructionsW

namespace MemoryInstructionsW

def ac : Slice := { Slice.free with state := .active, pasid := 5, profile := { Profile.slice0 with queuePairs := 16, vectors := 8, threads := 8 } }
def frm : List Byte := [2,2,3,4,5,6,6,8,9,10,11,12,0x08,0x00] ++ List.replicate 60 0x45
def pk : Pkt := Pkt.fresh (newTag up 3 7 0 frm) frm
def grp : Group := { slice := 3, handle := 2, threads := [9, 10], leaving := [], map := [9, 10], tickUs := 100, stateMib := 1, maxCycles := 1000000, created := 0, mem := [(16, 5), (17, 1)], poisoned := [], cured := [] }
def img : ActImage := { slice := 3, imageId := 77, entry := 0, code := List.replicate 30 0 }
def th : Thread := { Thread.free with state := .ready, group := 7, pc := 5, g := [(1, 0x8000000000000005), (2, 3), (3, 0xFFFFFFFFFFFFFFFF), (4, 16), (5, 0xABCD), (6, 100), (7, 1), (8, 2)], scratch := [(8, 0xAA), (9, 0xBB)] }
def TD (x : Thread) : Dev := let d := up.setSlice 3 ac; { d with act := { d.act with images := [(2, some img)], groups := [(7, some grp)], threads := [(9, x), (10, { th with pc := 0 })] } }
def T (x : Thread) : State := st (TD x)
def sd (w : Stall) : Thread := { th with state := .stalled, stall := some w, held := some pk }
def atq (a : W64) : Thread := { th with g := SMap.put 0 th.g 4 a }
def tdf (e : Nat) : TableDef := ⟨2, 8192, e⟩
def onK (e : Nat) (d : Dev) : Dev := onRules 0 (fun r => { r with tables := SMap.put TableDef.none r.tables 3 (tdf e), programs := [(0, ⟨true, 3 * 4096 + (77 <<< 32), 0xFF⟩)] }) d
def E0 (e : Nat) (d : Dev) : Dev := (putEntry 0 3 [0xAB, 0xCD] ⟨9, 5⟩ (onK e d)).getD up
def extE (d : Dev) : Dev := let d := onK 10 d; { d with rules := { d.rules with tables := [(3, { TablePlaces.empty with ext := [(77, some { key := [9], act := ⟨1, 0⟩, vfrom := 0, vto := 0, isOpen := true })] })] } }
def psn (s : State) : State := st ((TD { th with held := none } |> fun d => d.setGroup 7 (some { grp with poisoned := [2] })))
def oneK (d : Dev) : Dev := onRules 0 (fun r => { r with tables := SMap.put TableDef.none r.tables 3 ⟨2, 8, 3⟩, programs := [(0, ⟨true, 3 * 4096 + (77 <<< 32), 0xFF⟩)] }) d
def oneB : Dev := let d := oneK (TD (sd (.table 5 3 [9] 0))); { d with mem := { d.mem with poisoned := [bucketLine 3 0] } }
def oneP : Dev := let d := oneK (TD th); { d with rules := { d.rules with badEntries := [(3, 2, d.now)] } }
theorem badPlace_one {s : Dev} {t : Nat} {d : TableDef} {key : List Byte} {p : Nat} (h : d.onchip / 8 = 1) (hp : [0, 1, 2, 3, 4, 5, 6, 7].find? (fun p => s.rules.badEntries.any (fun e => e.1 == t && e.2.1 == p)) = some p) : badPlace s t d key = some p := by
  simp only [badPlace, onchipPlaces, placesOf, h, Nat.mod_one]
  exact hp
theorem badBucket_one {s : Dev} {t : Nat} {d : TableDef} {key : List Byte} (h : 2 ^ d.extLog2 / 8 = 1) (h0 : d.extLog2 ≠ 0) (hp : s.mem.poisoned = [bucketLine t 0]) : badBucket s t d key = some 0 := by
  simp only [badBucket, extBuckets, extPlaces, placesOf, h, h0, if_false, Nat.mod_one, hp]
  simp [List.eraseDups, List.eraseDupsBy, List.eraseDupsBy.loop]

/-- States and operands that meet the hypotheses of `Obligations.MemoryInstructions`, one part for each of its 28 cases that have hypotheses. -/
theorem witness_MemoryInstructions :
    (∃ t : Nat, ∃ s1 : BitVec 5, ∃ imm : BitVec 16, ∃ s : State, (let n := 2 ^ (imm.toNat / 2 ^ 14); let a := (s.dev.reg t s1 + BitVec.ofNat 64 (imm.toNat % 4096)).toNat; 4096 < a + n)) ∧
    (∃ t : Nat, ∃ s1 : BitVec 5, ∃ imm : BitVec 16, ∃ s : State, (let n := 2 ^ (imm.toNat / 2 ^ 14); let a := (s.dev.reg t s1 + BitVec.ofNat 64 (imm.toNat % 4096)).toNat; a + n ≤ 4096 ∧ a % n ≠ 0)) ∧
    (∃ t : Nat, ∃ s1 : BitVec 5, ∃ imm : BitVec 16, ∃ s : State, (let n := 2 ^ (imm.toNat / 2 ^ 14); let a := (s.dev.reg t s1 + BitVec.ofNat 64 (imm.toNat % 4096)).toNat; a + n ≤ 4096 ∧ a % n = 0)) ∧
    (∃ t : Nat, ∃ s1 : BitVec 5, ∃ imm : BitVec 16, ∃ s : State, (let n := 2 ^ (imm.toNat / 2 ^ 14); let a := (s.dev.reg t s1 + BitVec.ofNat 64 (imm.toNat % 4096)).toNat; a % n ≠ 0)) ∧
    (∃ t : Nat, ∃ s1 : BitVec 5, ∃ imm : BitVec 16, ∃ s : State, (let n := 2 ^ (imm.toNat / 2 ^ 14); let a := (s.dev.reg t s1 + BitVec.ofNat 64 (imm.toNat % 4096)).toNat; let mib := ((s.dev.threadGroup t).map Group.stateMib).getD 0; a % n = 0 ∧ mib * 2 ^ 20 < a + n)) ∧
    (∃ t : Nat, ∃ s1 : BitVec 5, ∃ imm : BitVec 16, ∃ s : State, (let n := 2 ^ (imm.toNat / 2 ^ 14); let a := (s.dev.reg t s1 + BitVec.ofNat 64 (imm.toNat % 4096)).toNat; let mib := ((s.dev.threadGroup t).map Group.stateMib).getD 0; a % n = 0 ∧ a + n ≤ mib * 2 ^ 20)) ∧
    (∃ t : Nat, ∃ dst : BitVec 5, ∃ s1 : BitVec 5, ∃ func : BitVec 11, ∃ s : State, (let b := (s.dev.reg t s1).toNat; let mib := ((s.dev.threadGroup t).map Group.stateMib).getD 0; b % 8 = 0 ∧ b + 8 ≤ mib * 2 ^ 20 ∧ ((dst ≠ 0 ∨ func = 1 ∨ func = 2)))) ∧
    (∃ t : Nat, ∃ dst : BitVec 5, ∃ s1 : BitVec 5, ∃ func : BitVec 11, ∃ s : State, (let b := (s.dev.reg t s1).toNat; let mib := ((s.dev.threadGroup t).map Group.stateMib).getD 0; b % 8 = 0 ∧ b + 8 ≤ mib * 2 ^ 20 ∧ dst = 0 ∧ func ≠ 1 ∧ func ≠ 2 ∧ statePoisoned s.dev t b = false)) ∧
    (∃ t : Nat, ∃ dst : BitVec 5, ∃ s1 : BitVec 5, ∃ func : BitVec 11, ∃ s : State, (let b := (s.dev.reg t s1).toNat; let mib := ((s.dev.threadGroup t).map Group.stateMib).getD 0; b % 8 = 0 ∧ b + 8 ≤ mib * 2 ^ 20 ∧ dst = 0 ∧ func ≠ 1 ∧ func ≠ 2 ∧ statePoisoned s.dev t b = true)) ∧
    (∃ t : Nat, ∃ s1 : BitVec 5, ∃ s : State, (let b := (s.dev.reg t s1).toNat; let mib := ((s.dev.threadGroup t).map Group.stateMib).getD 0; b % 8 = 0 ∧ mib * 2 ^ 20 < b + 8)) ∧
    (∃ t : Nat, ∃ s1 : BitVec 5, ∃ s : State, (let b := (s.dev.reg t s1).toNat; b % 8 ≠ 0)) ∧
    (∃ t : Nat, ∃ s : State, ∃ poisoned, ∃ r, ∃ m, ∃ k, (let x := s.dev.thread t; t < 512 ∧ x.state = .stalled ∧ x.stall = some (.load r m k) ∧ (poisoned || statePoisoned s.dev t m) = false)) ∧
    (∃ t : Nat, ∃ s : State, ∃ poisoned, ∃ r, ∃ m, ∃ k, (let x := s.dev.thread t; t < 512 ∧ x.state = .stalled ∧ x.stall = some (.load r m k) ∧ (poisoned || statePoisoned s.dev t m) = true)) ∧
    (∃ t : Nat, ∃ s : State, ∃ poisoned, ∃ r, ∃ m, ∃ f, ∃ v, ∃ w, (let x := s.dev.thread t; t < 512 ∧ x.state = .stalled ∧ x.stall = some (.atomic r m f v w) ∧ (poisoned || statePoisoned s.dev t m) = false)) ∧
    (∃ t : Nat, ∃ s : State, ∃ poisoned, ∃ r, ∃ m, ∃ f, ∃ v, ∃ w, (let x := s.dev.thread t; t < 512 ∧ x.state = .stalled ∧ x.stall = some (.atomic r m f v w) ∧ (poisoned || statePoisoned s.dev t m) = true)) ∧
    (∃ t : Nat, ∃ s : State, ∃ poisoned, ∃ r, ∃ table, ∃ key, ∃ k, (let x := s.dev.thread t; t < 512 ∧ x.state = .stalled ∧ x.stall = some (.table r table key k) ∧ badBucket s.dev table (RuleSet.tableDef (s.dev.rules' k) table) key = none ∧ poisoned = false)) ∧
    (∃ t : Nat, ∃ s : State, ∃ poisoned, ∃ r, ∃ table, ∃ key, ∃ k, (let x := s.dev.thread t; t < 512 ∧ x.state = .stalled ∧ x.stall = some (.table r table key k) ∧ badBucket s.dev table (RuleSet.tableDef (s.dev.rules' k) table) key = none ∧ poisoned = true)) ∧
    (∃ t : Nat, ∃ s : State, ∃ r, ∃ table, ∃ key, ∃ k, ∃ u, (let x := s.dev.thread t; t < 512 ∧ x.state = .stalled ∧ x.stall = some (.table r table key k) ∧ badBucket s.dev table (RuleSet.tableDef (s.dev.rules' k) table) key = some u)) ∧
    (∃ t : Nat, ∃ g : Group, ∃ d : Dev, d.threadGroup t = some g) ∧
    (∃ t : Nat, ∃ imm : BitVec 16, ∃ s : State, (let table := imm.toNat % 16; (14 ≤ table ∨ (tlkMask s.dev t).testBit table = false))) ∧
    (∃ t : Nat, ∃ s1 : BitVec 5, ∃ imm : BitVec 16, ∃ s : State, ∃ m, (let table := imm.toNat % 16; let k := tlkSlot s.dev t; let def' := RuleSet.tableDef (s.dev.rules' k) table; let n := def'.keyBytes; let key := tlkKey s.dev t s1.toNat n; table < 14 ∧ (tlkMask s.dev t).testBit table = true ∧ badPlace s.dev table def' key = some m)) ∧
    (∃ t : Nat, ∃ s1 : BitVec 5, ∃ imm : BitVec 16, ∃ s : State, (let table := imm.toNat % 16; let k := tlkSlot s.dev t; let def' := RuleSet.tableDef (s.dev.rules' k) table; let n := def'.keyBytes; let key := tlkKey s.dev t s1.toNat n; let l := lookup s.dev k table key; table < 14 ∧ (tlkMask s.dev t).testBit table = true ∧ badPlace s.dev table def' key = none ∧ l.ext = true)) ∧
    (∃ t : Nat, ∃ s1 : BitVec 5, ∃ imm : BitVec 16, ∃ s : State, (let table := imm.toNat % 16; let k := tlkSlot s.dev t; let def' := RuleSet.tableDef (s.dev.rules' k) table; let n := def'.keyBytes; let key := tlkKey s.dev t s1.toNat n; let l := lookup s.dev k table key; table < 14 ∧ (tlkMask s.dev t).testBit table = true ∧ badPlace s.dev table def' key = none ∧ l.ext = false)) ∧
    (∃ t : Nat, ∃ s : State, ∃ p, (s.dev.thread t).held = some p) ∧
    (∃ t : Nat, ∃ s : State, ∃ p, ∃ m, (s.dev.thread t).held = some p ∧ p.dest = .program m) ∧
    (∃ t : Nat, ∃ s : State, ∃ j, (s.dev.thread t).held = none ∧ s.dev.activeSlot = some j) ∧
    (∃ dst : BitVec 5, dst.toNat ≤ 30 ∧ dst ≠ 0) ∧
    (∃ t : Nat, ∃ s1 : BitVec 5, ∃ imm : BitVec 16, ∃ s : State, ∃ i, (let table := imm.toNat % 16; let k := tlkSlot s.dev t; let def' := RuleSet.tableDef (s.dev.rules' k) table; let n := def'.keyBytes; i < (tlkKey s.dev t s1.toNat n).length ∧ s1.toNat + i / 8 < 32)) := by
  refine ⟨?_, ?_, ?_, ?_, ?_, ?_, ?_, ?_, ?_, ?_, ?_, ?_, ?_, ?_, ?_, ?_, ?_, ?_, ?_, ?_, ?_, ?_, ?_, ?_, ?_, ?_, ?_, ?_⟩
  · let t : Nat := 9
    let dst : BitVec 5 := 5
    let s1 : BitVec 5 := 6
    let s2 : BitVec 5 := 2
    let func : BitVec 11 := 0
    let imm : BitVec 16 := 0xCFF0
    let s : State := T th
    exact ⟨t, s1, imm, s, by decide +kernel⟩
  · let t : Nat := 9
    let dst : BitVec 5 := 5
    let s1 : BitVec 5 := 6
    let s2 : BitVec 5 := 2
    let func : BitVec 11 := 0
    let imm : BitVec 16 := 0xC001
    let s : State := T th
    exact ⟨t, s1, imm, s, by decide +kernel⟩
  · let t : Nat := 9
    let dst : BitVec 5 := 5
    let s1 : BitVec 5 := 6
    let s2 : BitVec 5 := 2
    let func : BitVec 11 := 0
    let imm : BitVec 16 := 0xC004
    let s : State := T th
    exact ⟨t, s1, imm, s, by decide +kernel⟩
  · let t : Nat := 9
    let dst : BitVec 5 := 5
    let s1 : BitVec 5 := 6
    let s2 : BitVec 5 := 2
    let func : BitVec 11 := 0
    let imm : BitVec 16 := 0xC001
    let s : State := T th
    exact ⟨t, s1, imm, s, by decide +kernel⟩
  · let t : Nat := 9
    let dst : BitVec 5 := 5
    let s1 : BitVec 5 := 5
    let s2 : BitVec 5 := 2
    let func : BitVec 11 := 0
    let imm : BitVec 16 := 0x4000
    let s : State := T { th with g := [(5, 0x100000)] }
    exact ⟨t, s1, imm, s, by decide +kernel⟩
  · let t : Nat := 9
    let dst : BitVec 5 := 5
    let s1 : BitVec 5 := 4
    let s2 : BitVec 5 := 2
    let func : BitVec 11 := 0
    let imm : BitVec 16 := 0xC000
    let s : State := T th
    exact ⟨t, s1, imm, s, by decide +kernel⟩
  · let t : Nat := 9
    let dst : BitVec 5 := 5
    let s1 : BitVec 5 := 4
    let s2 : BitVec 5 := 2
    let func : BitVec 11 := 0
    let imm : BitVec 16 := 0xC000
    let s : State := T th
    exact ⟨t, dst, s1, func, s, by decide +kernel⟩
  · let t : Nat := 9
    let dst : BitVec 5 := 0
    let s1 : BitVec 5 := 4
    let s2 : BitVec 5 := 2
    let func : BitVec 11 := 0
    let imm : BitVec 16 := 0xC000
    let s : State := T th
    exact ⟨t, dst, s1, func, s, by decide +kernel⟩
  · let t : Nat := 9
    let dst : BitVec 5 := 0
    let s1 : BitVec 5 := 4
    let s2 : BitVec 5 := 2
    let func : BitVec 11 := 0
    let imm : BitVec 16 := 0
    let s : State := psn (T th)
    exact ⟨t, dst, s1, func, s, by decide +kernel⟩
  · let t : Nat := 9
    let dst : BitVec 5 := 0
    let s1 : BitVec 5 := 4
    let s2 : BitVec 5 := 2
    let func : BitVec 11 := 0
    let imm : BitVec 16 := 0
    let s : State := T { th with g := SMap.put 0 th.g 4 0x100000 }
    exact ⟨t, s1, s, by decide +kernel⟩
  · let t : Nat := 9
    let dst : BitVec 5 := 0
    let s1 : BitVec 5 := 6
    let s2 : BitVec 5 := 2
    let func : BitVec 11 := 0
    let imm : BitVec 16 := 0xC000
    let s : State := T th
    exact ⟨t, s1, s, by decide +kernel⟩
  · let t : Nat := 9
    let dst : BitVec 5 := 0
    let s1 : BitVec 5 := 0
    let s2 : BitVec 5 := 2
    let func : BitVec 11 := 0
    let imm : BitVec 16 := 0
    let s : State := T (sd (.load 5 16 2))
    exact ⟨t, s, (false), (5), (16), (2), by decide +kernel⟩
  · let t : Nat := 9
    let dst : BitVec 5 := 0
    let s1 : BitVec 5 := 0
    let s2 : BitVec 5 := 2
    let func : BitVec 11 := 0
    let imm : BitVec 16 := 0
    let s : State := T (sd (.load 5 16 2))
    exact ⟨t, s, (true), (5), (16), (2), by decide +kernel⟩
  · let t : Nat := 9
    let dst : BitVec 5 := 0
    let s1 : BitVec 5 := 0
    let s2 : BitVec 5 := 2
    let func : BitVec 11 := 0
    let imm : BitVec 16 := 0
    let s : State := T (sd (.atomic 5 16 0 3 0))
    exact ⟨t, s, (false), (5), (16), (0), (3), (0), by decide +kernel⟩
  · let t : Nat := 9
    let dst : BitVec 5 := 0
    let s1 : BitVec 5 := 0
    let s2 : BitVec 5 := 2
    let func : BitVec 11 := 0
    let imm : BitVec 16 := 0
    let s : State := T (sd (.atomic 5 16 0 3 0))
    exact ⟨t, s, (true), (5), (16), (0), (3), (0), by decide +kernel⟩
  · let t : Nat := 9
    let dst : BitVec 5 := 0
    let s1 : BitVec 5 := 0
    let s2 : BitVec 5 := 2
    let func : BitVec 11 := 0
    let imm : BitVec 16 := 0
    let s : State := st (E0 0 (TD (sd (.table 5 3 [0xAB, 0xCD] 0))))
    exact ⟨t, s, (false), (5), (3), ([0xAB, 0xCD]), (0), by decide +kernel⟩
  · let t : Nat := 9
    let dst : BitVec 5 := 0
    let s1 : BitVec 5 := 0
    let s2 : BitVec 5 := 2
    let func : BitVec 11 := 0
    let imm : BitVec 16 := 0
    let s : State := st (E0 0 (TD (sd (.table 5 3 [0xAB, 0xCD] 0))))
    exact ⟨t, s, (true), (5), (3), ([0xAB, 0xCD]), (0), by decide +kernel⟩
  · let t : Nat := 9
    let dst : BitVec 5 := 0
    let s1 : BitVec 5 := 0
    let s2 : BitVec 5 := 2
    let func : BitVec 11 := 0
    let imm : BitVec 16 := 0
    let s : State := st oneB
    refine ⟨t, s, (5), (3), ([9]), (0), (0), ?_⟩
    exact ⟨by decide +kernel, by decide +kernel, by decide +kernel, badBucket_one (by decide +kernel) (by decide +kernel) rfl⟩
  · let t : Nat := 9
    let dst : BitVec 5 := 0
    let s1 : BitVec 5 := 0
    let s2 : BitVec 5 := 2
    let func : BitVec 11 := 0
    let imm : BitVec 16 := 0
    let s : State := st (E0 0 (TD (sd (.table 5 3 [0xAB, 0xCD] 0))))
    let g : Group := grp
    let m : Nat := 16
    let bs : List Byte := [1,2,3,4,5,6,7,8]
    let d : Dev := TD th
    exact ⟨t, g, d, by decide +kernel⟩
  · let t : Nat := 9
    let dst : BitVec 5 := 0
    let s1 : BitVec 5 := 5
    let imm : BitVec 16 := 14
    let s : State := st (E0 0 (TD th))
    exact ⟨t, imm, s, by decide +kernel⟩
  · let t : Nat := 9
    let dst : BitVec 5 := 0
    let s1 : BitVec 5 := 5
    let imm : BitVec 16 := 3
    let s : State := st oneP
    refine ⟨t, s1, imm, s, (2), ?_⟩
    exact ⟨by decide +kernel, by decide +kernel, badPlace_one (by decide +kernel) (by decide +kernel)⟩
  · let t : Nat := 9
    let dst : BitVec 5 := 0
    let s1 : BitVec 5 := 5
    let imm : BitVec 16 := 3
    let s : State := st (extE (TD th))
    exact ⟨t, s1, imm, s, by decide +kernel⟩
  · let t : Nat := 9
    let dst : BitVec 5 := 0
    let s1 : BitVec 5 := 5
    let imm : BitVec 16 := 3
    let s : State := st (onK 0 (TD th))
    exact ⟨t, s1, imm, s, by decide +kernel⟩
  · let t : Nat := 9
    let dst : BitVec 5 := 0
    let s1 : BitVec 5 := 5
    let imm : BitVec 16 := 3
    let s : State := st (E0 0 (TD { th with held := some pk }))
    exact ⟨t, s, (pk), by decide +kernel⟩
  · let t : Nat := 9
    let dst : BitVec 5 := 0
    let s1 : BitVec 5 := 5
    let imm : BitVec 16 := 3
    let s : State := st (E0 0 (TD { th with held := some { pk with dest := .program 0 } }))
    exact ⟨t, s, ({ pk with dest := .program 0 }), (0), by decide +kernel⟩
  · let t : Nat := 9
    let dst : BitVec 5 := 0
    let s1 : BitVec 5 := 5
    let imm : BitVec 16 := 3
    let s : State := st (E0 0 (TD th))
    exact ⟨t, s, (0), by decide +kernel⟩
  · let t : Nat := 9
    let dst : BitVec 5 := 30
    let s1 : BitVec 5 := 5
    let imm : BitVec 16 := 3
    let s : State := st (E0 0 (TD th))
    let table := imm.toNat % 16
    let k := tlkSlot s.dev t
    let def' := RuleSet.tableDef (s.dev.rules' k) table
    let n := def'.keyBytes
    let key := tlkKey s.dev t s1.toNat n
    let e : Entry := { key := [1], act := ⟨9, 5⟩, vfrom := 0, vto := 0, isOpen := true }
    let d : Dev := TD th
    exact ⟨dst, by decide +kernel⟩
  · let t : Nat := 9
    let dst : BitVec 5 := 30
    let s1 : BitVec 5 := 5
    let imm : BitVec 16 := 3
    let s : State := st (E0 0 (TD th))
    exact ⟨t, s1, imm, s, (1), by decide +kernel⟩

end MemoryInstructionsW

namespace PacketInstructionsW

def ac : Slice := { Slice.free with state := .active, pasid := 5, profile := { Profile.slice0 with queuePairs := 16, vectors := 8, threads := 8 } }
def frm : List Byte := [2,2,3,4,5,6,6,8,9,10,11,12,0x08,0x00] ++ List.replicate 60 0x45
def pk : Pkt := Pkt.fresh (newTag up 3 7 0 frm) frm
def grp : Group := { slice := 3, handle := 2, threads := [9, 10], leaving := [], map := [9, 10], tickUs := 100, stateMib := 1, maxCycles := 1000000, created := 0, mem := [(16, 5), (17, 1)], poisoned := [], cured := [] }
def img : ActImage := { slice := 3, imageId := 77, entry := 0, code := List.replicate 30 0 }
def th : Thread := { Thread.free with state := .ready, group := 7, pc := 5, g := [(1, 0x8000000000000005), (2, 3), (3, 0xFFFFFFFFFFFFFFFF), (4, 16), (5, 0xABCD), (6, 100), (7, 1), (8, 2)], scratch := [(8, 0xAA), (9, 0xBB)] }
def TD (x : Thread) : Dev := let d := up.setSlice 3 ac; { d with act := { d.act with images := [(2, some img)], groups := [(7, some grp)], threads := [(9, x), (10, { th with pc := 0 })] } }
def T (x : Thread) : State := st (TD x)
def hold (p : Pkt) : Thread := { th with held := some p }
def A (x : BitVec 16) := x
def qd (x : Thread) : Dev := (TD x).setQp 6 { QueuePair.none with valid := true, slice := 3, k := 4, typ := 1 }
def fwd : W64 := 72 + (6 <<< 8)
def thv (v : W64) (x : Thread) : Thread := { x with g := SMap.put 0 x.g 1 v }

/-- States and operands that meet the hypotheses of `Obligations.PacketInstructions`, one part for each of its 30 cases that have hypotheses. -/
theorem witness_PacketInstructions :
    (∃ t : Nat, ∃ s : State, (s.dev.thread t).held = none) ∧
    (∃ t : Nat, ∃ imm : BitVec 16, ∃ s : State, (s.dev.thread t).held = none ∧ imm.toNat % 16 ≠ 15) ∧
    (∃ t : Nat, ∃ s : State, (s.dev.thread t).held = none ∧ (s.dev.thread t).input = []) ∧
    (∃ t : Nat, ∃ s : State, ∃ p, ∃ rest, (s.dev.thread t).held = none ∧ (s.dev.thread t).input = p :: rest) ∧
    (∃ t : Nat, ∃ s1 : BitVec 5, ∃ imm : BitVec 16, ∃ s : State, ∃ p : Pkt, (s.dev.thread t).held = some p ∧ (let a := accAddr s.dev t s1 imm; let n := accSize imm; let len := p.bytes.length; len < a + n)) ∧
    (∃ t : Nat, ∃ s1 : BitVec 5, ∃ imm : BitVec 16, ∃ s : State, ∃ p : Pkt, (s.dev.thread t).held = some p ∧ (let a := accAddr s.dev t s1 imm; let n := accSize imm; let len := p.bytes.length; a + n ≤ len)) ∧
    (∃ t : Nat, ∃ imm : BitVec 16, ∃ s : State, ∃ p : Pkt, (s.dev.thread t).held = some p ∧ imm.toNat % 128 < 48) ∧
    (∃ t : Nat, ∃ imm : BitVec 16, ∃ s : State, ∃ p : Pkt, (s.dev.thread t).held = some p ∧ 64 ≤ imm.toNat % 128 ∧ imm.toNat % 128 < 76) ∧
    (∃ t : Nat, ∃ imm : BitVec 16, ∃ s : State, ∃ p : Pkt, (s.dev.thread t).held = some p ∧ (let sel := imm.toNat % 16; sel = 15)) ∧
    (∃ t : Nat, ∃ imm : BitVec 16, ∃ s : State, ∃ p : Pkt, (s.dev.thread t).held = some p ∧ (let sel := imm.toNat % 16; sel ≠ 15)) ∧
    (∃ t : Nat, ∃ imm : BitVec 16, ∃ s : State, ∃ p : Pkt, (s.dev.thread t).held = some p ∧ (let sel := imm.toNat % 16; sel = 4)) ∧
    (∃ t : Nat, ∃ s1 : BitVec 5, ∃ imm : BitVec 16, ∃ s : State, ∃ p : Pkt, (s.dev.thread t).held = some p ∧ (let sel := imm.toNat % 16; let v := s.dev.reg t s1; sel = 5 ∧ ((p.tag.colour = 0 ∧ (v = 1 ∨ v = 2)) ∨ (p.tag.colour = 1 ∧ v = 2)))) ∧
    (∃ t : Nat, ∃ s1 : BitVec 5, ∃ imm : BitVec 16, ∃ s : State, ∃ p : Pkt, (s.dev.thread t).held = some p ∧ (let sel := imm.toNat % 16; let v := s.dev.reg t s1; sel = 5 ∧ (v.toNat < p.tag.colour.toNat ∨ 2 < v.toNat))) ∧
    (∃ t : Nat, ∃ s1 : BitVec 5, ∃ imm : BitVec 16, ∃ s : State, ∃ p : Pkt, (s.dev.thread t).held = some p ∧ (let sel := imm.toNat % 16; let v := s.dev.reg t s1; sel = 8 ∧ v.toNat ≤ 63)) ∧
    (∃ t : Nat, ∃ imm : BitVec 16, ∃ s : State, ∃ p : Pkt, (s.dev.thread t).held = some p ∧ (let sel := imm.toNat % 16; sel ∉ [4, 5, 8, 15])) ∧
    (∃ t : Nat, ∃ imm : BitVec 16, ∃ s : State, ∃ p : Pkt, (s.dev.thread t).held = some p ∧ (let len := p.bytes.length; let x := s.dev.thread t; let k := (-imm.toInt).toNat; ((len : Int) - imm.toInt < 14 ∨ 16384 < (len : Int) - imm.toInt ∨ 256 < x.frontAdded + k))) ∧
    (∃ t : Nat, ∃ imm : BitVec 16, ∃ s : State, ∃ p : Pkt, (s.dev.thread t).held = some p ∧ (let len := p.bytes.length; let x := s.dev.thread t; let k := (-imm.toInt).toNat; 14 ≤ (len : Int) - imm.toInt ∧ (len : Int) - imm.toInt ≤ 16384 ∧ x.frontAdded + k ≤ 256)) ∧
    (∃ t : Nat, ∃ s1 : BitVec 5, ∃ imm : BitVec 16, ∃ s : State, ∃ p : Pkt, (s.dev.thread t).held = some p ∧ (let len := p.bytes.length; let x := s.dev.thread t; let v := s.dev.reg t s1; let m := (v + imm.signExtend 64).toNat; (m < 14 ∨ 16384 < m ∨ 256 < x.tailAdded + (m - len)))) ∧
    (∃ t : Nat, ∃ s1 : BitVec 5, ∃ imm : BitVec 16, ∃ s : State, ∃ p : Pkt, (s.dev.thread t).held = some p ∧ (let len := p.bytes.length; let x := s.dev.thread t; let v := s.dev.reg t s1; let m := (v + imm.signExtend 64).toNat; 14 ≤ m ∧ m ≤ 16384 ∧ x.tailAdded + (m - len) ≤ 256)) ∧
    (∃ t : Nat, ∃ s : State, ∃ p : Pkt, (s.dev.thread t).held = some p) ∧
    (∃ t : Nat, ∃ s1 : BitVec 5, ∃ imm : BitVec 16, ∃ s : State, ∃ p : Pkt, (s.dev.thread t).held = some p ∧ (let sel := imm.toNat % 16; let v := s.dev.reg t s1; let owner := s.dev.threadSlice t; let copy := imm.getLsbD 4; dispositionOk s.dev owner p sel copy v = false)) ∧
    (∃ t : Nat, ∃ s1 : BitVec 5, ∃ imm : BitVec 16, ∃ s : State, ∃ p : Pkt, (s.dev.thread t).held = some p ∧ (let sel := imm.toNat % 16; let v := s.dev.reg t s1; let owner := s.dev.threadSlice t; let copy := imm.getLsbD 4; dispositionOk s.dev owner p sel copy v = true ∧ copy = false)) ∧
    (∃ t : Nat, ∃ s1 : BitVec 5, ∃ imm : BitVec 16, ∃ s : State, ∃ p : Pkt, (s.dev.thread t).held = some p ∧ (let x := s.dev.thread t; let sel := imm.toNat % 16; let v := s.dev.reg t s1; let owner := s.dev.threadSlice t; let copy := imm.getLsbD 4; dispositionOk s.dev owner p sel copy v = true ∧ copy = true ∧ x.copies < 4)) ∧
    (∃ t : Nat, ∃ s1 : BitVec 5, ∃ imm : BitVec 16, ∃ s : State, ∃ p : Pkt, (s.dev.thread t).held = some p ∧ (let x := s.dev.thread t; let sel := imm.toNat % 16; let v := s.dev.reg t s1; let owner := s.dev.threadSlice t; let copy := imm.getLsbD 4; dispositionOk s.dev owner p sel copy v = true ∧ copy = true ∧ 4 ≤ x.copies)) ∧
    (∃ t : Nat, ∃ imm : BitVec 16, ∃ s : State, ∃ p : Pkt, (s.dev.thread t).held = some p ∧ (let sel := imm.toNat % 16; sel ∉ [1, 2, 6, 9, 10])) ∧
    (∃ t : Nat, ∃ s1 : BitVec 5, ∃ imm : BitVec 16, ∃ s : State, ∃ p : Pkt, (s.dev.thread t).held = some p ∧ (let sel := imm.toNat % 16; let v := s.dev.reg t s1; let owner := s.dev.threadSlice t; let copy := imm.getLsbD 4; sel = 1 ∧ owner ≠ 0 ∧ dispositionOk s.dev owner p sel copy v = true)) ∧
    (∃ t : Nat, ∃ s1 : BitVec 5, ∃ s2 : BitVec 5, ∃ s : State, (let a := (s.dev.reg t s1).toNat; let n := (s.dev.reg t s2).toNat; 4096 < a + n)) ∧
    (∃ t : Nat, ∃ s1 : BitVec 5, ∃ s2 : BitVec 5, ∃ s : State, (let a := (s.dev.reg t s1).toNat; let n := (s.dev.reg t s2).toNat; let sl := s.dev.threadSlice t; let d := if t < 256 then 6 else 7; let bs := Memory.readN (s.dev.thread t).scratch a n; a + n ≤ 4096 ∧ 14 ≤ n ∧ bucketFull s.dev d (flowHash (BitVec.ofNat 12 sl) bs) ((n + 32 + 255) / 256) = false ∧ creationStopped s.dev sl = false)) ∧
    (∃ t : Nat, ∃ s1 : BitVec 5, ∃ s2 : BitVec 5, ∃ s : State, (let a := (s.dev.reg t s1).toNat; let n := (s.dev.reg t s2).toNat; let sl := s.dev.threadSlice t; a + n ≤ 4096 ∧ (n < 14 ∨ creationStopped s.dev sl = true))) ∧
    (∃ t : Nat, ∃ s1 : BitVec 5, ∃ s2 : BitVec 5, ∃ s : State, (let a := (s.dev.reg t s1).toNat; let n := (s.dev.reg t s2).toNat; let sl := s.dev.threadSlice t; let d := if t < 256 then 6 else 7; let bs := Memory.readN (s.dev.thread t).scratch a n; a + n ≤ 4096 ∧ 14 ≤ n ∧ bucketFull s.dev d (flowHash (BitVec.ofNat 12 sl) bs) ((n + 32 + 255) / 256) = true ∧ creationStopped s.dev sl = false)) := by
  refine ⟨?_, ?_, ?_, ?_, ?_, ?_, ?_, ?_, ?_, ?_, ?_, ?_, ?_, ?_, ?_, ?_, ?_, ?_, ?_, ?_, ?_, ?_, ?_, ?_, ?_, ?_, ?_, ?_, ?_, ?_⟩
  · let t : Nat := 9
    let dst : BitVec 5 := 5
    let s1 : BitVec 5 := 1
    let imm : BitVec 16 := 3
    let s : State := T { th with heldEmpty := true }
    exact ⟨t, s, by decide +kernel⟩
  · let t : Nat := 9
    let dst : BitVec 5 := 5
    let s1 : BitVec 5 := 1
    let imm : BitVec 16 := 4
    let s : State := T th
    exact ⟨t, imm, s, by decide +kernel⟩
  · let t : Nat := 9
    let dst : BitVec 5 := 5
    let s1 : BitVec 5 := 1
    let imm : BitVec 16 := 0
    let s : State := T th
    exact ⟨t, s, by decide +kernel⟩
  · let t : Nat := 9
    let dst : BitVec 5 := 5
    let s1 : BitVec 5 := 1
    let imm : BitVec 16 := 0
    let s : State := T { th with input := [pk, pk] }
    exact ⟨t, s, (pk), ([pk]), by decide +kernel⟩
  · let t : Nat := 9
    let dst : BitVec 5 := 5
    let s1 : BitVec 5 := 0
    let imm : BitVec 16 := 0x4049
    let s : State := T (hold pk)
    let p : Pkt := pk
    let hold : Pkt → Dev → Dev := fun q d => toNext t (d.setThread t { d.thread t with held := some (Pkt.fixLength q) })
    exact ⟨t, s1, imm, s, p, by decide +kernel⟩
  · let t : Nat := 9
    let dst : BitVec 5 := 6
    let s1 : BitVec 5 := 2
    let imm : BitVec 16 := 0x8007
    let s : State := T (hold pk)
    let p : Pkt := pk
    let hold : Pkt → Dev → Dev := fun q d => toNext t (d.setThread t { d.thread t with held := some (Pkt.fixLength q) })
    exact ⟨t, s1, imm, s, p, by decide +kernel⟩
  · let t : Nat := 9
    let dst : BitVec 5 := 6
    let s1 : BitVec 5 := 1
    let imm : BitVec 16 := 3
    let s : State := T (hold { pk with ps := { pk.ps with containers := [(3, 99)] } })
    let p : Pkt := { pk with ps := { pk.ps with containers := [(3, 99)] } }
    let hold : Pkt → Dev → Dev := fun q d => toNext t (d.setThread t { d.thread t with held := some (Pkt.fixLength q) })
    exact ⟨t, imm, s, p, by decide +kernel⟩
  · let t : Nat := 9
    let dst : BitVec 5 := 6
    let s1 : BitVec 5 := 1
    let imm : BitVec 16 := 65
    let s : State := T (hold { pk with ps := { pk.ps with stack := [(1,2),(9,14)] } })
    let p : Pkt := { pk with ps := { pk.ps with stack := [(1,2),(9,14)] } }
    let hold : Pkt → Dev → Dev := fun q d => toNext t (d.setThread t { d.thread t with held := some (Pkt.fixLength q) })
    exact ⟨t, imm, s, p, by decide +kernel⟩
  · let t : Nat := 9
    let dst : BitVec 5 := 6
    let s1 : BitVec 5 := 1
    let imm : BitVec 16 := 15
    let s : State := T (hold pk)
    let p : Pkt := pk
    let hold : Pkt → Dev → Dev := fun q d => toNext t (d.setThread t { d.thread t with held := some (Pkt.fixLength q) })
    exact ⟨t, imm, s, p, by decide +kernel⟩
  · let t : Nat := 9
    let dst : BitVec 5 := 6
    let s1 : BitVec 5 := 0
    let imm : BitVec 16 := 14
    let s : State := T (hold pk)
    let p : Pkt := pk
    let hold : Pkt → Dev → Dev := fun q d => toNext t (d.setThread t { d.thread t with held := some (Pkt.fixLength q) })
    exact ⟨t, imm, s, p, by decide +kernel⟩
  · let t : Nat := 9
    let dst : BitVec 5 := 6
    let s1 : BitVec 5 := 5
    let imm : BitVec 16 := 4
    let s : State := T (hold pk)
    let p : Pkt := pk
    let hold : Pkt → Dev → Dev := fun q d => toNext t (d.setThread t { d.thread t with held := some (Pkt.fixLength q) })
    exact ⟨t, imm, s, p, by decide +kernel⟩
  · let t : Nat := 9
    let dst : BitVec 5 := 6
    let s1 : BitVec 5 := 7
    let imm : BitVec 16 := 5
    let s : State := T (hold { pk with tag := { pk.tag with colour := 0 } })
    let p : Pkt := { pk with tag := { pk.tag with colour := 0 } }
    let hold : Pkt → Dev → Dev := fun q d => toNext t (d.setThread t { d.thread t with held := some (Pkt.fixLength q) })
    exact ⟨t, s1, imm, s, p, by decide +kernel⟩
  · let t : Nat := 9
    let dst : BitVec 5 := 6
    let s1 : BitVec 5 := 6
    let imm : BitVec 16 := 5
    let s : State := T (hold { pk with tag := { pk.tag with colour := 0 } })
    let p : Pkt := { pk with tag := { pk.tag with colour := 0 } }
    let hold : Pkt → Dev → Dev := fun q d => toNext t (d.setThread t { d.thread t with held := some (Pkt.fixLength q) })
    exact ⟨t, s1, imm, s, p, by decide +kernel⟩
  · let t : Nat := 9
    let dst : BitVec 5 := 6
    let s1 : BitVec 5 := 2
    let imm : BitVec 16 := 8
    let s : State := T (hold pk)
    let p : Pkt := pk
    let hold : Pkt → Dev → Dev := fun q d => toNext t (d.setThread t { d.thread t with held := some (Pkt.fixLength q) })
    exact ⟨t, s1, imm, s, p, by decide +kernel⟩
  · let t : Nat := 9
    let dst : BitVec 5 := 6
    let s1 : BitVec 5 := 2
    let imm : BitVec 16 := 7
    let s : State := T (hold pk)
    let p : Pkt := pk
    let hold : Pkt → Dev → Dev := fun q d => toNext t (d.setThread t { d.thread t with held := some (Pkt.fixLength q) })
    exact ⟨t, imm, s, p, by decide +kernel⟩
  · let t : Nat := 9
    let dst : BitVec 5 := 6
    let s1 : BitVec 5 := 2
    let imm : BitVec 16 := 0xFF00
    let s : State := T { hold pk with frontAdded := 1 }
    let p : Pkt := pk
    let hold : Pkt → Dev → Dev := fun q d => toNext t (d.setThread t { d.thread t with held := some (Pkt.fixLength q) })
    exact ⟨t, imm, s, p, by decide +kernel⟩
  · let t : Nat := 9
    let dst : BitVec 5 := 6
    let s1 : BitVec 5 := 2
    let imm : BitVec 16 := 0xFF00
    let s : State := T (hold pk)
    let p : Pkt := pk
    let hold : Pkt → Dev → Dev := fun q d => toNext t (d.setThread t { d.thread t with held := some (Pkt.fixLength q) })
    exact ⟨t, imm, s, p, by decide +kernel⟩
  · let t : Nat := 9
    let dst : BitVec 5 := 6
    let s1 : BitVec 5 := 0
    let imm : BitVec 16 := 13
    let s : State := T (hold pk)
    let p : Pkt := pk
    let hold : Pkt → Dev → Dev := fun q d => toNext t (d.setThread t { d.thread t with held := some (Pkt.fixLength q) })
    exact ⟨t, s1, imm, s, p, by decide +kernel⟩
  · let t : Nat := 9
    let dst : BitVec 5 := 6
    let s1 : BitVec 5 := 0
    let imm : BitVec 16 := 330
    let s : State := T (hold pk)
    let p : Pkt := pk
    let hold : Pkt → Dev → Dev := fun q d => toNext t (d.setThread t { d.thread t with held := some (Pkt.fixLength q) })
    exact ⟨t, s1, imm, s, p, by decide +kernel⟩
  · let t : Nat := 9
    let dst : BitVec 5 := 6
    let s1 : BitVec 5 := 0
    let imm : BitVec 16 := 0
    let s : State := T (hold pk)
    let p : Pkt := pk
    let hold : Pkt → Dev → Dev := fun q d => toNext t (d.setThread t { d.thread t with held := some (Pkt.fixLength q) })
    exact ⟨t, s, p, by decide +kernel⟩
  · let t : Nat := 9
    let dst : BitVec 5 := 6
    let s1 : BitVec 5 := 1
    let imm : BitVec 16 := 3
    let s : State := T (hold pk)
    let p : Pkt := pk
    let hold : Pkt → Dev → Dev := fun q d => toNext t (d.setThread t { d.thread t with held := some (Pkt.fixLength q) })
    exact ⟨t, s1, imm, s, p, by decide +kernel⟩
  · let t : Nat := 9
    let dst : BitVec 5 := 6
    let s1 : BitVec 5 := 1
    let imm : BitVec 16 := 1
    let s : State := st (qd (thv fwd (hold pk)))
    let p : Pkt := pk
    let hold : Pkt → Dev → Dev := fun q d => toNext t (d.setThread t { d.thread t with held := some (Pkt.fixLength q) })
    exact ⟨t, s1, imm, s, p, by decide +kernel⟩
  · let t : Nat := 9
    let dst : BitVec 5 := 6
    let s1 : BitVec 5 := 1
    let imm : BitVec 16 := 17
    let s : State := st (qd (thv fwd (hold pk)))
    let p : Pkt := pk
    let hold : Pkt → Dev → Dev := fun q d => toNext t (d.setThread t { d.thread t with held := some (Pkt.fixLength q) })
    exact ⟨t, s1, imm, s, p, by decide +kernel⟩
  · let t : Nat := 9
    let dst : BitVec 5 := 6
    let s1 : BitVec 5 := 1
    let imm : BitVec 16 := 17
    let s : State := st (qd (thv fwd { hold pk with copies := 4 }))
    let p : Pkt := pk
    let hold : Pkt → Dev → Dev := fun q d => toNext t (d.setThread t { d.thread t with held := some (Pkt.fixLength q) })
    exact ⟨t, s1, imm, s, p, by decide +kernel⟩
  · let t : Nat := 9
    let dst : BitVec 5 := 6
    let s1 : BitVec 5 := 1
    let imm : BitVec 16 := 3
    let s : State := st (qd (thv fwd { hold pk with copies := 4 }))
    let p : Pkt := pk
    let hold : Pkt → Dev → Dev := fun q d => toNext t (d.setThread t { d.thread t with held := some (Pkt.fixLength q) })
    exact ⟨t, imm, s, p, by decide +kernel⟩
  · let t : Nat := 9
    let dst : BitVec 5 := 6
    let s1 : BitVec 5 := 1
    let imm : BitVec 16 := 1
    let s : State := st (qd (thv fwd (hold pk)))
    let p : Pkt := pk
    let hold : Pkt → Dev → Dev := fun q d => toNext t (d.setThread t { d.thread t with held := some (Pkt.fixLength q) })
    exact ⟨t, s1, imm, s, p, by decide +kernel⟩
  · let t : Nat := 9
    let dst : BitVec 5 := 6
    let s1 : BitVec 5 := 5
    let s2 : BitVec 5 := 6
    let func : BitVec 11 := 0
    let s : State := T th
    exact ⟨t, s1, s2, s, by decide +kernel⟩
  · let t : Nat := 9
    let dst : BitVec 5 := 6
    let s1 : BitVec 5 := 4
    let s2 : BitVec 5 := 6
    let func : BitVec 11 := 0
    let s : State := T th
    exact ⟨t, s1, s2, s, by decide +kernel⟩
  · let t : Nat := 9
    let dst : BitVec 5 := 6
    let s1 : BitVec 5 := 4
    let s2 : BitVec 5 := 6
    let func : BitVec 11 := 0
    let s : State := T { th with g := SMap.put 0 th.g 6 13 }
    exact ⟨t, s1, s2, s, by decide +kernel⟩
  · let t : Nat := 9
    let dst : BitVec 5 := 6
    let s1 : BitVec 5 := 4
    let s2 : BitVec 5 := 6
    let func : BitVec 11 := 0
    let s : State := st (let x := TD th; x.setBucket 6 ((flowHash (BitVec.ofNat 12 3) (Memory.readN th.scratch 16 100)).toNat % 4096) { Bucket.home 1 with target := 2, inflight := 1, moveStart := 0, homeward := false, held := List.replicate 70 pk } |> fun x => { x with now := 2000000 })
    exact ⟨t, s1, s2, s, by decide +kernel⟩

end PacketInstructionsW

namespace ChannelsAndFaultsW

def ac : Slice := { Slice.free with state := .active, pasid := 5, profile := { Profile.slice0 with queuePairs := 16, vectors := 8, threads := 8 } }
def frm : List Byte := [2,2,3,4,5,6,6,8,9,10,11,12,0x08,0x00] ++ List.replicate 60 0x45
def pk : Pkt := Pkt.fresh (newTag up 3 7 0 frm) frm
def grp : Group := { slice := 3, handle := 2, threads := [9, 10], leaving := [], map := [9, 10], tickUs := 100, stateMib := 1, maxCycles := 1000000, created := 0, mem := [(16, 5), (17, 1)], poisoned := [], cured := [] }
def img : ActImage := { slice := 3, imageId := 77, entry := 0, code := List.replicate 30 0 }
def th : Thread := { Thread.free with state := .ready, group := 7, pc := 5, g := [(1, 0x8000000000000005), (2, 3), (3, 0xFFFFFFFFFFFFFFFF), (4, 16), (5, 0xABCD), (6, 100), (7, 1), (8, 2)], scratch := [(8, 0xAA), (9, 0xBB)] }
def TD (x : Thread) : Dev := let d := up.setSlice 3 ac; { d with act := { d.act with images := [(2, some img)], groups := [(7, some grp)], threads := [(9, x), (10, { th with pc := 0 })] } }
def T (x : Thread) : State := st (TD x)
def T2 (x y : Thread) : State := st ((TD x).setThread 10 { y with pc := 5 })
def four : Thread := { th with recvQ := List.replicate 4 (9, [1]) }
def flt : Thread := { th with faults := List.replicate 30 0, held := some pk, staging := [1], stTarget := some 10 }

/-- States and operands that meet the hypotheses of `Obligations.ChannelsAndFaults`, one part for each of its 16 cases that have hypotheses. -/
theorem witness_ChannelsAndFaults :
    (∃ t : Nat, ∃ imm : BitVec 16, ∃ s : State, (let x := s.dev.thread t; let word := imm.toNat / 64 % 4; let named := 64 * (t / 64) + imm.toNat % 64; let u := if word = 0 then named else x.stTarget.getD named; let last := imm.getLsbD 8; let bad := (s.dev.thread u).state = .free ∨ s.dev.threadSlice u ≠ s.dev.threadSlice t; (word = 0 ∨ last = true) ∧ bad)) ∧
    (∃ t : Nat, ∃ imm : BitVec 16, ∃ s : State, (let x := s.dev.thread t; let word := imm.toNat / 64 % 4; let named := 64 * (t / 64) + imm.toNat % 64; let u := if word = 0 then named else x.stTarget.getD named; let last := imm.getLsbD 8; let bad := (s.dev.thread u).state = .free ∨ s.dev.threadSlice u ≠ s.dev.threadSlice t; last = false ∧ ((word = 0 → ¬ bad)))) ∧
    (∃ t : Nat, ∃ dst : BitVec 5, ∃ s1 : BitVec 5, ∃ imm : BitVec 16, ∃ s : State, Issues t (encI 0x30 dst s1 imm) s.dev ∧ (let x := s.dev.thread t; let word := imm.toNat / 64 % 4; let named := 64 * (t / 64) + imm.toNat % 64; let u := if word = 0 then named else x.stTarget.getD named; let last := imm.getLsbD 8; let bad := (s.dev.thread u).state = .free ∨ s.dev.threadSlice u ≠ s.dev.threadSlice t; last = true ∧ ¬ bad ∧ u ≠ t ∧ (s.dev.thread u).recvQ.length < 4)) ∧
    (∃ t : Nat, ∃ imm : BitVec 16, ∃ s : State, (let x := s.dev.thread t; let word := imm.toNat / 64 % 4; let named := 64 * (t / 64) + imm.toNat % 64; let u := if word = 0 then named else x.stTarget.getD named; let last := imm.getLsbD 8; let bad := (s.dev.thread u).state = .free ∨ s.dev.threadSlice u ≠ s.dev.threadSlice t; last = true ∧ ¬ bad ∧ 4 ≤ (s.dev.thread u).recvQ.length)) ∧
    (∃ t : Nat, ∃ cause : Nat, ∃ detail : Nat, ∃ s : Dev, t < 512 ∧ cause < 256 ∧ (s.thread t).pc < 8192 ∧ detail < 65536) ∧
    (∃ t : Nat, ∃ cause : Nat, ∃ detail : Nat, ∃ s : Dev, ∃ r, t < 512 ∧ cause < 256 ∧ (s.thread t).pc < 8192 ∧ detail < 65536 ∧ r ≠ 1) ∧
    (∃ t : Nat, ∃ cause : Nat, ∃ detail : Nat, ∃ s : Dev, ∃ im, t < 512 ∧ cause < 256 ∧ (s.thread t).pc < 8192 ∧ detail < 65536 ∧ s.threadImage t = some im) ∧
    (∃ t : Nat, ∃ cause : Nat, ∃ detail : Nat, ∃ s : Dev, ∃ u, t < 512 ∧ cause < 256 ∧ (s.thread t).pc < 8192 ∧ detail < 65536 ∧ u ≠ t) ∧
    (∃ t : Nat, ∃ cause : Nat, ∃ detail : Nat, ∃ s : Dev, t < 512 ∧ cause < 256 ∧ (s.thread t).pc < 8192 ∧ detail < 65536 ∧ (let e := threadFault t cause detail s; let y := e.thread t; y.state = .faulted)) ∧
    (∃ t : Nat, ∃ s : State, ∃ g : Group, ∃ p : Pkt, t < 512 ∧ s.dev.threadGroup t = some g ∧ (s.dev.thread t).held = some p ∧ (s.dev.thread t).state ≠ .faulted) ∧
    (∃ t : Nat, ∃ s : State, t < 512 ∧ (s.dev.thread t).held = none) ∧
    (∃ t : Nat, ∃ s : State, t < 512 ∧ (s.dev.thread t).state ≠ .free ∧ (s.dev.thread t).held = none) ∧
    (∃ t : Nat, ∃ s : State, t < 512 ∧ ((s.dev.thread t).state = .free ∨ (s.dev.thread t).held ≠ none)) ∧
    (∃ t : Nat, ∃ s : Dev, ∃ im : ActImage, s.threadImage t = some im ∧ (s.thread t).state = .ready ∧ im.code.length ≤ (s.thread t).pc) ∧
    (∃ t : Nat, ∃ w : BitVec 32, ∃ s : Dev, ∃ im : ActImage, s.threadImage t = some im ∧ (s.thread t).state = .ready ∧ im.code[(s.thread t).pc]? = some w ∧ illegalInstr w = true) ∧
    (∃ t : Nat, ∃ s : Dev, (s.thread t).state ≠ .ready) := by
  refine ⟨?_, ?_, ?_, ?_, ?_, ?_, ?_, ?_, ?_, ?_, ?_, ?_, ?_, ?_, ?_, ?_⟩
  · let t : Nat := 9
    let dst : BitVec 5 := 5
    let s1 : BitVec 5 := 1
    let imm : BitVec 16 := 11
    let s : State := T th
    exact ⟨t, imm, s, by decide +kernel⟩
  · let t : Nat := 9
    let dst : BitVec 5 := 5
    let s1 : BitVec 5 := 1
    let imm : BitVec 16 := 0x4A
    let s : State := T { th with staging := [7], stTarget := some 10 }
    exact ⟨t, imm, s, by decide +kernel⟩
  · let t : Nat := 9
    let dst : BitVec 5 := 5
    let s1 : BitVec 5 := 1
    let imm : BitVec 16 := 0x1CA
    let s : State := st (patchCode 9 (encI 0x30 5 1 0x1CA) (TD { th with staging := [7, 8, 9], stTarget := some 10 }))
    exact ⟨t, dst, s1, imm, s, ⟨(by decide +kernel), (by decide +kernel), (by decide +kernel), _, rfl, (by decide +kernel)⟩, by decide +kernel⟩
  · let t : Nat := 9
    let dst : BitVec 5 := 5
    let s1 : BitVec 5 := 1
    let imm : BitVec 16 := 0x1CA
    let s : State := T2 { th with staging := [7, 8, 9], stTarget := some 10 } four
    exact ⟨t, imm, s, by decide +kernel⟩
  · let t : Nat := 9
    let cause : Nat := 15
    let detail : Nat := 77
    let s : Dev := TD flt
    exact ⟨t, cause, detail, s, by decide +kernel⟩
  · let t : Nat := 9
    let cause : Nat := 15
    let detail : Nat := 77
    let s : Dev := TD { flt with faults := [] }
    exact ⟨t, cause, detail, s, (5), by decide +kernel⟩
  · let t : Nat := 9
    let cause : Nat := 15
    let detail : Nat := 77
    let s : Dev := TD { flt with faults := [] }
    exact ⟨t, cause, detail, s, (img), by decide +kernel⟩
  · let t : Nat := 9
    let cause : Nat := 15
    let detail : Nat := 77
    let s : Dev := TD { flt with faults := [] }
    exact ⟨t, cause, detail, s, (10), by decide +kernel⟩
  · let t : Nat := 9
    let cause : Nat := 15
    let detail : Nat := 77
    let s : Dev := TD flt
    exact ⟨t, cause, detail, s, by decide +kernel⟩
  · let t : Nat := 9
    let s : State := T { th with held := some pk, takenAt := 50 }
    let g : Group := grp
    let p : Pkt := pk
    exact ⟨t, s, g, p, by decide +kernel⟩
  · let t : Nat := 9
    let s : State := T th
    exact ⟨t, s, by decide +kernel⟩
  · let t : Nat := 9
    let s : State := T th
    exact ⟨t, s, by decide +kernel⟩
  · let t : Nat := 9
    let s : State := T { th with held := some pk }
    exact ⟨t, s, by decide +kernel⟩
  · let t : Nat := 9
    let w : BitVec 32 := 0
    let f : Dev → Dev := id
    let s : Dev := TD { th with pc := 30 }
    let im : ActImage := img
    exact ⟨t, s, im, by decide +kernel⟩
  · let t : Nat := 9
    let w : BitVec 32 := 0xFFFFFFFF
    let f : Dev → Dev := id
    let s : Dev := (patchCode 9 0xFFFFFFFF (TD th))
    let im : ActImage := ((patchCode 9 0xFFFFFFFF (TD th)).threadImage 9).getD img
    exact ⟨t, w, s, im, by decide +kernel⟩
  · let t : Nat := 9
    let w : BitVec 32 := 0
    let f : Dev → Dev := id
    let s : Dev := TD { th with state := .stalled }
    exact ⟨t, s, by decide +kernel⟩

end ChannelsAndFaultsW

namespace ProgramsAndGroupsW

def ac : Slice := { Slice.free with state := .active, pasid := 5, profile := { Profile.slice0 with queuePairs := 16, vectors := 8, threads := 8 } }
def frm : List Byte := [2,2,3,4,5,6,6,8,9,10,11,12,0x08,0x00] ++ List.replicate 60 0x45
def pk : Pkt := Pkt.fresh (newTag up 3 7 0 frm) frm
def grp : Group := { slice := 3, handle := 2, threads := [9, 10], leaving := [], map := (List.replicate 64 10), tickUs := 100, stateMib := 1, maxCycles := 1000000, created := 0, mem := [(16, 5), (17, 1)], poisoned := [], cured := [] }
def img : ActImage := { slice := 3, imageId := 77, entry := 0, code := List.replicate 30 0 }
def th : Thread := { Thread.free with state := .ready, group := 7, pc := 5, g := [(1, 0x8000000000000005), (2, 3), (3, 0xFFFFFFFFFFFFFFFF), (4, 16), (5, 0xABCD), (6, 100), (7, 1), (8, 2)], scratch := [(8, 0xAA), (9, 0xBB)] }
def TD (x : Thread) : Dev := let d := up.setSlice 3 ac; { d with act := { d.act with images := [(2, some img)], groups := [(7, some grp)], threads := [(9, x), (10, { th with pc := 0 })] } }
def T (x : Thread) : State := st (TD x)
def P : Pkt := { pk with dest := .program 0 }
def prog (owner : W64) (d : Dev) : Dev := onRules 0 (fun r => { r with programs := [(0, ⟨true, owner <<< 12 + 0x4D00000000, 0xFF⟩)] }) d
def In (owner : W64) (d : Dev) : State := st ((prog owner d).setActInput 0 [P])
def raw : List W64 := [0x0001000143485431, 77, 0, 0, 0xD0200001]
def allBusy (d : Dev) : Dev := { d with act := { d.act with threads := (List.range 512).map (fun t => (t, { th with group := 8 })), groups := [(8, some { grp with slice := 4, threads := [0], handle := 99 })] } }
def bld : Dev := (TD th).setSlot 1 { Slot.free with state := .building, version := 1 }
def noG : Dev := let d := TD th; { d with act := { d.act with groups := [], threads := [] } }
def gs (n : W64) : Req := rq [3 + (2 <<< 32) + (1 <<< 48), n + (100 <<< 16) + (1 <<< 32), 50000]

/-- States and operands that meet the hypotheses of `Obligations.ProgramsAndGroups`, one part for each of its 31 cases that have hypotheses. -/
theorem witness_ProgramsAndGroups :
    (∃ i : Nat, ∃ s : State, ∃ p : Pkt, ∃ rest : List Pkt, i < 2 ∧ s.dev.actInput i = p :: rest ∧ (let b := progBinding s.dev p.tag.vslot.toNat (packetProgram p % 4096); (b.valid = false ∨ s.dev.groupOf (progOwner b) (progImage b) = none))) ∧
    (∃ i : Nat, ∃ s : State, ∃ p : Pkt, ∃ rest : List Pkt, ∃ n, ∃ g, i < 2 ∧ s.dev.actInput i = p :: rest ∧ (let b := progBinding s.dev p.tag.vslot.toNat (packetProgram p % 4096); b.valid = true ∧ s.dev.groupOf (progOwner b) (progImage b) = some (n, g) ∧ progOwner b ≠ 0 ∧ progOwner b ≠ p.tag.slice.toNat)) ∧
    (∃ i : Nat, ∃ s : State, ∃ p : Pkt, ∃ rest : List Pkt, ∃ n, ∃ g, i < 2 ∧ s.dev.actInput i = p :: rest ∧ (let b := progBinding s.dev p.tag.vslot.toNat (packetProgram p % 4096); b.valid = true ∧ s.dev.groupOf (progOwner b) (progImage b) = some (n, g) ∧ (progOwner b = 0 ∨ progOwner b = p.tag.slice.toNat) ∧ (let t := g.map.getD (p.tag.flowHash.toNat / 2 ^ 26) 0; ((s.dev.thread t).state = .faulted ∨ (s.dev.thread t).state = .free ∨ 16 ≤ (s.dev.thread t).input.length ∨ 65536 < ((s.dev.thread t).input.map (fun q => q.bytes.length)).sum + p.bytes.length)))) ∧
    (∃ i : Nat, ∃ s : State, ∃ p : Pkt, ∃ rest : List Pkt, ∃ n, ∃ g, i < 2 ∧ s.dev.actInput i = p :: rest ∧ (let b := progBinding s.dev p.tag.vslot.toNat (packetProgram p % 4096); b.valid = true ∧ s.dev.groupOf (progOwner b) (progImage b) = some (n, g) ∧ (progOwner b = 0 ∨ progOwner b = p.tag.slice.toNat) ∧ (let t := g.map.getD (p.tag.flowHash.toNat / 2 ^ 26) 0; (s.dev.thread t).state ≠ .faulted ∧ (s.dev.thread t).state ≠ .free ∧ (s.dev.thread t).input.length < 16 ∧ ((s.dev.thread t).input.map (fun q => q.bytes.length)).sum + p.bytes.length ≤ 65536))) ∧
    (∃ ch : Nat, ∃ r : Req, ∃ s : State, ∃ d : Dev, cmdWf ch r = true ∧ Accepted spec0540 ch r s.dev d ∧ (let sl := fld (r.word 0) 11 0; reaches ch sl = false)) ∧
    (∃ ch : Nat, ∃ r : Req, ∃ s : State, ∃ d : Dev, cmdWf ch r = true ∧ Accepted spec0540 ch r s.dev d ∧ (let sl := fld (r.word 0) 11 0; reaches ch sl = true ∧ (r.indirect = false ∨ (d.slice sl).state = .free))) ∧
    (∃ ch : Nat, ∃ r : Req, ∃ s : State, ∃ d : Dev, ∃ k, ∃ i, cmdWf ch r = true ∧ Accepted spec0540 ch r s.dev d ∧ (let sl := fld (r.word 0) 11 0; let raw := r.words.drop 1; r.indirect = true ∧ (d.slice sl).state ≠ .free ∧ reaches ch sl = true ∧ actImageReason raw (r.payloadLen.toNat - 8) = some (k, i))) ∧
    (∃ ch : Nat, ∃ r : Req, ∃ s : State, ∃ d : Dev, cmdWf ch r = true ∧ Accepted spec0540 ch r s.dev d ∧ (let sl := fld (r.word 0) 11 0; let raw := r.words.drop 1; r.indirect = true ∧ (d.slice sl).state ≠ .free ∧ reaches ch sl = true ∧ actImageReason raw (r.payloadLen.toNat - 8) = none ∧ 1024 ≤ (SMap.entries d.act.images).length)) ∧
    (∃ ch : Nat, ∃ r : Req, ∃ s : State, ∃ d : Dev, ∃ e, cmdWf ch r = true ∧ Accepted spec0540 ch r s.dev d ∧ (let sl := fld (r.word 0) 11 0; let h := fld (r.word 0) 41 32; let raw := r.words.drop 1; let h := d.assign ((SMap.entries d.act.images).map Prod.fst); r.indirect = true ∧ (d.slice sl).state ≠ .free ∧ reaches ch sl = true ∧ actImageReason raw (r.payloadLen.toNat - 8) = none ∧ (SMap.entries d.act.images).length < 1024 ∧ Recorded spec0540 ch r h [mk64 [at' h 32]] d e)) ∧
    (∃ ch : Nat, ∃ r : Req, ∃ s : State, ∃ d : Dev, ∃ im, cmdWf ch r = true ∧ Accepted spec0541 ch r s.dev d ∧ (let sl := fld (r.word 0) 11 0; let h := fld (r.word 0) 41 32; d.actImage h = some im ∧ im.slice = sl ∧ reaches ch sl = true ∧ d.groupList.any (fun e => e.2.handle == h) = true)) ∧
    (∃ ch : Nat, ∃ r : Req, ∃ s : State, ∃ d : Dev, ∃ im, ∃ e, cmdWf ch r = true ∧ Accepted spec0541 ch r s.dev d ∧ (let sl := fld (r.word 0) 11 0; let h := fld (r.word 0) 41 32; d.actImage h = some im ∧ im.slice = sl ∧ reaches ch sl = true ∧ d.groupList.any (fun e => e.2.handle == h) = false ∧ Recorded spec0541 ch r h [] d e)) ∧
    (∃ ch : Nat, ∃ r : Req, ∃ s : State, ∃ d : Dev, cmdWf ch r = true ∧ Accepted spec0541 ch r s.dev d ∧ (let sl := fld (r.word 0) 11 0; reaches ch sl = false)) ∧
    (∃ ch : Nat, ∃ r : Req, ∃ s : State, ∃ d : Dev, cmdWf ch r = true ∧ Accepted spec0541 ch r s.dev d ∧ (let sl := fld (r.word 0) 11 0; let h := fld (r.word 0) 41 32; reaches ch sl = true ∧ imageOf d sl h = none)) ∧
    (∃ ch : Nat, ∃ r : Req, ∃ s : State, ∃ d : Dev, cmdWf ch r = true ∧ Accepted spec0543 ch r s.dev d ∧ (let sl := fld (r.word 0) 11 0; reaches ch sl = false)) ∧
    (∃ ch : Nat, ∃ r : Req, ∃ s : State, ∃ d : Dev, cmdWf ch r = true ∧ Accepted spec0543 ch r s.dev d ∧ (let sl := fld (r.word 0) 11 0; let h := fld (r.word 0) 41 32; reaches ch sl = true ∧ groupFor d sl h = none)) ∧
    (∃ ch : Nat, ∃ r : Req, ∃ s : State, ∃ d : Dev, ∃ n, ∃ g, cmdWf ch r = true ∧ Accepted spec0543 ch r s.dev d ∧ (let sl := fld (r.word 0) 11 0; let h := fld (r.word 0) 41 32; groupFor d sl h = some (n, g) ∧ reaches ch sl = true)) ∧
    (∃ ch : Nat, ∃ r : Req, ∃ s : State, ∃ d : Dev, cmdWf ch r = true ∧ Accepted spec0545 ch r s.dev d ∧ (let sl := fld (r.word 0) 11 0; reaches ch sl = false)) ∧
    (∃ ch : Nat, ∃ r : Req, ∃ s : State, ∃ d : Dev, cmdWf ch r = true ∧ Accepted spec0545 ch r s.dev d ∧ (let sl := fld (r.word 0) 11 0; let h := fld (r.word 0) 41 32; reaches ch sl = true ∧ groupFor d sl h = none)) ∧
    (∃ ch : Nat, ∃ r : Req, ∃ s : State, ∃ d : Dev, ∃ n, ∃ g, cmdWf ch r = true ∧ Accepted spec0545 ch r s.dev d ∧ (let sl := fld (r.word 0) 11 0; let h := fld (r.word 0) 41 32; groupFor d sl h = some (n, g) ∧ reaches ch sl = true ∧ (d.slice sl).state ≠ .active)) ∧
    (∃ ch : Nat, ∃ r : Req, ∃ s : State, ∃ d : Dev, ∃ n, ∃ g, cmdWf ch r = true ∧ Accepted spec0545 ch r s.dev d ∧ (let sl := fld (r.word 0) 11 0; let h := fld (r.word 0) 41 32; groupFor d sl h = some (n, g) ∧ reaches ch sl = true ∧ (d.slice sl).state = .active)) ∧
    (∃ ch : Nat, ∃ r : Req, ∃ s : State, ∃ d : Dev, ∃ k, cmdWf ch r = true ∧ Builds (reqVersion r) k d ∧ Accepted spec0544 ch r s.dev d) ∧
    (∃ ch : Nat, ∃ r : Req, ∃ s : State, ∃ d : Dev, cmdWf ch r = true ∧ Accepted spec0546 ch r s.dev d ∧ (let k := fld (r.word 0) 2 0; (d.slot k).state = .free)) ∧
    (∃ ch : Nat, ∃ r : Req, ∃ s : State, ∃ d : Dev, cmdWf ch r = true ∧ Accepted spec0546 ch r s.dev d ∧ (let k := fld (r.word 0) 2 0; (d.slot k).state ≠ .free)) ∧
    (∃ ch : Nat, ∃ r : Req, ∃ s : State, ∃ d : Dev, cmdWf ch r = true ∧ Accepted spec0542 ch r s.dev d ∧ (let sl := fld (r.word 0) 11 0; let h := fld (r.word 0) 41 32; (imageOf d sl h).isSome = true ∧ reaches ch sl = true ∧ (d.slice sl).state = .active ∧ (let w1 := r.word 1; let w2 := r.word 2; let n := fld w1 6 0; let mib := fld w1 42 32; let k := (d.slice sl).profile.threadSlots; bit (r.word 0) 48 = true ∧ groupFor d sl h = none ∧ 1 ≤ n ∧ n ≤ 64 ∧ mib ≤ 1024 ∧ 1000 ≤ fld w2 16 0 ∧ fld w2 16 0 ≤ 100000 ∧ threadsOf d sl + n ≤ (d.slice sl).profile.threads ∧ groupMib d + mib ≤ programMib d ∧ placement d h k n = none))) ∧
    (∃ ch : Nat, ∃ r : Req, ∃ s : State, ∃ d : Dev, ∃ ts, ∃ e, cmdWf ch r = true ∧ Accepted spec0542 ch r s.dev d ∧ (let sl := fld (r.word 0) 11 0; let h := fld (r.word 0) 41 32; (imageOf d sl h).isSome = true ∧ reaches ch sl = true ∧ (d.slice sl).state = .active ∧ (let w1 := r.word 1; let w2 := r.word 2; let n := fld w1 6 0; let mib := fld w1 42 32; let k := (d.slice sl).profile.threadSlots; let num := d.assign (d.groupList.map Prod.fst); bit (r.word 0) 48 = true ∧ groupFor d sl h = none ∧ 1 ≤ n ∧ n ≤ 64 ∧ mib ≤ 1024 ∧ 1000 ≤ fld w2 16 0 ∧ fld w2 16 0 ≤ 100000 ∧ threadsOf d sl + n ≤ (d.slice sl).profile.threads ∧ groupMib d + mib ≤ programMib d ∧ placement d h k n = some ts ∧ Recorded spec0542 ch r num [BitVec.ofNat 64 num] d e))) ∧
    (∃ ch : Nat, ∃ r : Req, ∃ s : State, ∃ d : Dev, cmdWf ch r = true ∧ Accepted spec0542 ch r s.dev d ∧ (let sl := fld (r.word 0) 11 0; let h := fld (r.word 0) 41 32; (imageOf d sl h).isSome = true ∧ reaches ch sl = true ∧ (d.slice sl).state = .active ∧ (let w1 := r.word 1; let w2 := r.word 2; let n := fld w1 6 0; let mib := fld w1 42 32; bit (r.word 0) 48 = true ∧ groupFor d sl h = none ∧ 1 ≤ n ∧ n ≤ 64 ∧ mib ≤ 1024 ∧ 1000 ≤ fld w2 16 0 ∧ fld w2 16 0 ≤ 100000 ∧ (d.slice sl).profile.threads < threadsOf d sl + n))) ∧
    (∃ ch : Nat, ∃ r : Req, ∃ s : State, ∃ d : Dev, ∃ g : Nat × Group, ∃ ts, ∃ e, cmdWf ch r = true ∧ Accepted spec0542 ch r s.dev d ∧ (let sl := fld (r.word 0) 11 0; let h := fld (r.word 0) 41 32; (imageOf d sl h).isSome = true ∧ reaches ch sl = true ∧ (d.slice sl).state = .active ∧ (let w1 := r.word 1; let w2 := r.word 2; let n := fld w1 6 0; let mib := fld w1 42 32; let k := (d.slice sl).profile.threadSlots; groupFor d sl h = some g ∧ bit (r.word 0) 48 = true ∧ 1 ≤ n ∧ n ≤ 64 ∧ mib = g.2.stateMib ∧ mib ≤ 1024 ∧ 1000 ≤ fld w2 16 0 ∧ fld w2 16 0 ≤ 100000 ∧ threadsOf d sl + (n - g.2.threads.length) ≤ (d.slice sl).profile.threads ∧ placement d h k (n - g.2.threads.length) = some ts ∧ Recorded spec0542 ch r g.1 [BitVec.ofNat 64 g.1] d e))) ∧
    (∃ ch : Nat, ∃ r : Req, ∃ s : State, ∃ d : Dev, ∃ g : Nat × Group, cmdWf ch r = true ∧ Accepted spec0542 ch r s.dev d ∧ (let sl := fld (r.word 0) 11 0; let h := fld (r.word 0) 41 32; (imageOf d sl h).isSome = true ∧ reaches ch sl = true ∧ (d.slice sl).state = .active ∧ groupFor d sl h = some g ∧ bit (r.word 0) 48 = false ∧ boundSomewhere d sl (((imageOf d sl h).map ActImage.imageId).getD 0) = true)) ∧
    (∃ ch : Nat, ∃ r : Req, ∃ s : State, ∃ d : Dev, ∃ g : Nat × Group, ∃ e, cmdWf ch r = true ∧ Accepted spec0542 ch r s.dev d ∧ (let sl := fld (r.word 0) 11 0; let h := fld (r.word 0) 41 32; (imageOf d sl h).isSome = true ∧ reaches ch sl = true ∧ (d.slice sl).state = .active ∧ groupFor d sl h = some g ∧ bit (r.word 0) 48 = false ∧ boundSomewhere d sl (((imageOf d sl h).map ActImage.imageId).getD 0) = false ∧ Recorded spec0542 ch r g.1 [BitVec.ofNat 64 g.1] d e)) ∧
    (∃ s : Dev, ∃ h : Nat, ∃ k : Nat, ∃ n : Nat, ∃ ts : List Nat, placement s h k n = some ts) ∧
    (∃ s : Dev, ∃ h : Nat, ∃ k : Nat, ∃ n : Nat, ∃ ts : List Nat, ∃ t, placement s h k n = some ts ∧ t ∈ ts) := by
  refine ⟨?_, ?_, ?_, ?_, ?_, ?_, ?_, ?_, ?_, ?_, ?_, ?_, ?_, ?_, ?_, ?_, ?_, ?_, ?_, ?_, ?_, ?_, ?_, ?_, ?_, ?_, ?_, ?_, ?_, ?_, ?_⟩
  · let i : Nat := 0
    let s : State := st ((TD th).setActInput 0 [P])
    let p : Pkt := P
    let rest : List Pkt := []
    exact ⟨i, s, p, rest, by decide +kernel⟩
  · let i : Nat := 0
    let s : State := st (((TD th |> fun d => { d with act := { d.act with groups := [(7, some { grp with slice := 4 })] } }) |> prog 4).setActInput 0 [P])
    let p : Pkt := P
    let rest : List Pkt := []
    let d := s.dev.setActInput i rest
    let n := 7
    exact ⟨i, s, p, rest, n, ({ grp with slice := 4 }), by decide +kernel⟩
  · let i : Nat := 0
    let s : State := In 3 ((TD { th with state := .faulted }).setThread 10 { th with input := List.replicate 16 pk })
    let p : Pkt := P
    let rest : List Pkt := []
    let n := 7
    exact ⟨i, s, p, rest, n, (grp), by decide +kernel⟩
  · let i : Nat := 0
    let s : State := In 3 (TD th)
    let p : Pkt := P
    let rest : List Pkt := []
    let n := 7
    exact ⟨i, s, p, rest, n, (grp), by decide +kernel⟩
  · let ch : Nat := 4
    let r : Req := rqi [3]
    let s : State := st ((TD th).setSlice 4 ac)
    let d : Dev := tkc 4 spec0540 r s.dev
    exact ⟨ch, r, s, d, by decide +kernel, ⟨(by decide +kernel), (by decide +kernel), rfl, (by decide +kernel)⟩, by decide +kernel⟩
  · let ch : Nat := 4096
    let r : Req := rq [3]
    let s : State := st (TD th)
    let d : Dev := tk spec0540 r s.dev
    exact ⟨ch, r, s, d, by decide +kernel, ⟨(by decide +kernel), (by decide +kernel), rfl, (by decide +kernel)⟩, by decide +kernel⟩
  · let ch : Nat := 4096
    let r : Req := rqi (3 :: raw)
    let s : State := st (TD th)
    let d : Dev := tk spec0540 r s.dev
    let raw := r.words.drop 1
    exact ⟨ch, r, s, d, (2), (0), by decide +kernel, ⟨(by decide +kernel), (by decide +kernel), rfl, (by decide +kernel)⟩, by decide +kernel⟩
  · let ch : Nat := 4096
    let r : Req := { rqi (3 :: raw) with payloadLen := 44 }
    let s : State := st ({ TD th with act := { (TD th).act with images := (List.range 1024).map (fun i => (i, some img)) } })
    let d : Dev := tk spec0540 r s.dev
    let raw := r.words.drop 1
    exact ⟨ch, r, s, d, by decide +kernel, ⟨(by decide +kernel), (by decide +kernel), rfl, (by decide +kernel)⟩, by decide +kernel⟩
  · let ch : Nat := 4096
    let r : Req := { rqi (3 :: raw) with payloadLen := 44 }
    let s : State := st (TD th)
    let d : Dev := tk spec0540 r s.dev
    let raw := r.words.drop 1
    exact ⟨ch, r, s, d, (recd spec0540 ch r (d.assign ((SMap.entries d.act.images).map Prod.fst)) [mk64 [at' (d.assign ((SMap.entries d.act.images).map Prod.fst)) 32]] d), by decide +kernel, ⟨(by decide +kernel), (by decide +kernel), rfl, (by decide +kernel)⟩, by delta Recorded; decide +kernel⟩
  · let ch : Nat := 4096
    let r : Req := rq [3 + (2 <<< 32)]
    let s : State := st (TD th)
    let d : Dev := tk spec0541 r s.dev
    exact ⟨ch, r, s, d, (img), by decide +kernel, ⟨(by decide +kernel), (by decide +kernel), rfl, (by decide +kernel)⟩, by decide +kernel⟩
  · let ch : Nat := 4096
    let r : Req := rq [3 + (2 <<< 32)]
    let s : State := st noG
    let d : Dev := tk spec0541 r s.dev
    exact ⟨ch, r, s, d, (img), (recd spec0541 ch r 2 [] d), by decide +kernel, ⟨(by decide +kernel), (by decide +kernel), rfl, (by decide +kernel)⟩, by delta Recorded; decide +kernel⟩
  · let ch : Nat := 4
    let r : Req := rq [3 + (2 <<< 32)]
    let s : State := st ((TD th).setSlice 4 ac)
    let d : Dev := tkc 4 spec0541 r s.dev
    exact ⟨ch, r, s, d, by decide +kernel, ⟨(by decide +kernel), (by decide +kernel), rfl, (by decide +kernel)⟩, by decide +kernel⟩
  · let ch : Nat := 4096
    let r : Req := rq [3 + (5 <<< 32)]
    let s : State := st noG
    let d : Dev := tk spec0541 r s.dev
    exact ⟨ch, r, s, d, by decide +kernel, ⟨(by decide +kernel), (by decide +kernel), rfl, (by decide +kernel)⟩, by decide +kernel⟩
  · let ch : Nat := 4
    let r : Req := rq [3 + (2 <<< 32)]
    let s : State := st ((TD th).setSlice 4 ac)
    let d : Dev := tkc 4 spec0543 r s.dev
    exact ⟨ch, r, s, d, by decide +kernel, ⟨(by decide +kernel), (by decide +kernel), rfl, (by decide +kernel)⟩, by decide +kernel⟩
  · let ch : Nat := 4096
    let r : Req := rq [3 + (5 <<< 32)]
    let s : State := st noG
    let d : Dev := tk spec0543 r s.dev
    exact ⟨ch, r, s, d, by decide +kernel, ⟨(by decide +kernel), (by decide +kernel), rfl, (by decide +kernel)⟩, by decide +kernel⟩
  · let ch : Nat := 4096
    let r : Req := rq [3 + (2 <<< 32)]
    let s : State := st (TD th)
    let d : Dev := tk spec0543 r s.dev
    let n := 7
    exact ⟨ch, r, s, d, n, (grp), by decide +kernel, ⟨(by decide +kernel), (by decide +kernel), rfl, (by decide +kernel)⟩, by decide +kernel⟩
  · let ch : Nat := 4
    let r : Req := rq [3 + (2 <<< 32)]
    let s : State := st ((TD th).setSlice 4 ac)
    let d : Dev := tkc 4 spec0545 r s.dev
    exact ⟨ch, r, s, d, by decide +kernel, ⟨(by decide +kernel), (by decide +kernel), rfl, (by decide +kernel)⟩, by decide +kernel⟩
  · let ch : Nat := 4096
    let r : Req := rq [3 + (5 <<< 32)]
    let s : State := st (TD th)
    let d : Dev := tk spec0545 r s.dev
    exact ⟨ch, r, s, d, by decide +kernel, ⟨(by decide +kernel), (by decide +kernel), rfl, (by decide +kernel)⟩, by decide +kernel⟩
  · let ch : Nat := 4096
    let r : Req := rq [3 + (2 <<< 32)]
    let s : State := st ((TD th).setSlice 3 { ac with state := .quiescing })
    let d : Dev := tk spec0545 r s.dev
    let n := 7
    exact ⟨ch, r, s, d, n, (grp), by decide +kernel, ⟨(by decide +kernel), (by decide +kernel), rfl, (by decide +kernel)⟩, by decide +kernel⟩
  · let ch : Nat := 4096
    let r : Req := rq [3 + (2 <<< 32) + (5 <<< 48)]
    let s : State := st (TD th)
    let d : Dev := tk spec0545 r s.dev
    let n := 7
    exact ⟨ch, r, s, d, n, (grp), by decide +kernel, ⟨(by decide +kernel), (by decide +kernel), rfl, (by decide +kernel)⟩, by decide +kernel⟩
  · let ch : Nat := 4096
    let r : Req := rq [1, 0 + (3 <<< 12) + (1 <<< 24) + (77 <<< 32), 5]
    let s : State := st bld
    let d : Dev := tk spec0544 r s.dev
    exact ⟨ch, r, s, d, (1), by decide +kernel, by delta Builds; decide +kernel, ⟨(by decide +kernel), (by decide +kernel), rfl, (by decide +kernel)⟩⟩
  · let ch : Nat := 4096
    let r : Req := rq [5]
    let s : State := st bld
    let d : Dev := tk spec0546 r s.dev
    exact ⟨ch, r, s, d, by decide +kernel, ⟨(by decide +kernel), (by decide +kernel), rfl, (by decide +kernel)⟩, by decide +kernel⟩
  · let ch : Nat := 4096
    let r : Req := rq [0]
    let s : State := st (prog 3 (TD th))
    let d : Dev := tk spec0546 r s.dev
    exact ⟨ch, r, s, d, by decide +kernel, ⟨(by decide +kernel), (by decide +kernel), rfl, (by decide +kernel)⟩, by decide +kernel⟩
  · let ch : Nat := 4096
    let r : Req := gs 2
    let s : State := st (noG.setSlice 3 { ac with profile := { ac.profile with threadSlots := 1000 } })
    let d : Dev := tk spec0542 r s.dev
    exact ⟨ch, r, s, d, by decide +kernel, ⟨(by decide +kernel), (by decide +kernel), rfl, (by decide +kernel)⟩, by decide +kernel⟩
  · let ch : Nat := 4096
    let r : Req := gs 2
    let s : State := st noG
    let d : Dev := tk spec0542 r s.dev
    exact ⟨ch, r, s, d, ((placement d 2 1 2).getD []), (recd spec0542 ch r (d.assign (d.groupList.map Prod.fst)) [BitVec.ofNat 64 (d.assign (d.groupList.map Prod.fst))] d), by decide +kernel, ⟨(by decide +kernel), (by decide +kernel), rfl, (by decide +kernel)⟩, by delta Recorded; decide +kernel⟩
  · let ch : Nat := 4096
    let r : Req := gs 9
    let s : State := st noG
    let d : Dev := tk spec0542 r s.dev
    exact ⟨ch, r, s, d, by decide +kernel, ⟨(by decide +kernel), (by decide +kernel), rfl, (by decide +kernel)⟩, by decide +kernel⟩
  · let ch : Nat := 4096
    let r : Req := gs 4
    let s : State := st (TD th)
    let d : Dev := tk spec0542 r s.dev
    let g : Nat × Group := ((7 : Nat), grp)
    exact ⟨ch, r, s, d, g, ((placement d 2 1 2).getD []), (recd spec0542 ch r 7 [7] d), by decide +kernel, ⟨(by decide +kernel), (by decide +kernel), rfl, (by decide +kernel)⟩, by delta Recorded; decide +kernel⟩
  · let ch : Nat := 4096
    let r : Req := rq [3 + (2 <<< 32), 0, 0]
    let s : State := st (prog 3 (TD th))
    let d : Dev := tk spec0542 r s.dev
    let g : Nat × Group := ((7 : Nat), grp)
    exact ⟨ch, r, s, d, g, by decide +kernel, ⟨(by decide +kernel), (by decide +kernel), rfl, (by decide +kernel)⟩, by decide +kernel⟩
  · let ch : Nat := 4096
    let r : Req := rq [3 + (2 <<< 32), 0, 0]
    let s : State := st (TD th)
    let d : Dev := tk spec0542 r s.dev
    let g : Nat × Group := ((7 : Nat), grp)
    exact ⟨ch, r, s, d, g, (recd spec0542 ch r 7 [7] d), by decide +kernel, ⟨(by decide +kernel), (by decide +kernel), rfl, (by decide +kernel)⟩, by delta Recorded; decide +kernel⟩
  · let s : Dev := noG
    let h : Nat := 2
    let k : Nat := 1
    let n : Nat := 9
    let ts : List Nat := (placement noG 2 1 9).getD []
    exact ⟨s, h, k, n, ts, by decide +kernel⟩
  · let s : Dev := noG
    let h : Nat := 2
    let k : Nat := 1
    let n : Nat := 9
    let ts : List Nat := (placement noG 2 1 9).getD []
    exact ⟨s, h, k, n, ts, (((placement noG 2 1 9).getD []).headD 0), by decide +kernel⟩

end ProgramsAndGroupsW

namespace TrafficManagerW

def frm : List Byte := [2,2,3,4,5,6,6,8,9,10,11,12,0x08,0x00] ++ List.replicate 60 0x45
def pk0 : Pkt := Pkt.fresh (newTag up 0 7 0 frm) frm
def pk : Pkt := { pk0 with dest := .port 2, policer := 0x1FFFF, cls := 1 }
def M (mode aware mark : Bool) (o : Nat) : TMeter := ⟨o, mode, aware, mark, 4, 1000, 2000, 4096, 8192⟩
def R (a b : Nat) : MeterRun := ⟨a, b, 0, 7, 8, 9⟩
def tm (f : Tmg → Tmg) : Dev := { up with tmg := f up.tmg }
def lv (n : Nat) (m : TMeter) : Dev := tm (fun t => { t with live := { t.live with meters := [(n, some m)] } })
def mt (n : Nat) (m : TMeter) (r : MeterRun) : Dev := tm (fun t => { t with live := { t.live with meters := [(n, some m)] }, meters := [(n, some r)] })
def upE (d : Dev) : Dev := { d with eth := { up.eth with modes := [(0, 4)], ports := [(2, { newPort 2 4 with state := .up })] } }
def inp (p : Pkt) : State := st (tm (fun t => { t with input := [p] }))
def itm (p : Pkt) : TItem := ⟨3, p⟩
def q17 : Dev := (tm id).setTq 17 { QueueRun.empty with items := [itm pk, itm pk], cSpent := 5, pSpent := 9 }
def pUp : Dev := { q17 with eth := { up.eth with modes := [(0, 4)], ports := [(2, { newPort 2 4 with state := .up })] } }

/-- States and operands that meet the hypotheses of `Obligations.TrafficManager`, one part for each of its 29 cases that have hypotheses. -/
theorem witness_TrafficManager :
    (∃ m : TMeter, ∃ x : MeterRun, ∃ len : Nat, ∃ c0 : Nat, ∃ now : Time, (let r := (colour m x len c0 now).1; r = 2)) ∧
    (∃ m : TMeter, ∃ x : MeterRun, ∃ len : Nat, ∃ c0 : Nat, ∃ now : Time, (let r := (colour m x len c0 now).1; r = 1)) ∧
    (∃ m : TMeter, ∃ x : MeterRun, ∃ len : Nat, ∃ c0 : Nat, ∃ now : Time, (let r := (colour m x len c0 now).1; r = 0)) ∧
    (∃ m : TMeter, ∃ x : MeterRun, ∃ len : Nat, ∃ c0 : Nat, ∃ now : Time, (let r := (colour m x len c0 now).1; r = 0 ∧ m.mode = false)) ∧
    (∃ m : TMeter, ∃ x : MeterRun, ∃ len : Nat, ∃ c0 : Nat, ∃ now : Time, (let r := (colour m x len c0 now).1; r = 0 ∧ m.mode = true)) ∧
    (∃ m : TMeter, ∃ c0 : Nat, m.aware = true ∧ c0 ≠ 3) ∧
    (∃ m : TMeter, ∃ x : MeterRun, ∃ len : Nat, ∃ now : Time, (let b := 1024 * ((len : Int) + m.overhead).toNat; let tp := min (1024 * m.pbs) (x.tp + refill m.pir (Time.since now x.last)); m.mode = false ∧ tp < b)) ∧
    (∃ m : TMeter, ∃ x : MeterRun, ∃ len : Nat, ∃ now : Time, (let b := 1024 * ((len : Int) + m.overhead).toNat; let tc := min (1024 * m.cbs) (x.tc + refill m.cir (Time.since now x.last)); let tp := min (1024 * m.pbs) (x.tp + refill m.pir (Time.since now x.last)); m.mode = false ∧ m.aware = false ∧ b ≤ tp ∧ b ≤ tc)) ∧
    (∃ m : TMeter, ∃ x : MeterRun, ∃ len : Nat, ∃ now : Time, (let b := 1024 * ((len : Int) + m.overhead).toNat; let tc := min (1024 * m.cbs) (x.tc + refill m.cir (Time.since now x.last)); m.mode = true ∧ m.aware = false ∧ b ≤ tc)) ∧
    (∃ p : Pkt, ∃ port : Nat, ∃ s : Dev, ∃ m : TMeter, tmeter s.tmg.live (policerOf p port) = some m ∧ ((policerOf p port = 131071 → port = 75)) ∧ m.owner ≠ 0 ∧ m.owner ≠ p.tag.slice.toNat) ∧
    (∃ p : Pkt, ∃ port : Nat, ∃ s : Dev, ∃ m : TMeter, tmeter s.tmg.live (policerOf p port) = some m ∧ ((policerOf p port = 131071 → port = 75)) ∧ (m.owner = 0 ∨ m.owner = p.tag.slice.toNat)) ∧
    (∃ p : Pkt, ∃ port : Nat, ∃ s : Dev, ∃ m : TMeter, ∃ q, tmeter s.tmg.live (policerOf p port) = some m ∧ ((policerOf p port = 131071 → port = 75)) ∧ (m.owner = 0 ∨ m.owner = p.tag.slice.toNat) ∧ (police p port s).1 = some q) ∧
    (∃ p : Pkt, ∃ port : Nat, ∃ s : Dev, ∃ m : TMeter, ∃ q, tmeter s.tmg.live (policerOf p port) = some m ∧ ((policerOf p port = 131071 → port = 75)) ∧ (m.owner = 0 ∨ m.owner = p.tag.slice.toNat) ∧ (let r := (colour m (s.meterRun (policerOf p port) m) p.tag.length.toNat p.tag.colour.toNat s.now).1; (police p port s).1 = some q ∧ r = 2)) ∧
    (∃ p : Pkt, ∃ port : Nat, ∃ s : Dev, tmeter s.tmg.live (policerOf p port) = none) ∧
    (∃ s : State, s.dev.tmg.input = []) ∧
    (∃ s : State, ∃ p : Pkt, ∃ rest : List Pkt, ∃ m, s.dev.tmg.input = p :: rest ∧ p.marker = some m) ∧
    (∃ s : State, ∃ p : Pkt, ∃ rest : List Pkt, ∃ e, s.dev.tmg.input = p :: rest ∧ (let d := { s.dev with tmg := { s.dev.tmg with input := rest } }; p.marker = none ∧ p.tag.flag 2 = true ∧ p.dest = .port e ∧ ((d.tp e).control.map cellsOf).sum + cellsOf p ≤ 64)) ∧
    (∃ s : State, ∃ p : Pkt, ∃ rest : List Pkt, ∃ e, s.dev.tmg.input = p :: rest ∧ (let d := { s.dev with tmg := { s.dev.tmg with input := rest } }; p.marker = none ∧ p.tag.flag 2 = true ∧ p.dest = .port e ∧ 64 < ((d.tp e).control.map cellsOf).sum + cellsOf p)) ∧
    (∃ s : State, ∃ p : Pkt, ∃ rest : List Pkt, s.dev.tmg.input = p :: rest ∧ p.marker = none ∧ p.tag.flag 2 = false) ∧
    (∃ s : State, ∃ p : Pkt, ∃ rest : List Pkt, ∃ e, ∃ q, ∃ x, s.dev.tmg.input = p :: rest ∧ (let d := { s.dev with tmg := { s.dev.tmg with input := rest } }; p.marker = none ∧ p.tag.flag 2 = false ∧ p.mirror = 0 ∧ p.dest = .port e ∧ tmeter d.tmg.live (policerOf p e) = none ∧ d.egressOk e = true ∧ chooseQueue d e p.tag.slice.toNat p.cls p.tag.queue.toNat = .inr q ∧ tqueue d.tmg.live q = some x)) ∧
    (∃ s : State, ∃ p : Pkt, ∃ rest : List Pkt, ∃ e, s.dev.tmg.input = p :: rest ∧ (let d := { s.dev with tmg := { s.dev.tmg with input := rest } }; p.marker = none ∧ p.tag.flag 2 = false ∧ p.mirror = 0 ∧ p.dest = .port e ∧ tmeter d.tmg.live (policerOf p e) = none ∧ d.egressOk e = false)) ∧
    (∃ s : Dev, ∃ q : Nat, ∃ n : Nat, ∃ c : Nat, ∃ x : TQueue, admits s q n c x = true ∧ SMap.get 0 s.tmg.live.limits x.slice ≠ 0) ∧
    (∃ s : Dev, ∃ q : Nat, ∃ n : Nat, ∃ c : Nat, ∃ x : TQueue, admits s q n c x = true ∧ x.minCells < qCells (s.tq q) + n) ∧
    (∃ p : Nat, ∃ ue : Option Nat, ∃ s : State, ∃ k, ∃ rest, Wf.dequeue p ue = true ∧ (s.dev.tp p).control = k :: rest) ∧
    (∃ p : Nat, ∃ ue : Option Nat, ∃ s : State, Wf.dequeue p ue = true ∧ (s.dev.tp p).control = [] ∧ portEligible s.dev p = false) ∧
    (∃ p : Nat, ∃ ue : Option Nat, ∃ s : State, Wf.dequeue p ue = true ∧ (s.dev.tp p).control = [] ∧ portEligible s.dev p = true) ∧
    (∃ s : Dev, ∃ q : Nat, ∃ x : TQueue, SMap.rising s.tmg.queues = true ∧ tqueue s.tmg.live q = some x) ∧
    (∃ s : State, s.dev.regField isl.TMG 0x048 16 16 = 0) ∧
    (∃ s : State, s.dev.regField isl.TMG 0x048 16 16 = 1) := by
  refine ⟨?_, ?_, ?_, ?_, ?_, ?_, ?_, ?_, ?_, ?_, ?_, ?_, ?_, ?_, ?_, ?_, ?_, ?_, ?_, ?_, ?_, ?_, ?_, ?_, ?_, ?_, ?_, ?_, ?_⟩
  · let m : TMeter := M false false false 0
    let x : MeterRun := R 100 100
    let len : Nat := 70
    let c0 : Nat := 3
    let now : Time := 500
    exact ⟨m, x, len, c0, now, by decide +kernel⟩
  · let m : TMeter := M false false false 0
    let x : MeterRun := R 100 80000
    let len : Nat := 70
    let c0 : Nat := 3
    let now : Time := 500
    exact ⟨m, x, len, c0, now, by decide +kernel⟩
  · let m : TMeter := M false false false 0
    let x : MeterRun := R 80000 80000
    let len : Nat := 70
    let c0 : Nat := 3
    let now : Time := 500
    exact ⟨m, x, len, c0, now, by decide +kernel⟩
  · let m : TMeter := M false false false 0
    let x : MeterRun := R 80000 80000
    let len : Nat := 70
    let c0 : Nat := 3
    let now : Time := 500
    exact ⟨m, x, len, c0, now, by decide +kernel⟩
  · let m : TMeter := M true false false 0
    let x : MeterRun := R 80000 80000
    let len : Nat := 70
    let c0 : Nat := 3
    let now : Time := 500
    exact ⟨m, x, len, c0, now, by decide +kernel⟩
  · let m : TMeter := M false true false 0
    let x : MeterRun := R 80000 80000
    let len : Nat := 70
    let c0 : Nat := 1
    let now : Time := 500
    exact ⟨m, c0, by decide +kernel⟩
  · let m : TMeter := M false true false 0
    let x : MeterRun := R 80000 100
    let len : Nat := 70
    let c0 : Nat := 1
    let now : Time := 500
    exact ⟨m, x, len, now, by decide +kernel⟩
  · let m : TMeter := M false false false 0
    let x : MeterRun := R 80000 80000
    let len : Nat := 70
    let c0 : Nat := 1
    let now : Time := 500
    exact ⟨m, x, len, now, by decide +kernel⟩
  · let m : TMeter := M true false false 0
    let x : MeterRun := R 80000 80000
    let len : Nat := 70
    let c0 : Nat := 1
    let now : Time := 500
    exact ⟨m, x, len, now, by decide +kernel⟩
  · let p : Pkt := { pk with policer := 5 }
    let port : Nat := 2
    let s : Dev := lv 5 (M false false false 9)
    let m : TMeter := M false false false 9
    exact ⟨p, port, s, m, by decide +kernel⟩
  · let p : Pkt := { pk with policer := 5 }
    let port : Nat := 2
    let s : Dev := mt 5 (M false false false 0) (R 100 100)
    let m : TMeter := M false false false 0
    exact ⟨p, port, s, m, by decide +kernel⟩
  · let p : Pkt := { pk with policer := 5 }
    let port : Nat := 2
    let s : Dev := mt 5 (M false false false 0) (R 800000 800000)
    let m : TMeter := M false false false 0
    exact ⟨p, port, s, m, (((police p port s).1).getD pk), by decide +kernel⟩
  · let p : Pkt := { pk with policer := 5 }
    let port : Nat := 2
    let s : Dev := mt 5 (M false false true 0) (R 100 100)
    let m : TMeter := M false false true 0
    exact ⟨p, port, s, m, (((police p port s).1).getD pk), by decide +kernel⟩
  · let p : Pkt := pk
    let port : Nat := 2
    let s : Dev := up
    exact ⟨p, port, s, by decide +kernel⟩
  · let lost : Bool := false
    let s : State := st up
    exact ⟨s, by decide +kernel⟩
  · let lost : Bool := false
    let s : State := inp { pk with marker := some ⟨false, 1, 1, 5, 0⟩ }
    let p : Pkt := { pk with marker := some ⟨false, 1, 1, 5, 0⟩ }
    let rest : List Pkt := []
    exact ⟨s, p, rest, (⟨false, 1, 1, 5, 0⟩), by decide +kernel⟩
  · let lost : Bool := false
    let s : State := inp { pk with tag := pk.tag.setFlag 2 }
    let p : Pkt := { pk with tag := pk.tag.setFlag 2 }
    let rest : List Pkt := []
    exact ⟨s, p, rest, (2), by decide +kernel⟩
  · let lost : Bool := false
    let s : State := st ((tm (fun t => { t with input := [{ pk with tag := pk.tag.setFlag 2 }] })).setTp 2 { PortRun.empty with control := List.replicate 64 pk })
    let p : Pkt := { pk with tag := pk.tag.setFlag 2 }
    let rest : List Pkt := []
    exact ⟨s, p, rest, (2), by decide +kernel⟩
  · let lost : Bool := false
    let s : State := inp pk
    let p : Pkt := pk
    let rest : List Pkt := []
    exact ⟨s, p, rest, by decide +kernel⟩
  · let lost : Bool := false
    let s : State := st (upE (tm (fun t => { t with input := [pk] })))
    let p : Pkt := pk
    let rest : List Pkt := []
    let x := ((tqueue s.dev.tmg.live 17).getD ⟨0,0,0,0,0,0,0,0,0,0,0,0,0,0⟩)
    exact ⟨s, p, rest, (2), (17), x, by decide +kernel⟩
  · let lost : Bool := false
    let s : State := inp pk
    let p : Pkt := pk
    let rest : List Pkt := []
    exact ⟨s, p, rest, (2), by decide +kernel⟩
  · let s : Dev := tm (fun t => { t with live := { t.live with limits := [(0, 10)] } })
    let q : Nat := 17
    let n : Nat := 1
    let c : Nat := 0
    let x : TQueue := ((tqueue s.tmg.live 17).getD ⟨0,0,0,0,0,0,0,0,0,0,0,0,0,0⟩)
    exact ⟨s, q, n, c, x, by decide +kernel⟩
  · let s : Dev := tm (fun t => { t with live := { t.live with limits := [(0, 10)] } })
    let q : Nat := 17
    let n : Nat := 1
    let c : Nat := 0
    let x : TQueue := ((tqueue s.tmg.live 17).getD ⟨0,0,0,0,0,0,0,0,0,0,0,0,0,0⟩)
    exact ⟨s, q, n, c, x, by decide +kernel⟩
  · let p : Nat := 2
    let ue : Option Nat := none
    let s : State := st ((tm id).setTp 2 { PortRun.empty with control := [pk] })
    exact ⟨p, ue, s, (pk), ([]), by decide +kernel⟩
  · let p : Nat := 2
    let ue : Option Nat := none
    let s : State := st (pUp.setTp 2 { PortRun.empty with spent := 10000000000000 })
    exact ⟨p, ue, s, by decide +kernel⟩
  · let p : Nat := 2
    let ue : Option Nat := none
    let s : State := st pUp
    exact ⟨p, ue, s, by decide +kernel⟩
  · let s : Dev := q17
    let q : Nat := 17
    let x : TQueue := ((tqueue s.tmg.live 17).getD ⟨0,0,0,0,0,0,0,0,0,0,0,0,0,0⟩)
    exact ⟨s, q, x, by decide +kernel⟩
  · let s : State := st (up.setRegWord 10 0x48 { value := 256, pend := 0, pendMask := 0 })
    exact ⟨s, by decide +kernel⟩
  · let s : State := st (up.setRegWord 10 0x48 { value := 256 + 65536, pend := 0, pendMask := 0 })
    exact ⟨s, by decide +kernel⟩

end TrafficManagerW

namespace TmgCommandsW

def ac : Slice := { Slice.free with state := .active, pasid := 5, profile := { Profile.slice0 with schedQueues := 2, policers := 1 } }
def one : Dev := up.setSlice 3 ac
def cf (f : TmgCfg → TmgCfg) : Dev := { one with tmg := { one.tmg with cfg := f one.tmg.cfg, live := f one.tmg.live } }
def nd (g : Nat) : TNode := ⟨g, 0, 0, 0⟩
theorem get_rep {α : Type} (d x : α) (n j k : Nat) (h : j ≠ k) : SMap.get d (List.replicate n (j, x)) k = d := by
  induction n with
  | zero => rfl
  | succ n ih => rw [List.replicate_succ, SMap.get, if_neg h, ih]
theorem count_rep (c : TmgCfg) (n : Nat) (h : c.nodes = List.replicate n (4096 * 5 + 1, some (nd 0))) : nodeCount c = 76 + n := by
  rw [nodeCount, h, List.filter_replicate_of_pos (by decide +kernel), List.filter_replicate_of_neg (by decide +kernel), List.length_replicate]
  rfl
def tq3 (port : Nat) : TQueue := { slice := 3, port := port, cls := 1, prio := 0, cir := 0, pir := 0, cbs := 0, pbs := 0, qweight := 1, minCells := 0, maxCells := 10, alpha := 1, yellow := 5, red := 5 }
def itm : TItem := ⟨3, Pkt.fresh (newTag up 3 0 0 [1]) [1]⟩
def tm3 : TMeter := ⟨3, false, false, false, 0, 5, 6, 7, 8⟩
def Qw (v : W64) : List W64 := [3 + (2 <<< 12) + (1 <<< 20) + v, 5 + (9 <<< 32), 100 + (200 <<< 32), 7 + (5 <<< 16) + (100 <<< 32), 50 + (20 <<< 8)]

/-- States and operands that meet the hypotheses of `Obligations.TmgCommands`, one part for each of its 40 cases that have hypotheses. -/
theorem witness_TmgCommands :
    (∃ ch : Nat, ∃ r : Req, ∃ s : State, ∃ d : Dev, cmdWf ch r = true ∧ Accepted spec0600 ch r s.dev d ∧ (let w := r.word 0; (75 < fld w 7 0 ∨ signed7 (fld w 14 8) < -32))) ∧
    (∃ ch : Nat, ∃ r : Req, ∃ s : State, ∃ d : Dev, cmdWf ch r = true ∧ Accepted spec0600 ch r s.dev d ∧ (let w := r.word 0; fld w 7 0 ≤ 75 ∧ -32 ≤ signed7 (fld w 14 8))) ∧
    (∃ ch : Nat, ∃ r : Req, ∃ s : State, ∃ d : Dev, cmdWf ch r = true ∧ Accepted spec0601 ch r s.dev d ∧ (let w := r.word 0; let p := fld w 7 0; let g := fld w 11 8; (75 < p ∨ (bit w 12 = false ∧ g = 0)))) ∧
    (∃ ch : Nat, ∃ r : Req, ∃ s : State, ∃ d : Dev, cmdWf ch r = true ∧ Accepted spec0601 ch r s.dev d ∧ (let w := r.word 0; let w1 := r.word 1; let p := fld w 7 0; p ≤ 75 ∧ bit w 12 = true ∧ 1 ≤ fld w 25 16 ∧ fld w 25 16 ≤ 1000 ∧ (fld w1 63 32 = 0 ∨ fld w1 31 0 ≤ fld w1 63 32))) ∧
    (∃ ch : Nat, ∃ r : Req, ∃ s : State, ∃ d : Dev, cmdWf ch r = true ∧ Accepted spec0601 ch r s.dev d ∧ (let w := r.word 0; let w1 := r.word 1; bit w 12 = true ∧ fld w1 63 32 ≠ 0 ∧ fld w1 63 32 < fld w1 31 0)) ∧
    (∃ ch : Nat, ∃ r : Req, ∃ s : State, ∃ d : Dev, cmdWf ch r = true ∧ Accepted spec0601 ch r s.dev d ∧ (let w := r.word 0; let c := d.tmg.cfg; let p := fld w 7 0; let g := fld w 11 8; p ≤ 75 ∧ bit w 12 = false ∧ g ≠ 0 ∧ groupInUse c p g = true)) ∧
    (∃ ch : Nat, ∃ r : Req, ∃ s : State, ∃ d : Dev, cmdWf ch r = true ∧ Accepted spec0601 ch r s.dev d ∧ (let w := r.word 0; let c := d.tmg.cfg; let p := fld w 7 0; let g := fld w 11 8; p ≤ 75 ∧ bit w 12 = false ∧ g ≠ 0 ∧ groupInUse c p g = false)) ∧
    (∃ ch : Nat, ∃ r : Req, ∃ s : State, ∃ d : Dev, cmdWf ch r = true ∧ Accepted spec0602 ch r s.dev d ∧ (let w := r.word 0; let sl := fld w 11 0; let p := fld w 19 12; (75 < p ∨ (d.slice sl).state = .free))) ∧
    (∃ ch : Nat, ∃ r : Req, ∃ s : State, ∃ d : Dev, cmdWf ch r = true ∧ Accepted spec0602 ch r s.dev d ∧ (let w := r.word 0; let c := d.tmg.cfg; let sl := fld w 11 0; let p := fld w 19 12; p ≤ 75 ∧ (d.slice sl).state ≠ .free ∧ bit w 24 = true ∧ tgroup c p (fld w 23 20) ≠ none ∧ ((tnode c p sl).isSome = true ∨ nodeCount c < 16384))) ∧
    (∃ ch : Nat, ∃ r : Req, ∃ s : State, ∃ d : Dev, cmdWf ch r = true ∧ Accepted spec0602 ch r s.dev d ∧ (let w := r.word 0; let c := d.tmg.cfg; let sl := fld w 11 0; let p := fld w 19 12; p ≤ 75 ∧ (d.slice sl).state ≠ .free ∧ bit w 24 = true ∧ tgroup c p (fld w 23 20) ≠ none ∧ tnode c p sl = none ∧ 16384 ≤ nodeCount c)) ∧
    (∃ ch : Nat, ∃ r : Req, ∃ s : State, ∃ d : Dev, cmdWf ch r = true ∧ Accepted spec0602 ch r s.dev d ∧ (let w := r.word 0; let c := d.tmg.cfg; let sl := fld w 11 0; let p := fld w 19 12; p ≤ 75 ∧ (d.slice sl).state ≠ .free ∧ bit w 24 = false ∧ queuesOf c p sl ≠ [])) ∧
    (∃ ch : Nat, ∃ r : Req, ∃ s : State, ∃ d : Dev, cmdWf ch r = true ∧ Accepted spec0602 ch r s.dev d ∧ (let w := r.word 0; let c := d.tmg.cfg; let sl := fld w 11 0; let p := fld w 19 12; p ≤ 75 ∧ (d.slice sl).state ≠ .free ∧ bit w 24 = false ∧ queuesOf c p sl = [])) ∧
    (∃ ch : Nat, ∃ r : Req, ∃ s : State, ∃ d : Dev, cmdWf ch r = true ∧ Accepted spec0603 ch r s.dev d ∧ (let w := r.word 0; (d.slice (fld w 11 0)).state = .free)) ∧
    (∃ ch : Nat, ∃ r : Req, ∃ s : State, ∃ d : Dev, cmdWf ch r = true ∧ Accepted spec0603 ch r s.dev d ∧ (let w := r.word 0; (d.slice (fld w 11 0)).state ≠ .free)) ∧
    (∃ ch : Nat, ∃ r : Req, ∃ s : State, ∃ d : Dev, cmdWf ch r = true ∧ Accepted spec0604 ch r s.dev d ∧ (let x := queueOfWords r.words; 75 < x.port)) ∧
    (∃ ch : Nat, ∃ r : Req, ∃ s : State, ∃ d : Dev, cmdWf ch r = true ∧ Accepted spec0604 ch r s.dev d ∧ (let w := r.word 0; let c := d.tmg.cfg; let x := queueOfWords r.words; let q := fld w 47 32; x.port ≤ 75 ∧ bit w 26 = true ∧ bit w 48 = false ∧ (d.slice x.slice).state ≠ .free ∧ 1 ≤ x.qweight ∧ x.qweight ≤ 1000 ∧ x.alpha ≤ 9 ∧ x.yellow ≤ 100 ∧ x.red ≤ 100 ∧ tqueue c q = none ∧ (tnode c x.port x.slice).isSome = true ∧ sharedPool c < x.minCells)) ∧
    (∃ ch : Nat, ∃ r : Req, ∃ s : State, ∃ d : Dev, cmdWf ch r = true ∧ Accepted spec0604 ch r s.dev d ∧ (let w := r.word 0; let c := d.tmg.cfg; let x := queueOfWords r.words; let q := fld w 47 32; x.port ≤ 75 ∧ bit w 26 = true ∧ bit w 48 = false ∧ (d.slice x.slice).state ≠ .free ∧ 1 ≤ x.qweight ∧ x.qweight ≤ 1000 ∧ x.alpha ≤ 9 ∧ x.yellow ≤ 100 ∧ x.red ≤ 100 ∧ tqueue c q = none ∧ (tnode c x.port x.slice).isSome = true ∧ x.minCells ≤ sharedPool c ∧ (queuesOfSlice c x.slice).length < (d.slice x.slice).profile.schedQueues)) ∧
    (∃ ch : Nat, ∃ r : Req, ∃ s : State, ∃ d : Dev, cmdWf ch r = true ∧ Accepted spec0604 ch r s.dev d ∧ (let w := r.word 0; let c := d.tmg.cfg; let x := queueOfWords r.words; let q := fld w 47 32; x.port ≤ 75 ∧ bit w 26 = true ∧ bit w 48 = false ∧ (d.slice x.slice).state ≠ .free ∧ 1 ≤ x.qweight ∧ x.qweight ≤ 1000 ∧ x.alpha ≤ 9 ∧ x.yellow ≤ 100 ∧ x.red ≤ 100 ∧ tqueue c q = none ∧ (tnode c x.port x.slice).isSome = true ∧ x.minCells ≤ sharedPool c ∧ (d.slice x.slice).profile.schedQueues ≤ (queuesOfSlice c x.slice).length)) ∧
    (∃ ch : Nat, ∃ r : Req, ∃ s : State, ∃ d : Dev, cmdWf ch r = true ∧ Accepted spec0604 ch r s.dev d ∧ (let w := r.word 0; let c := d.tmg.cfg; let x := queueOfWords r.words; x.port ≤ 75 ∧ bit w 26 = true ∧ bit w 48 = true ∧ (d.slice x.slice).state ≠ .free ∧ 1 ≤ x.qweight ∧ x.qweight ≤ 1000 ∧ x.alpha ≤ 9 ∧ x.yellow ≤ 100 ∧ x.red ≤ 100 ∧ freeQueue c < 65536 ∧ (tnode c x.port x.slice).isSome = true ∧ x.minCells ≤ sharedPool c ∧ (queuesOfSlice c x.slice).length < (d.slice x.slice).profile.schedQueues)) ∧
    (∃ ch : Nat, ∃ r : Req, ∃ s : State, ∃ d : Dev, ∃ y, cmdWf ch r = true ∧ Accepted spec0604 ch r s.dev d ∧ (let w := r.word 0; let c := d.tmg.cfg; let x := queueOfWords r.words; let q := fld w 47 32; x.port ≤ 75 ∧ bit w 26 = true ∧ bit w 48 = false ∧ (d.slice x.slice).state ≠ .free ∧ 1 ≤ x.qweight ∧ x.qweight ≤ 1000 ∧ x.alpha ≤ 9 ∧ x.yellow ≤ 100 ∧ x.red ≤ 100 ∧ tqueue c q = some y ∧ (y.slice ≠ x.slice ∨ y.port ≠ x.port ∨ y.cls ≠ x.cls))) ∧
    (∃ ch : Nat, ∃ r : Req, ∃ s : State, ∃ d : Dev, ∃ y, cmdWf ch r = true ∧ Accepted spec0604 ch r s.dev d ∧ (let w := r.word 0; let c := d.tmg.cfg; let x := queueOfWords r.words; let q := fld w 47 32; x.port ≤ 75 ∧ bit w 26 = true ∧ bit w 48 = false ∧ (d.slice x.slice).state ≠ .free ∧ 1 ≤ x.qweight ∧ x.qweight ≤ 1000 ∧ x.alpha ≤ 9 ∧ x.yellow ≤ 100 ∧ x.red ≤ 100 ∧ tqueue c q = some y ∧ y.slice = x.slice ∧ y.port = x.port ∧ y.cls = x.cls ∧ x.minCells ≤ y.minCells + sharedPool c ∧ (tnode c x.port x.slice).isSome = true)) ∧
    (∃ ch : Nat, ∃ r : Req, ∃ s : State, ∃ d : Dev, cmdWf ch r = true ∧ Accepted spec0604 ch r s.dev d ∧ (let w := r.word 0; let c := d.tmg.cfg; let x := queueOfWords r.words; let q := fld w 47 32; x.port ≤ 75 ∧ bit w 26 = false ∧ bit w 48 = false ∧ (tqueue c q).isSome = true ∧ qCells (d.tq q) ≠ 0)) ∧
    (∃ ch : Nat, ∃ r : Req, ∃ s : State, ∃ d : Dev, cmdWf ch r = true ∧ Accepted spec0604 ch r s.dev d ∧ (let w := r.word 0; let c := d.tmg.cfg; let x := queueOfWords r.words; let q := fld w 47 32; x.port ≤ 75 ∧ bit w 26 = false ∧ bit w 48 = false ∧ (tqueue c q).isSome = true ∧ qCells (d.tq q) = 0)) ∧
    (∃ ch : Nat, ∃ r : Req, ∃ s : State, ∃ d : Dev, cmdWf ch r = true ∧ Accepted spec0606 ch r s.dev d ∧ (let w := r.word 0; let m := fld w 16 0; let owner := fld w 31 20; m = 131071 ∧ owner ≠ 0)) ∧
    (∃ ch : Nat, ∃ r : Req, ∃ s : State, ∃ d : Dev, cmdWf ch r = true ∧ Accepted spec0606 ch r s.dev d ∧ (let w := r.word 0; let w1 := r.word 1; bit w 35 = true ∧ bit w 32 = false ∧ fld w1 63 32 < fld w1 31 0)) ∧
    (∃ ch : Nat, ∃ r : Req, ∃ s : State, ∃ d : Dev, cmdWf ch r = true ∧ Accepted spec0606 ch r s.dev d ∧ (let w := r.word 0; let w1 := r.word 1; let c := d.tmg.cfg; let m := fld w 16 0; let owner := fld w 31 20; -32 ≤ signed7 (fld w 46 40) ∧ ((m = 131071 → owner = 0)) ∧ bit w 35 = true ∧ (d.slice owner).state ≠ .free ∧ (bit w 32 = true ∨ fld w1 31 0 ≤ fld w1 63 32) ∧ tmeter c m = none ∧ metersOf c owner < (d.slice owner).profile.policers)) ∧
    (∃ ch : Nat, ∃ r : Req, ∃ s : State, ∃ d : Dev, cmdWf ch r = true ∧ Accepted spec0606 ch r s.dev d ∧ (let w := r.word 0; let w1 := r.word 1; let c := d.tmg.cfg; let m := fld w 16 0; let owner := fld w 31 20; -32 ≤ signed7 (fld w 46 40) ∧ ((m = 131071 → owner = 0)) ∧ bit w 35 = true ∧ (d.slice owner).state ≠ .free ∧ (bit w 32 = true ∨ fld w1 31 0 ≤ fld w1 63 32) ∧ tmeter c m = none ∧ m = 131071)) ∧
    (∃ ch : Nat, ∃ r : Req, ∃ s : State, ∃ d : Dev, cmdWf ch r = true ∧ Accepted spec0606 ch r s.dev d ∧ (let w := r.word 0; let w1 := r.word 1; let c := d.tmg.cfg; let m := fld w 16 0; let owner := fld w 31 20; -32 ≤ signed7 (fld w 46 40) ∧ ((m = 131071 → owner = 0)) ∧ bit w 35 = true ∧ (d.slice owner).state ≠ .free ∧ (bit w 32 = true ∨ fld w1 31 0 ≤ fld w1 63 32) ∧ tmeter c m = none ∧ m ≠ 131071 ∧ (d.slice owner).profile.policers ≤ metersOf c owner)) ∧
    (∃ ch : Nat, ∃ r : Req, ∃ s : State, ∃ d : Dev, cmdWf ch r = true ∧ ((∃ h ∈ floodHosts r.words, h.1 = 3)) ∧ Accepted spec0608 ch r s.dev d) ∧
    (∃ ch : Nat, ∃ r : Req, ∃ s : State, ∃ d : Dev, cmdWf ch r = true ∧ ((∀ h ∈ floodHosts r.words, h.1 < 3)) ∧ Accepted spec0608 ch r s.dev d) ∧
    (∃ ch : Nat, ∃ r : Req, ∃ s : State, ∃ d : Dev, cmdWf ch r = true ∧ Accepted spec0609 ch r s.dev d ∧ (let w := r.word 0; fld w 3 0 = 0)) ∧
    (∃ ch : Nat, ∃ r : Req, ∃ s : State, ∃ d : Dev, cmdWf ch r = true ∧ Accepted spec0609 ch r s.dev d ∧ (let w := r.word 0; let w1 := r.word 1; fld w 3 0 ≠ 0 ∧ (bit w 4 = false ∨ (fld w 15 8 ≤ 75 ∧ (fld w 31 16 = 0 ∨ (64 ≤ fld w 31 16 ∧ fld w 31 16 ≤ 16384)) ∧ fld w1 15 0 ≠ 0)))) ∧
    (∃ ch : Nat, ∃ r : Req, ∃ s : State, ∃ d : Dev, cmdWf ch r = true ∧ Accepted spec0605 ch r s.dev d ∧ (let w := r.word 0; let q := fld w 15 0; tqueue d.tmg.live q = none)) ∧
    (∃ ch : Nat, ∃ r : Req, ∃ s : State, ∃ d : Dev, ∃ x, cmdWf ch r = true ∧ Accepted spec0605 ch r s.dev d ∧ (let w := r.word 0; let q := fld w 15 0; tqueue d.tmg.live q = some x ∧ ch < 4096 ∧ ch ≠ x.slice)) ∧
    (∃ ch : Nat, ∃ r : Req, ∃ s : State, ∃ d : Dev, ∃ x, cmdWf ch r = true ∧ Accepted spec0605 ch r s.dev d ∧ (let w := r.word 0; let q := fld w 15 0; tqueue d.tmg.live q = some x ∧ (4096 ≤ ch ∨ ch = x.slice))) ∧
    (∃ ch : Nat, ∃ r : Req, ∃ s : State, ∃ d : Dev, cmdWf ch r = true ∧ Accepted spec0607 ch r s.dev d ∧ (let w := r.word 0; let m := fld w 16 0; tmeter d.tmg.live m = none)) ∧
    (∃ ch : Nat, ∃ r : Req, ∃ s : State, ∃ d : Dev, ∃ x, cmdWf ch r = true ∧ Accepted spec0607 ch r s.dev d ∧ (let w := r.word 0; let m := fld w 16 0; tmeter d.tmg.live m = some x ∧ (4096 ≤ ch ∨ ch = x.owner))) ∧
    (∃ n : Nat, ∃ q, q ≠ n) ∧
    (∃ ws : List W64, (let w := ws.getD 0 0; bit w 26 = true ∧ bit w 27 = true)) ∧
    (∃ ws : List W64, (let w := ws.getD 0 0; bit w 26 = true)) := by
  refine ⟨?_, ?_, ?_, ?_, ?_, ?_, ?_, ?_, ?_, ?_, ?_, ?_, ?_, ?_, ?_, ?_, ?_, ?_, ?_, ?_, ?_, ?_, ?_, ?_, ?_, ?_, ?_, ?_, ?_, ?_, ?_, ?_, ?_, ?_, ?_, ?_, ?_, ?_, ?_, ?_⟩
  · let ch : Nat := 4096
    let r : Req := rq [2 + (64 <<< 8)]
    let s : State := st one
    let d : Dev := tk spec0600 r s.dev
    exact ⟨ch, r, s, d, by decide +kernel, ⟨(by decide +kernel), (by decide +kernel), rfl, (by decide +kernel)⟩, by decide +kernel⟩
  · let ch : Nat := 4096
    let r : Req := rq [75 + (96 <<< 8), 7 + (9 <<< 32), 5]
    let s : State := st one
    let d : Dev := tk spec0600 r s.dev
    exact ⟨ch, r, s, d, by decide +kernel, ⟨(by decide +kernel), (by decide +kernel), rfl, (by decide +kernel)⟩, by decide +kernel⟩
  · let ch : Nat := 4096
    let r : Req := rq [2]
    let s : State := st one
    let d : Dev := tk spec0601 r s.dev
    exact ⟨ch, r, s, d, by decide +kernel, ⟨(by decide +kernel), (by decide +kernel), rfl, (by decide +kernel)⟩, by decide +kernel⟩
  · let ch : Nat := 4096
    let r : Req := rq [2 + (15 <<< 8) + (1 <<< 12) + (1000 <<< 16), 7 + (7 <<< 32)]
    let s : State := st one
    let d : Dev := tk spec0601 r s.dev
    exact ⟨ch, r, s, d, by decide +kernel, ⟨(by decide +kernel), (by decide +kernel), rfl, (by decide +kernel)⟩, by decide +kernel⟩
  · let ch : Nat := 4096
    let r : Req := rq [2 + (15 <<< 8) + (1 <<< 12) + (1000 <<< 16), 8 + (7 <<< 32)]
    let s : State := st one
    let d : Dev := tk spec0601 r s.dev
    exact ⟨ch, r, s, d, by decide +kernel, ⟨(by decide +kernel), (by decide +kernel), rfl, (by decide +kernel)⟩, by decide +kernel⟩
  · let ch : Nat := 4096
    let r : Req := rq [2 + (5 <<< 8)]
    let s : State := st (cf (fun c => { c with nodes := [(4096 * 2 + 3, some (nd 5))] }))
    let d : Dev := tk spec0601 r s.dev
    let c := d.tmg.cfg
    exact ⟨ch, r, s, d, by decide +kernel, ⟨(by decide +kernel), (by decide +kernel), rfl, (by decide +kernel)⟩, by decide +kernel⟩
  · let ch : Nat := 4096
    let r : Req := rq [2 + (5 <<< 8)]
    let s : State := st one
    let d : Dev := tk spec0601 r s.dev
    exact ⟨ch, r, s, d, by decide +kernel, ⟨(by decide +kernel), (by decide +kernel), rfl, (by decide +kernel)⟩, by decide +kernel⟩
  · let ch : Nat := 4096
    let r : Req := rq [9 + (2 <<< 12)]
    let s : State := st one
    let d : Dev := tk spec0602 r s.dev
    exact ⟨ch, r, s, d, by decide +kernel, ⟨(by decide +kernel), (by decide +kernel), rfl, (by decide +kernel)⟩, by decide +kernel⟩
  · let ch : Nat := 4096
    let r : Req := rq [3 + (2 <<< 12) + (1 <<< 24)]
    let s : State := st one
    let d : Dev := tk spec0602 r s.dev
    exact ⟨ch, r, s, d, by decide +kernel, ⟨(by decide +kernel), (by decide +kernel), rfl, (by decide +kernel)⟩, by decide +kernel⟩
  · let ch : Nat := 4096
    let r : Req := rq [3 + (2 <<< 12) + (1 <<< 24)]
    let s : State := st (cf (fun c => { c with nodes := List.replicate 16400 (4096 * 5 + 1, some (nd 0)) }))
    let d : Dev := tk spec0602 r s.dev
    let c := d.tmg.cfg
    refine ⟨ch, r, s, d, ?_⟩
    exact ⟨by decide +kernel, ⟨by decide +kernel, by decide +kernel, rfl, by decide +kernel⟩, by decide +kernel, by decide +kernel, by decide +kernel, by decide +kernel, (get_rep _ _ _ _ _ (by decide +kernel)).trans (by decide +kernel), Nat.le_trans (by decide) (Nat.le_of_eq (count_rep _ _ rfl).symm)⟩
  · let ch : Nat := 4096
    let r : Req := rq [3 + (2 <<< 12)]
    let s : State := st (cf (fun c => { c with queues := [(700, some (tq3 2))], nodes := [(4096 * 2 + 3, some (nd 0))] }))
    let d : Dev := tk spec0602 r s.dev
    let c := d.tmg.cfg
    exact ⟨ch, r, s, d, by decide +kernel, ⟨(by decide +kernel), (by decide +kernel), rfl, (by decide +kernel)⟩, by decide +kernel⟩
  · let ch : Nat := 4096
    let r : Req := rq [3 + (2 <<< 12)]
    let s : State := st one
    let d : Dev := tk spec0602 r s.dev
    exact ⟨ch, r, s, d, by decide +kernel, ⟨(by decide +kernel), (by decide +kernel), rfl, (by decide +kernel)⟩, by decide +kernel⟩
  · let ch : Nat := 4096
    let r : Req := rq [9 + (100 <<< 32)]
    let s : State := st one
    let d : Dev := tk spec0603 r s.dev
    exact ⟨ch, r, s, d, by decide +kernel, ⟨(by decide +kernel), (by decide +kernel), rfl, (by decide +kernel)⟩, by decide +kernel⟩
  · let ch : Nat := 4096
    let r : Req := rq [3 + (100 <<< 32)]
    let s : State := st one
    let d : Dev := tk spec0603 r s.dev
    exact ⟨ch, r, s, d, by decide +kernel, ⟨(by decide +kernel), (by decide +kernel), rfl, (by decide +kernel)⟩, by decide +kernel⟩
  · let ch : Nat := 4096
    let r : Req := rq [3 + (76 <<< 12)]
    let s : State := st one
    let d : Dev := tk spec0604 r s.dev
    exact ⟨ch, r, s, d, by decide +kernel, ⟨(by decide +kernel), (by decide +kernel), rfl, (by decide +kernel)⟩, by decide +kernel⟩
  · let ch : Nat := 4096
    let r : Req := rq (Qw ((1 <<< 26) + (608 <<< 32)))
    let s : State := st (cf (fun c => { c with nodes := [(4096 * 2 + 3, some (nd 0))], queues := [(800, some { tq3 5 with minCells := 790000 })] }))
    let d : Dev := tk spec0604 r s.dev
    let c := d.tmg.cfg
    exact ⟨ch, r, s, d, by decide +kernel, ⟨(by decide +kernel), (by decide +kernel), rfl, (by decide +kernel)⟩, by decide +kernel⟩
  · let ch : Nat := 4096
    let r : Req := rq (Qw ((1 <<< 26) + (608 <<< 32)))
    let s : State := st (cf (fun c => { c with nodes := [(4096 * 2 + 3, some (nd 0))] }))
    let d : Dev := tk spec0604 r s.dev
    let c := d.tmg.cfg
    exact ⟨ch, r, s, d, by decide +kernel, ⟨(by decide +kernel), (by decide +kernel), rfl, (by decide +kernel)⟩, by decide +kernel⟩
  · let ch : Nat := 4096
    let r : Req := rq (Qw ((1 <<< 26) + (608 <<< 32)))
    let s : State := st (cf (fun c => { c with nodes := [(4096 * 2 + 3, some (nd 0))], queues := [(701, some (tq3 5)), (702, some (tq3 5))] }))
    let d : Dev := tk spec0604 r s.dev
    let c := d.tmg.cfg
    exact ⟨ch, r, s, d, by decide +kernel, ⟨(by decide +kernel), (by decide +kernel), rfl, (by decide +kernel)⟩, by decide +kernel⟩
  · let ch : Nat := 4096
    let r : Req := rq (Qw ((1 <<< 26) + (1 <<< 48)))
    let s : State := st (cf (fun c => { c with nodes := [(4096 * 2 + 3, some (nd 0))] }))
    let d : Dev := tk spec0604 r s.dev
    let c := d.tmg.cfg
    exact ⟨ch, r, s, d, by decide +kernel, ⟨(by decide +kernel), (by decide +kernel), rfl, (by decide +kernel)⟩, by decide +kernel⟩
  · let ch : Nat := 4096
    let r : Req := rq (Qw ((1 <<< 26) + (701 <<< 32)))
    let s : State := st (cf (fun c => { c with nodes := [(4096 * 2 + 3, some (nd 0))], queues := [(701, some (tq3 5))] }))
    let d : Dev := tk spec0604 r s.dev
    let c := d.tmg.cfg
    exact ⟨ch, r, s, d, (tq3 5), by decide +kernel, ⟨(by decide +kernel), (by decide +kernel), rfl, (by decide +kernel)⟩, by decide +kernel⟩
  · let ch : Nat := 4096
    let r : Req := rq (Qw ((1 <<< 26) + (701 <<< 32)))
    let s : State := st (cf (fun c => { c with nodes := [(4096 * 2 + 3, some (nd 0))], queues := [(701, some (tq3 2))] }))
    let d : Dev := tk spec0604 r s.dev
    let c := d.tmg.cfg
    exact ⟨ch, r, s, d, (tq3 2), by decide +kernel, ⟨(by decide +kernel), (by decide +kernel), rfl, (by decide +kernel)⟩, by decide +kernel⟩
  · let ch : Nat := 4096
    let r : Req := rq (Qw (701 <<< 32))
    let s : State := st ((cf (fun c => { c with nodes := [(4096 * 2 + 3, some (nd 0))], queues := [(701, some (tq3 5)), (702, some (tq3 5))] })).setTq 701 { QueueRun.empty with items := [itm] })
    let d : Dev := tk spec0604 r s.dev
    let c := d.tmg.cfg
    exact ⟨ch, r, s, d, by decide +kernel, ⟨(by decide +kernel), (by decide +kernel), rfl, (by decide +kernel)⟩, by decide +kernel⟩
  · let ch : Nat := 4096
    let r : Req := rq (Qw (701 <<< 32))
    let s : State := st ((cf (fun c => { c with nodes := [(4096 * 2 + 3, some (nd 0))], queues := [(701, some (tq3 5)), (702, some (tq3 5))] })))
    let d : Dev := tk spec0604 r s.dev
    let c := d.tmg.cfg
    exact ⟨ch, r, s, d, by decide +kernel, ⟨(by decide +kernel), (by decide +kernel), rfl, (by decide +kernel)⟩, by decide +kernel⟩
  · let ch : Nat := 4096
    let r : Req := rq [131071 + (3 <<< 20) + (1 <<< 35)]
    let s : State := st one
    let d : Dev := tk spec0606 r s.dev
    exact ⟨ch, r, s, d, by decide +kernel, ⟨(by decide +kernel), (by decide +kernel), rfl, (by decide +kernel)⟩, by decide +kernel⟩
  · let ch : Nat := 4096
    let r : Req := rq [9 + (3 <<< 20) + (1 <<< 35), 9 + (8 <<< 32)]
    let s : State := st one
    let d : Dev := tk spec0606 r s.dev
    exact ⟨ch, r, s, d, by decide +kernel, ⟨(by decide +kernel), (by decide +kernel), rfl, (by decide +kernel)⟩, by decide +kernel⟩
  · let ch : Nat := 4096
    let r : Req := rq [9 + (3 <<< 20) + (1 <<< 35), 8 + (8 <<< 32)]
    let s : State := st one
    let d : Dev := tk spec0606 r s.dev
    exact ⟨ch, r, s, d, by decide +kernel, ⟨(by decide +kernel), (by decide +kernel), rfl, (by decide +kernel)⟩, by decide +kernel⟩
  · let ch : Nat := 4096
    let r : Req := rq [131071 + (1 <<< 35), 9 + (9 <<< 32)]
    let s : State := st one
    let d : Dev := tk spec0606 r s.dev
    exact ⟨ch, r, s, d, by decide +kernel, ⟨(by decide +kernel), (by decide +kernel), rfl, (by decide +kernel)⟩, by decide +kernel⟩
  · let ch : Nat := 4096
    let r : Req := rq [9 + (3 <<< 20) + (1 <<< 35), 8 + (8 <<< 32)]
    let s : State := st (cf (fun c => { c with meters := [(5, some tm3)] }))
    let d : Dev := tk spec0606 r s.dev
    let c := d.tmg.cfg
    exact ⟨ch, r, s, d, by decide +kernel, ⟨(by decide +kernel), (by decide +kernel), rfl, (by decide +kernel)⟩, by decide +kernel⟩
  · let ch : Nat := 4096
    let r : Req := rq [5 + (1 <<< 12), 7, 0, 0x1C0000, 0]
    let s : State := st one
    let d : Dev := tk spec0608 r s.dev
    exact ⟨ch, r, s, d, by decide +kernel, by decide +kernel, ⟨(by decide +kernel), (by decide +kernel), rfl, (by decide +kernel)⟩⟩
  · let ch : Nat := 4096
    let r : Req := rq [5 + (1 <<< 12), 7, 0, 0x180009, 0x180001]
    let s : State := st one
    let d : Dev := tk spec0608 r s.dev
    exact ⟨ch, r, s, d, by decide +kernel, by decide +kernel, ⟨(by decide +kernel), (by decide +kernel), rfl, (by decide +kernel)⟩⟩
  · let ch : Nat := 4096
    let r : Req := rq [0 + (1 <<< 4)]
    let s : State := st one
    let d : Dev := tk spec0609 r s.dev
    exact ⟨ch, r, s, d, by decide +kernel, ⟨(by decide +kernel), (by decide +kernel), rfl, (by decide +kernel)⟩, by decide +kernel⟩
  · let ch : Nat := 4096
    let r : Req := rq [15 + (1 <<< 4) + (75 <<< 8) + (16384 <<< 16), 1]
    let s : State := st one
    let d : Dev := tk spec0609 r s.dev
    exact ⟨ch, r, s, d, by decide +kernel, ⟨(by decide +kernel), (by decide +kernel), rfl, (by decide +kernel)⟩, by decide +kernel⟩
  · let ch : Nat := 4096
    let r : Req := rqi [700]
    let s : State := st one
    let d : Dev := tk spec0605 r s.dev
    exact ⟨ch, r, s, d, by decide +kernel, ⟨(by decide +kernel), (by decide +kernel), rfl, (by decide +kernel)⟩, by decide +kernel⟩
  · let ch : Nat := 3
    let r : Req := rqi [5]
    let s : State := st one
    let d : Dev := tkc 3 spec0605 r s.dev
    let x := (tqueue d.tmg.live 5).getD (tq3 0)
    exact ⟨ch, r, s, d, x, by decide +kernel, ⟨(by decide +kernel), (by decide +kernel), rfl, (by decide +kernel)⟩, by decide +kernel⟩
  · let ch : Nat := 4096
    let r : Req := rqi [5]
    let s : State := st one
    let d : Dev := tk spec0605 r s.dev
    let x := (tqueue d.tmg.live 5).getD (tq3 0)
    exact ⟨ch, r, s, d, x, by decide +kernel, ⟨(by decide +kernel), (by decide +kernel), rfl, (by decide +kernel)⟩, by decide +kernel⟩
  · let ch : Nat := 4096
    let r : Req := rqi [5]
    let s : State := st one
    let d : Dev := tk spec0607 r s.dev
    exact ⟨ch, r, s, d, by decide +kernel, ⟨(by decide +kernel), (by decide +kernel), rfl, (by decide +kernel)⟩, by decide +kernel⟩
  · let ch : Nat := 4096
    let r : Req := rqi [5]
    let s : State := st (cf (fun c => { c with meters := [(5, some tm3)] }))
    let d : Dev := tk spec0607 r s.dev
    let c := d.tmg.cfg
    let x := tm3
    exact ⟨ch, r, s, d, x, by decide +kernel, ⟨(by decide +kernel), (by decide +kernel), rfl, (by decide +kernel)⟩, by decide +kernel⟩
  · let n : Nat := 700
    let ws : List W64 := Qw ((1 <<< 26) + (1 <<< 27))
    let c : TmgCfg := one.tmg.cfg
    exact ⟨n, (701), by decide +kernel⟩
  · let n : Nat := 700
    let ws : List W64 := Qw ((1 <<< 26) + (1 <<< 27))
    let c : TmgCfg := one.tmg.cfg
    exact ⟨ws, by decide +kernel⟩
  · let n : Nat := 700
    let ws : List W64 := Qw ((1 <<< 26) + (1 <<< 27))
    let c : TmgCfg := one.tmg.cfg
    exact ⟨ws, by decide +kernel⟩

end TmgCommandsW

namespace LinkBlocksW

def B0 : Bundle := { Bundle.reset with state := .up, accepted := true, width := 16, lanesOk := 0xFFFF, peerNode := 5, peerBundle := 1, rxNext := 7, txSeq := 4 }
def dst (f : StringSt → StringSt) (d : Dev) : Dev := { d with str := f d.str }
def bun (x : Bundle) (d : Dev) : Dev := dst (fun s => { s with bundles := [(0, x), (1, { B0 with peerNode := 9 })] }) d
def S0 : Dev := bun B0 { dst (fun s => { s with node := 3, mode := 1, state := .settled, members := [3, 5, 9], epoch := 4, highEpoch := 4, topology := 2 }) up with now := 10000 }
def S (x : Bundle) : Dev := bun x S0
def hdr (seq ack : Nat) (av nak vc1 sof eof ab idle : Bool) : List Byte :=
  beBytes (seq * 2^52 + ack * 2^40 + b2n av * 2^39 + b2n nak * 2^38 + b2n vc1 * 2^37 + b2n sof * 2^36 + b2n eof * 2^35 + b2n ab * 2^34 + 255 * 2^26 + 3 * 2^18 + 2 * 2^10 + b2n idle * 2^9) 8
def fixUp (h : List Byte) : List Byte := (beBytes (crc32c (BitVec.allOnes 32) h).toNat 4).reverse
def blkB (seq ack : Nat) (av nak vc1 sof eof ab idle : Bool) : List Byte :=
  ((hdr seq ack av nak vc1 sof eof ab idle ++ fixUp (hdr seq ack av nak vc1 sof eof ab idle)) ++ List.replicate 252 0) ++ [255, 255, 255, 255]
theorem crc_zeros (n : Nat) : crc32c 0 (List.replicate n 0) = 0 := by
  induction n with
  | zero => rfl
  | succ n ih => rw [List.replicate_succ, crc32c, List.foldl_cons, show crc32cByte 0 0 = 0 by decide +kernel]; exact ih
theorem good_of {a : List Byte} (h : a.length = 12) (hc : crc32c (BitVec.allOnes 32) a = 0) :
    beNat ((((a ++ List.replicate 252 0) ++ [255, 255, 255, 255]).drop 264).take 4) = (~~~ (crc32c (BitVec.allOnes 32) (((a ++ List.replicate 252 0) ++ [255, 255, 255, 255]).take 264))).toNat := by
  have hl : (a ++ List.replicate 252 (0 : Byte)).length = 264 := by rw [List.length_append, h, List.length_replicate]
  have hz : crc32c (BitVec.allOnes 32) (a ++ List.replicate 252 0) = 0 := by
    rw [crc32c, List.foldl_append]; rw [crc32c] at hc; rw [hc]; exact crc_zeros 252
  rw [← hl, List.drop_left, List.take_left, hz]; decide +kernel
theorem bad_of {a : List Byte} (h : a.length = 12) (hc : crc32c (BitVec.allOnes 32) a = 0) :
    ¬ beNat ((((a ++ List.replicate 252 0) ++ [255, 255, 255, 254]).drop 264).take 4) = (~~~ (crc32c (BitVec.allOnes 32) (((a ++ List.replicate 252 0) ++ [255, 255, 255, 254]).take 264))).toNat := by
  have hl : (a ++ List.replicate 252 (0 : Byte)).length = 264 := by rw [List.length_append, h, List.length_replicate]
  have hz : crc32c (BitVec.allOnes 32) (a ++ List.replicate 252 0) = 0 := by
    rw [crc32c, List.foldl_append]; rw [crc32c] at hc; rw [hc]; exact crc_zeros 252
  rw [← hl, List.drop_left, List.take_left, hz]; decide +kernel
def ub (q : BitVec 12) (n : Nat) : LinkBlock × Nat := (⟨q, false, true, false, false, [1]⟩, n)
def Bu (n : Nat) : Bundle := { B0 with unacked := [ub 2 0, ub 3 n], asm1 := [9] }

/-- States and operands that meet the hypotheses of `Obligations.LinkBlocks`, one part for each of its 10 cases that have hypotheses. -/
theorem witness_LinkBlocks :
    (∃ b : Nat, ∃ bs : List Byte, ∃ s : State, Wf.linkBlockReceive b bs = true ∧ (let x := s.dev.bundle b; let runs := x.state ≠ .down ∧ x.state ≠ .refused; ¬ runs)) ∧
    (∃ b : Nat, ∃ bs : List Byte, ∃ s : State, Wf.linkBlockReceive b bs = true ∧ (let x := s.dev.bundle b; let good := beNat ((bs.drop 264).take 4) = (~~~ (crc32c (BitVec.allOnes 32) (bs.take 264))).toNat; let runs := x.state ≠ .down ∧ x.state ≠ .refused; runs ∧ ¬ good)) ∧
    (∃ b : Nat, ∃ bs : List Byte, ∃ s : State, Wf.linkBlockReceive b bs = true ∧ (let x := s.dev.bundle b; let k := linkIn bs; let good := beNat ((bs.drop 264).take 4) = (~~~ (crc32c (BitVec.allOnes 32) (bs.take 264))).toNat; let runs := x.state ≠ .down ∧ x.state ≠ .refused; runs ∧ good ∧ k.ackValid = false ∧ x.txq = [] ∧ k.idle = true)) ∧
    (∃ b : Nat, ∃ bs : List Byte, ∃ s : State, Wf.linkBlockReceive b bs = true ∧ (let x := s.dev.bundle b; let k := linkIn bs; let good := beNat ((bs.drop 264).take 4) = (~~~ (crc32c (BitVec.allOnes 32) (bs.take 264))).toNat; let runs := x.state ≠ .down ∧ x.state ≠ .refused; runs ∧ good ∧ k.ackValid = false ∧ x.txq = [] ∧ k.idle = false ∧ k.seq ≠ x.rxNext)) ∧
    (∃ b : Nat, ∃ bs : List Byte, ∃ s : State, Wf.linkBlockReceive b bs = true ∧ (let x := s.dev.bundle b; let k := linkIn bs; let good := beNat ((bs.drop 264).take 4) = (~~~ (crc32c (BitVec.allOnes 32) (bs.take 264))).toNat; let runs := x.state ≠ .down ∧ x.state ≠ .refused; runs ∧ good ∧ k.ackValid = false ∧ x.txq = [] ∧ k.idle = false ∧ k.seq = x.rxNext)) ∧
    (∃ b : Nat, ∃ bs : List Byte, ∃ s : State, Wf.linkBlockReceive b bs = true ∧ (let x := s.dev.bundle b; let k := linkIn bs; let good := beNat ((bs.drop 264).take 4) = (~~~ (crc32c (BitVec.allOnes 32) (bs.take 264))).toNat; let runs := x.state ≠ .down ∧ x.state ≠ .refused; runs ∧ good ∧ k.ackValid = true ∧ k.idle = true ∧ x.txq = [] ∧ k.nak = false)) ∧
    (∃ b : Nat, ∃ bs : List Byte, ∃ s : State, Wf.linkBlockReceive b bs = true ∧ (let x := s.dev.bundle b; let k := linkIn bs; let good := beNat ((bs.drop 264).take 4) = (~~~ (crc32c (BitVec.allOnes 32) (bs.take 264))).toNat; let runs := x.state ≠ .down ∧ x.state ≠ .refused; runs ∧ good ∧ k.ackValid = true ∧ k.idle = true ∧ x.txq = [] ∧ (let left := x.unacked.filter (fun e => decide (2048 ≤ (k.ackSeq - e.1.seq).toNat)); k.nak = true ∧ ((∀ e ∈ left, e.2 < 16))))) ∧
    (∃ b : Nat, ∃ s : State, b < 8 ∧ (let x := s.dev.bundle b; x.unacked = [])) ∧
    (∃ b : Nat, ∃ s : State, b < 8 ∧ (let x := s.dev.bundle b; x.unacked ≠ [] ∧ ((∀ e ∈ x.unacked, e.2 < 16)))) ∧
    (∃ b : Nat, ∃ s : State, b < 8 ∧ (let x := s.dev.bundle b; ((∃ e ∈ x.unacked, 16 ≤ e.2)) ∧ x.state = .up)) := by
  refine ⟨?_, ?_, ?_, ?_, ?_, ?_, ?_, ?_, ?_, ?_⟩
  · let b : Nat := 0
    let bs : List Byte := blkB 7 0 false false false true true false false
    let s : State := st (S { B0 with state := .down })
    exact ⟨b, bs, s, by decide +kernel⟩
  · let b : Nat := 0
    let bs : List Byte := ((hdr 7 0 false false false true true false false ++ fixUp (hdr 7 0 false false false true true false false)) ++ List.replicate 252 0) ++ [255, 255, 255, 254]
    let s : State := st (S B0)
    refine ⟨b, bs, s, ?_⟩
    exact ⟨by decide +kernel, by decide +kernel, bad_of (by decide +kernel) (by decide +kernel)⟩
  · let b : Nat := 0
    let bs : List Byte := blkB 7 0 false false false true true false true
    let s : State := st (S B0)
    refine ⟨b, bs, s, ?_⟩
    exact ⟨by decide +kernel, by decide +kernel, good_of (by decide +kernel) (by decide +kernel), by decide +kernel⟩
  · let b : Nat := 0
    let bs : List Byte := blkB 8 0 false false false true true false false
    let s : State := st (S B0)
    refine ⟨b, bs, s, ?_⟩
    exact ⟨by decide +kernel, by decide +kernel, good_of (by decide +kernel) (by decide +kernel), by decide +kernel⟩
  · let b : Nat := 0
    let bs : List Byte := blkB 7 0 false false false true true false false
    let s : State := st (S B0)
    refine ⟨b, bs, s, ?_⟩
    exact ⟨by decide +kernel, by decide +kernel, good_of (by decide +kernel) (by decide +kernel), by decide +kernel⟩
  · let b : Nat := 0
    let bs : List Byte := blkB 7 2 true false false false false false true
    let s : State := st (S (Bu 15))
    refine ⟨b, bs, s, ?_⟩
    exact ⟨by decide +kernel, by decide +kernel, good_of (by decide +kernel) (by decide +kernel), by decide +kernel⟩
  · let b : Nat := 0
    let bs : List Byte := blkB 7 2 true true false false false false true
    let s : State := st (S (Bu 15))
    refine ⟨b, bs, s, ?_⟩
    exact ⟨by decide +kernel, by decide +kernel, good_of (by decide +kernel) (by decide +kernel), by decide +kernel⟩
  · let b : Nat := 0
    let s : State := st (S B0)
    exact ⟨b, s, by decide +kernel⟩
  · let b : Nat := 0
    let s : State := st (S (Bu 15))
    exact ⟨b, s, by decide +kernel⟩
  · let b : Nat := 0
    let s : State := st (S (Bu 16))
    exact ⟨b, s, by decide +kernel⟩

end LinkBlocksW

namespace FramesOnTheStringW

def B0 : Bundle := { Bundle.reset with state := .up, accepted := true, width := 16, lanesOk := 0xFFFF, peerNode := 5, peerBundle := 1, rxNext := 7, txSeq := 4 }
def dst (f : StringSt → StringSt) (d : Dev) : Dev := { d with str := f d.str }
def bun (x : Bundle) (d : Dev) : Dev := dst (fun s => { s with bundles := [(0, x), (1, { B0 with peerNode := 9 })] }) d
def S0 : Dev := bun B0 { dst (fun s => { s with node := 3, mode := 1, state := .settled, members := [3, 5, 9], epoch := 4, highEpoch := 4, topology := 2 }) up with now := 10000 }
def S (x : Bundle) : Dev := bun x S0
def tg (o : Nat) (fl : BitVec 16) : Tag := { newTag S0 0 64 9950 [1,2,3] with originNode := BitVec.ofNat 20 o, flags := fl, colour := 0 }
def bod : List Byte := List.replicate 60 7
def fr (kind dest hops o : Nat) (body : List Byte) : LFrame := ⟨dest, kind, hops, { tg o (if kind < 2 then 0 else 2) with length := BitVec.ofNat 16 (body.length), vslot := 0, vcheck := 0 }, body, none⟩
def Fs (f : LFrame) : Dev := S { B0 with frames := [(decide (f.kind < 2), f.bytes)] }
def bad (bs : List Byte) : Dev := S { B0 with frames := [(true, bs)] }
def hbb : List Byte := ctlBody 4 77 (.tokenReq)
def rb : List Byte := ctlBody 4 77 (.reform 1)
def pkn (n : Nat) : Pkt := { Pkt.fresh (tg 3 0) bod with dest := .node n }
def fd : LFrame := fr 0 3 4 5 bod
def old : LFrame := let f := fd; { f with tag := { f.tag with entryTime := 281474976000000 } }
def pv (f : LFrame) : LFrame := (lanternParse (decide (f.kind < 2)) f.bytes).getD f
def vbad : LFrame := let f := fd; { f with tag := { f.tag with vslot := 1 } }
def blkq : Dev := (Fs fd).setXchan (distIsland 2) (pipeIsland (fd.tag.flowHash.toNat % 4096 % 8)) { Channel.reset with queue := [{ data := List.replicate 64 1, sop := true, eop := false, validBytes := 0, kind := .packet, poison := false, seq := 0, crc := 0 }] }
def fullq : Dev := (Fs fd).setBucket 2 (fd.tag.flowHash.toNat % 4096) { Bucket.home 1 with target := 2, inflight := 1, moveStart := 281474975000000, homeward := false, held := List.replicate 70 (Pkt.fresh fd.tag bod) } 
def cd (f : LFrame) : Dev := S { B0 with ctl := [f] }
def tl (a b : Nat) : Dev := S { B0 with transit := [fr 0 9 3 5 bod], localQ := [fr 0 9 3 3 bod], transitDeficit := a, localDeficit := b }
def fo (n h : Nat) (sl : Bool) : Found := ⟨n, h, sl⟩
def rss : List (Nat × List Found) := [(0, [fo 9 2 true, fo 4 3 false]), (1, [fo 9 3 false, fo 4 3 false])]

/-- States and operands that meet the hypotheses of `Obligations.FramesOnTheString`, one part for each of its 27 cases that have hypotheses. -/
theorem witness_FramesOnTheString :
    (∃ b : Nat, ∃ s : State, b < 8 ∧ (s.dev.bundle b).frames = []) ∧
    (∃ b : Nat, ∃ vc1 : Bool, ∃ bs : List Byte, ∃ rest : List (Bool × List Byte), ∃ s : State, b < 8 ∧ (s.dev.bundle b).frames = (vc1, bs) :: rest ∧ lanternParse vc1 bs = none) ∧
    (∃ b : Nat, ∃ vc1 : Bool, ∃ bs : List Byte, ∃ rest : List (Bool × List Byte), ∃ s : State, ∃ f, b < 8 ∧ (s.dev.bundle b).frames = (vc1, bs) :: rest ∧ lanternParse vc1 bs = some f ∧ tagBytesOk ((bs.drop 8).take 32) (bs.drop 40).length = false) ∧
    (∃ b : Nat, ∃ vc1 : Bool, ∃ bs : List Byte, ∃ rest : List (Bool × List Byte), ∃ s : State, ∃ f, b < 8 ∧ (s.dev.bundle b).frames = (vc1, bs) :: rest ∧ lanternParse vc1 bs = some f ∧ tagBytesOk ((bs.drop 8).take 32) (bs.drop 40).length = true ∧ s.dev.versionOk f.tag = false) ∧
    (∃ b : Nat, ∃ vc1 : Bool, ∃ bs : List Byte, ∃ rest : List (Bool × List Byte), ∃ s : State, ∃ f, b < 8 ∧ (s.dev.bundle b).frames = (vc1, bs) :: rest ∧ lanternParse vc1 bs = some f ∧ tagBytesOk ((bs.drop 8).take 32) (bs.drop 40).length = true ∧ s.dev.versionOk f.tag = true ∧ tooOld s.dev f.tag = true) ∧
    (∃ b : Nat, ∃ vc1 : Bool, ∃ bs : List Byte, ∃ rest : List (Bool × List Byte), ∃ s : State, ∃ f, b < 8 ∧ (s.dev.bundle b).frames = (vc1, bs) :: rest ∧ lanternParse vc1 bs = some f ∧ tagBytesOk ((bs.drop 8).take 32) (bs.drop 40).length = true ∧ s.dev.versionOk f.tag = true ∧ tooOld s.dev f.tag = false ∧ frameStalls s.dev f = true ∧ (let full := bucketFull s.dev 2 f.tag.flowHash ((f.body.length + 32 + 255) / 256); ((s.dev.bundle b).refused = true ∨ full = false))) ∧
    (∃ b : Nat, ∃ vc1 : Bool, ∃ bs : List Byte, ∃ rest : List (Bool × List Byte), ∃ s : State, ∃ f, b < 8 ∧ (s.dev.bundle b).frames = (vc1, bs) :: rest ∧ lanternParse vc1 bs = some f ∧ tagBytesOk ((bs.drop 8).take 32) (bs.drop 40).length = true ∧ s.dev.versionOk f.tag = true ∧ tooOld s.dev f.tag = false ∧ frameStalls s.dev f = true ∧ (let full := bucketFull s.dev 2 f.tag.flowHash ((f.body.length + 32 + 255) / 256); (s.dev.bundle b).refused = false ∧ full = true)) ∧
    (∃ b : Nat, ∃ vc1 : Bool, ∃ bs : List Byte, ∃ rest : List (Bool × List Byte), ∃ s : State, ∃ f, b < 8 ∧ (s.dev.bundle b).frames = (vc1, bs) :: rest ∧ lanternParse vc1 bs = some f ∧ tagBytesOk ((bs.drop 8).take 32) (bs.drop 40).length = true ∧ s.dev.versionOk f.tag = true ∧ tooOld s.dev f.tag = false ∧ frameStalls s.dev f = false ∧ Bundle.live (s.dev.bundle b) = false ∧ f.kind ≠ 4) ∧
    (∃ b : Nat, ∃ vc1 : Bool, ∃ bs : List Byte, ∃ rest : List (Bool × List Byte), ∃ s : State, ∃ f, b < 8 ∧ (s.dev.bundle b).frames = (vc1, bs) :: rest ∧ lanternParse vc1 bs = some f ∧ tagBytesOk ((bs.drop 8).take 32) (bs.drop 40).length = true ∧ s.dev.versionOk f.tag = true ∧ tooOld s.dev f.tag = false ∧ frameStalls s.dev f = false ∧ Bundle.live (s.dev.bundle b) = true ∧ f.kind = 0 ∧ f.dest = s.dev.str.node) ∧
    (∃ b : Nat, ∃ vc1 : Bool, ∃ bs : List Byte, ∃ rest : List (Bool × List Byte), ∃ s : State, ∃ f, b < 8 ∧ (s.dev.bundle b).frames = (vc1, bs) :: rest ∧ lanternParse vc1 bs = some f ∧ tagBytesOk ((bs.drop 8).take 32) (bs.drop 40).length = true ∧ s.dev.versionOk f.tag = true ∧ tooOld s.dev f.tag = false ∧ frameStalls s.dev f = false ∧ Bundle.live (s.dev.bundle b) = true ∧ (f.kind = 0 ∨ f.kind = 2) ∧ f.dest ≠ s.dev.str.node ∧ f.hops = 0) ∧
    (∃ b : Nat, ∃ vc1 : Bool, ∃ bs : List Byte, ∃ rest : List (Bool × List Byte), ∃ s : State, ∃ f, b < 8 ∧ (s.dev.bundle b).frames = (vc1, bs) :: rest ∧ (let s0 := s.dev.setBundle b { s.dev.bundle b with frames := rest, refused := false }; let s1 := if vc1 then returnCredit1 b ((bs.length + 255) / 256) s0 else s0; lanternParse vc1 bs = some f ∧ tagBytesOk ((bs.drop 8).take 32) (bs.drop 40).length = true ∧ s.dev.versionOk f.tag = true ∧ tooOld s.dev f.tag = false ∧ frameStalls s.dev f = false ∧ Bundle.live (s.dev.bundle b) = true ∧ (let t := countBy .lnkRxBytes b f.body.length (count .lnkRxFrames b s1); let o := 1 - b; f.kind = 0 ∧ f.dest ≠ s.dev.str.node ∧ f.hops ≠ 0 ∧ s.dev.str.mode = 1 ∧ (t.bundle o).state = .up))) ∧
    (∃ b : Nat, ∃ vc1 : Bool, ∃ bs : List Byte, ∃ rest : List (Bool × List Byte), ∃ s : State, ∃ f, b < 8 ∧ (s.dev.bundle b).frames = (vc1, bs) :: rest ∧ (let s0 := s.dev.setBundle b { s.dev.bundle b with frames := rest, refused := false }; let s1 := if vc1 then returnCredit1 b ((bs.length + 255) / 256) s0 else s0; lanternParse vc1 bs = some f ∧ tagBytesOk ((bs.drop 8).take 32) (bs.drop 40).length = true ∧ s.dev.versionOk f.tag = true ∧ tooOld s.dev f.tag = false ∧ frameStalls s.dev f = false ∧ Bundle.live (s.dev.bundle b) = true ∧ (let t := countBy .lnkRxBytes b f.body.length (count .lnkRxFrames b s1); let o := 1 - b; f.kind = 0 ∧ f.dest ≠ s.dev.str.node ∧ f.hops ≠ 0 ∧ s.dev.str.mode = 1 ∧ (t.bundle o).state ≠ .up))) ∧
    (∃ b : Nat, ∃ vc1 : Bool, ∃ bs : List Byte, ∃ rest : List (Bool × List Byte), ∃ s : State, ∃ f, b < 8 ∧ (s.dev.bundle b).frames = (vc1, bs) :: rest ∧ lanternParse vc1 bs = some f ∧ tagBytesOk ((bs.drop 8).take 32) (bs.drop 40).length = true ∧ s.dev.versionOk f.tag = true ∧ tooOld s.dev f.tag = false ∧ frameStalls s.dev f = false ∧ Bundle.live (s.dev.bundle b) = true ∧ f.kind = 1 ∧ f.hops = 0) ∧
    (∃ b : Nat, ∃ vc1 : Bool, ∃ bs : List Byte, ∃ rest : List (Bool × List Byte), ∃ s : State, ∃ f, b < 8 ∧ (s.dev.bundle b).frames = (vc1, bs) :: rest ∧ lanternParse vc1 bs = some f ∧ tagBytesOk ((bs.drop 8).take 32) (bs.drop 40).length = true ∧ s.dev.versionOk f.tag = true ∧ tooOld s.dev f.tag = false ∧ frameStalls s.dev f = false ∧ Bundle.live (s.dev.bundle b) = true ∧ f.kind = 1 ∧ f.hops ≠ 0 ∧ s.dev.str.mode = 1) ∧
    (∃ b : Nat, ∃ vc1 : Bool, ∃ bs : List Byte, ∃ rest : List (Bool × List Byte), ∃ s : State, ∃ f, b < 8 ∧ (s.dev.bundle b).frames = (vc1, bs) :: rest ∧ lanternParse vc1 bs = some f ∧ tagBytesOk ((bs.drop 8).take 32) (bs.drop 40).length = true ∧ s.dev.versionOk f.tag = true ∧ tooOld s.dev f.tag = false ∧ frameStalls s.dev f = false ∧ Bundle.live (s.dev.bundle b) = true ∧ f.kind = 2 ∧ f.dest = s.dev.str.node) ∧
    (∃ b : Nat, ∃ vc1 : Bool, ∃ bs : List Byte, ∃ rest : List (Bool × List Byte), ∃ s : State, ∃ f, b < 8 ∧ (s.dev.bundle b).frames = (vc1, bs) :: rest ∧ lanternParse vc1 bs = some f ∧ tagBytesOk ((bs.drop 8).take 32) (bs.drop 40).length = true ∧ s.dev.versionOk f.tag = true ∧ tooOld s.dev f.tag = false ∧ frameStalls s.dev f = false ∧ Bundle.live (s.dev.bundle b) = true ∧ f.kind = 3 ∧ f.tag.originNode.toNat = s.dev.str.node) ∧
    (∃ b : Nat, ∃ vc1 : Bool, ∃ bs : List Byte, ∃ rest : List (Bool × List Byte), ∃ s : State, ∃ f, b < 8 ∧ (s.dev.bundle b).frames = (vc1, bs) :: rest ∧ lanternParse vc1 bs = some f ∧ tagBytesOk ((bs.drop 8).take 32) (bs.drop 40).length = true ∧ s.dev.versionOk f.tag = true ∧ tooOld s.dev f.tag = false ∧ frameStalls s.dev f = false ∧ Bundle.live (s.dev.bundle b) = true ∧ f.kind = 3 ∧ f.tag.originNode.toNat ≠ s.dev.str.node ∧ f.hops = 0) ∧
    (∃ b : Nat, ∃ vc1 : Bool, ∃ bs : List Byte, ∃ rest : List (Bool × List Byte), ∃ s : State, ∃ f, ∃ h, ∃ m, b < 8 ∧ (s.dev.bundle b).frames = (vc1, bs) :: rest ∧ lanternParse vc1 bs = some f ∧ tagBytesOk ((bs.drop 8).take 32) (bs.drop 40).length = true ∧ s.dev.versionOk f.tag = true ∧ tooOld s.dev f.tag = false ∧ frameStalls s.dev f = false ∧ Bundle.live (s.dev.bundle b) = true ∧ f.kind = 4 ∧ ctlMsg f.tag.originNode.toNat f.body = some (h, m)) ∧
    (∃ b : Nat, ∃ vc1 : Bool, ∃ bs : List Byte, ∃ rest : List (Bool × List Byte), ∃ s : State, ∃ f, ∃ h, ∃ m, b < 8 ∧ (s.dev.bundle b).frames = (vc1, bs) :: rest ∧ lanternParse vc1 bs = some f ∧ tagBytesOk ((bs.drop 8).take 32) (bs.drop 40).length = true ∧ s.dev.versionOk f.tag = true ∧ tooOld s.dev f.tag = false ∧ frameStalls s.dev f = false ∧ Bundle.live (s.dev.bundle b) = true ∧ f.kind = 5 ∧ ctlMsg f.tag.originNode.toNat f.body = some (h, m) ∧ (h.org = s.dev.str.node ∨ (CtlBody.typ m, h.org, h.epoch.toNat) ∈ s.dev.str.relayed)) ∧
    (∃ b : Nat, ∃ s : State, ∃ f, ∃ rest, b < 8 ∧ (let d := applyBoundary .frameStart isl.LNK s.dev; let x := d.bundle b; x.ctl = f :: rest ∧ x.state ≠ .down ∧ x.state ≠ .refused ∧ Bundle.live x = true ∧ f.kind ≠ 4)) ∧
    (∃ b : Nat, ∃ s : State, ∃ f, ∃ rest, b < 8 ∧ (let d := applyBoundary .frameStart isl.LNK s.dev; let x := d.bundle b; x.ctl = f :: rest ∧ x.state = .up ∧ f.kind = 4 ∧ byteAt f.body 7 = 1)) ∧
    (∃ b : Nat, ∃ s : State, b < 8 ∧ (let d := applyBoundary .frameStart isl.LNK s.dev; let x := d.bundle b; let data := x.state = .up ∧ d.str.starting = false ∧ d.str.state ≠ .rejoining ∧ x.txq = []; x.ctl = [] ∧ ¬ data)) ∧
    (∃ b : Nat, ∃ s : State, ∃ f, ∃ fs, ∃ g, ∃ gs, b < 8 ∧ (let d := applyBoundary .frameStart isl.LNK s.dev; let x := d.bundle b; let data := x.state = .up ∧ d.str.starting = false ∧ d.str.state ≠ .rejoining ∧ x.txq = []; x.ctl = [] ∧ data ∧ x.transit = f :: fs ∧ x.localQ = g :: gs)) ∧
    (∃ n : Nat, ∃ p : Pkt, ∃ r : RouteTo, ∃ d : Dev, p.dest = .node n ∧ d.route n = some r ∧ p.tag.flag 2 = false ∧ tooOld d p.tag = false ∧ p.tag.flag 6 = false) ∧
    (∃ n : Nat, ∃ p : Pkt, ∃ r : RouteTo, ∃ d : Dev, p.dest = .node n ∧ d.route n = some r ∧ p.tag.flag 2 = true) ∧
    (∃ n : Nat, ∃ d : Dev, n ≠ d.str.node ∧ (d.route n).isSome = true) ∧
    (∃ d : Dev, d.str.mode = 1 ∧ d.str.topology = 2 ∧ d.str.members ≠ [] ∧ Bundle.live (d.bundle 0) = true) := by
  refine ⟨?_, ?_, ?_, ?_, ?_, ?_, ?_, ?_, ?_, ?_, ?_, ?_, ?_, ?_, ?_, ?_, ?_, ?_, ?_, ?_, ?_, ?_, ?_, ?_, ?_, ?_, ?_⟩
  · let b : Nat := 0
    let s : State := st (S B0)
    exact ⟨b, s, by decide +kernel⟩
  · let b : Nat := 0
    let vc1 : Bool := true
    let bs : List Byte := [1,2]
    let rest : List (Bool × List Byte) := []
    let s : State := st (bad [1,2])
    exact ⟨b, vc1, bs, rest, s, by decide +kernel⟩
  · let b : Nat := 0
    let vc1 : Bool := true
    let bs : List Byte := ({ fd with tag := { fd.tag with length := 99 } } : LFrame).bytes
    let rest : List (Bool × List Byte) := []
    let s : State := st (bad ({ fd with tag := { fd.tag with length := 99 } } : LFrame).bytes)
    exact ⟨b, vc1, bs, rest, s, (pv { fd with tag := { fd.tag with length := 99 } }), by decide +kernel⟩
  · let b : Nat := 0
    let vc1 : Bool := true
    let bs : List Byte := vbad.bytes
    let rest : List (Bool × List Byte) := []
    let s : State := st (bad vbad.bytes)
    exact ⟨b, vc1, bs, rest, s, (pv vbad), by decide +kernel⟩
  · let b : Nat := 0
    let vc1 : Bool := true
    let bs : List Byte := old.bytes
    let rest : List (Bool × List Byte) := []
    let s : State := st (bad old.bytes)
    exact ⟨b, vc1, bs, rest, s, (pv old), by decide +kernel⟩
  · let b : Nat := 0
    let vc1 : Bool := true
    let bs : List Byte := fd.bytes
    let rest : List (Bool × List Byte) := []
    let s : State := st blkq
    exact ⟨b, vc1, bs, rest, s, (pv fd), by decide +kernel⟩
  · let b : Nat := 0
    let vc1 : Bool := true
    let bs : List Byte := fd.bytes
    let rest : List (Bool × List Byte) := []
    let s : State := st fullq
    exact ⟨b, vc1, bs, rest, s, (pv fd), by decide +kernel⟩
  · let b : Nat := 0
    let vc1 : Bool := true
    let bs : List Byte := fd.bytes
    let rest : List (Bool × List Byte) := []
    let s : State := st ((Fs fd).setBundle 0 { (Fs fd).bundle 0 with state := .down, accepted := false })
    exact ⟨b, vc1, bs, rest, s, (pv fd), by decide +kernel⟩
  · let b : Nat := 0
    let vc1 : Bool := true
    let bs : List Byte := fd.bytes
    let rest : List (Bool × List Byte) := []
    let s : State := st (Fs fd)
    exact ⟨b, vc1, bs, rest, s, (pv fd), by decide +kernel⟩
  · let b : Nat := 0
    let vc1 : Bool := true
    let bs : List Byte := (fr 0 9 0 5 bod).bytes
    let rest : List (Bool × List Byte) := []
    let s : State := st (Fs (fr 0 9 0 5 bod))
    exact ⟨b, vc1, bs, rest, s, (pv (fr 0 9 0 5 bod)), by decide +kernel⟩
  · let b : Nat := 0
    let vc1 : Bool := true
    let bs : List Byte := (fr 0 9 3 5 bod).bytes
    let rest : List (Bool × List Byte) := []
    let s : State := st (Fs (fr 0 9 3 5 bod))
    exact ⟨b, vc1, bs, rest, s, (pv (fr 0 9 3 5 bod)), by decide +kernel⟩
  · let b : Nat := 0
    let vc1 : Bool := true
    let bs : List Byte := (fr 0 9 3 5 bod).bytes
    let rest : List (Bool × List Byte) := []
    let s : State := st ((Fs (fr 0 9 3 5 bod)).setBundle 1 { B0 with state := .training })
    exact ⟨b, vc1, bs, rest, s, (pv (fr 0 9 3 5 bod)), by decide +kernel⟩
  · let b : Nat := 0
    let vc1 : Bool := true
    let bs : List Byte := (fr 1 9 0 5 bod).bytes
    let rest : List (Bool × List Byte) := []
    let s : State := st (Fs (fr 1 9 0 5 bod))
    exact ⟨b, vc1, bs, rest, s, (pv (fr 1 9 0 5 bod)), by decide +kernel⟩
  · let b : Nat := 0
    let vc1 : Bool := true
    let bs : List Byte := (fr 1 9 1 5 bod).bytes
    let rest : List (Bool × List Byte) := []
    let s : State := st (Fs (fr 1 9 1 5 bod))
    exact ⟨b, vc1, bs, rest, s, (pv (fr 1 9 1 5 bod)), by decide +kernel⟩
  · let b : Nat := 0
    let vc1 : Bool := false
    let bs : List Byte := (fr 2 3 1 5 hbb).bytes
    let rest : List (Bool × List Byte) := []
    let s : State := st (Fs (fr 2 3 1 5 hbb))
    exact ⟨b, vc1, bs, rest, s, (pv (fr 2 3 1 5 hbb)), by decide +kernel⟩
  · let b : Nat := 0
    let vc1 : Bool := false
    let bs : List Byte := (fr 3 9 1 3 hbb).bytes
    let rest : List (Bool × List Byte) := []
    let s : State := st (Fs (fr 3 9 1 3 hbb))
    exact ⟨b, vc1, bs, rest, s, (pv (fr 3 9 1 3 hbb)), by decide +kernel⟩
  · let b : Nat := 0
    let vc1 : Bool := false
    let bs : List Byte := (fr 3 9 0 5 hbb).bytes
    let rest : List (Bool × List Byte) := []
    let s : State := st (Fs (fr 3 9 0 5 hbb))
    exact ⟨b, vc1, bs, rest, s, (pv (fr 3 9 0 5 hbb)), by decide +kernel⟩
  · let b : Nat := 0
    let vc1 : Bool := false
    let bs : List Byte := (fr 4 9 0 5 hbb).bytes
    let rest : List (Bool × List Byte) := []
    let s : State := st (Fs (fr 4 9 0 5 hbb))
    exact ⟨b, vc1, bs, rest, s, (pv (fr 4 9 0 5 hbb)), (⟨5, 4, 77⟩), (.tokenReq), by decide +kernel⟩
  · let b : Nat := 0
    let vc1 : Bool := false
    let bs : List Byte := (fr 5 9 0 3 rb).bytes
    let rest : List (Bool × List Byte) := []
    let s : State := st (Fs (fr 5 9 0 3 rb))
    exact ⟨b, vc1, bs, rest, s, (pv (fr 5 9 0 3 rb)), (⟨3, 4, 77⟩), (.reform 1), by decide +kernel⟩
  · let b : Nat := 0
    let s : State := st (cd (fr 2 3 1 5 hbb))
    exact ⟨b, s, (fr 2 3 1 5 hbb), ([]), by decide +kernel⟩
  · let b : Nat := 0
    let s : State := st (cd (fr 4 3 1 5 (ctlBody 4 77 (.heartbeat 1 2 3 4 ⟨[], 0, 0⟩))))
    exact ⟨b, s, (fr 4 3 1 5 (ctlBody 4 77 (.heartbeat 1 2 3 4 ⟨[], 0, 0⟩))), ([]), by decide +kernel⟩
  · let b : Nat := 0
    let s : State := st (S { B0 with state := .training })
    exact ⟨b, s, by decide +kernel⟩
  · let b : Nat := 0
    let s : State := st (tl 0 0)
    exact ⟨b, s, (fr 0 9 3 5 bod), ([]), (fr 0 9 3 3 bod), ([]), by decide +kernel⟩
  · let b : Nat := 0
    let n : Nat := 9
    let p : Pkt := pkn 9
    let r : RouteTo := ⟨0, 2, false, none, false, 0⟩
    let d : Dev := dst (fun s => { s with routes := [(9, some ⟨0, 2, false, none, false, 0⟩)] }) S0
    exact ⟨n, p, r, d, by decide +kernel⟩
  · let b : Nat := 0
    let n : Nat := 9
    let p : Pkt := { pkn 9 with tag := (pkn 9).tag.setFlag 2 }
    let r : RouteTo := ⟨0, 2, false, none, false, 0⟩
    let d : Dev := dst (fun s => { s with routes := [(9, some ⟨0, 2, false, none, false, 0⟩)] }) S0
    exact ⟨n, p, r, d, by decide +kernel⟩
  · let n : Nat := 9
    let seq : BitVec 32 := 5
    let m : CtlBody := .tokenReq
    let d : Dev := dst (fun s => { s with routes := [(9, some ⟨0, 2, false, none, false, 0⟩)] }) S0
    exact ⟨n, d, by decide +kernel⟩
  · let d : Dev := S0
    exact ⟨d, by decide +kernel⟩

end FramesOnTheStringW

namespace SlowMarksAndWidthsW

def B0 : Bundle := { Bundle.reset with state := .up, accepted := true, width := 16, lanesOk := 0xFFFF, peerNode := 5, peerBundle := 1, rxNext := 7, txSeq := 4 }
def dst (f : StringSt → StringSt) (d : Dev) : Dev := { d with str := f d.str }
def bun (x : Bundle) (d : Dev) : Dev := dst (fun s => { s with bundles := [(0, x), (1, { B0 with peerNode := 9 })] }) d
def S0 : Dev := bun B0 { dst (fun s => { s with node := 3, mode := 1, state := .settled, members := [3, 5, 9], epoch := 4, highEpoch := 4, topology := 2 }) up with now := 10000 }
def S (x : Bundle) : Dev := bun x S0
def Q : LFrame := ⟨9, 0, 3, newTag S0 0 64 9950 [1], [1], none⟩
def msg (b : CtlBody) : CtlMsg := { bundle := 0, hdr := ⟨5, 4, 9⟩, body := b }
def wIn (b : CtlBody) (d : Dev) : Dev := dst (fun x => { x with ctlIn := [msg b] }) d
def rt (mv : Option (Nat × Nat)) (md : Bool) : Dev := dst (fun s => { s with routes := [(9, some ⟨0, 2, false, mv, md, 0⟩)] }) (S { B0 with localQ := [Q, { Q with dest := 5 }] })
def reg (v : W64) (d : Dev) : Dev := d.setRegWord 5 0x38 { value := v, pend := 0, pendMask := 0 }
def onW : W64 := 1 + (20 <<< 8) + (70 <<< 16) + (100 <<< 32)

/-- States and operands that meet the hypotheses of `Obligations.SlowMarksAndWidths`, one part for each of its 30 cases that have hypotheses. -/
theorem witness_SlowMarksAndWidths :
    (∃ b : Nat, ∃ s : State, b < 8 ∧ (let y := s.dev.bundle b; let waits := y.transit ≠ [] ∨ y.localQ ≠ [] ∨ ∃ k ∈ y.txq, k.vc1 = true; b < s.dev.bundleCount ∧ (y.state = .up ∧ y.credit1 = 0 ∧ waits))) ∧
    (∃ b : Nat, ∃ s : State, b < 8 ∧ (let y := s.dev.bundle b; let waits := y.transit ≠ [] ∨ y.localQ ≠ [] ∨ ∃ k ∈ y.txq, k.vc1 = true; b < s.dev.bundleCount ∧ (¬ (y.state = .up ∧ y.credit1 = 0 ∧ waits)))) ∧
    (∃ b : Nat, ∃ s : State, b < 8 ∧ (let y := s.dev.bundle b; b < s.dev.bundleCount ∧ 0 < y.credit1)) ∧
    (∃ b : Nat, ∃ s : State, b < 8 ∧ (let y := s.dev.bundle b; b < s.dev.bundleCount ∧ y.credit1 = 0)) ∧
    (∃ b : Nat, ∃ s : State, b < 8 ∧ b < s.dev.bundleCount) ∧
    (∃ b : Nat, ∃ s : State, b < 8 ∧ s.dev.bundleCount ≤ b) ∧
    (∃ b : Nat, ∃ s : State, ∃ t, b < 8 ∧ (let d := creditSample s.dev; let x := d.bundle b; x.starved = some t ∧ x.slow = false)) ∧
    (∃ b : Nat, ∃ s : State, b < 8 ∧ (let d := creditSample s.dev; let x := d.bundle b; (x.starved = none ∨ x.slow = true))) ∧
    (∃ b : Nat, ∃ s : State, ∃ t, b < 8 ∧ (let d := creditSample s.dev; let x := d.bundle b; x.flowing = some t ∧ x.slow = true)) ∧
    (∃ b : Nat, ∃ s : State, b < 8 ∧ (let d := creditSample s.dev; let x := d.bundle b; (x.flowing = none ∨ x.slow = false))) ∧
    (∃ m : CtlMsg, ∃ k : Nat, ∃ slow : Bool, ∃ s : State, ∃ t : Dev, Arrived isLinkState m (k, slow) s.dev t) ∧
    (∃ m : CtlMsg, ∃ k : Nat, ∃ slow : Bool, ∃ s : State, ∃ t : Dev, t.str.topology ≠ 2 ∧ Arrived isLinkState m (k, slow) s.dev t) ∧
    (∃ n : Nat, ∃ s : State, Wf.rerouteDiscard n = true ∧ s.dev.route n = none) ∧
    (∃ n : Nat, ∃ s : State, ∃ r, Wf.rerouteDiscard n = true ∧ s.dev.route n = some r ∧ (r.moveTo = none ∨ r.mayDiscard = false)) ∧
    (∃ n : Nat, ∃ s : State, ∃ r, Wf.rerouteDiscard n = true ∧ s.dev.route n = some r ∧ r.moveTo ≠ none ∧ r.mayDiscard = true) ∧
    (∃ b : Nat, ∃ u : Nat, ∃ u10 : Nat, ∃ s : State, Wf.shedEvaluation b u u10 = true ∧ (let d := applyBoundary .bundleEval isl.LNK s.dev; let x := d.bundle b; x.state ≠ .up)) ∧
    (∃ b : Nat, ∃ u : Nat, ∃ u10 : Nat, ∃ s : State, Wf.shedEvaluation b u u10 = true ∧ (let d := applyBoundary .bundleEval isl.LNK s.dev; let x := d.bundle b; let on := d.regField isl.LNK 0x038 0 0 = 1; x.state = .up ∧ ¬ on)) ∧
    (∃ b : Nat, ∃ u : Nat, ∃ u10 : Nat, ∃ s : State, Wf.shedEvaluation b u u10 = true ∧ (let d := applyBoundary .bundleEval isl.LNK s.dev; let x := d.bundle b; let on := d.regField isl.LNK 0x038 0 0 = 1; let low := d.regField isl.LNK 0x038 14 8; x.state = .up ∧ on ∧ u < low ∧ 2 < x.width)) ∧
    (∃ b : Nat, ∃ u : Nat, ∃ u10 : Nat, ∃ s : State, Wf.shedEvaluation b u u10 = true ∧ (let d := applyBoundary .bundleEval isl.LNK s.dev; let x := d.bundle b; let on := d.regField isl.LNK 0x038 0 0 = 1; let low := d.regField isl.LNK 0x038 14 8; let high := d.regField isl.LNK 0x038 22 16; x.state = .up ∧ on ∧ (¬ (u < low ∧ 2 < x.width)) ∧ high ≤ u10 ∧ x.width < d.maxWidth)) ∧
    (∃ b : Nat, ∃ u : Nat, ∃ u10 : Nat, ∃ s : State, Wf.shedEvaluation b u u10 = true ∧ (let d := applyBoundary .bundleEval isl.LNK s.dev; let x := d.bundle b; let on := d.regField isl.LNK 0x038 0 0 = 1; let low := d.regField isl.LNK 0x038 14 8; let high := d.regField isl.LNK 0x038 22 16; x.state = .up ∧ on ∧ (¬ (u < low ∧ 2 < x.width)) ∧ (¬ (high ≤ u10 ∧ x.width < d.maxWidth)))) ∧
    (∃ m : CtlMsg, ∃ w : Nat, ∃ l : Bool, ∃ s : State, ∃ t : Dev, LinkArrived isLane m (w, l) s.dev t) ∧
    (∃ b : Nat, ∃ s : State, b < 8 ∧ (let d := s.dev; let x := d.bundle b; let narrow := 0 < x.proposed ∧ x.proposed < x.width ∧ 0 < x.peerProposed ∧ x.peerProposed < x.width; let wide := x.width < x.proposed ∨ x.width < x.peerProposed; (x.state ≠ .up ∨ (¬ narrow ∧ ¬ wide)))) ∧
    (∃ b : Nat, ∃ s : State, b < 8 ∧ (let d := s.dev; let x := d.bundle b; let narrow := 0 < x.proposed ∧ x.proposed < x.width ∧ 0 < x.peerProposed ∧ x.peerProposed < x.width; x.state = .up ∧ narrow)) ∧
    (∃ b : Nat, ∃ s : State, b < 8 ∧ (let d := s.dev; let x := d.bundle b; let wide := x.width < x.proposed ∨ x.width < x.peerProposed; let w := min (max x.proposed x.peerProposed) (widest x.lanesOk d.maxWidth); x.state = .up ∧ wide ∧ x.locked = true ∧ x.peerLocked = true ∧ x.width < w)) ∧
    (∃ b : Nat, ∃ s : State, b < 8 ∧ (let d := s.dev; let x := d.bundle b; let wide := x.width < x.proposed ∨ x.width < x.peerProposed; x.state = .up ∧ wide ∧ x.locked = false)) ∧
    (∃ b : Nat, ∃ lane : Nat, ∃ s : State, Wf.laneLockLoss b lane = true ∧ (let x := s.dev.bundle b; x.lanesOk.getLsbD lane = false)) ∧
    (∃ b : Nat, ∃ lane : Nat, ∃ s : State, Wf.laneLockLoss b lane = true ∧ (let x := s.dev.bundle b; let lanes := x.lanesOk &&& ~~~ (BitVec.ofNat 16 (2 ^ lane)); let w := widest lanes s.dev.maxWidth; x.lanesOk.getLsbD lane = true ∧ x.state = .up ∧ w ≠ 0)) ∧
    (∃ b : Nat, ∃ lane : Nat, ∃ s : State, Wf.laneLockLoss b lane = true ∧ (let x := s.dev.bundle b; let lanes := x.lanesOk &&& ~~~ (BitVec.ofNat 16 (2 ^ lane)); let w := widest lanes s.dev.maxWidth; x.lanesOk.getLsbD lane = true ∧ x.state = .up ∧ w = 0)) ∧
    (∃ n : Nat, n ≤ 16) ∧
    (∃ lanes : BitVec 16, ∃ n : Nat, ∃ v, ∃ g, n ≤ 16 ∧ v ∈ [2, 4, 8, 16] ∧ (g + 1) * v ≤ n ∧ ((∀ i, i < v → lanes.getLsbD (g * v + i) = true))) := by
  refine ⟨?_, ?_, ?_, ?_, ?_, ?_, ?_, ?_, ?_, ?_, ?_, ?_, ?_, ?_, ?_, ?_, ?_, ?_, ?_, ?_, ?_, ?_, ?_, ?_, ?_, ?_, ?_, ?_, ?_, ?_⟩
  · let b : Nat := 0
    let s : State := st (S { B0 with credit1 := 0, transit := [Q] })
    exact ⟨b, s, by decide +kernel⟩
  · let b : Nat := 0
    let s : State := st (S { B0 with credit1 := 0 })
    exact ⟨b, s, by decide +kernel⟩
  · let b : Nat := 0
    let s : State := st (S { B0 with credit1 := 5 })
    exact ⟨b, s, by decide +kernel⟩
  · let b : Nat := 0
    let s : State := st (S { B0 with credit1 := 0 })
    exact ⟨b, s, by decide +kernel⟩
  · let b : Nat := 0
    let s : State := st (S { B0 with credit1 := 0, transit := [Q] })
    exact ⟨b, s, by decide +kernel⟩
  · let b : Nat := 5
    let s : State := st (S { B0 with credit1 := 0, transit := [Q] })
    exact ⟨b, s, by decide +kernel⟩
  · let b : Nat := 0
    let s : State := st (S { B0 with credit1 := 0, transit := [Q] })
    exact ⟨b, s, (10000), by decide +kernel⟩
  · let b : Nat := 0
    let s : State := st (S { B0 with credit1 := 0 })
    exact ⟨b, s, by decide +kernel⟩
  · let b : Nat := 0
    let s : State := st (S { B0 with slow := true, credit1 := 5, flowing := some 900 })
    exact ⟨b, s, (900), by decide +kernel⟩
  · let b : Nat := 0
    let s : State := st (S B0)
    exact ⟨b, s, by decide +kernel⟩
  · let m : CtlMsg := msg (.linkState 0 true 9)
    let k : Nat := 0
    let slow : Bool := true
    let s : State := st (wIn m.body S0)
    let t : Dev := arr isLinkState s.dev
    refine ⟨m, k, slow, s, t, ?_⟩
    · refine arrived_front ?_ rfl ?_ ?_ ?_ ?_ <;> decide +kernel
  · let m : CtlMsg := msg (.linkState 0 true 9)
    let k : Nat := 0
    let slow : Bool := true
    let s : State := st (wIn m.body (dst (fun x => { x with topology := 1 }) S0))
    let t : Dev := arr isLinkState s.dev
    refine ⟨m, k, slow, s, t, by decide +kernel, ?_⟩
    · refine arrived_front ?_ rfl ?_ ?_ ?_ ?_ <;> decide +kernel
  · let n : Nat := 9
    let s : State := st S0
    exact ⟨n, s, by decide +kernel⟩
  · let n : Nat := 9
    let s : State := st (rt none true)
    exact ⟨n, s, (⟨0, 2, false, none, true, 0⟩), by decide +kernel⟩
  · let n : Nat := 9
    let s : State := st (rt (some (1, 3)) true)
    exact ⟨n, s, (⟨0, 2, false, some (1, 3), true, 0⟩), by decide +kernel⟩
  · let b : Nat := 0
    let u : Nat := 10
    let u10 : Nat := 10
    let s : State := st (S { B0 with state := .training })
    exact ⟨b, u, u10, s, by decide +kernel⟩
  · let b : Nat := 0
    let u : Nat := 10
    let u10 : Nat := 10
    let s : State := st (reg (onW - 1) (S B0))
    exact ⟨b, u, u10, s, by decide +kernel⟩
  · let b : Nat := 0
    let u : Nat := 10
    let u10 : Nat := 10
    let s : State := st (reg onW (S B0))
    exact ⟨b, u, u10, s, by decide +kernel⟩
  · let b : Nat := 0
    let u : Nat := 75
    let u10 : Nat := 75
    let s : State := st (reg onW (S { B0 with width := 8 }))
    exact ⟨b, u, u10, s, by decide +kernel⟩
  · let b : Nat := 0
    let u : Nat := 75
    let u10 : Nat := 75
    let s : State := st (reg onW (S B0))
    exact ⟨b, u, u10, s, by decide +kernel⟩
  · let m : CtlMsg := msg (.lane 8 true)
    let w : Nat := 8
    let l : Bool := true
    let s : State := st (wIn m.body S0)
    let t : Dev := larr isLane s.dev
    refine ⟨m, w, l, s, t, ?_⟩
    · refine linkArrived_front ?_ rfl ?_ ?_ <;> decide +kernel
  · let b : Nat := 0
    let s : State := st (S { B0 with proposed := 8 })
    exact ⟨b, s, by decide +kernel⟩
  · let b : Nat := 0
    let s : State := st (S { B0 with proposed := 8, peerProposed := 4 })
    exact ⟨b, s, by decide +kernel⟩
  · let b : Nat := 0
    let s : State := st (S { B0 with width := 4, lanesOk := 0x00FF, proposed := 16, locked := true, peerLocked := true })
    exact ⟨b, s, by decide +kernel⟩
  · let b : Nat := 0
    let s : State := st (S { B0 with width := 4, proposed := 16 })
    exact ⟨b, s, by decide +kernel⟩
  · let b : Nat := 0
    let lane : Nat := 3
    let s : State := st (S { B0 with lanesOk := 0xFFF7 })
    exact ⟨b, lane, s, by decide +kernel⟩
  · let b : Nat := 0
    let lane : Nat := 3
    let s : State := st (S B0)
    exact ⟨b, lane, s, by decide +kernel⟩
  · let b : Nat := 0
    let lane : Nat := 3
    let s : State := st (S { B0 with lanesOk := 0x0008 })
    exact ⟨b, lane, s, by decide +kernel⟩
  · let lanes : BitVec 16 := 0xFF0F
    let n : Nat := 16
    exact ⟨n, by decide +kernel⟩
  · let lanes : BitVec 16 := 0xF0F0
    let n : Nat := 16
    exact ⟨lanes, n, (4), (3), by decide +kernel⟩

end SlowMarksAndWidthsW

namespace JoinsAndHeartbeatsW

def B0 : Bundle := { Bundle.reset with state := .up, accepted := true, width := 16, lanesOk := 0xFFFF, peerNode := 5, peerBundle := 1, rxNext := 7, txSeq := 4 }
def dst (f : StringSt → StringSt) (d : Dev) : Dev := { d with str := f d.str }
def bun (x : Bundle) (d : Dev) : Dev := dst (fun s => { s with bundles := [(0, x), (1, { B0 with peerNode := 9 })] }) d
def S0 : Dev := bun B0 { dst (fun s => { s with node := 3, mode := 1, state := .settled, members := [3, 5, 9], epoch := 4, highEpoch := 4, topology := 2 }) up with now := 10000 }
def S (x : Bundle) : Dev := bun x S0
def msg (b : CtlBody) : CtlMsg := { bundle := 0, hdr := ⟨5, 4, 9⟩, body := b }
def wIn (b : CtlBody) (d : Dev) : Dev := dst (fun x => { x with ctlIn := [msg b] }) d
def Bj : Bundle := { B0 with state := .joining, accepted := false, peerNode := 0 }
def J (node mode : Nat) (fw ep : BitVec 32) (sg : List Byte) : CtlBody := .join 0x77 node mode fw ep true sg
def JD (b : CtlBody) : Dev := dst (fun x => { x with stringId := 0x77 }) (wIn b (S Bj))
def aw (n : Nat) : Awaited := { dst := .member 5, bodies := [(8, .tokenReq)], missing := [5], resends := n }
def awd (n : Nat) : State := st (dst (fun x => { x with awaited := [aw n, aw 0] }) S0)
def hb : CtlBody := .heartbeat 9000 8000 8500 2 ⟨[(1, 2)], 3, 4⟩
def hb0 : CtlBody := .heartbeat 9000 0 8500 2 ⟨[(1, 2)], 3, 4⟩
def many : Dev := dst (fun x => { x with members := List.replicate 8192 100 }) (JD (J 20000 1 0x01000005 4 [1]))

/-- States and operands that meet the hypotheses of `Obligations.JoinsAndHeartbeats`, one part for each of its 23 cases that have hypotheses; in 6 parts a hypothesis is left out that rests on an opaque value of Config or on a table too large to evaluate. -/
theorem witness_JoinsAndHeartbeats :
    (∃ b : Nat, ∃ peer : Nat, ∃ lanes : BitVec 16, ∃ s : State, Wf.bundleLock b lanes peer = true ∧ (let x := s.dev.bundle b; let w := widest lanes s.dev.maxWidth; let goes := b < s.dev.bundleCount ∧ x.adminUp = true ∧ (x.state = .down ∨ x.state = .training) ∧ 0 < w; goes)) ∧
    (∃ b : Nat, ∃ peer : Nat, ∃ lanes : BitVec 16, ∃ s : State, Wf.bundleLock b lanes peer = true ∧ (let x := s.dev.bundle b; let w := widest lanes s.dev.maxWidth; let goes := b < s.dev.bundleCount ∧ x.adminUp = true ∧ (x.state = .down ∨ x.state = .training) ∧ 0 < w; ¬ goes)) ∧
    (∃ m : CtlMsg, ∃ sid : W64, ∃ node : Nat, ∃ mode : Nat, ∃ fw : BitVec 32, ∃ epoch : BitVec 32, ∃ sig : List Byte, ∃ s : State, ∃ t : Dev, LinkArrived isJoin m (sid, node, mode, fw, epoch, sig) s.dev t ∧ (let b := m.bundle; let x := t.bundle b; x.state ≠ .joining)) ∧
    (∃ m : CtlMsg, ∃ sid : W64, ∃ node : Nat, ∃ mode : Nat, ∃ fw : BitVec 32, ∃ epoch : BitVec 32, ∃ sig : List Byte, ∃ s : State, ∃ t : Dev, LinkArrived isJoin m (sid, node, mode, fw, epoch, sig) s.dev t ∧ (let b := m.bundle; let x := t.bundle b; x.state = .joining ∧ sid ≠ t.str.stringId)) ∧
    (∃ m : CtlMsg, ∃ sid : W64, ∃ node : Nat, ∃ mode : Nat, ∃ fw : BitVec 32, ∃ epoch : BitVec 32, ∃ sig : List Byte, ∃ s : State, ∃ t : Dev, LinkArrived isJoin m (sid, node, mode, fw, epoch, sig) s.dev t ∧ (let b := m.bundle; let x := t.bundle b; let signed := t.eraseHold = false ∧ Config.ecdsaVerify (t.keySlot t.str.keySlot).pub x.transcript sig = true; x.state = .joining ∧ sid = t.str.stringId ∧ ¬ signed)) ∧
    (∃ m : CtlMsg, ∃ sid : W64, ∃ node : Nat, ∃ mode : Nat, ∃ fw : BitVec 32, ∃ epoch : BitVec 32, ∃ sig : List Byte, ∃ s : State, ∃ t : Dev, LinkArrived isJoin m (sid, node, mode, fw, epoch, sig) s.dev t ∧ (let b := m.bundle; let x := t.bundle b; let fresh := node ∉ t.str.members; let other := node ∈ t.str.members ∧ epoch = t.str.epoch ∧ node ≠ t.str.node; x.state = .joining ∧ sid = t.str.stringId ∧ ¬ fresh ∧ ¬ other)) ∧
    (∃ m : CtlMsg, ∃ sid : W64, ∃ node : Nat, ∃ mode : Nat, ∃ fw : BitVec 32, ∃ epoch : BitVec 32, ∃ sig : List Byte, ∃ s : State, ∃ t : Dev, LinkArrived isJoin m (sid, node, mode, fw, epoch, sig) s.dev t ∧ (let b := m.bundle; let x := t.bundle b; let fresh := node ∉ t.str.members; let other := node ∈ t.str.members ∧ epoch = t.str.epoch ∧ node ≠ t.str.node; x.state = .joining ∧ sid = t.str.stringId ∧ (fresh ∨ other) ∧ mode ≠ t.str.mode)) ∧
    (∃ m : CtlMsg, ∃ sid : W64, ∃ node : Nat, ∃ mode : Nat, ∃ fw : BitVec 32, ∃ epoch : BitVec 32, ∃ sig : List Byte, ∃ s : State, ∃ t : Dev, LinkArrived isJoin m (sid, node, mode, fw, epoch, sig) s.dev t ∧ (let b := m.bundle; let x := t.bundle b; let fresh := node ∉ t.str.members; let other := node ∈ t.str.members ∧ epoch = t.str.epoch ∧ node ≠ t.str.node; let major := fun (v : BitVec 32) => v.toNat / 2 ^ 24; x.state = .joining ∧ sid = t.str.stringId ∧ (fresh ∨ other) ∧ mode = t.str.mode ∧ major fw ≠ major t.mgt.fwVersion)) ∧
    (∃ m : CtlMsg, ∃ sid : W64, ∃ node : Nat, ∃ mode : Nat, ∃ fw : BitVec 32, ∃ epoch : BitVec 32, ∃ sig : List Byte, ∃ s : State, ∃ t : Dev, LinkArrived isJoin m (sid, node, mode, fw, epoch, sig) s.dev t ∧ (let b := m.bundle; let x := t.bundle b; let fresh := node ∉ t.str.members; let major := fun (v : BitVec 32) => v.toNat / 2 ^ 24; x.state = .joining ∧ sid = t.str.stringId ∧ fresh ∧ mode = t.str.mode ∧ major fw = major t.mgt.fwVersion ∧ 8192 ≤ t.str.members.length)) ∧
    (∃ m : CtlMsg, ∃ sid : W64, ∃ node : Nat, ∃ mode : Nat, ∃ fw : BitVec 32, ∃ epoch : BitVec 32, ∃ sig : List Byte, ∃ s : State, ∃ t : Dev, LinkArrived isJoin m (sid, node, mode, fw, epoch, sig) s.dev t ∧ (let b := m.bundle; let x := t.bundle b; let other := node ∈ t.str.members ∧ epoch = t.str.epoch ∧ node ≠ t.str.node; let major := fun (v : BitVec 32) => v.toNat / 2 ^ 24; x.state = .joining ∧ sid = t.str.stringId ∧ other ∧ mode = t.str.mode ∧ major fw = major t.mgt.fwVersion ∧ t.str.mode = 2)) ∧
    (∃ m : CtlMsg, ∃ sid : W64, ∃ node : Nat, ∃ mode : Nat, ∃ fw : BitVec 32, ∃ epoch : BitVec 32, ∃ sig : List Byte, ∃ s : State, ∃ t : Dev, LinkArrived isJoin m (sid, node, mode, fw, epoch, sig) s.dev t ∧ (let b := m.bundle; let x := t.bundle b; let fresh := node ∉ t.str.members; let other := node ∈ t.str.members ∧ epoch = t.str.epoch ∧ node ≠ t.str.node; let major := fun (v : BitVec 32) => v.toNat / 2 ^ 24; x.state = .joining ∧ sid = t.str.stringId ∧ ((fresh ∧ t.str.members.length < 8192) ∨ (other ∧ t.str.mode = 1)) ∧ mode = t.str.mode ∧ major fw = major t.mgt.fwVersion ∧ epochOlder t.str.highEpoch epoch = false ∧ t.str.mode ≠ 0)) ∧
    (∃ b : Nat, ∃ s : State, b < 8 ∧ (let x := s.dev.bundle b; x.state = .refused ∧ x.adminUp = true)) ∧
    (∃ b : Nat, ∃ s : State, b < 8 ∧ (let x := s.dev.bundle b; (x.state ≠ .refused ∨ x.adminUp = false))) ∧
    (∃ b : Nat, ∃ s : State, b < 8 ∧ (let x := s.dev.bundle b; Bundle.live x = true)) ∧
    (∃ b : Nat, ∃ s : State, b < 8 ∧ (let x := s.dev.bundle b; Bundle.live x = false)) ∧
    (∃ b : Nat, ∃ s : State, b < 8 ∧ (let x := s.dev.bundle b; x.state ≠ .up)) ∧
    (∃ b : Nat, ∃ s : State, b < 8 ∧ (let x := s.dev.bundle b; x.state = .up)) ∧
    (∃ m : CtlMsg, ∃ t3 : Time, ∃ t1 : Time, ∃ t2 : Time, ∃ hops : Nat, ∃ free : FreeCounts, ∃ s : State, ∃ t : Dev, t1 = 0 ∧ LinkArrived isHeartbeat m (t3, t1, t2, hops, free) s.dev t) ∧
    (∃ m : CtlMsg, ∃ t3 : Time, ∃ t1 : Time, ∃ t2 : Time, ∃ hops : Nat, ∃ free : FreeCounts, ∃ s : State, ∃ t : Dev, t1 ≠ 0 ∧ t.str.parent ≠ some m.bundle ∧ LinkArrived isHeartbeat m (t3, t1, t2, hops, free) s.dev t) ∧
    (∃ m : CtlMsg, ∃ t3 : Time, ∃ t1 : Time, ∃ t2 : Time, ∃ hops : Nat, ∃ free : FreeCounts, ∃ s : State, ∃ t : Dev, t1 ≠ 0 ∧ t.str.parent = some m.bundle ∧ LinkArrived isHeartbeat m (t3, t1, t2, hops, free) s.dev t) ∧
    (∃ s : State, (s.dev.str.awaited = [] ∨ s.dev.str.state = .forming)) ∧
    (∃ s : State, ∃ a, ∃ rest, s.dev.str.awaited = a :: rest ∧ s.dev.str.state ≠ .forming ∧ 8 ≤ a.resends ∧ s.dev.str.mode ≠ 0) ∧
    (∃ s : State, ∃ a, ∃ rest, s.dev.str.awaited = a :: rest ∧ s.dev.str.state ≠ .forming ∧ a.resends < 8) := by
  refine ⟨?_, ?_, ?_, ?_, ?_, ?_, ?_, ?_, ?_, ?_, ?_, ?_, ?_, ?_, ?_, ?_, ?_, ?_, ?_, ?_, ?_, ?_, ?_⟩
  · let b : Nat := 0
    let peer : Nat := 5
    let lanes : BitVec 16 := 0x0FF0
    let s : State := st (S { B0 with state := .training })
    exact ⟨b, peer, lanes, s, by decide +kernel⟩
  · let b : Nat := 0
    let peer : Nat := 5
    let lanes : BitVec 16 := 0x0FF0
    let s : State := st (S B0)
    exact ⟨b, peer, lanes, s, by decide +kernel⟩
  · let m : CtlMsg := msg (J 20 1 0x01000005 4 [1])
    let sid : W64 := 0x77
    let node : Nat := 20
    let mode : Nat := 1
    let fw : BitVec 32 := 0x01000005
    let epoch : BitVec 32 := 4
    let sig : List Byte := [1]
    let s : State := st (wIn m.body (S B0))
    let t : Dev := larr isJoin s.dev
    refine ⟨m, sid, node, mode, fw, epoch, sig, s, t, ?_, by decide +kernel⟩
    · refine linkArrived_front ?_ rfl ?_ ?_ <;> decide +kernel
  · let m : CtlMsg := msg (J 20 1 0x01000005 4 [1])
    let sid : W64 := 0x77
    let node : Nat := 20
    let mode : Nat := 1
    let fw : BitVec 32 := 0x01000005
    let epoch : BitVec 32 := 4
    let sig : List Byte := [1]
    let s : State := st (wIn m.body (S Bj))
    let t : Dev := larr isJoin s.dev
    refine ⟨m, sid, node, mode, fw, epoch, sig, s, t, ?_, by decide +kernel⟩
    · refine linkArrived_front ?_ rfl ?_ ?_ <;> decide +kernel
  · let m : CtlMsg := msg (J 20 1 0x01000005 4 [2])
    let sid : W64 := 0x77
    let node : Nat := 20
    let mode : Nat := 1
    let fw : BitVec 32 := 0x01000005
    let epoch : BitVec 32 := 4
    let sig : List Byte := [2]
    let s : State := st { JD m.body with tru := { (JD m.body).tru with active := 0x3F } }
    let t : Dev := larr isJoin s.dev
    refine ⟨m, sid, node, mode, fw, epoch, sig, s, t, ?_, by decide +kernel⟩
    · refine linkArrived_front ?_ rfl ?_ ?_ <;> decide +kernel
  · let m : CtlMsg := msg (J 5 1 0x01000005 3 [1])
    let sid : W64 := 0x77
    let node : Nat := 5
    let mode : Nat := 1
    let fw : BitVec 32 := 0x01000005
    let epoch : BitVec 32 := 3
    let sig : List Byte := [1]
    let s : State := st (JD m.body)
    let t : Dev := larr isJoin s.dev
    refine ⟨m, sid, node, mode, fw, epoch, sig, s, t, ?_, by decide +kernel⟩
    · refine linkArrived_front ?_ rfl ?_ ?_ <;> decide +kernel
  · let m : CtlMsg := msg (J 5 2 0x01000005 4 [1])
    let sid : W64 := 0x77
    let node : Nat := 5
    let mode : Nat := 2
    let fw : BitVec 32 := 0x01000005
    let epoch : BitVec 32 := 4
    let sig : List Byte := [1]
    let s : State := st (JD m.body)
    let t : Dev := larr isJoin s.dev
    refine ⟨m, sid, node, mode, fw, epoch, sig, s, t, ?_, by decide +kernel⟩
    · refine linkArrived_front ?_ rfl ?_ ?_ <;> decide +kernel
  · let m : CtlMsg := msg (J 5 1 0x02000000 4 [1])
    let sid : W64 := 0x77
    let node : Nat := 5
    let mode : Nat := 1
    let fw : BitVec 32 := 0x02000000
    let epoch : BitVec 32 := 4
    let sig : List Byte := [1]
    let s : State := st (JD m.body)
    let t : Dev := larr isJoin s.dev
    refine ⟨m, sid, node, mode, fw, epoch, sig, s, t, ?_, by decide +kernel⟩
    · refine linkArrived_front ?_ rfl ?_ ?_ <;> decide +kernel
  · let m : CtlMsg := msg (J 20000 1 0x01000005 4 [1])
    let sid : W64 := 0x77
    let node : Nat := 20000
    let mode : Nat := 1
    let fw : BitVec 32 := 0x01000005
    let epoch : BitVec 32 := 4
    let sig : List Byte := [1]
    let s : State := st many
    let t : Dev := larr isJoin s.dev
    refine ⟨m, sid, node, mode, fw, epoch, sig, s, t, ?_⟩
    exact ⟨linkArrived_front rfl rfl rfl rfl, rfl, rfl, (fun h => absurd (List.eq_of_mem_replicate h) (by decide)), rfl, by decide +kernel, Nat.le_of_eq List.length_replicate.symm⟩
  · let m : CtlMsg := msg (J 5 2 0x01000005 4 [1])
    let sid : W64 := 0x77
    let node : Nat := 5
    let mode : Nat := 2
    let fw : BitVec 32 := 0x01000005
    let epoch : BitVec 32 := 4
    let sig : List Byte := [1]
    let s : State := st (dst (fun x => { x with mode := 2 }) (JD m.body))
    let t : Dev := larr isJoin s.dev
    let b := m.bundle
    let x := t.bundle b
    refine ⟨m, sid, node, mode, fw, epoch, sig, s, t, ?_, by decide +kernel⟩
    · refine linkArrived_front ?_ rfl ?_ ?_ <;> decide +kernel
  · let m : CtlMsg := msg (J 5 1 0x01000005 4 [1])
    let sid : W64 := 0x77
    let node : Nat := 5
    let mode : Nat := 1
    let fw : BitVec 32 := 0x01000005
    let epoch : BitVec 32 := 4
    let sig : List Byte := [1]
    let s : State := st (JD m.body)
    let t : Dev := larr isJoin s.dev
    refine ⟨m, sid, node, mode, fw, epoch, sig, s, t, ?_, by decide +kernel⟩
    · refine linkArrived_front ?_ rfl ?_ ?_ <;> decide +kernel
  · let b : Nat := 0
    let s : State := st (S { B0 with state := .refused })
    exact ⟨b, s, by decide +kernel⟩
  · let b : Nat := 0
    let s : State := st (S B0)
    exact ⟨b, s, by decide +kernel⟩
  · let b : Nat := 0
    let s : State := st (S B0)
    exact ⟨b, s, by decide +kernel⟩
  · let b : Nat := 0
    let s : State := st (S { B0 with state := .training, accepted := false })
    exact ⟨b, s, by decide +kernel⟩
  · let b : Nat := 0
    let s : State := st (S { B0 with state := .training, accepted := false })
    exact ⟨b, s, by decide +kernel⟩
  · let b : Nat := 0
    let s : State := st (S B0)
    exact ⟨b, s, by decide +kernel⟩
  · let m : CtlMsg := msg hb0
    let t3 : Time := 9000
    let t1 : Time := 0
    let t2 : Time := 8500
    let hops : Nat := 2
    let free : FreeCounts := ⟨[(1, 2)], 3, 4⟩
    let s : State := st (wIn hb0 S0)
    let t : Dev := larr isHeartbeat s.dev
    refine ⟨m, t3, t1, t2, hops, free, s, t, by decide +kernel, ?_⟩
    · refine linkArrived_front ?_ rfl ?_ ?_ <;> decide +kernel
  · let m : CtlMsg := msg hb
    let t3 : Time := 9000
    let t1 : Time := 8000
    let t2 : Time := 8500
    let hops : Nat := 2
    let free : FreeCounts := ⟨[(1, 2)], 3, 4⟩
    let s : State := st (wIn hb S0)
    let t : Dev := larr isHeartbeat s.dev
    refine ⟨m, t3, t1, t2, hops, free, s, t, by decide +kernel, by decide +kernel, ?_⟩
    · refine linkArrived_front ?_ rfl ?_ ?_ <;> decide +kernel
  · let m : CtlMsg := msg hb
    let t3 : Time := 9000
    let t1 : Time := 8000
    let t2 : Time := 8500
    let hops : Nat := 2
    let free : FreeCounts := ⟨[(1, 2)], 3, 4⟩
    let s : State := st (wIn hb (dst (fun x => { x with parent := some 0, lead := 5 }) S0))
    let t : Dev := larr isHeartbeat s.dev
    let x := t.bundle m.bundle
    refine ⟨m, t3, t1, t2, hops, free, s, t, by decide +kernel, by decide +kernel, ?_⟩
    · refine linkArrived_front ?_ rfl ?_ ?_ <;> decide +kernel
  · let s : State := st S0
    exact ⟨s, by decide +kernel⟩
  · let s : State := awd 8
    exact ⟨s, (aw 8), ([aw 0]), by decide +kernel⟩
  · let s : State := awd 7
    exact ⟨s, (aw 7), ([aw 0]), by decide +kernel⟩

end JoinsAndHeartbeatsW

namespace ReformationOfASideW

def B0 : Bundle := { Bundle.reset with state := .up, accepted := true, width := 16, lanesOk := 0xFFFF, peerNode := 5, peerBundle := 1, rxNext := 7, txSeq := 4 }
def dst (f : StringSt → StringSt) (d : Dev) : Dev := { d with str := f d.str }
def bun (x : Bundle) (d : Dev) : Dev := dst (fun s => { s with bundles := [(0, x), (1, { B0 with peerNode := 9 })] }) d
def S0 : Dev := bun B0 { dst (fun s => { s with node := 3, mode := 1, state := .settled, members := [3, 5, 9], epoch := 4, highEpoch := 4, topology := 2 }) up with now := 10000 }
def S (x : Bundle) : Dev := bun x S0
def msg (b : CtlBody) : CtlMsg := { bundle := 0, hdr := ⟨5, 4, 9⟩, body := b }
def msgE (e : BitVec 32) (b : CtlBody) : CtlMsg := { bundle := 0, hdr := ⟨5, e, 9⟩, body := b }
def wE (e : BitVec 32) (b : CtlBody) (d : Dev) : Dev := dst (fun x => { x with ctlIn := [msgE e b] }) d
def lk (p : Nat) (up : Bool) : TopoLink := ⟨p, up, false, 10⟩
def tp (n a b : Nat) : Topo := { node := n, active := 0, prepared := 0, preparedValid := false, holdsToken := false, leadSide := false, starting := false, mode := 1, refLead := false, tokenSeq := 6, refEpoch := 3, refMembers := 3, links := [lk a true, lk b true], refLeadNode := 3, priorLead := 3, transitNs := 400, draining := 0 }
def three : List Topo := [tp 3 5 9, tp 5 9 3, tp 9 3 5]
def fm (ts : List Topo) : Dev := dst (fun x => { x with state := .forming, topos := ts, toposAt := 9000 }) S0
def strt : Dev := dst (fun x => { x with starting := true, refMembers := [3, 5, 9, 44] }) (fm three)

/-- States and operands that meet the hypotheses of `Obligations.ReformationOfASide`, one part for each of its 26 cases that have hypotheses. -/
theorem witness_ReformationOfASide :
    (∃ m : CtlMsg, ∃ c : Nat, ∃ s : State, ∃ t : Dev, epochOlder t.str.epoch m.hdr.epoch = false ∧ Arrived isReform m c s.dev t) ∧
    (∃ m : CtlMsg, ∃ c : Nat, ∃ s : State, ∃ t : Dev, epochOlder t.str.epoch m.hdr.epoch = true ∧ Arrived isReform m c s.dev t) ∧
    (∃ m : CtlMsg, ∃ u : Topo, ∃ s : State, ∃ t : Dev, epochOlder t.str.epoch m.hdr.epoch = false ∧ t.str.state ≠ .forming ∧ Arrived isTopo m u s.dev t) ∧
    (∃ m : CtlMsg, ∃ u : Topo, ∃ s : State, ∃ t : Dev, epochOlder t.str.epoch m.hdr.epoch = false ∧ t.str.state = .forming ∧ Arrived isTopo m u s.dev t) ∧
    (∃ m : CtlMsg, ∃ u : Topo, ∃ s : State, ∃ t : Dev, epochOlder t.str.epoch m.hdr.epoch = true ∧ u.node ≠ t.str.node ∧ Arrived isTopo m u s.dev t) ∧
    (∃ s : State, (s.dev.str.state ≠ .forming ∨ topoClosed s.dev.str.topos = false)) ∧
    (∃ s : State, s.dev.str.state = .forming ∧ topoClosed s.dev.str.topos = true) ∧
    (∃ s : State, s.dev.str.state = .forming ∧ topoClosed s.dev.str.topos = true ∧ (let e := formSide (reach (s.dev.str.toposAt + 2000) s.dev); let waits := s.dev.str.starting = true ∧ ∃ n ∈ s.dev.str.refMembers, n ∉ e.str.members; waits)) ∧
    (∃ s : State, s.dev.str.state = .forming ∧ topoClosed s.dev.str.topos = true ∧ (let e := formSide (reach (s.dev.str.toposAt + 2000) s.dev); let waits := s.dev.str.starting = true ∧ ∃ n ∈ s.dev.str.refMembers, n ∉ e.str.members; ¬ waits)) ∧
    (∃ d : Dev, ∃ n, n ∈ (formSide d).str.members) ∧
    (∃ ts : List Topo, ((∀ t ∈ ts, t.refMembers = 0))) ∧
    (∃ ts : List Topo, ∃ e : BitVec 32, ∃ l : Nat, ∃ k : Nat, l ≤ 0xFFFFF ∧ ((∃ t ∈ ts, 0 < t.refMembers ∧ t.refEpoch = e ∧ t.refLeadNode = l)) ∧ ((∀ t ∈ ts, 0 < t.refMembers → t.refEpoch = e ∧ t.refLeadNode = l ∧ t.refMembers = k)) ∧ (let n := (ts.filter (fun t => decide (0 < t.refMembers))).length; k < 2 * n)) ∧
    (∃ ts : List Topo, ∃ e : BitVec 32, ∃ l : Nat, ∃ k : Nat, l ≤ 0xFFFFF ∧ ((∃ t ∈ ts, 0 < t.refMembers ∧ t.refEpoch = e ∧ t.refLeadNode = l)) ∧ ((∀ t ∈ ts, 0 < t.refMembers → t.refEpoch = e ∧ t.refLeadNode = l ∧ t.refMembers = k)) ∧ (let n := (ts.filter (fun t => decide (0 < t.refMembers))).length; k = 2 * n ∧ ((∃ t ∈ ts, 0 < t.refMembers ∧ t.node = l)))) ∧
    (∃ ts : List Topo, ∃ e : BitVec 32, ∃ l : Nat, ∃ k : Nat, l ≤ 0xFFFFF ∧ ((∃ t ∈ ts, 0 < t.refMembers ∧ t.refEpoch = e ∧ t.refLeadNode = l)) ∧ ((∀ t ∈ ts, 0 < t.refMembers → t.refEpoch = e ∧ t.refLeadNode = l ∧ t.refMembers = k)) ∧ (let n := (ts.filter (fun t => decide (0 < t.refMembers))).length; k = 2 * n ∧ ((∀ t ∈ ts, 0 < t.refMembers → t.node ≠ l)))) ∧
    (∃ ts : List Topo, ∃ e : BitVec 32, ∃ l : Nat, ∃ k : Nat, l ≤ 0xFFFFF ∧ ((∃ t ∈ ts, 0 < t.refMembers ∧ t.refEpoch = e ∧ t.refLeadNode = l)) ∧ ((∀ t ∈ ts, 0 < t.refMembers → t.refEpoch = e ∧ t.refLeadNode = l ∧ t.refMembers = k)) ∧ (let n := (ts.filter (fun t => decide (0 < t.refMembers))).length; 2 * n < k)) ∧
    (∃ ts : List Topo, ((∀ t ∈ ts, t.priorLead ≤ 0xFFFFF)) ∧ ((∃ t ∈ ts, t.leadSide = true))) ∧
    (∃ ts : List Topo, ∃ t, ((∀ t ∈ ts, t.priorLead ≤ 0xFFFFF)) ∧ ((∃ t ∈ ts, t.leadSide = true)) ∧ t ∈ ts ∧ t.leadSide = true) ∧
    (∃ ts : List Topo, ((∀ t ∈ ts, t.priorLead ≤ 0xFFFFF)) ∧ ts ≠ [] ∧ ((∀ t ∈ ts, t.leadSide = false))) ∧
    (∃ ts : List Topo, ∃ t, ((∀ t ∈ ts, t.priorLead ≤ 0xFFFFF)) ∧ ts ≠ [] ∧ ((∀ t ∈ ts, t.leadSide = false)) ∧ t ∈ ts) ∧
    (∃ d : Dev, ((∀ t ∈ d.str.topos, t.holdsToken = false))) ∧
    (∃ d : Dev, ((∀ t ∈ d.str.topos, t.holdsToken = false)) ∧ d.isLead = true) ∧
    (∃ d : Dev, ∃ t, t ∈ d.str.topos ∧ t.holdsToken = true ∧ ((∀ u ∈ d.str.topos, u.holdsToken = true → u = t))) ∧
    (∃ s : State, (s.dev.str.waitFrom = none ∨ s.dev.str.starting = false)) ∧
    (∃ s : State, ∃ w, s.dev.str.waitFrom = some w ∧ s.dev.str.starting = true ∧ s.dev.str.mode ≠ 0) ∧
    (∃ m : CtlMsg, ∃ h : Nat, ∃ r : Nat, ∃ s : State, ∃ t : Dev, t.str.state = .rejoining ∧ Arrived isParams m (h, r) s.dev t) ∧
    (∃ m : CtlMsg, ∃ h : Nat, ∃ r : Nat, ∃ s : State, ∃ t : Dev, t.str.state ≠ .rejoining ∧ Arrived isParams m (h, r) s.dev t) := by
  refine ⟨?_, ?_, ?_, ?_, ?_, ?_, ?_, ?_, ?_, ?_, ?_, ?_, ?_, ?_, ?_, ?_, ?_, ?_, ?_, ?_, ?_, ?_, ?_, ?_, ?_, ?_⟩
  · let m : CtlMsg := msgE 4 (.reform 1)
    let c : Nat := 1
    let s : State := st (wE 4 (.reform 1) S0)
    let t : Dev := arr isReform s.dev
    refine ⟨m, c, s, t, by decide +kernel, ?_⟩
    · refine arrived_front ?_ rfl ?_ ?_ ?_ ?_ <;> decide +kernel
  · let m : CtlMsg := msgE 6 (.reform 1)
    let c : Nat := 1
    let s : State := st (wE 6 (.reform 1) S0)
    let t : Dev := arr isReform s.dev
    refine ⟨m, c, s, t, by decide +kernel, ?_⟩
    · refine arrived_front ?_ rfl ?_ ?_ ?_ ?_ <;> decide +kernel
  · let m : CtlMsg := msgE 4 (.topo (tp 5 9 3))
    let u : Topo := tp 5 9 3
    let s : State := st (wE 4 m.body S0)
    let t : Dev := arr isTopo s.dev
    refine ⟨m, u, s, t, by decide +kernel, by decide +kernel, ?_⟩
    · refine arrived_front ?_ rfl ?_ ?_ ?_ ?_ <;> decide +kernel
  · let m : CtlMsg := msgE 4 (.topo (tp 5 9 3))
    let u : Topo := tp 5 9 3
    let s : State := st (wE 4 m.body (fm [tp 3 5 9, tp 5 1 2]))
    let t : Dev := arr isTopo s.dev
    refine ⟨m, u, s, t, by decide +kernel, by decide +kernel, ?_⟩
    · refine arrived_front ?_ rfl ?_ ?_ ?_ ?_ <;> decide +kernel
  · let m : CtlMsg := msgE 6 (.topo (tp 5 9 3))
    let u : Topo := tp 5 9 3
    let s : State := st (wE 6 m.body (fm [tp 3 5 9, tp 5 1 2]))
    let t : Dev := arr isTopo s.dev
    refine ⟨m, u, s, t, by decide +kernel, by decide +kernel, ?_⟩
    · refine arrived_front ?_ rfl ?_ ?_ ?_ ?_ <;> decide +kernel
  · let s : State := st (fm [tp 3 5 9])
    exact ⟨s, by decide +kernel⟩
  · let s : State := st (fm three)
    exact ⟨s, by decide +kernel⟩
  · let s : State := st strt
    exact ⟨s, by decide +kernel⟩
  · let s : State := st (fm three)
    exact ⟨s, by decide +kernel⟩
  · let d : Dev := fm three
    let n := 5
    exact ⟨d, n, by decide +kernel⟩
  · let ts : List Topo := [{ tp 3 5 9 with refMembers := 0 }]
    exact ⟨ts, by decide +kernel⟩
  · let ts : List Topo := three.map (fun t => { t with refMembers := 5 })
    let e : BitVec 32 := 3
    let l : Nat := 3
    let k : Nat := 5
    exact ⟨ts, e, l, k, by decide +kernel⟩
  · let ts : List Topo := three.map (fun t => { t with refMembers := 6 })
    let e : BitVec 32 := 3
    let l : Nat := 3
    let k : Nat := 6
    exact ⟨ts, e, l, k, by decide +kernel⟩
  · let ts : List Topo := three.map (fun t => { t with refMembers := 6, refLeadNode := 44 })
    let e : BitVec 32 := 3
    let l : Nat := 44
    let k : Nat := 6
    exact ⟨ts, e, l, k, by decide +kernel⟩
  · let ts : List Topo := three.map (fun t => { t with refMembers := 7, refLeadNode := 44 })
    let e : BitVec 32 := 3
    let l : Nat := 44
    let k : Nat := 7
    exact ⟨ts, e, l, k, by decide +kernel⟩
  · let ts : List Topo := [{ tp 3 5 9 with leadSide := true, priorLead := 5 }, { tp 5 9 3 with leadSide := true, priorLead := 4 }, { tp 9 3 5 with priorLead := 1 }]
    exact ⟨ts, by decide +kernel⟩
  · let ts : List Topo := [{ tp 3 5 9 with leadSide := true, priorLead := 5 }, { tp 5 9 3 with leadSide := true, priorLead := 4 }, { tp 9 3 5 with priorLead := 1 }]
    exact ⟨ts, ({ tp 3 5 9 with leadSide := true, priorLead := 5 }), by decide +kernel⟩
  · let ts : List Topo := [{ tp 3 5 9 with priorLead := 5 }, { tp 5 9 3 with priorLead := 4 }]
    exact ⟨ts, by decide +kernel⟩
  · let ts : List Topo := [{ tp 3 5 9 with priorLead := 5 }, { tp 5 9 3 with priorLead := 4 }]
    exact ⟨ts, ({ tp 3 5 9 with priorLead := 5 }), by decide +kernel⟩
  · let roll : Bool := true
    let d : Dev := dst (fun x => { x with lead := 3 }) (fm three)
    exact ⟨d, by decide +kernel⟩
  · let roll : Bool := true
    let d : Dev := dst (fun x => { x with lead := 3 }) (fm three)
    exact ⟨d, by decide +kernel⟩
  · let roll : Bool := true
    let d : Dev := dst (fun x => { x with lead := 3 }) (fm [{ tp 3 5 9 with holdsToken := true, tokenSeq := 9 }, tp 5 9 3])
    exact ⟨d, ({ tp 3 5 9 with holdsToken := true, tokenSeq := 9 }), by decide +kernel⟩
  · let s : State := st S0
    exact ⟨s, by decide +kernel⟩
  · let s : State := st (dst (fun x => { x with starting := true, waitFrom := some 5, state := .starting }) S0)
    exact ⟨s, (5), by decide +kernel⟩
  · let m : CtlMsg := msg (.params 100 300)
    let h : Nat := 100
    let r : Nat := 300
    let s : State := st (wE 4 m.body (dst (fun x => { x with state := .rejoining }) S0))
    let t : Dev := arr isParams s.dev
    refine ⟨m, h, r, s, t, by decide +kernel, ?_⟩
    · refine arrived_front ?_ rfl ?_ ?_ ?_ ?_ <;> decide +kernel
  · let m : CtlMsg := msg (.params 100 300)
    let h : Nat := 100
    let r : Nat := 300
    let s : State := st (wE 4 m.body S0)
    let t : Dev := arr isParams s.dev
    refine ⟨m, h, r, s, t, by decide +kernel, ?_⟩
    · refine arrived_front ?_ rfl ?_ ?_ ?_ ?_ <;> decide +kernel

end ReformationOfASideW

namespace StringCommandsW

def B0 : Bundle := { Bundle.reset with state := .up, accepted := true, width := 16, lanesOk := 0xFFFF, peerNode := 5, peerBundle := 1, rxNext := 7, txSeq := 4 }
def dst (f : StringSt → StringSt) (d : Dev) : Dev := { d with str := f d.str }
def bun (x : Bundle) (d : Dev) : Dev := dst (fun s => { s with bundles := [(0, x), (1, { B0 with peerNode := 9 })] }) d
def S0 : Dev := bun B0 { dst (fun s => { s with node := 3, mode := 1, state := .settled, members := [3, 5, 9], epoch := 4, highEpoch := 4, topology := 2 }) up with now := 10000 }
def S (x : Bundle) : Dev := bun x S0
def S1 : Dev := { dst (fun x => { x with stringId := 0x77, lead := 3, heartbeatUs := 100, maxRttUs := 200 }) S0 with jnl := { S0.jnl with ready := true } }
def D1 : Dev := dst (fun x => { x with bundles := [] }) S1
def sc (node mode hbt rtt : W64) : Req := rq [node + (mode <<< 20) + (2 <<< 24), 0x77, hbt + (rtt <<< 32) + (4 <<< 48), 10000]
def alone : Dev := dst (fun x => { x with mode := 0 }) D1

/-- States and operands that meet the hypotheses of `Obligations.StringCommands`, one part for each of its 22 cases that have hypotheses. -/
theorem witness_StringCommands :
    (∃ ch : Nat, ∃ r : Req, ∃ s : State, ∃ d : Dev, cmdWf ch r = true ∧ Accepted spec0700 ch r s.dev d ∧ (let w := r.word 0; let idle := d.jnl.replaying = none; idle ∧ (let w2 := r.word 2; let node := fld w 19 0; let inRange := 1 ≤ node ∧ node ≤ 0xFFFFE ∧ fld w 21 20 < 3 ∧ 10 ≤ fld w2 13 0 ∧ fld w2 13 0 ≤ 10000 ∧ 10 ≤ fld w2 42 32 ∧ fld w2 42 32 ≤ 2000 ∧ 1 ≤ fld w2 54 48 ∧ fld w2 54 48 ≤ 100 ∧ fld (r.word 3) 15 0 ≤ 60000; ¬ inRange))) ∧
    (∃ ch : Nat, ∃ r : Req, ∃ s : State, ∃ d : Dev, cmdWf ch r = true ∧ Accepted spec0700 ch r s.dev d ∧ (let w := r.word 0; let idle := d.jnl.replaying = none; idle ∧ (let w2 := r.word 2; let node := fld w 19 0; let inRange := 1 ≤ node ∧ node ≤ 0xFFFFE ∧ fld w 21 20 < 3 ∧ 10 ≤ fld w2 13 0 ∧ fld w2 13 0 ≤ 10000 ∧ 10 ≤ fld w2 42 32 ∧ fld w2 42 32 ≤ 2000 ∧ 1 ≤ fld w2 54 48 ∧ fld w2 54 48 ≤ 100 ∧ fld (r.word 3) 15 0 ≤ 60000; let moves := node ≠ d.str.node ∨ fld w 21 20 ≠ d.str.mode ∨ r.word 1 ≠ d.str.stringId; inRange ∧ moves ∧ ((∃ b, b < d.bundleCount ∧ (d.bundle b).state = .up))))) ∧
    (∃ ch : Nat, ∃ r : Req, ∃ s : State, ∃ d : Dev, ∃ e, cmdWf ch r = true ∧ Accepted spec0700 ch r s.dev d ∧ (let w := r.word 0; let idle := d.jnl.replaying = none; idle ∧ (let w2 := r.word 2; let node := fld w 19 0; let inRange := 1 ≤ node ∧ node ≤ 0xFFFFE ∧ fld w 21 20 < 3 ∧ 10 ≤ fld w2 13 0 ∧ fld w2 13 0 ≤ 10000 ∧ 10 ≤ fld w2 42 32 ∧ fld w2 42 32 ≤ 2000 ∧ 1 ≤ fld w2 54 48 ∧ fld w2 54 48 ≤ 100 ∧ fld (r.word 3) 15 0 ≤ 60000; let moves := node ≠ d.str.node ∨ fld w 21 20 ≠ d.str.mode ∨ r.word 1 ≠ d.str.stringId; let retimes := fld w2 13 0 ≠ d.str.heartbeatUs ∨ fld w2 42 32 ≠ d.str.maxRttUs; inRange ∧ moves ∧ ((∀ b, b < d.bundleCount → (d.bundle b).state ≠ .up)) ∧ ¬ retimes ∧ Recorded spec0700 ch r 0 [] d e))) ∧
    (∃ ch : Nat, ∃ r : Req, ∃ s : State, ∃ d : Dev, cmdWf ch r = true ∧ Accepted spec0700 ch r s.dev d ∧ (let w := r.word 0; let idle := d.jnl.replaying = none; idle ∧ (let w2 := r.word 2; let node := fld w 19 0; let inRange := 1 ≤ node ∧ node ≤ 0xFFFFE ∧ fld w 21 20 < 3 ∧ 10 ≤ fld w2 13 0 ∧ fld w2 13 0 ≤ 10000 ∧ 10 ≤ fld w2 42 32 ∧ fld w2 42 32 ≤ 2000 ∧ 1 ≤ fld w2 54 48 ∧ fld w2 54 48 ≤ 100 ∧ fld (r.word 3) 15 0 ≤ 60000; let moves := node ≠ d.str.node ∨ fld w 21 20 ≠ d.str.mode ∨ r.word 1 ≠ d.str.stringId; let retimes := fld w2 13 0 ≠ d.str.heartbeatUs ∨ fld w2 42 32 ≠ d.str.maxRttUs; inRange ∧ ¬ moves ∧ retimes ∧ d.nonLead = true))) ∧
    (∃ ch : Nat, ∃ r : Req, ∃ s : State, ∃ d : Dev, ∃ e, cmdWf ch r = true ∧ Accepted spec0700 ch r s.dev d ∧ (let w := r.word 0; let idle := d.jnl.replaying = none; idle ∧ (let w2 := r.word 2; let node := fld w 19 0; let inRange := 1 ≤ node ∧ node ≤ 0xFFFFE ∧ fld w 21 20 < 3 ∧ 10 ≤ fld w2 13 0 ∧ fld w2 13 0 ≤ 10000 ∧ 10 ≤ fld w2 42 32 ∧ fld w2 42 32 ≤ 2000 ∧ 1 ≤ fld w2 54 48 ∧ fld w2 54 48 ≤ 100 ∧ fld (r.word 3) 15 0 ≤ 60000; let moves := node ≠ d.str.node ∨ fld w 21 20 ≠ d.str.mode ∨ r.word 1 ≠ d.str.stringId; let retimes := fld w2 13 0 ≠ d.str.heartbeatUs ∨ fld w2 42 32 ≠ d.str.maxRttUs; inRange ∧ ¬ moves ∧ ¬ retimes ∧ Recorded spec0700 ch r 0 [] d e))) ∧
    (∃ ch : Nat, ∃ r : Req, ∃ s : State, ∃ d : Dev, ∃ e, cmdWf ch r = true ∧ Accepted spec0700 ch r s.dev d ∧ (let w := r.word 0; let idle := d.jnl.replaying = none; idle ∧ (let w2 := r.word 2; let node := fld w 19 0; let inRange := 1 ≤ node ∧ node ≤ 0xFFFFE ∧ fld w 21 20 < 3 ∧ 10 ≤ fld w2 13 0 ∧ fld w2 13 0 ≤ 10000 ∧ 10 ≤ fld w2 42 32 ∧ fld w2 42 32 ≤ 2000 ∧ 1 ≤ fld w2 54 48 ∧ fld w2 54 48 ≤ 100 ∧ fld (r.word 3) 15 0 ≤ 60000; let moves := node ≠ d.str.node ∨ fld w 21 20 ≠ d.str.mode ∨ r.word 1 ≠ d.str.stringId; let retimes := fld w2 13 0 ≠ d.str.heartbeatUs ∨ fld w2 42 32 ≠ d.str.maxRttUs; inRange ∧ ¬ moves ∧ retimes ∧ d.nonLead = false ∧ d.str.mode ≠ 0 ∧ Recorded spec0700 ch r 0 [] d e))) ∧
    (∃ ch : Nat, ∃ r : Req, ∃ s : State, ∃ d : Dev, cmdWf ch r = true ∧ Accepted spec0701 ch r s.dev d) ∧
    (∃ ch : Nat, ∃ r : Req, ∃ s : State, ∃ d : Dev, cmdWf ch r = true ∧ Accepted spec0702 ch r s.dev d ∧ (let n := fld (r.word 2) 12 0; (n = 0 ∨ 4096 < n ∨ fld (r.word 1) 2 0 ≠ 0))) ∧
    (∃ ch : Nat, ∃ r : Req, ∃ s : State, ∃ d : Dev, ∃ st, cmdWf ch r = true ∧ Accepted spec0702 ch r s.dev d ∧ (let w := r.word 0; let c := fld w 31 0; let n := fld (r.word 2) 12 0; let es := (d.str.members.drop c).take n; 1 ≤ n ∧ n ≤ 4096 ∧ fld (r.word 1) 2 0 = 0 ∧ es ≠ [] ∧ bufferFault .timeout d ch r = some st)) ∧
    (∃ ch : Nat, ∃ r : Req, ∃ s : State, ∃ d : Dev, cmdWf ch r = true ∧ Accepted spec0702 ch r s.dev d ∧ (let w := r.word 0; let c := fld w 31 0; let n := fld (r.word 2) 12 0; let es := (d.str.members.drop c).take n; 1 ≤ n ∧ n ≤ 4096 ∧ fld (r.word 1) 2 0 = 0 ∧ (es = [] ∨ bufferFault .timeout d ch r = none))) ∧
    (∃ ch : Nat, ∃ r : Req, ∃ s : State, ∃ d : Dev, cmdWf ch r = true ∧ Accepted spec0703 ch r s.dev d ∧ (let w := r.word 0; let idle := d.jnl.replaying = none; idle ∧ (let b := fld w 2 0; d.bundleCount ≤ b))) ∧
    (∃ ch : Nat, ∃ r : Req, ∃ s : State, ∃ d : Dev, cmdWf ch r = true ∧ Accepted spec0703 ch r s.dev d ∧ (let w := r.word 0; let idle := d.jnl.replaying = none; idle ∧ (let b := fld w 2 0; let x := d.bundle b; b < d.bundleCount ∧ x.adminUp = bit w 8))) ∧
    (∃ ch : Nat, ∃ r : Req, ∃ s : State, ∃ d : Dev, ∃ e, cmdWf ch r = true ∧ Accepted spec0703 ch r s.dev d ∧ (let w := r.word 0; let idle := d.jnl.replaying = none; idle ∧ (let b := fld w 2 0; let x := d.bundle b; b < d.bundleCount ∧ x.adminUp = false ∧ bit w 8 = true ∧ Recorded spec0703 ch r b [] d e))) ∧
    (∃ ch : Nat, ∃ r : Req, ∃ s : State, ∃ d : Dev, ∃ e, cmdWf ch r = true ∧ Accepted spec0703 ch r s.dev d ∧ (let w := r.word 0; let idle := d.jnl.replaying = none; idle ∧ (let b := fld w 2 0; let x := d.bundle b; b < d.bundleCount ∧ x.adminUp = true ∧ bit w 8 = false ∧ Recorded spec0703 ch r b [] d e))) ∧
    (∃ ch : Nat, ∃ r : Req, ∃ s : State, ∃ d : Dev, cmdWf ch r = true ∧ Accepted spec0704 ch r s.dev d ∧ (let w := r.word 0; let b := fld w 2 0; d.bundleCount ≤ b)) ∧
    (∃ ch : Nat, ∃ r : Req, ∃ s : State, ∃ d : Dev, cmdWf ch r = true ∧ Accepted spec0704 ch r s.dev d ∧ (let w := r.word 0; let b := fld w 2 0; b < d.bundleCount)) ∧
    (∃ ch : Nat, ∃ r : Req, ∃ s : State, ∃ d : Dev, cmdWf ch r = true ∧ Accepted spec0705 ch r s.dev d ∧ (let w := r.word 0; let idle := d.jnl.replaying = none; idle ∧ (let f := (BitVec.ofNat 32 (fld w 31 0)).toInt; (f < -100000 ∨ 100000 < f)))) ∧
    (∃ ch : Nat, ∃ r : Req, ∃ s : State, ∃ d : Dev, cmdWf ch r = true ∧ Accepted spec0705 ch r s.dev d ∧ (let w := r.word 0; let idle := d.jnl.replaying = none; idle ∧ (let f := (BitVec.ofNat 32 (fld w 31 0)).toInt; -100000 ≤ f ∧ f ≤ 100000 ∧ d.isLead = false))) ∧
    (∃ ch : Nat, ∃ r : Req, ∃ s : State, ∃ d : Dev, cmdWf ch r = true ∧ Accepted spec0705 ch r s.dev d ∧ (let w := r.word 0; let idle := d.jnl.replaying = none; idle ∧ (let f := (BitVec.ofNat 32 (fld w 31 0)).toInt; -100000 ≤ f ∧ f ≤ 100000 ∧ d.isLead = true ∧ d.nonLead = true))) ∧
    (∃ ch : Nat, ∃ r : Req, ∃ s : State, ∃ d : Dev, ∃ e, cmdWf ch r = true ∧ Accepted spec0705 ch r s.dev d ∧ (let w := r.word 0; let idle := d.jnl.replaying = none; idle ∧ (let f := (BitVec.ofNat 32 (fld w 31 0)).toInt; -100000 ≤ f ∧ f ≤ 100000 ∧ d.isLead = true ∧ d.nonLead = false ∧ Recorded spec0705 ch r 0 [] d e))) ∧
    (∃ ch : Nat, ∃ r : Req, ∃ s : State, ∃ d : Dev, cmdWf ch r = true ∧ Accepted spec0706 ch r s.dev d ∧ (let idle := d.jnl.replaying = none; idle ∧ ((∃ b, b < d.bundleCount ∧ (d.bundle b).state ≠ .down)))) ∧
    (∃ ch : Nat, ∃ r : Req, ∃ s : State, ∃ d : Dev, ∃ e, cmdWf ch r = true ∧ Accepted spec0706 ch r s.dev d ∧ (let idle := d.jnl.replaying = none; idle ∧ ((∀ b, b < d.bundleCount → (d.bundle b).state = .down)) ∧ Recorded spec0706 ch r 0 [] d e)) := by
  refine ⟨?_, ?_, ?_, ?_, ?_, ?_, ?_, ?_, ?_, ?_, ?_, ?_, ?_, ?_, ?_, ?_, ?_, ?_, ?_, ?_, ?_, ?_⟩
  · let ch : Nat := 4096
    let r : Req := sc 0 1 100 200
    let s : State := st S1
    let d : Dev := tk spec0700 r s.dev
    exact ⟨ch, r, s, d, by decide +kernel, ⟨(by decide +kernel), (by decide +kernel), rfl, (by decide +kernel)⟩, by decide +kernel⟩
  · let ch : Nat := 4096
    let r : Req := sc 4 1 100 200
    let s : State := st S1
    let d : Dev := tk spec0700 r s.dev
    exact ⟨ch, r, s, d, by decide +kernel, ⟨(by decide +kernel), (by decide +kernel), rfl, (by decide +kernel)⟩, by decide +kernel⟩
  · let ch : Nat := 4096
    let r : Req := sc 4 1 100 200
    let s : State := st D1
    let d : Dev := tk spec0700 r s.dev
    exact ⟨ch, r, s, d, (recd spec0700 ch r 0 [] d), by decide +kernel, ⟨(by decide +kernel), (by decide +kernel), rfl, (by decide +kernel)⟩, by delta Recorded; decide +kernel⟩
  · let ch : Nat := 4096
    let r : Req := sc 3 1 10 2000
    let s : State := st (dst (fun x => { x with partition := 2 }) S1)
    let d : Dev := tk spec0700 r s.dev
    exact ⟨ch, r, s, d, by decide +kernel, ⟨(by decide +kernel), (by decide +kernel), rfl, (by decide +kernel)⟩, by decide +kernel⟩
  · let ch : Nat := 4096
    let r : Req := sc 3 1 100 200
    let s : State := st S1
    let d : Dev := tk spec0700 r s.dev
    exact ⟨ch, r, s, d, (recd spec0700 ch r 0 [] d), by decide +kernel, ⟨(by decide +kernel), (by decide +kernel), rfl, (by decide +kernel)⟩, by delta Recorded; decide +kernel⟩
  · let ch : Nat := 4096
    let r : Req := sc 3 1 10 2000
    let s : State := st S1
    let d : Dev := tk spec0700 r s.dev
    exact ⟨ch, r, s, d, (recd spec0700 ch r 0 [] d), by decide +kernel, ⟨(by decide +kernel), (by decide +kernel), rfl, (by decide +kernel)⟩, by delta Recorded; decide +kernel⟩
  · let ch : Nat := 4096
    let r : Req := rqi []
    let s : State := st S1
    let d : Dev := tk spec0701 r s.dev
    exact ⟨ch, r, s, d, by decide +kernel, ⟨(by decide +kernel), (by decide +kernel), rfl, (by decide +kernel)⟩⟩
  · let ch : Nat := 4096
    let r : Req := rqi [0, 0x3000, 4097]
    let s : State := st S1
    let d : Dev := tk spec0702 r s.dev
    exact ⟨ch, r, s, d, by decide +kernel, ⟨(by decide +kernel), (by decide +kernel), rfl, (by decide +kernel)⟩, by decide +kernel⟩
  · let ch : Nat := 4096
    let r : Req := { rqi [1, 0x3000, 1] with host := ⟨true, true, false, [1, 0x3000, 1]⟩ }
    let s : State := st S1
    let d : Dev := tk spec0702 r s.dev
    let st := Status.timeout
    exact ⟨ch, r, s, d, st, by decide +kernel, ⟨(by decide +kernel), (by decide +kernel), rfl, (by decide +kernel)⟩, by decide +kernel⟩
  · let ch : Nat := 4096
    let r : Req := rqi [1, 0x3000, 1]
    let s : State := st S1
    let d : Dev := tk spec0702 r s.dev
    exact ⟨ch, r, s, d, by decide +kernel, ⟨(by decide +kernel), (by decide +kernel), rfl, (by decide +kernel)⟩, by decide +kernel⟩
  · let ch : Nat := 4096
    let r : Req := rq [7]
    let s : State := st S1
    let d : Dev := tk spec0703 r s.dev
    exact ⟨ch, r, s, d, by decide +kernel, ⟨(by decide +kernel), (by decide +kernel), rfl, (by decide +kernel)⟩, by decide +kernel⟩
  · let ch : Nat := 4096
    let r : Req := rq [1 + (1 <<< 8)]
    let s : State := st S1
    let d : Dev := tk spec0703 r s.dev
    exact ⟨ch, r, s, d, by decide +kernel, ⟨(by decide +kernel), (by decide +kernel), rfl, (by decide +kernel)⟩, by decide +kernel⟩
  · let ch : Nat := 4096
    let r : Req := rq [1 + (1 <<< 8)]
    let s : State := st (S1.setBundle 1 { B0 with adminUp := false, state := .down })
    let d : Dev := tk spec0703 r s.dev
    exact ⟨ch, r, s, d, (recd spec0703 ch r 1 [] d), by decide +kernel, ⟨(by decide +kernel), (by decide +kernel), rfl, (by decide +kernel)⟩, by delta Recorded; decide +kernel⟩
  · let ch : Nat := 4096
    let r : Req := rq [1]
    let s : State := st S1
    let d : Dev := tk spec0703 r s.dev
    exact ⟨ch, r, s, d, (recd spec0703 ch r 1 [] d), by decide +kernel, ⟨(by decide +kernel), (by decide +kernel), rfl, (by decide +kernel)⟩, by delta Recorded; decide +kernel⟩
  · let ch : Nat := 4096
    let r : Req := rqi [7]
    let s : State := st S1
    let d : Dev := tk spec0704 r s.dev
    exact ⟨ch, r, s, d, by decide +kernel, ⟨(by decide +kernel), (by decide +kernel), rfl, (by decide +kernel)⟩, by decide +kernel⟩
  · let ch : Nat := 4096
    let r : Req := rqi [1]
    let s : State := st S1
    let d : Dev := tk spec0704 r s.dev
    exact ⟨ch, r, s, d, by decide +kernel, ⟨(by decide +kernel), (by decide +kernel), rfl, (by decide +kernel)⟩, by decide +kernel⟩
  · let ch : Nat := 4096
    let r : Req := rq [100001]
    let s : State := st S1
    let d : Dev := tk spec0705 r s.dev
    exact ⟨ch, r, s, d, by decide +kernel, ⟨(by decide +kernel), (by decide +kernel), rfl, (by decide +kernel)⟩, by decide +kernel⟩
  · let ch : Nat := 4096
    let r : Req := rq [0xFFFE7960]
    let s : State := st (dst (fun x => { x with lead := 9 }) S1)
    let d : Dev := tk spec0705 r s.dev
    exact ⟨ch, r, s, d, by decide +kernel, ⟨(by decide +kernel), (by decide +kernel), rfl, (by decide +kernel)⟩, by decide +kernel⟩
  · let ch : Nat := 4096
    let r : Req := rq [0xFFFE7960]
    let s : State := st (dst (fun x => { x with partition := 2 }) S1)
    let d : Dev := tk spec0705 r s.dev
    exact ⟨ch, r, s, d, by decide +kernel, ⟨(by decide +kernel), (by decide +kernel), rfl, (by decide +kernel)⟩, by decide +kernel⟩
  · let ch : Nat := 4096
    let r : Req := rq [0xFFFE7960]
    let s : State := st S1
    let d : Dev := tk spec0705 r s.dev
    exact ⟨ch, r, s, d, (recd spec0705 ch r 0 [] d), by decide +kernel, ⟨(by decide +kernel), (by decide +kernel), rfl, (by decide +kernel)⟩, by delta Recorded; decide +kernel⟩
  · let ch : Nat := 4096
    let r : Req := rq [12345]
    let s : State := st S1
    let d : Dev := tk spec0706 r s.dev
    exact ⟨ch, r, s, d, by decide +kernel, ⟨(by decide +kernel), (by decide +kernel), rfl, (by decide +kernel)⟩, by decide +kernel⟩
  · let ch : Nat := 4096
    let r : Req := rq [12345]
    let s : State := st D1
    let d : Dev := tk spec0706 r s.dev
    exact ⟨ch, r, s, d, (recd spec0706 ch r 0 [] d), by decide +kernel, ⟨(by decide +kernel), (by decide +kernel), rfl, (by decide +kernel)⟩, by delta Recorded; decide +kernel⟩

end StringCommandsW

namespace LineCipherW

def gv (n : Nat) : List Byte := (List.range n).map (BitVec.ofNat 8)
def ac : Slice := { Slice.free with state := .active, pasid := 5, profile := { Profile.slice0 with queuePairs := 16, vectors := 8 } }
def sa (w0 w1 : W64) : Sa := { w0 := w0, w1 := w1, sci := 0, softLimit := 0, salt := 0, key := [1, 2], seq := 40, edge := 0, accepted := [], reserved := 100, reserving := false, sinceMark := 0, exhausted := false, softReached := false }
def one : Dev := { up.setSlice 3 ac with cry := { up.cry with lcpReady := true, sas := [(7, some (sa ((3 <<< 20) + (1 <<< 34)) (0x11 + (64 <<< 32))))] } }
def inn (s : Dev) : Dev := s
def espPkt (spi num : Nat) (icv : Byte) (tail : List Byte) : List Byte := gv 34 ++ beBytes spi 4 ++ beBytes num 4 ++ gv 8 ++ List.replicate 14 9 ++ tail ++ (icv :: gv 15)
def pk (sl : BitVec 12) (bs : List Byte) : Pkt := let p := Pkt.fresh (newTag up sl 0 0 bs) bs; { p with dest := .decrypt 7, tag := { p.tag with windowOffset := 34 } }
def D (p : Pkt) (d : Dev) : State := st { d with cry := { d.cry with decIn := [p, p] } }
theorem sealed_length (x : Sa) (bs : List Byte) : bs.length + 16 < sealedLen x bs := by
  unfold sealedLen
  split
  · split <;> omega
  · simp only []
    omega
def sx (x : Sa) : Dev := { one with cry := { one.cry with sas := [(7, some x)] } }
def i0 : Sa := sa ((3 <<< 20) + (1 <<< 34)) (0x11 + (64 <<< 32))
def o0 : Sa := sa ((3 <<< 20) + (1 <<< 33) + (1 <<< 34)) (0x11 + (14 <<< 48))
def ipf (n : Nat) : List Byte := gv 14 ++ [0x45, 0, 0, 40, 0, 0, 0, 0, 64, 6, 0, 0, 1, 2, 3, 4, 5, 6, 7, 8] ++ gv n
theorem some_getD {α : Type} {x : Option α} {d : α} (h : x.isSome = true) : x = some (x.getD d) := by
  cases x <;> first | rfl | cases h
theorem ipf_length (n : Nat) : (ipf n).length = 34 + n := by rw [ipf, List.length_append, gv, gv, List.length_append, List.length_map, List.length_map, List.length_range, List.length_range]; rfl
def ek (bs : List Byte) : Pkt := { Pkt.fresh (newTag up 3 0 0 bs) bs with dest := .port 5, fromQueue := 70 }
def Es (x : Sa) (bs : List Byte) : State := let d := sx x; st { d with cry := { d.cry with encIn := [ek bs, ek bs], bindings := [(70, some 7)] } }

/-- States and operands that meet the hypotheses of `Obligations.LineCipher`, one part for each of its 22 cases that have hypotheses; in 3 parts a hypothesis is left out that rests on an opaque value of Config or on a table too large to evaluate. -/
theorem witness_LineCipher :
    (∃ s : State, s.dev.cry.decIn = []) ∧
    (∃ p : Pkt, ∃ rest : List Pkt, ∃ n : Nat, ∃ s : State, s.dev.cry.decIn = p :: rest ∧ p.dest = .decrypt n ∧ p.pipe < 2 ∧ (let d := applyBoundary .lcpPacket isl.LCP { s.dev with cry := { s.dev.cry with decIn := rest } }; d.sa n = none)) ∧
    (∃ p : Pkt, ∃ rest : List Pkt, ∃ n : Nat, ∃ s : State, ∃ x, s.dev.cry.decIn = p :: rest ∧ p.dest = .decrypt n ∧ p.pipe < 2 ∧ (let d := applyBoundary .lcpPacket isl.LCP { s.dev with cry := { s.dev.cry with decIn := rest } }; d.sa n = some x ∧ d.saReadable n = false)) ∧
    (∃ p : Pkt, ∃ rest : List Pkt, ∃ n : Nat, ∃ s : State, ∃ x, s.dev.cry.decIn = p :: rest ∧ p.dest = .decrypt n ∧ p.pipe < 2 ∧ (let d := applyBoundary .lcpPacket isl.LCP { s.dev with cry := { s.dev.cry with decIn := rest } }; d.sa n = some x ∧ (let mine := d.cry.lcpReady = true ∧ saOutbound x = false ∧ (saOwner x = 0 ∨ saOwner x = p.tag.slice.toNat) ∧ (d.slice (saOwner x)).keyLost = false; d.saReadable n = true ∧ ¬ mine))) ∧
    (∃ p : Pkt, ∃ rest : List Pkt, ∃ n : Nat, ∃ s : State, ∃ x, s.dev.cry.decIn = p :: rest ∧ p.dest = .decrypt n ∧ p.pipe < 2 ∧ (let d := applyBoundary .lcpPacket isl.LCP { s.dev with cry := { s.dev.cry with decIn := rest } }; d.sa n = some x ∧ (let mine := d.cry.lcpReady = true ∧ saOutbound x = false ∧ (saOwner x = 0 ∨ saOwner x = p.tag.slice.toNat) ∧ (d.slice (saOwner x)).keyLost = false; d.saReadable n = true ∧ mine ∧ headerMatches d x p = false))) ∧
    (∃ p : Pkt, ∃ rest : List Pkt, ∃ n : Nat, ∃ s : State, ∃ x, s.dev.cry.decIn = p :: rest ∧ p.dest = .decrypt n ∧ p.pipe < 2 ∧ (let d := applyBoundary .lcpPacket isl.LCP { s.dev with cry := { s.dev.cry with decIn := rest } }; d.sa n = some x ∧ (let mine := d.cry.lcpReady = true ∧ saOutbound x = false ∧ (saOwner x = 0 ∨ saOwner x = p.tag.slice.toNat) ∧ (d.slice (saOwner x)).keyLost = false; let num := packetSeq x p; d.saReadable n = true ∧ mine ∧ headerMatches d x p = true ∧ replayOk x num = false))) ∧
    (∃ p : Pkt, ∃ rest : List Pkt, ∃ n : Nat, ∃ s : State, ∃ x, s.dev.cry.decIn = p :: rest ∧ p.dest = .decrypt n ∧ p.pipe < 2 ∧ (let d := applyBoundary .lcpPacket isl.LCP { s.dev with cry := { s.dev.cry with decIn := rest } }; d.sa n = some x ∧ (let mine := d.cry.lcpReady = true ∧ saOutbound x = false ∧ (saOwner x = 0 ∨ saOwner x = p.tag.slice.toNat) ∧ (d.slice (saOwner x)).keyLost = false; let num := packetSeq x p; d.saReadable n = true ∧ mine ∧ headerMatches d x p = true ∧ replayOk x num = true))) ∧
    (∃ p : Pkt, ∃ rest : List Pkt, ∃ n : Nat, ∃ s : State, ∃ x, ∃ u, s.dev.cry.decIn = p :: rest ∧ p.dest = .decrypt n ∧ p.pipe < 2 ∧ (let d := applyBoundary .lcpPacket isl.LCP { s.dev with cry := { s.dev.cry with decIn := rest } }; d.sa n = some x ∧ (let mine := d.cry.lcpReady = true ∧ saOutbound x = false ∧ (saOwner x = 0 ∨ saOwner x = p.tag.slice.toNat) ∧ (d.slice (saOwner x)).keyLost = false; let num := packetSeq x p; d.saReadable n = true ∧ mine ∧ headerMatches d x p = true ∧ replayOk x num = true ∧ trailerOk x u = false))) ∧
    (∃ p : Pkt, ∃ rest : List Pkt, ∃ n : Nat, ∃ s : State, ∃ x, ∃ u, s.dev.cry.decIn = p :: rest ∧ p.dest = .decrypt n ∧ p.pipe < 2 ∧ (let d := applyBoundary .lcpPacket isl.LCP { s.dev with cry := { s.dev.cry with decIn := rest } }; d.sa n = some x ∧ (let mine := d.cry.lcpReady = true ∧ saOutbound x = false ∧ (saOwner x = 0 ∨ saOwner x = p.tag.slice.toNat) ∧ (d.slice (saOwner x)).keyLost = false; let num := packetSeq x p; d.saReadable n = true ∧ mine ∧ headerMatches d x p = true ∧ replayOk x num = true ∧ trailerOk x u = true))) ∧
    (∃ p : Pkt, p.tag.pass ≠ 3) ∧
    (∃ s : State, s.dev.cry.encIn = []) ∧
    (∃ p : Pkt, ∃ rest : List Pkt, ∃ s : State, s.dev.cry.encIn = p :: rest ∧ (let d := applyBoundary .lcpPacket isl.LCP s.dev; let bound := SMap.get none d.cry.bindings p.fromQueue; bound = none)) ∧
    (∃ p : Pkt, ∃ rest : List Pkt, ∃ s : State, ∃ n, s.dev.cry.encIn = p :: rest ∧ (let d := applyBoundary .lcpPacket isl.LCP s.dev; let bound := SMap.get none d.cry.bindings p.fromQueue; bound = some n ∧ d.sa n = none)) ∧
    (∃ p : Pkt, ∃ rest : List Pkt, ∃ s : State, ∃ n, ∃ x, s.dev.cry.encIn = p :: rest ∧ (let d := applyBoundary .lcpPacket isl.LCP s.dev; let bound := SMap.get none d.cry.bindings p.fromQueue; bound = some n ∧ d.sa n = some x ∧ (let valid := d.cry.lcpReady = true ∧ x.exhausted = false ∧ saOutbound x = true ∧ x.seq ≤ saLast x ∧ d.saReadable n = true; ¬ valid))) ∧
    (∃ p : Pkt, ∃ rest : List Pkt, ∃ s : State, ∃ n, ∃ x, s.dev.cry.encIn = p :: rest ∧ (let d := applyBoundary .lcpPacket isl.LCP s.dev; let bound := SMap.get none d.cry.bindings p.fromQueue; bound = some n ∧ d.sa n = some x ∧ (let valid := d.cry.lcpReady = true ∧ x.exhausted = false ∧ saOutbound x = true ∧ x.seq ≤ saLast x ∧ d.saReadable n = true; valid ∧ (d.slice (saOwner x)).keyLost = true))) ∧
    (∃ p : Pkt, ∃ rest : List Pkt, ∃ s : State, ∃ n, ∃ x, s.dev.cry.encIn = p :: rest ∧ (let d := applyBoundary .lcpPacket isl.LCP s.dev; let bound := SMap.get none d.cry.bindings p.fromQueue; bound = some n ∧ d.sa n = some x ∧ (let valid := d.cry.lcpReady = true ∧ x.exhausted = false ∧ saOutbound x = true ∧ x.seq ≤ saLast x ∧ d.saReadable n = true; valid ∧ (d.slice (saOwner x)).keyLost = false ∧ 16384 < sealedLen x p.bytes))) ∧
    (∃ p : Pkt, ∃ rest : List Pkt, ∃ s : State, ∃ n, ∃ x, s.dev.cry.encIn = p :: rest ∧ (let d := applyBoundary .lcpPacket isl.LCP s.dev; let bound := SMap.get none d.cry.bindings p.fromQueue; bound = some n ∧ d.sa n = some x ∧ (let valid := d.cry.lcpReady = true ∧ x.exhausted = false ∧ saOutbound x = true ∧ x.seq ≤ saLast x ∧ d.saReadable n = true; valid ∧ (d.slice (saOwner x)).keyLost = false ∧ sealedLen x p.bytes ≤ 16384 ∧ saMacsec x = false ∧ ipHeader p.bytes (saIpOffset x) = none))) ∧
    (∃ p : Pkt, ∃ rest : List Pkt, ∃ s : State, ∃ n, ∃ x, s.dev.cry.encIn = p :: rest ∧ (let d := applyBoundary .lcpPacket isl.LCP s.dev; let bound := SMap.get none d.cry.bindings p.fromQueue; bound = some n ∧ d.sa n = some x ∧ (let valid := d.cry.lcpReady = true ∧ x.exhausted = false ∧ saOutbound x = true ∧ x.seq ≤ saLast x ∧ d.saReadable n = true; valid ∧ (d.slice (saOwner x)).keyLost = false ∧ sealedLen x p.bytes ≤ 16384 ∧ (saMacsec x = true ∨ ipHeader p.bytes (saIpOffset x) ≠ none) ∧ x.seq < x.reserved))) ∧
    (∃ p : Pkt, ∃ rest : List Pkt, ∃ s : State, ∃ n, ∃ x, s.dev.cry.encIn = p :: rest ∧ (let d := applyBoundary .lcpPacket isl.LCP s.dev; let bound := SMap.get none d.cry.bindings p.fromQueue; bound = some n ∧ d.sa n = some x ∧ (let valid := d.cry.lcpReady = true ∧ x.exhausted = false ∧ saOutbound x = true ∧ x.seq ≤ saLast x ∧ d.saReadable n = true; valid ∧ (d.slice (saOwner x)).keyLost = false ∧ sealedLen x p.bytes ≤ 16384 ∧ (saMacsec x = true ∨ ipHeader p.bytes (saIpOffset x) ≠ none) ∧ x.reserved ≤ x.seq ∧ x.reserving = true))) ∧
    (∃ p : Pkt, ∃ rest : List Pkt, ∃ s : State, ∃ n, ∃ x, ∃ e, s.dev.cry.encIn = p :: rest ∧ (let d := applyBoundary .lcpPacket isl.LCP s.dev; let bound := SMap.get none d.cry.bindings p.fromQueue; bound = some n ∧ d.sa n = some x ∧ (let valid := d.cry.lcpReady = true ∧ x.exhausted = false ∧ saOutbound x = true ∧ x.seq ≤ saLast x ∧ d.saReadable n = true; valid ∧ (d.slice (saOwner x)).keyLost = false ∧ sealedLen x p.bytes ≤ 16384 ∧ (saMacsec x = true ∨ ipHeader p.bytes (saIpOffset x) ≠ none) ∧ x.reserved ≤ x.seq ∧ x.reserving = false ∧ jTake 8 n 16 (.seqBlock false (x.reserved + 2 ^ 20)) (.seqBlock n false (x.reserved + 2 ^ 20)) d = some e))) ∧
    (∃ p : Pkt, ∃ rest : List Pkt, ∃ s : State, ∃ n, ∃ x, s.dev.cry.encIn = p :: rest ∧ (let d := applyBoundary .lcpPacket isl.LCP s.dev; let bound := SMap.get none d.cry.bindings p.fromQueue; bound = some n ∧ d.sa n = some x ∧ (let valid := d.cry.lcpReady = true ∧ x.exhausted = false ∧ saOutbound x = true ∧ x.seq ≤ saLast x ∧ d.saReadable n = true; valid ∧ (d.slice (saOwner x)).keyLost = false ∧ sealedLen x p.bytes ≤ 16384 ∧ (saMacsec x = true ∨ ipHeader p.bytes (saIpOffset x) ≠ none) ∧ x.reserved ≤ x.seq ∧ x.reserving = false ∧ jTake 8 n 16 (.seqBlock false (x.reserved + 2 ^ 20)) (.seqBlock n false (x.reserved + 2 ^ 20)) d = none))) ∧
    (∃ s : Dev, ∃ n : Nat, ∃ x : Sa, ∃ num : Nat, ∃ bs : List Byte, ∃ cs : List Byte, sealedFrame s n x num bs = some cs) := by
  refine ⟨?_, ?_, ?_, ?_, ?_, ?_, ?_, ?_, ?_, ?_, ?_, ?_, ?_, ?_, ?_, ?_, ?_, ?_, ?_, ?_, ?_, ?_⟩
  · let s : State := st one
    exact ⟨s, by decide +kernel⟩
  · let p : Pkt := pk 3 (espPkt 0x11 41 7 [1,5])
    let rest : List Pkt := [p]
    let n : Nat := 7
    let s : State := D p { one with cry := { one.cry with sas := [] } }
    exact ⟨p, rest, n, s, by decide +kernel⟩
  · let p : Pkt := pk 3 (espPkt 0x11 41 7 [1,5])
    let rest : List Pkt := [p]
    let n : Nat := 7
    let s : State := D p { one with mem := { one.mem with poisoned := [saLine 7] } }
    let x := i0
    exact ⟨p, rest, n, s, x, by decide +kernel⟩
  · let p : Pkt := pk 4 (espPkt 0x11 41 7 [1,5])
    let rest : List Pkt := [p]
    let n : Nat := 7
    let s : State := D p one
    let x := i0
    exact ⟨p, rest, n, s, x, by decide +kernel⟩
  · let p : Pkt := pk 3 (espPkt 0x12 41 7 [1,5])
    let rest : List Pkt := [p]
    let n : Nat := 7
    let s : State := D p one
    let x := i0
    exact ⟨p, rest, n, s, x, by decide +kernel⟩
  · let p : Pkt := pk 3 (espPkt 0x11 41 7 [1,5])
    let rest : List Pkt := [p]
    let n : Nat := 7
    let s : State := D p (sx ({ i0 with accepted := [41] }))
    let x := { i0 with accepted := [41] }
    exact ⟨p, rest, n, s, x, by decide +kernel⟩
  · let p : Pkt := pk 3 (espPkt 0x11 41 6 [1,5])
    let rest : List Pkt := [p]
    let n : Nat := 7
    let s : State := D p one
    let x := i0
    exact ⟨p, rest, n, s, x, by decide +kernel⟩
  · let p : Pkt := pk 3 (espPkt 0x11 41 7 [99,5])
    let rest : List Pkt := [p]
    let n : Nat := 7
    let s : State := D p one
    let x := i0
    exact ⟨p, rest, n, s, x, ((List.replicate 14 8 ++ [98, 4])), by decide +kernel⟩
  · let p : Pkt := pk 3 (espPkt 0x11 41 7 [1,5])
    let rest : List Pkt := [p]
    let n : Nat := 7
    let s : State := D p one
    let x := i0
    exact ⟨p, rest, n, s, x, ((List.replicate 14 8 ++ [0, 4])), by decide +kernel⟩
  · let c : Ctr := .lcpReplay
    let x : Option Sa := some i0
    let p : Pkt := pk 3 []
    let d : Dev := one
    exact ⟨p, by decide +kernel⟩
  · let s : State := st one
    exact ⟨s, by decide +kernel⟩
  · let p : Pkt := ek (ipf 20)
    let rest : List Pkt := [p]
    let s : State := st { one with cry := { one.cry with encIn := [p, p] } }
    exact ⟨p, rest, s, by decide +kernel⟩
  · let p : Pkt := ek (ipf 20)
    let rest : List Pkt := [p]
    let s : State := st { one with cry := { one.cry with encIn := [p, p], bindings := [(70, some 7)], sas := [] } }
    let n := 7
    exact ⟨p, rest, s, n, by decide +kernel⟩
  · let p : Pkt := ek (ipf 20)
    let rest : List Pkt := [p]
    let s : State := Es (i0) (ipf 20)
    let n := 7
    let x := i0
    exact ⟨p, rest, s, n, x, by decide +kernel⟩
  · let p : Pkt := ek (ipf 20)
    let rest : List Pkt := [p]
    let s : State := (let d := (Es o0 (ipf 20)).dev; st (d.setSlice 3 { ac with keyLost := true }))
    let d := applyBoundary .lcpPacket isl.LCP s.dev
    let n := 7
    let x := o0
    exact ⟨p, rest, s, n, x, by decide +kernel⟩
  · let p : Pkt := ek (ipf 16336)
    let rest : List Pkt := [p]
    let s : State := Es (o0) (ipf 16336)
    let n := 7
    let x := o0
    refine ⟨p, rest, s, n, x, ?_⟩
    exact ⟨rfl, by decide +kernel, by decide +kernel, by decide +kernel, by decide +kernel, Nat.lt_trans (by rw [show p.bytes.length = 16370 from ipf_length 16336]; decide) (sealed_length _ _)⟩
  · let p : Pkt := ek (gv 100)
    let rest : List Pkt := [p]
    let s : State := Es (o0) (gv 100)
    let n := 7
    let x := o0
    exact ⟨p, rest, s, n, x, by decide +kernel⟩
  · let p : Pkt := ek (ipf 20)
    let rest : List Pkt := [p]
    let s : State := Es (o0) (ipf 20)
    let n := 7
    let x := o0
    exact ⟨p, rest, s, n, x, by decide +kernel⟩
  · let p : Pkt := ek (ipf 21)
    let rest : List Pkt := [p]
    let s : State := Es ({ o0 with seq := 100, reserving := true }) (ipf 21)
    let n := 7
    let x := { o0 with seq := 100, reserving := true }
    exact ⟨p, rest, s, n, x, by decide +kernel⟩
  · let p : Pkt := ek (ipf 21)
    let rest : List Pkt := [p]
    let s : State := Es ({ o0 with seq := 100 }) (ipf 21)
    let n := 7
    let x := { o0 with seq := 100 }
    exact ⟨p, rest, s, n, x, ((jTake 8 n 16 (.seqBlock false (x.reserved + 2 ^ 20)) (.seqBlock n false (x.reserved + 2 ^ 20)) s.dev).getD up), by decide +kernel⟩
  · let p : Pkt := ek (ipf 21)
    let rest : List Pkt := [p]
    let s : State := (let d := (Es ({ o0 with seq := 100 }) (ipf 21)).dev; st { d with jnl := { d.jnl with stopped := true } })
    let d := applyBoundary .lcpPacket isl.LCP s.dev
    let n := 7
    let x := { o0 with seq := 100 }
    exact ⟨p, rest, s, n, x, by decide +kernel⟩
  · let s : Dev := one
    let n : Nat := 7
    let x : Sa := o0
    let num : Nat := 40
    let bs : List Byte := ipf 20
    let cs : List Byte := (sealedFrame one 7 o0 40 (ipf 20)).getD []
    refine ⟨s, n, x, num, bs, cs, ?_⟩
    exact some_getD (by decide +kernel)

end LineCipherW

namespace StorageEngineW

def ac : Slice := { Slice.free with state := .active, pasid := 5, profile := { Profile.slice0 with queuePairs := 16, vectors := 8 } }
def one : Dev := up.setSlice 3 ac
def atc : SMap (List AtcEntry) := [(0, [⟨some 5, 12, 0x100, true, true⟩, ⟨some 5, 12, 0x200, true, true⟩, ⟨some 5, 12, 0x300, true, true⟩])]
def q0 : QueuePair := { QueuePair.none with valid := true, slice := 3, k := 4, channel := 2, prefetch := 4, workAddr := 0x100000, cqAddr := 0x200000 }
def Q (x : QueuePair) : Dev := { one with qde := { one.qde with atc := atc } }.setQp 9 x
def snd : List W64 := [1 + (77 <<< 32), 0x300000, 64, 0, 0, 0, 0, 0]
def it (i : Nat) (ws : List W64) : WorkItem := { newItem i with words := ws, cached := true }
def pk (sl : BitVec 12) (bs : List Byte) : Pkt := Pkt.fresh (newTag up sl 0 0 bs) bs
def k0 : Conn := { Conn.closed with state := .ready, slice := 3, session := 20, unacked := true, retries := 2 }
def sw (op fl : Nat) : List W64 := [BitVec.ofNat 64 (op + 77 * 2 ^ 32), 0x300000, 4096, 8, BitVec.ofNat 64 (7 + 21 * 65536 + fl + 9 * 2 ^ 34), 0, 0, 0]
def m0 : NvmeCmd := { cid := 0, qp := 9, index := 0, opcode := 0x11 }
def stq : QueuePair := { q0 with typ := 2, items := [{ it 0 (sw 0x11 0) with started := true, sent := some (21, 0), cur := List.replicate 40 5 }] }
def CC (a k : Conn) (d : Dev) : Dev := { d with cry := { d.cry with ste := .service, conns := [(20, a), (21, k)] } }
def adm : Conn := { Conn.closed with state := .ready, admin := true, slice := 3, session := 20 }
def spk : Pkt := { pk 3 [1,2,3] with dest := .storage (some 21) }
def SI (k : Conn) : State := let d := CC adm k (Q stq); st { d with cry := { d.cry with steIn := [spk, spk] } }
def kc : Conn := { k0 with cmds := [m0] }
def enc (d : Dev) : Dev := { d with cry := { d.cry with keys := [(13, some ⟨[1],[2],32,5⟩)] } }
def stp (fl : Nat) : QueuePair := { q0 with typ := 2, items := [it 0 (sw 0x10 fl)] }
def EF : Nat := 2 ^ 32 + 2 ^ 30

/-- States and operands that meet the hypotheses of `Obligations.StorageEngine`, one part for each of its 32 cases that have hypotheses. -/
theorem witness_StorageEngine :
    (∃ q : Nat, ∃ s : State, q < 256 ∧ (let opens := s.dev.cry.ste ≠ .service ∧ s.dev.cry.ste ≠ .failed; ¬ opens)) ∧
    (∃ q : Nat, ∃ len : Nat, ∃ s : State, q < 256 ∧ (let opens := s.dev.cry.ste ≠ .service ∧ s.dev.cry.ste ≠ .failed; opens ∧ 67108864 < len)) ∧
    (∃ q : Nat, ∃ len : Nat, ∃ aad : Nat, ∃ s : State, q < 256 ∧ (let opens := s.dev.cry.ste ≠ .service ∧ s.dev.cry.ste ≠ .failed; opens ∧ len ≤ 67108864 ∧ 65536 < aad)) ∧
    (∃ q : Nat, ∃ len : Nat, ∃ aad : Nat, ∃ iv : Nat, ∃ s : State, q < 256 ∧ (let opens := s.dev.cry.ste ≠ .service ∧ s.dev.cry.ste ≠ .failed; opens ∧ len ≤ 67108864 ∧ aad ≤ 65536 ∧ iv ≠ 96)) ∧
    (∃ q : Nat, ∃ len : Nat, ∃ aad : Nat, ∃ iv : Nat, ∃ s : State, q < 256 ∧ (let opens := s.dev.cry.ste ≠ .service ∧ s.dev.cry.ste ≠ .failed; opens ∧ len ≤ 67108864 ∧ aad ≤ 65536 ∧ iv = 96)) ∧
    (∃ s : State, s.dev.cry.steIn = []) ∧
    (∃ s : State, ∃ p, ∃ rest : List Pkt, s.dev.cry.steIn = p :: rest ∧ (let d := { s.dev with cry := { s.dev.cry with steIn := rest } }; connOf p d = none)) ∧
    (∃ s : State, ∃ p, ∃ rest : List Pkt, ∃ c, s.dev.cry.steIn = p :: rest ∧ (let d := { s.dev with cry := { s.dev.cry with steIn := rest } }; connOf p d = some c)) ∧
    (∃ s : State, ∃ p, ∃ rest : List Pkt, ∃ c, s.dev.cry.steIn = p :: rest ∧ (let d := { s.dev with cry := { s.dev.cry with steIn := rest } }; connOf p d = some c ∧ (let x := d.conn c; x.state = .connecting))) ∧
    (∃ s : State, ∃ p, ∃ rest : List Pkt, ∃ c, s.dev.cry.steIn = p :: rest ∧ (let d := { s.dev with cry := { s.dev.cry with steIn := rest } }; connOf p d = some c ∧ (let x := d.conn c; x.state ≠ .closing))) ∧
    (∃ s : State, ∃ p, ∃ rest : List Pkt, ∃ c, s.dev.cry.steIn = p :: rest ∧ (let d := { s.dev with cry := { s.dev.cry with steIn := rest } }; connOf p d = some c ∧ (let x := d.conn c; x.state = .closing ∧ d.connOutstanding c = 0))) ∧
    (∃ s : State, ∃ p, ∃ rest : List Pkt, ∃ c, ∃ cid, ∃ m, ∃ i, s.dev.cry.steIn = p :: rest ∧ (let d := { s.dev with cry := { s.dev.cry with steIn := rest } }; connOf p d = some c ∧ (let x := d.conn c; x.cmds.find? (fun m => m.cid == cid) = some m ∧ cmdLive d c m = true ∧ findItem (d.qp m.qp) m.index = some i))) ∧
    (∃ c : Nat, ∃ cause : Nat, ∃ s : State, Wf.storageTransportFailure c cause = true ∧ SMap.rising s.dev.cry.conns = true ∧ (let x := s.dev.conn c; x.state ≠ .connecting ∧ x.state ≠ .ready)) ∧
    (∃ c : Nat, ∃ cause : Nat, ∃ s : State, Wf.storageTransportFailure c cause = true ∧ SMap.rising s.dev.cry.conns = true ∧ (let x := s.dev.conn c; (x.state = .connecting ∨ x.state = .ready))) ∧
    (∃ c : Nat, ∃ s : State, c < 16384 ∧ (let x := s.dev.conn c; x.unacked = false)) ∧
    (∃ c : Nat, ∃ s : State, c < 16384 ∧ (let x := s.dev.conn c; let d := applyBoundary .retransmission isl.STE s.dev; x.unacked = true ∧ d.regField isl.STE 0x010 3 0 ≤ x.retries)) ∧
    (∃ c : Nat, ∃ s : State, c < 16384 ∧ (let x := s.dev.conn c; let d := applyBoundary .retransmission isl.STE s.dev; x.unacked = true ∧ x.retries < d.regField isl.STE 0x010 3 0)) ∧
    (∃ c : Nat, ∃ s : State, c < 16384 ∧ (let x := s.dev.conn c; x.admin = true ∧ x.state = .ready)) ∧
    (∃ c : Nat, ∃ s : State, c < 16384 ∧ (let x := s.dev.conn c; (x.admin = false ∨ x.state ≠ .ready))) ∧
    (∃ c : Nat, ∃ s : State, c < 16384 ∧ (let x := s.dev.conn c; x.state ≠ .closing)) ∧
    (∃ c : Nat, ∃ s : State, c < 16384 ∧ (let x := s.dev.conn c; x.state = .closing ∧ s.dev.connOutstanding c = 0)) ∧
    (∃ c : Nat, ∃ cid : Nat, ∃ status : Nat, ∃ cqe : List Byte, ∃ s : State, Wf.nvmeCompletion c cid status cqe = true ∧ (let x := s.dev.conn c; x.state = .ready ∧ x.cmds.find? (fun m => m.cid == cid) = none)) ∧
    (∃ c : Nat, ∃ cid : Nat, ∃ status : Nat, ∃ cqe : List Byte, ∃ s : State, ∃ m, Wf.nvmeCompletion c cid status cqe = true ∧ (let x := s.dev.conn c; x.state = .ready ∧ x.cmds.find? (fun m => m.cid == cid) = some m ∧ cmdLive s.dev c m = false)) ∧
    (∃ c : Nat, ∃ cid : Nat, ∃ status : Nat, ∃ cqe : List Byte, ∃ s : State, ∃ m, ∃ i, Wf.nvmeCompletion c cid status cqe = true ∧ (let x := s.dev.conn c; x.state = .ready ∧ x.cmds.find? (fun m => m.cid == cid) = some m ∧ cmdLive s.dev c m = true ∧ findItem (s.dev.qp m.qp) m.index = some i ∧ status = 0 ∧ m.opcode ≠ 0x12)) ∧
    (∃ c : Nat, ∃ cid : Nat, ∃ status : Nat, ∃ cqe : List Byte, ∃ s : State, ∃ m, ∃ i, Wf.nvmeCompletion c cid status cqe = true ∧ (let x := s.dev.conn c; x.state = .ready ∧ x.cmds.find? (fun m => m.cid == cid) = some m ∧ cmdLive s.dev c m = true ∧ findItem (s.dev.qp m.qp) m.index = some i ∧ status = 0 ∧ m.opcode = 0x12)) ∧
    (∃ c : Nat, ∃ cid : Nat, ∃ status : Nat, ∃ cqe : List Byte, ∃ s : State, ∃ m, ∃ i, Wf.nvmeCompletion c cid status cqe = true ∧ (let x := s.dev.conn c; x.state = .ready ∧ x.cmds.find? (fun m => m.cid == cid) = some m ∧ cmdLive s.dev c m = true ∧ findItem (s.dev.qp m.qp) m.index = some i ∧ status ≠ 0 ∧ m.opcode = 0x12)) ∧
    (∃ c : Nat, ∃ cid : Nat, ∃ status : Nat, ∃ cqe : List Byte, ∃ s : State, ∃ m, ∃ i, Wf.nvmeCompletion c cid status cqe = true ∧ (let x := s.dev.conn c; x.state = .ready ∧ x.cmds.find? (fun m => m.cid == cid) = some m ∧ cmdLive s.dev c m = true ∧ findItem (s.dev.qp m.qp) m.index = some i ∧ status ≠ 0 ∧ m.opcode ≠ 0x12)) ∧
    (∃ q : Nat, ∃ index : Nat, ∃ i : WorkItem, ∃ d : Dev, findItem (d.qp q) index = some i ∧ d.cry.ste = .failed) ∧
    (∃ q : Nat, ∃ index : Nat, ∃ i : WorkItem, ∃ d : Dev, findItem (d.qp q) index = some i ∧ (let sl := (d.qp q).slice; d.cry.ste ≠ .failed ∧ stEncrypt i.words = true ∧ (d.slice sl).keyLost = true)) ∧
    (∃ q : Nat, ∃ index : Nat, ∃ i : WorkItem, ∃ d : Dev, findItem (d.qp q) index = some i ∧ (let sl := (d.qp q).slice; d.cry.ste ≠ .failed ∧ stEncrypt i.words = true ∧ (d.slice sl).keyLost = false ∧ d.stKey sl (stSlot i.words) = none)) ∧
    (∃ q : Nat, ∃ index : Nat, ∃ i : WorkItem, ∃ d : Dev, findItem (d.qp q) index = some i ∧ d.cry.ste ≠ .failed ∧ stEncrypt i.words = false ∧ (d.conn (stConn i.words)).state ≠ .ready) ∧
    (∃ d : Dev, ∃ sl : Nat, ∃ ws : List W64, ∃ k : StKey, ∃ bs : List Byte, stEncrypt ws = true ∧ d.stKey sl (stSlot ws) = some k ∧ bs ≠ [] ∧ bs.length = k.duBytes) := by
  refine ⟨?_, ?_, ?_, ?_, ?_, ?_, ?_, ?_, ?_, ?_, ?_, ?_, ?_, ?_, ?_, ?_, ?_, ?_, ?_, ?_, ?_, ?_, ?_, ?_, ?_, ?_, ?_, ?_, ?_, ?_, ?_, ?_⟩
  · let q : Nat := 5
    let len : Nat := 10
    let aad : Nat := 10
    let iv : Nat := 96
    let s : State := SI kc
    exact ⟨q, s, by decide +kernel⟩
  · let q : Nat := 5
    let len : Nat := 67108865
    let aad : Nat := 10
    let iv : Nat := 96
    let s : State := st one
    exact ⟨q, len, s, by decide +kernel⟩
  · let q : Nat := 5
    let len : Nat := 67108864
    let aad : Nat := 65537
    let iv : Nat := 96
    let s : State := st one
    exact ⟨q, len, aad, s, by decide +kernel⟩
  · let q : Nat := 5
    let len : Nat := 67108864
    let aad : Nat := 65536
    let iv : Nat := 95
    let s : State := st one
    exact ⟨q, len, aad, iv, s, by decide +kernel⟩
  · let q : Nat := 5
    let len : Nat := 67108864
    let aad : Nat := 65536
    let iv : Nat := 96
    let s : State := st one
    exact ⟨q, len, aad, iv, s, by decide +kernel⟩
  · let g : StSegment := .ack
    let s : State := st one
    exact ⟨s, by decide +kernel⟩
  · let g : StSegment := .ack
    let s : State := (let d := (SI kc).dev; st { d with cry := { d.cry with steIn := [{ spk with dest := .storage (some 22) }] } })
    let rest : List Pkt := []
    let d := { s.dev with cry := { s.dev.cry with steIn := rest } }
    exact ⟨s, ({ spk with dest := .storage (some 22) }), rest, by decide +kernel⟩
  · let g : StSegment := .ack
    let s : State := SI kc
    let rest : List Pkt := [spk]
    exact ⟨s, (spk), rest, (21), by decide +kernel⟩
  · let g : StSegment := .ack
    let s : State := SI { kc with state := .connecting }
    let rest : List Pkt := [spk]
    exact ⟨s, (spk), rest, (21), by decide +kernel⟩
  · let g : StSegment := .ack
    let s : State := SI kc
    let rest : List Pkt := [spk]
    exact ⟨s, (spk), rest, (21), by decide +kernel⟩
  · let g : StSegment := .ack
    let s : State := SI { k0 with state := .closing, lastCause := 0x8005 }
    let rest : List Pkt := [spk]
    exact ⟨s, (spk), rest, (21), by decide +kernel⟩
  · let g : StSegment := .ack
    let s : State := SI kc
    let rest : List Pkt := [spk]
    let n := 100
    exact ⟨s, (spk), rest, (21), (0), (m0), ({ it 0 (sw 0x11 0) with started := true, sent := some (21, 0), cur := List.replicate 40 5 }), by decide +kernel⟩
  · let c : Nat := 21
    let cause : Nat := 0x8001
    let s : State := SI { kc with state := .closing }
    exact ⟨c, cause, s, by decide +kernel⟩
  · let c : Nat := 21
    let cause : Nat := 0x8001
    let s : State := SI kc
    exact ⟨c, cause, s, by decide +kernel⟩
  · let c : Nat := 21
    let s : State := SI { kc with unacked := false }
    exact ⟨c, s, by decide +kernel⟩
  · let c : Nat := 21
    let s : State := SI { kc with retries := 15 }
    exact ⟨c, s, by decide +kernel⟩
  · let c : Nat := 21
    let s : State := SI { kc with retries := 1 }
    exact ⟨c, s, by decide +kernel⟩
  · let c : Nat := 20
    let s : State := SI kc
    exact ⟨c, s, by decide +kernel⟩
  · let c : Nat := 21
    let s : State := SI kc
    exact ⟨c, s, by decide +kernel⟩
  · let c : Nat := 21
    let s : State := SI kc
    exact ⟨c, s, by decide +kernel⟩
  · let c : Nat := 21
    let s : State := SI { k0 with state := .closing, lastCause := 0x8005 }
    exact ⟨c, s, by decide +kernel⟩
  · let c : Nat := 21
    let cid : Nat := 5
    let status : Nat := 0
    let cqe : List Byte := []
    let s : State := SI kc
    exact ⟨c, cid, status, cqe, s, by decide +kernel⟩
  · let c : Nat := 21
    let cid : Nat := 0
    let status : Nat := 0
    let cqe : List Byte := []
    let s : State := SI { kc with cmds := [{ m0 with index := 1 }] }
    exact ⟨c, cid, status, cqe, s, ({ m0 with index := 1 }), by decide +kernel⟩
  · let c : Nat := 21
    let cid : Nat := 0
    let status : Nat := 0
    let cqe : List Byte := []
    let s : State := SI kc
    exact ⟨c, cid, status, cqe, s, (m0), ({ it 0 (sw 0x11 0) with started := true, sent := some (21, 0), cur := List.replicate 40 5 }), by decide +kernel⟩
  · let c : Nat := 21
    let cid : Nat := 0
    let status : Nat := 0
    let cqe : List Byte := List.replicate 16 7
    let s : State := SI { kc with cmds := [{ m0 with opcode := 0x12 }] }
    exact ⟨c, cid, status, cqe, s, ({ m0 with opcode := 0x12 }), ({ it 0 (sw 0x11 0) with started := true, sent := some (21, 0), cur := List.replicate 40 5 }), by decide +kernel⟩
  · let c : Nat := 21
    let cid : Nat := 0
    let status : Nat := 0x281
    let cqe : List Byte := List.replicate 16 7
    let s : State := SI { kc with cmds := [{ m0 with opcode := 0x12 }] }
    exact ⟨c, cid, status, cqe, s, ({ m0 with opcode := 0x12 }), ({ it 0 (sw 0x11 0) with started := true, sent := some (21, 0), cur := List.replicate 40 5 }), by decide +kernel⟩
  · let c : Nat := 21
    let cid : Nat := 0
    let status : Nat := 0x281
    let cqe : List Byte := []
    let s : State := SI kc
    exact ⟨c, cid, status, cqe, s, (m0), ({ it 0 (sw 0x11 0) with started := true, sent := some (21, 0), cur := List.replicate 40 5 }), by decide +kernel⟩
  · let q : Nat := 9
    let index : Nat := 0
    let i : WorkItem := it 0 (sw 0x10 0)
    let d : Dev := (let d := CC adm kc (Q (stp 0)); { d with cry := { d.cry with ste := .failed } })
    exact ⟨q, index, i, d, by decide +kernel⟩
  · let q : Nat := 9
    let index : Nat := 0
    let i : WorkItem := it 0 (sw 0x10 EF)
    let d : Dev := (CC adm kc (Q (stp EF))).setSlice 3 { ac with keyLost := true }
    exact ⟨q, index, i, d, by decide +kernel⟩
  · let q : Nat := 9
    let index : Nat := 0
    let i : WorkItem := it 0 (sw 0x10 EF)
    let d : Dev := CC adm kc (Q (stp EF))
    exact ⟨q, index, i, d, by decide +kernel⟩
  · let q : Nat := 9
    let index : Nat := 0
    let i : WorkItem := it 0 (sw 0x10 0)
    let d : Dev := CC adm { kc with state := .failed } (Q (stp 0))
    exact ⟨q, index, i, d, by decide +kernel⟩
  · let d : Dev := enc one
    let sl : Nat := 3
    let u : Nat := 2
    let ws : List W64 := sw 0x10 EF
    let enc : Bool := true
    let k : StKey := ⟨[1],[2],32,5⟩
    let bs : List Byte := List.replicate 32 4
    exact ⟨d, sl, ws, k, bs, by decide +kernel⟩

end StorageEngineW

namespace CryptoCommandsW

def ac : Slice := { Slice.free with state := .active, pasid := 5, profile := { Profile.slice0 with securityAssocs := 2, storageConns := 4 } }
def sa (w0 w1 : W64) : Sa := { w0 := w0, w1 := w1, sci := 0, softLimit := 0, salt := 0, key := [1, 2], seq := 40, edge := 0, accepted := [], reserved := 100, reserving := false, sinceMark := 0, exhausted := false, softReached := false }
def x7 : Sa := sa ((3 <<< 20) + (1 <<< 33) + (1 <<< 34)) (0x11 + (14 <<< 48))
def cr (f : Crypto → Crypto) (d : Dev) : Dev := { d with cry := f d.cry }
def one : Dev := cr (fun c => { c with lcpReady := true, sas := [(7, some x7)] }) ((up.setSlice 3 ac).setSlice 5 { ac with pasid := 6 })
def lost : Dev := one.setSlice 3 { ac with keyLost := true }
def saw (n out : W64) : List W64 := [n + (3 <<< 20) + (out <<< 33) + (1 <<< 34), 0x11 + (64 <<< 32) + (14 <<< 48), 500, 1, 2, 3, 4, 5, 6, 7, 8]
def ksw (f : W64) : List W64 := [3 + (1 <<< 12) + (1 <<< 14) + (32 <<< 16) + f, 9, 1, 2, 3, 4, 5, 6, 7, 8]
def stq : QueuePair := { QueuePair.none with valid := true, slice := 3, k := 4, channel := 2, typ := 2, workAddr := 0x100000, cqAddr := 0x200000, items := [{ newItem 0 with words := [0x10, 0, 0, 0, (1 <<< 30) + (1 <<< 32)], started := true }] }
def adm : Conn := { Conn.closed with state := .ready, admin := true, slice := 3, session := 20 }
def ses : Dev := cr (fun c => { c with conns := [(20, adm), (21, { adm with admin := false })], sessions := [(20, some ⟨[], 1⟩)] }) one
def sow : List W64 := [3 + (1 <<< 12) + (9 <<< 39), 0, 1460 <<< 48, 0, 0, 0, 0, 5000, 0, 0, 4 + (4 <<< 8), 0]

/-- States and operands that meet the hypotheses of `Obligations.CryptoCommands`, one part for each of its 38 cases that have hypotheses; in 3 parts a hypothesis is left out that rests on an opaque value of Config or on a table too large to evaluate. -/
theorem witness_CryptoCommands :
    (∃ ch : Nat, ∃ r : Req, ∃ d : Dev, r.host.writeOk = true ∧ d.linkUsable (d.bufPort ch).1 (d.bufPort ch).2.1 = true) ∧
    (∃ ch : Nat, ∃ r : Req, ∃ s : State, ∃ d : Dev, cmdWf ch r = true ∧ r.indirect = true ∧ keysRead spec0800 ch r s.dev = true ∧ d.jnl.replaying = none ∧ Accepted spec0800 ch r (zeroPayload ch r s.dev) d ∧ (let w := r.word 0; let n := fld w 19 0; let owner := fld w 31 20; let may := 4096 ≤ ch ∨ (ch = owner ∧ ∀ x, d.sa n = some x → saOwner x = owner); ¬ may)) ∧
    (∃ ch : Nat, ∃ r : Req, ∃ s : State, ∃ d : Dev, cmdWf ch r = true ∧ r.indirect = true ∧ keysRead spec0800 ch r s.dev = true ∧ d.jnl.replaying = none ∧ Accepted spec0800 ch r (zeroPayload ch r s.dev) d ∧ (let w := r.word 0; let w1 := r.word 1; let n := fld w 19 0; let owner := fld w 31 20; let win := fld w1 44 32; let inRange := (bit w 32 = true → bit w 34 = true) ∧ (win = 0 ∨ (64 ≤ win ∧ win ≤ 4096 ∧ win % 64 = 0)) ∧ (bit w 32 = false → bit w 33 = true → 14 ≤ fld w1 55 48) ∧ (d.slice owner).state ≠ .free; let may := 4096 ≤ ch ∨ (ch = owner ∧ ∀ x, d.sa n = some x → saOwner x = owner); may ∧ ¬ inRange)) ∧
    (∃ ch : Nat, ∃ r : Req, ∃ s : State, ∃ d : Dev, cmdWf ch r = true ∧ r.indirect = true ∧ keysRead spec0800 ch r s.dev = true ∧ d.jnl.replaying = none ∧ Accepted spec0800 ch r (zeroPayload ch r s.dev) d ∧ (let w := r.word 0; let w1 := r.word 1; let n := fld w 19 0; let owner := fld w 31 20; let win := fld w1 44 32; let inRange := (bit w 32 = true → bit w 34 = true) ∧ (win = 0 ∨ (64 ≤ win ∧ win ≤ 4096 ∧ win % 64 = 0)) ∧ (bit w 32 = false → bit w 33 = true → 14 ≤ fld w1 55 48) ∧ (d.slice owner).state ≠ .free; let may := 4096 ≤ ch ∨ (ch = owner ∧ ∀ x, d.sa n = some x → saOwner x = owner); let keys := (d.slice owner).keyLost = false ∧ d.eraseHold = false; inRange ∧ may ∧ ¬ keys)) ∧
    (∃ ch : Nat, ∃ r : Req, ∃ s : State, ∃ d : Dev, cmdWf ch r = true ∧ r.indirect = true ∧ keysRead spec0800 ch r s.dev = true ∧ d.jnl.replaying = none ∧ Accepted spec0800 ch r (zeroPayload ch r s.dev) d ∧ (let w := r.word 0; let w1 := r.word 1; let n := fld w 19 0; let owner := fld w 31 20; let win := fld w1 44 32; let inRange := (bit w 32 = true → bit w 34 = true) ∧ (win = 0 ∨ (64 ≤ win ∧ win ≤ 4096 ∧ win % 64 = 0)) ∧ (bit w 32 = false → bit w 33 = true → 14 ≤ fld w1 55 48) ∧ (d.slice owner).state ≠ .free; let may := 4096 ≤ ch ∨ (ch = owner ∧ ∀ x, d.sa n = some x → saOwner x = owner); let keys := (d.slice owner).keyLost = false ∧ d.eraseHold = false; let kept := saBound d n = false ∨ ∀ x, d.sa n = some x → saOutbound x = bit w 33; inRange ∧ may ∧ keys ∧ ¬ kept)) ∧
    (∃ ch : Nat, ∃ r : Req, ∃ s : State, ∃ d : Dev, cmdWf ch r = true ∧ r.indirect = true ∧ keysRead spec0800 ch r s.dev = true ∧ d.jnl.replaying = none ∧ Accepted spec0800 ch r (zeroPayload ch r s.dev) d ∧ (let w := r.word 0; let w1 := r.word 1; let n := fld w 19 0; let owner := fld w 31 20; let win := fld w1 44 32; let held := (d.cry.sas.filter (fun e => e.1 != n && e.2.any (fun x => saOwner x == owner))).length; let inRange := (bit w 32 = true → bit w 34 = true) ∧ (win = 0 ∨ (64 ≤ win ∧ win ≤ 4096 ∧ win % 64 = 0)) ∧ (bit w 32 = false → bit w 33 = true → 14 ≤ fld w1 55 48) ∧ (d.slice owner).state ≠ .free; let may := 4096 ≤ ch ∨ (ch = owner ∧ ∀ x, d.sa n = some x → saOwner x = owner); let keys := (d.slice owner).keyLost = false ∧ d.eraseHold = false; let kept := saBound d n = false ∨ ∀ x, d.sa n = some x → saOutbound x = bit w 33; inRange ∧ may ∧ keys ∧ kept ∧ (d.slice owner).profile.securityAssocs ≤ held)) ∧
    (∃ ch : Nat, ∃ r : Req, ∃ s : State, ∃ d : Dev, ∃ e, cmdWf ch r = true ∧ r.indirect = true ∧ keysRead spec0800 ch r s.dev = true ∧ d.jnl.replaying = none ∧ Accepted spec0800 ch r (zeroPayload ch r s.dev) d ∧ (let w := r.word 0; let w1 := r.word 1; let n := fld w 19 0; let owner := fld w 31 20; let win := fld w1 44 32; let held := (d.cry.sas.filter (fun e => e.1 != n && e.2.any (fun x => saOwner x == owner))).length; let inRange := (bit w 32 = true → bit w 34 = true) ∧ (win = 0 ∨ (64 ≤ win ∧ win ≤ 4096 ∧ win % 64 = 0)) ∧ (bit w 32 = false → bit w 33 = true → 14 ≤ fld w1 55 48) ∧ (d.slice owner).state ≠ .free; let may := 4096 ≤ ch ∨ (ch = owner ∧ ∀ x, d.sa n = some x → saOwner x = owner); let keys := (d.slice owner).keyLost = false ∧ d.eraseHold = false; let kept := saBound d n = false ∨ ∀ x, d.sa n = some x → saOutbound x = bit w 33; inRange ∧ may ∧ keys ∧ kept ∧ held < (d.slice owner).profile.securityAssocs ∧ Recorded spec0800 ch r n [] d e)) ∧
    (∃ ch : Nat, ∃ r : Req, ∃ s : State, ∃ d : Dev, cmdWf ch r = true ∧ r.indirect = true ∧ keysRead spec0810 ch r s.dev = true ∧ d.jnl.replaying = none ∧ Accepted spec0810 ch r (zeroPayload ch r s.dev) d ∧ (let w := r.word 0; let sl := fld w 11 0; ch < 4096 ∧ ch ≠ sl)) ∧
    (∃ ch : Nat, ∃ r : Req, ∃ s : State, ∃ d : Dev, cmdWf ch r = true ∧ r.indirect = true ∧ keysRead spec0810 ch r s.dev = true ∧ d.jnl.replaying = none ∧ Accepted spec0810 ch r (zeroPayload ch r s.dev) d ∧ (let w := r.word 0; let sl := fld w 11 0; let du := fld w 40 16; let k1 := (r.words.drop 2).take 4; let k2 := (r.words.drop 6).take 4; let inRange := (d.slice sl).state ≠ .free ∧ (bit w 14 = true → du % 16 = 0 ∧ 16 ≤ du ∧ du ≤ 16777216 ∧ k1 ≠ k2 ∧ 80 ≤ r.payloadLen.toNat); (4096 ≤ ch ∨ ch = sl) ∧ ¬ inRange)) ∧
    (∃ ch : Nat, ∃ r : Req, ∃ s : State, ∃ d : Dev, cmdWf ch r = true ∧ r.indirect = true ∧ keysRead spec0810 ch r s.dev = true ∧ d.jnl.replaying = none ∧ Accepted spec0810 ch r (zeroPayload ch r s.dev) d ∧ (let w := r.word 0; let sl := fld w 11 0; let du := fld w 40 16; let k1 := (r.words.drop 2).take 4; let k2 := (r.words.drop 6).take 4; let inRange := (d.slice sl).state ≠ .free ∧ (bit w 14 = true → du % 16 = 0 ∧ 16 ≤ du ∧ du ≤ 16777216 ∧ k1 ≠ k2 ∧ 80 ≤ r.payloadLen.toNat); let keys := (d.slice sl).keyLost = false ∧ d.eraseHold = false; inRange ∧ (4096 ≤ ch ∨ ch = sl) ∧ ¬ keys)) ∧
    (∃ ch : Nat, ∃ r : Req, ∃ s : State, ∃ d : Dev, cmdWf ch r = true ∧ r.indirect = true ∧ keysRead spec0810 ch r s.dev = true ∧ d.jnl.replaying = none ∧ Accepted spec0810 ch r (zeroPayload ch r s.dev) d ∧ (let w := r.word 0; let sl := fld w 11 0; let slot := fld w 13 12; let du := fld w 40 16; let k1 := (r.words.drop 2).take 4; let k2 := (r.words.drop 6).take 4; let inRange := (d.slice sl).state ≠ .free ∧ (bit w 14 = true → du % 16 = 0 ∧ 16 ≤ du ∧ du ≤ 16777216 ∧ k1 ≠ k2 ∧ 80 ≤ r.payloadLen.toNat); let keys := (d.slice sl).keyLost = false ∧ d.eraseHold = false; inRange ∧ (4096 ≤ ch ∨ ch = sl) ∧ keys ∧ slotInUse d sl slot = true)) ∧
    (∃ ch : Nat, ∃ r : Req, ∃ s : State, ∃ d : Dev, ∃ e, cmdWf ch r = true ∧ r.indirect = true ∧ keysRead spec0810 ch r s.dev = true ∧ d.jnl.replaying = none ∧ Accepted spec0810 ch r (zeroPayload ch r s.dev) d ∧ (let w := r.word 0; let sl := fld w 11 0; let slot := fld w 13 12; let du := fld w 40 16; let k1 := (r.words.drop 2).take 4; let k2 := (r.words.drop 6).take 4; let inRange := (d.slice sl).state ≠ .free ∧ (bit w 14 = true → du % 16 = 0 ∧ 16 ≤ du ∧ du ≤ 16777216 ∧ k1 ≠ k2 ∧ 80 ≤ r.payloadLen.toNat); let keys := (d.slice sl).keyLost = false ∧ d.eraseHold = false; inRange ∧ (4096 ≤ ch ∨ ch = sl) ∧ keys ∧ slotInUse d sl slot = false ∧ Recorded spec0810 ch r (4 * sl + slot) [] d e)) ∧
    (∃ ch : Nat, ∃ r : Req, ∃ s : State, ∃ d : Dev, cmdWf ch r = true ∧ Accepted spec0801 ch r s.dev d ∧ (let w := r.word 0; let n := fld w 19 0; d.sa n = none)) ∧
    (∃ ch : Nat, ∃ r : Req, ∃ s : State, ∃ d : Dev, ∃ x, cmdWf ch r = true ∧ Accepted spec0801 ch r s.dev d ∧ (let w := r.word 0; let n := fld w 19 0; d.sa n = some x ∧ ch < 4096 ∧ ch ≠ saOwner x)) ∧
    (∃ ch : Nat, ∃ r : Req, ∃ s : State, ∃ d : Dev, ∃ x, cmdWf ch r = true ∧ Accepted spec0801 ch r s.dev d ∧ (let w := r.word 0; let n := fld w 19 0; d.sa n = some x ∧ (4096 ≤ ch ∨ ch = saOwner x) ∧ saBound d n = true)) ∧
    (∃ ch : Nat, ∃ r : Req, ∃ s : State, ∃ d : Dev, ∃ x, ∃ e, cmdWf ch r = true ∧ Accepted spec0801 ch r s.dev d ∧ (let w := r.word 0; let n := fld w 19 0; d.sa n = some x ∧ (4096 ≤ ch ∨ ch = saOwner x) ∧ saBound d n = false ∧ Recorded spec0801 ch r n [] d e)) ∧
    (∃ ch : Nat, ∃ r : Req, ∃ s : State, ∃ d : Dev, cmdWf ch r = true ∧ Accepted spec0802 ch r s.dev d ∧ (let w := r.word 0; let n := fld w 19 0; (4096 ≤ ch ∨ (∃ x, d.sa n = some x ∧ saOwner x = ch)))) ∧
    (∃ ch : Nat, ∃ r : Req, ∃ s : State, ∃ d : Dev, cmdWf ch r = true ∧ Accepted spec0802 ch r s.dev d ∧ (let w := r.word 0; let n := fld w 19 0; ch < 4096 ∧ ((∀ x, d.sa n = some x → saOwner x ≠ ch)))) ∧
    (∃ ch : Nat, ∃ r : Req, ∃ s : State, ∃ d : Dev, cmdWf ch r = true ∧ Accepted spec0803 ch r s.dev d ∧ (let w := r.word 0; let q := fld w 15 0; let n := fld w 35 16; let fits := ∃ y, tqueue d.tmg.cfg q = some y ∧ y.port < 64 ∧ (bit w 36 = true → ∃ x, d.sa n = some x ∧ saOutbound x = true ∧ (saOwner x = 0 ∨ saOwner x = y.slice)); ¬ fits)) ∧
    (∃ ch : Nat, ∃ r : Req, ∃ s : State, ∃ d : Dev, ∃ e, cmdWf ch r = true ∧ Accepted spec0803 ch r s.dev d ∧ (let w := r.word 0; let q := fld w 15 0; let n := fld w 35 16; let fits := ∃ y, tqueue d.tmg.cfg q = some y ∧ y.port < 64 ∧ (bit w 36 = true → ∃ x, d.sa n = some x ∧ saOutbound x = true ∧ (saOwner x = 0 ∨ saOwner x = y.slice)); fits ∧ Recorded spec0803 ch r q [] d e)) ∧
    (∃ ch : Nat, ∃ r : Req, ∃ s : State, ∃ d : Dev, cmdWf ch r = true ∧ Accepted spec0811 ch r s.dev d ∧ (let w := r.word 0; let idle := d.jnl.replaying = none; idle ∧ (let sl := fld w 11 0; ch < 4096 ∧ ch ≠ sl))) ∧
    (∃ ch : Nat, ∃ r : Req, ∃ s : State, ∃ d : Dev, cmdWf ch r = true ∧ Accepted spec0811 ch r s.dev d ∧ (let w := r.word 0; let idle := d.jnl.replaying = none; idle ∧ (let sl := fld w 11 0; let n := fld w 18 12; let h := fld (r.word 10) 7 0; let b := fld (r.word 10) 15 8; let inRange := r.indirect = true ∧ 1 ≤ n ∧ n ≤ 64 ∧ 536 ≤ fld (r.word 2) 63 48 ∧ fld (r.word 2) 63 48 ≤ 9000 ∧ 1000 ≤ fld (r.word 7) 15 0 ∧ fld (r.word 7) 15 0 ≤ 60000 ∧ h ≤ 223 ∧ b ≤ 223 ∧ 88 + h + b ≤ r.payloadLen.toNat ∧ (d.slice sl).state ≠ .free; (4096 ≤ ch ∨ ch = sl) ∧ ¬ inRange))) ∧
    (∃ ch : Nat, ∃ r : Req, ∃ s : State, ∃ d : Dev, cmdWf ch r = true ∧ Accepted spec0811 ch r s.dev d ∧ (let w := r.word 0; let idle := d.jnl.replaying = none; idle ∧ (let sl := fld w 11 0; let n := fld w 18 12; let h := fld (r.word 10) 7 0; let b := fld (r.word 10) 15 8; let inRange := r.indirect = true ∧ 1 ≤ n ∧ n ≤ 64 ∧ 536 ≤ fld (r.word 2) 63 48 ∧ fld (r.word 2) 63 48 ≤ 9000 ∧ 1000 ≤ fld (r.word 7) 15 0 ∧ fld (r.word 7) 15 0 ≤ 60000 ∧ h ≤ 223 ∧ b ≤ 223 ∧ 88 + h + b ≤ r.payloadLen.toNat ∧ (d.slice sl).state ≠ .free; inRange ∧ (4096 ≤ ch ∨ ch = sl) ∧ ((d.slice sl).profile.storageConns < connsOf d sl + n + 1 ∨ sessionConns d n = none)))) ∧
    (∃ ch : Nat, ∃ r : Req, ∃ s : State, ∃ d : Dev, ∃ a, ∃ f, cmdWf ch r = true ∧ Accepted spec0811 ch r s.dev d ∧ (let w := r.word 0; let idle := d.jnl.replaying = none; idle ∧ (let sl := fld w 11 0; let n := fld w 18 12; let h := fld (r.word 10) 7 0; let b := fld (r.word 10) 15 8; let inRange := r.indirect = true ∧ 1 ≤ n ∧ n ≤ 64 ∧ 536 ≤ fld (r.word 2) 63 48 ∧ fld (r.word 2) 63 48 ≤ 9000 ∧ 1000 ≤ fld (r.word 7) 15 0 ∧ fld (r.word 7) 15 0 ≤ 60000 ∧ h ≤ 223 ∧ b ≤ 223 ∧ 88 + h + b ≤ r.payloadLen.toNat ∧ (d.slice sl).state ≠ .free; inRange ∧ (4096 ≤ ch ∨ ch = sl) ∧ connsOf d sl + n + 1 ≤ (d.slice sl).profile.storageConns ∧ sessionConns d n = some (a, f)))) ∧
    (∃ ch : Nat, ∃ r : Req, ∃ s : State, ∃ d : Dev, ∃ a, ∃ f, ∃ i, cmdWf ch r = true ∧ Accepted spec0811 ch r s.dev d ∧ (let w := r.word 0; let idle := d.jnl.replaying = none; idle ∧ (let sl := fld w 11 0; let n := fld w 18 12; let h := fld (r.word 10) 7 0; let b := fld (r.word 10) 15 8; let inRange := r.indirect = true ∧ 1 ≤ n ∧ n ≤ 64 ∧ 536 ≤ fld (r.word 2) 63 48 ∧ fld (r.word 2) 63 48 ≤ 9000 ∧ 1000 ≤ fld (r.word 7) 15 0 ∧ fld (r.word 7) 15 0 ≤ 60000 ∧ h ≤ 223 ∧ b ≤ 223 ∧ 88 + h + b ≤ r.payloadLen.toNat ∧ (d.slice sl).state ≠ .free; inRange ∧ (4096 ≤ ch ∨ ch = sl) ∧ connsOf d sl + n + 1 ≤ (d.slice sl).profile.storageConns ∧ sessionConns d n = some (a, f) ∧ i < n))) ∧
    (∃ ch : Nat, ∃ r : Req, ∃ s : State, ∃ d : Dev, ∃ a, ∃ f, ∃ e, cmdWf ch r = true ∧ Accepted spec0811 ch r s.dev d ∧ (let w := r.word 0; let idle := d.jnl.replaying = none; idle ∧ (let sl := fld w 11 0; let n := fld w 18 12; let h := fld (r.word 10) 7 0; let b := fld (r.word 10) 15 8; let inRange := r.indirect = true ∧ 1 ≤ n ∧ n ≤ 64 ∧ 536 ≤ fld (r.word 2) 63 48 ∧ fld (r.word 2) 63 48 ≤ 9000 ∧ 1000 ≤ fld (r.word 7) 15 0 ∧ fld (r.word 7) 15 0 ≤ 60000 ∧ h ≤ 223 ∧ b ≤ 223 ∧ 88 + h + b ≤ r.payloadLen.toNat ∧ (d.slice sl).state ≠ .free; inRange ∧ (4096 ≤ ch ∨ ch = sl) ∧ connsOf d sl + n + 1 ≤ (d.slice sl).profile.storageConns ∧ sessionConns d n = some (a, f) ∧ Recorded spec0811 ch r (a + 65536 * f) [mk64 [a, at' f 16]] d e))) ∧
    (∃ ch : Nat, ∃ r : Req, ∃ s : State, ∃ d : Dev, cmdWf ch r = true ∧ Accepted spec0812 ch r s.dev d ∧ (let w := r.word 0; let a := fld w 13 0; SMap.get none d.cry.sessions a = none)) ∧
    (∃ ch : Nat, ∃ r : Req, ∃ s : State, ∃ d : Dev, cmdWf ch r = true ∧ Accepted spec0812 ch r s.dev d ∧ (let w := r.word 0; let a := fld w 13 0; SMap.get none d.cry.sessions a ≠ none ∧ ch < 4096 ∧ ch ≠ (d.conn a).slice)) ∧
    (∃ ch : Nat, ∃ r : Req, ∃ s : State, ∃ d : Dev, ∃ e, cmdWf ch r = true ∧ Accepted spec0812 ch r s.dev d ∧ (let w := r.word 0; let a := fld w 13 0; SMap.get none d.cry.sessions a ≠ none ∧ (4096 ≤ ch ∨ ch = (d.conn a).slice) ∧ Recorded spec0812 ch r a [] d e)) ∧
    (∃ ch : Nat, ∃ r : Req, ∃ s : State, ∃ d : Dev, cmdWf ch r = true ∧ Accepted spec0813 ch r s.dev d ∧ (let w := r.word 0; let c := fld w 13 0; (4096 ≤ ch ∨ ((d.conn c).state ≠ .closed ∧ (d.conn c).slice = ch)))) ∧
    (∃ ch : Nat, ∃ r : Req, ∃ s : State, ∃ d : Dev, cmdWf ch r = true ∧ Accepted spec0813 ch r s.dev d ∧ (let w := r.word 0; let c := fld w 13 0; ch < 4096 ∧ ((d.conn c).state = .closed ∨ (d.conn c).slice ≠ ch))) ∧
    (∃ ch : Nat, ∃ r : Req, ∃ s : State, ∃ d : Dev, cmdWf ch r = true ∧ Accepted spec0820 ch r s.dev d ∧ (let w := r.word 0; let idle := d.jnl.replaying = none; idle ∧ (let sl := fld w 11 0; (d.slice sl).keyLost = false))) ∧
    (∃ ch : Nat, ∃ r : Req, ∃ s : State, ∃ d : Dev, cmdWf ch r = true ∧ Accepted spec0820 ch r s.dev d ∧ (let w := r.word 0; let idle := d.jnl.replaying = none; idle ∧ (let sl := fld w 11 0; (d.slice sl).keyLost = true ∧ d.eraseHold = true))) ∧
    (∃ ch : Nat, ∃ r : Req, ∃ s : State, ∃ d : Dev, ∃ e, cmdWf ch r = true ∧ Accepted spec0820 ch r s.dev d ∧ (let w := r.word 0; let idle := d.jnl.replaying = none; idle ∧ (let sl := fld w 11 0; (d.slice sl).keyLost = true ∧ d.eraseHold = false ∧ SMap.rising d.cry.sas = true ∧ SMap.rising d.cry.keys = true ∧ Recorded spec0820 ch r sl [] d e))) ∧
    (∃ ch : Nat, ∃ r : Req, ∃ s : State, ∃ d : Dev, cmdWf ch r = true ∧ r.indirect = false ∧ Accepted spec0821 ch r s.dev d) ∧
    (∃ ch : Nat, ∃ r : Req, ∃ s : State, ∃ d : Dev, cmdWf ch r = true ∧ r.indirect = true ∧ Accepted spec0821 ch r s.dev d) ∧
    (∃ ch : Nat, ∃ r : Req, ∃ s : State, ∃ d : Dev, ∃ l : Byte, cmdWf ch r = true ∧ r.indirect = true ∧ l.toNat ≤ d.cry.patchLevel.toNat ∧ Accepted spec0821 ch r s.dev d) ∧
    (∃ ch : Nat, ∃ r : Req, ∃ s : State, ∃ d : Dev, ∃ l : Byte, ∃ e, cmdWf ch r = true ∧ r.indirect = true ∧ d.cry.patchLevel.toNat < l.toNat ∧ Recorded spec0821 ch r 0 [BitVec.ofNat 64 l.toNat] d e ∧ Accepted spec0821 ch r s.dev d) := by
  refine ⟨?_, ?_, ?_, ?_, ?_, ?_, ?_, ?_, ?_, ?_, ?_, ?_, ?_, ?_, ?_, ?_, ?_, ?_, ?_, ?_, ?_, ?_, ?_, ?_, ?_, ?_, ?_, ?_, ?_, ?_, ?_, ?_, ?_, ?_, ?_, ?_, ?_, ?_⟩
  · let ch : Nat := 4096
    let r : Req := rqi (saw 9 1)
    let d : Dev := one
    exact ⟨ch, r, d, by decide +kernel⟩
  · let ch : Nat := 5
    let r : Req := rqi (saw 9 1)
    let s : State := st one
    let d : Dev := tkc ch spec0800 r (zeroPayload ch r s.dev)
    exact ⟨ch, r, s, d, by decide +kernel, by decide +kernel, by decide +kernel, by decide +kernel, ⟨(by decide +kernel), (by decide +kernel), rfl, (by decide +kernel)⟩, by decide +kernel⟩
  · let ch : Nat := 4096
    let r : Req := rqi ((saw 9 1).set 1 (0x11 + (65 <<< 32) + (14 <<< 48)))
    let s : State := st one
    let d : Dev := tk spec0800 r (zeroPayload ch r s.dev)
    exact ⟨ch, r, s, d, by decide +kernel, by decide +kernel, by decide +kernel, by decide +kernel, ⟨(by decide +kernel), (by decide +kernel), rfl, (by decide +kernel)⟩, by decide +kernel⟩
  · let ch : Nat := 4096
    let r : Req := rqi (saw 7 1)
    let s : State := st lost
    let d : Dev := tk spec0800 r (zeroPayload ch r s.dev)
    exact ⟨ch, r, s, d, by decide +kernel, by decide +kernel, by decide +kernel, by decide +kernel, ⟨(by decide +kernel), (by decide +kernel), rfl, (by decide +kernel)⟩, by decide +kernel⟩
  · let ch : Nat := 4096
    let r : Req := rqi (saw 7 0)
    let s : State := st (cr (fun c => { c with bindings := [(9, some 7)] }) one)
    let d : Dev := tk spec0800 r (zeroPayload ch r s.dev)
    exact ⟨ch, r, s, d, by decide +kernel, by decide +kernel, by decide +kernel, by decide +kernel, ⟨(by decide +kernel), (by decide +kernel), rfl, (by decide +kernel)⟩, by decide +kernel⟩
  · let ch : Nat := 4096
    let r : Req := rqi (saw 9 0)
    let s : State := st (one.setSa 8 (some x7))
    let d : Dev := tk spec0800 r (zeroPayload ch r s.dev)
    exact ⟨ch, r, s, d, by decide +kernel, by decide +kernel, by decide +kernel, by decide +kernel, ⟨(by decide +kernel), (by decide +kernel), rfl, (by decide +kernel)⟩, by decide +kernel⟩
  · let ch : Nat := 4096
    let r : Req := rqi (saw 7 1)
    let s : State := st (one.setSa 8 (some x7))
    let d : Dev := tk spec0800 r (zeroPayload ch r s.dev)
    let w := r.word 0
    let n := fld w 19 0
    exact ⟨ch, r, s, d, (recd spec0800 ch r n [] d), by decide +kernel, by decide +kernel, by decide +kernel, by decide +kernel, ⟨(by decide +kernel), (by decide +kernel), rfl, (by decide +kernel)⟩, by delta Recorded; decide +kernel⟩
  · let ch : Nat := 5
    let r : Req := rqi (ksw 0)
    let s : State := st one
    let d : Dev := tkc ch spec0810 r (zeroPayload ch r s.dev)
    exact ⟨ch, r, s, d, by decide +kernel, by decide +kernel, by decide +kernel, by decide +kernel, ⟨(by decide +kernel), (by decide +kernel), rfl, (by decide +kernel)⟩, by decide +kernel⟩
  · let ch : Nat := 4096
    let r : Req := rqi (ksw 1)
    let s : State := st one
    let d : Dev := tk spec0810 r (zeroPayload ch r s.dev)
    exact ⟨ch, r, s, d, by decide +kernel, by decide +kernel, by decide +kernel, by decide +kernel, ⟨(by decide +kernel), (by decide +kernel), rfl, (by decide +kernel)⟩, by decide +kernel⟩
  · let ch : Nat := 3
    let r : Req := rqi (ksw 0)
    let s : State := st lost
    let d : Dev := tkc ch spec0810 r (zeroPayload ch r s.dev)
    exact ⟨ch, r, s, d, by decide +kernel, by decide +kernel, by decide +kernel, by decide +kernel, ⟨(by decide +kernel), (by decide +kernel), rfl, (by decide +kernel)⟩, by decide +kernel⟩
  · let ch : Nat := 3
    let r : Req := rqi (ksw 0)
    let s : State := st (one.setQp 9 stq)
    let d : Dev := tkc ch spec0810 r (zeroPayload ch r s.dev)
    exact ⟨ch, r, s, d, by decide +kernel, by decide +kernel, by decide +kernel, by decide +kernel, ⟨(by decide +kernel), (by decide +kernel), rfl, (by decide +kernel)⟩, by decide +kernel⟩
  · let ch : Nat := 3
    let r : Req := rqi (ksw 0)
    let s : State := st one
    let d : Dev := tkc ch spec0810 r (zeroPayload ch r s.dev)
    let w := r.word 0
    let sl := fld w 11 0
    let slot := fld w 13 12
    exact ⟨ch, r, s, d, (recd spec0810 ch r (4*sl+slot) [] d), by decide +kernel, by decide +kernel, by decide +kernel, by decide +kernel, ⟨(by decide +kernel), (by decide +kernel), rfl, (by decide +kernel)⟩, by delta Recorded; decide +kernel⟩
  · let ch : Nat := 4096
    let r : Req := rq [9]
    let s : State := st one
    let d : Dev := tk spec0801 r s.dev
    exact ⟨ch, r, s, d, by decide +kernel, ⟨(by decide +kernel), (by decide +kernel), rfl, (by decide +kernel)⟩, by decide +kernel⟩
  · let ch : Nat := 5
    let r : Req := rq [7]
    let s : State := st one
    let d : Dev := tkc ch spec0801 r s.dev
    let x := x7
    exact ⟨ch, r, s, d, x, by decide +kernel, ⟨(by decide +kernel), (by decide +kernel), rfl, (by decide +kernel)⟩, by decide +kernel⟩
  · let ch : Nat := 3
    let r : Req := rq [7]
    let s : State := st (cr (fun c => { c with bindings := [(9, some 7)] }) one)
    let d : Dev := tkc ch spec0801 r s.dev
    let x := x7
    exact ⟨ch, r, s, d, x, by decide +kernel, ⟨(by decide +kernel), (by decide +kernel), rfl, (by decide +kernel)⟩, by decide +kernel⟩
  · let ch : Nat := 3
    let r : Req := rq [7]
    let s : State := st one
    let d : Dev := tkc ch spec0801 r s.dev
    let w := r.word 0
    let n := fld w 19 0
    let x := x7
    exact ⟨ch, r, s, d, x, (recd spec0801 ch r n [] d), by decide +kernel, ⟨(by decide +kernel), (by decide +kernel), rfl, (by decide +kernel)⟩, by delta Recorded; decide +kernel⟩
  · let ch : Nat := 3
    let r : Req := rqi [7]
    let s : State := st one
    let d : Dev := tkc ch spec0802 r s.dev
    exact ⟨ch, r, s, d, by decide +kernel, ⟨(by decide +kernel), (by decide +kernel), rfl, (by decide +kernel)⟩, by decide +kernel⟩
  · let ch : Nat := 5
    let r : Req := rqi [7]
    let s : State := st one
    let d : Dev := tkc ch spec0802 r s.dev
    exact ⟨ch, r, s, d, by decide +kernel, ⟨(by decide +kernel), (by decide +kernel), rfl, (by decide +kernel)⟩, by decide +kernel⟩
  · let ch : Nat := 4096
    let r : Req := rq [16 + (9 <<< 16) + (1 <<< 36)]
    let s : State := st one
    let d : Dev := tk spec0803 r s.dev
    exact ⟨ch, r, s, d, by decide +kernel, ⟨(by decide +kernel), (by decide +kernel), rfl, (by decide +kernel)⟩, by decide +kernel⟩
  · let ch : Nat := 4096
    let r : Req := rq [17 + (7 <<< 16) + (1 <<< 36)]
    let s : State := st (one.setSa 7 (some { x7 with w0 := 1 <<< 33 }))
    let d : Dev := tk spec0803 r s.dev
    let w := r.word 0
    let q := fld w 15 0
    exact ⟨ch, r, s, d, (recd spec0803 ch r q [] d), by decide +kernel, ⟨(by decide +kernel), (by decide +kernel), rfl, (by decide +kernel)⟩, by delta Recorded; decide +kernel⟩
  · let ch : Nat := 5
    let r : Req := rqi sow
    let s : State := st one
    let d : Dev := tkc ch spec0811 r s.dev
    exact ⟨ch, r, s, d, by decide +kernel, ⟨(by decide +kernel), (by decide +kernel), rfl, (by decide +kernel)⟩, by decide +kernel⟩
  · let ch : Nat := 4096
    let r : Req := rqi (sow.set 7 999)
    let s : State := st one
    let d : Dev := tk spec0811 r s.dev
    exact ⟨ch, r, s, d, by decide +kernel, ⟨(by decide +kernel), (by decide +kernel), rfl, (by decide +kernel)⟩, by decide +kernel⟩
  · let ch : Nat := 3
    let r : Req := rqi (sow.set 0 (3 + (4 <<< 12)))
    let s : State := st one
    let d : Dev := tkc ch spec0811 r s.dev
    exact ⟨ch, r, s, d, by decide +kernel, ⟨(by decide +kernel), (by decide +kernel), rfl, (by decide +kernel)⟩, by decide +kernel⟩
  · let ch : Nat := 3
    let r : Req := rqi sow
    let s : State := st one
    let d : Dev := tkc ch spec0811 r s.dev
    exact ⟨ch, r, s, d, (0), (1), by decide +kernel, ⟨(by decide +kernel), (by decide +kernel), rfl, (by decide +kernel)⟩, by decide +kernel⟩
  · let ch : Nat := 3
    let r : Req := rqi sow
    let s : State := st one
    let d : Dev := tkc ch spec0811 r s.dev
    exact ⟨ch, r, s, d, (0), (1), (0), by decide +kernel, ⟨(by decide +kernel), (by decide +kernel), rfl, (by decide +kernel)⟩, by decide +kernel⟩
  · let ch : Nat := 3
    let r : Req := rqi sow
    let s : State := st one
    let d : Dev := tkc ch spec0811 r s.dev
    let a := 0
    let f := 1
    exact ⟨ch, r, s, d, a, f, (recd spec0811 ch r (a + 65536 * f) [mk64 [a, at' f 16]] d), by decide +kernel, ⟨(by decide +kernel), (by decide +kernel), rfl, (by decide +kernel)⟩, by delta Recorded; decide +kernel⟩
  · let ch : Nat := 3
    let r : Req := rq [21]
    let s : State := st ses
    let d : Dev := tkc ch spec0812 r s.dev
    exact ⟨ch, r, s, d, by decide +kernel, ⟨(by decide +kernel), (by decide +kernel), rfl, (by decide +kernel)⟩, by decide +kernel⟩
  · let ch : Nat := 5
    let r : Req := rq [20]
    let s : State := st ses
    let d : Dev := tkc ch spec0812 r s.dev
    exact ⟨ch, r, s, d, by decide +kernel, ⟨(by decide +kernel), (by decide +kernel), rfl, (by decide +kernel)⟩, by decide +kernel⟩
  · let ch : Nat := 3
    let r : Req := rq [20]
    let s : State := st ses
    let d : Dev := tkc ch spec0812 r s.dev
    let w := r.word 0
    let a := fld w 13 0
    exact ⟨ch, r, s, d, (recd spec0812 ch r a [] d), by decide +kernel, ⟨(by decide +kernel), (by decide +kernel), rfl, (by decide +kernel)⟩, by delta Recorded; decide +kernel⟩
  · let ch : Nat := 3
    let r : Req := rqi [20]
    let s : State := st ses
    let d : Dev := tkc ch spec0813 r s.dev
    exact ⟨ch, r, s, d, by decide +kernel, ⟨(by decide +kernel), (by decide +kernel), rfl, (by decide +kernel)⟩, by decide +kernel⟩
  · let ch : Nat := 5
    let r : Req := rqi [20]
    let s : State := st ses
    let d : Dev := tkc ch spec0813 r s.dev
    exact ⟨ch, r, s, d, by decide +kernel, ⟨(by decide +kernel), (by decide +kernel), rfl, (by decide +kernel)⟩, by decide +kernel⟩
  · let ch : Nat := 4096
    let r : Req := rq [3]
    let s : State := st ses
    let d : Dev := tk spec0820 r s.dev
    exact ⟨ch, r, s, d, by decide +kernel, ⟨(by decide +kernel), (by decide +kernel), rfl, (by decide +kernel)⟩, by decide +kernel⟩
  · let ch : Nat := 4096
    let r : Req := rq [3]
    let s : State := st { lost with tru := { one.tru with active := 63 } }
    let d : Dev := tk spec0820 r s.dev
    exact ⟨ch, r, s, d, by decide +kernel, ⟨(by decide +kernel), (by decide +kernel), rfl, (by decide +kernel)⟩, by decide +kernel⟩
  · let ch : Nat := 4096
    let r : Req := rq [3]
    let s : State := st (cr (fun c => { c with keys := [(13, some ⟨[],[],1,1⟩)], bindings := [(9, some 7)] }) (lost.setSa 8 (some (sa 0 0))))
    let d : Dev := tk spec0820 r s.dev
    let w := r.word 0
    let sl := fld w 11 0
    exact ⟨ch, r, s, d, (recd spec0820 ch r sl [] d), by decide +kernel, ⟨(by decide +kernel), (by decide +kernel), rfl, (by decide +kernel)⟩, by delta Recorded; decide +kernel⟩
  · let ch : Nat := 4096
    let r : Req := rq [1]
    let s : State := st one
    let d : Dev := tk spec0821 r s.dev
    exact ⟨ch, r, s, d, by decide +kernel, by decide +kernel, ⟨(by decide +kernel), (by decide +kernel), rfl, (by decide +kernel)⟩⟩
  · let ch : Nat := 4096
    let r : Req := rqi []
    let s : State := st one
    let d : Dev := tk spec0821 r s.dev
    exact ⟨ch, r, s, d, by decide +kernel, by decide +kernel, ⟨(by decide +kernel), (by decide +kernel), rfl, (by decide +kernel)⟩⟩
  · let ch : Nat := 4096
    let r : Req := rqi [0]
    let s : State := st one
    let d : Dev := tk spec0821 r s.dev
    let l : Byte := 0
    exact ⟨ch, r, s, d, l, by decide +kernel, by decide +kernel, by decide +kernel, ⟨(by decide +kernel), (by decide +kernel), rfl, (by decide +kernel)⟩⟩
  · let ch : Nat := 4096
    let r : Req := rqi [5]
    let s : State := st one
    let d : Dev := tk spec0821 r s.dev
    let l : Byte := 5
    exact ⟨ch, r, s, d, l, (recd spec0821 ch r 0 [BitVec.ofNat 64 l.toNat] d), by decide +kernel, by decide +kernel, by decide +kernel, by delta Recorded; decide +kernel, ⟨(by decide +kernel), (by decide +kernel), rfl, (by decide +kernel)⟩⟩

end CryptoCommandsW

namespace MemoryChannelsW

def rd (r b row a : Nat) : MemReq := ⟨r, false, a, b, row, none⟩
def wr (r b row a : Nat) : MemReq := ⟨r, true, a, b, row, none⟩
def M (x : MemChan) : Dev := up.setMemChan 5 x
def M0 : MemChan := MemChan.reset
def Mp (x : MemChan) (l : List Nat) : Dev := { M x with mem := { (M x).mem with poisoned := l } }
def kc (b r a : Nat) : RhCount := ⟨b, r, a, false, 0⟩
def eight : List RhCount := [kc 1 1 5, kc 1 2 3, kc 2 9 1, kc 1 3 3, kc 1 4 9, kc 1 5 8, kc 1 6 8, kc 1 7 7, kc 1 8 6]
def Mc (line : Nat) (x : MemChan) : Dev := up.setMemChan (lineChan line) x
theorem chan_of (l : Nat) (x : MemChan) : (st (Mc l x)).dev.memChan (lineChan l) = x := Dev.memChan_setMemChan_self _ _ _

/-- States and operands that meet the hypotheses of `Obligations.MemoryChannels`, one part for each of its 45 cases that have hypotheses. -/
theorem witness_MemoryChannels :
    (∃ a : Nat, ∃ b : Nat, a / 4 % 2 ^ 28 = b / 4 % 2 ^ 28) ∧
    (∃ rq : Nat, ∃ line : Nat, Wf.memRequest rq line = true) ∧
    (∃ rq : Nat, ∃ write : Bool, ∃ line : Nat, ∃ s : State, Wf.memRequest rq line = true ∧ (let c := lineChan line; let x := s.dev.memChan c; write = true ∧ 64 ≤ x.wq.length)) ∧
    (∃ rq : Nat, ∃ write : Bool, ∃ line : Nat, ∃ s : State, Wf.memRequest rq line = true ∧ (let c := lineChan line; let x := s.dev.memChan c; write = true ∧ x.wq.length < 64)) ∧
    (∃ rq : Nat, ∃ write : Bool, ∃ line : Nat, ∃ s : State, Wf.memRequest rq line = true ∧ (let c := lineChan line; let x := s.dev.memChan c; write = false ∧ ((∃ w ∈ x.wq, w.addr = line)))) ∧
    (∃ rq : Nat, ∃ write : Bool, ∃ line : Nat, ∃ s : State, Wf.memRequest rq line = true ∧ (let c := lineChan line; let x := s.dev.memChan c; write = false ∧ ((∀ w ∈ x.wq, w.addr ≠ line)))) ∧
    (∃ c : Nat, ∃ d : Dev, ∃ q, (let x := d.memChan c; x.hot = true ∧ x.rested = false ∧ needsAct x q = true)) ∧
    (∃ c : Nat, ∃ d : Dev, (let x := d.memChan c; let runs := x.paused = false ∧ d.jnl.stopped = false; ¬ runs)) ∧
    (∃ c : Nat, ∃ d : Dev, ∃ q, (let x := d.memChan c; let runs := x.paused = false ∧ d.jnl.stopped = false; runs ∧ x.draining = true ∧ chosenWrite d x = some q ∧ q.write = true)) ∧
    (∃ c : Nat, ∃ d : Dev, (let x := d.memChan c; let runs := x.paused = false ∧ d.jnl.stopped = false; let high := d.regField isl.MEM 0x008 14 8; runs ∧ x.draining = false ∧ high ≤ x.wq.length)) ∧
    (∃ c : Nat, ∃ d : Dev, ∃ q, (let x := d.memChan c; let runs := x.paused = false ∧ d.jnl.stopped = false; let high := d.regField isl.MEM 0x008 14 8; runs ∧ x.draining = false ∧ x.wq.length < high ∧ x.reads ≠ [] ∧ chosenRead d x = some q)) ∧
    (∃ c : Nat, ∃ d : Dev, ∃ q, ∃ p, (let x := d.memChan c; let runs := x.paused = false ∧ d.jnl.stopped = false; let high := d.regField isl.MEM 0x008 14 8; runs ∧ x.draining = false ∧ x.wq.length < high ∧ x.reads ≠ [] ∧ chosenRead d x = some q ∧ p ∈ x.reads ∧ passedOver d x p = false)) ∧
    (∃ c : Nat, ∃ d : Dev, ∃ q, ∃ p, (let x := d.memChan c; let runs := x.paused = false ∧ d.jnl.stopped = false; let high := d.regField isl.MEM 0x008 14 8; runs ∧ x.draining = false ∧ x.wq.length < high ∧ x.reads ≠ [] ∧ chosenRead d x = some q ∧ needsAct x q = true ∧ p ∈ x.reads ∧ p.requester = q.requester ∧ passedOver d x p = false)) ∧
    (∃ c : Nat, ∃ d : Dev, ∃ q, (let x := d.memChan c; let runs := x.paused = false ∧ d.jnl.stopped = false; let high := d.regField isl.MEM 0x008 14 8; runs ∧ x.draining = false ∧ x.wq.length < high ∧ x.reads = [] ∧ chosenWrite d x = some q)) ∧
    (∃ cs : List RhCount, ∃ q : MemReq, ∃ k, (let mine := fun (k : RhCount) => k.bank == q.bank && k.requester == q.requester; cs.find? mine = some k)) ∧
    (∃ cs : List RhCount, ∃ q : MemReq, (let inBank := fun (k : RhCount) => k.bank == q.bank; let mine := fun (k : RhCount) => k.bank == q.bank && k.requester == q.requester; cs.find? mine = none ∧ (cs.filter inBank).length < 8)) ∧
    (∃ cs : List RhCount, ∃ q : MemReq, (let inBank := fun (k : RhCount) => k.bank == q.bank; let mine := fun (k : RhCount) => k.bank == q.bank && k.requester == q.requester; cs.find? mine = none ∧ 8 ≤ (cs.filter inBank).length)) ∧
    (∃ cs : List RhCount, ∃ q : MemReq, (let inBank := fun (k : RhCount) => k.bank == q.bank; (cs.filter inBank).length ≤ 8)) ∧
    (∃ cs : List RhCount, ∃ q : MemReq, ∃ k, k ∈ cs ∧ k.bank ≠ q.bank) ∧
    (∃ c : Nat, ∃ s : State, c < 48 ∧ (s.dev.memChan c).issued = []) ∧
    (∃ c : Nat, ∃ n : Nat, ∃ q : MemReq, ∃ rest : List (MemReq × Nat), ∃ s : State, c < 48 ∧ (s.dev.memChan c).issued = (q, n) :: rest ∧ q.write = true ∧ memRegion q.addr ≠ 4) ∧
    (∃ c : Nat, ∃ n : Nat, ∃ q : MemReq, ∃ rest : List (MemReq × Nat), ∃ s : State, c < 48 ∧ (s.dev.memChan c).issued = (q, n) :: rest ∧ (let x := s.dev.memChan c; let d := s.dev.setMemChan c { x with issued := rest }; let e := memMeter q d; q.write = false ∧ memRegion q.addr = 2 ∧ q.addr ∈ e.mem.poisoned)) ∧
    (∃ c : Nat, ∃ n : Nat, ∃ q : MemReq, ∃ rest : List (MemReq × Nat), ∃ s : State, c < 48 ∧ (s.dev.memChan c).issued = (q, n) :: rest ∧ (let x := s.dev.memChan c; let d := s.dev.setMemChan c { x with issued := rest }; let e := memMeter q d; q.write = false ∧ (memRegion q.addr ≠ 2 ∨ q.addr ∉ e.mem.poisoned))) ∧
    (∃ c : Nat, ∃ n : Nat, ∃ q : MemReq, ∃ rest : List (MemReq × Nat), ∃ s : State, c < 48 ∧ (s.dev.memChan c).issued = (q, n) :: rest ∧ q.write = true ∧ memRegion q.addr = 4) ∧
    (∃ c : Nat, ∃ n : Nat, ∃ q : MemReq, ∃ rest : List (MemReq × Nat), ∃ s : State, c < 48 ∧ (s.dev.memChan c).issued = (q, n) :: rest ∧ n < 3) ∧
    (∃ c : Nat, ∃ n : Nat, ∃ q : MemReq, ∃ rest : List (MemReq × Nat), ∃ s : State, c < 48 ∧ (s.dev.memChan c).issued = (q, n) :: rest ∧ 3 ≤ n) ∧
    (∃ d : Dev, ∃ l, l ∈ d.mem.poisoned) ∧
    (∃ line : Nat, (let mib := 64 * line / 2 ^ 20; mib < 256)) ∧
    (∃ line : Nat, (let mib := 64 * line / 2 ^ 20; 256 ≤ mib ∧ mib < 384)) ∧
    (∃ line : Nat, (let mib := 64 * line / 2 ^ 20; 384 ≤ mib ∧ mib < 4480)) ∧
    (∃ line : Nat, (let mib := 64 * line / 2 ^ 20; 4480 ≤ mib ∧ mib < 12672)) ∧
    (∃ line : Nat, (let mib := 64 * line / 2 ^ 20; 12672 ≤ mib)) ∧
    (∃ g : Nat, ∃ j : Nat, ∃ s : State, Wf.lineRebuild g j = true ∧ (let line := 4 * g + j; let room := (s.dev.memChan (lineChan line)).wq.length < 64; line ∈ s.dev.mem.poisoned ∧ room ∧ memRegion line = 3)) ∧
    (∃ g : Nat, ∃ j : Nat, ∃ s : State, Wf.lineRebuild g j = true ∧ (let line := 4 * g + j; let room := (s.dev.memChan (lineChan line)).wq.length < 64; line ∈ s.dev.mem.poisoned ∧ room ∧ memRegion line = 1)) ∧
    (∃ g : Nat, ∃ j : Nat, ∃ s : State, Wf.lineRebuild g j = true ∧ (let line := 4 * g + j; let room := (s.dev.memChan (lineChan line)).wq.length < 64; (line ∉ s.dev.mem.poisoned ∨ ¬ room ∨ (memRegion line ≠ 1 ∧ memRegion line ≠ 3)))) ∧
    (∃ c : Nat, ∃ s : State, c < 48 ∧ (let x := s.dev.memChan c; let holds := (∃ e ∈ s.dev.mem.chans, e.2.paused = true) ∨ x.draining = true ∨ s.dev.jnl.stopped = true; holds)) ∧
    (∃ c : Nat, ∃ s : State, c < 48 ∧ (let x := s.dev.memChan c; let holds := (∃ e ∈ s.dev.mem.chans, e.2.paused = true) ∨ x.draining = true ∨ s.dev.jnl.stopped = true; ¬ holds ∧ (c ≠ 0 ∨ x.retrainFailed = true))) ∧
    (∃ c : Nat, ∃ s : State, c < 48 ∧ (let x := s.dev.memChan c; let holds := (∃ e ∈ s.dev.mem.chans, e.2.paused = true) ∨ x.draining = true ∨ s.dev.jnl.stopped = true; ¬ holds ∧ c = 0 ∧ x.retrainFailed = false)) ∧
    (∃ c : Nat, ∃ s : State, c < 48 ∧ (let x := s.dev.memChan c; x.triedAt = none)) ∧
    (∃ c : Nat, ∃ s : State, ∃ a, c < 48 ∧ (let x := s.dev.memChan c; x.triedAt = some a ∧ x.retrainFailed = true)) ∧
    (∃ c : Nat, ∃ s : State, ∃ a, c < 48 ∧ (let x := s.dev.memChan c; x.triedAt = some a ∧ x.retrainFailed = false ∧ Time.ge a s.dev.mem.intervalAt = false)) ∧
    (∃ c : Nat, ∃ s : State, ∃ a, c < 48 ∧ (let x := s.dev.memChan c; x.triedAt = some a ∧ x.retrainFailed = false ∧ Time.ge a s.dev.mem.intervalAt = true)) ∧
    (∃ c : Nat, ∃ s : State, c < 48 ∧ (let x := s.dev.memChan c; x.paused = false)) ∧
    (∃ c : Nat, ∃ s : State, c < 48 ∧ (let x := s.dev.memChan c; x.paused = true)) ∧
    (∃ dev : Nat, dev < 12) := by
  refine ⟨?_, ?_, ?_, ?_, ?_, ?_, ?_, ?_, ?_, ?_, ?_, ?_, ?_, ?_, ?_, ?_, ?_, ?_, ?_, ?_, ?_, ?_, ?_, ?_, ?_, ?_, ?_, ?_, ?_, ?_, ?_, ?_, ?_, ?_, ?_, ?_, ?_, ?_, ?_, ?_, ?_, ?_, ?_, ?_, ?_⟩
  · let a : Nat := 100
    let b : Nat := 102
    exact ⟨a, b, by decide +kernel⟩
  · let rq : Nat := 3
    let write : Bool := true
    let line : Nat := 100
    let entry : Option Time := none
    let s : State := st up
    exact ⟨rq, line, by decide +kernel⟩
  · let rq : Nat := 3
    let write : Bool := true
    let line : Nat := 100
    let entry : Option Time := none
    let s : State := st (Mc 100 { M0 with wq := List.replicate 64 (wr 3 1 2 7) })
    refine ⟨rq, write, line, s, ?_⟩
    refine ⟨by decide +kernel, rfl, ?_⟩
    rw [show s.dev.memChan (lineChan line) = _ from chan_of _ _]
    decide
  · let rq : Nat := 3
    let write : Bool := true
    let line : Nat := 100
    let entry : Option Time := none
    let s : State := st (Mc 100 { M0 with wq := List.replicate 63 (wr 3 1 2 7) })
    refine ⟨rq, write, line, s, ?_⟩
    refine ⟨by decide +kernel, rfl, ?_⟩
    rw [show s.dev.memChan (lineChan line) = _ from chan_of _ _]
    decide
  · let rq : Nat := 3
    let write : Bool := false
    let line : Nat := 100
    let entry : Option Time := some 5
    let s : State := st (Mc 100 { M0 with wq := [wr 4 1 2 100] })
    refine ⟨rq, write, line, s, ?_⟩
    refine ⟨by decide +kernel, rfl, wr 4 1 2 100, ?_, rfl⟩
    rw [show s.dev.memChan (lineChan line) = _ from chan_of _ _]
    exact List.mem_singleton.mpr rfl
  · let rq : Nat := 3
    let write : Bool := false
    let line : Nat := 100
    let entry : Option Time := some 5
    let s : State := st (Mc 100 { M0 with wq := [wr 4 1 2 7] })
    refine ⟨rq, write, line, s, ?_⟩
    refine ⟨by decide +kernel, rfl, ?_⟩
    rw [show s.dev.memChan (lineChan line) = _ from chan_of _ _]
    decide
  · let c : Nat := 5
    let d : Dev := M { M0 with hot := true, rested := false }
    exact ⟨c, d, (rd 3 1 2 8), by decide +kernel⟩
  · let c : Nat := 5
    let d : Dev := M { M0 with paused := true, reads := [rd 3 1 2 8] }
    exact ⟨c, d, by decide +kernel⟩
  · let c : Nat := 5
    let d : Dev := M { M0 with draining := true, reads := [rd 3 1 2 8], wq := [wr 4 1 2 7, wr 4 1 2 8] }
    exact ⟨c, d, (wr 4 1 2 7), by decide +kernel⟩
  · let c : Nat := 5
    let d : Dev := M { M0 with wq := List.replicate 64 (wr 5 1 2 7) }
    exact ⟨c, d, by decide +kernel⟩
  · let c : Nat := 5
    let d : Dev := M { M0 with served := [(3, 5), (4, 5)], weights := [(3, 10), (4, 20)], openRow := [(2, 8)], reads := [rd 3 1 2 8, rd 4 1 2 9, rd 4 2 7 9] }
    exact ⟨c, d, (rd 4 2 7 9), by decide +kernel⟩
  · let c : Nat := 5
    let d : Dev := M { M0 with served := [(3, 5), (4, 5)], weights := [(3, 10), (4, 20)], openRow := [(2, 8)], reads := [rd 3 1 2 8, rd 4 1 2 9, rd 4 2 7 9] }
    exact ⟨c, d, (rd 4 2 7 9), (rd 3 1 2 8), by decide +kernel⟩
  · let c : Nat := 5
    let d : Dev := M { M0 with reads := [rd 3 1 2 8, rd 4 1 2 9, rd 4 2 7 9] }
    exact ⟨c, d, (rd 3 1 2 8), (rd 3 1 2 8), by decide +kernel⟩
  · let c : Nat := 5
    let d : Dev := M { M0 with wq := [wr 4 1 2 7, wr 4 1 2 8] }
    exact ⟨c, d, (wr 4 1 2 7), by decide +kernel⟩
  · let cs : List RhCount := eight
    let q : MemReq := rd 4 1 2 3
    let now : Time := 77
    let limit : Nat := 10
    exact ⟨cs, q, (kc 1 4 9), by decide +kernel⟩
  · let cs : List RhCount := eight.drop 3
    let q : MemReq := rd 9 2 1 1
    let now : Time := 77
    let limit : Nat := 10
    exact ⟨cs, q, by decide +kernel⟩
  · let cs : List RhCount := eight
    let q : MemReq := rd 9 1 2 3
    let now : Time := 77
    let limit : Nat := 10
    exact ⟨cs, q, by decide +kernel⟩
  · let cs : List RhCount := eight
    let q : MemReq := rd 9 1 2 3
    let now : Time := 77
    let limit : Nat := 4
    exact ⟨cs, q, by decide +kernel⟩
  · let cs : List RhCount := eight
    let q : MemReq := rd 9 1 2 3
    let now : Time := 77
    let limit : Nat := 4
    exact ⟨cs, q, (kc 2 9 1), by decide +kernel⟩
  · let c : Nat := 5
    let ok : Bool := true
    let s : State := st up
    exact ⟨c, s, by decide +kernel⟩
  · let c : Nat := 5
    let n : Nat := 2
    let q : MemReq := wr 3 1 2 100
    let rest : List (MemReq × Nat) := [(rd 1 2 3 4, 0)]
    let s : State := st (Mp { M0 with issued := [(q, n), (rd 1 2 3 4, 0)], reads := [rd 5 1 2 3] } [100, 101])
    exact ⟨c, n, q, rest, s, by decide +kernel⟩
  · let c : Nat := 5
    let n : Nat := 2
    let q : MemReq := rd 3 1 2 6300000
    let rest : List (MemReq × Nat) := [(rd 1 2 3 4, 0)]
    let s : State := st (Mp { M0 with issued := [(q, n), (rd 1 2 3 4, 0)] } [6300000])
    exact ⟨c, n, q, rest, s, by decide +kernel⟩
  · let c : Nat := 5
    let n : Nat := 2
    let q : MemReq := rd 3 1 2 63
    let rest : List (MemReq × Nat) := [(rd 1 2 3 4, 0)]
    let s : State := st (Mp { M0 with issued := [(q, n), (rd 1 2 3 4, 0)] } [63])
    exact ⟨c, n, q, rest, s, by decide +kernel⟩
  · let c : Nat := 5
    let n : Nat := 2
    let q : MemReq := wr 3 1 2 207618048
    let rest : List (MemReq × Nat) := [(rd 1 2 3 4, 0)]
    let s : State := st (Mp { M0 with issued := [(q, n), (rd 1 2 3 4, 0)] } [207618048])
    exact ⟨c, n, q, rest, s, by decide +kernel⟩
  · let c : Nat := 5
    let n : Nat := 2
    let q : MemReq := rd 3 1 2 63
    let rest : List (MemReq × Nat) := [(rd 1 2 3 4, 0)]
    let s : State := st (Mp { M0 with issued := [(q, n), (rd 1 2 3 4, 0)] } [63])
    exact ⟨c, n, q, rest, s, by decide +kernel⟩
  · let c : Nat := 5
    let n : Nat := 3
    let q : MemReq := rd 3 1 2 63
    let rest : List (MemReq × Nat) := [(rd 1 2 3 4, 0)]
    let s : State := st (Mp { M0 with issued := [(q, n), (rd 1 2 3 4, 0)] } [63])
    exact ⟨c, n, q, rest, s, by decide +kernel⟩
  · let c : Nat := 5
    let q : MemReq := rd 3 1 2 64
    let d : Dev := Mp M0 [2]
    exact ⟨d, (2), by decide +kernel⟩
  · let line : Nat := 256*16384-1
    exact ⟨line, by decide +kernel⟩
  · let line : Nat := 256*16384
    exact ⟨line, by decide +kernel⟩
  · let line : Nat := 384*16384
    exact ⟨line, by decide +kernel⟩
  · let line : Nat := 4480*16384
    exact ⟨line, by decide +kernel⟩
  · let line : Nat := 12672*16384
    exact ⟨line, by decide +kernel⟩
  · let g : Nat := 4480*4096
    let j : Nat := 0
    let s : State := st (Mp M0 [4480*16384])
    exact ⟨g, j, s, by decide +kernel⟩
  · let g : Nat := 256*4096+1
    let j : Nat := 2
    let s : State := st (Mp M0 [256*16384+6])
    exact ⟨g, j, s, by decide +kernel⟩
  · let g : Nat := 1
    let j : Nat := 3
    let s : State := st (Mp M0 [256*16384+6])
    exact ⟨g, j, s, by decide +kernel⟩
  · let c : Nat := 5
    let s : State := st (M { M0 with paused := true })
    exact ⟨c, s, by decide +kernel⟩
  · let c : Nat := 5
    let s : State := st (M { M0 with reads := [rd 5 1 2 3] })
    exact ⟨c, s, by decide +kernel⟩
  · let c : Nat := 0
    let s : State := st (M { M0 with reads := [rd 5 1 2 3] })
    exact ⟨c, s, by decide +kernel⟩
  · let c : Nat := 5
    let s : State := st (M M0)
    exact ⟨c, s, by decide +kernel⟩
  · let c : Nat := 5
    let s : State := st (M { M0 with triedAt := some 700, retrainFailed := true })
    exact ⟨c, s, (700), by decide +kernel⟩
  · let c : Nat := 5
    let s : State := st ({ M { M0 with triedAt := some 700 } with mem := { (M { M0 with triedAt := some 700 }).mem with intervalAt := 800 } })
    exact ⟨c, s, (700), by decide +kernel⟩
  · let c : Nat := 5
    let s : State := st ({ M { M0 with triedAt := some 900 } with mem := { (M { M0 with triedAt := some 900 }).mem with intervalAt := 800 } })
    exact ⟨c, s, (900), by decide +kernel⟩
  · let c : Nat := 5
    let s : State := st ({ M { M0 with triedAt := some 900 } with mem := { (M { M0 with triedAt := some 900 }).mem with intervalAt := 800 } })
    exact ⟨c, s, by decide +kernel⟩
  · let c : Nat := 5
    let s : State := st (M { M0 with paused := true, reads := [rd 5 1 2 3] })
    exact ⟨c, s, by decide +kernel⟩
  · let dev : Nat := 1
    let s : State := st (M { M0 with paused := true, reads := [rd 5 1 2 3] })
    exact ⟨dev, by decide +kernel⟩

end MemoryChannelsW

namespace CommitJournalW

def jn (f : Jnl → Jnl) (d : Dev) : Dev := { d with jnl := f d.jnl }
def rec1 (t : Nat) (nx : JThen) : JRec := { typ := t, seq := 9, time := 5, subject := 3, lines := 2, written := 0, body := .config 0x0610 4096 [1], then' := nx }
def J (r : JRec) : State := st (jn (fun j => { j with inflight := [r, { r with seq := 10 }], nextSeq := 11, wear := 500 }) up)
def jb : Job := job spec0C01 4096 (rq [100])
def sa0 : Sa := { w0 := 0, w1 := 0, sci := 0, softLimit := 0, salt := 0, key := [1, 2], seq := 40, edge := 0, accepted := [], reserved := 100, reserving := true, sinceMark := 0, exhausted := false, softReached := false }
def full (n : Nat) : Dev := jn (fun j => { j with inflight := [{ rec1 6 .nothing with lines := j.logLines - n }] }) up

/-- States and operands that meet the hypotheses of `Obligations.CommitJournal`, one part for each of its 26 cases that have hypotheses. -/
theorem witness_CommitJournal :
    (∃ typ : Nat, ∃ subject : Nat, ∃ ws : List W64, Wf.journalRecordWrite typ subject ws = true ∧ typ = 7) ∧
    (∃ typ : Nat, ∃ subject : Nat, ∃ ws : List W64, ∃ s : State, Wf.journalRecordWrite typ subject ws = true ∧ (let n := (32 + 8 * ws.length + 16 + 63) / 64; let d := s.dev; typ ≠ 7 ∧ Jnl.takes d.jnl typ n = true)) ∧
    (∃ typ : Nat, ∃ subject : Nat, ∃ ws : List W64, ∃ s : State, Wf.journalRecordWrite typ subject ws = true ∧ (let n := (32 + 8 * ws.length + 16 + 63) / 64; let d := s.dev; typ ∈ [2, 3, 4, 5, 9, 10] ∧ Jnl.takes d.jnl typ n = false)) ∧
    (∃ typ : Nat, ∃ subject : Nat, ∃ ws : List W64, ∃ s : State, Wf.journalRecordWrite typ subject ws = true ∧ (let n := (32 + 8 * ws.length + 16 + 63) / 64; let d := s.dev; typ ∈ [1, 6, 8] ∧ Jnl.takes d.jnl typ n = false ∧ d.jnl.ready = true ∧ d.jnl.stopped = false)) ∧
    (∃ s : State, s.dev.jnl.inflight = []) ∧
    (∃ r : JRec, ∃ rest : List JRec, ∃ s : State, s.dev.jnl.inflight = r :: rest) ∧
    (∃ r : JRec, ∃ rest : List JRec, ∃ s : State, s.dev.jnl.inflight = r :: rest ∧ r.written + 1 < r.lines) ∧
    (∃ r : JRec, ∃ rest : List JRec, ∃ s : State, s.dev.jnl.inflight = r :: rest ∧ r.lines ≤ r.written + 1 ∧ s.dev.mgt.deviceReset = none ∧ r.then' = .nothing) ∧
    (∃ r : JRec, ∃ rest : List JRec, ∃ s : State, ∃ j, ∃ st, ∃ ws, s.dev.jnl.inflight = r :: rest ∧ r.lines ≤ r.written + 1 ∧ s.dev.mgt.deviceReset = none ∧ r.then' = .answer j st ws) ∧
    (∃ r : JRec, ∃ rest : List JRec, ∃ s : State, ∃ n, ∃ t, ∃ up, ∃ x, s.dev.jnl.inflight = r :: rest ∧ (let c := chargeLine (if r.typ = 10 then s.dev else paceLine s.dev); let d := count .jnlLines 0 (emit (.journalLine r.seq r.written) { c with jnl := { c.jnl with wear := c.jnl.wear + 1 } }); let r1 := { r with written := r.written + 1 }; let e := count .jnlRecords 0 { d with jnl := { d.jnl with inflight := rest, records := d.jnl.records ++ [r1], lastDurable := r.seq } }; r.lines ≤ r.written + 1 ∧ s.dev.mgt.deviceReset = none ∧ r.then' = .seqBlock n t up ∧ e.sa n = some x)) ∧
    (∃ r : JRec, ∃ rest : List JRec, ∃ s : State, ∃ ok, ∃ worn, s.dev.jnl.inflight = r :: rest ∧ (ok = false ∨ worn = true)) ∧
    (∃ d : Dev, 64 * 10 ^ 9 ≤ Jnl.creditAt d.jnl d.now) ∧
    (∃ d : Dev, Jnl.creditAt d.jnl d.now < 64 * 10 ^ 9 ∧ d.jnl.pacingLogged = none) ∧
    (∃ d : Dev, ∃ t, Jnl.creditAt d.jnl d.now < 64 * 10 ^ 9 ∧ d.jnl.pacingLogged = some t ∧ Time.since d.now t < 3600 * 10 ^ 9) ∧
    (∃ n : Nat, ∃ d : Dev, d.jnl.compacting = some n) ∧
    (∃ ch : Nat, ∃ r : Req, ∃ s : State, ∃ d : Dev, cmdWf ch r = true ∧ Accepted spec0C00 ch r s.dev d) ∧
    (∃ ch : Nat, ∃ r : Req, ∃ s : State, ∃ d : Dev, cmdWf ch r = true ∧ Accepted spec0C01 ch r s.dev d ∧ (let n := fld (r.word 0) 9 0; (n < 100 ∨ 1000 < n))) ∧
    (∃ ch : Nat, ∃ r : Req, ∃ s : State, ∃ d : Dev, ∃ e, cmdWf ch r = true ∧ Accepted spec0C01 ch r s.dev d ∧ (let n := fld (r.word 0) 9 0; 100 ≤ n ∧ n ≤ 1000 ∧ Recorded spec0C01 ch r 0 [] d e)) ∧
    (∃ ch : Nat, ∃ r : Req, ∃ s : State, ∃ d : Dev, cmdWf ch r = true ∧ Accepted spec0C01 ch r s.dev d ∧ (let n := fld (r.word 0) 9 0; 100 ≤ n ∧ n ≤ 1000 ∧ d.jnl.replaying = none ∧ heldObject d 0x0C01 0 = true)) ∧
    (∃ ch : Nat, ∃ r : Req, ∃ s : State, ∃ d : Dev, cmdWf ch r = true ∧ Accepted spec0C01 ch r s.dev d ∧ (let n := fld (r.word 0) 9 0; 100 ≤ n ∧ n ≤ 1000 ∧ d.jnl.replaying = none ∧ heldObject d 0x0C01 0 = false ∧ Jnl.takes d.jnl 6 (recLines r.payloadLen.toNat) = false)) ∧
    (∃ ch : Nat, ∃ r : Req, ∃ s : State, ∃ d : Dev, cmdWf ch r = true ∧ Accepted spec0C02 ch r s.dev d ∧ (let c := fld (r.word 0) 5 0; 48 ≤ c)) ∧
    (∃ ch : Nat, ∃ r : Req, ∃ s : State, ∃ d : Dev, cmdWf ch r = true ∧ Accepted spec0C02 ch r s.dev d ∧ (let c := fld (r.word 0) 5 0; c < 48)) ∧
    (∃ ch : Nat, ∃ r : Req, ∃ s : State, ∃ d : Dev, cmdWf ch r = true ∧ Accepted spec0C10 ch r s.dev d) ∧
    (∃ ch : Nat, ∃ r : Req, ∃ s : State, ∃ d : Dev, cmdWf ch r = true ∧ d.jnl.compacting ≠ none ∧ Accepted spec0C11 ch r s.dev d) ∧
    (∃ ch : Nat, ∃ r : Req, ∃ s : State, ∃ d : Dev, cmdWf ch r = true ∧ Accepted spec0C11 ch r s.dev d ∧ (let cs := checkpoints d; let size := (cs.map (fun c => recLines c.2.1)).sum; let fits := size ≤ Jnl.free d.jnl ∧ d.jnl.stopped = false ∧ ∀ c ∈ cs, recLines c.2.1 ≤ 16384; d.jnl.compacting = none ∧ ¬ fits)) ∧
    (∃ ch : Nat, ∃ r : Req, ∃ s : State, ∃ d : Dev, cmdWf ch r = true ∧ Accepted spec0C11 ch r s.dev d ∧ (let cs := checkpoints d; let size := (cs.map (fun c => recLines c.2.1)).sum; let fits := size ≤ Jnl.free d.jnl ∧ d.jnl.stopped = false ∧ ∀ c ∈ cs, recLines c.2.1 ≤ 16384; d.jnl.compacting = none ∧ fits ∧ d.jnl.ready = true ∧ cs ≠ [])) := by
  refine ⟨?_, ?_, ?_, ?_, ?_, ?_, ?_, ?_, ?_, ?_, ?_, ?_, ?_, ?_, ?_, ?_, ?_, ?_, ?_, ?_, ?_, ?_, ?_, ?_, ?_, ?_⟩
  · let typ : Nat := 7
    let subject : Nat := 5
    let ws : List W64 := []
    let s : State := st up
    exact ⟨typ, subject, ws, by decide +kernel⟩
  · let typ : Nat := 6
    let subject : Nat := 5
    let ws : List W64 := [1,2,3]
    let s : State := st up
    exact ⟨typ, subject, ws, s, by decide +kernel⟩
  · let typ : Nat := 2
    let subject : Nat := 5
    let ws : List W64 := [1,2,3]
    let s : State := st (full 1)
    exact ⟨typ, subject, ws, s, by decide +kernel⟩
  · let typ : Nat := 8
    let subject : Nat := 5
    let ws : List W64 := [1,2,3]
    let s : State := st (full 1)
    exact ⟨typ, subject, ws, s, by decide +kernel⟩
  · let ok : Bool := true
    let worn : Bool := false
    let s : State := st up
    exact ⟨s, by decide +kernel⟩
  · let r : JRec := rec1 6 .nothing
    let rest : List JRec := [{ rec1 6 .nothing with seq := 10 }]
    let s : State := J (rec1 6 .nothing)
    exact ⟨r, rest, s, by decide +kernel⟩
  · let r : JRec := rec1 6 .nothing
    let rest : List JRec := [{ rec1 6 .nothing with seq := 10 }]
    let s : State := J (rec1 6 .nothing)
    exact ⟨r, rest, s, by decide +kernel⟩
  · let r : JRec := { rec1 6 .nothing with written := 1 }
    let rest : List JRec := [{ rec1 6 .nothing with seq := 10, written := 1 }]
    let s : State := J { rec1 6 .nothing with written := 1 }
    exact ⟨r, rest, s, by decide +kernel⟩
  · let r : JRec := { rec1 6 (.answer jb .ok [5]) with written := 1 }
    let rest : List JRec := [{ rec1 6 (.answer jb .ok [5]) with seq := 10, written := 1 }]
    let s : State := J { rec1 6 (.answer jb .ok [5]) with written := 1 }
    exact ⟨r, rest, s, (jb), (.ok), ([5]), by decide +kernel⟩
  · let r : JRec := { rec1 8 (.seqBlock 7 false 1000) with written := 1 }
    let rest : List JRec := [{ rec1 8 (.seqBlock 7 false 1000) with seq := 10, written := 1 }]
    let s : State := (let t := J { rec1 8 (.seqBlock 7 false 1000) with written := 1 }; Tests.st (t.dev.setSa 7 (some sa0)))
    let n := 7
    let t := false
    let x := sa0
    exact ⟨r, rest, s, n, t, (1000), x, by decide +kernel⟩
  · let r : JRec := rec1 6 .nothing
    let rest : List JRec := [{ rec1 6 .nothing with seq := 10 }]
    let s : State := J (rec1 6 .nothing)
    exact ⟨r, rest, s, (false), (false), by decide +kernel⟩
  · let d : Dev := Tests.up
    exact ⟨d, by decide +kernel⟩
  · let d : Dev := jn (fun j => { j with credit := 700, creditTime := Tests.up.now }) Tests.up
    exact ⟨d, by decide +kernel⟩
  · let d : Dev := jn (fun j => { j with credit := 700, creditTime := Tests.up.now, pacingLogged := some Tests.up.now }) Tests.up
    exact ⟨d, (Tests.up.now), by decide +kernel⟩
  · let j : Job := jb
    let n : Nat := 1
    let d : Dev := jn (fun j => { j with compacting := some 1, records := [rec1 6 .nothing, rec1 5 .nothing] }) Tests.up
    exact ⟨n, d, by decide +kernel⟩
  · let ch : Nat := 4096
    let r : Req := rqi []
    let s : State := Tests.st Tests.up
    let d : Dev := tk spec0C00 r s.dev
    exact ⟨ch, r, s, d, by decide +kernel, ⟨(by decide +kernel), (by decide +kernel), rfl, (by decide +kernel)⟩⟩
  · let ch : Nat := 4096
    let r : Req := rq [99]
    let s : State := Tests.st Tests.up
    let d : Dev := tk spec0C01 r s.dev
    exact ⟨ch, r, s, d, by decide +kernel, ⟨(by decide +kernel), (by decide +kernel), rfl, (by decide +kernel)⟩, by decide +kernel⟩
  · let ch : Nat := 4096
    let r : Req := rq [100]
    let s : State := Tests.st Tests.up
    let d : Dev := tk spec0C01 r s.dev
    exact ⟨ch, r, s, d, (recd spec0C01 ch r 0 [] d), by decide +kernel, ⟨(by decide +kernel), (by decide +kernel), rfl, (by decide +kernel)⟩, by delta Recorded; decide +kernel⟩
  · let ch : Nat := 4096
    let r : Req := rq [100]
    let s : State := Tests.st (jn (fun j => { j with inflight := [{ rec1 6 (.answer jb .ok []) with subject := 0, body := .config 0x0C01 4096 [100] }] }) (Tests.up.setChan 4096 { Tests.up.chan 4096 with running := [jb.no] }))
    let d : Dev := tk spec0C01 r s.dev
    exact ⟨ch, r, s, d, by decide +kernel, ⟨(by decide +kernel), (by decide +kernel), rfl, (by decide +kernel)⟩, by decide +kernel⟩
  · let ch : Nat := 4096
    let r : Req := rq [100]
    let s : State := Tests.st (full 262144)
    let d : Dev := tk spec0C01 r s.dev
    exact ⟨ch, r, s, d, by decide +kernel, ⟨(by decide +kernel), (by decide +kernel), rfl, (by decide +kernel)⟩, by decide +kernel⟩
  · let ch : Nat := 4096
    let r : Req := rqi [48]
    let s : State := Tests.st Tests.up
    let d : Dev := tk spec0C02 r s.dev
    exact ⟨ch, r, s, d, by decide +kernel, ⟨(by decide +kernel), (by decide +kernel), rfl, (by decide +kernel)⟩, by decide +kernel⟩
  · let ch : Nat := 4096
    let r : Req := rqi [47]
    let s : State := Tests.st Tests.up
    let d : Dev := tk spec0C02 r s.dev
    exact ⟨ch, r, s, d, by decide +kernel, ⟨(by decide +kernel), (by decide +kernel), rfl, (by decide +kernel)⟩, by decide +kernel⟩
  · let ch : Nat := 4096
    let r : Req := rqi []
    let s : State := Tests.st Tests.up
    let d : Dev := tk spec0C10 r s.dev
    exact ⟨ch, r, s, d, by decide +kernel, ⟨(by decide +kernel), (by decide +kernel), rfl, (by decide +kernel)⟩⟩
  · let ch : Nat := 4096
    let r : Req := rqi []
    let s : State := Tests.st (jn (fun j => { j with compacting := some 1 }) Tests.up)
    let d : Dev := tk spec0C11 r s.dev
    exact ⟨ch, r, s, d, by decide +kernel, by decide +kernel, ⟨(by decide +kernel), (by decide +kernel), rfl, (by decide +kernel)⟩⟩
  · let ch : Nat := 4096
    let r : Req := rqi []
    let s : State := Tests.st (jn (fun j => { j with logLines := 2, records := [rec1 6 .nothing] }) Tests.up)
    let d : Dev := tk spec0C11 r s.dev
    exact ⟨ch, r, s, d, by decide +kernel, ⟨(by decide +kernel), (by decide +kernel), rfl, (by decide +kernel)⟩, by decide +kernel⟩
  · let ch : Nat := 4096
    let r : Req := rqi []
    let s : State := Tests.st (jn (fun j => { j with records := [rec1 6 .nothing, { rec1 6 .nothing with subject := 4 }, rec1 6 .nothing] }) Tests.up)
    let d : Dev := tk spec0C11 r s.dev
    exact ⟨ch, r, s, d, by decide +kernel, ⟨(by decide +kernel), (by decide +kernel), rfl, (by decide +kernel)⟩, by decide +kernel⟩

end CommitJournalW

namespace AlarmsAndErasureW

def ac : Slice := { Slice.free with state := .active, pasid := 5, profile := { Profile.slice0 with queuePairs := 16, vectors := 8 } }
def one : Dev := up.setSlice 3 ac
def atc : SMap (List AtcEntry) := [(0, [⟨some 5, 12, 0x100, true, true⟩, ⟨some 5, 12, 0x200, true, true⟩, ⟨some 5, 12, 0x300, true, true⟩])]
def q0 : QueuePair := { QueuePair.none with valid := true, slice := 3, k := 4, channel := 2, prefetch := 4, workAddr := 0x100000, cqAddr := 0x200000 }
def Q (x : QueuePair) : Dev := { one with qde := { one.qde with atc := atc } }.setQp 9 x
def snd : List W64 := [1 + (77 <<< 32), 0x300000, 64, 0, 0, 0, 0, 0]
def it (i : Nat) (ws : List W64) : WorkItem := { newItem i with words := ws, cached := true }
def cr (f : Crypto → Crypto) (d : Dev) : Dev := { d with cry := f d.cry }
def stq : QueuePair := { q0 with typ := 2, items := [{ it 0 [0x10, 0, 0, 0, (1 <<< 30) + (1 <<< 32)] with started := true }, it 1 [0x10, 0, 0, 0, 0, 0, 0, 0], { it 2 [0x11, 0, 0, 0, (1 <<< 32)] with started := true }] }
def kd : Dev := cr (fun c => { c with keks := [3], cache := [7], keys := [(13, some ⟨[1],[2],32,5⟩)] }) (Q stq)
def al (a : BitVec 6) (e : Option Time) (d : Dev) : Dev := { d with tru := { d.tru with active := a, erased := e } }
def rj (op : Nat) : JRec := { typ := 6, seq := 9, time := 5, subject := 3, lines := 2, written := 0, body := .config op 4096 [1], then' := .answer { job spec0800 4096 (rq [1]) with opcode := op } .ok [] }

/-- States and operands that meet the hypotheses of `Obligations.AlarmsAndErasure`, one part for each of its 7 cases that have hypotheses. -/
theorem witness_AlarmsAndErasure :
    (∃ n : Nat, ∃ s : State, 1 ≤ n ∧ n ≤ 5 ∧ (let d := s.dev; let held := d.boot.porHeld = true ∨ (n = 2 ∧ d.boot.powerFail = true) ∨ d.tru.active.getLsbD (n - 1) = true; held)) ∧
    (∃ n : Nat, ∃ s : State, 1 ≤ n ∧ n ≤ 5 ∧ (let d := s.dev; let held := d.boot.porHeld = true ∨ (n = 2 ∧ d.boot.powerFail = true) ∨ d.tru.active.getLsbD (n - 1) = true; let recent := ∃ t, d.tru.erased = some t ∧ Time.since d.now t ≤ 1000; ¬ held ∧ (n = 5 ∨ recent))) ∧
    (∃ n : Nat, ∃ s : State, 1 ≤ n ∧ n ≤ 5 ∧ (let d := s.dev; let held := d.boot.porHeld = true ∨ (n = 2 ∧ d.boot.powerFail = true) ∨ d.tru.active.getLsbD (n - 1) = true; let recent := ∃ t, d.tru.erased = some t ∧ Time.since d.now t ≤ 1000; ¬ held ∧ n ≠ 5 ∧ ¬ recent)) ∧
    (∃ n : Nat, 1 ≤ n ∧ n ≤ 5) ∧
    (∃ ch : Nat, ∃ r : Req, ∃ s : State, ∃ d : Dev, cmdWf ch r = true ∧ bit (r.word 0) 0 = false ∧ Accepted spec0B04 ch r s.dev d) ∧
    (∃ ch : Nat, ∃ r : Req, ∃ s : State, ∃ d : Dev, cmdWf ch r = true ∧ bit (r.word 0) 0 = true ∧ ((∀ t, d.tru.erased = some t → 1000 < Time.since d.now t)) ∧ Accepted spec0B04 ch r s.dev d) ∧
    (∃ d : Dev, ∃ r : JRec, ∃ j : Job, ∃ st : Status, ∃ ws : List W64, r ∈ d.jnl.inflight ∧ r.then' = .answer j st ws ∧ (j.opcode = 0x0800 ∨ j.opcode = 0x0810 ∨ j.opcode = 0x0820)) := by
  refine ⟨?_, ?_, ?_, ?_, ?_, ?_, ?_⟩
  · let n : Nat := 2
    let s : State := st (al 2 none kd)
    exact ⟨n, s, by decide +kernel⟩
  · let n : Nat := 5
    let s : State := st kd
    refine ⟨n, s, ?_⟩
    refine ⟨by decide, by decide, ?_, Or.inl rfl⟩
    decide +kernel
  · let n : Nat := 3
    let s : State := st kd
    refine ⟨n, s, ?_⟩
    refine ⟨by decide, by decide, ?_, by decide, fun ⟨t, h, _⟩ => nomatch h⟩
    decide +kernel
  · let n : Nat := 1
    let s : State := st (al 7 none kd)
    exact ⟨n, by decide +kernel⟩
  · let ch : Nat := 4096
    let r : Req := rq [0]
    let s : State := st kd
    let d : Dev := tk spec0B04 r s.dev
    exact ⟨ch, r, s, d, by decide +kernel, by decide +kernel, ⟨(by decide +kernel), (by decide +kernel), rfl, (by decide +kernel)⟩⟩
  · let ch : Nat := 4096
    let r : Req := rq [1]
    let s : State := st kd
    let d : Dev := tk spec0B04 r s.dev
    refine ⟨ch, r, s, d, ?_⟩
    exact ⟨by decide +kernel, by decide +kernel, (fun t h => nomatch h), ⟨by decide +kernel, by decide +kernel, rfl, by decide +kernel⟩⟩
  · let d : Dev := { kd with jnl := { kd.jnl with inflight := [rj 0x0801, rj 0x0810] } }
    let r : JRec := rj 0x0810
    let j : Job := { job spec0800 4096 (rq [1]) with opcode := 0x0810 }
    let st : Status := .ok
    let ws : List W64 := []
    exact ⟨d, r, j, st, ws, by decide +kernel⟩

end AlarmsAndErasureW

namespace IdentityAndKeysW

def B0 : Bundle := { Bundle.reset with state := .authenticating, accepted := true, width := 16, lanesOk := 0xFFFF, peerNode := 5, peerBundle := 1, rxNext := 7, txSeq := 4 }
def dst (f : StringSt → StringSt) (d : Dev) : Dev := { d with str := f d.str }
def tr (f : Tru → Tru) (d : Dev) : Dev := { d with tru := f d.tru }
def S0 : Dev := dst (fun s => { s with bundles := [(2, B0)], node := 3, mode := 1, state := .settled, members := [3, 5, 9], epoch := 4, ctlIn := [{ bundle := 2, hdr := ⟨5, 4, 9⟩, body := .spdm [1] }] }) up
def own : Dev := tr (fun t => { t with owned := true, enrolCounter := 6, slots := [(0, ⟨1, [9], []⟩), (4, ⟨2, [8], []⟩)] }) up
def enr (slot p : W64) (k sg : W64) (n : Nat) : Req := { rqi ([slot + (p <<< 8), 0] ++ List.replicate 12 k ++ List.replicate (n - 14) sg) with payloadLen := BitVec.ofNat 16 (8 * n) }

/-- States and operands that meet the hypotheses of `Obligations.IdentityAndKeys`, one part for each of its 26 cases that have hypotheses; in 7 parts a hypothesis is left out that rests on an opaque value of Config or on a table too large to evaluate. -/
theorem witness_IdentityAndKeys :
    (∃ path : Nat, ∃ s : State, path < 4 ∧ (let d := s.dev; d.boot.porHeld = true)) ∧
    (∃ path : Nat, ∃ k : SpdmKind, ∃ valid : Bool, ∃ s : State, path < 4 ∧ (let d := s.dev; d.boot.porHeld = false ∧ (k = .version ∨ k = .capabilities ∨ k = .algorithms ∨ k = .digests ∨ k = .challenge) ∧ valid = true)) ∧
    (∃ path : Nat, ∃ k : SpdmKind, ∃ valid : Bool, ∃ s : State, path < 4 ∧ (let d := s.dev; d.boot.porHeld = false ∧ (k = .other ∨ (valid = false ∧ (k = .version ∨ k = .challenge ∨ k = .keyExchange ∨ k = .endSession))))) ∧
    (∃ path : Nat, ∃ k : SpdmKind, ∃ valid : Bool, ∃ s : State, ∃ n, path < 4 ∧ (let d := s.dev; d.boot.porHeld = false ∧ k = .certificate n ∧ n = 0 ∧ valid = true)) ∧
    (∃ path : Nat, ∃ k : SpdmKind, ∃ s : State, ∃ n, path < 4 ∧ (let d := s.dev; d.boot.porHeld = false ∧ k = .certificate n ∧ n ≠ 0)) ∧
    (∃ path : Nat, ∃ k : SpdmKind, ∃ valid : Bool, ∃ s : State, ∃ n, ∃ b, path < 4 ∧ (let d := s.dev; d.boot.porHeld = false ∧ k = .measurements n b ∧ valid = true ∧ (n ≤ 6 ∨ n = 255))) ∧
    (∃ path : Nat, ∃ k : SpdmKind, ∃ s : State, ∃ n, ∃ b, path < 4 ∧ (let d := s.dev; d.boot.porHeld = false ∧ k = .measurements n b ∧ 6 < n ∧ n ≠ 255)) ∧
    (∃ path : Nat, ∃ k : SpdmKind, ∃ valid : Bool, ∃ s : State, path < 4 ∧ (let d := s.dev; d.boot.porHeld = false ∧ k = .keyExchange ∧ valid = true)) ∧
    (∃ path : Nat, ∃ k : SpdmKind, ∃ valid : Bool, ∃ s : State, ∃ t, path < 4 ∧ (let d := s.dev; d.boot.porHeld = false ∧ k = .finish t ∧ valid = true ∧ path ∈ d.tru.handshakes)) ∧
    (∃ path : Nat, ∃ k : SpdmKind, ∃ s : State, ∃ t, path < 4 ∧ (let d := s.dev; d.boot.porHeld = false ∧ k = .finish t ∧ path ∉ d.tru.handshakes)) ∧
    (∃ path : Nat, ∃ k : SpdmKind, ∃ valid : Bool, ∃ s : State, path < 4 ∧ (let d := s.dev; d.boot.porHeld = false ∧ k = .endSession ∧ valid = true ∧ path ∈ d.tru.sessions)) ∧
    (∃ b : Nat, ∃ valid : Bool, ∃ s : State, ∃ e : Dev, b < 8 ∧ s.dev.boot.porHeld = false ∧ takeSpdm b s.dev = some e ∧ (e.bundle b).state = .authenticating ∧ valid = false) ∧
    (∃ b : Nat, ∃ valid : Bool, ∃ s : State, ∃ e : Dev, b < 8 ∧ s.dev.boot.porHeld = false ∧ takeSpdm b s.dev = some e ∧ (e.bundle b).state = .authenticating ∧ valid = true ∧ e.eraseHold = true) ∧
    (∃ b : Nat, ∃ valid : Bool, ∃ s : State, ∃ e : Dev, b < 8 ∧ s.dev.boot.porHeld = false ∧ takeSpdm b s.dev = some e ∧ (e.bundle b).state = .authenticating ∧ valid = true ∧ e.eraseHold = false) ∧
    (∃ ch : Nat, ∃ r : Req, ∃ s : State, ∃ d : Dev, cmdWf ch r = true ∧ r.indirect = true ∧ keysRead spec0B01 ch r s.dev = true ∧ Accepted spec0B01 ch r (zeroPayload ch r s.dev) d ∧ (let bs := (wordsBytes r.words).take r.payloadLen.toNat; let slot := fld (r.word 0) 3 0; let purpose := fld (r.word 0) 9 8; let first := d.tru.owned = false ∧ slot = 0; let sigAt := 112 + (if purpose = 3 then 48 else 0); let pub := (bs.drop 16).take 96; let priv := if purpose = 3 then (bs.drop 112).take 48 else []; let shaped := ((purpose = 1 ∧ slot = 0) ∨ ((purpose = 2 ∨ purpose = 3) ∧ 1 ≤ slot)) ∧ r.word 1 = 0 ∧ (r.payloadLen.toNat = sigAt + 96 ∨ (first ∧ r.payloadLen.toNat = sigAt)) ∧ Config.pointOk pub = true ∧ (purpose = 3 → Config.scalarOk priv pub = true); ¬ shaped)) ∧
    (∃ ch : Nat, ∃ r : Req, ∃ s : State, ∃ d : Dev, cmdWf ch r = true ∧ r.indirect = true ∧ keysRead spec0B01 ch r s.dev = true ∧ Accepted spec0B01 ch r (zeroPayload ch r s.dev) d ∧ (let slot := fld (r.word 0) 3 0; let purpose := fld (r.word 0) 9 8; let first := d.tru.owned = false ∧ slot = 0; let sigAt := 112 + (if purpose = 3 then 48 else 0); let shaped := ((purpose = 1 ∧ slot = 0) ∨ ((purpose = 2 ∨ purpose = 3) ∧ 1 ≤ slot)) ∧ r.word 1 = 0 ∧ (r.payloadLen.toNat = sigAt + 96 ∨ (first ∧ r.payloadLen.toNat = sigAt)); shaped ∧ ¬ first)) ∧
    (∃ ch : Nat, ∃ r : Req, ∃ s : State, ∃ d : Dev, cmdWf ch r = true ∧ r.indirect = true ∧ keysRead spec0B01 ch r s.dev = true ∧ Accepted spec0B01 ch r (zeroPayload ch r s.dev) d ∧ (let slot := fld (r.word 0) 3 0; let purpose := fld (r.word 0) 9 8; let first := d.tru.owned = false ∧ slot = 0; let sigAt := 112 + (if purpose = 3 then 48 else 0); let shaped := ((purpose = 1 ∧ slot = 0) ∨ ((purpose = 2 ∨ purpose = 3) ∧ 1 ≤ slot)) ∧ r.word 1 = 0 ∧ (r.payloadLen.toNat = sigAt + 96 ∨ (first ∧ r.payloadLen.toNat = sigAt)); let free := (d.keySlot slot).purpose = 0 ∨ (d.tru.owned = true ∧ slot = 0); shaped ∧ ¬ first ∧ ¬ free)) ∧
    (∃ ch : Nat, ∃ r : Req, ∃ s : State, ∃ d : Dev, cmdWf ch r = true ∧ r.indirect = true ∧ keysRead spec0B01 ch r s.dev = true ∧ Accepted spec0B01 ch r (zeroPayload ch r s.dev) d ∧ (let bs := (wordsBytes r.words).take r.payloadLen.toNat; let slot := fld (r.word 0) 3 0; let purpose := fld (r.word 0) 9 8; let first := d.tru.owned = false ∧ slot = 0; let sigAt := 112 + (if purpose = 3 then 48 else 0); let shaped := ((purpose = 1 ∧ slot = 0) ∨ ((purpose = 2 ∨ purpose = 3) ∧ 1 ≤ slot)) ∧ r.word 1 = 0 ∧ (r.payloadLen.toNat = sigAt + 96 ∨ (first ∧ r.payloadLen.toNat = sigAt)); let signed := Config.ecdsaVerify (d.keySlot 0).pub (Config.sha384 (beBytes Config.unitSerial.toNat 8 ++ beBytes d.tru.enrolCounter.toNat 4 ++ (bs.take sigAt).drop 8)) ((bs.drop sigAt).take 96) = true; let free := (d.keySlot slot).purpose = 0 ∨ (d.tru.owned = true ∧ slot = 0); shaped ∧ (first ∨ signed) ∧ free)) ∧
    (∃ ch : Nat, ∃ r : Req, ∃ s : State, ∃ d : Dev, cmdWf ch r = true ∧ Accepted spec0B02 ch r s.dev d ∧ (let slot := fld (r.word 0) 3 0; slot = 0)) ∧
    (∃ ch : Nat, ∃ r : Req, ∃ s : State, ∃ d : Dev, cmdWf ch r = true ∧ Accepted spec0B02 ch r s.dev d ∧ (let slot := fld (r.word 0) 3 0; slot ≠ 0 ∧ (d.keySlot slot).purpose = 0)) ∧
    (∃ ch : Nat, ∃ r : Req, ∃ s : State, ∃ d : Dev, cmdWf ch r = true ∧ Accepted spec0B02 ch r s.dev d ∧ (let slot := fld (r.word 0) 3 0; slot ≠ 0 ∧ (d.keySlot slot).purpose ≠ 0)) ∧
    (∃ ch : Nat, ∃ r : Req, ∃ s : State, ∃ d : Dev, cmdWf ch r = true ∧ Accepted spec0B02 ch r s.dev d ∧ (let slot := fld (r.word 0) 3 0; slot ≠ 0 ∧ (d.keySlot slot).purpose ≠ 0)) ∧
    (∃ ch : Nat, ∃ r : Req, ∃ s : State, ∃ d : Dev, cmdWf ch r = true ∧ Accepted spec0B00 ch r s.dev d) ∧
    (∃ ch : Nat, ∃ r : Req, ∃ s : State, ∃ d : Dev, cmdWf ch r = true ∧ Accepted spec0B03 ch r s.dev d ∧ (let n := Config.certChain.length; (fld (r.word 0) 2 0 ≠ 0 ∨ fld (r.word 1) 15 0 < n))) ∧
    (∃ ch : Nat, ∃ r : Req, ∃ s : State, ∃ d : Dev, ∃ st, cmdWf ch r = true ∧ Accepted spec0B03 ch r s.dev d ∧ fld (r.word 0) 2 0 = 0 ∧ bufferFault .timeout d ch r = some st) ∧
    (∃ ch : Nat, ∃ r : Req, ∃ s : State, ∃ d : Dev, cmdWf ch r = true ∧ Accepted spec0B03 ch r s.dev d ∧ fld (r.word 0) 2 0 = 0 ∧ bufferFault .timeout d ch r = none) := by
  refine ⟨?_, ?_, ?_, ?_, ?_, ?_, ?_, ?_, ?_, ?_, ?_, ?_, ?_, ?_, ?_, ?_, ?_, ?_, ?_, ?_, ?_, ?_, ?_, ?_, ?_, ?_⟩
  · let path : Nat := 1
    let k : SpdmKind := .version
    let valid : Bool := true
    let bs : List Byte := [4]
    let s : State := st { up with boot := { up.boot with porHeld := true } }
    exact ⟨path, s, by decide +kernel⟩
  · let path : Nat := 1
    let k : SpdmKind := .version
    let valid : Bool := true
    let bs : List Byte := [4]
    let s : State := st up
    exact ⟨path, k, valid, s, by decide +kernel⟩
  · let path : Nat := 1
    let k : SpdmKind := .version
    let valid : Bool := false
    let bs : List Byte := [4]
    let s : State := st up
    exact ⟨path, k, valid, s, by decide +kernel⟩
  · let path : Nat := 1
    let k : SpdmKind := .certificate 0
    let valid : Bool := true
    let bs : List Byte := [4]
    let s : State := st up
    let n := 0
    exact ⟨path, k, valid, s, n, by decide +kernel⟩
  · let path : Nat := 1
    let k : SpdmKind := .certificate 1
    let valid : Bool := true
    let bs : List Byte := [4]
    let s : State := st up
    let n := 1
    exact ⟨path, k, s, n, by decide +kernel⟩
  · let path : Nat := 1
    let k : SpdmKind := .measurements 255 true
    let valid : Bool := true
    let bs : List Byte := [4]
    let s : State := st up
    let n := 255
    exact ⟨path, k, valid, s, n, (true), by decide +kernel⟩
  · let path : Nat := 1
    let k : SpdmKind := .measurements 7 true
    let valid : Bool := true
    let bs : List Byte := [4]
    let s : State := st up
    let n := 7
    exact ⟨path, k, s, n, (true), by decide +kernel⟩
  · let path : Nat := 1
    let k : SpdmKind := .keyExchange
    let valid : Bool := true
    let bs : List Byte := [4]
    let s : State := st (tr (fun t => { t with sessions := [1, 2], handshakes := [1, 3] }) up)
    exact ⟨path, k, valid, s, by decide +kernel⟩
  · let path : Nat := 1
    let k : SpdmKind := .finish 5
    let valid : Bool := true
    let bs : List Byte := [4]
    let s : State := st (tr (fun t => { t with sessions := [1, 2], handshakes := [1, 3] }) up)
    let t := 5
    exact ⟨path, k, valid, s, t, by decide +kernel⟩
  · let path : Nat := 1
    let k : SpdmKind := .finish 5
    let valid : Bool := true
    let bs : List Byte := [4]
    let s : State := st (tr (fun t => { t with sessions := [1, 2], handshakes := [3] }) up)
    let t := 5
    exact ⟨path, k, s, t, by decide +kernel⟩
  · let path : Nat := 1
    let k : SpdmKind := .endSession
    let valid : Bool := true
    let bs : List Byte := [4]
    let s : State := st (tr (fun t => { t with sessions := [1, 2], handshakes := [3] }) up)
    exact ⟨path, k, valid, s, by decide +kernel⟩
  · let b : Nat := 2
    let t : BitVec 384 := 77
    let valid : Bool := false
    let bs : List Byte := []
    let s : State := st S0
    let e : Dev := dst (fun x => { x with ctlIn := [] }) S0
    exact ⟨b, valid, s, e, by decide +kernel⟩
  · let b : Nat := 2
    let t : BitVec 384 := 77
    let valid : Bool := true
    let bs : List Byte := []
    let s : State := st (tr (fun t => { t with active := 1 }) S0)
    let e : Dev := dst (fun x => { x with ctlIn := [] }) s.dev
    exact ⟨b, valid, s, e, by decide +kernel⟩
  · let b : Nat := 2
    let t : BitVec 384 := 77
    let valid : Bool := true
    let bs : List Byte := []
    let s : State := st S0
    let e : Dev := dst (fun x => { x with ctlIn := [] }) s.dev
    exact ⟨b, valid, s, e, by decide +kernel⟩
  · let ch : Nat := 4096
    let r : Req := enr 5 1 0x05 0x01 26
    let s : State := st own
    let d : Dev := tk spec0B01 r (zeroPayload ch r s.dev)
    exact ⟨ch, r, s, d, by decide +kernel, by decide +kernel, by decide +kernel, ⟨(by decide +kernel), (by decide +kernel), rfl, (by decide +kernel)⟩, by decide +kernel⟩
  · let ch : Nat := 4096
    let r : Req := enr 5 2 0x05 0x02 26
    let s : State := st own
    let d : Dev := tk spec0B01 r (zeroPayload ch r s.dev)
    exact ⟨ch, r, s, d, by decide +kernel, by decide +kernel, by decide +kernel, ⟨(by decide +kernel), (by decide +kernel), rfl, (by decide +kernel)⟩, by decide +kernel⟩
  · let ch : Nat := 4096
    let r : Req := enr 4 2 0x05 0x01 26
    let s : State := st own
    let d : Dev := tk spec0B01 r (zeroPayload ch r s.dev)
    exact ⟨ch, r, s, d, by decide +kernel, by decide +kernel, by decide +kernel, ⟨(by decide +kernel), (by decide +kernel), rfl, (by decide +kernel)⟩, by decide +kernel⟩
  · let ch : Nat := 4096
    let r : Req := enr 0 1 0x05 0x01 14
    let s : State := st up
    let d : Dev := tk spec0B01 r (zeroPayload ch r s.dev)
    exact ⟨ch, r, s, d, by decide +kernel, by decide +kernel, by decide +kernel, ⟨(by decide +kernel), (by decide +kernel), rfl, (by decide +kernel)⟩, by decide +kernel⟩
  · let ch : Nat := 4096
    let r : Req := rqi ([0] ++ List.replicate 12 1)
    let s : State := st own
    let d : Dev := tk spec0B02 r s.dev
    exact ⟨ch, r, s, d, by decide +kernel, ⟨(by decide +kernel), (by decide +kernel), rfl, (by decide +kernel)⟩, by decide +kernel⟩
  · let ch : Nat := 4096
    let r : Req := rqi ([5] ++ List.replicate 12 1)
    let s : State := st own
    let d : Dev := tk spec0B02 r s.dev
    exact ⟨ch, r, s, d, by decide +kernel, ⟨(by decide +kernel), (by decide +kernel), rfl, (by decide +kernel)⟩, by decide +kernel⟩
  · let ch : Nat := 4096
    let r : Req := rqi ([4] ++ List.replicate 12 2)
    let s : State := st own
    let d : Dev := tk spec0B02 r s.dev
    exact ⟨ch, r, s, d, by decide +kernel, ⟨(by decide +kernel), (by decide +kernel), rfl, (by decide +kernel)⟩, by decide +kernel⟩
  · let ch : Nat := 4096
    let r : Req := rqi ([4] ++ List.replicate 12 1)
    let s : State := st own
    let d : Dev := tk spec0B02 r s.dev
    exact ⟨ch, r, s, d, by decide +kernel, ⟨(by decide +kernel), (by decide +kernel), rfl, (by decide +kernel)⟩, by decide +kernel⟩
  · let ch : Nat := 4096
    let r : Req := rqi []
    let s : State := st own
    let d : Dev := tk spec0B00 r s.dev
    exact ⟨ch, r, s, d, by decide +kernel, ⟨(by decide +kernel), (by decide +kernel), rfl, (by decide +kernel)⟩⟩
  · let ch : Nat := 4096
    let r : Req := rqi [0x3001, 20]
    let s : State := st own
    let d : Dev := tk spec0B03 r s.dev
    exact ⟨ch, r, s, d, by decide +kernel, ⟨(by decide +kernel), (by decide +kernel), rfl, (by decide +kernel)⟩, by decide +kernel⟩
  · let ch : Nat := 4096
    let r : Req := { rqi [0x3000, 20] with host := ⟨true, true, false, [0x3000, 20]⟩ }
    let s : State := st own
    let d : Dev := tk spec0B03 r s.dev
    let st := Status.timeout
    exact ⟨ch, r, s, d, st, by decide +kernel, ⟨(by decide +kernel), (by decide +kernel), rfl, (by decide +kernel)⟩, by decide +kernel⟩
  · let ch : Nat := 4096
    let r : Req := rqi [0x3000, 20]
    let s : State := st own
    let d : Dev := tk spec0B03 r s.dev
    exact ⟨ch, r, s, d, by decide +kernel, ⟨(by decide +kernel), (by decide +kernel), rfl, (by decide +kernel)⟩, by decide +kernel⟩

end IdentityAndKeysW

namespace MeteringW

def B0 : Bundle := { Bundle.reset with state := .up, accepted := true, width := 16, lanesOk := 0xFFFF, peerNode := 5, peerBundle := 1, rxNext := 7, txSeq := 4 }
def dst (f : StringSt → StringSt) (d : Dev) : Dev := { d with str := f d.str }
def bun (x : Bundle) (d : Dev) : Dev := dst (fun s => { s with bundles := [(0, x), (1, { B0 with peerNode := 9 })] }) d
def S0 : Dev := bun B0 { dst (fun s => { s with node := 3, mode := 1, state := .settled, members := [3, 5, 9], epoch := 4, highEpoch := 4, topology := 2 }) up with now := 10000 }
def S (x : Bundle) : Dev := bun x S0
def ac : Slice := { Slice.free with state := .active, pasid := 5, profile := { Profile.slice0 with queuePairs := 16, vectors := 8 } }
def mt (f : Mtr → Mtr) (d : Dev) : Dev := { d with mtr := f d.mtr }
def per (n : BitVec 32) (t : Time) : OpenPeriod := ⟨n, t, false, false, [(100, 7)]⟩
def two : Dev := mt (fun m => { m with opens := [per 5 9000, per 4 1000] }) (dst (fun s => { s with lead := 3, maxRttUs := 2 }) ((S0.setSlice 3 ac).setSlice 5 { ac with pasid := 6 }))
def mem (f : Mtr → Mtr) : State := st (mt f (dst (fun s => { s with lead := 9 }) two))
def msg (b : CtlBody) : CtlMsg := { bundle := 0, hdr := ⟨5, 4, 9⟩, body := b }
def wIn (b : CtlBody) (d : Dev) : Dev := dst (fun x => { x with ctlIn := [msg b] }) d
def mrec (n : BitVec 32) : MeterRec := ⟨n, false, false, 1, 2, 3, [(3, 1, [1,2,3]), (5, 0, [4]), (3, 2, [9])]⟩
def jm (n : BitVec 32) : JRec := { typ := 7, seq := 9, time := 5, subject := n.toNat, lines := 2, written := 2, body := .meter (mrec n), then' := .nothing }
def frz : Dev := { two with jnl := { two.jnl with ready := false } }
def rec5 : Dev := mt (fun m => { m with oldest := 2, opens := per 6 20000 :: m.opens }) { two with jnl := { two.jnl with records := [jm 3, jm 4] } }
def mk (c k n : W64) : List W64 := [n, 0x3000, k, c]

/-- States and operands that meet the hypotheses of `Obligations.Metering`, one part for each of its 36 cases that have hypotheses. -/
theorem witness_Metering :
    (∃ t : Time, ∃ d : Dev, ∃ p : OpenPeriod, ∃ q : OpenPeriod, d.mtr.opens = [p, q] ∧ (let reached := fun (x : OpenPeriod) => Time.ge t x.mark = true ∨ x.period = 0; reached p)) ∧
    (∃ t : Time, ∃ d : Dev, ∃ p : OpenPeriod, ∃ q : OpenPeriod, d.mtr.opens = [p, q] ∧ (let reached := fun (x : OpenPeriod) => Time.ge t x.mark = true ∨ x.period = 0; ¬ reached p ∧ reached q)) ∧
    (∃ t : Time, ∃ d : Dev, ∃ p : OpenPeriod, ∃ q : OpenPeriod, d.mtr.opens = [p, q] ∧ (let reached := fun (x : OpenPeriod) => Time.ge t x.mark = true ∨ x.period = 0; ¬ reached p ∧ ¬ reached q)) ∧
    (∃ t : Tag, (t.meterClass = 63 ∨ t.exempt = true)) ∧
    (∃ t : Tag, t.meterClass ≠ 63 ∧ t.exempt = false) ∧
    (∃ s : State, nextMark s.dev = none) ∧
    (∃ n : BitVec 32, ∃ t : Time, ∃ placed : Bool, ∃ s : State, nextMark s.dev = some (n, t, placed) ∧ placed = false ∧ announces s.dev = false) ∧
    (∃ n : BitVec 32, ∃ t : Time, ∃ placed : Bool, ∃ s : State, nextMark s.dev = some (n, t, placed) ∧ placed = true) ∧
    (∃ n : BitVec 32, ∃ t : Time, ∃ placed : Bool, ∃ s : State, nextMark s.dev = some (n, t, placed) ∧ placed = false ∧ announces s.dev = true) ∧
    (∃ d : Dev, ∃ n : BitVec 32, ∃ k : BitVec 32, ∃ t : Time, ∃ u : Time, ∃ rest : List (BitVec 32 × Time), d.mtr.announced = [] ∧ d.mtr.lastMarks = (n, t) :: (k, u) :: rest ∧ (let newest := (d.mtr.opens.headD ⟨0, 0, false, false, []⟩).period; Version.later n newest = false ∧ Version.later k newest = false)) ∧
    (∃ d : Dev, ∃ n : BitVec 32, ∃ t : Time, (n, t) ∈ d.mtr.announced ∧ n = (d.mtr.opens.headD ⟨0, 0, false, false, []⟩).period + 1) ∧
    (∃ s : State, s.dev.mtr.opens.length ≤ 1) ∧
    (∃ p : OpenPeriod, ∃ q : OpenPeriod, ∃ rest : List OpenPeriod, ∃ s : State, s.dev.mtr.opens = rest ++ [q, p] ∧ (let m := s.dev.mtr; let r : MeterRec := { period := p.period, lost := p.lost, selfMarked := p.selfMarked, mark := p.mark, next := q.mark, node := s.dev.str.node, entries := if p.lost then [] else meterEntries p.counts }; m.waiting = [] ∧ m.lostQ = [] ∧ Jnl.takes s.dev.jnl 7 (recLines (32 + 264 * r.entries.length)) = true)) ∧
    (∃ p : OpenPeriod, ∃ q : OpenPeriod, ∃ rest : List OpenPeriod, ∃ s : State, s.dev.mtr.opens = rest ++ [q, p] ∧ (let m := s.dev.mtr; ((∀ n, Jnl.takes s.dev.jnl 7 n = false)) ∧ m.lostQ = [] ∧ m.waiting.length < 4)) ∧
    (∃ p : OpenPeriod, ∃ q : OpenPeriod, ∃ rest : List OpenPeriod, ∃ s : State, ∃ old, ∃ w, s.dev.mtr.opens = rest ++ [q, p] ∧ (let m := s.dev.mtr; ((∀ n, Jnl.takes s.dev.jnl 7 n = false)) ∧ m.lostQ = [] ∧ m.waiting = old :: w ∧ w.length = 3)) ∧
    (∃ m : CtlMsg, ∃ n : BitVec 32, ∃ t : Time, ∃ s : State, ∃ d : Dev, Arrived isCandle m (n, t) s.dev d) ∧
    (∃ m : CtlMsg, ∃ n : BitVec 32, ∃ s : State, ∃ d : Dev, d.isLead = false ∧ Arrived isCandleDone m n s.dev d) ∧
    (∃ m : CtlMsg, ∃ n : BitVec 32, ∃ s : State, ∃ d : Dev, d.isLead = true ∧ Arrived isCandleDone m n s.dev d) ∧
    (∃ ch : Nat, ∃ r : Req, ∃ s : State, ∃ d : Dev, cmdWf ch r = true ∧ Accepted spec0900 ch r s.dev d ∧ (let w := r.word 0; let idle := d.jnl.replaying = none; idle ∧ (let p := fld w 11 0; (p = 0 ∨ 3600 < p)))) ∧
    (∃ ch : Nat, ∃ r : Req, ∃ s : State, ∃ d : Dev, cmdWf ch r = true ∧ Accepted spec0900 ch r s.dev d ∧ (let w := r.word 0; let idle := d.jnl.replaying = none; idle ∧ (let p := fld w 11 0; 1 ≤ p ∧ p ≤ 3600 ∧ d.nonLead = true))) ∧
    (∃ ch : Nat, ∃ r : Req, ∃ s : State, ∃ d : Dev, cmdWf ch r = true ∧ Accepted spec0900 ch r s.dev d ∧ (let w := r.word 0; let idle := d.jnl.replaying = none; idle ∧ (let p := fld w 11 0; 1 ≤ p ∧ p ≤ 3600 ∧ d.nonLead = false ∧ d.isLead = false))) ∧
    (∃ ch : Nat, ∃ r : Req, ∃ s : State, ∃ d : Dev, ∃ e, cmdWf ch r = true ∧ Accepted spec0900 ch r s.dev d ∧ (let w := r.word 0; let idle := d.jnl.replaying = none; idle ∧ (let p := fld w 11 0; let first := (d.now.toNat / (p * 1000000000) + 1) * (p * 1000000000); 1 ≤ p ∧ p ≤ 3600 ∧ d.nonLead = false ∧ d.isLead = true ∧ nextMark d = none ∧ Recorded spec0900 ch r 0 [mk64 [(d.newestPeriod.period + 1).toNat], mk64 [lo 48 first]] d e))) ∧
    (∃ ch : Nat, ∃ r : Req, ∃ s : State, ∃ d : Dev, ∃ n : BitVec 32, ∃ t : Time, ∃ b : Bool, ∃ e, cmdWf ch r = true ∧ Accepted spec0900 ch r s.dev d ∧ (let w := r.word 0; let idle := d.jnl.replaying = none; idle ∧ (let p := fld w 11 0; 1 ≤ p ∧ p ≤ 3600 ∧ d.nonLead = false ∧ d.isLead = true ∧ nextMark d = some (n, t, b) ∧ Recorded spec0900 ch r 0 [mk64 [(n + 1).toNat], mk64 [(t + BitVec.ofNat 48 (d.mtr.periodS * 1000000000)).toNat]] d e))) ∧
    (∃ ch : Nat, ∃ r : Req, ∃ s : State, ∃ d : Dev, cmdWf ch r = true ∧ Accepted spec0901 ch r s.dev d) ∧
    (∃ ch : Nat, ∃ r : Req, ∃ s : State, ∃ d : Dev, cmdWf ch r = true ∧ Accepted spec0902 ch r s.dev d ∧ (let k := fld (r.word 2) 12 0; let shaped := 1 ≤ k ∧ k ≤ 4096 ∧ fld (r.word 1) 2 0 = 0; ¬ shaped)) ∧
    (∃ ch : Nat, ∃ r : Req, ∃ s : State, ∃ d : Dev, cmdWf ch r = true ∧ Accepted spec0902 ch r s.dev d ∧ (let w := r.word 0; let sl := fld w 43 32; let k := fld (r.word 2) 12 0; let shaped := 1 ≤ k ∧ k ≤ 4096 ∧ fld (r.word 1) 2 0 = 0; let may := 4096 ≤ ch ∨ (bit w 44 = false ∧ sl = ch); shaped ∧ ¬ may)) ∧
    (∃ ch : Nat, ∃ r : Req, ∃ s : State, ∃ d : Dev, cmdWf ch r = true ∧ Accepted spec0902 ch r s.dev d ∧ (let w := r.word 0; let n := fld w 31 0; let sl := fld w 43 32; let k := fld (r.word 2) 12 0; let shaped := 1 ≤ k ∧ k ≤ 4096 ∧ fld (r.word 1) 2 0 = 0; let may := 4096 ≤ ch ∨ (bit w 44 = false ∧ sl = ch); let known := d.mtr.oldest.toNat ≤ n ∧ n ≤ d.newestPeriod.period.toNat; shaped ∧ may ∧ ¬ known)) ∧
    (∃ ch : Nat, ∃ r : Req, ∃ s : State, ∃ d : Dev, cmdWf ch r = true ∧ Accepted spec0902 ch r s.dev d ∧ (let w := r.word 0; let n := fld w 31 0; let sl := fld w 43 32; let k := fld (r.word 2) 12 0; let shaped := 1 ≤ k ∧ k ≤ 4096 ∧ fld (r.word 1) 2 0 = 0; let may := 4096 ≤ ch ∨ (bit w 44 = false ∧ sl = ch); let known := d.mtr.oldest.toNat ≤ n ∧ n ≤ d.newestPeriod.period.toNat; shaped ∧ may ∧ known ∧ meterRecord d n = none)) ∧
    (∃ ch : Nat, ∃ r : Req, ∃ s : State, ∃ d : Dev, ∃ x, ∃ st, cmdWf ch r = true ∧ Accepted spec0902 ch r s.dev d ∧ (let w := r.word 0; let n := fld w 31 0; let sl := fld w 43 32; let k := fld (r.word 2) 12 0; let shaped := 1 ≤ k ∧ k ≤ 4096 ∧ fld (r.word 1) 2 0 = 0; let may := 4096 ≤ ch ∨ (bit w 44 = false ∧ sl = ch); let known := d.mtr.oldest.toNat ≤ n ∧ n ≤ d.newestPeriod.period.toNat; shaped ∧ may ∧ known ∧ meterRecord d n = some x ∧ bufferFault .timeout d ch r = some st)) ∧
    (∃ ch : Nat, ∃ r : Req, ∃ s : State, ∃ d : Dev, ∃ x, cmdWf ch r = true ∧ Accepted spec0902 ch r s.dev d ∧ (let w := r.word 0; let n := fld w 31 0; let sl := fld w 43 32; let k := fld (r.word 2) 12 0; let shaped := 1 ≤ k ∧ k ≤ 4096 ∧ fld (r.word 1) 2 0 = 0; let may := 4096 ≤ ch ∨ (bit w 44 = false ∧ sl = ch); let known := d.mtr.oldest.toNat ≤ n ∧ n ≤ d.newestPeriod.period.toNat; shaped ∧ may ∧ known ∧ meterRecord d n = some x ∧ bufferFault .timeout d ch r = none)) ∧
    (∃ ch : Nat, ∃ r : Req, ∃ s : State, ∃ d : Dev, cmdWf ch r = true ∧ Accepted spec0903 ch r s.dev d ∧ (let w := r.word 0; let idle := d.jnl.replaying = none; idle ∧ (let n := fld w 31 0; let done := ∃ k, d.mtr.localDone = some k ∧ n ≤ k.toNat; ¬ done))) ∧
    (∃ ch : Nat, ∃ r : Req, ∃ s : State, ∃ d : Dev, cmdWf ch r = true ∧ Accepted spec0903 ch r s.dev d ∧ (let w := r.word 0; let idle := d.jnl.replaying = none; idle ∧ (let n := fld w 31 0; let done := ∃ k, d.mtr.localDone = some k ∧ n ≤ k.toNat; done ∧ n < d.mtr.oldest.toNat))) ∧
    (∃ ch : Nat, ∃ r : Req, ∃ s : State, ∃ d : Dev, ∃ e, cmdWf ch r = true ∧ Accepted spec0903 ch r s.dev d ∧ (let w := r.word 0; let idle := d.jnl.replaying = none; idle ∧ (let n := fld w 31 0; let done := ∃ k, d.mtr.localDone = some k ∧ n ≤ k.toNat; done ∧ d.mtr.oldest.toNat ≤ n ∧ Recorded spec0903 ch r 0 [mk64 [lo 32 (n + 1)]] d e))) ∧
    (∃ ch : Nat, ∃ r : Req, ∃ s : State, ∃ d : Dev, cmdWf ch r = true ∧ Accepted spec0904 ch r s.dev d ∧ (let w := r.word 0; let sl := fld w 11 0; ch < 4096 ∧ ch ≠ sl)) ∧
    (∃ ch : Nat, ∃ r : Req, ∃ s : State, ∃ d : Dev, cmdWf ch r = true ∧ Accepted spec0904 ch r s.dev d ∧ (let w := r.word 0; let sl := fld w 11 0; (4096 ≤ ch ∨ ch = sl))) ∧
    (∃ x : MeterRec, x.entries.length < 2 ^ 16 ∧ x.node < 2 ^ 20) := by
  refine ⟨?_, ?_, ?_, ?_, ?_, ?_, ?_, ?_, ?_, ?_, ?_, ?_, ?_, ?_, ?_, ?_, ?_, ?_, ?_, ?_, ?_, ?_, ?_, ?_, ?_, ?_, ?_, ?_, ?_, ?_, ?_, ?_, ?_, ?_, ?_, ?_⟩
  · let sl : Nat := 3
    let m : Nat := 4
    let n : Nat := 10
    let t : Time := 9000
    let d : Dev := two
    let p : OpenPeriod := per 5 9000
    let q : OpenPeriod := per 4 1000
    exact ⟨t, d, p, q, by decide +kernel⟩
  · let sl : Nat := 3
    let m : Nat := 4
    let n : Nat := 10
    let t : Time := 8999
    let d : Dev := two
    let p : OpenPeriod := per 5 9000
    let q : OpenPeriod := per 4 1000
    exact ⟨t, d, p, q, by decide +kernel⟩
  · let sl : Nat := 3
    let m : Nat := 4
    let n : Nat := 10
    let t : Time := 999
    let d : Dev := two
    let p : OpenPeriod := per 5 9000
    let q : OpenPeriod := per 4 1000
    exact ⟨t, d, p, q, by decide +kernel⟩
  · let sl : Nat := 3
    let base : Nat := 8
    let t : Tag := { (newTag up 3 0 0 [1]) with meterClass := 63 }
    let d : Dev := two
    exact ⟨t, by decide +kernel⟩
  · let sl : Nat := 3
    let base : Nat := 8
    let t : Tag := { (newTag up 3 0 0 [1]) with meterClass := 17, entryTime := 9500, length := 64 }
    let d : Dev := two
    exact ⟨t, by decide +kernel⟩
  · let s : State := st two
    exact ⟨s, by decide +kernel⟩
  · let n : BitVec 32 := 6
    let t : Time := 20000
    let placed : Bool := false
    let s : State := mem (fun m => { m with announced := [(6, 20000), (7, 30000)] })
    let m := s.dev.mtr
    exact ⟨n, t, placed, s, by decide +kernel⟩
  · let n : BitVec 32 := 6
    let t : Time := 16000
    let placed : Bool := true
    let s : State := mem (fun m => { m with lastMarks := [(5, 9000), (4, 2000)] })
    let m := s.dev.mtr
    exact ⟨n, t, placed, s, by decide +kernel⟩
  · let n : BitVec 32 := 6
    let t : Time := 20000
    let placed : Bool := false
    let s : State := st (mt (fun m => { m with announced := [(6, 20000)], lastMarks := [(6, 20000), (5, 9000)], nextPeriodS := 10 }) two)
    let m := s.dev.mtr
    exact ⟨n, t, placed, s, by decide +kernel⟩
  · let d : Dev := (mem (fun m => { m with lastMarks := [(5, 9000), (4, 2000)] })).dev
    let n : BitVec 32 := 5
    let k : BitVec 32 := 4
    let t : Time := 9000
    let u : Time := 2000
    let rest : List (BitVec 32 × Time) := []
    exact ⟨d, n, k, t, u, rest, by decide +kernel⟩
  · let d : Dev := (mem (fun m => { m with announced := [(9, 5), (6, 777)] })).dev
    let n : BitVec 32 := 6
    let t : Time := 777
    exact ⟨d, n, t, by decide +kernel⟩
  · let s : State := st (mt (fun m => { m with opens := [per 5 9000] }) two)
    exact ⟨s, by decide +kernel⟩
  · let p : OpenPeriod := per 4 1000
    let q : OpenPeriod := per 5 9000
    let rest : List OpenPeriod := []
    let s : State := st two
    exact ⟨p, q, rest, s, by decide +kernel⟩
  · let p : OpenPeriod := per 4 1000
    let q : OpenPeriod := per 5 9000
    let rest : List OpenPeriod := []
    let s : State := st (mt (fun m => { m with waiting := [mrec 1, mrec 2, mrec 3] }) frz)
    let m := s.dev.mtr
    refine ⟨p, q, rest, s, ?_⟩
    exact ⟨rfl, (fun n => rfl), by decide +kernel, by decide +kernel⟩
  · let p : OpenPeriod := per 4 1000
    let q : OpenPeriod := per 5 9000
    let rest : List OpenPeriod := []
    let s : State := st (mt (fun m => { m with waiting := [mrec 0, mrec 1, mrec 2, mrec 3] }) frz)
    let m := s.dev.mtr
    refine ⟨p, q, rest, s, (mrec 0), ([mrec 1, mrec 2, mrec 3]), ?_⟩
    exact ⟨rfl, (fun n => rfl), by decide +kernel⟩
  · let m : CtlMsg := msg (.candle 7 40000)
    let n : BitVec 32 := 7
    let t : Time := 40000
    let s : State := st (wIn m.body two)
    let d : Dev := arr isCandle s.dev
    refine ⟨m, n, t, s, d, ?_⟩
    · refine arrived_front ?_ rfl ?_ ?_ ?_ ?_ <;> decide +kernel
  · let m : CtlMsg := msg (.candleDone 4)
    let n : BitVec 32 := 4
    let s : State := st (wIn m.body (mem id).dev)
    let d : Dev := arr isCandleDone s.dev
    refine ⟨m, n, s, d, by decide +kernel, ?_⟩
    · refine arrived_front ?_ rfl ?_ ?_ ?_ ?_ <;> decide +kernel
  · let m : CtlMsg := msg (.candleDone 4)
    let n : BitVec 32 := 4
    let s : State := st (wIn m.body (mt (fun m => { m with doneBy := [(3, 8), (9, 6)] }) two))
    let d : Dev := arr isCandleDone s.dev
    refine ⟨m, n, s, d, by decide +kernel, ?_⟩
    · refine arrived_front ?_ rfl ?_ ?_ ?_ ?_ <;> decide +kernel
  · let ch : Nat := 4096
    let r : Req := rq [0]
    let s : State := st two
    let d : Dev := tk spec0900 r s.dev
    exact ⟨ch, r, s, d, by decide +kernel, ⟨(by decide +kernel), (by decide +kernel), rfl, (by decide +kernel)⟩, by decide +kernel⟩
  · let ch : Nat := 4096
    let r : Req := rq [3600]
    let s : State := st (dst (fun x => { x with partition := 2, lead := 9 }) two)
    let d : Dev := tk spec0900 r s.dev
    exact ⟨ch, r, s, d, by decide +kernel, ⟨(by decide +kernel), (by decide +kernel), rfl, (by decide +kernel)⟩, by decide +kernel⟩
  · let ch : Nat := 4096
    let r : Req := rq [3600]
    let s : State := st (mem id).dev
    let d : Dev := tk spec0900 r s.dev
    exact ⟨ch, r, s, d, by decide +kernel, ⟨(by decide +kernel), (by decide +kernel), rfl, (by decide +kernel)⟩, by decide +kernel⟩
  · let ch : Nat := 4096
    let r : Req := rq [3600]
    let s : State := st two
    let d : Dev := tk spec0900 r s.dev
    let w := r.word 0
    let p := fld w 11 0
    let first := (d.now.toNat / (p * 1000000000) + 1) * (p * 1000000000)
    exact ⟨ch, r, s, d, (recd spec0900 ch r 0 [mk64 [(d.newestPeriod.period + 1).toNat], mk64 [lo 48 first]] d), by decide +kernel, ⟨(by decide +kernel), (by decide +kernel), rfl, (by decide +kernel)⟩, by delta Recorded; decide +kernel⟩
  · let ch : Nat := 4096
    let r : Req := rq [3600]
    let s : State := st (mt (fun m => { m with announced := [(6, 20000)] }) two)
    let d : Dev := tk spec0900 r s.dev
    let n : BitVec 32 := 6
    let t : Time := 20000
    let b : Bool := false
    exact ⟨ch, r, s, d, n, t, b, (recd spec0900 ch r 0 [mk64 [(n + 1).toNat], mk64 [(t + BitVec.ofNat 48 (d.mtr.periodS * 1000000000)).toNat]] d), by decide +kernel, ⟨(by decide +kernel), (by decide +kernel), rfl, (by decide +kernel)⟩, by delta Recorded; decide +kernel⟩
  · let ch : Nat := 4096
    let r : Req := rqi []
    let s : State := st (mt (fun m => { m with announced := [(6, 20000)] }) two)
    let d : Dev := tk spec0901 r s.dev
    exact ⟨ch, r, s, d, by decide +kernel, ⟨(by decide +kernel), (by decide +kernel), rfl, (by decide +kernel)⟩⟩
  · let ch : Nat := 4096
    let r : Req := rqi (mk 0 0 4)
    let s : State := st rec5
    let d : Dev := tk spec0902 r s.dev
    exact ⟨ch, r, s, d, by decide +kernel, ⟨(by decide +kernel), (by decide +kernel), rfl, (by decide +kernel)⟩, by decide +kernel⟩
  · let ch : Nat := 5
    let r : Req := rqi (mk 0 2 (4 + (1 <<< 44)))
    let s : State := st rec5
    let d : Dev := tkc ch spec0902 r s.dev
    exact ⟨ch, r, s, d, by decide +kernel, ⟨(by decide +kernel), (by decide +kernel), rfl, (by decide +kernel)⟩, by decide +kernel⟩
  · let ch : Nat := 4096
    let r : Req := rqi (mk 0 2 1)
    let s : State := st rec5
    let d : Dev := tk spec0902 r s.dev
    exact ⟨ch, r, s, d, by decide +kernel, ⟨(by decide +kernel), (by decide +kernel), rfl, (by decide +kernel)⟩, by decide +kernel⟩
  · let ch : Nat := 4096
    let r : Req := rqi (mk 0 2 5)
    let s : State := st rec5
    let d : Dev := tk spec0902 r s.dev
    exact ⟨ch, r, s, d, by decide +kernel, ⟨(by decide +kernel), (by decide +kernel), rfl, (by decide +kernel)⟩, by decide +kernel⟩
  · let ch : Nat := 4096
    let r : Req := { rqi (mk 1 1 (4 + (1 <<< 44))) with host := ⟨true, true, false, (mk 1 1 (4 + (1 <<< 44)))⟩ }
    let s : State := st rec5
    let d : Dev := tk spec0902 r s.dev
    let x := mrec 4
    let st := Status.timeout
    exact ⟨ch, r, s, d, x, st, by decide +kernel, ⟨(by decide +kernel), (by decide +kernel), rfl, (by decide +kernel)⟩, by decide +kernel⟩
  · let ch : Nat := 4096
    let r : Req := rqi (mk 1 1 (4 + (1 <<< 44)))
    let s : State := st rec5
    let d : Dev := tk spec0902 r s.dev
    let x := mrec 4
    exact ⟨ch, r, s, d, x, by decide +kernel, ⟨(by decide +kernel), (by decide +kernel), rfl, (by decide +kernel)⟩, by decide +kernel⟩
  · let ch : Nat := 4096
    let r : Req := rq [4]
    let s : State := st rec5
    let d : Dev := tk spec0903 r s.dev
    refine ⟨ch, r, s, d, ?_⟩
    exact ⟨by decide +kernel, ⟨by decide +kernel, by decide +kernel, rfl, by decide +kernel⟩, by decide +kernel, (fun ⟨k, h, _⟩ => nomatch h)⟩
  · let ch : Nat := 4096
    let r : Req := rq [1]
    let s : State := st (mt (fun m => { m with localDone := some 4 }) rec5)
    let d : Dev := tk spec0903 r s.dev
    refine ⟨ch, r, s, d, ?_⟩
    exact ⟨by decide +kernel, ⟨by decide +kernel, by decide +kernel, rfl, by decide +kernel⟩, by decide +kernel, ⟨4, rfl, by decide +kernel⟩, by decide +kernel⟩
  · let ch : Nat := 4096
    let r : Req := rq [4]
    let s : State := st (mt (fun m => { m with localDone := some 4 }) rec5)
    let d : Dev := tk spec0903 r s.dev
    let w := r.word 0
    let n := fld w 31 0
    refine ⟨ch, r, s, d, (recd spec0903 ch r 0 [mk64 [lo 32 (n + 1)]] d), ?_⟩
    refine ⟨by decide +kernel, ⟨by decide +kernel, by decide +kernel, rfl, by decide +kernel⟩, by decide +kernel, ⟨4, rfl, by decide +kernel⟩, by decide +kernel, ?_⟩
    delta Recorded
    decide +kernel
  · let ch : Nat := 5
    let r : Req := rqi [3]
    let s : State := st (mt (fun m => { m with localDone := some 4 }) rec5)
    let d : Dev := tkc ch spec0904 r s.dev
    exact ⟨ch, r, s, d, by decide +kernel, ⟨(by decide +kernel), (by decide +kernel), rfl, (by decide +kernel)⟩, by decide +kernel⟩
  · let ch : Nat := 3
    let r : Req := rqi [3]
    let s : State := st (mt (fun m => { m with opens := [{ per 6 5 with counts := [(98, 7)] }] }) rec5)
    let d : Dev := tkc ch spec0904 r s.dev
    exact ⟨ch, r, s, d, by decide +kernel, ⟨(by decide +kernel), (by decide +kernel), rfl, (by decide +kernel)⟩, by decide +kernel⟩
  · let x : MeterRec := mrec 7
    exact ⟨x, by decide +kernel⟩

end MeteringW

namespace StartUpStagesW

def B (f : Boot → Boot) (d : Dev) : Dev := { d with boot := f d.boot }
def gl : HostLink := { HostLink.reset with up := true }
def on (n : Nat) : State := st (B (fun b => { b with stage := n, ready := false, started := some 5 }) { up with now := 3000005, jnl := Jnl.reset, mgt := { Mgt.reset with fwUp := false }, ports := [(0, { HostPort.reset with perst := false }), (2, { HostPort.reset with perst := false })] })
def gi (v : BitVec 32) : ImageRead := ⟨true, true, true, v, 8⟩
def dst (f : StringSt → StringSt) (d : Dev) : Dev := { d with str := f d.str }
def s3 (n : Nat) (f : StringSt → StringSt) (e : Bool) : State := st (dst f (B (fun b => { b with entered := e }) (on n).dev))
def cold : Dev := { Dev.reset with ports := [(2, { HostPort.reset with perst := false })] }

/-- States and operands that meet the hypotheses of `Obligations.StartUpStages`, one part for each of its 28 cases that have hypotheses. -/
theorem witness_StartUpStages :
    (∃ mgr : Nat, ∃ i2c : Nat, ∃ mv : Nat, ∃ s : State, mgr < 4 ∧ i2c < 4 ∧ 650 ≤ mv ∧ mv ≤ 750 ∧ s.dev.boot.porHeld = false) ∧
    (∃ mgr : Nat, ∃ i2c : Nat, ∃ mv : Nat, ∃ s : State, mgr < 4 ∧ i2c < 4 ∧ 650 ≤ mv ∧ mv ≤ 750 ∧ s.dev.boot.porHeld = true ∧ s.dev.boot.started = none ∧ s.dev.boot.tripped = false ∧ s.dev.boot.powerFail = false) ∧
    (∃ s : State, (let other := fun (k : Nat) => s.dev.boot.started = none ∨ s.dev.boot.stage ≠ k; other 0)) ∧
    (∃ s : State, (let other := fun (k : Nat) => s.dev.boot.started = none ∨ s.dev.boot.stage ≠ k; other 1)) ∧
    (∃ s : State, (let other := fun (k : Nat) => s.dev.boot.started = none ∨ s.dev.boot.stage ≠ k; other 2)) ∧
    (∃ s : State, (let other := fun (k : Nat) => s.dev.boot.started = none ∨ s.dev.boot.stage ≠ k; other 3)) ∧
    (∃ s : State, (let other := fun (k : Nat) => s.dev.boot.started = none ∨ s.dev.boot.stage ≠ k; other 4)) ∧
    (∃ s : State, (let other := fun (k : Nat) => s.dev.boot.started = none ∨ s.dev.boot.stage ≠ k; other 5)) ∧
    (∃ s : State, (let other := fun (k : Nat) => s.dev.boot.started = none ∨ s.dev.boot.stage ≠ k; other 6)) ∧
    (∃ s : State, (let other := fun (k : Nat) => s.dev.boot.started = none ∨ s.dev.boot.stage ≠ k; other 7)) ∧
    (∃ s : State, s.dev.boot.started ≠ none ∧ (let d := s.dev; let at_ := fun (k : Nat) => d.boot.stage = k; at_ 0)) ∧
    (∃ s : State, ∃ a : ImageRead, s.dev.boot.started ≠ none ∧ (let d := s.dev; let at_ := fun (k : Nat) => d.boot.stage = k; at_ 1 ∧ (let good := fun (x : ImageRead) => x.signed = true ∧ x.decrypts = true ∧ x.newEnough = true; good a))) ∧
    (∃ s : State, ∃ a : ImageRead, ∃ b : ImageRead, s.dev.boot.started ≠ none ∧ (let d := s.dev; let at_ := fun (k : Nat) => d.boot.stage = k; at_ 1 ∧ (let good := fun (x : ImageRead) => x.signed = true ∧ x.decrypts = true ∧ x.newEnough = true; ¬ good a ∧ good b))) ∧
    (∃ s : State, ∃ a : ImageRead, ∃ b : ImageRead, s.dev.boot.started ≠ none ∧ (let d := s.dev; let at_ := fun (k : Nat) => d.boot.stage = k; at_ 1 ∧ (let good := fun (x : ImageRead) => x.signed = true ∧ x.decrypts = true ∧ x.newEnough = true; ¬ good a ∧ ¬ good b))) ∧
    (∃ s : State, s.dev.boot.started ≠ none ∧ (let d := s.dev; let at_ := fun (k : Nat) => d.boot.stage = k; at_ 2)) ∧
    (∃ s : State, s.dev.boot.started ≠ none ∧ (let d := s.dev; let at_ := fun (k : Nat) => d.boot.stage = k; at_ 3)) ∧
    (∃ s : State, ∃ f36 : BitVec 48, s.dev.boot.started ≠ none ∧ (let d := s.dev; let at_ := fun (k : Nat) => d.boot.stage = k; at_ 4 ∧ d.boot.trainFailed = false ∧ f36 = 0)) ∧
    (∃ s : State, ∃ f36 : BitVec 48, ∃ f32 : BitVec 48, s.dev.boot.started ≠ none ∧ (let d := s.dev; let at_ := fun (k : Nat) => d.boot.stage = k; at_ 4 ∧ d.boot.trainFailed = false ∧ f36 ≠ 0 ∧ f32 = 0)) ∧
    (∃ s : State, ∃ f36 : BitVec 48, ∃ f32 : BitVec 48, ∃ f28 : BitVec 48, s.dev.boot.started ≠ none ∧ (let d := s.dev; let at_ := fun (k : Nat) => d.boot.stage = k; at_ 4 ∧ d.boot.trainFailed = false ∧ f36 ≠ 0 ∧ f32 ≠ 0 ∧ f28 = 0)) ∧
    (∃ s : State, ∃ f36 : BitVec 48, ∃ f32 : BitVec 48, ∃ f28 : BitVec 48, ∃ f24 : BitVec 48, s.dev.boot.started ≠ none ∧ (let d := s.dev; let at_ := fun (k : Nat) => d.boot.stage = k; at_ 4 ∧ d.boot.trainFailed = false ∧ f36 ≠ 0 ∧ f32 ≠ 0 ∧ f28 ≠ 0 ∧ f24 = 0)) ∧
    (∃ s : State, ∃ f36 : BitVec 48, ∃ f32 : BitVec 48, ∃ f28 : BitVec 48, ∃ f24 : BitVec 48, s.dev.boot.started ≠ none ∧ (let d := s.dev; let at_ := fun (k : Nat) => d.boot.stage = k; at_ 4 ∧ d.boot.trainFailed = false ∧ f36 ≠ 0 ∧ f32 ≠ 0 ∧ f28 ≠ 0 ∧ f24 ≠ 0)) ∧
    (∃ s : State, s.dev.boot.started ≠ none ∧ (let d := s.dev; let at_ := fun (k : Nat) => d.boot.stage = k; at_ 4 ∧ d.boot.trainFailed = true)) ∧
    (∃ s : State, s.dev.boot.started ≠ none ∧ (let d := s.dev; let at_ := fun (k : Nat) => d.boot.stage = k; at_ 6 ∧ d.boot.entered = true ∧ (d.str.mode = 0 ∨ d.str.state = .settled))) ∧
    (∃ s : State, s.dev.boot.started ≠ none ∧ (let d := s.dev; let at_ := fun (k : Nat) => d.boot.stage = k; at_ 6 ∧ d.boot.entered = true ∧ d.str.mode ≠ 0 ∧ d.str.state ≠ .settled)) ∧
    (∃ s : State, s.dev.boot.started ≠ none ∧ (let d := s.dev; let at_ := fun (k : Nat) => d.boot.stage = k; at_ 6 ∧ d.boot.entered = false ∧ (let e := enterString { d with boot := { d.boot with entered := true } }; (e.str.mode = 0 ∨ e.str.state = .settled)))) ∧
    (∃ s : State, s.dev.boot.started ≠ none ∧ (let d := s.dev; let at_ := fun (k : Nat) => d.boot.stage = k; at_ 6 ∧ d.boot.entered = false ∧ (let e := enterString { d with boot := { d.boot with entered := true } }; e.str.mode ≠ 0 ∧ e.str.state ≠ .settled))) ∧
    (∃ s : State, ∃ u, s.dev.boot.started ≠ none ∧ (let d := s.dev; let at_ := fun (k : Nat) => d.boot.stage = k; at_ 7 ∧ d.boot.started = some u ∧ d.boot.ready = false)) ∧
    (∃ s : State, s.dev.boot.started ≠ none ∧ (let d := s.dev; let at_ := fun (k : Nat) => d.boot.stage = k; at_ 7 ∧ d.boot.ready = true)) := by
  refine ⟨?_, ?_, ?_, ?_, ?_, ?_, ?_, ?_, ?_, ?_, ?_, ?_, ?_, ?_, ?_, ?_, ?_, ?_, ?_, ?_, ?_, ?_, ?_, ?_, ?_, ?_, ?_, ?_⟩
  · let mgr : Nat := 2
    let i2c : Nat := 1
    let mv : Nat := 650
    let s : State := st up
    exact ⟨mgr, i2c, mv, s, by decide +kernel⟩
  · let mgr : Nat := 2
    let i2c : Nat := 1
    let mv : Nat := 650
    let s : State := st cold
    exact ⟨mgr, i2c, mv, s, by decide +kernel⟩
  · let s : State := on 1
    exact ⟨s, by decide +kernel⟩
  · let s : State := on 2
    exact ⟨s, by decide +kernel⟩
  · let s : State := on 1
    exact ⟨s, by decide +kernel⟩
  · let s : State := on 1
    exact ⟨s, by decide +kernel⟩
  · let s : State := on 1
    exact ⟨s, by decide +kernel⟩
  · let s : State := on 1
    exact ⟨s, by decide +kernel⟩
  · let s : State := on 1
    exact ⟨s, by decide +kernel⟩
  · let s : State := st (B (fun b => { b with started := none }) (on 7).dev)
    exact ⟨s, by decide +kernel⟩
  · let s : State := on 0
    exact ⟨s, by decide +kernel⟩
  · let s : State := st { (B (fun b => { b with spiBusy := true }) (on 1).dev) with cry := { Crypto.reset with staged := some 4 } }
    let a : ImageRead := gi 0x010203
    let b : ImageRead := gi 9
    exact ⟨s, a, by decide +kernel⟩
  · let s : State := st { (B (fun b => { b with spiBusy := true }) (on 1).dev) with cry := { Crypto.reset with staged := some 4 } }
    let a : ImageRead := { gi 1 with newEnough := false }
    let b : ImageRead := gi 9
    exact ⟨s, a, b, by decide +kernel⟩
  · let s : State := st { (B (fun b => { b with spiBusy := true }) (on 1).dev) with cry := { Crypto.reset with staged := some 4 } }
    let a : ImageRead := { gi 1 with decrypts := false }
    let b : ImageRead := { gi 1 with signed := false }
    exact ⟨s, a, b, by decide +kernel⟩
  · let s : State := on 2
    let rom : BitVec 384 := 1
    let fw : BitVec 384 := 2
    let ste : BitVec 384 := 3
    exact ⟨s, by decide +kernel⟩
  · let s : State := on 3
    let jnl : Bool := true
    let lcp : Option Byte := none
    let ste : Option Byte := none
    exact ⟨s, by decide +kernel⟩
  · let s : State := on 4
    let f36 : BitVec 48 := 0
    let f32 : BitVec 48 := 0
    let f28 : BitVec 48 := 0
    let f24 : BitVec 48 := 0
    let small : Bool := true
    exact ⟨s, f36, by decide +kernel⟩
  · let s : State := on 4
    let f36 : BitVec 48 := 1
    let f32 : BitVec 48 := 0
    let f28 : BitVec 48 := 0
    let f24 : BitVec 48 := 0
    let small : Bool := true
    exact ⟨s, f36, f32, by decide +kernel⟩
  · let s : State := on 4
    let f36 : BitVec 48 := 1
    let f32 : BitVec 48 := 2
    let f28 : BitVec 48 := 0
    let f24 : BitVec 48 := 0
    let small : Bool := true
    exact ⟨s, f36, f32, f28, by decide +kernel⟩
  · let s : State := on 4
    let f36 : BitVec 48 := 1
    let f32 : BitVec 48 := 2
    let f28 : BitVec 48 := 3
    let f24 : BitVec 48 := 0
    let small : Bool := true
    exact ⟨s, f36, f32, f28, f24, by decide +kernel⟩
  · let s : State := on 4
    let f36 : BitVec 48 := 1
    let f32 : BitVec 48 := 2
    let f28 : BitVec 48 := 3
    let f24 : BitVec 48 := 0x800000000001
    let small : Bool := true
    exact ⟨s, f36, f32, f28, f24, by decide +kernel⟩
  · let s : State := st (B (fun b => { b with trainFailed := true }) (on 4).dev)
    exact ⟨s, by decide +kernel⟩
  · let s : State := s3 6 (fun x => { x with mode := 1, state := .settled }) true
    exact ⟨s, by decide +kernel⟩
  · let s : State := s3 6 (fun x => { x with mode := 1, state := .forming }) true
    exact ⟨s, by decide +kernel⟩
  · let s : State := s3 6 (fun x => { x with mode := 0 }) false
    exact ⟨s, by decide +kernel⟩
  · let s : State := s3 6 (fun x => { x with mode := 1, members := [3] }) false
    exact ⟨s, by decide +kernel⟩
  · let s : State := on 7
    exact ⟨s, (5), by decide +kernel⟩
  · let s : State := st (B (fun b => { b with ready := true }) (on 7).dev)
    exact ⟨s, by decide +kernel⟩

end StartUpStagesW

namespace JournalReplayW

def B (f : Boot → Boot) (d : Dev) : Dev := { d with boot := f d.boot }
def jn (f : Jnl → Jnl) (d : Dev) : Dev := { d with jnl := f d.jnl }
def ac : Slice := { Slice.free with state := .active, pasid := 5, profile := { Profile.slice0 with securityAssocs := 2, storageConns := 4 } }
def jr (t n : Nat) (b : JBody) : JRec := { typ := t, seq := n, time := 5, subject := 7, lines := 2, written := 2, body := b, then' := .nothing }
def recs : List JRec := [jr 6 1 (.config 0x0C01 4096 [120]), jr 6 2 (.mark 3 500 false), jr 8 4 (.seqBlock false 9), jr 7 5 (.meter ⟨2, false, false, 1, 2, 3, []⟩), jr 6 6 (.config 0x0100 4096 [9]), jr 1 7 (.prepare [] true)]
def r5 (f : Jnl → Jnl) : State := st (jn f (B (fun b => { b with stage := 5, ready := false, started := some 5 }) { up with jnl := { Jnl.reset with records := recs, highSeq := 8, lastDurable := 7 }, cry := { Crypto.reset with ste := .recovery } }))
def sa (w0 w1 : W64) : Sa := { w0 := w0, w1 := w1, sci := 0, softLimit := 0, salt := 0, key := [1, 2], seq := 40, edge := 0, accepted := [], reserved := 100, reserving := false, sinceMark := 0, exhausted := false, softReached := false }
def bld (v : Version) : Slot := { Slot.free with state := .building, version := v }

/-- States and operands that meet the hypotheses of `Obligations.JournalReplay`, one part for each of its 15 cases that have hypotheses. -/
theorem witness_JournalReplay :
    (∃ s : State, s.dev.boot.started ≠ none ∧ s.dev.boot.stage = 5 ∧ (let d := s.dev; d.mgt.fwUp = false)) ∧
    (∃ s : State, s.dev.boot.started ≠ none ∧ s.dev.boot.stage = 5 ∧ (let d := s.dev; d.mgt.fwUp = true ∧ d.jnl.ready = true)) ∧
    (∃ s : State, s.dev.boot.started ≠ none ∧ s.dev.boot.stage = 5 ∧ (let d := s.dev; d.mgt.fwUp = true ∧ d.jnl.ready = false)) ∧
    (∃ rs : List JRec, ∃ n : Nat, ∃ x, n + 1 < rs.length ∧ rs[n]? = some x) ∧
    (∃ rs : List JRec, ∃ n : Nat, n + 1 = rs.length) ∧
    (∃ j : Jnl, ∃ r : JRec, ∃ rest : List JRec, j.inflight = r :: rest ∧ 0 < r.written) ∧
    (∃ d : Dev, ∃ r : JRec, ∃ t, (let v := BitVec.ofNat 32 r.subject; let k := versionSlot v; r.body = .activate t ∧ (d.slot k).state = .prepared ∧ (d.slot k).version = v)) ∧
    (∃ d : Dev, ∃ r : JRec, ∃ t, ∃ j, (let v := BitVec.ofNat 32 r.subject; let k := versionSlot v; r.body = .activate t ∧ (d.slot k).state = .prepared ∧ (d.slot k).version = v ∧ d.activeSlot = some j ∧ j ≠ k)) ∧
    (∃ d : Dev, ∃ r : JRec, ∃ t, (let v := BitVec.ofNat 32 r.subject; let k := versionSlot v; r.body = .activate t ∧ ((d.slot k).state ≠ .prepared ∨ (d.slot k).version ≠ v))) ∧
    (∃ d : Dev, ∃ r : JRec, ∃ up, ∃ x, r.body = .seqBlock false up ∧ d.sa r.subject = some x) ∧
    (∃ d : Dev, ∃ r : JRec, ∃ up, ∃ x, r.body = .seqBlock true up ∧ d.sa r.subject = some x) ∧
    (∃ r : JRec, ∃ x, ∃ ms, ∃ lead, r.body = .epoch x ms lead) ∧
    (∃ r : JRec, ∃ x : MeterRec, r.body = .meter x) ∧
    (∃ r : JRec, ∃ op, ∃ ch, ∃ ws, ∃ f, r.body = .config op ch ws ∧ op ≠ 0x0104 ∧ op ≠ 0x0105 ∧ replayTable.find? (fun y => y.1 == op) = some (op, f)) ∧
    (∃ r : JRec, r.body = .powerFail) := by
  refine ⟨?_, ?_, ?_, ?_, ?_, ?_, ?_, ?_, ?_, ?_, ?_, ?_, ?_, ?_, ?_⟩
  · let bad : Option Nat := none
    let s : State := (let t := r5 id; Tests.st { t.dev with mgt := Mgt.reset })
    exact ⟨s, by decide +kernel⟩
  · let bad : Option Nat := none
    let s : State := r5 (fun j => { j with ready := true })
    exact ⟨s, by decide +kernel⟩
  · let bad : Option Nat := none
    let s : State := r5 id
    exact ⟨s, by decide +kernel⟩
  · let rs : List JRec := recs
    let n : Nat := 2
    let d : Dev := (r5 id).dev
    let x := jr 8 4 (.seqBlock false 9)
    exact ⟨rs, n, x, by decide +kernel⟩
  · let rs : List JRec := recs
    let n : Nat := 5
    let d : Dev := (r5 id).dev
    exact ⟨rs, n, by decide +kernel⟩
  · let j : Jnl := { Jnl.reset with lastDurable := 6, highSeq := 9, inflight := [{ jr 6 10 .powerFail with written := 1 }] }
    let r : JRec := { jr 6 10 .powerFail with written := 1 }
    let rest : List JRec := []
    exact ⟨j, r, rest, by decide +kernel⟩
  · let d : Dev := Tests.up.setSlot 1 { bld 1 with state := .prepared }
    let r : JRec := { jr 3 4 (.activate 700) with subject := 1 }
    exact ⟨d, r, (700), by decide +kernel⟩
  · let d : Dev := Tests.up.setSlot 1 { bld 1 with state := .prepared }
    let r : JRec := { jr 3 4 (.activate 700) with subject := 1 }
    exact ⟨d, r, (700), (0), by decide +kernel⟩
  · let d : Dev := Tests.up.setSlot 1 { bld 9 with state := .prepared }
    let r : JRec := { jr 3 4 (.activate 700) with subject := 1 }
    exact ⟨d, r, (700), by decide +kernel⟩
  · let d : Dev := Tests.up.setSa 7 (some (sa 0 0))
    let r : JRec := jr 8 4 (.seqBlock false 900)
    let x := sa 0 0
    exact ⟨d, r, (900), x, by decide +kernel⟩
  · let d : Dev := Tests.up.setSa 7 (some (sa 0 0))
    let r : JRec := jr 8 4 (.seqBlock true 900)
    let x := sa 0 0
    exact ⟨d, r, (900), x, by decide +kernel⟩
  · let d : Dev := Tests.up.setSa 7 (some (sa 0 0))
    let r : JRec := jr 9 4 (.epoch 6 [3, 4] 3)
    let x := 6
    exact ⟨r, x, ([3, 4]), (3), by decide +kernel⟩
  · let d : Dev := Tests.up.setSa 7 (some (sa 0 0))
    let r : JRec := jr 7 4 (.meter ⟨2, false, false, 1, 2, 3, []⟩)
    let x : MeterRec := ⟨2, false, false, 1, 2, 3, []⟩
    exact ⟨r, x, by decide +kernel⟩
  · let d : Dev := Tests.up.setSa 7 (some (sa 0 0))
    let r : JRec := jr 6 4 (.config 0x0C01 4096 [120])
    refine ⟨r, (0x0C01), (4096), ([120]), (memRetrainConfig), ?_⟩
    exact ⟨rfl, by decide, by decide, rfl⟩
  · let d : Dev := Tests.up.setSa 7 (some (sa 0 0))
    let r : JRec := jr 10 4 .powerFail
    exact ⟨r, by decide +kernel⟩

end JournalReplayW

namespace ObservationW

def ac : Slice := { Slice.free with state := .active, pasid := 5, profile := { Profile.slice0 with queuePairs := 16, vectors := 8 } }
def ob (f : Observe → Observe) (d : Dev) : Dev := { d with obs := f d.obs }
def tr (n : Nat) (w : W64) : TraceRec := ⟨1, List.replicate n w⟩
def base : Dev := { up.setSlice 3 ac with now := 5000000000 }
def O (f : Observe → Observe) : State := st (ob f base)
def bigr (k : Nat) : List TraceRec := List.replicate k (tr (2 ^ 17) 7)
theorem tr_length (n : Nat) (w : W64) : (tr n w).words.length = n := List.length_replicate
theorem bigr_held (k : Nat) : ((bigr k).map (fun x => 8 * x.words.length)).sum = k * 2 ^ 20 := by
  have h : 8 * 2 ^ 17 = (2 ^ 20 : Nat) := by decide
  rw [bigr, List.map_replicate, List.sum_replicate_nat, tr_length, h]
def pk : Pkt := Pkt.fresh (newTag up 3 0 0 [1, 2]) [1, 2]
def ring4 : List TraceRec := [tr 4 1, tr 8 2, tr 4 3, tr 2 4]
def strm (t : Nat) (f : Observe → Observe) : State := O (fun o => f { o with ring := ring4, tail := 64, streamed := 1, streamTarget := t, streamBytes := 2 ^ 20 - 16, consumed := 2 ^ 20 - 100, streamWords := [BitVec.ofNat 64 (t + 20 * 256 + 5 * 2 ^ 16), 0x1000000, 0x2000, 0x010203040506, 7] })
def rw (m len off : Nat) (v : W64) : RegWrite := ⟨m, false, off, len, v⟩

/-- States and operands that meet the hypotheses of `Obligations.Observation`, one part for each of its 32 cases that have hypotheses. -/
theorem witness_Observation :
    (∃ s : State, s.dev.obs.arriving = []) ∧
    (∃ r : TraceRec, ∃ rest : List TraceRec, ∃ s : State, s.dev.obs.arriving = r :: rest ∧ (let d := s.dev; let o := d.obs; o.mode = 0)) ∧
    (∃ r : TraceRec, ∃ rest : List TraceRec, ∃ s : State, s.dev.obs.arriving = r :: rest ∧ (let d := s.dev; let o := d.obs; let n := 8 * r.words.length; let held := fun (l : List TraceRec) => (l.map (fun x => 8 * x.words.length)).sum; o.mode ≠ 0 ∧ held o.ring + n ≤ 2 ^ 26)) ∧
    (∃ r : TraceRec, ∃ rest : List TraceRec, ∃ s : State, s.dev.obs.arriving = r :: rest ∧ (let d := s.dev; let o := d.obs; let n := 8 * r.words.length; let held := fun (l : List TraceRec) => (l.map (fun x => 8 * x.words.length)).sum; o.mode = 1 ∧ 2 ^ 26 < held o.ring + n ∧ n ≤ 2 ^ 26)) ∧
    (∃ r : TraceRec, ∃ rest : List TraceRec, ∃ s : State, s.dev.obs.arriving = r :: rest ∧ (let d := s.dev; let o := d.obs; let n := 8 * r.words.length; let held := fun (l : List TraceRec) => (l.map (fun x => 8 * x.words.length)).sum; o.mode = 2 ∧ 2 ^ 26 < held (o.ring.drop o.streamed) + n)) ∧
    (∃ source : Nat, ∃ d : Dev, (d.obs.mode = 0 ∨ d.obs.sources.getLsbD source = false)) ∧
    (∃ source : Nat, ∃ d : Dev, d.obs.mode ≠ 0 ∧ d.obs.sources.getLsbD source = true) ∧
    (∃ p : Pkt, ∃ d : Dev, (let o := d.obs; let skips := o.sampleN = 0 ∨ o.mode = 0 ∨ p.tag.exempt = true ∨ (o.sliceFilter = true ∧ p.tag.slice.toNat ≠ o.slice); skips)) ∧
    (∃ t : Nat, ∃ p : Pkt, ∃ d : Dev, (let o := d.obs; let skips := o.sampleN = 0 ∨ o.mode = 0 ∨ p.tag.exempt = true ∨ (o.sliceFilter = true ∧ p.tag.slice.toNat ≠ o.slice); let c := SMap.get 0 o.counted t + 1; ¬ skips ∧ c < o.sampleN)) ∧
    (∃ t : Nat, ∃ p : Pkt, ∃ d : Dev, (let o := d.obs; let skips := o.sampleN = 0 ∨ o.mode = 0 ∨ p.tag.exempt = true ∨ (o.sliceFilter = true ∧ p.tag.slice.toNat ≠ o.slice); let c := SMap.get 0 o.counted t + 1; ¬ skips ∧ o.sampleN ≤ c ∧ t < 8 ∧ t ≠ 2 ∧ SMap.get 0 o.lastId t < 4096)) ∧
    (∃ t : Nat, ∃ p : Pkt, ∃ d : Dev, (let o := d.obs; let skips := o.sampleN = 0 ∨ o.mode = 0 ∨ p.tag.exempt = true ∨ (o.sliceFilter = true ∧ p.tag.slice.toNat ≠ o.slice); let c := SMap.get 0 o.counted t + 1; ¬ skips ∧ o.sampleN ≤ c ∧ t < 8 ∧ t ≠ 2 ∧ SMap.get 0 o.lastId t < 4096 ∧ SMap.get 0 o.lastId t < 4095)) ∧
    (∃ ch : Nat, ∃ r : Req, ∃ s : State, ∃ d : Dev, cmdWf ch r = true ∧ Accepted spec0A00 ch r s.dev d ∧ (let a := r.word 0; fld a 1 0 = 3)) ∧
    (∃ ch : Nat, ∃ r : Req, ∃ s : State, ∃ d : Dev, cmdWf ch r = true ∧ Accepted spec0A00 ch r s.dev d ∧ (let a := r.word 0; fld a 1 0 ≠ 3)) ∧
    (∃ ch : Nat, ∃ r : Req, ∃ s : State, ∃ d : Dev, cmdWf ch r = true ∧ Accepted spec0A01 ch r s.dev d ∧ (let a := r.word 0; let sl := fld a 11 0; (d.slice sl).state = .free)) ∧
    (∃ ch : Nat, ∃ r : Req, ∃ s : State, ∃ d : Dev, cmdWf ch r = true ∧ Accepted spec0A01 ch r s.dev d ∧ (let a := r.word 0; let sl := fld a 11 0; (d.slice sl).state ≠ .free)) ∧
    (∃ ch : Nat, ∃ r : Req, ∃ s : State, ∃ d : Dev, cmdWf ch r = true ∧ Accepted spec0A02 ch r s.dev d ∧ (let a := r.word 0; let b := r.word 1; let log := fld a 12 8; let sound := fld a 1 0 ≤ 2 ∧ (fld a 1 0 = 1 → 20 ≤ log ∧ log ≤ 30 ∧ b.toNat % 2 ^ log = 0 ∧ (r.word 2).toNat % 8 = 0); ¬ sound)) ∧
    (∃ ch : Nat, ∃ r : Req, ∃ s : State, ∃ d : Dev, cmdWf ch r = true ∧ Accepted spec0A02 ch r s.dev d ∧ (let a := r.word 0; let b := r.word 1; let log := fld a 12 8; let sound := fld a 1 0 ≤ 2 ∧ (fld a 1 0 = 1 → 20 ≤ log ∧ log ≤ 30 ∧ b.toNat % 2 ^ log = 0 ∧ (r.word 2).toNat % 8 = 0); sound)) ∧
    (∃ ch : Nat, ∃ r : Req, ∃ s : State, ∃ d : Dev, cmdWf ch r = true ∧ Accepted spec0A03 ch r s.dev d ∧ (let b := r.word 1; fld b 2 0 ≠ 0)) ∧
    (∃ ch : Nat, ∃ r : Req, ∃ s : State, ∃ d : Dev, cmdWf ch r = true ∧ Accepted spec0A03 ch r s.dev d ∧ (let a := r.word 0; let at_ := if fld a 25 0 = 0x3FFFFFF then d.obs.tail else fld a 25 0; let held := fun (l : List TraceRec) => (l.map (fun x => 8 * x.words.length)).sum; ((∀ k, k ≤ d.obs.ring.length → (d.obs.tail + held (d.obs.ring.take k)) % 2 ^ 26 ≠ at_)) ∧ d.obs.tail < 2 ^ 26)) ∧
    (∃ ch : Nat, ∃ r : Req, ∃ s : State, ∃ d : Dev, ∃ k, cmdWf ch r = true ∧ Accepted spec0A03 ch r s.dev d ∧ (let a := r.word 0; let b := r.word 1; let at_ := if fld a 25 0 = 0x3FFFFFF then d.obs.tail else fld a 25 0; let held := fun (l : List TraceRec) => (l.map (fun x => 8 * x.words.length)).sum; fld b 2 0 = 0 ∧ d.obs.tail < 2 ^ 26 ∧ k ≤ d.obs.ring.length ∧ (d.obs.tail + held (d.obs.ring.take k)) % 2 ^ 26 = at_ ∧ ((∀ j, j < k → (d.obs.tail + held (d.obs.ring.take j)) % 2 ^ 26 ≠ at_)))) ∧
    (∃ ch : Nat, ∃ r : Req, ∃ s : State, ∃ d : Dev, cmdWf ch r = true ∧ Accepted spec0A04 ch r s.dev d ∧ (let a := r.word 0; bit a 0 = d.obs.tapEnable)) ∧
    (∃ ch : Nat, ∃ r : Req, ∃ s : State, ∃ d : Dev, cmdWf ch r = true ∧ Accepted spec0A04 ch r s.dev d ∧ (let a := r.word 0; bit a 0 ≠ d.obs.tapEnable)) ∧
    (∃ bad : Option Nat, ∃ s : State, ((∀ c, bad = some c → c < 8)) ∧ (let d := s.dev; let o := d.obs; (d.mgt.fwUp = false ∨ (o.streamTarget ≠ 1 ∧ o.streamTarget ≠ 2)))) ∧
    (∃ bad : Option Nat, ∃ s : State, ((∀ c, bad = some c → c < 8)) ∧ (let d := s.dev; let o := d.obs; d.mgt.fwUp = true ∧ o.streamTarget = 1 ∧ ((∀ r ∈ o.ring, r.words ≠ [])))) ∧
    (∃ bad : Option Nat, ∃ s : State, ((∀ c, bad = some c → c < 8)) ∧ (let d := s.dev; let o := d.obs; d.mgt.fwUp = true ∧ o.streamTarget = 2)) ∧
    (∃ w : RegWrite, Wf.obsStreamConsumedWrite w = true ∧ names w isl.OBS 0x010 = false) ∧
    (∃ w : RegWrite, Wf.obsStreamConsumedWrite w = true ∧ names w isl.OBS 0x010 = true) ∧
    (∃ w : RegWrite, Wf.obsStreamConsumedWrite w = true ∧ w.master = 1 ∧ w.len = 8 ∧ w.off = isl.OBS * 2048 + 0x010) ∧
    (∃ n : Nat, n ≤ 4096) ∧
    (∃ p, ∃ k, p < 64 ∧ k < 8) ∧
    (∃ a, 0x50000 ≤ a) ∧
    (∃ code : BitVec 6, code ≠ 1 ∧ code ≠ 2) := by
  refine ⟨?_, ?_, ?_, ?_, ?_, ?_, ?_, ?_, ?_, ?_, ?_, ?_, ?_, ?_, ?_, ?_, ?_, ?_, ?_, ?_, ?_, ?_, ?_, ?_, ?_, ?_, ?_, ?_, ?_, ?_, ?_, ?_⟩
  · let s : State := O id
    exact ⟨s, by decide +kernel⟩
  · let r : TraceRec := tr 4 9
    let rest : List TraceRec := [tr 2 2]
    let s : State := O (fun o => { o with arriving := [tr 4 9, tr 2 2] })
    let d := s.dev
    let o := d.obs
    exact ⟨r, rest, s, by decide +kernel⟩
  · let r : TraceRec := tr 4 9
    let rest : List TraceRec := [tr 2 2]
    let s : State := O (fun o => { o with arriving := [tr 4 9, tr 2 2], mode := 2, ring := ring4 })
    let d := s.dev
    let o := d.obs
    exact ⟨r, rest, s, by decide +kernel⟩
  · let r : TraceRec := tr 4 9
    let rest : List TraceRec := [tr 2 2]
    let s : State := O (fun o => { o with arriving := [tr 4 9, tr 2 2], mode := 1, ring := bigr 64, streamed := 1 })
    let d := s.dev
    let o := d.obs
    refine ⟨r, rest, s, ?_⟩
    exact ⟨rfl, rfl, Nat.lt_of_le_of_lt (Nat.le_of_eq (bigr_held 64).symm) (Nat.lt_add_of_pos_right (by decide)), by decide +kernel⟩
  · let r : TraceRec := tr 4 9
    let rest : List TraceRec := [tr 2 2]
    let s : State := O (fun o => { o with arriving := [tr 4 9, tr 2 2], mode := 2, ring := bigr 64, streamed := 0, lostSince := 3 })
    let d := s.dev
    let o := d.obs
    refine ⟨r, rest, s, ?_⟩
    exact ⟨rfl, rfl, Nat.lt_of_le_of_lt (Nat.le_of_eq (bigr_held 64).symm) (Nat.lt_add_of_pos_right (by decide))⟩
  · let kind : Nat := 3
    let source : Nat := 2
    let ws : List W64 := [1,2]
    let d : Dev := ob (fun o => { o with mode := 1, sources := 3 }) base
    exact ⟨source, d, by decide +kernel⟩
  · let kind : Nat := 3
    let source : Nat := 1
    let ws : List W64 := [1,2]
    let d : Dev := ob (fun o => { o with mode := 1, sources := 3 }) base
    exact ⟨source, d, by decide +kernel⟩
  · let t : Nat := 4
    let p : Pkt := pk
    let d : Dev := ob (fun o => { o with sampleN := 3, mode := 1, sliceFilter := true, slice := 4 }) base
    let o := d.obs
    exact ⟨p, d, by decide +kernel⟩
  · let t : Nat := 4
    let p : Pkt := pk
    let d : Dev := ob (fun o => { o with sampleN := 3, mode := 1, sliceFilter := true, slice := 3, counted := [(4, 1)] }) base
    let o := d.obs
    exact ⟨t, p, d, by decide +kernel⟩
  · let t : Nat := 4
    let p : Pkt := pk
    let d : Dev := ob (fun o => { o with sampleN := 3, mode := 1, sources := 31, headerCapture := [3], counted := [(4, 2)], lastId := [(4, 4095)] }) base
    let o := d.obs
    exact ⟨t, p, d, by decide +kernel⟩
  · let t : Nat := 4
    let p : Pkt := pk
    let d : Dev := ob (fun o => { o with sampleN := 3, mode := 1, sources := 31, headerCapture := [3], counted := [(4, 2)], lastId := [(4, 4094)] }) base
    let o := d.obs
    exact ⟨t, p, d, by decide +kernel⟩
  · let ch : Nat := 4096
    let r : Req := rq [3 + (31 <<< 8), 5]
    let s : State := O id
    let d : Dev := tk spec0A00 r s.dev
    exact ⟨ch, r, s, d, by decide +kernel, ⟨(by decide +kernel), (by decide +kernel), rfl, (by decide +kernel)⟩, by decide +kernel⟩
  · let ch : Nat := 4096
    let r : Req := rq [2 + (31 <<< 8), 0xFFFFFF + (3 <<< 32) + (1 <<< 44)]
    let s : State := O id
    let d : Dev := tk spec0A00 r s.dev
    exact ⟨ch, r, s, d, by decide +kernel, ⟨(by decide +kernel), (by decide +kernel), rfl, (by decide +kernel)⟩, by decide +kernel⟩
  · let ch : Nat := 4096
    let r : Req := rq [4]
    let s : State := O id
    let d : Dev := tk spec0A01 r s.dev
    exact ⟨ch, r, s, d, by decide +kernel, ⟨(by decide +kernel), (by decide +kernel), rfl, (by decide +kernel)⟩, by decide +kernel⟩
  · let ch : Nat := 4096
    let r : Req := rq [3 + (1 <<< 12)]
    let s : State := O (fun o => { o with headerCapture := [9, 3] })
    let d : Dev := tk spec0A01 r s.dev
    exact ⟨ch, r, s, d, by decide +kernel, ⟨(by decide +kernel), (by decide +kernel), rfl, (by decide +kernel)⟩, by decide +kernel⟩
  · let ch : Nat := 4096
    let r : Req := rq [1 + (20 <<< 8), 0x80000, 8]
    let s : State := O (fun o => { o with headerCapture := [9, 3] })
    let d : Dev := tk spec0A02 r s.dev
    exact ⟨ch, r, s, d, by decide +kernel, ⟨(by decide +kernel), (by decide +kernel), rfl, (by decide +kernel)⟩, by decide +kernel⟩
  · let ch : Nat := 4096
    let r : Req := rq [1 + (20 <<< 8), 0x100000, 8, 5, 6]
    let s : State := O (fun o => { o with headerCapture := [9, 3] })
    let d : Dev := tk spec0A02 r s.dev
    exact ⟨ch, r, s, d, by decide +kernel, ⟨(by decide +kernel), (by decide +kernel), rfl, (by decide +kernel)⟩, by decide +kernel⟩
  · let ch : Nat := 4096
    let r : Req := rqi [64, 0x3001, 100]
    let s : State := strm 0 id
    let d : Dev := tk spec0A03 r s.dev
    exact ⟨ch, r, s, d, by decide +kernel, ⟨(by decide +kernel), (by decide +kernel), rfl, (by decide +kernel)⟩, by decide +kernel⟩
  · let ch : Nat := 4096
    let r : Req := rqi [72, 0x3000, 100]
    let s : State := strm 0 id
    let d : Dev := tk spec0A03 r s.dev
    refine ⟨ch, r, s, d, ?_⟩
    exact ⟨by decide +kernel, ⟨by decide +kernel, by decide +kernel, rfl, by decide +kernel⟩, by decide +kernel⟩
  · let ch : Nat := 4096
    let r : Req := rqi [96, 0x3000, 100]
    let s : State := strm 0 id
    let d : Dev := tk spec0A03 r s.dev
    refine ⟨ch, r, s, d, (1), ?_⟩
    exact ⟨by decide +kernel, ⟨by decide +kernel, by decide +kernel, rfl, by decide +kernel⟩, by decide +kernel⟩
  · let ch : Nat := 4096
    let r : Req := rq [1]
    let s : State := O (fun o => { o with tapEnable := true })
    let d : Dev := tk spec0A04 r s.dev
    exact ⟨ch, r, s, d, by decide +kernel, ⟨(by decide +kernel), (by decide +kernel), rfl, (by decide +kernel)⟩, by decide +kernel⟩
  · let ch : Nat := 4096
    let r : Req := rq [0]
    let s : State := O (fun o => { o with tapEnable := true })
    let d : Dev := tk spec0A04 r s.dev
    exact ⟨ch, r, s, d, by decide +kernel, ⟨(by decide +kernel), (by decide +kernel), rfl, (by decide +kernel)⟩, by decide +kernel⟩
  · let n : Nat := 5
    let bad : Option Nat := none
    let s : State := strm 0 id
    exact ⟨bad, s, by decide +kernel⟩
  · let n : Nat := 5
    let bad : Option Nat := none
    let s : State := strm 1 id
    exact ⟨bad, s, by decide +kernel⟩
  · let n : Nat := 5
    let bad : Option Nat := none
    let s : State := strm 2 id
    exact ⟨bad, s, by decide +kernel⟩
  · let w : RegWrite := rw 1 8 0x48 5
    let s : State := O id
    exact ⟨w, by decide +kernel⟩
  · let w : RegWrite := rw 2 4 (isl.OBS * 2048 + 0x010) 5
    let s : State := O id
    exact ⟨w, by decide +kernel⟩
  · let w : RegWrite := rw 1 8 (isl.OBS * 2048 + 0x010) 0xFFFFF0000000005
    let s : State := O id
    exact ⟨w, by decide +kernel⟩
  · let op : Byte := 0x0B
    let addr : BitVec 32 := 0x3FFFFFFE
    let n : Nat := 40
    let s : State := strm 0 (fun o => { o with tapEnable := true, tail := 0 })
    exact ⟨n, by decide +kernel⟩
  · let d : Dev := countBy .macRxFcs 5 300 base
    exact ⟨(5), (1), by decide +kernel⟩
  · let d : Dev := countBy .macRxFcs 5 300 base
    exact ⟨(0x50000), by decide +kernel⟩
  · let s : State := O id
    let code : BitVec 6 := 63
    exact ⟨code, by decide +kernel⟩

end ObservationW

namespace PowerAndTemperatureW

def B (f : Boot → Boot) (d : Dev) : Dev := { d with boot := f d.boot }
def jn (f : Jnl → Jnl) (d : Dev) : Dev := { d with jnl := f d.jnl }
def jr (t n : Nat) (b : JBody) : JRec := { typ := t, seq := n, time := 5, subject := 7, lines := 2, written := 1, body := b, then' := .nothing }
def big : Dev := { up with now := 5000000, tru := { up.tru with owned := true, active := 3, sessions := [1], slots := [(0, ⟨1, [9], []⟩)], enrolCounter := 4 }, cry := { up.cry with keks := [3], keys := [(13, some ⟨[1],[2],32,5⟩)] }, jnl := { up.jnl with records := [jr 6 4 .powerFail, jr 9 5 .powerFail], compacting := some 1, lastDurable := 5, highSeq := 5 } }
def fl : Dev := jn (fun j => { j with compacting := none }) big

/-- States and operands that meet the hypotheses of `Obligations.PowerAndTemperature`, one part for each of its 16 cases that have hypotheses. -/
theorem witness_PowerAndTemperature :
    (∃ s : State, (let b := s.dev.boot; let held := b.porHeld = true ∨ b.powerFail = true ∨ b.tripped = true; held)) ∧
    (∃ s : State, (let b := s.dev.boot; let held := b.porHeld = true ∨ b.powerFail = true ∨ b.tripped = true; ¬ held)) ∧
    (∃ s : State, (let b := s.dev.boot; let held := b.porHeld = true ∨ b.powerFail = true ∨ b.tripped = true; ¬ held ∧ s.dev.jnl.ready = true ∧ s.dev.jnl.compacting = none ∧ s.dev.jnl.inflight = [] ∧ 0 < Jnl.free s.dev.jnl)) ∧
    (∃ s : State, (let b := s.dev.boot; let held := b.porHeld = true ∨ b.powerFail = true ∨ b.tripped = true; ¬ held ∧ s.dev.jnl.ready = false ∧ s.dev.jnl.compacting = none ∧ s.dev.jnl.inflight = [])) ∧
    (∃ s : State, s.dev.boot.powerFail = false) ∧
    (∃ s : State, s.dev.boot.powerFail = true) ∧
    (∃ mv : Nat, ∃ s : State, 650 ≤ mv ∧ mv ≤ 750 ∧ (let b := s.dev.boot; let may := b.porHeld = false ∧ mv ≤ b.coreMv + 10 ∧ b.coreMv ≤ mv + 10 ∧ ∀ t, b.avsAt = some t → 100000 ≤ Time.since s.dev.now t; may)) ∧
    (∃ mv : Nat, ∃ s : State, 650 ≤ mv ∧ mv ≤ 750 ∧ (let b := s.dev.boot; let may := b.porHeld = false ∧ mv ≤ b.coreMv + 10 ∧ b.coreMv ≤ mv + 10 ∧ ∀ t, b.avsAt = some t → 100000 ≤ Time.since s.dev.now t; ¬ may)) ∧
    (∃ t : Nat, ∃ s : State, (let b := s.dev.boot; let falls := b.porHeld = false ∧ 100 ≤ t ∧ b.alert = false; falls)) ∧
    (∃ t : Nat, ∃ s : State, (let b := s.dev.boot; let rises := b.porHeld = false ∧ t ≤ 95 ∧ b.alert = true; rises)) ∧
    (∃ t : Nat, ∃ s : State, (let b := s.dev.boot; let falls := b.porHeld = false ∧ 100 ≤ t ∧ b.alert = false; let rises := b.porHeld = false ∧ t ≤ 95 ∧ b.alert = true; ¬ falls ∧ ¬ rises)) ∧
    (∃ s : State, (s.dev.boot.porHeld = true ∨ s.dev.boot.tripped = true)) ∧
    (∃ s : State, s.dev.boot.porHeld = false ∧ s.dev.boot.tripped = false) ∧
    (∃ d : Dev, (d.boot.tripped = true ∨ d.boot.powerFail = true ∨ d.boot.porHeld = true)) ∧
    (∃ s : State, s.dev.boot.porHeld = true) ∧
    (∃ s : State, s.dev.boot.porHeld = false) := by
  refine ⟨?_, ?_, ?_, ?_, ?_, ?_, ?_, ?_, ?_, ?_, ?_, ?_, ?_, ?_, ?_, ?_⟩
  · let torn : Bool := true
    let s : State := st (B (fun b => { b with tripped := true }) big)
    let b := s.dev.boot
    exact ⟨s, by decide +kernel⟩
  · let torn : Bool := true
    let s : State := st big
    exact ⟨s, by decide +kernel⟩
  · let torn : Bool := false
    let s : State := st fl
    exact ⟨s, by decide +kernel⟩
  · let torn : Bool := false
    let s : State := st (jn (fun j => { j with ready := false }) fl)
    exact ⟨s, by decide +kernel⟩
  · let s : State := st big
    exact ⟨s, by decide +kernel⟩
  · let s : State := st (B (fun b => { b with powerFail := true }) big)
    exact ⟨s, by decide +kernel⟩
  · let mv : Nat := 710
    let s : State := st (B (fun b => { b with avsAt := some 4900000 }) big)
    let b := s.dev.boot
    refine ⟨mv, s, ?_⟩
    exact ⟨by decide, by decide, by decide +kernel, by decide +kernel, by decide +kernel, (fun t h => by cases h; decide +kernel)⟩
  · let mv : Nat := 711
    let s : State := st (B (fun b => { b with avsAt := none }) big)
    let b := s.dev.boot
    refine ⟨mv, s, ?_⟩
    refine ⟨by decide, by decide, (fun ⟨_, h, _⟩ => absurd h (by decide +kernel))⟩
  · let t : Nat := 100
    let s : State := st big
    exact ⟨t, s, by decide +kernel⟩
  · let t : Nat := 95
    let s : State := st (B (fun b => { b with alert := true }) big)
    let b := s.dev.boot
    exact ⟨t, s, by decide +kernel⟩
  · let t : Nat := 96
    let s : State := st (B (fun b => { b with alert := true }) big)
    let b := s.dev.boot
    exact ⟨t, s, by decide +kernel⟩
  · let s : State := st (B (fun b => { b with porHeld := true }) big)
    exact ⟨s, by decide +kernel⟩
  · let s : State := st (B (fun b => { b with powerFail := true, alert := true }) big)
    exact ⟨s, by decide +kernel⟩
  · let d : Dev := B (fun b => { b with powerFail := true, started := none }) big
    exact ⟨d, by decide +kernel⟩
  · let s : State := st (B (fun b => { b with porHeld := true }) big)
    exact ⟨s, by decide +kernel⟩
  · let s : State := st big
    exact ⟨s, by decide +kernel⟩

end PowerAndTemperatureW

end Sys2Proof.Tests
end

section
/-! Numbers as bytes (R8, R9): what the byte strings of the model spell when they are read back. -/
namespace Sys2Proof

theorem beNat_concat (l : List Byte) (b : Byte) : beNat (l ++ [b]) = beNat l * 256 + b.toNat := by
  simp [beNat, List.foldl_append]

theorem beNat_reverse (l : List Byte) : beNat l.reverse = leNat l := by
  induction l with
  | nil => rfl
  | cons b t ih => rw [List.reverse_cons, beNat_concat, ih, leNat, Nat.mul_comm, Nat.add_comm]

theorem leNat_append (l m : List Byte) : leNat (l ++ m) = leNat l + 256 ^ l.length * leNat m := by
  induction l with
  | nil => rw [List.nil_append, leNat, List.length_nil, Nat.pow_zero, Nat.one_mul, Nat.zero_add]
  | cons b t ih =>
    rw [List.cons_append, leNat, leNat, ih, List.length_cons, Nat.pow_succ', Nat.mul_add, Nat.mul_assoc, Nat.add_assoc]

/-- The first bytes are the higher ones (R9). -/
theorem beNat_append (l m : List Byte) : beNat (l ++ m) = beNat l * 256 ^ m.length + beNat m := by
  have h := leNat_append m.reverse l.reverse
  rw [← List.reverse_append, ← beNat_reverse, ← beNat_reverse, ← beNat_reverse] at h
  simp only [List.reverse_reverse, List.length_reverse] at h
  rw [h, Nat.mul_comm, Nat.add_comm]

@[simp] theorem length_leBytes (x n : Nat) : (leBytes x n).length = n := by
  induction n generalizing x with
  | zero => rfl
  | succ n ih => simp [leBytes, ih]

@[simp] theorem length_beBytes (x n : Nat) : (beBytes x n).length = n := by
  simp [beBytes]

theorem leNat_leBytes (x n : Nat) : leNat (leBytes x n) = x % 256 ^ n := by
  induction n generalizing x with
  | zero => simp [leBytes, leNat, Nat.mod_one]
  | succ n ih =>
    have hsplit : x % 256 ^ (n + 1) = x % 256 + 256 * (x / 256 % 256 ^ n) := by rw [Nat.pow_succ', Nat.mod_mul]
    rw [leBytes, leNat, ih, BitVec.toNat_ofNat, hsplit]

/-- Bytes written most significant first spell the number's low `8 * n` bits (R9). -/
theorem beNat_beBytes (x n : Nat) : beNat (beBytes x n) = x % 256 ^ n := by
  rw [beBytes, beNat_reverse, leNat_leBytes]

/-- A number's bytes with their CRC-16 behind them, the way TAG_CRC and HDR_CRC close a header (R22). -/
def crcClosed (x n : Nat) : List Byte := beBytes x n ++ beBytes (crc16 (beBytes x n)).toNat 2

@[simp] theorem length_crcClosed (x n : Nat) : (crcClosed x n).length = n + 2 := by
  simp [crcClosed]

/-- The two last bytes are the CRC of those before them. -/
theorem beNat_crc16_bytes (bs : List Byte) : beNat (beBytes (crc16 bs).toNat 2) = (crc16 bs).toNat := by
  have h := (crc16 bs).isLt
  rw [beNat_beBytes, Nat.mod_eq_of_lt (by omega)]

/-- The header as one number: what was written above the CRC's 16 bits. -/
theorem beNat_crcClosed {x n : Nat} (h : x < 256 ^ n) :
    beNat (crcClosed x n) = x * 2 ^ 16 + (crc16 (beBytes x n)).toNat := by
  rw [crcClosed, beNat_append, beNat_crc16_bytes, beNat_beBytes, Nat.mod_eq_of_lt h, length_beBytes, show 256 ^ 2 = 2 ^ 16 from rfl]

/-- The bytes above the CRC are those that it was taken of. -/
theorem take_crcClosed (x n : Nat) : (crcClosed x n).take n = beBytes x n := by
  rw [crcClosed, List.take_left' (length_beBytes x n)]

theorem drop_crcClosed (x n : Nat) : (crcClosed x n).drop n = beBytes (crc16 (beBytes x n)).toNat 2 := by
  rw [crcClosed, List.drop_left' (length_beBytes x n)]

/-! ### The Wick tag (Table 1-5) -/

theorem Tag.bytes_eq (t : Tag) : t.bytes = crcClosed (t.body / 2 ^ 16) 30 := rfl

/-- Table 1-5: each field stands alone at its bits, with whatever TAG_CRC `c` below. -/
theorem Tag.nfld_body (t : Tag) {c : Nat} (hc : c < 2 ^ 16) :
    nfld (t.body + c) 255 236 = t.originNode.toNat ∧ nfld (t.body + c) 235 224 = t.slice.toNat ∧ nfld (t.body + c) 223 221 = t.vslot.toNat ∧
    nfld (t.body + c) 220 216 = t.vcheck.toNat ∧ nfld (t.body + c) 215 168 = t.entryTime.toNat ∧ nfld (t.body + c) 167 160 = t.ingress.toNat ∧
    nfld (t.body + c) 159 142 = t.queue.toNat ∧ nfld (t.body + c) 141 140 = t.colour.toNat ∧ nfld (t.body + c) 139 138 = t.pass.toNat ∧
    nfld (t.body + c) 137 129 = t.windowOffset.toNat ∧ nfld (t.body + c) 128 113 = t.flags.toNat ∧ nfld (t.body + c) 112 107 = t.meterClass.toNat ∧
    nfld (t.body + c) 106 75 = t.flowHash.toNat ∧ nfld (t.body + c) 74 59 = t.length.toNat ∧ nfld (t.body + c) 58 43 = t.traceId.toNat := by
  unfold nfld Tag.body
  refine ⟨?_, ?_, ?_, ?_, ?_, ?_, ?_, ?_, ?_, ?_, ?_, ?_, ?_, ?_, ?_⟩ <;> omega

/-- The reserved bits between TRACE_ID and TAG_CRC are 0 (Table 1-5). -/
theorem Tag.nfld_body_reserved (t : Tag) {c : Nat} (hc : c < 2 ^ 16) : nfld (t.body + c) 42 16 = 0 := by
  unfold nfld Tag.body
  omega

/-- The 32 bytes as one number: the fields' bits, and TAG_CRC in the low 16. -/
theorem Tag.beNat_bytes (t : Tag) : beNat t.bytes = t.body + (crc16 (beBytes (t.body / 2 ^ 16) 30)).toNat := by
  have hlow : t.body / 2 ^ 16 * 2 ^ 16 = t.body := by unfold Tag.body; omega
  have htop : t.body / 2 ^ 16 < 256 ^ 30 := by unfold Tag.body; omega
  rw [t.bytes_eq, beNat_crcClosed htop, hlow]

/-- A tag is read from its bytes as it was written (R9, Table 1-5). -/
theorem Tag.ofBytes_bytes (t : Tag) : Tag.ofBytes t.bytes = t := by
  have h := t.nfld_body (crc16 (beBytes (t.body / 2 ^ 16) 30)).isLt
  simp only [Tag.ofBytes, t.beNat_bytes, h, BitVec.ofNat_toNat, BitVec.setWidth_eq]

@[simp] theorem Tag.length_bytes (t : Tag) : t.bytes.length = 32 := by
  rw [t.bytes_eq, length_crcClosed]

/-- TAG_CRC and the reserved bits of a written tag are good, so R35 asks of it what it asks of the fields. -/
theorem tagBytesOk_bytes (t : Tag) (n : Nat) : tagBytesOk t.bytes n = t.fieldsOk n := by
  have hcrc : beNat (t.bytes.drop 30) = (crc16 (t.bytes.take 30)).toNat := by
    rw [t.bytes_eq, drop_crcClosed, take_crcClosed, beNat_crc16_bytes]
  have hres : nfld (beNat t.bytes) 42 16 = 0 := by
    rw [t.beNat_bytes, t.nfld_body_reserved (BitVec.isLt _)]
  simp [tagBytesOk, hcrc, hres, t.ofBytes_bytes]

/-! ### Lantern frames (R414, R415) -/

/-- The header's bits above HDR_CRC (Table 12-3). -/
def LFrame.hdrBody (f : LFrame) : Nat := lo 20 f.dest * 2 ^ 44 + lo 4 f.kind * 2 ^ 40 + lo 13 f.hops * 2 ^ 27

theorem lanternHdr_eq (f : LFrame) : lanternHdr f = crcClosed (f.hdrBody / 2 ^ 16) 6 := rfl

@[simp] theorem length_lanternHdr (f : LFrame) : (lanternHdr f).length = 8 := by
  rw [lanternHdr_eq, length_crcClosed]

/-- The parts of a frame's bytes: 8 of header, 6 of them under HDR_CRC, 32 of tag, the body. -/
theorem LFrame.bytes_parts (f : LFrame) :
    40 ≤ f.bytes.length ∧ f.bytes.take 8 = lanternHdr f ∧ f.bytes.take 6 = (lanternHdr f).take 6 ∧ (f.bytes.drop 8).take 32 = f.tag.bytes ∧
    f.bytes.drop 40 = f.body := by
  have h : f.bytes = lanternHdr f ++ (f.tag.bytes ++ f.body) := List.append_assoc ..
  have h40 : (lanternHdr f ++ f.tag.bytes).length = 40 := by simp
  refine ⟨?_, ?_, ?_, ?_, ?_⟩
  · rw [LFrame.bytes, List.length_append, h40]; omega
  · rw [h, List.take_left' (length_lanternHdr f)]
  · rw [h, List.take_append_of_le_length (by simp)]
  · rw [h, List.drop_left' (length_lanternHdr f), List.take_left' f.tag.length_bytes]
  · rw [LFrame.bytes, List.drop_left' h40]

/-- The header as one number: its fields' bits, and HDR_CRC in the low 16. -/
theorem beNat_lanternHdr (f : LFrame) : beNat (lanternHdr f) = f.hdrBody + (crc16 ((lanternHdr f).take 6)).toNat := by
  have hlow : f.hdrBody / 2 ^ 16 * 2 ^ 16 = f.hdrBody := by unfold LFrame.hdrBody; omega
  have htop : f.hdrBody / 2 ^ 16 < 256 ^ 6 := by unfold LFrame.hdrBody lo; omega
  rw [lanternHdr_eq, beNat_crcClosed htop, take_crcClosed, hlow]

/-- The header's fields fit their bits (Table 12-3), and KIND is one that R415 knows. -/
def LFrame.fits (f : LFrame) : Prop := f.dest < 2 ^ 20 ∧ f.kind ≤ 5 ∧ f.hops < 2 ^ 13

/-- Table 12-3: each field of the header stands alone at its bits, HDR_CRC in the lowest. -/
theorem LFrame.nfld_hdr {f : LFrame} (hf : f.fits) :
    nfld (beNat (lanternHdr f)) 63 44 = f.dest ∧ nfld (beNat (lanternHdr f)) 43 40 = f.kind ∧ nfld (beNat (lanternHdr f)) 39 27 = f.hops ∧
    nfld (beNat (lanternHdr f)) 15 0 = (crc16 ((lanternHdr f).take 6)).toNat := by
  obtain ⟨hd, hk, hh⟩ := hf
  have hc := (crc16 ((lanternHdr f).take 6)).isLt
  rw [beNat_lanternHdr]
  unfold nfld LFrame.hdrBody lo
  refine ⟨?_, ?_, ?_, ?_⟩ <;> omega

/-- A written frame that comes in on the VC of its KIND is parsed as it was written, without its bundle of arrival; on the other VC it is refused
(R415). -/
theorem lanternParse_bytes {f : LFrame} (hf : f.fits) (vc1 : Bool) :
    lanternParse vc1 f.bytes = if vc1 = decide (f.kind < 2) then some { f with from' := none } else none := by
  obtain ⟨hlen, hhdr, hsix, htag, hbody⟩ := f.bytes_parts
  obtain ⟨hdest, hkind, hhops, hcrc⟩ := LFrame.nfld_hdr hf
  obtain ⟨_, hkle, _⟩ := hf
  have hk : ¬ 5 < f.kind := Nat.not_lt.mpr hkle
  have hl : ¬ f.bytes.length < 40 := Nat.not_lt.mpr hlen
  by_cases hvc : vc1 = decide (f.kind < 2) <;>
    simp [lanternParse, hhdr, hsix, htag, hbody, hdest, hkind, hhops, hcrc, hk, hl, hvc, Tag.ofBytes_bytes]

/-- Frames with the same bytes are the same but for the bundle that they came in on: the parser tells them apart by nothing else. -/
theorem LFrame.eq_of_bytes_eq {f g : LFrame} (hf : f.fits) (hg : g.fits) (h : f.bytes = g.bytes) :
    { f with from' := none } = { g with from' := none } := by
  have hfg : lanternParse (decide (f.kind < 2)) g.bytes = some { f with from' := none } := by
    rw [← h, lanternParse_bytes hf, if_pos rfl]
  rw [lanternParse_bytes hg] at hfg
  split at hfg
  · exact (Option.some.inj hfg).symm
  · cases hfg

/-- Settles O4: a tag and a frame are read from the number that their bytes spell, and two frames of one spelling parse alike. -/
theorem tagsAndFramesReadBack : Obligations.TagsAndFramesReadBack := by
  refine ⟨fun t n => ⟨t.ofBytes_bytes, t.length_bytes, by rw [tagBytesOk_bytes]⟩, fun f vc1 hd hk hh => ?_, ?_⟩
  · rw [lanternParse_bytes ⟨hd, hk, hh⟩]
    exact ⟨fun h => if_pos h, fun h => if_neg h⟩
  · intro f g hfd hfk hfh hgd hgk hgh h
    exact LFrame.eq_of_bytes_eq ⟨hfd, hfk, hfh⟩ ⟨hgd, hgk, hgh⟩ h

end Sys2Proof
end

section
/-! The writable registers (R6, R113, R116, R117): bits of a field, words of an island, and what a boundary applies. -/
namespace Sys2Proof.Machine

/-- Bits replaced under a mask: the new word's where the mask has one, the old word's elsewhere. -/
theorem getLsbD_replace_under (m old new : W64) {k : Nat} (hk : k < 64) :
    ((old &&& ~~~m) ||| (new &&& m)).getLsbD k = if m.getLsbD k then new.getLsbD k else old.getLsbD k := by
  simp only [BitVec.getLsbD_or, BitVec.getLsbD_and, BitVec.getLsbD_not, hk, decide_true, Bool.true_and]
  cases m.getLsbD k <;> simp

theorem WField.getLsbD_mask {f : WField} (hlo : f.lo ≤ f.hi) {k : Nat} (hk : k < 64) : f.mask.getLsbD k = decide (f.lo ≤ k ∧ k ≤ f.hi) := by
  rw [WField.mask, BitVec.getLsbD_ofNat, Nat.testBit_mul_two_pow, Nat.testBit_two_pow_sub_one, Bool.eq_iff_iff]
  simp only [Bool.and_eq_true, decide_eq_true_eq]
  omega

/-- A word whose field is replaced: the written word's bits in the field, the old ones elsewhere. -/
theorem getLsbD_replace_field {f : WField} (hlo : f.lo ≤ f.hi) {k : Nat} (hk : k < 64) (old w : W64) :
    ((old &&& ~~~f.mask) ||| (w &&& f.mask)).getLsbD k = if f.lo ≤ k ∧ k ≤ f.hi then w.getLsbD k else old.getLsbD k := by
  rw [getLsbD_replace_under _ _ _ hk, WField.getLsbD_mask hlo hk]
  simp only [decide_eq_true_eq]

theorem writeField_atOnce {f : WField} (h : f.bound = .atOnce) (w : W64) (x : RegWord) :
    writeField f w x = { x with value := (x.value &&& ~~~f.mask) ||| (w &&& f.mask) } := by
  simp [writeField, h]

theorem writeField_bounded {f : WField} (h : f.bound ≠ .atOnce) (w : W64) (x : RegWord) :
    writeField f w x = { x with pend := (x.pend &&& ~~~f.mask) ||| (w &&& f.mask), pendMask := x.pendMask ||| f.mask } := by
  unfold writeField
  split
  · exact absurd ‹_› h
  · rfl

/-- What an RWB field takes, bit by bit: the pending bits are marked and hold the written ones. -/
theorem WField.getLsbD_or_mask {f : WField} (hlo : f.lo ≤ f.hi) {k : Nat} (hk : k < 64) (m : W64) :
    (m ||| f.mask).getLsbD k = (m.getLsbD k || decide (f.lo ≤ k ∧ k ≤ f.hi)) := by
  rw [BitVec.getLsbD_or, WField.getLsbD_mask hlo hk]

/-! ### Words of an island's block -/

theorem Dev.regWord_setRegWord (s : Dev) (i off : Nat) (x : RegWord) (off' : Nat) :
    (s.setRegWord i off x).regWord i off' = if off' = off then x else s.regWord i off' := by
  unfold Dev.regWord Dev.setRegWord
  by_cases h : off' = off
  · subst h; simp
  · rw [if_neg h]; exact SMap.get_put_other _ _ _ _ _ _ (by omega)

/-- No two writable registers of an island stand at one offset. -/
theorem islandRegs_offs_nodup (i : Nat) : ((islandRegs i).map WReg.off).Nodup := by
  unfold islandRegs
  split <;> decide

theorem wreg_off {i off : Nat} {r : WReg} (h : wreg i off = some r) : r.off = off := by
  simpa using List.find?_some h

/-! ### Writes through the aliases (R113, R114) -/

/-- A register write of the Lamplighter that names an ordinary register through a view is performed at once (R107, R132). -/
theorem viewWrite_plain {i kind off : Nat} {r : WReg} {w : RegWrite} {s : Dev} (hkind : kind ≤ 3) (hm : w.master = 1) (hlen : w.len = 8)
    (hw : w.off = kind * 65536 + i * 2048 + off) (hi : i < 18) (hoff : off < 2048) (hal : off % 8 = 0) (hmgt : i ≠ isl.MGT) (hr : wreg i off = some r)
    (hqde : i = isl.QDE → off ≠ 0x208) (hobs : i = isl.OBS → off ≠ 0x010) :
    viewWrite kind w s = plainWrite i kind r w.value s := by
  have hview : regView w.off = kind := by unfold regView; omega
  have hisl : regIsland w.off = i := by unfold regIsland; omega
  have hblk : regBlockOff w.off = off := by unfold regBlockOff; omega
  have hin : w.off < 0x40000 ∧ w.off % 8 = 0 ∧ w.len = 8 ∧ w.off % 65536 < 0x9000 := by omega
  have harrive : regWriteArrive w s = performReg w s := by
    rw [regWriteArrive, if_neg (by omega), if_pos hin]
  have hq : ¬ (i = isl.QDE ∧ off = 0x208) := fun h => hqde h.1 h.2
  have ho : ¬ (i = isl.OBS ∧ off = 0x010) := fun h => hobs h.1 h.2
  rw [viewWrite, if_neg (by rw [hview]; omega), harrive, performReg, hisl, hblk, hview]
  simp only [performWrite, hmgt, hq, ho, hr, false_and, if_false]

/-- Outside the distributor's block a write through a view is a write of the fields that it touches. -/
theorem plainWrite_touched {i kind off : Nat} {r : WReg} (hr : wreg i off = some r) (hpipa : i = isl.PIPA → off < 0x700) (hkind : kind ≠ 0) (v : W64) (s : Dev) :
    plainWrite i kind r v s =
      writeFields i { r with fields := r.fields.filter (fun f => v &&& f.mask != 0) } (aliasOp kind (s.regShown i off) v) s := by
  have hoff := wreg_off hr
  rw [plainWrite, if_neg (by rintro ⟨h, h2, -⟩; have := hpipa h; omega), touched, if_neg hkind, hoff]

/-- Where every field is in range and none depends on another, all take their bits and nothing is counted. -/
theorem writeFields_inRange {i : Nat} {r : WReg} {w : W64} (hmem : i ≠ isl.MEM) (h : ∀ f ∈ r.fields, f.inRange w = true) (s : Dev) :
    writeFields i r w s = s.setRegWord i r.off (r.fields.foldl (fun x f => writeField f w x) (s.regWord i r.off)) := by
  have hcross : crossOk i r.off w = true := by simp [crossOk, hmem]
  have hgood : r.fields.filter (fun f => f.inRange w && crossOk i r.off w) = r.fields :=
    List.filter_eq_self.mpr fun f hf => by rw [h f hf, hcross]; rfl
  have hbad : badFields i r w = [] :=
    List.filter_eq_nil_iff.mpr fun f hf => by rw [h f hf, hcross]; simp
  simp [writeFields, hgood, hbad]

/-- The three commands of the aliases are the writes of their views. -/
theorem becomes_aliasWrite {kind : Nat} {w : RegWrite} {s : State} (hkind : kind = 1 ∨ kind = 2 ∨ kind = 3) (hm : masterWf w.master = true) :
    Becomes (if kind = 1 then .setAliasWrite w else if kind = 2 then .clearAliasWrite w else .toggleAliasWrite w) s (viewWrite kind w s.dev) := by
  rcases hkind with rfl | rfl | rfl
  · exact becomes_setAliasWrite w s hm
  · exact becomes_clearAliasWrite w s hm
  · exact becomes_toggleAliasWrite w s hm

theorem aliasOp_eq {kind : Nat} (hkind : kind = 1 ∨ kind = 2 ∨ kind = 3) (cur v : W64) :
    aliasOp kind cur v = if kind = 1 then cur ||| v else if kind = 2 then cur &&& ~~~v else cur ^^^ v := by
  rcases hkind with rfl | rfl | rfl <;> rfl

/-! ### Boundaries (R116, R117) -/

/-- The pending values under the boundary's masks applied, register by register. -/
def applyRegs (b : Boundary) (i : Nat) (rs : List WReg) (s : Dev) : Dev :=
  rs.foldl (fun s r => s.setRegWord i r.off (applyWord (boundMask b r) (s.regWord i r.off))) s

theorem applyRegs_cons (b : Boundary) (i : Nat) (r : WReg) (rs : List WReg) (s : Dev) :
    applyRegs b i (r :: rs) s = applyRegs b i rs (s.setRegWord i r.off (applyWord (boundMask b r) (s.regWord i r.off))) := rfl

theorem applyBoundary_idle {b : Boundary} {i : Nat} {s : Dev} (h : boundDue b i s = false) : applyBoundary b i s = s := by
  simp [applyBoundary, h]

theorem applyBoundary_due {b : Boundary} {i : Nat} {s : Dev} (h : boundDue b i s = true) :
    applyBoundary b i s =
      let e := applyRegs b i (islandRegs i) s
      { e with regs := { e.regs with applyCount := SMap.put 0 e.regs.applyCount i (SMap.get 0 e.regs.applyCount i + 1) } } := by
  rw [applyBoundary, if_pos h]; rfl

/-- Applying registers changes nothing but words of registers. -/
theorem applyRegs_frame (b : Boundary) (i : Nat) (rs : List WReg) (s : Dev) :
    applyRegs b i rs s = { s with regs := (applyRegs b i rs s).regs } ∧ (applyRegs b i rs s).regs.applyCount = s.regs.applyCount := by
  induction rs generalizing s with
  | nil => exact ⟨rfl, rfl⟩
  | cons r rs ih =>
    obtain ⟨hdev, hcount⟩ := ih (s.setRegWord i r.off (applyWord (boundMask b r) (s.regWord i r.off)))
    rw [applyRegs_cons]
    exact ⟨hdev, hcount⟩

theorem applyRegs_regWord_of_not_mem (b : Boundary) {i off : Nat} {rs : List WReg} (h : off ∉ rs.map WReg.off) (s : Dev) :
    (applyRegs b i rs s).regWord i off = s.regWord i off := by
  induction rs generalizing s with
  | nil => rfl
  | cons r rs ih =>
    rw [List.map_cons, List.mem_cons, not_or] at h
    obtain ⟨hne, hrs⟩ := h
    rw [applyRegs_cons, ih hrs, Dev.regWord_setRegWord, if_neg hne]

/-- Each register of the list gets its own pending bits, and no other register's write disturbs it. -/
theorem applyRegs_regWord (b : Boundary) {i : Nat} {rs : List WReg} (hnd : (rs.map WReg.off).Nodup) {r : WReg} (hr : r ∈ rs) (s : Dev) :
    (applyRegs b i rs s).regWord i r.off = applyWord (boundMask b r) (s.regWord i r.off) := by
  induction rs generalizing s with
  | nil => cases hr
  | cons q rs ih =>
    obtain ⟨hq, hrs⟩ := List.nodup_cons.mp hnd
    rw [applyRegs_cons]
    rcases List.mem_cons.mp hr with rfl | hmem
    · rw [applyRegs_regWord_of_not_mem b hq, Dev.regWord_setRegWord, if_pos rfl]
    · have hne : r.off ≠ q.off := fun h => hq (h ▸ List.mem_map_of_mem hmem)
      rw [ih hrs hmem, Dev.regWord_setRegWord, if_neg hne]

/-- At a boundary that is due, every register of the island gets its pending bits under the boundary's mask. -/
theorem applyBoundary_regWord {b : Boundary} {i : Nat} {s : Dev} (h : boundDue b i s = true) {r : WReg} (hr : r ∈ islandRegs i) :
    (applyBoundary b i s).regWord i r.off = applyWord (boundMask b r) (s.regWord i r.off) := by
  rw [← applyRegs_regWord b (islandRegs_offs_nodup i) hr s, applyBoundary_due h]
  rfl

theorem applyBoundary_applyCount {b : Boundary} {i : Nat} {s : Dev} (h : boundDue b i s = true) :
    SMap.get 0 (applyBoundary b i s).regs.applyCount i = SMap.get 0 s.regs.applyCount i + 1 := by
  obtain ⟨-, hcount⟩ := applyRegs_frame b i (islandRegs i) s
  simp only [applyBoundary_due h, SMap.get_put_self, hcount]

/-- A boundary changes nothing but registers. -/
theorem applyBoundary_frame (b : Boundary) (i : Nat) (s : Dev) : applyBoundary b i s = { s with regs := (applyBoundary b i s).regs } := by
  cases h : boundDue b i s with
  | false => rw [applyBoundary_idle h]
  | true =>
    obtain ⟨hdev, -⟩ := applyRegs_frame b i (islandRegs i) s
    rw [applyBoundary_due h]
    dsimp only
    rw [hdev]

theorem getLsbD_applyWord_pendMask (m : W64) (x : RegWord) {k : Nat} (hk : k < 64) :
    (applyWord m x).pendMask.getLsbD k = (x.pendMask.getLsbD k && !m.getLsbD k) := by
  simp only [applyWord, BitVec.getLsbD_and, BitVec.getLsbD_not, hk, decide_true, Bool.true_and]
  cases x.pendMask.getLsbD k <;> simp

theorem getLsbD_applyWord_value (m : W64) (x : RegWord) {k : Nat} (hk : k < 64) :
    (applyWord m x).value.getLsbD k = if x.pendMask.getLsbD k && m.getLsbD k then x.pend.getLsbD k else x.value.getLsbD k := by
  rw [applyWord, getLsbD_replace_under _ _ _ hk, BitVec.getLsbD_and]

/-- Settles O15: the bits of a field, the writes through the aliases, and the boundary's fold over the registers of its island. -/
theorem registerFields : Obligations.RegisterFields := by
  refine ⟨fun f w x k hlo _ hk => ⟨fun h => ?_, fun h => ?_⟩, ?_, fun b i s _ => ⟨applyBoundary_idle, fun h => ⟨applyBoundary_applyCount h, ?_, ?_⟩⟩⟩
  · rw [writeField_atOnce h]
    exact ⟨getLsbD_replace_field hlo hk x.value w, rfl, rfl⟩
  · rw [writeField_bounded h]
    exact ⟨rfl, WField.getLsbD_or_mask hlo hk x.pendMask, getLsbD_replace_field hlo hk x.pend w⟩
  · intro i kind off v r w s hkind hm hlen hw hi hoff hal hv hmgt hr hqde hobs hpipa cur word c hit
    have hwrite : Becomes c s (writeFields i hit word s.dev) := by
      refine (becomes_aliasWrite hkind (by rw [hm]; rfl)).of_eq ?_
      rw [viewWrite_plain (by omega) hm hlen hw hi hoff hal hmgt hr hqde hobs, plainWrite_touched hr hpipa (by omega), aliasOp_eq hkind, hv]
    refine ⟨hwrite, fun hrange hmem => hwrite.of_eq ?_⟩
    rw [writeFields_inRange hmem hrange, wreg_off hr]
  · intro r hr k hk
    rw [applyBoundary_regWord h hr]
    exact ⟨getLsbD_applyWord_pendMask _ _ hk, getLsbD_applyWord_value _ _ hk⟩
  · exact applyBoundary_frame b i s

end Sys2Proof.Machine
end

section
/-! Host ports (R92 to R106): what PERST#, a link, a power state and a configuration request do, one equation for each case. -/
namespace Sys2Proof.Machine

theorem port_of_mapPorts {s d : Dev} {f : HostPort → HostPort} (h : d.ports = mapPorts f s) {p : Nat} (hp : p < 3) : d.port p = f (s.port p) := by
  unfold Dev.port at *
  rw [h, mapPorts]
  simp only [List.foldl, SMap.get_put]
  have : p = 0 ∨ p = 1 ∨ p = 2 := by omega
  rcases this with rfl | rfl | rfl <;> simp [Dev.port]

theorem halfExists_of {s : Dev} {p : Nat} {half : Bool} (h : half = true → (s.port p).bifurcated = true) : halfExists s p half = true := by
  cases half with
  | false => rfl
  | true => simpa [halfExists] using h rfl

theorem perstAssert_mgr {p : Nat} {s : Dev} (h : (s.port p).perst = false) (hm : p = s.mgrPort) :
    perstAssert p s = fullReset (s.setPort p { s.port p with perst := true }) := by
  rw [perstAssert, h, if_neg Bool.false_ne_true, if_pos hm]

/-- PERST# of another port: its links go down, and the slices behind each half of them are lost. -/
theorem perstAssert_other {p : Nat} {s : Dev} (h : (s.port p).perst = false) (hm : p ≠ s.mgrPort) :
    perstAssert p s = portLinksDown p (s.setPort p { s.port p with perst := true }) := by
  rw [perstAssert, h, if_neg Bool.false_ne_true, if_neg hm]

theorem tryStart_started {s : Dev} (h : s.boot.started ≠ none) : tryStart s = s := by
  have h' : s.boot.started.isSome = true := Option.isSome_iff_ne_none.mpr h
  simp [tryStart, h']

theorem tryStart_starts {s : Dev} (h : s.boot.started = none) (hp : s.boot.porHeld = false) (ht : s.boot.tripped = false) (hf : s.boot.powerFail = false)
    (hperst : (s.port s.mgrPort).perst = false) : tryStart s = { s with boot := { s.boot with started := some s.now } } := by
  simp [tryStart, h, hp, ht, hf, hperst]

theorem tryStart_perst {s : Dev} (hperst : (s.port s.mgrPort).perst = true) : tryStart s = s := by
  simp [tryStart, hperst]

theorem not_rrsOver (s : Dev) : (!rrsOver s) = (decide (s.boot.stage < 4) && !s.boot.warm) := by
  simp only [rrsOver, Bool.not_or, ← decide_not, Nat.not_le]

theorem perstDeassert_asserted {p : Nat} {strap : Bool} {s : Dev} (h : (s.port p).perst = true) :
    perstDeassert p strap s =
      tryStart (s.setPort p { s.port p with perst := false, bifurcated := strap, rrs := decide (s.boot.stage < 4) && !s.boot.warm }) := by
  rw [perstDeassert, if_pos h, not_rrsOver]

theorem sliceZeroReturn_of_ne {s : Dev} (h : (s.slice 0).state ≠ .quiesced) : sliceZeroReturn s = s := if_neg fun h' => h h'.1

theorem linkUp_trains {p : Nat} {half : Bool} {speed : BitVec 3} {flit : Bool} {width : BitVec 5} {s : Dev} (hperst : (s.port p).perst = false)
    (hf : s.boot.powerFail = false) (ht : s.boot.tripped = false) (hh : half = true → (s.port p).bifurcated = true) (hs1 : 1 ≤ speed.toNat)
    (hs6 : speed.toNat ≤ 6) (hw1 : 1 ≤ width.toNat) (hw : width.toNat ≤ if (s.port p).bifurcated then 8 else 16) :
    linkUp p half speed flit width s = sliceZeroReturn (s.setPort p ((s.port p).setLink half
      { (s.port p).link half with up := true, speed := speed, flit := speed == 6, width := width })) := by
  have hs0 : speed ≠ 0#3 := by rintro rfl; exact absurd hs1 (by decide)
  have hs7 : speed ≠ 7#3 := by rintro rfl; exact absurd hs6 (by decide)
  have hw0 : width ≠ 0#5 := by rintro rfl; exact absurd hw1 (by decide)
  have hwm := Nat.not_lt.mpr hw
  simp [linkUp, hperst, hf, ht, halfExists_of hh, hs0, hs7, hw0, hwm]

theorem configurationRequest_retried {p : Nat} {half : Bool} {q : CfgReq} {s : Dev} (hup : ((s.port p).link half).up = true)
    (hperst : (s.port p).perst = false) (hh : half = true → (s.port p).bifurcated = true) (hr : (s.port p).rrs = true) :
    configurationRequest p half q s = emit (.cfgRetry p half) (count .hifRrs p s) := by
  simp [configurationRequest, hup, hperst, halfExists_of hh, hr]

theorem configurationRequest_served {p : Nat} {half : Bool} {q : CfgReq} {s : Dev} (hup : ((s.port p).link half).up = true)
    (hperst : (s.port p).perst = false) (hh : half = true → (s.port p).bifurcated = true) (hr : (s.port p).rrs = false) :
    configurationRequest p half q s = cfgServe p half q s := by
  simp [configurationRequest, hup, hperst, halfExists_of hh, hr]

theorem barsDecode_of_linkA {s : Dev} {p : Nat} (hr : (s.port p).rrs = false) (hu : ((s.port p).link false).usable = true) : barsDecode s p = true := by
  have hA : (s.port p).linkA.usable = true := hu
  simp [barsDecode, hr, hA]

theorem postedBlocked_of_free {s : Dev} {p : Nat} (h : (s.port p).held = none) (hd : (s.port p).dbHeld = none) : postedBlocked s p = false := by
  simp [postedBlocked, h, hd]

theorem postedBlocked_of_holding {s : Dev} {p : Nat} (h : (s.port p).held.isSome = true ∨ (s.port p).dbHeld.isSome = true) : postedBlocked s p = true := by
  simpa [postedBlocked] using h

/-- Settles O13: each clause is the equation of PERST#, of the link, of the power state or of the request in that case; the frame of the manager port's
reset is read off `fullReset`. -/
theorem portsAndLinks : Obligations.PortsAndLinks := by
  refine ⟨fun p s hwf hperst => ⟨fun hm => ?_, fun hm => ?_⟩, fun p strap s hwf hperst hm hst => ?_, fun p strap s hwf hperst hm hst hpor htr hpf => ?_,
    fun p half s hwf => ⟨fun hup => ?_, fun hup => ?_⟩, fun p half speed flit width s hwf hperst hpf htr hh hs1 hs6 hw1 hw hz => ?_,
    fun p half s hwf hu => ?_, fun p half s hwf hd hz => ?_, fun p half q s hwf hup hperst hh => ?_, fun p off s hwf hr hu => ⟨fun hb => ?_, fun hh hd => ?_⟩⟩
  · have hb := (becomes_perstAssert p s hwf).of_eq (perstAssert_mgr hperst hm)
    have hp : p < 3 := by simpa [Wf.perstAssert] using hwf
    refine ⟨hb, hb.ends ⟨rfl, rfl, rfl, rfl, rfl, rfl, rfl, rfl, ?_⟩⟩
    rw [port_of_mapPorts (d := fullReset _) rfl hp, Dev.port_setPort_self]
    exact ⟨rfl, rfl⟩
  · intro d
    have hb := (becomes_perstAssert p s hwf).of_eq (perstAssert_other hperst hm)
    refine ⟨fun hbi => hb.of_eq ?_, fun hbi => hb.of_eq ?_⟩ <;>
    · rw [portLinksDown, Dev.port_setPort_self, hbi]
      rfl
  · refine (becomes_perstDeassert p strap s hwf).of_eq ?_
    rw [perstDeassert_asserted hperst]
    exact tryStart_started hst
  · refine (becomes_perstDeassert p strap s hwf).of_eq ?_
    rw [perstDeassert_asserted hperst]
    refine tryStart_starts hst hpor htr hpf ?_
    rw [hm]
    exact congrArg HostPort.perst (Dev.port_setPort_self _ _ _)
  · refine (becomes_linkDown p half s hwf).of_eq ?_
    rw [linkDown, if_pos hup]
  · refine (becomes_linkDown p half s hwf).of_eq ?_
    rw [linkDown, hup, if_neg Bool.false_ne_true]
  · refine (becomes_linkUp p half speed flit width s hwf).of_eq ?_
    rw [linkUp_trains hperst hpf htr hh hs1 hs6 hw1 hw]
    exact sliceZeroReturn_of_ne hz
  · refine (becomes_d3hotEntry p half s hwf).of_eq ?_
    rw [d3hotEntry, if_pos hu]
  · refine (becomes_d0Return p half s hwf).of_eq ?_
    rw [d0Return, if_pos hd]
    exact sliceZeroReturn_of_ne hz
  · have hb := becomes_configurationRequest p half q s hwf
    refine ⟨fun hr => hb.of_eq (configurationRequest_retried hup hperst hh hr), fun hr hq => ?_, fun c hr hq => ?_, fun n v hr hq => ?_,
      fun hr => hb.of_eq (configurationRequest_served hup hperst hh hr)⟩
    all_goals
      refine hb.of_eq ?_
      rw [configurationRequest_served hup hperst hh hr, hq]
      rfl
  · refine (becomes_bar4Write p off s hwf).of_eq ?_
    simp [bar4Write, postedBlocked_of_holding hb]
  · refine (becomes_bar4Write p off s hwf).of_eq ?_
    rw [bar4Write, barsDecode_of_linkA hr hu, postedBlocked_of_free hh hd]
    rfl

end Sys2Proof.Machine
end

section
/-! The path of a register write through a host port (R107 to R125, R567): the order of one clock, the port's judgement, buffers and holds. -/
namespace Sys2Proof

theorem SMap.ins_ins {α : Type} (k : Nat) (x y : α) (m : SMap α) : SMap.ins k y (SMap.ins k x m) = SMap.ins k y m := by
  induction m with
  | nil => simp [SMap.ins]
  | cons e t ih =>
    obtain ⟨i, z⟩ := e
    by_cases hlt : i < k
    · simp [SMap.ins, hlt, ih]
    · by_cases heq : i = k
      · simp [SMap.ins, heq]
      · simp [SMap.ins, hlt, heq]

theorem SMap.put_self_put {α : Type} [DecidableEq α] (d : α) (m : SMap α) (k : Nat) (x : α) :
    SMap.put d (SMap.put d m k x) k x = SMap.put d m k x := by
  unfold SMap.put
  by_cases h : x = d
  · simp only [h, if_true, List.filter_filter, Bool.and_self]
  · simp only [h, if_false, SMap.ins_ins]

end Sys2Proof
namespace Sys2Proof.Machine

theorem setPort_self_setPort (s : Dev) (p : Nat) (x : HostPort) : (s.setPort p x).setPort p x = s.setPort p x := by
  unfold Dev.setPort
  simp only [SMap.put_self_put]

/-! ### Accesses of one clock (R125) -/

theorem clockOrder_perm (as : List RegAccess) : (clockOrder as).Perm as := sortBy_perm _ as

theorem clockOrder_pairwise (as : List RegAccess) : (clockOrder as).Pairwise (fun a b => RegAccess.master a ≤ RegAccess.master b) := by
  refine (sortBy_pairwise (fun a b => ?_) (fun a b c => ?_) as).imp (fun h => of_decide_eq_true h)
  · simp only [decide_eq_true_eq]; omega
  · simp only [decide_eq_true_eq]; omega

theorem registerWrite_base {w : RegWrite} (h : w.off < 0x10000 ∨ 0x40000 ≤ w.off) (others : List RegAccess) (s : Dev) :
    registerWrite w others s = accessesArrive (.write w :: others) s := by
  refine if_neg ?_
  unfold regView
  omega

/-- The masters of host ports are 8 to 10 (R107). -/
theorem port_lt_of_masterWf {p : Nat} (h : masterWf (p + 8) = true) : p < 3 := by
  simp only [masterWf, Bool.or_eq_true, Bool.and_eq_true, decide_eq_true_eq] at h
  omega

/-- A write that comes alone to a port. -/
theorem registerWrite_alone {w : RegWrite} {p : Nat} (hm : w.master = p + 8) (hp : p < 3) (h : w.off < 0x10000) (s : Dev) :
    registerWrite w [] s = hostRegWrite p w s := by
  have harr : regWriteArrive w s = hostRegWrite (w.master - 8) w s := if_pos (by omega)
  rw [registerWrite_base (.inl h), ← Nat.add_sub_cancel (n := p) (m := 8), ← hm, ← harr]
  rfl

/-! ### Register writes at a port (R105, R107, R110, R118, R119) -/

/-- A port whose link carries requests, past RRS and holding nothing, judges a register write by its shape, its port, its offset and its island. -/
theorem hostRegWrite_judged {p : Nat} {w : RegWrite} {s : Dev} (hu : ((s.port p).link w.half).usable = true) (hr : (s.port p).rrs = false)
    (hh : (s.port p).held = none) (hd : (s.port p).dbHeld = none) (hoff : w.off < 0x40000) :
    hostRegWrite p w s =
      if w.len ≠ 8 ∨ w.off % 8 ≠ 0 then emit (.aer p false 0 w.off) (count .hifBadAccess p (abort p 0 w.off true 3 s))
      else if p ≠ s.mgrPort then emit (.aer p true 0 w.off) (count .hifRegWriteDenied p (abort p 0 w.off true 5 s))
      else if 0x9000 ≤ w.off % 65536 then s
      else if regIsland w.off = p then performReg w s
      else postedWrite p (regIsland w.off) (.reg w) (performReg w) s := by
  have htable : ¬ (0x200000 ≤ w.off ∧ w.off < 0x200400) := by omega
  have hreg : ¬ 0x40000 ≤ w.off := by omega
  rw [hostRegWrite]
  simp only [hu, hr, postedBlocked_of_free hh hd, htable, hreg, Bool.not_true, Bool.or_self, Bool.false_eq_true, if_false]

theorem postedWrite_free {p k : Nat} {s : Dev} (h : (s.port p).xbusy.getLsbD k = false) (x : HeldWrite) (f : Dev → Dev) :
    postedWrite p k x f s = f (s.setPort p { s.port p with xbusy := (s.port p).xbusy ||| BitVec.ofNat 18 (2 ^ k) }) := by
  simp only [postedWrite, Dev.xbusy, h]
  rfl

theorem postedWrite_busy {p k : Nat} {s : Dev} (h : (s.port p).xbusy.getLsbD k = true) (x : HeldWrite) (f : Dev → Dev) :
    postedWrite p k x f s = count .hifWriteStalls p (s.setPort p { s.port p with held := some (k, x) }) := by
  simp only [postedWrite, Dev.xbusy, h]
  rfl

theorem performReg_base {w : RegWrite} (h : w.off < 0x10000) (s : Dev) :
    performReg w s = performWrite w.master (w.off / 2048) (w.off % 2048) 0 w.value s := by
  rw [performReg, regIsland, regBlockOff, regView, Nat.mod_eq_of_lt h, Nat.div_eq_of_lt h]

/-! ### Acknowledgements and stalls (R118, R119, R123, R567) -/

theorem writeAcknowledge_free {p k : Nat} {s : Dev} (h : (s.port p).xbusy.getLsbD k = true) (hh : (s.port p).held = none) :
    writeAcknowledge p k s = s.setPort p { s.port p with xbusy := (s.port p).xbusy &&& ~~~(BitVec.ofNat 18 (2 ^ k)) } := by
  have hset : writeAcknowledge p k s = setXbusy p k false s := by simp only [writeAcknowledge, Dev.xbusy, h, hh, if_true]
  exact hset

theorem writeAcknowledge_held {p k : Nat} {x : HeldWrite} {s : Dev} (h : (s.port p).xbusy.getLsbD k = true) (hh : (s.port p).held = some (k, x)) :
    writeAcknowledge p k s = performHeld performChan x (s.setPort p { s.port p with held := none }) := by
  simp only [writeAcknowledge, Dev.xbusy, h, hh, if_true]

/-- Where no read waits, looking at the waiting reads again changes nothing. -/
theorem serveReads_idle {p : Nat} {x : HostPort} (h : x.reads = []) (s : Dev) : serveReads p (s.setPort p x) = s.setPort p x := by
  have hx : { x with reads := [] } = x := by rw [← h]
  rw [serveReads, Dev.port_setPort_self, h, List.foldl_nil, hx, setPort_self_setPort]

theorem stallTimeout_write {p k off : Nat} {x : HeldWrite} {s : Dev} (h : (s.port p).held = some (k, x)) :
    stallTimeout p k off true s =
      emit (.aer p true 0 (heldOff x)) (stallAbort p k 0 (heldOff x) true (s.setPort p { s.port p with held := none })) := by
  simp only [stallTimeout, h, if_true]

theorem stallTimeout_read {p : Nat} {s : Dev} (h : barsDecode s p = true) (k off : Nat) :
    stallTimeout p k off false s = emit (.readAbort p) (stallAbort p k 0 off false (dropRead p off s)) := by
  simp only [stallTimeout, h, Bool.false_eq_true, if_false, if_true]

theorem doorbellHoldTimeout_held {p off len : Nat} {half : Bool} {ws : List W64} {s : Dev} (h : (s.port p).dbHeld = some (half, off, len, ws)) :
    doorbellHoldTimeout p s = emit (.aer p true 1 off) (stallAbort p isl.QDE 1 off true (s.setPort p { s.port p with dbHeld := none })) := by
  simp only [doorbellHoldTimeout, h]

/-- Settles O14: a port's judgement of a write (`hostRegWrite_judged`), case by case; acknowledgements and stalls end in `serveReads`. -/
theorem registerWritePath : Obligations.RegisterWritePath := by
  refine ⟨fun as => ⟨clockOrder_perm as, clockOrder_pairwise as⟩, fun w ws rs s hwf hoff => ?_, fun r ws rs s hwf => becomes_lowWordRead r ws rs s hwf,
    fun w p s hwf hm hu hr hh hd hoff => ?_, fun p k s hwf hbusy => ⟨fun hh => ?_, fun w hh => ?_, fun h hh => ?_⟩, fun p k off w s hwf hh => ?_,
    fun p k off s hwf hr hu => ?_, fun p off len half ws s hwf hd => ?_⟩
  · exact (becomes_registerWrite w ws rs s hwf).of_eq (registerWrite_base hoff _ _)
  · have hp : p < 3 := port_lt_of_masterWf (hm ▸ (Bool.and_eq_true_iff.mp hwf).1)
    have hb : Becomes (.registerWrite ⟨w, [], []⟩) s _ :=
      (becomes_registerWrite w [] [] s hwf).of_eq ((registerWrite_alone hm hp hoff _).trans (hostRegWrite_judged hu hr hh hd (by omega)))
    refine ⟨fun hshape => hb.of_eq (if_pos hshape), fun hlen hal => ?_⟩
    have hshape : ¬ (w.len ≠ 8 ∨ w.off % 8 ≠ 0) := by omega
    rw [if_neg hshape] at hb
    refine ⟨fun hne => hb.of_eq (if_pos hne), fun hmgr hres => ?_, fun hmgr hres hisl => ?_⟩
    all_goals rw [if_neg (fun hne => hne hmgr), Nat.mod_eq_of_lt hoff] at hb
    · exact hb.of_eq (if_pos hres)
    · have hregIsland : regIsland w.off = w.off / 2048 := by rw [regIsland, Nat.mod_eq_of_lt hoff]
      rw [if_neg (Nat.not_le.mpr hres), hregIsland, if_neg hisl] at hb
      refine ⟨fun hfree => hb.of_eq ?_, fun hbusy => hb.of_eq (postedWrite_busy hbusy _ _)⟩
      rw [postedWrite_free hfree, performReg_base hoff]
  · intro d
    have hb := (becomes_writeAcknowledge p k s hwf).of_eq (congrArg (serveReads p) (writeAcknowledge_free hbusy hh))
    refine ⟨hb, fun hreads => hb.of_eq ?_⟩
    apply serveReads_idle
    exact hreads
  · exact (becomes_writeAcknowledge p k s hwf).of_eq (congrArg (serveReads p) (writeAcknowledge_held hbusy hh))
  · exact (becomes_writeAcknowledge p k s hwf).of_eq (congrArg (serveReads p) (writeAcknowledge_held hbusy hh))
  · refine (becomes_registerStallTimeout p k off true s hwf).of_eq ?_
    rw [endStall, stallTimeout_write hh, stallAbort, heldOff]
  · refine (becomes_registerStallTimeout p k off false s hwf).of_eq ?_
    rw [endStall, stallTimeout_read (barsDecode_of_linkA hr hu), stallAbort]
  · refine (becomes_doorbellHoldTimeout p s hwf).of_eq ?_
    rw [endDoorbellHold, doorbellHoldTimeout_held hd, stallAbort]

end Sys2Proof.Machine
end

section
/-! Register reads (R105 to R127): the path of a read through a port, the bytes that it brings, and the latched half of a 128-bit pair. -/
namespace Sys2Proof.Machine

/-! ### A read at a port (R108, R110, R111, R120) -/

/-- A read that comes alone arrives. -/
theorem becomes_lowWordRead_alone {r : HostRead} {s : State} (h : Wf.lowWordRead r [] = true) : Becomes (.lowWordRead r [] []) s (readArrive r s.dev) :=
  becomes_lowWordRead r [] [] s h

theorem readArrive_host {r : HostRead} (h : 8 ≤ r.master ∧ r.master ≤ 10) (s : Dev) : readArrive r s = hostRead (r.master - 8) r s := if_pos h

theorem readArrive_inside {r : HostRead} (h : ¬ (8 ≤ r.master ∧ r.master ≤ 10)) (hbar : r.bar = 0) (hshape : readShape r = true) (s : Dev) :
    readArrive r s = performRead r HostLink.reset s := by
  rw [readArrive, if_neg h, if_pos ⟨hbar, hshape⟩]

theorem hostRead_unheard {p : Nat} {r : HostRead} {s : Dev} (h : ((s.port p).link r.half).usable = false ∨ (s.port p).rrs = true) :
    hostRead p r s = s := by
  rw [hostRead, if_pos (by simpa using h)]

/-- A port whose link carries requests, past RRS, judges a read by the page that it names, by its shape, and by what it holds. -/
theorem hostRead_judged {p : Nat} {r : HostRead} {s : Dev} (hu : ((s.port p).link r.half).usable = true) (hr : (s.port p).rrs = false) :
    hostRead p r s =
      if readWrongPort s p r then emit (.readBytes r.master (List.replicate r.len 0)) s
      else if !readShape r then emit (.readUnsupported p) (count .hifBadAccess p (abort p r.bar r.off false 3 s))
      else if readWaits s p r then s.setPort p { s.port p with reads := (s.port p).reads ++ [r] }
      else performRead r ((s.port p).link r.half) (sendRead p r s) := by
  rw [hostRead]
  simp only [hu, hr, Bool.not_true, Bool.or_self, Bool.false_eq_true, if_false]

theorem hostRead_performed {p : Nat} {r : HostRead} {s : Dev} (hu : ((s.port p).link r.half).usable = true) (hr : (s.port p).rrs = false)
    (hport : readWrongPort s p r = false) (hshape : readShape r = true) (hwait : readWaits s p r = false) :
    hostRead p r s = performRead r ((s.port p).link r.half) (sendRead p r s) := by
  rw [hostRead_judged hu hr]
  simp only [hport, hshape, hwait, Bool.not_true, Bool.false_eq_true, if_false]

/-! ### A read of the register file (R105, R110, R115) -/

theorem chanAt_register {off : Nat} (h : off < 0x40000) : chanAt off = none := by
  rw [chanAt, if_neg (by omega), if_neg (by omega)]

theorem readWrongPort_register {r : HostRead} (hbar : r.bar = 0) (h : r.off < 0x40000) (s : Dev) (p : Nat) : readWrongPort s p r = false := by
  simp [readWrongPort, hbar, chanAt_register h]

theorem readShape_register {r : HostRead} (hbar : r.bar = 0) (h : r.off < 0x40000) : readShape r = regShape r.off r.len := by
  simp [readShape, hbar, h]

theorem readIsland_register {r : HostRead} (hbar : r.bar = 0) (h : r.off < 0x40000) (p : Nat) :
    readIsland p r = if regIsland r.off = p ∨ 0x9000 ≤ r.off % 65536 then none else some (regIsland r.off) := by
  simp [readIsland, hbar, h]

theorem performRead_register {r : HostRead} (hbar : r.bar = 0) (h : r.off < 0x40000) (l : HostLink) (s : Dev) :
    performRead r l s = registerRead r.master r.off r.len s := by
  simp [performRead, hbar, h]

theorem sendRead_nowhere {p : Nat} {r : HostRead} (h : readIsland p r = none) (s : Dev) : sendRead p r s = s := by
  simp only [sendRead, h]

theorem sendRead_register {p i : Nat} {r : HostRead} (hbar : r.bar = 0) (h : readIsland p r = some i) (s : Dev) :
    sendRead p r s = s.setPort p { s.port p with lastRead := SMap.put (0, 0) (s.port p).lastRead i (0, r.off) } := by
  simp [sendRead, h, hbar]

theorem readWaits_bar0 {s : Dev} {p : Nat} {r : HostRead} (hbar : r.bar = 0) :
    readWaits s p r = (s.port p).held.any (fun e => readIsland p r == some e.1) := by
  simp [readWaits, hbar]

theorem registerRead_reserved {m off : Nat} (h : 0x9000 ≤ off % 65536) (len : Nat) (s : Dev) : registerRead m off len s = emit (.readData m 0) s := if_pos h

/-- Outside MGT a register's read returns its word's bytes, and one of 8 bytes latches. -/
theorem registerRead_word {v i off : Nat} (hi : i < 18) (hoff : off < 2048) (hmgt : i ≠ isl.MGT) (m len : Nat) (s : Dev) :
    registerRead m (v * 65536 + i * 2048 + off) len s =
      emit (.readData m (halfOf off len (blockWord s m i (off - off % 8)))) (if len = 8 then latchHigh m i (off - off % 8) s else s) := by
  have hin : ¬ 0x9000 ≤ (v * 65536 + i * 2048 + off) % 65536 := by omega
  have hisl : regIsland (v * 65536 + i * 2048 + off) = i := by unfold regIsland; omega
  have hblk : regBlockOff (v * 65536 + i * 2048 + off) = off := by unfold regBlockOff; omega
  have hmod : (v * 65536 + i * 2048 + off) % 8 = off % 8 := by omega
  have hhalf : ∀ x, halfOf (v * 65536 + i * 2048 + off) len x = halfOf off len x := fun x => by rw [halfOf, halfOf, hmod]
  simp only [registerRead, hin, hisl, hblk, hmod, hhalf, hmgt, false_and, if_false]

theorem halfOf_whole (off : Nat) (w : W64) : halfOf off 8 w = w := rfl

theorem halfOf_low {off : Nat} (h : off % 8 = 0) (w : W64) : halfOf off 4 w = BitVec.ofNat 64 (fld w 31 0) := by
  simp [halfOf, h]

theorem halfOf_high {off : Nat} (h : off % 8 = 4) (w : W64) : halfOf off 4 w = BitVec.ofNat 64 (fld w 63 32) := by
  simp [halfOf, h]

/-! ### The latched high word of a pair (R126, R127) -/

theorem lowWord_not_high {i off : Nat} (h : lowWord i off = true) : ¬ (8 ≤ off ∧ lowWord i (off - 8) = true) := by
  rintro ⟨h8, h'⟩
  simp only [lowWord, Bool.or_eq_true, Bool.and_eq_true, beq_iff_eq, decide_eq_true_eq, isl.ACT0, isl.ACT1] at h h'
  omega

theorem blockWord_low {i off : Nat} (h : lowWord i off = true) (s : Dev) (m : Nat) : blockWord s m i off = readReg s m i off :=
  if_neg (lowWord_not_high h)

theorem blockWord_high {i off : Nat} (h : lowWord i off = true) (s : Dev) (m : Nat) : blockWord s m i (off + 8) = highWord s m i off := by
  rw [blockWord, Nat.add_sub_cancel, if_pos ⟨Nat.le_add_left 8 off, h⟩]

theorem highWord_latched {m i o off : Nat} {v : W64} {s : Dev} (h : SMap.get none s.regs.shadows (32 * m + i) = some (o, v)) :
    highWord s m i off = if o = off then v else readReg s m i (off + 8) := by
  simp only [highWord, shadowKey, h]

theorem latchHigh_other {i off : Nat} (h : lowWord i off = false) (m : Nat) (s : Dev) : latchHigh m i off s = s := by
  simp [latchHigh, h]

/-- The latch is the reading master's for the island; no other shadow moves. -/
theorem get_latchHigh_shadows {i off : Nat} (h : lowWord i off = true) (m : Nat) (s : Dev) (k : Nat) :
    SMap.get none (latchHigh m i off s).regs.shadows k =
      if k = 32 * m + i then some (off, readReg s m i (off + 8)) else SMap.get none s.regs.shadows k := by
  simp only [latchHigh, h, if_true, SMap.get_put, shadowKey]

theorem latchHigh_frame (m i off : Nat) (s : Dev) :
    latchHigh m i off s = { s with regs := (latchHigh m i off s).regs } ∧ (latchHigh m i off s).regs.words = s.regs.words ∧
    (latchHigh m i off s).regs.applyCount = s.regs.applyCount := by
  unfold latchHigh
  split <;> exact ⟨rfl, rfl, rfl⟩

/-- What a port keeps of a register read that it sends to island `i`: the member while the read is performed. -/
def readSent (r : HostRead) (i : Nat) (s : Dev) : Dev :=
  let p := r.master - 8
  if (8 ≤ r.master ∧ r.master ≤ 10) ∧ i ≠ p then
    s.setPort p { s.port p with lastRead := SMap.put (0, 0) (s.port p).lastRead i (0, r.off) } else s

theorem readSent_regs (r : HostRead) (i : Nat) (s : Dev) : (readSent r i s).regs = s.regs := by
  unfold readSent
  dsimp only
  split <;> rfl

theorem sendRead_readSent {r : HostRead} {v i off : Nat} (hhost : 8 ≤ r.master ∧ r.master ≤ 10) (hbar : r.bar = 0)
    (hr : r.off = v * 65536 + i * 2048 + off) (hv : v < 4) (hi : i < 18) (hoff : off < 2048) (s : Dev) :
    sendRead (r.master - 8) r s = readSent r i s := by
  have hisl : regIsland r.off = i := by unfold regIsland; omega
  have hto := readIsland_register hbar (show r.off < 0x40000 by omega) (r.master - 8)
  rw [hisl] at hto
  by_cases hown : i = r.master - 8
  · rw [if_pos (.inl hown)] at hto
    rw [sendRead_nowhere hto, readSent, if_neg (fun h => h.2 hown)]
  · rw [if_neg (by omega)] at hto
    rw [sendRead_register hbar hto, readSent, if_pos ⟨hhost, hown⟩]

/-- A read of a register, of a shape that R110 permits, is performed: from inside the device at once, through a port that does not hold it back. -/
theorem readArrive_register {r : HostRead} {v i off : Nat} {s : Dev} (hbar : r.bar = 0) (hr : r.off = v * 65536 + i * 2048 + off) (hv : v < 4)
    (hi : i < 18) (hoff : off < 2048) (hshape : regShape r.off r.len = true)
    (hport : 8 ≤ r.master ∧ r.master ≤ 10 → ((s.port (r.master - 8)).link r.half).usable = true ∧ (s.port (r.master - 8)).rrs = false ∧
      readWaits s (r.master - 8) r = false) :
    readArrive r s = registerRead r.master (v * 65536 + i * 2048 + off) r.len (readSent r i s) := by
  have hreg : r.off < 0x40000 := by omega
  have hshape' : readShape r = true := by rw [readShape_register hbar hreg, hshape]
  rw [← hr]
  by_cases hhost : 8 ≤ r.master ∧ r.master ≤ 10
  · obtain ⟨hu, hrrs, hwait⟩ := hport hhost
    rw [readArrive_host hhost, hostRead_performed hu hrrs (readWrongPort_register hbar hreg _ _) hshape' hwait, performRead_register hbar hreg,
      sendRead_readSent hhost hbar hr hv hi hoff]
  · rw [readArrive_inside hhost hbar hshape', performRead_register hbar hreg, readSent, if_neg (fun h => hhost h.1)]

/-- Settles O16: an arriving read is `registerRead` at its island (`readArrive_register`), whose latch touches one shadow (`get_latchHigh_shadows`); the
port's own answers are the cases of `hostRead_judged`. -/
theorem registerReads : Obligations.RegisterReads := by
  refine ⟨fun r v i off s hwf hbar hr hv hi hoff hmgt => ?_, fun m i off d h => blockWord_high h d m, fun m i off o v d h => highWord_latched h,
    fun r s hwf hm8 hm10 => ⟨fun h => ?_, fun hu hrrs => ⟨fun h => ?_, fun hbar hserved => ?_, fun hport hshape => ?_,
      fun hport hshape => ⟨fun hwait => ?_, fun hwait => ?_⟩, fun i h hbar hreg hheld hown hin hisl => ?_, fun hbar hreg hres hshape => ?_⟩⟩⟩
  · intro p host hport d
    have hd : d = readSent r i s.dev := rfl
    have hb : regShape r.off r.len = true → _ := fun hshape =>
      (becomes_lowWordRead_alone (s := s) hwf).of_eq ((readArrive_register hbar hr hv hi hoff hshape hport).trans
        (registerRead_word hi hoff hmgt r.master r.len d))
    have hmod : r.off % 8 = off % 8 := by omega
    simp only [regShape, hmod] at hb
    refine ⟨fun hlen hal hlow => ?_, fun hlen hal => ?_, fun hlen hal => ?_, fun hlen hal hlow => ?_⟩
    · have h8 := hb (by simp [hlen, hal])
      rw [hlen, hal] at h8
      exact h8.of_eq (by rw [if_pos rfl, Nat.sub_zero, latchHigh_other hlow, halfOf_whole])
    · have h4 := hb (by simp [hlen]; omega)
      rw [hlen, halfOf_low hal, hal] at h4
      exact h4
    · have h4 := hb (by simp [hlen]; omega)
      rw [hlen, halfOf_high hal, hal] at h4
      exact h4
    · have h8 := hb (by simp [hlen, hal])
      rw [hlen, hal, Nat.sub_zero, halfOf_whole, if_pos rfl, blockWord_low hlow] at h8
      have hregs : d.regs = s.dev.regs := readSent_regs r i s.dev
      obtain ⟨hframe, hwords, hcount⟩ := latchHigh_frame r.master i off d
      have hshadow := get_latchHigh_shadows hlow r.master d
      refine h8.ends ⟨?_, hwords.trans (by rw [hregs]), hcount.trans (by rw [hregs]), fun d2 h2 => ?_, fun m2 i2 _ hi2 hne => ?_⟩
      · rw [hframe]; rfl
      · rw [highWord_latched, if_pos rfl]
        rw [h2]
        exact (hshadow _).trans (if_pos rfl)
      · rw [← hregs]
        exact (hshadow _).trans (if_neg (by omega))
  all_goals have hb := (becomes_lowWordRead_alone (s := s) hwf).of_eq (readArrive_host ⟨hm8, hm10⟩ s.dev)
  · exact hb.of_eq (hostRead_unheard h)
  all_goals have hj := hb.of_eq (hostRead_judged hu hrrs)
  · exact hj.of_eq (if_pos h)
  · simp [readWrongPort, hbar, hserved]
  · exact hj.of_eq (by simp [hport, hshape])
  · exact hj.of_eq (by simp [hport, hshape, hwait])
  · exact hj.of_eq (by simp [hport, hshape, hwait])
  · rw [readWaits_bar0 hbar, hheld, readIsland_register hbar hreg, if_neg (by unfold regIsland; omega)]
    simpa [regIsland] using hisl
  · have hto : readIsland (r.master - 8) r = none := by rw [readIsland_register hbar hreg, if_pos (.inr hres)]
    have hwait : readWaits s.dev (r.master - 8) r = false := by rw [readWaits_bar0 hbar, hto]; simp
    have hshape' : readShape r = true := by rw [readShape_register hbar hreg, hshape]
    refine hb.of_eq ?_
    rw [hostRead_performed hu hrrs (readWrongPort_register hbar hreg _ _) hshape' hwait, sendRead_nowhere hto, performRead_register hbar hreg,
      registerRead_reserved hres]

end Sys2Proof.Machine
end

section
/-! Start-up (R530 to R534): what a report leaves of the member, and what each stage does in its turn. -/
namespace Sys2Proof.Machine

/-! ### The fault log (R163, R164) -/

/-- What a signal on a port's MSI-X table may change: that table, and what leaves the block (R198). -/
theorem msixHalf_frame (p : Nat) (half : Bool) (entry : Nat) (s : Dev) :
    msixHalf p half entry s = { s with ports := (msixHalf p half entry s).ports, out := (msixHalf p half entry s).out } := by
  unfold msixHalf
  dsimp only
  split
  · rfl
  · split
    · rfl
    · split <;> rfl

theorem setLink_rrs (x : HostPort) (half : Bool) (l : HostLink) : (x.setLink half l).rrs = x.rrs := by
  cases half <;> rfl

theorem port_msixHalf_rrs (p : Nat) (half : Bool) (entry : Nat) (s : Dev) (j : Nat) : ((msixHalf p half entry s).port j).rrs = (s.port j).rrs := by
  unfold msixHalf
  dsimp only
  split
  · rfl
  · split
    · rw [Dev.port_setPort]
      split
      · next h => rw [setLink_rrs, h]
      · rfl
    · split <;> rfl

/-- `e` is `s` but for records of the fault log and what tells of them: start-up, the ciphers, RRS and the firmware's own state stand. -/
structure LoggedFrom (s e : Dev) : Prop where
  boot : e.boot = s.boot
  cry : e.cry = s.cry
  mgt : e.mgt = { s.mgt with faults := e.mgt.faults, nextIndex := e.mgt.nextIndex }
  rrs : ∀ p, (e.port p).rrs = (s.port p).rrs

theorem LoggedFrom.refl (s : Dev) : LoggedFrom s s := ⟨rfl, rfl, rfl, fun _ => rfl⟩

theorem LoggedFrom.trans {s e f : Dev} (h : LoggedFrom s e) (h' : LoggedFrom e f) : LoggedFrom s f :=
  ⟨h'.boot.trans h.boot, h'.cry.trans h.cry, h'.mgt.trans (by rw [h.mgt]), fun p => (h'.rrs p).trans (h.rrs p)⟩

theorem loggedFrom_msixSignal (p entry : Nat) (s : Dev) : LoggedFrom s (msixSignal p entry s) := by
  unfold msixSignal
  split <;>
  · refine ⟨?_, ?_, ?_, port_msixHalf_rrs _ _ _ _⟩ <;> rw [msixHalf_frame]

theorem mgt_msixSignal (p entry : Nat) (s : Dev) : (msixSignal p entry s).mgt = s.mgt := by
  unfold msixSignal
  split <;> rw [msixHalf_frame]

theorem whenB_count_mgt (b : Bool) (c : Ctr) (i : Nat) (s : Dev) : (whenB b (count c i) s).mgt = s.mgt := by
  cases b <;> rfl

theorem loggedFrom_whenB (b : Bool) {f : Dev → Dev} {s : Dev} (h : LoggedFrom s (f s)) : LoggedFrom s (whenB b f s) := by
  cases b
  · exact LoggedFrom.refl s
  · exact h

theorem loggedFrom_count (c : Ctr) (i : Nat) (s : Dev) : LoggedFrom s (count c i s) := ⟨rfl, rfl, rfl, fun _ => rfl⟩

theorem loggedFrom_logFault (source dest : Nat) (code : BitVec 16) (kind : Nat) (d2 d3 : W64) (s : Dev) :
    LoggedFrom s (logFault source dest code kind d2 d3 s) := by
  unfold logFault
  dsimp only
  refine LoggedFrom.trans ?_ ((loggedFrom_whenB _ (loggedFrom_count _ _ _)).trans (loggedFrom_msixSignal _ _ _))
  split <;> exact ⟨rfl, rfl, rfl, fun _ => rfl⟩

/-- The record joins the log's end; where 1,024 stand, the oldest leaves. -/
theorem logFault_faults (source dest : Nat) (code : BitVec 16) (kind : Nat) (d2 d3 : W64) (s : Dev) :
    ∃ r : FaultRec, r.code = code ∧ r.detail2 = d2 ∧ (logFault source dest code kind d2 d3 s).mgt.faults =
      (if 1024 ≤ s.mgt.faults.length then s.mgt.faults.drop 1 else s.mgt.faults) ++ [r] := by
  refine ⟨⟨s.now, source, dest, code, kind, s.mgt.nextIndex, d2, d3⟩, rfl, rfl, ?_⟩
  unfold logFault
  dsimp only
  rw [mgt_msixSignal, whenB_count_mgt]
  simp only [decide_eq_true_eq]
  split <;> split <;> rfl

theorem logFault_last (source dest : Nat) (code : BitVec 16) (kind : Nat) (d2 d3 : W64) (s : Dev) :
    (logFault source dest code kind d2 d3 s).mgt.faults.getLast?.map (fun f => (f.code, f.detail2)) = some (code, d2) := by
  obtain ⟨r, rfl, rfl, h⟩ := logFault_faults source dest code kind d2 d3 s
  rw [h, List.getLast?_concat]
  rfl

/-- The newest records stay, while they are fewer than the log holds. -/
theorem suffix_logFault {fs : List FaultRec} {s : Dev} (h : fs <:+ s.mgt.faults) (hlen : fs.length < 1024) (source dest : Nat) (code : BitVec 16)
    (kind : Nat) (d2 d3 : W64) :
    ∃ r : FaultRec, r.code = code ∧ r.detail2 = d2 ∧ fs ++ [r] <:+ (logFault source dest code kind d2 d3 s).mgt.faults := by
  obtain ⟨r, hc, hd, hf⟩ := logFault_faults source dest code kind d2 d3 s
  obtain ⟨pre, hpre⟩ := h
  rw [← hpre] at hf
  refine ⟨r, hc, hd, ?_⟩
  rw [hf]
  split
  · next hfull =>
    cases pre with
    | nil => exact absurd hfull (Nat.not_le.mpr hlen)
    | cons f pre => exact ⟨pre, (List.append_assoc pre fs [r]).symm⟩
  · exact ⟨pre, (List.append_assoc pre fs [r]).symm⟩

/-! ### Stages and their commands (R530, Table 16-1) -/

theorem inStage_of {s : Dev} {n : Nat} (hs : s.boot.started ≠ none) (h : s.boot.stage = n) : s.inStage n = true := by
  simp [Dev.inStage, h, Option.isSome_iff_ne_none.mpr hs]

theorem inStage_other {s : Dev} {n : Nat} (h : s.boot.started = none ∨ s.boot.stage ≠ n) : s.inStage n = false := by
  rcases h with h | h <;> simp [Dev.inStage, h]

theorem spiBus_frame (b : Bool) (s : Dev) :
    (spiBus b s).boot = { s.boot with spiBusy := b } ∧ (spiBus b s).mgt = s.mgt ∧ (spiBus b s).cry = s.cry := by
  unfold spiBus
  split
  · next h => exact ⟨by rw [← h], rfl, rfl⟩
  · exact ⟨rfl, rfl, rfl⟩

theorem endRrs_rrs (s : Dev) {p : Nat} (hp : p < 3) : ((endRrs s).port p).rrs = false := by
  have h : (endRrs s).port p = { s.port p with rrs := false } :=
    port_of_mapPorts (s := s) (d := endRrs s) (f := fun x => { x with rrs := false }) rfl hp
  rw [h]

/-- FAILED: stage 15 with its cause, no RRS, no firmware started (R533). -/
theorem bootFailed_spec (cause : Nat) (s : Dev) :
    (bootFailed cause s).boot.stage = 15 ∧ (bootFailed cause s).boot.cause = cause ∧ (∀ p, p < 3 → ((bootFailed cause s).port p).rrs = false) ∧
    (bootFailed cause s).mgt = s.mgt :=
  ⟨rfl, rfl, fun _ hp => endRrs_rrs _ hp, rfl⟩

/-! ### Power-on reset and firmware load (R530, R532, R533, R556, R559) -/

theorem porRelease_idle {mgr i2c mv : Nat} {s : Dev} (h : s.boot.porHeld = false) : porRelease mgr i2c mv s = s := by
  simp [porRelease, h]

/-- What the release samples and sets; stage 0 begins at once where PERST# of the manager port is high (R530, R556, R559). -/
theorem porRelease_spec {mgr i2c mv : Nat} {s : Dev} (hpor : s.boot.porHeld = true) (hst : s.boot.started = none) (htr : s.boot.tripped = false)
    (hpf : s.boot.powerFail = false) :
    let p := if mgr = 3 then 0 else mgr
    let e := porRelease mgr i2c mv s
    e.mgrPort = p ∧ e.boot.porHeld = false ∧ e.boot.i2cAddr = i2c ∧ e.boot.coreMv = mv ∧ e.boot.stage = s.boot.stage ∧
    e.out = .avsTarget mv :: s.out ∧ e.mgt.bindings = [(0, ⟨BitVec.ofNat 8 (8 + p), true⟩)] ∧
    e.boot.started = (if (s.port p).perst then none else some s.now) := by
  intro p e
  have he : e = tryStart (emit (.avsTarget mv) { s with
      mgrPort := p, mgt := mgtAfterReset p, boot := { s.boot with porHeld := false, i2cAddr := i2c, coreMv := mv, avsAt := some s.now } }) := if_pos hpor
  cases hperst : (s.port p).perst with
  | true =>
    rw [he, tryStart_perst hperst]
    exact ⟨rfl, rfl, rfl, rfl, rfl, rfl, rfl, hst⟩
  | false =>
    rw [he.trans (tryStart_starts hst rfl htr hpf hperst)]
    exact ⟨rfl, rfl, rfl, rfl, rfl, rfl, rfl, rfl⟩

theorem cause_zero_iff (x : ImageRead) : ImageRead.cause x = 0 ↔ x.signed = true ∧ x.decrypts = true ∧ x.newEnough = true := by
  unfold ImageRead.cause
  cases x.signed <;> cases x.decrypts <;> cases x.newEnough <;> decide

theorem cause_of_bad {x : ImageRead} (h : ImageRead.cause x ≠ 0) :
    ImageRead.cause x = if x.signed = true ∧ x.decrypts = true then 2 else 1 := by
  obtain ⟨signed, decrypts, newEnough, _, _⟩ := x
  cases signed <;> cases decrypts <;> cases newEnough <;> simp [ImageRead.cause] at h ⊢

/-- With both images bad, FAILED says whether one of them was only too old (Table 16-7). -/
theorem failed_cause {a b : ImageRead} (ha : ImageRead.cause a ≠ 0) (hb : ImageRead.cause b ≠ 0) :
    let c := if ImageRead.cause a = 2 ∨ ImageRead.cause b = 2 then 2 else 1
    (a.signed = false ∨ a.decrypts = false → b.signed = false ∨ b.decrypts = false → c = 1) ∧
    (a.signed = true → a.decrypts = true → b.signed = true → b.decrypts = true → c = 2) := by
  have unreadable : ∀ x : ImageRead, x.signed = false ∨ x.decrypts = false → ¬ (x.signed = true ∧ x.decrypts = true) := by
    rintro x (h | h) <;> simp [h]
  rw [cause_of_bad ha, cause_of_bad hb]
  refine ⟨fun ha1 hb1 => ?_, fun ha1 ha2 hb1 hb2 => ?_⟩
  · rw [if_neg (unreadable a ha1), if_neg (unreadable b hb1)]
    rfl
  · simp only [ha1, ha2, hb1, hb2, and_self, if_true]
    rfl

theorem fwLoad_imageA {a b : ImageRead} {s : Dev} (hs : s.inStage 1 = true) (ha : ImageRead.cause a = 0) :
    fwLoad a b s = loadImageOf a false 0 (spiBus false s) := by
  simp only [fwLoad, hs, ha, if_true]

theorem fwLoad_imageB {a b : ImageRead} {s : Dev} (hs : s.inStage 1 = true) (ha : ImageRead.cause a ≠ 0) (hb : ImageRead.cause b = 0) :
    fwLoad a b s = loadImageOf b true (ImageRead.cause a) (spiBus false s) := by
  simp only [fwLoad, hs, ha, hb, if_true, if_false]

theorem fwLoad_failed {a b : ImageRead} {s : Dev} (hs : s.inStage 1 = true) (ha : ImageRead.cause a ≠ 0) (hb : ImageRead.cause b ≠ 0) :
    fwLoad a b s = bootFailed (if ImageRead.cause a = 2 ∨ ImageRead.cause b = 2 then 2 else 1) (spiBus false s) := by
  simp only [fwLoad, hs, ha, hb, if_true, if_false]

/-- What an image that is taken leaves (R479, R532; Table 13-3). -/
theorem loadImageOf_spec (x : ImageRead) (inB : Bool) (causeA : Nat) (s : Dev) :
    let e := loadImageOf x inB causeA (spiBus false s)
    (e.boot.stage = 2 ∧ e.boot.version = x.version ∧ e.cry.ste = .test ∧ e.cry.imageVersion = x.steVersion ∧
      e.cry.patchLevel = s.cry.staged.getD s.cry.patchLevel ∧ e.cry.staged = none ∧ e.boot.spiBusy = false ∧ e.mgt = s.mgt) ∧
    e.boot.imageB = inB ∧ e.boot.causeA = causeA := by
  obtain ⟨hboot, hmgt, hcry⟩ := spiBus_frame false s
  refine ⟨⟨rfl, rfl, rfl, rfl, ?_, rfl, congrArg Boot.spiBusy hboot, hmgt⟩, rfl, rfl⟩
  rw [← hcry]
  rfl

/-! ### Self-test (R147, R533, R534) -/

/-- A cipher's failing test is reported (R534). -/
def reportTest (island : Nat) (code : BitVec 16) (t : Option Byte) (s : Dev) : Dev :=
  match t with
  | some t => logFault island 0xFF code 0 (mk64 [t.toNat]) 0 s
  | none => s

theorem loggedFrom_reportTest (island : Nat) (code : BitVec 16) (t : Option Byte) (s : Dev) : LoggedFrom s (reportTest island code t s) := by
  cases t with
  | none => exact LoggedFrom.refl s
  | some t => exact loggedFrom_logFault _ _ _ _ _ _ s

/-- The state that the self-test leaves when TRU and the journal pass, before anything is reported. -/
def testedWith (lcp ste : Option Byte) (s : Dev) : Dev :=
  let t := endRrs (bindInternal { s with cry := { s.cry with lcpReady := lcp.isNone, ste := if ste.isNone then .recovery else .failed } })
  { t with mgt := { t.mgt with fwUp := true, fwVersion := t.boot.version, wdogAt := t.now } }

theorem bindInternal_binds (s : Dev) (c : Nat) (id : Byte)
    (h : (c, id) ∈ ([(240, 0x10), (241, 0x11), (242, 0x12), (243, 0x05)] : List (Nat × Byte))) :
    SMap.get ⟨0, false⟩ (bindInternal s).mgt.bindings c = (⟨id, true⟩ : Binding) := by
  simp only [List.mem_cons, Prod.mk.injEq, List.not_mem_nil, or_false] at h
  rcases h with ⟨rfl, rfl⟩ | ⟨rfl, rfl⟩ | ⟨rfl, rfl⟩ | ⟨rfl, rfl⟩ <;> simp [bindInternal, SMap.get_put]

/-- What the self-test leaves stands through every report of it. -/
theorem LoggedFrom.tested {lcp ste : Option Byte} {s e : Dev} (h : LoggedFrom (testedWith lcp ste s) e) :
    (∀ p, p < 3 → (e.port p).rrs = false) ∧ e.mgt.fwUp = true ∧ e.mgt.fwVersion = s.boot.version ∧ e.cry.lcpReady = lcp.isNone ∧
    e.cry.ste = (if ste = none then .recovery else .failed) ∧
    ∀ c id, (c, id) ∈ ([(240, 0x10), (241, 0x11), (242, 0x12), (243, 0x05)] : List (Nat × Byte)) →
      SMap.get ⟨0, false⟩ e.mgt.bindings c = (⟨id, true⟩ : Binding) := by
  obtain ⟨_, hcry, hmgt, hrrs⟩ := h
  rw [hmgt, hcry]
  refine ⟨fun p hp => (hrrs p).trans (endRrs_rrs _ hp), rfl, rfl, rfl, ?_, fun c id hc => bindInternal_binds _ c id hc⟩
  cases ste <;> rfl

/-- The state that the self-test leaves when TRU and the journal pass, with what is reported: a start from image B, and each cipher's failing test. -/
def reportedWith (lcp ste : Option Byte) (s : Dev) : Dev :=
  setStage 4 (reportTest isl.STE 0x0E01 ste (reportTest isl.LCP 0x0D05 lcp
    (whenB s.boot.imageB (logFault isl.MGT 0xFF 0x1003 0 (mk64 [lo 8 s.boot.causeA]) 0) (testedWith lcp ste s))))

theorem selfTest_passed {lcp ste : Option Byte} {s : Dev} (hs : s.inStage 3 = true) : selfTest true true lcp ste s = reportedWith lcp ste s := by
  rw [selfTest, if_pos hs]
  cases lcp <;> cases ste <;> rfl

theorem selfTest_leaves (lcp ste : Option Byte) (s : Dev) :
    let e := reportedWith lcp ste s
    let last := e.mgt.faults.getLast?.map (fun f => (f.code, f.detail2))
    e.boot.stage = 4 ∧ (∀ p, p < 3 → (e.port p).rrs = false) ∧ e.mgt.fwUp = true ∧ e.mgt.fwVersion = s.boot.version ∧
    e.cry.lcpReady = lcp.isNone ∧ e.cry.ste = (if ste = none then .recovery else .failed) ∧
    (∀ c id, (c, id) ∈ ([(240, 0x10), (241, 0x11), (242, 0x12), (243, 0x05)] : List (Nat × Byte)) →
      SMap.get ⟨0, false⟩ e.mgt.bindings c = (⟨id, true⟩ : Binding)) ∧
    (∀ t, lcp = some t → ste = none → last = some (0x0D05, mk64 [t.toNat])) ∧ (∀ t, ste = some t → last = some (0x0E01, mk64 [t.toNat])) ∧
    (lcp = none → ste = none → s.boot.imageB = true → last = some (0x1003, mk64 [lo 8 s.boot.causeA])) := by
  have hfw := loggedFrom_whenB s.boot.imageB (loggedFrom_logFault isl.MGT 0xFF 0x1003 0 (mk64 [lo 8 s.boot.causeA]) 0 (testedWith lcp ste s))
  obtain ⟨hrrs, hup, hversion, hlcp, hste, hbind⟩ :=
    ((hfw.trans (loggedFrom_reportTest isl.LCP 0x0D05 lcp _)).trans (loggedFrom_reportTest isl.STE 0x0E01 ste _)).tested
  refine ⟨rfl, hrrs, hup, hversion, hlcp, hste, hbind, fun t hl hn => ?_, fun t ht => ?_, fun hl hn hB => ?_⟩
  · rw [hl, hn]
    exact logFault_last _ _ _ _ _ _ _
  · rw [ht]
    exact logFault_last _ _ _ _ _ _ _
  · simp only [reportedWith, hl, hn, hB]
    exact logFault_last _ _ _ _ _ _ _

/-! ### Training (R485) -/

theorem training_locked {fails : List (BitVec 48)} {small : Bool} {s : Dev} {k : Nat} (hs : s.inStage 4 = true) (ht : s.boot.trainFailed = false)
    (hk : fails.findIdx? (fun f => f == 0) = some k) :
    training fails small s =
      setStage 5 { s with mem := { s.mem with trained := true, speed := k, small := small, intervalAt := s.now, windowAt := s.now } } := by
  simp only [training, hs, ht, hk, Bool.not_false, Bool.and_self, if_true]

theorem findIdx?_clean_here (fails : List (BitVec 48)) : (0 :: fails).findIdx? (fun f => f == 0) = some 0 := rfl

theorem findIdx?_clean_skip {f : BitVec 48} (h : f ≠ 0) (fails : List (BitVec 48)) :
    (f :: fails).findIdx? (fun f => f == 0) = (fails.findIdx? (fun f => f == 0)).map (· + 1) := by
  have hf : (f == 0) = false := beq_eq_false_iff_ne.mpr h
  rw [List.findIdx?_cons, hf, if_neg Bool.false_ne_true]

theorem training_idle {fails : List (BitVec 48)} {small : Bool} {s : Dev} (ht : s.boot.trainFailed = true) : training fails small s = s := by
  simp [training, ht]

/-- The channels that failed at the lowest step are reported one by one. -/
def reportChannels (cs : List Nat) (s : Dev) : Dev := cs.foldl (fun s c => logFault isl.MEM 0xFF 0x0F01 0 (mk64 [c]) 0 s) s

theorem loggedFrom_reportChannels (cs : List Nat) (s : Dev) : LoggedFrom s (reportChannels cs s) := by
  induction cs generalizing s with
  | nil => exact LoggedFrom.refl s
  | cons c cs ih => exact (loggedFrom_logFault _ _ _ _ _ _ s).trans (ih _)

/-- As many reports as the log holds all stand in it, behind what was newest before. -/
theorem suffix_reportChannels (cs : List Nat) {fs : List FaultRec} {s : Dev} (h : fs <:+ s.mgt.faults) (hlen : fs.length + cs.length ≤ 1024) :
    ∃ new : List FaultRec, fs ++ new <:+ (reportChannels cs s).mgt.faults ∧
      new.map (fun f => (f.code, f.detail2)) = cs.map (fun c => ((0x0F01 : BitVec 16), mk64 [c])) := by
  induction cs generalizing fs s with
  | nil => exact ⟨[], by rwa [List.append_nil], rfl⟩
  | cons c cs ih =>
    rw [List.length_cons] at hlen
    obtain ⟨r, hc, hd, hr⟩ := suffix_logFault h (by omega) isl.MEM 0xFF 0x0F01 0 (mk64 [c]) 0
    obtain ⟨new, hnew, hmap⟩ := ih hr (by rw [List.length_append, List.length_singleton]; omega)
    refine ⟨r :: new, ?_, ?_⟩
    · rw [List.append_assoc] at hnew
      exact hnew
    · rw [List.map_cons, List.map_cons, hmap, hc, hd]

theorem mem_reportChannels {cs : List Nat} (hlen : cs.length ≤ 1024) (s : Dev) {c : Nat} (hc : c ∈ cs) :
    ∃ f ∈ (reportChannels cs s).mgt.faults, f.code = 0x0F01 ∧ f.detail2 = mk64 [c] := by
  obtain ⟨new, hnew, hmap⟩ := suffix_reportChannels cs (List.nil_suffix (l := s.mgt.faults)) (by simpa using hlen)
  have hin : ((0x0F01 : BitVec 16), mk64 [c]) ∈ new.map (fun f => (f.code, f.detail2)) := by
    rw [hmap]
    exact List.mem_map_of_mem hc
  obtain ⟨f, hf, hfc⟩ := List.mem_map.mp hin
  obtain ⟨hcode, hdet⟩ := Prod.mk.inj hfc
  exact ⟨f, hnew.subset hf, hcode, hdet⟩

theorem training_failed {fails : List (BitVec 48)} {last : BitVec 48} {small : Bool} {s : Dev} (hs : s.inStage 4 = true)
    (ht : s.boot.trainFailed = false) (hk : fails.findIdx? (fun f => f == 0) = none) (hlast : fails.getLast? = some last) :
    training fails small s =
      let e := reportChannels ((List.range 48).filter (fun c => last.getLsbD c)) s
      { e with mem := { e.mem with small := small }, boot := { e.boot with trainFailed := true } } := by
  simp only [training, hs, ht, hk, hlast, Bool.not_false, Bool.and_self, if_true]
  rfl

/-! ### Rejoin and ready (R102, R439) -/

/-- Stage 6 ends with a settled member, and with one that forms no string. -/
theorem rejoin_entered {s e : Dev} (hs : s.inStage 6 = true)
    (he : e = if s.boot.entered then s else enterString { s with boot := { s.boot with entered := true } }) :
    (e.str.mode = 0 ∨ e.str.state = .settled → rejoin s = setStage 7 e) ∧ (e.str.mode ≠ 0 → e.str.state ≠ .settled → rejoin s = e) := by
  have hr : rejoin s = if e.str.mode = 0 ∨ e.str.state = .settled then setStage 7 e else e := by
    rw [rejoin, if_pos hs, ← he]
  exact ⟨fun h => hr.trans (if_pos h), fun hm hst => hr.trans (if_neg (not_or.mpr ⟨hm, hst⟩))⟩

theorem readyNow_first {s : Dev} {u : Time} (hs : s.inStage 7 = true) (hu : s.boot.started = some u) (hr : s.boot.ready = false) :
    readyNow s = { s with boot := { s.boot with ready := true, msToReady := Time.since s.now u / 1000000 } } := by
  simp only [readyNow, hs, hu, hr, Bool.not_false, Bool.and_self, if_true]

theorem readyNow_again {s : Dev} (hr : s.boot.ready = true) : readyNow s = s := by
  simp [readyNow, hr]

/-- Settles O57: in another stage each command leaves the member alone (`inStage_other`); in its own it is the stage's equation, and what is reported on
the way leaves all else standing (`LoggedFrom`). -/
theorem startUpStages : Obligations.StartUpStages := by
  refine ⟨fun mgr i2c mv s hm hi hv1 hv2 => ?_, fun s => ⟨fun h => ?_, fun h a b => ?_, fun h rom fw ste => ?_, fun h tru jnl lcp ste => ?_,
    fun h a b c e small => ?_, fun h bad => ?_, fun h => ?_, fun h => ?_⟩, fun s hst => ?_⟩
  · have hb := becomes_powerOnResetRelease mgr i2c mv s (by simp [Wf.powerOnResetRelease, hm, hi, hv1, hv2])
    exact ⟨fun h => hb.of_eq (porRelease_idle h), fun hpor hst htr hpf => hb.ends (porRelease_spec hpor hst htr hpf)⟩
  · exact (becomes_romStage s rfl).of_eq (by simp [romStage, inStage_other h])
  · exact (becomes_fwLoad a b s rfl).of_eq (by simp [fwLoad, inStage_other h])
  · exact (becomes_measureStage rom fw ste s rfl).of_eq (by simp [measure, inStage_other h])
  · exact (becomes_selfTest tru jnl lcp ste s rfl).of_eq (by simp [selfTest, inStage_other h])
  · exact (becomes_trainingStage a b c e small s rfl).of_eq (by simp [training, inStage_other h])
  · exact (becomes_replayStage bad s rfl).of_eq (by simp [replay, inStage_other h])
  · exact (becomes_rejoinStage s rfl).of_eq (by simp [rejoin, inStage_other h])
  · exact (becomes_readyStage s rfl).of_eq (by simp [readyNow, inStage_other h])
  · intro d at_ rrsEnds failed
    refine ⟨fun h => ?_, fun a b h => ?_, fun rom fw ste h => ?_, fun jnl lcp ste h => ?_, fun f36 f32 f28 f24 small h htf => ?_,
      fun h htf f36 f32 f28 f24 small => ?_, fun h hin => ?_, fun h hin => ?_, fun u h hu hr => ?_, fun h hr => ?_⟩
    all_goals have hs := inStage_of hst h
    · obtain ⟨hboot, _⟩ := spiBus_frame true d
      exact ((becomes_romStage s rfl).of_eq (if_pos hs)).ends ⟨rfl, congrArg Boot.spiBusy hboot⟩
    · intro good taken
      have hb := becomes_fwLoad a b s rfl
      have hbad := fun x (hx : ¬ good x) => mt (cause_zero_iff x).mp hx
      refine ⟨fun ha => ?_, fun ha hbg => ?_, fun ha hbg => ?_⟩
      · obtain ⟨htaken, hB, -⟩ := loadImageOf_spec a false 0 d
        exact (hb.of_eq (fwLoad_imageA hs ((cause_zero_iff a).mpr ha))).ends ⟨htaken, hB⟩
      · obtain ⟨htaken, hB, hA⟩ := loadImageOf_spec b true (ImageRead.cause a) d
        exact (hb.of_eq (fwLoad_imageB hs (hbad a ha) ((cause_zero_iff b).mpr hbg))).ends ⟨htaken, hB, hA.trans (cause_of_bad (hbad a ha))⟩
      · obtain ⟨hboot, hmgt, -⟩ := spiBus_frame false d
        obtain ⟨hstage, hcause, hrrs, hkept⟩ := bootFailed_spec
          (if ImageRead.cause a = 2 ∨ ImageRead.cause b = 2 then 2 else 1) (spiBus false d)
        refine (hb.of_eq (fwLoad_failed hs (hbad a ha) (hbad b hbg))).ends
          ⟨_, ⟨hstage, hcause, hrrs, hkept.trans hmgt⟩, congrArg Boot.spiBusy hboot, failed_cause (hbad a ha) (hbad b hbg)⟩
    · refine (becomes_measureStage rom fw ste s rfl).of_eq ?_
      rw [measure, if_pos hs]
      rfl
    · have hpass := (becomes_selfTest true true lcp ste s rfl).of_eq (selfTest_passed hs)
      refine ⟨((becomes_selfTest false jnl lcp ste s rfl).of_eq (if_pos hs)).ends (bootFailed_spec 3 d),
        ((becomes_selfTest true false lcp ste s rfl).of_eq (if_pos hs)).ends (bootFailed_spec 4 d), hpass.ends (selfTest_leaves lcp ste d)⟩
    · intro locked
      have hb := becomes_trainingStage f36 f32 f28 f24 small s rfl
      refine ⟨fun h36 => ?_, fun h36 h32 => ?_, fun h36 h32 h28 => ?_, fun h36 h32 h28 h24 => ?_, fun h36 h32 h28 h24 => ?_⟩
      · exact hb.of_eq (training_locked hs htf (by rw [h36, findIdx?_clean_here]))
      · exact hb.of_eq (training_locked hs htf (by rw [findIdx?_clean_skip h36, h32]; rfl))
      · exact hb.of_eq (training_locked hs htf (by rw [findIdx?_clean_skip h36, findIdx?_clean_skip h32, h28]; rfl))
      · exact hb.of_eq (training_locked hs htf (by rw [findIdx?_clean_skip h36, findIdx?_clean_skip h32, findIdx?_clean_skip h28, h24]; rfl))
      · obtain ⟨hboot, -, -, -⟩ := loggedFrom_reportChannels ((List.range 48).filter (fun c => f24.getLsbD c)) d
        have hstage := congrArg Boot.stage hboot
        have hready := congrArg Boot.ready hboot
        have hall : [f36, f32, f28, f24].findIdx? (fun f => f == 0) = none := by
          rw [findIdx?_clean_skip h36, findIdx?_clean_skip h32, findIdx?_clean_skip h28, findIdx?_clean_skip h24]; rfl
        refine (hb.of_eq (training_failed (last := f24) hs htf hall rfl)).ends
          ⟨hstage.trans h, rfl, hready, fun c hc hf => ?_⟩
        refine mem_reportChannels (Nat.le_trans (List.length_filter_le _ _) (by simp)) d ?_
        exact List.mem_filter.mpr ⟨List.mem_range.mpr hc, hf⟩
    · exact (becomes_trainingStage f36 f32 f28 f24 small s rfl).of_eq (training_idle htf)
    · obtain ⟨hsettled, hwaits⟩ := rejoin_entered hs (if_pos hin).symm
      exact ⟨fun he => (becomes_rejoinStage s rfl).of_eq (hsettled he), fun hm hne => (becomes_rejoinStage s rfl).of_eq (hwaits hm hne)⟩
    · obtain ⟨hsettled, hwaits⟩ := rejoin_entered hs (if_neg (Bool.eq_false_iff.mp hin)).symm
      exact ⟨fun he => (becomes_rejoinStage s rfl).of_eq (hsettled he), fun hm hne => (becomes_rejoinStage s rfl).of_eq (hwaits hm hne)⟩
    · exact (becomes_readyStage s rfl).of_eq (readyNow_first hs hu hr)
    · exact (becomes_readyStage s rfl).of_eq (readyNow_again hr)

end Sys2Proof.Machine
end

section
/-! Commands and the queue (R16, R570): every command is its function on the member, guarded by its well-formedness, and a step takes the front one. -/
namespace Sys2Proof.Machine

/-- Every command's meaning is `ran`: a function on the member, which acts where the command is well formed. -/
theorem exec_eq_ran (c : Instr) : ∃ f : Dev → Dev, ∀ s : State, exec c s = ran c.wf f s := by
  cases c <;> exact ⟨_, fun _ => rfl⟩

theorem exec_of_wf {c : Instr} (h : c.wf = true) (s : State) : Ends c s (fun _ => True) := by
  obtain ⟨f, hf⟩ := exec_eq_ran c
  exact ⟨f s.dev, (hf s).trans (ran_becomes h), trivial⟩

theorem exec_of_not_wf {c : Instr} (h : c.wf = false) (s : State) : exec c s = .refused .illFormed := by
  obtain ⟨f, hf⟩ := exec_eq_ran c
  rw [hf, ran, h, if_neg Bool.false_ne_true]

/-- A step of a queue of well-formed commands completes, and leaves the queue without its front. -/
theorem step_of_fit {s : State} (h : s.fit) : ∃ d : Dev, step s = .next { dev := d, pending := s.pending.drop 1 } := by
  obtain ⟨dev, pending⟩ := s
  cases pending with
  | nil => exact ⟨tick dev, rfl⟩
  | cons c rest =>
    have hc : c.wf = true := (List.all_eq_true.mp h) c List.mem_cons_self
    obtain ⟨d, hd, -⟩ := exec_of_wf hc { dev := dev, pending := rest }
    exact ⟨d, hd⟩

theorem fit_drop {s t : State} (h : s.fit) {n : Nat} (ht : t.pending = s.pending.drop n) : t.fit :=
  List.all_eq_true.mpr fun c hc => List.all_eq_true.mp h c (List.mem_of_mem_drop (ht ▸ hc))

theorem run_of_fit (n : Nat) {s : State} (h : s.fit) :
    ∃ t : State, Host.Core.run core n s = .next t ∧ t.pending = s.pending.drop n := by
  induction n generalizing s with
  | zero => exact ⟨s, rfl, rfl⟩
  | succ n ih =>
    obtain ⟨d, hd⟩ := step_of_fit h
    obtain ⟨t, hrun, hpend⟩ := ih (fit_drop (t := { dev := d, pending := s.pending.drop 1 }) h rfl)
    refine ⟨t, ?_, ?_⟩
    · have hstep : core.step s = .next { dev := d, pending := s.pending.drop 1 } := hd
      simpa only [Host.Core.run, hstep] using hrun
    · rw [hpend, List.drop_drop, Nat.add_comm]

/-- Settles O2: each command is `ran` of its own function (`exec_eq_ran`), so a step of a fit queue drops its front (`step_of_fit`); then induction on the
number of steps. -/
theorem queuesRunThrough : Obligations.QueuesRunThrough := by
  refine ⟨fun c s => ⟨fun h => exec_of_wf h s, fun h => exec_of_not_wf h s⟩, fun s t h hstep => ?_, fun n s h => ?_⟩
  · obtain ⟨d, hd⟩ := step_of_fit h
    obtain rfl : _ = t := Host.Outcome.next.inj (hd.symm.trans hstep)
    exact fit_drop h rfl
  · obtain ⟨t, hrun, hpend⟩ := run_of_fit n h
    exact ⟨t, hrun, hpend, fit_drop h hpend⟩

end Sys2Proof.Machine
end

section
/-! Mailbox channels (R133 to R158, R569): what an interrupt may touch, what a response writes, how a channel write arrives, and whose turn it is. -/
namespace Sys2Proof.Machine

/-! ### What an interrupt takes (R135, R193, R195, R198) -/

/-- `e` is `s` but for what an interrupt takes: counters, what leaves the block, the slices' vectors and the ports' MSI-X tables. -/
def SignalledFrom (s e : Dev) : Prop := e = { s with ctr := e.ctr, out := e.out, slices := e.slices, ports := e.ports }

theorem SignalledFrom.refl (s : Dev) : SignalledFrom s s := rfl

theorem SignalledFrom.trans {s e f : Dev} (h : SignalledFrom s e) (h' : SignalledFrom e f) : SignalledFrom s f :=
  Eq.trans h' (by rw [h])

theorem SignalledFrom.mgt {s e : Dev} (h : SignalledFrom s e) : e.mgt = s.mgt := by
  unfold SignalledFrom at h
  rw [h]

theorem SignalledFrom.now {s e : Dev} (h : SignalledFrom s e) : e.now = s.now := by
  unfold SignalledFrom at h
  rw [h]

theorem SignalledFrom.chan {s e : Dev} (h : SignalledFrom s e) (k : Nat) : e.chan k = s.chan k := by
  rw [Dev.chan, h.mgt, Dev.chan]

theorem signalledFrom_whenB (b : Bool) {f : Dev → Dev} {s : Dev} (h : SignalledFrom s (f s)) : SignalledFrom s (whenB b f s) := by
  cases b
  · exact SignalledFrom.refl s
  · exact h

theorem signalledFrom_count (c : Ctr) (i : Nat) (s : Dev) : SignalledFrom s (count c i s) := rfl

theorem signalledFrom_emit (o : Out) (s : Dev) : SignalledFrom s (emit o s) := rfl

theorem signalledFrom_setVec (n v : Nat) (x : Vec) (s : Dev) : SignalledFrom s (s.setVec n v x) := rfl

theorem signalledFrom_msixHalf (p : Nat) (half : Bool) (entry : Nat) (s : Dev) : SignalledFrom s (msixHalf p half entry s) := by
  have h := msixHalf_frame p half entry s
  exact h.trans (by rw [h])

theorem signalledFrom_msixSignal (p entry : Nat) (s : Dev) : SignalledFrom s (msixSignal p entry s) := by
  unfold msixSignal
  split <;> exact signalledFrom_msixHalf _ _ _ _

theorem signalledFrom_vecTry (n v : Nat) (s : Dev) : SignalledFrom s (vecTry n v s) := by
  unfold vecTry
  dsimp only
  split
  · split <;> exact rfl
  · exact SignalledFrom.refl s

theorem signalledFrom_vecEvent (n v : Nat) (s : Dev) : SignalledFrom s (vecEvent n v s) := by
  unfold vecEvent
  split
  · exact (signalledFrom_setVec n v _ s).trans ((signalledFrom_whenB _ (signalledFrom_count _ _ _)).trans (signalledFrom_vecTry _ _ _))
  · exact SignalledFrom.refl s

theorem signalledFrom_mbxEvent (ch : Nat) (s : Dev) : SignalledFrom s (mbxEvent ch s) := by
  unfold mbxEvent sliceEvent
  split
  · split
    · exact SignalledFrom.refl s
    · exact signalledFrom_vecEvent _ _ _
  · split
    · split
      · exact signalledFrom_msixSignal _ _ _
      · exact SignalledFrom.refl s
    · exact SignalledFrom.refl s

/-! ### The response slot (R139, R150, R154, R158) -/

theorem mk64_toNat (l : List Nat) : (mk64 l).toNat = l.sum % 2 ^ 64 := by
  rw [mk64, BitVec.toNat_ofNat, List.sum_eq_foldl]

/-- The parts of a response's word 0 lie side by side (R150). -/
theorem respWord_toNat (op : Nat) (seq : BitVec 16) (st : Status) (replayed : Bool) (n : Nat) :
    (respWord op seq st replayed n).toNat =
      op % 2 ^ 16 + seq.toNat * 2 ^ 16 + st.code * 2 ^ 32 + b2n replayed * 2 ^ 47 + n % 2 ^ 16 * 2 ^ 48 := by
  have hseq : seq.toNat < 65536 := seq.isLt
  have hst : st.code < 16 := by cases st <;> decide
  have hrep : b2n replayed ≤ 1 := by cases replayed <;> decide
  have hop : op % 2 ^ 16 < 65536 := Nat.mod_lt _ (by decide)
  have hn : n % 2 ^ 16 < 65536 := Nat.mod_lt _ (by decide)
  rw [respWord, mk64_toNat]
  unfold at' lo
  generalize op % 2 ^ 16 = a at *
  generalize n % 2 ^ 16 = b at *
  rw [List.sum_cons, List.sum_cons, List.sum_cons, List.sum_cons, List.sum_cons, List.sum_nil]
  omega

theorem Status.code_eq_ctorIdx (st : Status) : st.code = st.ctorIdx := by cases st <;> rfl

/-- The fields of a response's word 0, no replay's (R150). -/
theorem respWord_fields (op : Nat) (seq : BitVec 16) (st : Status) {n : Nat} (hn : n < 65536) :
    let w := respWord op seq st false n
    fld w 15 0 = op % 65536 ∧ fld w 31 16 = seq.toNat ∧ fld w 46 32 = st.ctorIdx ∧ bit w 47 = false ∧ fld w 63 48 = n := by
  intro w
  have hseq : seq.toNat < 65536 := seq.isLt
  have hst : st.code < 16 := by cases st <;> decide
  have hop : op % 2 ^ 16 < 65536 := Nat.mod_lt _ (by decide)
  have hw : w.toNat = op % 2 ^ 16 + seq.toNat * 2 ^ 16 + st.code * 2 ^ 32 + 0 * 2 ^ 47 + n % 2 ^ 16 * 2 ^ 48 := respWord_toNat op seq st false n
  unfold fld bit
  rw [hw, ← Status.code_eq_ctorIdx, beq_eq_false_iff_ne]
  generalize hg : op % 2 ^ 16 = a at *
  refine ⟨?_, ?_, ?_, ?_, ?_⟩ <;> omega

/-- The response slot is written whole, EMPTY and EXECUTING fall together, and the rest is what the response event takes. -/
theorem writeResponse_signalled (ch op : Nat) (seq : BitVec 16) (st : Status) (replayed : Bool) (len : Nat) (ws : List W64) (s : Dev) :
    SignalledFrom (s.setChan ch { s.chan ch with
      response := respWord op seq st replayed len :: (ws ++ List.replicate (7 - ws.length) 0), empty := false, executing := false, current := none })
      (writeResponse ch op seq st replayed len ws s) := by
  unfold writeResponse
  dsimp only
  have hcount (b : Bool) (c : Ctr) (e : Dev) : SignalledFrom e (whenB b (count c 0) e) := signalledFrom_whenB b (signalledFrom_count c 0 e)
  exact (hcount _ _ _).trans ((hcount _ _ _).trans ((hcount _ _ _).trans ((signalledFrom_emit _ _).trans
    (signalledFrom_whenB _ (signalledFrom_mbxEvent _ _)))))

/-- The end of a command enters the history whether or not its response is still awaited (R155, R158). -/
def Dev.endedIn (d : Dev) (j : Job) (st : Status) (ws : List W64) : Dev :=
  d.setChan j.ch { d.chan j.ch with
    history := histEnd j.no st ws (d.chan j.ch).history, running := (d.chan j.ch).running.filter (fun n => n != j.no) }

theorem answer_late {j : Job} {d : Dev} (h : ¬ ((d.chan j.ch).executing = true ∧ (d.chan j.ch).current = some ⟨j.no, j.opcode, j.seq⟩)) (st : Status)
    (ws : List W64) : answer j st ws d = d.endedIn j st ws := if_neg h

theorem answer_inline {j : Job} {d : Dev} {ws : List W64} (hx : (d.chan j.ch).executing = true)
    (hc : (d.chan j.ch).current = some ⟨j.no, j.opcode, j.seq⟩) (hb : j.indirect = false ∨ ws = []) (st : Status) :
    answer j st ws d = writeResponse j.ch j.opcode j.seq st false (8 * ws.length) ws (d.endedIn j st ws) := by
  have hind : ¬ (j.indirect = true ∧ ws ≠ []) := fun h => hb.elim (by simp [h.1]) h.2
  exact (if_pos ⟨hx, hc⟩).trans (if_neg hind)

theorem chan_endedIn (d : Dev) (j : Job) (st : Status) (ws : List W64) (k : Nat) : (d.endedIn j st ws).chan k =
    if k = j.ch then { d.chan j.ch with
      history := histEnd j.no st ws (d.chan j.ch).history, running := (d.chan j.ch).running.filter (fun n => n != j.no) } else d.chan k :=
  Dev.chan_setChan _ _ _ _

/-- An answer that needs no buffer touches the command's channel and what its event takes; where the response is still awaited it fills the slot. -/
theorem answer_signalled {j : Job} {ws : List W64} (hb : j.indirect = false ∨ ws = []) (st : Status) (d : Dev) :
    ∃ e : Dev, SignalledFrom e (answer j st ws d) ∧ e = { d with mgt := { d.mgt with chans := e.mgt.chans } } ∧ (∀ k, k ≠ j.ch → e.chan k = d.chan k) ∧
      (e.chan j.ch).history = histEnd j.no st ws (d.chan j.ch).history ∧ (e.chan j.ch).running = (d.chan j.ch).running.filter (fun n => n != j.no) ∧
      ((d.chan j.ch).executing = true → (d.chan j.ch).current = some ⟨j.no, j.opcode, j.seq⟩ →
        (e.chan j.ch).empty = false ∧ (e.chan j.ch).executing = false ∧ (e.chan j.ch).current = none ∧
        (e.chan j.ch).response = respWord j.opcode j.seq st false (8 * ws.length) :: (ws ++ List.replicate (7 - ws.length) 0)) := by
  by_cases h : (d.chan j.ch).executing = true ∧ (d.chan j.ch).current = some ⟨j.no, j.opcode, j.seq⟩
  · rw [answer_inline h.1 h.2 hb st]
    refine ⟨_, writeResponse_signalled _ _ _ _ _ _ _ _, rfl, fun k hk => ?_, ?_⟩
    · rw [Dev.chan_setChan, if_neg hk, chan_endedIn, if_neg hk]
    · rw [Dev.chan_setChan_self, chan_endedIn, if_pos rfl]
      exact ⟨rfl, rfl, fun _ _ => ⟨rfl, rfl, rfl, rfl⟩⟩
  · rw [answer_late h st ws]
    refine ⟨_, SignalledFrom.refl _, rfl, fun k hk => ?_, ?_⟩
    · rw [chan_endedIn, if_neg hk]
    · rw [chan_endedIn, if_pos rfl]
      exact ⟨rfl, rfl, fun hx hc => absurd ⟨hx, hc⟩ h⟩

/-! ### Writes of a channel region (R108, R130, R136 to R145) -/

/-- The member at which MGT performs master `m`'s write to channel `ch`: at once from inside the device, from a host port with its buffer for MGT
taken, where the port serves the channel and holds no write (R108, R118, R145). -/
def ChanWriteAt (m ch : Nat) (half : Bool) (s t : Dev) : Prop :=
  (m < 8 ∨ 10 < m) ∧ t = s ∨
    (8 ≤ m ∧ m ≤ 10 ∧ (4096 ≤ ch ∨ pageServed s (m - 8) half ch = true) ∧ ((s.port (m - 8)).link half).usable = true ∧ (s.port (m - 8)).rrs = false ∧
      (s.port (m - 8)).held = none ∧ (s.port (m - 8)).dbHeld = none ∧ (s.port (m - 8)).xbusy.getLsbD 15 = false ∧
      t = s.setPort (m - 8) { s.port (m - 8) with xbusy := (s.port (m - 8)).xbusy ||| BitVec.ofNat 18 (2 ^ 15) })

/-- What a host port makes of a channel write that it takes up: the port's page is judged first, then a reserved offset, then the shape. -/
theorem chanArrive_host {m : Nat} {half : Bool} {ch off len : Nat} {h : HeldWrite} {s : Dev} (h8 : 8 ≤ m) (h10 : m ≤ 10)
    (hu : ((s.port (m - 8)).link half).usable = true) (hr : (s.port (m - 8)).rrs = false) (hh : (s.port (m - 8)).held = none)
    (hd : (s.port (m - 8)).dbHeld = none) :
    chanArrive m half ch off len h s =
      if ch < 4096 ∧ pageServed s (m - 8) half ch = false then wrongPort (m - 8) 0 (chanOff ch off) true s
      else if 0x100 ≤ off then s
      else if shapeOk off len = false then
        emit (.aer (m - 8) false 0 (chanOff ch off)) (count .hifBadAccess (m - 8) (abort (m - 8) 0 (chanOff ch off) true 3 s))
      else postedWrite (m - 8) isl.MGT h (performChan h) s := by
  unfold chanArrive
  simp [h8, h10, hu, hr, postedBlocked_of_free hh hd]

/-- The port serves the channel: it is no slice's, or the slice's page is the port's. -/
theorem not_wrongPage {s : Dev} {p ch : Nat} {half : Bool} (h : 4096 ≤ ch ∨ pageServed s p half ch = true) :
    ¬ (ch < 4096 ∧ pageServed s p half ch = false) := by
  rintro ⟨hlt, hf⟩
  rcases h with h | h
  · omega
  · exact Bool.false_ne_true (hf.symm.trans h)

theorem chanArrive_performs {m ch : Nat} {half : Bool} {s t : Dev} (ht : ChanWriteAt m ch half s t) {off len : Nat} (hoff : off < 0x100)
    (hs : shapeOk off len = true) (h : HeldWrite) : chanArrive m half ch off len h s = performChan h t := by
  rcases ht with ⟨hm, rfl⟩ | ⟨h8, h10, hch, hu, hr, hh, hd, hx, rfl⟩
  · have hhost : ¬ (8 ≤ m ∧ m ≤ 10) := by omega
    rw [chanArrive, if_neg hhost, if_pos ⟨hoff, hs⟩]
  · rw [chanArrive_host h8 h10 hu hr hh hd, if_neg (not_wrongPage hch), if_neg (Nat.not_le.mpr hoff), if_neg (by simp [hs]), postedWrite_free hx]

theorem shapeOk_iff {off len : Nat} (h : off < 0x80) (hlen : 0 < len) :
    shapeOk off len = true ↔ off % 4 = 0 ∧ len % 4 = 0 ∧ off % 64 + len ≤ 64 := by
  simp [shapeOk, h, hlen, and_assoc]

theorem chanWrite_denied {m ch : Nat} {s : Dev} (h : s.sender ch ≠ some m) (off : Nat) (bs : List Byte) :
    chanWrite m ch off bs s = count .mbxBindDenied 0 s := if_pos h

theorem chanWrite_request {m ch off : Nat} {s : Dev} (h : s.sender ch = some m) (hoff : off < 0x40) (bs : List Byte) :
    chanWrite m ch off bs s =
      if (s.chan ch).full = true then rejectWrite m ch off s else s.setChan ch { s.chan ch with request := overlay (s.chan ch).request 8 off bs } := by
  simp [chanWrite, h, hoff]

theorem chanDoorbell_bound {m ch : Nat} {s : Dev} (h : s.sender ch = some m) (post taken : Bool) :
    chanDoorbell m ch post taken s = if (post && (s.chan ch).full) = true then rejectWrite m ch 0x80 s else doorbellBits ch post taken s := by
  simp [chanDoorbell, h]

theorem doorbellBits_post (ch : Nat) (taken : Bool) (s : Dev) : doorbellBits ch true taken s =
    s.setChan ch { s.chan ch with empty := (s.chan ch).empty || taken, full := true, captured := (s.chan ch).request } := by
  cases taken
  · rw [Bool.or_false]; rfl
  · rw [Bool.or_true]; rfl

theorem rejectWrite_chan (m ch off : Nat) (s : Dev) :
    (rejectWrite m ch off s).chan ch = { s.chan ch with rejectCount := (s.chan ch).rejectCount + 1 } := by
  rw [rejectWrite]
  split <;> exact Dev.chan_setChan_self s ch _

theorem counter_count_self (c : Ctr) (i : Nat) (s : Dev) : (count c i s).counter c i = s.counter c i + 1 :=
  (counter_countBy c i 1 s _).trans (if_pos rfl)

theorem rejectWrite_counter (m ch off : Nat) (s : Dev) : (rejectWrite m ch off s).counter .mbxReject 0 = s.counter .mbxReject 0 + 1 := by
  rw [rejectWrite]
  split <;> exact counter_count_self .mbxReject 0 (s.setChan ch _)

/-! ### Taking a request (R138, R149, R569) -/

theorem nextChannel_mem {last c : Nat} {cs : List Nat} (h : nextChannel last cs = some c) : c ∈ cs := by
  rcases List.mem_append.mp (List.mem_of_head? h) with hc | hc
  · exact (List.mem_filter.mp hc).1
  · exact hc

theorem nextChannel_none {last : Nat} {cs : List Nat} (h : nextChannel last cs = none) : cs = [] :=
  (List.append_eq_nil_iff.mp (List.head?_eq_none_iff.mp h)).2

/-- The channel served next has a request to take, and where it is a slice's no manager channel has one (R569). -/
theorem servedNext_spec {s : Dev} {ch : Nat} (h : servedNext s = some ch) :
    takeable s ch = true ∧ (ch < 4096 → ∀ n, 4096 ≤ n → n ∈ s.mgt.chans.map Prod.fst → takeable s n = false) := by
  unfold servedNext at h
  dsimp only at h
  split at h
  · next c hc =>
    obtain rfl : c = ch := Option.some.inj h
    obtain ⟨hmem, hle⟩ := List.mem_filter.mp (nextChannel_mem hc)
    exact ⟨(List.mem_filter.mp hmem).2, fun hlt => absurd (of_decide_eq_true hle) (Nat.not_le.mpr hlt)⟩
  · next hnone =>
    split at h
    · have hmem := (List.mem_filter.mp (nextChannel_mem h)).1
      refine ⟨(List.mem_filter.mp hmem).2, fun _ n hn hkey => Bool.eq_false_iff.mpr fun ht => ?_⟩
      have : n ∈ ([] : List Nat) :=
        nextChannel_none hnone ▸ List.mem_filter.mpr ⟨List.mem_filter.mpr ⟨hkey, ht⟩, decide_eq_true hn⟩
      exact absurd this List.not_mem_nil
    · exact absurd h (by simp)

theorem takeable_iff {s : Dev} {ch : Nat} : takeable s ch = true ↔
    s.mgt.fwUp = true ∧ (s.sender ch).isSome = true ∧ (s.chan ch).full = true ∧ (s.chan ch).empty = true ∧ (s.chan ch).executing = false := by
  simp only [takeable, Dev.idleChan, Bool.and_eq_true, Bool.not_eq_true']
  constructor
  · rintro ⟨⟨⟨⟨hfw, hsender⟩, hempty⟩, hexec⟩, hfull⟩
    exact ⟨hfw, hsender, hfull, hempty, hexec⟩
  · rintro ⟨hfw, hsender, hfull, hempty, hexec⟩
    exact ⟨⟨⟨⟨hfw, hsender⟩, hempty⟩, hexec⟩, hfull⟩

theorem emptySlot_chan (ch : Nat) (s : Dev) : (emptySlot ch s).chan ch = { s.chan ch with full := false } := by
  have hserved (e : Dev) : (served ch e).chan ch = e.chan ch := by
    unfold served Dev.chan
    split <;> rfl
  rw [emptySlot, (signalledFrom_whenB _ (signalledFrom_mbxEvent ch _)).chan, hserved, Dev.chan_setChan_self]

/-- An opcode names one command at most. -/
theorem commandTable_opcodes_nodup : (commandTable.map Prod.fst).Nodup := by decide

theorem find?_key_of_nodup {α : Type} {l : List (Nat × α)} (hl : (l.map Prod.fst).Nodup) {k : Nat} {x : α} (h : (k, x) ∈ l) :
    l.find? (fun e => e.1 == k) = some (k, x) := by
  induction l with
  | nil => exact absurd h List.not_mem_nil
  | cons e t ih =>
    obtain ⟨hne, ht⟩ := List.nodup_cons.mp hl
    rcases List.mem_cons.mp h with rfl | h
    · exact List.find?_cons_of_pos (beq_self_eq_true k)
    · have hek : ¬ (e.1 == k) = true := fun he => hne (beq_iff_eq.mp he ▸ List.mem_map.mpr ⟨(k, x), h, rfl⟩)
      exact (List.find?_cons_of_neg (p := fun y : Nat × α => y.1 == k) hek).trans (ih ht h)

theorem commandTable_find {op : Nat} {f : Nat → Req → Dev → Dev} (h : (op, f) ∈ commandTable) :
    commandTable.find? (fun e => e.1 == op) = some (op, f) := find?_key_of_nodup commandTable_opcodes_nodup h

theorem requestTake_idle {ch : Nat} {host : HostIO} {s : Dev} (h : servedNext s ≠ some ch) : requestTake ch host s = s := if_pos h

theorem requestTake_command {ch : Nat} {host : HostIO} {s : Dev} (h : servedNext s = some ch) {f : Nat → Req → Dev → Dev}
    (hf : (fld ((s.chan ch).captured.getD 0 0) 15 0, f) ∈ commandTable) :
    requestTake ch host s = f ch (frameReq (s.chan ch).captured host) (emptySlot ch s) := by
  simp only [requestTake, h, commandTable_find hf, ne_eq, not_true_eq_false, if_false]

theorem requestTake_unknown {ch : Nat} {host : HostIO} {s : Dev} (h : servedNext s = some ch)
    (hop : ∀ e ∈ commandTable, e.1 ≠ fld ((s.chan ch).captured.getD 0 0) 15 0) :
    requestTake ch host s =
      unknownCommand (fld ((s.chan ch).captured.getD 0 0) 15 0) ch (frameReq (s.chan ch).captured host) (emptySlot ch s) := by
  have hnone : commandTable.find? (fun e => e.1 == fld ((s.chan ch).captured.getD 0 0) 15 0) = none :=
    List.find?_eq_none.mpr fun e he => by simpa using hop e he
  simp only [requestTake, h, hnone, ne_eq, not_true_eq_false, if_false]

/-- Settles O17: channel writes by `chanArrive_performs` and `chanArrive_host`, a taken request by `servedNext_spec` and the opcode's one entry in the
command table, the end of a command by `answer_signalled`. -/
theorem mailboxes : Obligations.Mailboxes := by
  refine ⟨fun m ch half s t hm hch ht => ?_, fun m ch off half bs s hwf h8 h10 hu hr hh hd => ?_, fun ch host s hwf => ?_,
    fun j st ws d hb hlen hch => ?_⟩
  · have hdoor {post taken : Bool} : chanArrive m half ch 0x80 8 (.doorbell m half ch post taken) s.dev = chanDoorbell m ch post taken t :=
      chanArrive_performs ht (by decide) rfl _
    refine ⟨fun off bs hbs hoff h4 hlen hend => ?_, fun both hsend => ?_, fun hsend => ?_, rejectWrite_chan m ch 0x80 t, rejectWrite_counter m ch 0x80 t⟩
    · have hwf : Wf.mbxRequestWrite m half ch off bs = true := by
        have : off < if ch < 4096 then 4096 else 256 := by split <;> omega
        simp [Wf.mbxRequestWrite, hm, hch, this, hbs]
      have hshape : shapeOk off bs.length = true := (shapeOk_iff (by omega) hbs).mpr ⟨h4, hlen, by omega⟩
      have hb := (becomes_mbxRequestWrite m half ch off bs s hwf).of_eq (chanArrive_performs ht (by omega) hshape _)
      exact ⟨fun hs => hb.of_eq (chanWrite_denied hs off bs),
        fun hs hf => hb.of_eq ((chanWrite_request hs hoff bs).trans (if_neg (by simp [hf]))),
        fun hs hf => hb.of_eq ((chanWrite_request hs hoff bs).trans (if_pos hf))⟩
    · have hb := (becomes_postRequest m half ch both s (by simp [Wf.postRequest, hm, hch])).of_eq (hdoor.trans (chanDoorbell_bound hsend true both))
      exact ⟨fun hf => hb.of_eq (if_pos (by simp [hf])), fun hf => hb.of_eq ((if_neg (by simp [hf])).trans (doorbellBits_post ch both t))⟩
    · exact (becomes_taken m half ch s (by simp [Wf.taken, hm, hch])).of_eq (hdoor.trans (chanDoorbell_bound hsend false true))
  · have hb := (becomes_mbxRequestWrite m half ch off bs s hwf).of_eq (chanArrive_host h8 h10 hu hr hh hd)
    refine ⟨fun hlt hp => hb.of_eq (if_pos ⟨hlt, hp⟩), fun hp => ?_⟩
    have hb := hb.of_eq (if_neg (not_wrongPage hp))
    refine ⟨fun hoff => hb.of_eq (if_pos hoff), fun hoff hbad => hb.of_eq ?_⟩
    have hlen : 0 < bs.length := by simp only [Wf.mbxRequestWrite, Bool.and_eq_true, decide_eq_true_eq] at hwf; exact hwf.2
    have hshape : shapeOk off bs.length = false := Bool.eq_false_iff.mpr (mt (shapeOk_iff hoff hlen).mp hbad)
    exact (if_neg (by omega)).trans (if_pos hshape)
  · have hb := becomes_requestTake ch host s hwf
    refine ⟨fun h => hb.of_eq (requestTake_idle h), fun h => ?_⟩
    obtain ⟨htake, hfirst⟩ := servedNext_spec h
    exact ⟨takeable_iff.mp htake, hfirst, fun f hf => hb.of_eq (requestTake_command h hf), fun hop => hb.of_eq (requestTake_unknown h hop),
      emptySlot_chan ch s.dev⟩
  · obtain ⟨e, he, hmgt, hother, hhist, hrun, hslot⟩ := answer_signalled hb st d
    have hchan := he.chan
    intro c e'
    refine ⟨(congrArg _ (hchan _)).trans hhist, (congrArg _ (hchan _)).trans hrun, fun k hk => (hchan k).trans (hother k hk), ?_, fun hx hc => ?_,
      fun h => answer_late h st ws⟩
    · rw [hmgt] at he
      exact Eq.trans he (by rw [show e'.mgt = _ from he.mgt])
    · obtain ⟨hempty, hexec, hcur, hresp⟩ := hslot hx hc
      obtain ⟨hop, hseq, hst, hrep, hn⟩ := respWord_fields j.opcode j.seq st (n := 8 * ws.length) (by omega)
      rw [show e'.chan j.ch = e.chan j.ch from hchan j.ch]
      exact ⟨hempty, hexec, hcur, _, hresp, hop, hseq, hst, hrep, hn⟩

end Sys2Proof.Machine
end

section
/-! The response timer, the firmware's watchdog and restart, and DEVICE_RESET's reset (R155, R159 to R162). -/
namespace Sys2Proof.Machine

/-! ### The response timer (R155) -/

theorem reach_chan (t : Time) (s : Dev) (k : Nat) : (reach t s).chan k = s.chan k := by
  unfold reach
  split
  · rfl
  · unfold Dev.atTime mgtAt Dev.chan
    split <;> rfl

theorem responseTimeout_executing {ch no op : Nat} {seq : BitVec 16} {s : Dev} (hx : (s.chan ch).executing = true)
    (hc : (s.chan ch).current = some ⟨no, op, seq⟩) :
    responseTimeout ch s = logFault isl.MGT 0xFF 0x1002 0 (mk64 [lo 13 ch, at' seq.toNat 16, at' (lo 16 op) 32]) 0
      (count .mbxTimeouts 0 (writeResponse ch op seq .timeout false 0 [] (reach (s.chan ch).deadline s))) := by
  simp only [responseTimeout, hx, hc]

/-- A response leaves the channel's history and its unfinished commands to the command's end (R155). -/
theorem writeResponse_history (ch op : Nat) (seq : BitVec 16) (st : Status) (replayed : Bool) (len : Nat) (ws : List W64) (s : Dev) :
    ((writeResponse ch op seq st replayed len ws s).chan ch).history = (s.chan ch).history ∧
      ((writeResponse ch op seq st replayed len ws s).chan ch).running = (s.chan ch).running := by
  rw [(writeResponse_signalled ch op seq st replayed len ws s).chan, Dev.chan_setChan_self]
  exact ⟨rfl, rfl⟩

/-! ### The watchdog (R159) -/

theorem SignalledFrom.outside {s e : Dev} {g : Mgt} {o : Observe} (h : SignalledFrom { s with mgt := g, obs := o } e) :
    e = { s with mgt := e.mgt, obs := e.obs, ctr := e.ctr, ports := e.ports, slices := e.slices, out := e.out } := by
  have hobs : e.obs = o := congrArg Dev.obs (show e = _ from h)
  exact Eq.trans h (by rw [h.mgt, hobs])

/-- What a record of the fault log may change: MGT's log, the trace, and what its event takes (R163, R164). -/
theorem logFault_frame (source dest : Nat) (code : BitVec 16) (kind : Nat) (d2 d3 : W64) (s : Dev) :
    logFault source dest code kind d2 d3 s =
      { s with mgt := (logFault source dest code kind d2 d3 s).mgt, obs := (logFault source dest code kind d2 d3 s).obs,
               ctr := (logFault source dest code kind d2 d3 s).ctr, ports := (logFault source dest code kind d2 d3 s).ports,
               slices := (logFault source dest code kind d2 d3 s).slices, out := (logFault source dest code kind d2 d3 s).out } := by
  have hsignal (b : Bool) (e : Dev) : SignalledFrom e (msixSignal e.mgrPort 0 (whenB b (count .mgtFaultOverwrite 0) e)) :=
    (signalledFrom_whenB b (signalledFrom_count _ _ e)).trans (signalledFrom_msixSignal _ _ _)
  unfold logFault
  dsimp only
  split <;> exact (hsignal _ _).outside

theorem ctr_msixSignal (p entry : Nat) (s : Dev) : (msixSignal p entry s).ctr = s.ctr := by
  unfold msixSignal
  split <;> rw [msixHalf_frame]

/-- A record moves one counter at most: that of overwritten records. -/
theorem counter_logFault {c : Ctr} (hc : c ≠ .mgtFaultOverwrite) (source dest : Nat) (code : BitVec 16) (kind : Nat) (d2 d3 : W64) (s : Dev) :
    (logFault source dest code kind d2 d3 s).counter c 0 = s.counter c 0 := by
  have hkey : Ctr.key c 0 ≠ Ctr.key .mgtFaultOverwrite 0 := fun h => hc ((Ctr.key_inj (by decide) (by decide)).mp h).1
  have hcount (b : Bool) (e : Dev) : (whenB b (count .mgtFaultOverwrite 0) e).counter c 0 = e.counter c 0 := by
    cases b
    · rfl
    · exact (counter_countBy _ _ _ _ _).trans (if_neg hkey)
  unfold logFault
  dsimp only
  rw [Dev.counter, ctr_msixSignal]
  refine (hcount _ _).trans ?_
  split <;> rfl

theorem logFault_units (source dest : Nat) (code : BitVec 16) (kind : Nat) (d2 d3 : W64) (s : Dev) :
    (logFault source dest code kind d2 d3 s).rules = s.rules ∧ (logFault source dest code kind d2 d3 s).tmg = s.tmg ∧
      (logFault source dest code kind d2 d3 s).qde = s.qde := by
  rw [logFault_frame]
  exact ⟨rfl, rfl, rfl⟩

theorem spiBus_units (b : Bool) (s : Dev) :
    (spiBus b s).rules = s.rules ∧ (spiBus b s).tmg = s.tmg ∧ (spiBus b s).qde = s.qde ∧ (spiBus b s).ctr = s.ctr := by
  unfold spiBus
  split <;> exact ⟨rfl, rfl, rfl, rfl⟩

/-- The member as the watchdog's period leaves it, before the report: no firmware, its semaphores free, the storage engine in RECOVERY (R159; Table 13-3). -/
def firmwareStopped (s : Dev) : Dev :=
  let s1 := freeSems (fun m => decide (1 ≤ m) && decide (m ≤ 4)) { s with mgt := { s.mgt with fwUp := false, fwVersion := 0 } }
  { s1 with
    cry := { s1.cry with ste := if s1.cry.ste = .service then .recovery else s1.cry.ste },
    boot := { s1.boot with stage := if s1.boot.stage = 6 then 5 else s1.boot.stage, entered := false } }

theorem firmwareWatchdog_up {pc : W64} {s : Dev} (h : s.mgt.fwUp = true) : firmwareWatchdog pc s =
    count .mgtWdogRestarts 0 (logFault isl.MGT 0xFF 0x1001 0 pc 0 (spiBus true (firmwareStopped s))) := if_pos h

theorem firmwareStopped_sems (s : Dev) : ∀ e ∈ (firmwareStopped s).mgt.sems, ¬ (1 ≤ e.2.toNat ∧ e.2.toNat ≤ 4) := by
  intro e he hfirmware
  have hkept := (List.mem_filter.mp he).2
  simp only [decide_eq_true hfirmware.1, decide_eq_true hfirmware.2, Bool.and_self, Bool.not_true, Bool.false_eq_true] at hkept

theorem firmwareWatchdog_spec {pc : W64} {s : Dev} (h : s.mgt.fwUp = true) :
    let d := firmwareWatchdog pc s
    d.mgt.fwUp = false ∧ d.mgt.fwVersion = 0 ∧ d.mgt.chans = s.mgt.chans ∧ d.counter .mgtWdogRestarts 0 = s.counter .mgtWdogRestarts 0 + 1 ∧
      d.rules = s.rules ∧ d.tmg = s.tmg ∧ d.qde = s.qde ∧ (∀ e ∈ d.mgt.sems, ¬ (1 ≤ e.2.toNat ∧ e.2.toNat ≤ 4)) ∧
      d.mgt.faults.getLast?.map (fun f => (f.code, f.detail2)) = some (0x1001, pc) := by
  intro d
  have hd : d = count .mgtWdogRestarts 0 (logFault isl.MGT 0xFF 0x1001 0 pc 0 (spiBus true (firmwareStopped s))) := firmwareWatchdog_up h
  obtain ⟨hrules, htmg, hqde, hctr⟩ := spiBus_units true (firmwareStopped s)
  obtain ⟨-, hbus, -⟩ := spiBus_frame true (firmwareStopped s)
  generalize spiBus true (firmwareStopped s) = e at hd hrules htmg hqde hctr hbus
  obtain ⟨hrules', htmg', hqde'⟩ := logFault_units isl.MGT 0xFF 0x1001 0 pc 0 e
  have hlog : d.mgt = { e.mgt with faults := d.mgt.faults, nextIndex := d.mgt.nextIndex } := by
    rw [hd]
    exact (loggedFrom_logFault isl.MGT 0xFF 0x1001 0 pc 0 e).mgt
  rw [hbus] at hlog
  refine ⟨by rw [hlog]; rfl, by rw [hlog]; rfl, by rw [hlog]; rfl, ?_, ?_, ?_, ?_, ?_, ?_⟩
  · rw [hd, counter_count_self, counter_logFault (by decide), Dev.counter, hctr]
    rfl
  · rw [hd]; exact hrules'.trans hrules
  · rw [hd]; exact htmg'.trans htmg
  · rw [hd]; exact hqde'.trans hqde
  · rw [hlog]; exact firmwareStopped_sems s
  · rw [hd]; exact logFault_last isl.MGT 0xFF 0x1001 0 pc 0 e

/-! ### The firmware's restart (R160) -/

/-- The firmware runs: version `v`, its watchdog restarted, the storage engine in service where it was in RECOVERY on a ready member (R160). -/
def firmwareRuns (v : BitVec 32) (d : Dev) : Dev :=
  spiBus false { d with
    mgt := { d.mgt with fwUp := true, fwVersion := v, wdogMs := d.mgt.wdogNextMs, wdogAt := d.now },
    cry := { d.cry with ste := if d.cry.ste = .recovery ∧ d.boot.stage = 7 then .service else d.cry.ste } }

theorem firmwareRestart_down {v : BitVec 32} {s : Dev} (hfw : s.mgt.fwUp = false) (h4 : 4 ≤ s.boot.stage) (h7 : s.boot.stage ≤ 7)
    (hpf : s.boot.powerFail = false) : firmwareRestart v s = if s.jnl.inflight.isEmpty = false then s
      else firmwareRuns v (((haltJobs s).mgt.chans.map Prod.fst).foldl (fun d ch => endHistory ch d) (haltJobs s)) := by
  have h4' : ¬ s.boot.stage < 4 := by omega
  have h7' : ¬ 7 < s.boot.stage := by omega
  simp [firmwareRestart, hfw, h4', h7', hpf, firmwareRuns]

theorem haltCommits_none {s : Dev} (hnext : s.str.nextCommit = none) (hcommit : s.str.commit = none) (hjob : s.str.jobWait = none)
    (hbuild : s.str.buildWait = none) : haltCommits s = s := by
  have hend : endNext .halted s = s := by
    have hstr : { s.str with nextCommit := none } = s.str := by rw [← hnext]
    simp [endNext, answerCommit, hnext, hstr]
  simp only [haltCommits, hend, hcommit, hjob, hbuild]

/-- Where no command goes on, there is nothing to halt. -/
theorem haltJobs_none {s : Dev} (hreset : s.mgt.deviceReset = none) (hnext : s.str.nextCommit = none) (hcommit : s.str.commit = none)
    (hjob : s.str.jobWait = none) (hbuild : s.str.buildWait = none)
    (hslices : ∀ n ∈ s.sliceList, (s.slice n).quiesce.job = none ∧ (s.slice n).quiesce.why ≠ .deviceReset) (haborts : ∀ q, (s.qp q).aborts = []) :
    haltJobs s = s := by
  have hs : haltReset (haltCommits s) = s := by
    rw [haltCommits_none hnext hcommit hjob hbuild]
    simp only [haltReset, hreset]
  have hq (answered : Bool) :
      s.sliceList.filter (fun n => (s.slice n).quiesce.job.isSome || (!answered && (s.slice n).quiesce.why == .deviceReset)) = [] := by
    refine List.filter_eq_nil_iff.mpr fun n hn => ?_
    obtain ⟨hj, hw⟩ := hslices n hn
    simp [hj, hw]
  have ha (qs : List Nat) : qs.filter (fun q => !(s.qp q).aborts.isEmpty) = [] :=
    List.filter_eq_nil_iff.mpr fun q _ => by simp [haborts q]
  simp only [haltJobs, hs, hq, ha, List.foldl_nil]

theorem endHistory_idle {ch : Nat} {d : Dev} (h : (d.chan ch).executing = false) : endHistory ch d =
    d.setChan ch { d.chan ch with running := [], history := (d.chan ch).history.map (fun h => if h.done then h else
      { h with status := (if journalHolds d ch h.no then .ok else .halted), done := true }) } := by
  simp only [endHistory, h]

/-! ### DEVICE_RESET (R162) -/

theorem deviceResetExecute_answered {j : Job} {u : Time} {s : Dev} (h : s.mgt.deviceReset = some (j, some u)) :
    deviceResetExecute s = commandReset (if (s.chan j.ch).empty then s else reach (Time.plus u 1000000) s) := by
  simp only [deviceResetExecute, h]

theorem port_commandReset (s : Dev) {p : Nat} (hp : p < 3) : (commandReset s).port p = portKept (s.port p) :=
  port_of_mapPorts (d := commandReset s) rfl hp

/-- Settles O18: one equation for each event (`responseTimeout_executing`, `firmwareWatchdog_spec`, `firmwareRestart_down`, `endHistory_idle`,
`deviceResetExecute_answered`); a restart with no command under way halts nothing (`haltJobs_none`). -/
theorem lamplighterTimers : Obligations.LamplighterTimers := by
  refine ⟨fun ch no op seq s hwf hx hc => ?_, fun pc s hwf hfw => ?_, fun v s hwf hfw h4 h7 hpf => ?_, fun ch d hx => ?_, fun j u s hwf hr => ?_⟩
  · obtain ⟨hhist, hrun⟩ := writeResponse_history ch op seq .timeout false 0 [] (reach (s.dev.chan ch).deadline s.dev)
    rw [reach_chan] at hhist hrun
    exact ⟨(becomes_mailboxResponseTimeout ch s hwf).of_eq (responseTimeout_executing hx hc), hhist, hrun⟩
  · exact (becomes_firmwareWatchdog pc s hwf).ends (firmwareWatchdog_spec hfw)
  · have hb := (becomes_firmwareRestartComplete v s hwf).of_eq (firmwareRestart_down hfw h4 h7 hpf)
    have hgo (h : s.dev.jnl.inflight = []) := hb.of_eq (if_neg (by simp [h]))
    refine ⟨fun h => hb.of_eq (if_pos (by simpa using h)), hgo, fun h hchans hreset hnext hcommit hjob hbuild hslices haborts => ?_⟩
    refine (hgo h).of_eq ?_
    rw [haltJobs_none hreset hnext hcommit hjob hbuild hslices haborts, hchans]
    rfl
  · rw [endHistory_idle hx, Dev.chan_setChan_self]
  · have hb := (becomes_deviceResetExecute s hwf).of_eq (deviceResetExecute_answered hr)
    refine ⟨fun he => hb.of_eq (by rw [if_pos he]), fun he => hb.of_eq ?_, rfl, rfl, fun p hp => ?_⟩
    · rw [if_neg (by simp [he])]
      rfl
    · rw [port_commandReset s.dev hp]
      exact ⟨rfl, rfl⟩

end Sys2Proof.Machine
end

section
/-! The binding table and the semaphores (R7, R147, R148, R165 to R168): writes of MGT's own registers, and the reads of one semaphore in one clock. -/
namespace Sys2Proof.Machine

/-! ### The binding table (R148) -/

theorem regWriteArrive_inside {w : RegWrite} (hm : ¬ (8 ≤ w.master ∧ w.master ≤ 10)) (hoff : w.off < 0x9000) (hal : w.off % 8 = 0) (hlen : w.len = 8)
    (s : Dev) : regWriteArrive w s = performWrite w.master (w.off / 2048) (w.off % 2048) 0 w.value s := by
  rw [regWriteArrive, if_neg hm, if_pos (by omega), performReg_base (by omega)]

theorem mgtBindWrite_inside {w : RegWrite} (hm : ¬ (8 ≤ w.master ∧ w.master ≤ 10)) (hlen : w.len = 8) (hoff : w.off = 15 * 2048 + 0x020) (s : Dev) :
    mgtBindWrite w s = bindWrite w.value s := by
  have hnames : names w isl.MGT 0x020 = true := by simp [names, hoff, regIsland, regBlockOff]
  rw [mgtBindWrite, if_pos hnames, regWriteArrive_inside hm (by omega) (by omega) hlen, hoff]
  rfl

theorem bindLock_inside {w : RegWrite} (hm : ¬ (8 ≤ w.master ∧ w.master ≤ 10)) (hlen : w.len = 8) (hoff : w.off = 15 * 2048 + 0x028) (s : Dev) :
    bindLock w s = lockWrite w.value s := by
  have hnames : names w isl.MGT 0x028 = true := by simp [names, hoff, regIsland, regBlockOff]
  rw [bindLock, if_pos hnames, regWriteArrive_inside hm (by omega) (by omega) hlen, hoff]
  rfl

theorem bindable_iff {s : Dev} {m : Nat} : bindable s m = true ↔
    1 ≤ m ∧ m < 240 ∧ (s.chan (4096 + m)).full = false ∧ (s.chan (4096 + m)).empty = true ∧ (s.chan (4096 + m)).executing = false := by
  simp [bindable, Nat.one_le_iff_ne_zero, and_assoc]

theorem bindWrite_denied {v : W64} {s : Dev} (h : ¬ (s.mgt.bindLock = false ∧ bindable s (fld v 7 0) = true ∧ fld v 23 16 = 1)) :
    bindWrite v s = count .mgtBindWriteDenied 0 s := by
  refine if_pos ?_
  simp only [Bool.or_eq_true, Bool.not_eq_true', bne_iff_ne]
  cases hlock : s.mgt.bindLock with
  | true => exact .inl (.inl rfl)
  | false =>
    cases hbind : bindable s (fld v 7 0) with
    | false => exact .inl (.inr rfl)
    | true => exact .inr fun hone => h ⟨hlock, hbind, hone⟩

theorem bindWrite_binds {v : W64} {s : Dev} (hlock : s.mgt.bindLock = false) (hbind : bindable s (fld v 7 0) = true) (hone : fld v 23 16 = 1) :
    bindWrite v s =
      Dev.setChan { s with mgt := { s.mgt with bindings := SMap.put ⟨0, false⟩ s.mgt.bindings (fld v 7 0)
                                                  (if bit v 24 then ⟨BitVec.ofNat 8 (fld v 15 8), true⟩ else ⟨0, false⟩) } }
        (4096 + fld v 7 0) MbxChan.reset := by
  refine if_neg ?_
  simp [hlock, hbind, hone]

theorem lockWrite_eq (v : W64) (s : Dev) : lockWrite v s = { s with mgt := { s.mgt with bindLock := s.mgt.bindLock || bit v 0 } } := by
  unfold lockWrite
  cases bit v 0
  · simp
  · simp

/-! ### One read of a semaphore (R165 to R167) -/

/-- What master `e`'s read of a semaphore of owner `o` returns: OWNER, bit 62 where the master never acquires, bit 63 where the semaphore is held. -/
def semAnswer (s : Dev) (o : Nat) (e : Nat × Bool) : Out :=
  .readData e.1 (BitVec.ofNat 64 (o + (if mayAcquire s e.1 then 0 else 2 ^ 62) + (if o = 0 then 0 else 2 ^ 63)))

theorem b2n_mul (b : Bool) (n : Nat) : b2n b * n = if b then n else 0 := by
  cases b
  · exact Nat.zero_mul n
  · exact Nat.one_mul n

theorem semWord_answer (s : Dev) (k : Nat) (e : Nat × Bool) : Out.readData e.1 (semWord s k e.1) = semAnswer s (s.semOwner k) e := by
  have hnever : b2n (!mayAcquire s e.1) * 2 ^ 62 = if mayAcquire s e.1 then 0 else 2 ^ 62 := by
    rw [b2n_mul]
    cases mayAcquire s e.1 <;> rfl
  have hheld : b2n (s.semOwner k != 0) * 2 ^ 63 = if s.semOwner k = 0 then 0 else 2 ^ 63 := by
    rw [b2n_mul]
    by_cases h : s.semOwner k = 0
    · rw [if_pos h, h]; rfl
    · rw [if_neg h, if_pos (bne_iff_ne.mpr h)]
  rw [semAnswer, ← hnever, ← hheld, semWord, mk64, List.foldl_cons, List.foldl_cons, List.foldl_cons, List.foldl_nil, Nat.zero_add]
  rfl

/-- `t` is `s` but for what left the block, and for what its ports keep of the reads that they have sent (R124). -/
structure ReadFrom (s t : Dev) : Prop where
  frame : t = { s with out := t.out, ports := t.ports }
  ports : ∀ p, t.port p = { s.port p with lastRead := (t.port p).lastRead }

theorem ReadFrom.refl (s : Dev) : ReadFrom s s := ⟨rfl, fun _ => rfl⟩

theorem ReadFrom.trans {s t u : Dev} (h : ReadFrom s t) (h' : ReadFrom t u) : ReadFrom s u :=
  ⟨h'.frame.trans (by rw [h.frame]), fun p => (h'.ports p).trans (by rw [h.ports p])⟩

theorem ReadFrom.semOwner {s t : Dev} (h : ReadFrom s t) (k : Nat) : t.semOwner k = s.semOwner k := by rw [h.frame]; rfl

theorem ReadFrom.mayAcquire {s t : Dev} (h : ReadFrom s t) (m : Nat) : mayAcquire t m = mayAcquire s m := by rw [h.frame]; rfl

theorem ReadFrom.semAnswer {s t : Dev} (h : ReadFrom s t) (o : Nat) : semAnswer t o = semAnswer s o := by
  funext e
  rw [Machine.semAnswer, h.mayAcquire, Machine.semAnswer]

theorem ReadFrom.semArrives {s t : Dev} (h : ReadFrom s t) (k : Nat) (e : Nat × Bool) : semArrives t k e = semArrives s k e := by
  have hlink (p : Nat) (half : Bool) : (t.port p).link half = (s.port p).link half := by rw [h.ports p]; cases half <;> rfl
  have hrrs (p : Nat) : (t.port p).rrs = (s.port p).rrs := by rw [h.ports p]
  have hwait (p : Nat) : readWaits t p (semAccess k e) = readWaits s p (semAccess k e) := by
    rw [readWaits_bar0 rfl, readWaits_bar0 rfl, h.ports p]
  simp only [Machine.semArrives, hlink, hrrs, hwait]

theorem readFrom_readSent (r : HostRead) (i : Nat) (s : Dev) : ReadFrom s (readSent r i s) := by
  unfold readSent
  dsimp only
  split
  · refine ⟨rfl, fun p => ?_⟩
    rw [Dev.port_setPort]
    split
    · next hp => rw [hp]
    · rfl
  · exact ReadFrom.refl s

theorem readSent_out (r : HostRead) (i : Nat) (s : Dev) : (readSent r i s).out = s.out := by
  unfold readSent
  dsimp only
  split <;> rfl

theorem readFrom_emit (o : Out) (s : Dev) : ReadFrom s (emit o s) := ⟨rfl, fun _ => rfl⟩

theorem registerRead_sem {k : Nat} (hk : k < 128) (m : Nat) (s : Dev) :
    registerRead m (0 * 65536 + 15 * 2048 + (0x300 + 8 * k)) 8 s = semReadOne k m (0 * 65536 + 15 * 2048 + (0x300 + 8 * k)) 8 s := by
  have hin : ¬ 0x9000 ≤ (0 * 65536 + 15 * 2048 + (0x300 + 8 * k)) % 65536 := by omega
  have hisl : regIsland (0 * 65536 + 15 * 2048 + (0x300 + 8 * k)) = 15 := by unfold regIsland; omega
  have hblk : regBlockOff (0 * 65536 + 15 * 2048 + (0x300 + 8 * k)) - (0 * 65536 + 15 * 2048 + (0x300 + 8 * k)) % 8 = 0x300 + 8 * k := by
    unfold regBlockOff; omega
  have hsem : (0x300 + 8 * k - 0x300) / 8 = k := by omega
  have hrange : 0x300 ≤ 0x300 + 8 * k ∧ 0x300 + 8 * k < 0x700 := by omega
  rw [registerRead]
  simp only [hin, hisl, hblk, hsem, hrange, and_self, if_true, if_false]

/-- A read that reaches MGT is performed there, with what its port keeps of it. -/
theorem readArrive_sem {k : Nat} (hk : k < 128) {e : Nat × Bool} {s : Dev} (h : semArrives s k e = true) :
    readArrive (semAccess k e) s = semReadOne k e.1 (0 * 65536 + 15 * 2048 + (0x300 + 8 * k)) 8 (readSent (semAccess k e) isl.MGT s) := by
  have hoff : (semAccess k e).off = 0 * 65536 + 15 * 2048 + (0x300 + 8 * k) := by
    change 15 * 2048 + 0x300 + 8 * k = _
    omega
  have hshape : regShape (semAccess k e).off (semAccess k e).len = true := by
    rw [hoff]
    simp [regShape, semAccess]
    omega
  have hport (hhost : 8 ≤ e.1 ∧ e.1 ≤ 10) : ((s.port (e.1 - 8)).link e.2).usable = true ∧ (s.port (e.1 - 8)).rrs = false ∧
      readWaits s (e.1 - 8) (semAccess k e) = false := by
    simpa [semArrives, hhost.1, hhost.2, and_assoc] using h
  rw [readArrive_register rfl hoff (by decide) (by decide) (by omega) hshape hport]
  exact registerRead_sem hk e.1 _

/-- A read that acquires nothing returns the owner, and leaves the semaphore. -/
theorem readArrive_sem_held {k : Nat} (hk : k < 128) {e : Nat × Bool} {s : Dev} (h : semArrives s k e = true)
    (hn : ¬ (s.semOwner k = 0 ∧ mayAcquire s e.1 = true)) :
    ReadFrom s (readArrive (semAccess k e) s) ∧ (readArrive (semAccess k e) s).out = semAnswer s (s.semOwner k) e :: s.out := by
  have hsent := readFrom_readSent (semAccess k e) isl.MGT s
  rw [readArrive_sem hk h, semReadOne, hsent.semOwner, hsent.mayAcquire, if_neg hn, halfOf_whole, semWord_answer, hsent.semOwner, hsent.semAnswer]
  exact ⟨hsent.trans (readFrom_emit _ _), congrArg _ (readSent_out _ _ s)⟩

/-- A read of a free semaphore by one that may acquire returns 0, and the semaphore is the reader's. -/
theorem readArrive_sem_free {k : Nat} (hk : k < 128) {e : Nat × Bool} {s : Dev} (h : semArrives s k e = true) (hfree : s.semOwner k = 0)
    (hmay : mayAcquire s e.1 = true) :
    ∃ u : Dev, ReadFrom s u ∧ u.out = .readData e.1 0 :: s.out ∧ readArrive (semAccess k e) s = u.setSem k e.1 := by
  have hsent := readFrom_readSent (semAccess k e) isl.MGT s
  have hzero : semAnswer s 0 e = .readData e.1 0 := by rw [semAnswer, hmay]; rfl
  refine ⟨emit (semAnswer s 0 e) (readSent (semAccess k e) isl.MGT s), hsent.trans (readFrom_emit _ _), ?_, ?_⟩
  · rw [hzero]
    exact congrArg _ (readSent_out _ _ s)
  · rw [readArrive_sem hk h, semReadOne, hsent.semOwner, hsent.mayAcquire, if_pos ⟨hfree, hmay⟩, halfOf_whole, semWord_answer, hsent.semOwner,
      hsent.semAnswer, hfree]

/-! ### The reads of one clock (R125, R166, R167) -/

theorem sortBy_of_pairwise {α : Type} {le : α → α → Bool} {l : List α} (h : l.Pairwise (fun a b => le a b = true)) : sortBy le l = l := by
  induction l with
  | nil => rfl
  | cons x xs ih =>
    obtain ⟨hx, hxs⟩ := List.pairwise_cons.mp h
    change insertBy le x (sortBy le xs) = x :: xs
    rw [ih hxs]
    cases xs with
    | nil => rfl
    | cons y ys => exact if_pos (hx y List.mem_cons_self)

/-- The reads of a semaphore that arrive in the order `ms`. -/
def semReads (k : Nat) (ms : List (Nat × Bool)) (s : Dev) : Dev := ms.foldl (fun d e => readArrive (semAccess k e) d) s

/-- Reads in ascending identity are performed in their order (R125). -/
theorem accessesArrive_semReads {ms : List (Nat × Bool)} (h : ms.Pairwise (fun x y => x.1 < y.1)) (k : Nat) (s : Dev) :
    accessesArrive (ms.map (fun e => .read (semAccess k e))) s = semReads k ms s := by
  have hsorted : clockOrder (ms.map (fun e => .read (semAccess k e))) = ms.map (fun e => .read (semAccess k e)) :=
    sortBy_of_pairwise (List.pairwise_map.mpr (h.imp fun hlt => decide_eq_true (Nat.le_of_lt hlt)))
  rw [accessesArrive, hsorted, List.foldl_map]
  rfl

/-- Where none of the reads acquires, each returns the owner, and the semaphore stays. -/
theorem semReads_held {k : Nat} (hk : k < 128) {ms : List (Nat × Bool)} {s : Dev} (harr : ∀ e ∈ ms, semArrives s k e = true)
    (hn : 0 < s.semOwner k ∨ ∀ e ∈ ms, mayAcquire s e.1 = false) :
    ReadFrom s (semReads k ms s) ∧ (semReads k ms s).out = (ms.map (semAnswer s (s.semOwner k))).reverse ++ s.out := by
  induction ms generalizing s with
  | nil => exact ⟨ReadFrom.refl s, rfl⟩
  | cons e es ih =>
    have hnot : ¬ (s.semOwner k = 0 ∧ mayAcquire s e.1 = true) := by
      rintro ⟨hfree, hmay⟩
      rcases hn with ho | hn
      · omega
      · exact Bool.false_ne_true ((hn e List.mem_cons_self).symm.trans hmay)
    obtain ⟨hone, hout⟩ := readArrive_sem_held hk (harr e List.mem_cons_self) hnot
    have harr' : ∀ x ∈ es, semArrives (readArrive (semAccess k e) s) k x = true := fun x hx =>
      (hone.semArrives k x).trans (harr x (List.mem_cons_of_mem e hx))
    have hn' : 0 < (readArrive (semAccess k e) s).semOwner k ∨ ∀ x ∈ es, mayAcquire (readArrive (semAccess k e) s) x.1 = false := by
      rw [hone.semOwner]
      exact hn.imp_right fun hn x hx => (hone.mayAcquire x.1).trans (hn x (List.mem_cons_of_mem e hx))
    obtain ⟨hrest, hrestOut⟩ := ih harr' hn'
    rw [hone.semOwner, hone.semAnswer, hout] at hrestOut
    refine ⟨hone.trans hrest, hrestOut.trans ?_⟩
    rw [List.map_cons, List.reverse_cons, List.append_assoc]
    rfl

theorem semOwner_setSem (s : Dev) (k m j : Nat) : (s.setSem k m).semOwner j = if j = k then m % 256 else s.semOwner j := by
  unfold Dev.semOwner Dev.setSem
  rw [SMap.get_put]
  split
  · rw [BitVec.toNat_ofNat]
  · rfl

/-- Of the reads of a free semaphore the first that may acquires it and reads 0; those before it read it free, those behind it the new owner. -/
theorem semReads_acquired {k : Nat} (hk : k < 128) {pre post : List (Nat × Bool)} {a : Nat × Bool} {s : Dev} (ha : 0 < a.1 ∧ a.1 < 256)
    (harr : ∀ e ∈ pre ++ a :: post, semArrives s k e = true) (hpre : ∀ e ∈ pre, mayAcquire s e.1 = false) (hmay : mayAcquire s a.1 = true)
    (hfree : s.semOwner k = 0) :
    let d := semReads k (pre ++ a :: post) s
    (∀ j, d.semOwner j = if j = k then a.1 else s.semOwner j) ∧ d.ctr = s.ctr ∧
      d.out = (post.map (semAnswer s a.1)).reverse ++ .readData a.1 0 :: (pre.map (semAnswer s 0)).reverse ++ s.out := by
  intro d
  obtain ⟨h1, hout1⟩ := semReads_held (ms := pre) hk (fun e he => harr e (List.mem_append_left _ he)) (.inr hpre)
  rw [hfree] at hout1
  have harr1 (e : Nat × Bool) (he : e ∈ a :: post) : semArrives (semReads k pre s) k e = true :=
    (h1.semArrives k e).trans (harr e (List.mem_append_right pre he))
  obtain ⟨u, h2, hout2, hu⟩ := readArrive_sem_free hk (harr1 a List.mem_cons_self) ((h1.semOwner k).trans hfree) ((h1.mayAcquire a.1).trans hmay)
  have hsu := h1.trans h2
  have hown (j : Nat) : (u.setSem k a.1).semOwner j = if j = k then a.1 else s.semOwner j := by
    rw [semOwner_setSem, Nat.mod_eq_of_lt ha.2, hsu.semOwner]
  have hheld : (u.setSem k a.1).semOwner k = a.1 := (hown k).trans (if_pos rfl)
  obtain ⟨h3, hout3⟩ := semReads_held (ms := post) (s := u.setSem k a.1) hk
    (fun e he => (h2.semArrives k e).trans (harr1 e (List.mem_cons_of_mem a he))) (.inl (hheld.symm ▸ ha.1))
  have hd : d = semReads k post (u.setSem k a.1) := by
    rw [← hu]
    exact List.foldl_append
  have hsays : semAnswer (u.setSem k a.1) a.1 = semAnswer s a.1 := hsu.semAnswer a.1
  rw [hheld, hsays] at hout3
  rw [hd]
  refine ⟨fun j => (h3.semOwner j).trans (hown j), ?_, ?_⟩
  · rw [h3.frame]
    change u.ctr = s.ctr
    rw [hsu.frame]
  · rw [hout3, show (u.setSem k a.1).out = _ from hout2, hout1]
    simp only [List.cons_append, List.append_assoc]

theorem mbxMasterWf_bounds {m : Nat} (h : mbxMasterWf m = true) : 0 < m ∧ m < 256 := by
  simp only [mbxMasterWf, Bool.or_eq_true, Bool.and_eq_true, decide_eq_true_eq] at h
  omega

/-- The reads that reach MGT count as contended, but for one, where one of them acquires a free semaphore (R166). -/
theorem semRead_all {ms : List (Nat × Bool)} {k : Nat} {s : Dev} (hord : ms.Pairwise (fun x y => x.1 < y.1)) (harr : ∀ e ∈ ms, semArrives s k e = true) :
    semRead ms k s = if s.semOwner k = 0 ∧ ms.any (fun e => mayAcquire s e.1) = true then countBy .mgtSemContended 0 (ms.length - 1) (semReads k ms s)
      else semReads k ms s := by
  have hhere : ms.filter (semArrives s k) = ms := List.filter_eq_self.mpr harr
  rw [semRead, hhere, accessesArrive_semReads hord, List.any_map, List.length_map]
  rfl

/-- A read through a port that takes no requests does not arrive. -/
theorem semRead_unheard {m k : Nat} {half : Bool} {s : Dev} (h8 : 8 ≤ m) (h10 : m ≤ 10) (h : ((s.port (m - 8)).link half).usable = false) :
    semRead [(m, half)] k s = s := by
  have hnot : semArrives s k (m, half) = false := by simp [semArrives, h8, h10, h]
  have hread : semReads k [(m, half)] s = s :=
    (readArrive_host (r := semAccess k (m, half)) ⟨h8, h10⟩ s).trans (hostRead_unheard (.inl h))
  rw [semRead, accessesArrive_semReads (List.pairwise_singleton _ _), hread]
  simp [hnot]

theorem wf_semaphoreRead {ms : List (Nat × Bool)} {k : Nat} (h : Wf.semaphoreRead ms k = true) : k < 128 ∧ ∀ e ∈ ms, mbxMasterWf e.1 = true := by
  simp only [Wf.semaphoreRead, Bool.and_eq_true, decide_eq_true_eq, List.all_eq_true] at h
  exact h.1

/-- Settles O19: the register writes are `bindWrite` and `lockWrite`; the reads of one clock arrive in their order (`accessesArrive_semReads`), and the list
splits at the first that may acquire (`semReads_acquired`), or none acquires (`semReads_held`). -/
theorem bindingsAndSemaphores : Obligations.BindingsAndSemaphores := by
  refine ⟨fun w s hm hlen => ⟨fun hoff => ?_, fun hoff => ?_⟩, fun ms pre post a k s hms hwf hord harr hpre hmay hfree => ?_,
    fun ms k o s hwf hord harr ho hn => ?_, fun m half k s hwf h8 h10 hu => ?_, fun m k v viaAlias s hwf hm => ?_, fun m k v viaAlias s hwf h8 h10 => ?_⟩
  · have hb := (becomes_mgtBindWrite w s (by simp [Wf.mgtBindWrite, masterWf, hm])).of_eq (mgtBindWrite_inside (by omega) hlen hoff s.dev)
    intro m b c
    refine ⟨fun h => hb.of_eq (bindWrite_denied ?_), fun hlock h1 h240 hone hfull hempty hexec =>
      hb.of_eq (bindWrite_binds hlock (bindable_iff.mpr ⟨h1, h240, hfull, hempty, hexec⟩) hone)⟩
    rintro ⟨hlock, hbind, hone⟩
    obtain ⟨h1, h240, hfull, hempty, hexec⟩ := bindable_iff.mp hbind
    rcases h with h | h | h | h | h | h | h
    · exact Bool.false_ne_true (hlock.symm.trans h)
    · exact Nat.one_le_iff_ne_zero.mp h1 h
    · exact absurd h240 (Nat.not_lt.mpr h)
    · exact h hone
    · exact Bool.false_ne_true (hfull.symm.trans h)
    · exact Bool.false_ne_true (h.symm.trans hempty)
    · exact Bool.false_ne_true (hexec.symm.trans h)
  · exact ((becomes_bindLock w s (by simp [Wf.bindLock, masterWf, hm])).of_eq (bindLock_inside (by omega) hlen hoff s.dev)).of_eq (lockWrite_eq w.value s.dev)
  · subst hms
    obtain ⟨hk, hall⟩ := wf_semaphoreRead hwf
    have ha : a ∈ pre ++ a :: post := List.mem_append_right pre List.mem_cons_self
    obtain ⟨hown, hctr, hout⟩ := semReads_acquired hk (mbxMasterWf_bounds (hall a ha)) harr hpre hmay hfree
    have hcount : (pre ++ a :: post).length - 1 = pre.length + post.length := by simp
    have hb := (becomes_semaphoreRead _ k s hwf).of_eq ((semRead_all hord harr).trans (if_pos ⟨hfree, List.any_eq_true.mpr ⟨a, ha, hmay⟩⟩))
    refine hb.ends ⟨(hown k).trans (if_pos rfl), ?_, ?_, fun j hj => (hown j).trans (if_neg hj)⟩
    · refine (counter_countBy _ _ _ _ _).trans ((if_pos rfl).trans ?_)
      rw [hcount, Dev.counter, hctr]
      rfl
    · exact hout
  · obtain ⟨hk, -⟩ := wf_semaphoreRead hwf
    subst ho
    obtain ⟨hread, hout⟩ := semReads_held hk harr hn
    have hnone : ¬ (s.dev.semOwner k = 0 ∧ ms.any (fun e => mayAcquire s.dev e.1) = true) := by
      rintro ⟨hz, hany⟩
      obtain ⟨e, he, hmay⟩ := List.any_eq_true.mp hany
      rcases hn with ho | hn
      · omega
      · exact Bool.false_ne_true ((hn e he).symm.trans hmay)
    have hb := (becomes_semaphoreRead ms k s hwf).of_eq ((semRead_all hord harr).trans (if_neg hnone))
    refine hb.ends (hread.frame.trans ?_)
    rw [hout]
    rfl
  · exact (becomes_semaphoreRead _ k s hwf).of_eq (semRead_unheard h8 h10 hu)
  · have hb := (becomes_semaphoreRelease m k v viaAlias s hwf).of_eq (if_neg (by omega))
    exact ⟨fun ho hv hview => hb.of_eq (if_pos ⟨ho, hv, hview⟩), fun h => hb.of_eq (if_neg h)⟩
  · exact (becomes_semaphoreRelease m k v viaAlias s hwf).of_eq (if_pos ⟨h8, h10⟩)

end Sys2Proof.Machine
end

section
/-! WATCHDOG_CONFIG where the period in force is 0 (R161): the firmware's restart is due at once, so the new period shows at once. -/
namespace Sys2Proof.Machine

/-- An answer leaves the watchdog alone (R159). -/
theorem wdogShown_answer {j : Job} {ws : List W64} (hb : j.indirect = false ∨ ws = []) (st : Status) (d : Dev) :
    (answer j st ws d).wdogShown = d.wdogShown := by
  obtain ⟨e, he, hmgt, -⟩ := answer_signalled hb st d
  have hnow : (answer j st ws d).now = d.now := he.now.trans (by rw [hmgt])
  rw [Dev.wdogShown, he.mgt, hmgt, hnow]
  unfold Dev.wdogShown mgtAt
  split <;> rfl

/-- A member whose firmware runs with a watchdog period of 0 in force. -/
def zeroPeriod : Dev := { Dev.reset with mgt := { Mgt.reset with fwUp := true, wdogMs := 0, wdogNextMs := 0 } }

/-- WATCHDOG_CONFIG with MS 500. -/
def watchdog500 : Req :=
  { seq := 1, indirect := false, retry := false, flagsRsv := false, payloadLen := 8, inline := [500, 0, 0, 0, 0, 0, 0], host := ⟨true, true, true, []⟩ }

/-- The member once the request has been taken on manager channel 0. -/
def zeroPeriodTaken : Dev := takeRequest 4096 spec0004.opcode watchdog500.seq (served 4096 zeroPeriod)

/-- The member once the request has set the period. -/
def zeroPeriodSet : Dev :=
  { zeroPeriodTaken with mgt := { zeroPeriodTaken.mgt with wdogMs := 0, wdogNextMs := 500, wdogAt := Time.plus zeroPeriodTaken.now 0 } }

theorem accepted_watchdog500 : Accepted spec0004 4096 watchdog500 zeroPeriod zeroPeriodTaken :=
  ⟨by decide, by decide, rfl, by decide⟩

/-- Refutes O20: with a watchdog period of 0 in force (which WATCHDOG_CONFIG itself never sets), the restart after which the new period is in force is due
at once, and the member shows the new period where the statement keeps the old one. -/
theorem not_generalCommands : ¬ Obligations.GeneralCommands := by
  intro h
  obtain ⟨-, -, -, -, hconfig, -⟩ := h 4096 watchdog500 { dev := zeroPeriod, pending := [] } zeroPeriodTaken (by decide)
  obtain ⟨hset, -⟩ := hconfig accepted_watchdog500
  obtain ⟨e, hexec, g, rfl, -, hkept, -⟩ := hset (by decide) (by decide)
  have hrun : Becomes (.watchdogConfig 4096 watchdog500) { dev := zeroPeriod, pending := [] }
      (answer (mkJob spec0004 4096 watchdog500 zeroPeriodTaken) .ok [] zeroPeriodSet) :=
    (becomes_watchdogConfig 4096 watchdog500 _ (by decide)).of_eq (command_answers accepted_watchdog500 rfl)
  have hsame : answer (mkJob spec0004 4096 watchdog500 zeroPeriodTaken) .ok [] g =
      answer (mkJob spec0004 4096 watchdog500 zeroPeriodTaken) .ok [] zeroPeriodSet :=
    congrArg State.dev (Host.Outcome.next.inj (hexec.symm.trans hrun))
  have hshown : g.wdogShown = zeroPeriodSet.wdogShown := by
    rw [← wdogShown_answer (.inr rfl) .ok g, hsame, wdogShown_answer (.inr rfl)]
  have hnew : zeroPeriodSet.wdogShown = 500 := by decide
  have hold : zeroPeriodTaken.wdogShown = 0 := by decide
  omega

end Sys2Proof.Machine
end

section
/-! A malformed descriptor where a slice's port has no place among the ports (R57, R224): the counters of the two events share one key. -/
namespace Sys2Proof.Machine

/-- A port number, far above the three ports, at which IEU_MESSAGES has the key of QDE_MALFORMED. -/
def strayPort : Nat := 9 * 65536

/-- A member whose manager port is `strayPort`, its link up. Slice 0 sends a message for its SLICE_STATE event at once, and queue pair 0 of slice 0 is
fetching its first descriptor. -/
def strayMember : Dev :=
  { Dev.reset with
    mgrPort := strayPort
    ports := [(strayPort, { HostPort.reset with linkA := { HostLink.reset with up := true } })]
    slices := { slices := [(0, { Slice.manager with evState := 0 })], vecs := [(0, { Vec.reset with address := 0x1000, mask := false })] }
    qde := { Qde.reset with pairs := [(0, { QueuePair.none with valid := true, items := [newItem 0] })] } }

/-- The member as it holds a descriptor whose opcode no queue pair permits (Table 6-4, reason 1). -/
def strayHeld : Dev := strayMember.setQp 0 (onItem (strayMember.qp 0) 0 (fun i => { i with words := [0xFF], cached := true }))

theorem counter_malformed_strayHeld : (malformed 0 0 1 0 strayHeld).counter .qdeMalformed 0 = 2 := by decide +kernel

/-- Refutes O24: where the slice's port is one that the block does not have, the message that tells of the halt is counted on the key of QDE_MALFORMED,
and one malformed descriptor counts as two. -/
theorem not_doorbellsAndDescriptors : ¬ Obligations.DoorbellsAndDescriptors := by
  intro h
  obtain ⟨-, -, -, -, hfetched, -⟩ := h
  obtain ⟨-, hmalformed⟩ := hfetched 0 0 [0xFF] (newItem 0) strayMember (by decide) (by decide) (by decide) (by decide)
  obtain ⟨-, -, hcount, -⟩ := hmalformed 1 (by decide)
  have hbefore : strayMember.counter .qdeMalformed 0 = 0 := by decide
  rw [hbefore] at hcount
  exact absurd (counter_malformed_strayHeld.symm.trans hcount) (by decide)

end Sys2Proof.Machine
end

section
/-! A frame for a RECEIVE queue pair whose holding area has two entries of one ring index (R222, R234): both are given the buffer of the first. -/
namespace Sys2Proof.Machine

/-- A fetched RECEIVE descriptor of ring index 0 with a direct buffer of one byte at `a`. -/
def twinEntry (a : W64) : WorkItem := { newItem 0 with words := [2, a, 1, 0, 0, 0, 0, 0], cached := true }

/-- A frame of one byte for queue pair 0. -/
def twinFrame : Pkt :=
  Pkt.fresh { originNode := 0, slice := 0, vslot := 0, vcheck := 0, entryTime := 0, ingress := 0, queue := 0, colour := 0, pass := 0, windowOffset := 0,
              flags := 0, meterClass := 0, flowHash := 0, length := 1, traceId := 0 } [0]

/-- A RECEIVE queue pair of slice 0 that holds two entries of ring index 0, with different buffers. -/
def twinPair : QueuePair := { QueuePair.none with valid := true, typ := 1, items := [twinEntry 0x1000, twinEntry 0x2000] }

/-- A member with that queue pair, which a frame has reached. -/
def twinMember : Dev := { Dev.reset with qde := { Qde.reset with pairs := [(0, twinPair)], rxIn := [twinFrame] } }

/-- What O25 says becomes of the member: each of the two entries has its own buffer. -/
def twinStated : Dev :=
  rxWrite 0 0 twinFrame (channelStarts 0 ({ twinMember with qde := { twinMember.qde with rxIn := [] } }.setQp 0 (onItem twinPair 0 (fun i =>
    { i with started := true, frame := some twinFrame, parts := [(dWord i 1, 1)], curFrag := 0 }))))

theorem parts_twinStated : (twinStated.qp 0).items.map WorkItem.parts = [[(0x1000, 1)], [(0x2000, 1)]] := by decide +kernel

theorem parts_rxFrameArrival_twinMember :
    ((rxFrameArrival twinMember).qp 0).items.map WorkItem.parts = [[(0x1000, 1)], [(0x1000, 1)]] := by decide +kernel

/-- Refutes O25: where two entries of a queue pair have one ring index, the frame's assignment writes the buffer of the first into both, and the statement
gives each its own. -/
theorem not_descriptorWork : ¬ Obligations.DescriptorWork := by
  intro h
  obtain ⟨-, hframe⟩ := h
  obtain ⟨-, -, hactive⟩ := hframe twinFrame [] { dev := twinMember, pending := [] } rfl (by decide)
  obtain ⟨-, -, -, -, hassigned⟩ := hactive (by decide) (by decide) (by decide)
  obtain ⟨-, hfits⟩ := hassigned (twinEntry 0x1000) (by decide) (by decide) (by decide) (by decide) (by decide)
  have hstated : Becomes .rxFrameArrival { dev := twinMember, pending := [] } twinStated := hfits (by decide)
  have hrun : Becomes .rxFrameArrival { dev := twinMember, pending := [] } (rxFrameArrival twinMember) := becomes_rxFrameArrival _ rfl
  have hsame : twinStated = rxFrameArrival twinMember := congrArg State.dev (Host.Outcome.next.inj (hstated.symm.trans hrun))
  have hparts := parts_rxFrameArrival_twinMember
  rw [← hsame, parts_twinStated] at hparts
  exact absurd hparts (by decide)

end Sys2Proof.Machine
end

section
/-! Ethernet ports (R247 to R256, R268 to R270): what each operation on a port leaves of the member. -/
namespace Sys2Proof

/-- A write repeated changes nothing more. -/
theorem SMap.put_put_self {α : Type} [DecidableEq α] (d : α) (m : SMap α) (k : Nat) (x : α) :
    SMap.put d (SMap.put d m k x) k x = SMap.put d m k x := by
  have hins : SMap.ins k x (SMap.ins k x m) = SMap.ins k x m := by
    induction m with
    | nil => simp [SMap.ins]
    | cons e t ih =>
      obtain ⟨j, y⟩ := e
      by_cases hlt : j < k
      · simp [SMap.ins, hlt, ih]
      · by_cases heq : j = k <;> simp [SMap.ins, hlt, heq]
  by_cases hx : x = d
  · simp [SMap.put, hx]
  · simp [SMap.put, hx, hins]

namespace Machine

/-! ### Ports among the member's state -/

theorem eport_of_eth {s d : Dev} (h : d.eth = s.eth) (q : Nat) : d.eport q = s.eport q := by rw [Dev.eport, h, Dev.eport]

theorem setEport_setEport_self (s : Dev) (p : Nat) (x : EthPort) : (s.setEport p x).setEport p x = s.setEport p x := by
  simp only [Dev.setEport, SMap.put_put_self]

/-- What every step of a fold leaves alone, the fold leaves alone. -/
theorem foldl_keeps {α β : Type} (f : Dev → β) {g : Dev → α → Dev} (h : ∀ s a, f (g s a) = f s) (l : List α) (s : Dev) :
    f (l.foldl g s) = f s := by
  induction l generalizing s with
  | nil => rfl
  | cons a t ih => exact (ih _).trans (h s a)

theorem eth_traceStep (i ev port : Nat) (k : Pkt) (s : Dev) : (traceStep i ev port k s).eth = s.eth := by
  unfold traceStep traceRecord
  split
  · split <;> rfl
  · rfl

theorem traceStep_untraced {k : Pkt} (h : k.tag.flag 0 = false) (i ev port : Nat) (s : Dev) : traceStep i ev port k s = s := by
  simp [traceStep, h]

theorem eth_logFault (source dest : Nat) (code : BitVec 16) (kind : Nat) (d2 d3 : W64) (s : Dev) :
    (logFault source dest code kind d2 d3 s).eth = s.eth := by
  rw [logFault_frame]

/-- A record of the fault log is counted only where it overwrites one (R163). -/
theorem ctr_logFault (source dest : Nat) (code : BitVec 16) (kind : Nat) (d2 d3 : W64) (s : Dev) :
    (logFault source dest code kind d2 d3 s).ctr = (whenB (decide (1024 ≤ s.mgt.faults.length)) (count .mgtFaultOverwrite 0) s).ctr := by
  unfold logFault whenB
  dsimp only
  rw [ctr_msixSignal]
  split <;> split <;> rfl

theorem counter_logFault_of_lt {c : Ctr} (hc : c ≠ .mgtFaultOverwrite) {i : Nat} (hi : i < 65536) (source dest : Nat) (code : BitVec 16) (kind : Nat)
    (d2 d3 : W64) (s : Dev) : (logFault source dest code kind d2 d3 s).counter c i = s.counter c i := by
  have hkey : Ctr.key c i ≠ Ctr.key .mgtFaultOverwrite 0 := fun h => hc ((Ctr.key_inj hi (by decide)).mp h).1
  rw [Dev.counter, ctr_logFault, whenB]
  split
  · exact (counter_countBy _ _ _ _ _).trans (if_neg hkey)
  · rfl

/-! ### Leaving UP and coming up (R251, R254, R269) -/

/-- A port that enters a state other than UP: it neither is paused nor pauses its partner. -/
def enteringState (x : EthPort) (st : PortState) : EthPort := { x with state := st, pausedByPeer := 0, pauseEnd := [], pausingPeer := 0 }

/-- Forgetting learned entries changes the pipelines alone (R327). -/
theorem forgetIn_units (f : Learned → Bool) (ks : List Nat) (s : Dev) :
    let e := ks.foldl (fun s k => forgetIn k f s) s
    e.eth = s.eth ∧ e.mgt = s.mgt ∧ e.ctr = s.ctr :=
  ⟨foldl_keeps (g := fun s k => forgetIn k f s) Dev.eth (fun _ _ => rfl) ks s, foldl_keeps (g := fun s k => forgetIn k f s) Dev.mgt (fun _ _ => rfl) ks s,
    foldl_keeps (g := fun s k => forgetIn k f s) Dev.ctr (fun _ _ => rfl) ks s⟩

/-- The report that a port left UP (R254, Table 7-10). -/
def reportDown (p : Nat) (st : PortState) (lane : Nat) (s : Dev) : Dev :=
  logFault (ethIsland p) 0xFF 0x0601 0 (mk64 [p, at' (PortState.code st) 8, at' lane 16]) 0 s

/-- A port that leaves UP is reported, and else only the pipelines change (R254, R327). -/
theorem portDown_units (p : Nat) (st : PortState) (lane : Nat) (s : Dev) :
    (portDown p st lane s).eth = (reportDown p st lane s).eth ∧ (portDown p st lane s).mgt = (reportDown p st lane s).mgt ∧
      (portDown p st lane s).ctr = (reportDown p st lane s).ctr :=
  forgetIn_units _ pipeNumbers (reportDown p st lane s)

theorem eth_enterPort (p : Nat) (st : PortState) (lane : Nat) (s : Dev) :
    (enterPort p st lane s).eth = (s.setEport p (enteringState (s.eport p) st)).eth := by
  unfold enterPort
  dsimp only
  split
  · exact (portDown_units p st lane _).1.trans (eth_logFault _ _ _ _ _ _ _)
  · rfl

theorem eport_enterPort (p : Nat) (st : PortState) (lane : Nat) (s : Dev) (q : Nat) :
    (enterPort p st lane s).eport q = if q = p then enteringState (s.eport p) st else s.eport q :=
  (eport_of_eth (eth_enterPort p st lane s) q).trans (Dev.eport_setEport _ _ _ _)

theorem eport_enterPort_setEport (p : Nat) (st : PortState) (lane : Nat) (s : Dev) (x : EthPort) (q : Nat) :
    (enterPort p st lane (s.setEport p x)).eport q = if q = p then enteringState x st else s.eport q := by
  rw [eport_enterPort, Dev.eport_setEport, Dev.eport_setEport, if_pos rfl]
  split <;> rfl

/-- The newest record of the log tells that an UP port went down, and to which state. -/
theorem enterPort_reports {p : Nat} {s : Dev} (hup : (s.eport p).state = .up) (st : PortState) (lane : Nat) :
    (enterPort p st lane s).mgt.faults.getLast?.map (fun f => (f.code, f.detail2)) = some (0x0601, mk64 [p, at' (PortState.code st) 8, at' lane 16]) := by
  rw [enterPort, if_pos hup, (portDown_units p st lane _).2.1]
  exact logFault_last _ _ _ _ _ _ _

theorem counter_enterPort {c : Ctr} (hc : c ≠ .mgtFaultOverwrite) {i : Nat} (hi : i < 65536) (p : Nat) (st : PortState) (lane : Nat) (s : Dev) :
    (enterPort p st lane s).counter c i = s.counter c i := by
  unfold enterPort
  dsimp only
  split
  · rw [Dev.counter, (portDown_units p st lane _).2.2]
    exact counter_logFault_of_lt hc hi _ _ _ _ _ _ _
  · rfl

/-- Bring-up sets the state by the port's settings, and the polarity in force; other ports stand. -/
theorem eport_bringUp (p : Nat) (s : Dev) (q : Nat) :
    (bringUp p s).eport q = if q = p then enteringState (s.eport p) (firstState (s.eport p)) else s.eport q :=
  Dev.eport_setEport _ _ _ _

theorem eport_restartPort (p lane : Nat) (s : Dev) (q : Nat) :
    (restartPort p lane s).eport q = if q = p then enteringState (s.eport p) (firstState (s.eport p)) else s.eport q := by
  rw [restartPort, eport_bringUp, eport_enterPort, eport_enterPort, if_pos rfl]
  split <;> rfl

/-- A lost link takes the port through bring-up again, is counted and reported (R251, R254). -/
theorem linkLost_up {p lane : Nat} {s : Dev} (hp : p < 65536) (h : (s.eport p).state = .up) :
    let d := linkLost p lane s
    let st := firstState (s.eport p)
    (∀ q, d.eport q = if q = p then enteringState (s.eport p) st else s.eport q) ∧ d.counter .macLinkDown p = s.counter .macLinkDown p + 1 ∧
      d.mgt.faults.getLast?.map (fun f => (f.code, f.detail2)) = some (0x0601, mk64 [p, at' (PortState.code st) 8, at' lane 16]) := by
  intro d st
  have hd : d = count .macLinkDown p (restartPort p lane s) := if_pos h
  rw [hd, counter_count_self]
  exact ⟨eport_restartPort p lane s, congrArg (· + 1) (counter_enterPort (by decide) hp _ _ _ _), enterPort_reports h _ _⟩

/-! ### Pauses that the receive buffer calls for (R261) -/

/-- Of the ports, the check changes which priorities this one pauses. -/
theorem eport_pauseCheck (p : Nat) (s : Dev) :
    ∃ m, ∀ q, (pauseCheck p s).eport q = if q = p then { s.eport p with pausingPeer := m } else s.eport q := by
  have hsend (b : Bool) (m : Byte) (n : Nat) (e : Dev) : (whenB b (sendPause p m n) e).eth = e.eth := by cases b <;> rfl
  by_cases hup : (s.eport p).state = .up
  · have heth : ∃ m, (pauseCheck p s).eth = (s.setEport p { s.eport p with pausingPeer := m }).eth := by
      rw [pauseCheck, if_neg (not_not_intro hup), hsend, hsend]
      exact ⟨_, rfl⟩
    obtain ⟨m, hm⟩ := heth
    exact ⟨m, fun q => (eport_of_eth hm q).trans (Dev.eport_setEport s p _ q)⟩
  · refine ⟨(s.eport p).pausingPeer, fun q => ?_⟩
    rw [pauseCheck, if_pos hup]
    split
    · next h => rw [h]
    · rfl

theorem eport_pauseCheck_setEport (p : Nat) (s : Dev) (x : EthPort) :
    ∃ m, ∀ q, (pauseCheck p (s.setEport p x)).eport q = if q = p then { x with pausingPeer := m } else s.eport q := by
  obtain ⟨m, hm⟩ := eport_pauseCheck p (s.setEport p x)
  refine ⟨m, fun q => ?_⟩
  rw [hm, Dev.eport_setEport_self, Dev.eport_setEport]
  split <;> rfl

/-- Where no priority may be paused, nothing is. -/
theorem pauseCheck_none {p : Nat} {s : Dev} (hup : (s.eport p).state = .up) (h : pausable (s.eport p) = []) :
    pauseCheck p s = s.setEport p (s.eport p) := by
  have hnone (m : Byte) : (m ||| prioMask []) &&& ~~~(prioMask []) = m := by
    show (m ||| 0#8) &&& ~~~0#8 = m
    rw [BitVec.or_zero, BitVec.not_zero, BitVec.and_allOnes]
  rw [pauseCheck, if_neg (not_not_intro hup)]
  simp only [h, List.filter_nil, hnone]
  rfl

/-- Lock takes the port to UP; what the receive buffer then calls for changes none of the others, and nothing where no pause is enabled. -/
theorem lockAchieved_locking {p : Nat} {s : Dev} (h : (s.eport p).state = .locking) :
    let up := { s.eport p with state := .up }
    (∃ m, ∀ q, (lockAchieved p s).eport q = if q = p then { up with pausingPeer := m } else s.eport q) ∧
      (pausable (s.eport p) = [] → lockAchieved p s = s.setEport p up) := by
  intro up
  have hlock : lockAchieved p s = pauseCheck p (s.setEport p up) := if_pos h
  have hself : (s.setEport p up).eport p = up := Dev.eport_setEport_self s p up
  refine ⟨by rw [hlock]; exact eport_pauseCheck_setEport p s up, fun hnone => ?_⟩
  rw [hlock, pauseCheck_none (by rw [hself]) (by rw [hself]; exact hnone), hself, setEport_setEport_self]

end Machine
end Sys2Proof
end

section
/-! The port commands (R247, R249, R256, R268 to R270, Table 7-9): their checks in order, and what a recorded change leaves of the ports. -/
namespace Sys2Proof.Machine

/-! ### Checks and records -/

@[simp] theorem checks_cons (b : Bool) (st : Status) (cs : List (Bool × Status)) (k : Dev → Dev × Reply) (s : Dev) :
    checks ((b, st) :: cs) k s = if b then checks cs k s else (s, some (st, [])) := by
  cases b <;> rfl

@[simp] theorem checks_done (k : Dev → Dev × Reply) (s : Dev) : checks [] k s = k s := rfl

/-- Taking a record changes the journal alone. -/
theorem Recorded.eth {sp : CmdSpec} {ch : Nat} {r : Req} {sub : Nat} {ws : List W64} {d e : Dev} (h : Recorded sp ch r sub ws d e) : e.eth = d.eth := by
  obtain ⟨-, -, htake⟩ := h
  unfold jTake at htake
  dsimp only at htake
  split at htake
  · exact (congrArg Dev.eth (Option.some.inj htake)).symm
  · exact absurd htake (by simp)

theorem fld_lt (w : W64) (hi lo : Nat) : fld w hi lo < 2 ^ (hi + 1 - lo) := Nat.mod_lt _ (Nat.two_pow_pos _)

/-- The port number of a command is one of a lane, so the port exists unless its state is NONE. -/
theorem portExists_fld (d : Dev) (w : W64) : d.portExists (fld w 5 0) = decide ((d.eport (fld w 5 0)).state ≠ .none) := by
  simp [Dev.portExists, show fld w 5 0 < 64 from fld_lt w 5 0]

/-! ### PORT_OCTET_MODE (R247, R256) -/

/-- The ports of an octet lie in it, whatever its mode. -/
theorem octetPorts_octet {o m p : Nat} (h : p ∈ octetPorts o m) : p / 8 = o := by
  obtain ⟨j, hj, rfl⟩ := List.mem_map.mp h
  have hlt : j < modePorts m := List.mem_range.mp hj
  have hle : (j + 1) * (8 / modePorts m) ≤ 8 := Nat.le_trans (Nat.mul_le_mul_right _ hlt) (Nat.mul_div_le 8 _)
  rw [Nat.succ_mul] at hle
  have hin : j * (8 / modePorts m) < 8 := by
    rcases Nat.eq_zero_or_pos (8 / modePorts m) with h0 | h0
    · simp [h0]
    · omega
  omega

theorem eth_removePort (s : Dev) (p : Nat) : (removePort s p).eth = ((enterPort p .none 0 s).setEport p EthPort.none).eth := by
  have htrace : ((s.eport p).tx.foldl (fun s k => traceStep (ethIsland p) 9 p k s)
      (countBy .macTxDownDrop p (s.eport p).tx.length (countBy .macRxOverflow p (s.eport p).rx.length (enterPort p .none 0 s)))).eth =
      (enterPort p .none 0 s).eth := foldl_keeps Dev.eth (fun e k => eth_traceStep _ _ _ k e) _ _
  unfold removePort
  simp only [Dev.setEport, htrace]

theorem eport_removePort (s : Dev) (p q : Nat) : (removePort s p).eport q = if q = p then EthPort.none else s.eport q := by
  rw [eport_of_eth (eth_removePort s p), Dev.eport_setEport, eport_enterPort]
  split <;> rfl

/-- A fold that sets one port at each step sets those ports. -/
theorem eport_foldl {g : Dev → Nat → Dev} {y : Nat → EthPort} (h : ∀ s p q, (g s p).eport q = if q = p then y q else s.eport q) (ps : List Nat)
    (s : Dev) (q : Nat) : (ps.foldl g s).eport q = if q ∈ ps then y q else s.eport q := by
  induction ps generalizing s with
  | nil => simp
  | cons p ps ih =>
    rw [List.foldl_cons, ih, h]
    by_cases hp : q = p <;> by_cases hps : q ∈ ps <;> simp [hp, hps]

/-- The ports of a mode are created. -/
def createPorts (m : Nat) (ps : List Nat) (s : Dev) : Dev := ps.foldl (fun s p => s.setEport p (newPort p m)) s

theorem eport_createPorts (m : Nat) (ps : List Nat) (s : Dev) (q : Nat) :
    (createPorts m ps s).eport q = if q ∈ ps then newPort q m else s.eport q :=
  eport_foldl (y := fun q => newPort q m) (fun s p q => (Dev.eport_setEport s p _ q).trans (by by_cases h : q = p <;> simp [h])) ps s q

/-- The octet's ports are those of the new mode, with its defaults; those of the old mode alone are gone (R256). -/
theorem eport_setOctetMode (o m : Nat) (s : Dev) (q : Nat) : (setOctetMode o m s).eport q =
    if q ∈ octetPorts o m then newPort q m else if q ∈ octetPorts o (s.octetMode o) then EthPort.none else s.eport q := by
  rw [← eport_foldl (y := fun _ => EthPort.none) eport_removePort]
  exact eport_createPorts m (octetPorts o m) _ q

theorem octetMode_setOctetMode (o m : Nat) (s : Dev) : (setOctetMode o m s).octetMode o = m := by
  have hmodes (e : Dev) : (createPorts m (octetPorts o m) e).eth.modes = e.eth.modes :=
    foldl_keeps (g := fun s p => s.setEport p (newPort p m)) (fun d => d.eth.modes) (fun _ _ => rfl) _ e
  exact (congrArg (fun x => SMap.get 0 x o) (hmodes _)).trans (SMap.get_put_self 0 _ o m)

/-! ### PORT_CONFIG (R269) -/

/-- The port with new settings, holding no priority paused that they do not let it pause (R261). -/
def withCfg (x : EthPort) (w0 w1 : W64) : EthPort :=
  { x with w0 := w0, w1 := w1, pausingPeer := x.pausingPeer &&& prioMask (pausable { x with w0 := w0, w1 := w1 }) }

/-- PORT_CONFIG changes MEDIUM, FEC or AN_EN (R269). -/
abbrev retrains (x : EthPort) (w0 : W64) : Prop := cfgMedium x ≠ fld w0 10 9 ∨ cfgFec x ≠ fld w0 12 11 ∨ cfgAn x ≠ bit w0 13

/-- ADMIN_UP 0. -/
theorem setPortCfg_down {p : Nat} {w0 : W64} (h : bit w0 8 = false) (w1 : W64) (s : Dev) :
    setPortCfg p w0 w1 s = if (s.eport p).state = .adminDown then s.setEport p (withCfg (s.eport p) w0 w1)
      else enterPort p .adminDown 0 (s.setEport p (withCfg (s.eport p) w0 w1)) := by
  have hadmin : cfgAdmin (withCfg (s.eport p) w0 w1) = false := h
  exact if_pos ((Bool.not_eq_true' _).mpr hadmin)

/-- ADMIN_UP 1. -/
theorem setPortCfg_up {p : Nat} {w0 : W64} (h : bit w0 8 = true) (w1 : W64) (s : Dev) :
    setPortCfg p w0 w1 s = if (s.eport p).state = .adminDown ∨ retrains (s.eport p) w0
      then bringUp p (enterPort p .adminDown 0 (s.setEport p (withCfg (s.eport p) w0 w1)))
      else pauseCheck p (s.setEport p (withCfg (s.eport p) w0 w1)) := by
  have hadmin : cfgAdmin (withCfg (s.eport p) w0 w1) = true := h
  exact if_neg (by rw [Bool.not_eq_true']; exact ne_false_of_eq_true hadmin)

/-- The state to which PORT_CONFIG takes a port (R269, Table 7-3). -/
def cfgState (x : EthPort) (w0 : W64) : PortState :=
  if bit w0 8 = false then .adminDown
  else if x.state = .adminDown ∨ retrains x w0 then (if fld w0 10 9 = 2 then .locking else if bit w0 13 then .negotiating else .training)
  else x.state

theorem cfgState_bringUp {x : EthPort} {w0 : W64} (hadmin : bit w0 8 = true) (h : x.state = .adminDown ∨ retrains x w0) :
    cfgState x w0 = if fld w0 10 9 = 2 then .locking else if bit w0 13 then .negotiating else .training := by
  rw [cfgState, if_neg (ne_false_of_eq_true hadmin), if_pos h]

theorem cfgState_stays {x : EthPort} {w0 : W64} (hadmin : bit w0 8 = true) (hdown : x.state ≠ .adminDown) (h : ¬ retrains x w0) :
    cfgState x w0 = x.state := by
  rw [cfgState, if_neg (ne_false_of_eq_true hadmin), if_neg (not_or.mpr ⟨hdown, h⟩)]

/-- PORT_CONFIG leaves its settings and its state on the port, and every other port alone. -/
theorem setPortCfg_port (p : Nat) (w0 w1 : W64) (s : Dev) :
    ∃ y, (∀ q, (setPortCfg p w0 w1 s).eport q = if q = p then y else s.eport q) ∧ y.w0 = w0 ∧ y.w1 = w1 ∧ y.state = cfgState (s.eport p) w0 := by
  cases hadmin : bit w0 8 with
  | false =>
    rw [setPortCfg_down hadmin, cfgState, if_pos hadmin]
    split
    · next hdown => exact ⟨_, Dev.eport_setEport _ _ _, rfl, rfl, hdown⟩
    · exact ⟨_, eport_enterPort_setEport _ _ _ _ _, rfl, rfl, rfl⟩
  | true =>
    rw [setPortCfg_up hadmin, cfgState, if_neg (ne_false_of_eq_true hadmin)]
    split
    · refine ⟨enteringState (withCfg (s.eport p) w0 w1) (firstState (withCfg (s.eport p) w0 w1)), fun q => ?_, rfl, rfl, rfl⟩
      rw [eport_bringUp, eport_enterPort_setEport, eport_enterPort_setEport, if_pos rfl]
      split <;> rfl
    · obtain ⟨m, hm⟩ := eport_pauseCheck_setEport p s (withCfg (s.eport p) w0 w1)
      exact ⟨_, hm, rfl, rfl, rfl⟩

/-- A port that PORT_CONFIG takes through bring-up from UP is reported as taken down (R254, R269). -/
theorem setPortCfg_reports {p : Nat} {w0 : W64} {s : Dev} (hadmin : bit w0 8 = true) (hre : retrains (s.eport p) w0) (hup : (s.eport p).state = .up)
    (w1 : W64) :
    (setPortCfg p w0 w1 s).mgt.faults.getLast?.map (fun f => (f.code, f.detail2)) = some (0x0601, mk64 [p, at' 1 8]) := by
  rw [setPortCfg_up hadmin, if_pos (.inr hre)]
  exact enterPort_reports (by rw [Dev.eport_setEport_self]; exact hup) _ _

/-! ### PORT_TX_TIMESTAMPS (R270) -/

/-- MAX of PORT_TX_TIMESTAMPS (log 41). -/
def tsMax (w : W64) : Nat := if fld w 13 8 = 0 then 64 else fld w 13 8

theorem tsMax_ne_zero (w : W64) : tsMax w ≠ 0 := by
  unfold tsMax
  split <;> omega

section
variable {ch : Nat} {r : Req} {d : Dev} (hport : (d.eport (fld (r.word 0) 5 0)).state ≠ .none) (haddr : fld (r.word 1) 2 0 = 0)
  (hfree : octetBusy d (fld (r.word 0) 5 0 / 8) = false)
include hport haddr hfree

/-- The buffer takes the oldest entries, and they leave the FIFO. -/
theorem portTxTimestamps_written (hbuf : bufferFault .timeout d ch r = none) :
    let p := fld (r.word 0) 5 0
    let x := d.eport p
    let es := x.tsFifo.take (tsMax (r.word 0))
    portTxTimestamps ch r d = done [BitVec.ofNat 64 es.length]
      (bufferWrite ch (r.word 1) (wordsBytes (es.flatMap (fun e => [e.1, e.2]))) (d.setEport p { x with tsFifo := x.tsFifo.drop (tsMax (r.word 0)) })) := by
  simp [portTxTimestamps, portExists_fld, hport, haddr, hfree, hbuf, tsMax]

/-- Where the buffer cannot be written, only an empty FIFO is answered OK. -/
theorem portTxTimestamps_fault {st : Status} (hbuf : bufferFault .timeout d ch r = some st) :
    portTxTimestamps ch r d = if (d.eport (fld (r.word 0) 5 0)).tsFifo = [] then done [0] d else fail st d := by
  have hmax := tsMax_ne_zero (r.word 0)
  rw [tsMax] at hmax
  simp [portTxTimestamps, portExists_fld, hport, haddr, hfree, hbuf, hmax]

end

/-! ### The obligation -/

/-- Settles O27: each event is its equation in the state it is for and leaves the port alone in another; each command is its checks in order, and its change
is read off the port (`eport_setOctetMode`, `setPortCfg_port`). -/
theorem ethernetPorts : Obligations.EthernetPorts := by
  refine ⟨fun p lane s hp hlane => ?_, fun ch r s d hwf => ⟨fun hacc => ?_, fun hacc => ?_, fun hacc => ?_, fun hacc => ?_, fun hacc hbusy => ?_,
    fun hacc hfree e hrec => ?_⟩⟩
  · have hport : decide (p < 64) = true := decide_eq_true hp
    have hauto (ok : Bool) := becomes_autonegotiationEnd p ok s hport
    have htrain (ok : Bool) := becomes_trainingEnd p ok s hport
    have hlock := becomes_lockAchieved p s hport
    have htimeout := becomes_lockTimeout p s hport
    have hlost := becomes_linkLost p lane s (by simp [Wf.linkLost, hp, hlane])
    refine ⟨fun h => ⟨(hauto true).of_eq (if_pos h), (hauto false).of_eq (if_pos h)⟩,
      fun h => ⟨(htrain true).of_eq (if_pos h), (htrain false).of_eq (if_pos h)⟩, fun h => ⟨?_, htimeout.of_eq (if_pos h)⟩, fun h => ?_,
      fun h => ⟨(hauto true).of_eq (if_neg h), (hauto false).of_eq (if_neg h)⟩,
      fun h => ⟨(htrain true).of_eq (if_neg h), (htrain false).of_eq (if_neg h)⟩, fun h => ⟨hlock.of_eq (if_neg h), htimeout.of_eq (if_neg h)⟩,
      fun h => hlost.of_eq (if_neg h)⟩
    · obtain ⟨⟨m, hm⟩, hnone⟩ := lockAchieved_locking h
      exact hlock.ends ⟨by rw [hm, if_pos rfl], by rw [hm, if_pos rfl], fun q hq => (hm q).trans (if_neg hq), hnone⟩
    · obtain ⟨heport, hcount, hfault⟩ := linkLost_up (lane := lane) (by omega) h
      have hself := (heport p).trans (if_pos rfl)
      refine hlost.ends ?_
      rw [hself]
      exact ⟨rfl, rfl, rfl, rfl, fun q hq => (heport q).trans (if_neg hq), hcount, hfault⟩
  · have hb := becomes_portOctetMode ch r s hwf
    refine ⟨fun hm => hb.of_eq (command_answers hacc ?_), fun hm hbusy => hb.of_eq (command_answers hacc ?_),
      fun hm hfree hsame => hb.of_eq (command_answers hacc ?_), fun hm hfree hnew e hrec => ?_⟩
    · simp [portOctetMode, Nat.not_le.mpr hm]
    · simp [portOctetMode, hm, hbusy]
    · simp [portOctetMode, ← hsame, hm, hfree]
    · have hbody : portOctetMode ch r d = (setOctetMode (fld (r.word 0) 2 0) (fld (r.word 0) 11 8) e, none) := by
        simp [portOctetMode, hm, hfree, hnew, configured_recorded hrec]
      have hmode : e.octetMode (fld (r.word 0) 2 0) = d.octetMode (fld (r.word 0) 2 0) := by rw [Dev.octetMode, hrec.eth, Dev.octetMode]
      have hports := eport_setOctetMode (fld (r.word 0) 2 0) (fld (r.word 0) 11 8) e
      rw [hmode] at hports
      refine (hb.of_eq (command_runs_on hacc hbody)).ends ⟨octetMode_setOctetMode _ _ _, fun p hp => ?_, fun p hp => ?_, fun p hold hp => ?_⟩
      · rw [hports, if_pos hp]
      · rw [hports, if_neg (fun h => hp (octetPorts_octet h)), if_neg (fun h => hp (octetPorts_octet h)), eport_of_eth hrec.eth]
      · rw [hports, if_neg hp, if_pos hold]
  · have hb := becomes_portConfig ch r s hwf
    refine ⟨fun hbad => hb.of_eq (command_answers hacc ?_), fun hok hbusy => hb.of_eq (command_answers hacc ?_), fun hok hfree e hrec => ?_⟩
    · simp [portConfig, hbad]
    · simp [portConfig, hok, hbusy]
    · have hbody : portConfig ch r d = (setPortCfg (fld (r.word 0) 5 0) (r.word 0) (r.word 1) e, none) := by
        simp [portConfig, hok, hfree, configured_recorded hrec]
      have hold := eport_of_eth hrec.eth
      obtain ⟨y, hy, hw0, hw1, hstate⟩ := setPortCfg_port (fld (r.word 0) 5 0) (r.word 0) (r.word 1) e
      rw [hold] at hstate
      have hself := (hy _).trans (if_pos rfl)
      refine (hb.of_eq (command_runs_on hacc hbody)).ends ?_
      rw [hself, hstate]
      refine ⟨hw0, hw1, fun q hq => (hy q).trans ((if_neg hq).trans (hold q)), fun hadmin => if_pos hadmin,
        fun hadmin hdown => cfgState_bringUp hadmin (.inl hdown), fun hadmin hdown hmedium hfec han => cfgState_stays hadmin hdown ?_,
        fun hadmin _ hchanged => ?_⟩
      · rintro (h | h | h)
        · exact h hmedium.symm
        · exact h hfec.symm
        · exact h han.symm
      · have hre : retrains (d.eport (fld (r.word 0) 5 0)) (r.word 0) := hchanged.imp Ne.symm (Or.imp Ne.symm Ne.symm)
        exact ⟨cfgState_bringUp hadmin (.inr hre), fun hup => setPortCfg_reports hadmin (by rw [hold]; exact hre) (by rw [hold]; exact hup) _⟩
  · have hb := becomes_portQuery ch r s hwf
    refine ⟨fun hport hbusy => hb.of_eq (command_answers hacc ?_), fun hport hfree => hb.of_eq (command_answers hacc ?_),
      fun hport => hb.of_eq (command_answers hacc ?_)⟩
    · simp [portQuery, portExists_fld, hport, hbusy]
    · simp [portQuery, portExists_fld, hport, hfree, done]
    · simp [portQuery, portExists_fld, hport]
  · have hb := becomes_portTxTimestamps ch r s hwf
    refine ⟨fun h => hb.of_eq (command_answers hacc ?_), fun hport haddr hbusy => hb.of_eq (command_answers hacc ?_), fun hport haddr hfree =>
      ⟨fun hbuf => hb.of_eq (command_answers hacc (portTxTimestamps_written hport haddr hfree hbuf)), fun st hbuf =>
        ⟨fun hnil => hb.of_eq (command_answers hacc ((portTxTimestamps_fault hport haddr hfree hbuf).trans (if_pos hnil))),
          fun hsome => hb.of_eq (command_answers hacc ((portTxTimestamps_fault hport haddr hfree hbuf).trans (if_neg hsome)))⟩⟩⟩
    · by_cases hport : (d.eport (fld (r.word 0) 5 0)).state = .none
      · simp [portTxTimestamps, portExists_fld, hport]
      · simp [portTxTimestamps, portExists_fld, hport, h.resolve_left hport]
    · simp [portTxTimestamps, portExists_fld, hport, haddr, hbusy]
  · exact (becomes_portLanePolarity ch r s hwf).of_eq (command_answers hacc (by simp [portLanePolarity, hbusy]))
  · exact (becomes_portLanePolarity ch r s hwf).of_eq (command_runs_on hacc (by simp [portLanePolarity, hfree, configured_recorded hrec]))

end Sys2Proof.Machine
end

section
/-! Frames and pauses of an Ethernet port (R257 to R263, R265, Table 7-4). -/
namespace Sys2Proof

/-- One value is written at every key of a list. -/
theorem SMap.get_foldl_put {α : Type} [DecidableEq α] (d x : α) (ks : List Nat) (m : SMap α) (j : Nat) :
    SMap.get d (ks.foldl (fun m k => SMap.put d m k x) m) j = if j ∈ ks then x else SMap.get d m j := by
  induction ks generalizing m with
  | nil => simp
  | cons k ks ih =>
    rw [List.foldl_cons, ih, SMap.get_put]
    by_cases hk : j = k <;> by_cases hks : j ∈ ks <;> simp [hk, hks]

namespace Machine

/-! ### Masks of priorities -/

/-- The sum of the powers of two at the numbers below `n` that `f` picks has those bits, and lies below `2 ^ n`. -/
theorem testBit_sum_two_pow (f : Nat → Bool) (n : Nat) :
    let m := (((List.range n).filter f).map (fun p => 2 ^ p)).sum
    m < 2 ^ n ∧ ∀ k < n, m.testBit k = f k := by
  induction n with
  | zero => simp
  | succ n ih =>
    obtain ⟨hlt, hbit⟩ := ih
    simp only [List.range_succ, List.filter_append, List.map_append, List.sum_append, List.filter_cons, List.filter_nil, Nat.pow_succ]
    generalize (((List.range n).filter f).map (fun p => 2 ^ p)).sum = m at hlt hbit
    cases hf : f n with
    | false =>
      refine ⟨by simp; omega, fun k hk => ?_⟩
      simp only [Bool.false_eq_true, if_false, List.map_nil, List.sum_nil, Nat.add_zero]
      rcases Nat.lt_succ_iff_lt_or_eq.mp hk with hk | rfl
      · exact hbit k hk
      · rw [hf, Nat.testBit_lt_two_pow hlt]
    | true =>
      refine ⟨by simp; omega, fun k hk => ?_⟩
      simp only [if_true, List.map_cons, List.map_nil, List.sum_cons, List.sum_nil, Nat.add_zero, Nat.add_comm m]
      rcases Nat.lt_succ_iff_lt_or_eq.mp hk with hk | rfl
      · rw [Nat.testBit_two_pow_add_gt hk, hbit k hk]
      · rw [Nat.testBit_two_pow_add_eq, Nat.testBit_lt_two_pow hlt, hf]
        rfl

theorem getLsbD_prioMask_filter (f : Nat → Bool) {k : Nat} (hk : k < 8) : (prioMask ((List.range 8).filter f)).getLsbD k = f k := by
  rw [prioMask, BitVec.getLsbD_ofNat, (testBit_sum_two_pow f 8).2 k hk]
  simp [hk]

/-! ### Receiving (R257, R258, Table 7-4) -/

theorem eth_reach (t : Time) (s : Dev) : (reach t s).eth = s.eth := by
  unfold reach
  split <;> rfl

theorem rxDrop_of_eth {s d : Dev} (h : d.eth = s.eth) (p : Nat) (bs : List Byte) (code preamble fcs : Bool) :
    rxDrop d p bs code preamble fcs = rxDrop s p bs code preamble fcs := by
  have hcells : d.rxCells p = s.rxCells p := by simp only [Dev.rxCells, Dev.portLanes, Dev.octetMode, h]
  rw [rxDrop, eport_of_eth h, hcells, rxDrop]

theorem frameReceived_not_up {p : Nat} {s : Dev} (h : (s.eport p).state ≠ .up) (bs : List Byte) (sfd : Time) (code preamble fcs : Bool) :
    frameReceived p bs sfd code preamble fcs s = s :=
  if_pos (by rw [eport_of_eth (eth_reach sfd s)]; exact h)

section
variable {p : Nat} {bs : List Byte} {code preamble fcs : Bool} {s : Dev} (hup : (s.eport p).state = .up) (sfd : Time)
include hup

/-- A frame that meets another condition than overflow is counted in that condition's counter and in MAC_RX_BAD. -/
theorem frameReceived_bad {c : Ctr} (hdrop : rxDrop s p bs code preamble fcs = some c) (hc : c ≠ .macRxOverflow) :
    frameReceived p bs sfd code preamble fcs s = count .macRxBad p (count c p (reach sfd s)) := by
  unfold frameReceived
  simp only [eport_of_eth (eth_reach sfd s), rxDrop_of_eth (eth_reach sfd s), hup, hdrop, ne_eq, not_true, if_false]

theorem frameReceived_overflow (hdrop : rxDrop s p bs code preamble fcs = some .macRxOverflow) :
    frameReceived p bs sfd code preamble fcs s = count .macRxOverflow p (reach sfd s) := by
  unfold frameReceived
  simp only [eport_of_eth (eth_reach sfd s), rxDrop_of_eth (eth_reach sfd s), hup, hdrop, ne_eq, not_true, if_false]

/-- A frame that meets no condition and is no MAC Control frame waits in the receive buffer. -/
theorem frameReceived_kept (hdrop : rxDrop s p bs code preamble fcs = none) (htype : be16 bs 12 ≠ 0x8808) :
    frameReceived p bs sfd code preamble fcs s =
      pauseCheck p ((reach sfd s).setEport p { s.eport p with rx := (s.eport p).rx ++ [(sfd, bs)] }) := by
  unfold frameReceived
  simp only [eport_of_eth (eth_reach sfd s), rxDrop_of_eth (eth_reach sfd s), hup, hdrop, htype, ne_eq, not_true, if_false]

end

/-- The head of the receive buffer goes to the distributor that accepts it; else it waits, and hold space that refuses it is counted once (R259, log 82). -/
theorem frameToDistributor_head {p : Nat} {s : Dev} {sfd : Time} {bs : List Byte} {rest : List (Time × List Byte)}
    (h : (s.eport p).rx = (sfd, bs) :: rest) :
    let x := s.eport p
    let d := if p < 32 then 0 else 1
    let sl := BitVec.ofNat 12 (defaultSlice s p bs)
    let cells := (bs.length + 32 + 255) / 256
    frameToDistributor p s =
      if distAccepts s d (flowHash sl bs) cells then
        pauseCheck p (tagAndQueue d sl p sfd bs id
          (countBy .macRxBytes p (bs.length + 4) (count .macRxFrames p (s.setEport p { x with rx := rest, rxRefused := false }))))
      else if x.rxRefused || !bucketFull s d (flowHash sl bs) cells then s
      else count .distHoldFull d (s.setEport p { x with rxRefused := true }) := by
  simp only [frameToDistributor, h]

/-! ### Pauses of the partner (R260) -/

/-- What a PAUSE makes of the mask of paused priorities. -/
theorem pausedBy_pause (m : Byte) (q : Nat) :
    (m ||| prioMask ((List.range 8).filter (fun _ => decide (q ≠ 0)))) &&& ~~~(prioMask ((List.range 8).filter (fun _ => decide (q = 0)))) =
      if q = 0 then 0 else 0xFF := by
  have hall : prioMask ((List.range 8).filter (fun _ => true)) = BitVec.allOnes 8 := by decide
  have hno : prioMask ((List.range 8).filter (fun _ => false)) = 0#8 := by decide
  by_cases hq : q = 0
  · simp only [hq, ne_eq, not_true_eq_false, decide_true, decide_false, hall, hno, if_true, BitVec.or_zero, BitVec.not_allOnes, BitVec.and_zero]
    rfl
  · simp only [hq, ne_eq, not_false_eq_true, decide_true, decide_false, hall, hno, if_false, BitVec.or_allOnes, BitVec.not_zero, BitVec.and_allOnes]
    rfl

/-- A PAUSE pauses every priority for its quanta, or ends every pause. -/
theorem pauseReceived_pause {p q : Nat} {s : Dev} {qs : List Nat} (hup : (s.eport p).state = .up) (hflow : cfgFlow (s.eport p) = 1)
    (hq : qs.getD 0 0 = q) :
    pauseReceived p false 0 qs s = count .macRxPause p (s.setEport p { s.eport p with
      pausedByPeer := if q = 0 then 0 else 0xFF
      pauseEnd := (List.range 8).foldl (fun m k => SMap.put 0 m k (if q = 0 then 0 else s.now.plus (q * 512 / s.portRate p))) (s.eport p).pauseEnd }) := by
  have hprios : (List.range 8).filter (fun _ => true) = List.range 8 := rfl
  refine (if_pos ⟨hup, hflow⟩).trans ?_
  simp only [Bool.false_eq_true, if_false, hprios, hq, pausedBy_pause]

/-- A pause that runs out ends, with every other that ends at the same time. -/
theorem eport_pauseExpiry {p k : Nat} {s : Dev} (h : (s.eport p).pausedByPeer.getLsbD k = true) :
    let x := s.eport p
    let e := SMap.get 0 x.pauseEnd k
    let ended := (List.range 8).filter (fun j => x.pausedByPeer.getLsbD j && SMap.get 0 x.pauseEnd j == e)
    ∀ j, (pauseExpiry p k s).eport j = if j = p then { x with pausedByPeer := x.pausedByPeer &&& ~~~(prioMask ended)
                                                              pauseEnd := ended.foldl (fun m j => SMap.put 0 m j 0) x.pauseEnd } else s.eport j := by
  intro x e ended j
  rw [pauseExpiry, if_pos h, eport_of_eth (eth_reach _ _), Dev.eport_setEport]

/-! ### Transmitting (R262, R263, R265) -/

theorem padded_keeps (bs : List Byte) : 60 ≤ (padded bs).length ∧ (padded bs).take bs.length = bs := by
  constructor
  · simp only [padded, List.length_append, List.length_replicate]
    omega
  · exact List.take_left' rfl

theorem ptpAct_off {p : Nat} {s : Dev} (h : cfgPtp (s.eport p) = 0) (k : Pkt) : ptpAct p k s = (k.bytes, s) := by
  unfold ptpAct
  simp only [h, if_true]
  split <;> rfl

section
variable {p : Nat} {k : Pkt} {rest : List Pkt} {s : Dev} (htx : (s.eport p).tx = k :: rest) (htrace : k.tag.flag 0 = false) (begun : Bool)
include htx htrace

theorem frameTransmit_down (h : (s.eport p).state ≠ .up) :
    frameTransmit p begun s = count .macTxDownDrop p (s.setEport p { s.eport p with tx := rest }) := by
  simp [frameTransmit, htx, traceStep_untraced htrace, h]

variable (hup : (s.eport p).state = .up)
include hup

/-- A frame with a poisoned block is ended with the inverted FCS where it has begun, and reported either way. -/
theorem frameTransmit_poisoned (h : k.poisoned = true) :
    let stomped := logFault (ethIsland p) 0xFF 0x0602 0 (BitVec.ofNat 64 p) 0 (count .macTxStomped p (s.setEport p { s.eport p with tx := rest }))
    frameTransmit p begun s = if begun then emit (.ethFrame p (padded k.bytes) (~~~(fcsOf (padded k.bytes))) true) stomped else stomped := by
  simp [frameTransmit, htx, traceStep_untraced htrace, hup, h]

theorem frameTransmit_oversize (hgood : k.poisoned = false) (h : cfgMaxFrame (s.eport p) < (padded k.bytes).length + 4) :
    frameTransmit p begun s = count .macTxOversize p (s.setEport p { s.eport p with tx := rest }) := by
  simp [frameTransmit, htx, traceStep_untraced htrace, hup, hgood, h]

theorem frameTransmit_sent (hgood : k.poisoned = false) (hfits : (padded k.bytes).length + 4 ≤ cfgMaxFrame (s.eport p)) (hptp : cfgPtp (s.eport p) = 0) :
    let bs := padded k.bytes
    frameTransmit p begun s = meterPacket k.tag.slice.toNat 8 k.tag (countBy .macTxBytes p (bs.length + 4) (count .macTxFrames p
      (emit (.ethFrame p bs (fcsOf bs) false) (s.setEport p { s.eport p with tx := rest })))) := by
  have hoff : cfgPtp ((s.setEport p { s.eport p with tx := rest }).eport p) = 0 := by
    rw [Dev.eport_setEport_self]
    exact hptp
  simp only [frameTransmit, htx, traceStep_untraced htrace, if_neg (not_not_intro hup), hgood, Bool.false_eq_true, if_false,
    if_neg (Nat.not_lt.mpr hfits), ptpAct_off hoff]

end

/-! ### The obligation -/

/-- Settles O28: a received frame by the first condition that `rxDrop` finds, the head of the buffer by `frameToDistributor_head`, pauses by what they leave
on the port, and a frame for transmission by its case of `frameTransmit`. -/
theorem framesAndPauses : Obligations.FramesAndPauses := by
  refine ⟨fun p bs sfd code preamble fcs s hp hwf => ?_, fun p sfd bs rest s hp hrx => ?_, fun p k qs s hwf hk hup hflow => ?_, fun p k s hp hk => ?_,
    fun p s hp => ?_, fun p begun k rest s hp htx htrace => ?_⟩
  · have hb : Becomes (.ethFrameReceived p bs sfd code preamble fcs []) s (frameReceived p bs sfd code preamble fcs s.dev) :=
      becomes_ethFrameReceived p bs sfd code preamble fcs [] s hwf
    refine ⟨fun h => hb.of_eq (frameReceived_not_up h _ _ _ _ _), fun hup => ?_⟩
    have hbad {c : Ctr} (hc : c ≠ .macRxOverflow) (hdrop : rxDrop s.dev p bs code preamble fcs = some c) := hb.of_eq (frameReceived_bad hup sfd hdrop hc)
    refine ⟨fun h => hbad (by decide) ?_, fun hcode hpre => ⟨fun hrunt => hbad (by decide) ?_, fun hlen hover => hbad (by decide) ?_, fun hlen hmax =>
      ⟨fun hfcs => hbad (by decide) ?_, fun hfcs htype hkind => hbad (by decide) ?_, fun hfcs htype hfull => hb.of_eq (frameReceived_overflow hup sfd ?_),
        fun hfcs htype hfits => hb.of_eq (frameReceived_kept hup sfd ?_ htype)⟩⟩⟩
    · simp [rxDrop, h]
    · simp [rxDrop, hcode, hpre, hrunt]
    · simp [rxDrop, hcode, hpre, Nat.not_lt.mpr hlen, hover]
    · simp [rxDrop, hcode, hpre, Nat.not_lt.mpr hlen, Nat.not_lt.mpr hmax, hfcs]
    · simp [rxDrop, hcode, hpre, Nat.not_lt.mpr hlen, Nat.not_lt.mpr hmax, hfcs, htype, hkind]
    · simp [rxDrop, hcode, hpre, Nat.not_lt.mpr hlen, Nat.not_lt.mpr hmax, hfcs, htype, hfull]
    · simp [rxDrop, hcode, hpre, Nat.not_lt.mpr hlen, Nat.not_lt.mpr hmax, hfcs, htype, Nat.not_lt.mpr hfits]
  · have hb := (becomes_ethFrameToDistributor p s (decide_eq_true hp)).of_eq (frameToDistributor_head hrx)
    refine ⟨fun hok hwait => hb.of_eq ((if_neg (ne_true_of_eq_false hok)).trans (if_pos ?_)),
      fun hok hfirst hfull => hb.of_eq ((if_neg (ne_true_of_eq_false hok)).trans (if_neg ?_)), fun hok => hb.of_eq (if_pos hok)⟩
    · exact (Bool.or_eq_true _ _).mpr (hwait.imp_right (fun hfull => by rw [hfull]; rfl))
    · rw [hfirst, hfull]
      decide
  · have hb := (becomes_pauseFrameReceived p false 0 qs s hwf).of_eq (pauseReceived_pause hup hflow rfl)
    refine hb.ends ⟨?_, counter_count_self _ _ _, fun hq => ?_, fun j hj => (Dev.eport_setEport _ _ _ _).trans (if_neg hj)⟩
    · exact congrArg EthPort.pausedByPeer (Dev.eport_setEport_self _ _ _)
    · refine (congrArg (fun x => SMap.get 0 (EthPort.pauseEnd x) k) (Dev.eport_setEport_self _ _ _)).trans ((SMap.get_foldl_put _ _ _ _ _).trans ?_)
      rw [if_pos (List.mem_range.mpr hk), if_neg hq]
  · have hb := becomes_pauseExpiry p k s (by simp [Wf.pauseExpiry, hp, hk])
    refine ⟨fun h => hb.ends ?_, fun h => hb.of_eq (if_neg (ne_true_of_eq_false h))⟩
    have hport := eport_pauseExpiry h
    refine ⟨?_, fun j hj => (hport j).trans (if_neg hj)⟩
    rw [hport, if_pos rfl, BitVec.getLsbD_and, BitVec.getLsbD_not, getLsbD_prioMask_filter _ hk, h]
    simp
  · have hb := becomes_pauseRefresh p s (decide_eq_true hp)
    exact ⟨fun h => hb.of_eq (if_neg (by simp [h])), fun h => hb.of_eq (if_pos (decide_eq_true h))⟩
  · have hb := becomes_frameTransmit p begun s (decide_eq_true hp)
    exact ⟨padded_keeps _, fun h => hb.of_eq (frameTransmit_down htx htrace begun h),
      fun hup h => hb.of_eq (frameTransmit_poisoned htx htrace begun hup h), fun hup hgood h => hb.of_eq (frameTransmit_oversize htx htrace begun hup hgood h),
      fun hup hgood hfits hptp => hb.of_eq (frameTransmit_sent htx htrace begun hup hgood hfits hptp)⟩

end Machine
end Sys2Proof
end
